-- ==== Sys2Proof/Word.lean ====
section
/-!
DEFINITION. Words: bit fields of natural numbers and two's complement numbers, the plainest arithmetic of the model.
-/
namespace Sys2Proof

/-- One byte. -/
abbrev Byte := BitVec 8

/-- Bits `hi` down to `lo` of a word, as a number (R7). -/
def bits (w hi lo : Nat) : Nat := w / 2 ^ lo % 2 ^ (hi + 1 - lo)

/-- Bit `n` of a word. -/
def bit (w n : Nat) : Bool := w.testBit n

/-- A number of one bit. -/
def b2n (b : Bool) : Nat := if b then 1 else 0

/-- The two's complement value of an `n`-bit word. -/
def toSigned (n w : Nat) : Int :=
  if w % 2 ^ n < 2 ^ (n - 1) then (w % 2 ^ n : Nat) else ((w % 2 ^ n : Nat) : Int) - (2 ^ n : Nat)

/-- The `n`-bit two's complement word of an integer. -/
def ofSigned (n : Nat) (i : Int) : Nat := (i % (2 ^ n : Nat)).toNat

/-- The word with bit `n` set. -/
def setBit (w n : Nat) : Nat := if w.testBit n then w else w + 2 ^ n

/-- The word with bit `n` cleared. -/
def clearBit (w n : Nat) : Nat := if w.testBit n then w - 2 ^ n else w

/-- The word with bit `n` set to a truth value. -/
def putBit (w n : Nat) (b : Bool) : Nat := if b then setBit w n else clearBit w n

/-- The number of ones among the low `n` bits. -/
def popCount (w n : Nat) : Nat := ((List.range n).filter fun k => w.testBit k).length

/-- The lesser of a value and a bound: a counter that saturates. -/
def satTo (bound v : Nat) : Nat := min bound v

/-- An integer clamped between two bounds. -/
def clampInt (lo hi v : Int) : Int := max lo (min hi v)

end Sys2Proof
end

