-- ==== Sys2Proof/Config.lean ====
section
/-!
DEFINITION. What the specification leaves open and the machine still produces: free values, constants without a body, so that no proof can
see what they are. The assumption log names each.
-/
namespace Sys2Proof.Config

/-- The `n`-th free value that a step draws (log entry 5): pseudo-random draws, values a mechanism defines and the specification does not state. -/
opaque freeNat : Nat → Nat

/-- The rounding of a rational result that the specification computes exactly and holds in a finite format: true rounds up (log entry 6). -/
opaque roundUp : Int → Nat → Bool

/-- The conversion of a count of laps of a pace monitor in a time of `ns` nanoseconds to M words/s per lane (R26, log entry 7). -/
opaque paceOf : (laps ns : Nat) → Nat

/-- A sample of the ratio of TIMEOSC to a reference clock (0 REFCLK_A, 1 REFCLK_B) in a microsecond of L time, in units of 2^-32: what the clocks do is not the device's
(R42, log entry 110). -/
opaque oscRatio : (run ref us : Nat) → Nat

/-- The next value of a 32-bit LFSR: the polynomial is not stated (R293, R523; log entry 8). -/
opaque lfsrNext : Nat → Nat

/-- The seed of a 32-bit LFSR from the L time and the device and port numbers: the combination is not stated (R293, R523; log entry 8). -/
opaque lfsrSeed : (lTime dev port : Nat) → Nat

/-- The grade of the device: true for the grade whose junction range ends at 125 °C, false for the one that ends at 110 °C (Table 00-1). Which part is modelled is not stated
(log entry 14). -/
opaque hotGrade : Bool

/-- A byte of a message of the service cores that the specification does not give: message and place (R77, R98, R169, log entry 112). -/
opaque serviceByte : (msg place : Nat) → BitVec 8

/-- clockAccuracy and offsetScaledLogVariance of this device, which the specification does not state (R83, log entry 11). -/
opaque clockQuality : Nat

/-- Identifiers that the text does not give: 0 the vendor ID, 1 the subsystem identifiers of the default identity (R328, R442, log entry 16). -/
opaque pciId : Nat → Nat

/-- SHA-384 (FIPS 180-4) of a byte string, as a number; the specification names the algorithm and does not repeat it (R436, log entry 15). -/
opaque sha384 : List Byte → Nat

/-- The verification of an ECDSA signature over P-384 (FIPS 186-5): public key, digest of the message, signature (R431, R436, log entry 15). -/
opaque ecdsaOk : (key : List Byte) → (digest : Nat) → (sig : List Byte) → Bool

end Sys2Proof.Config
end

