-- ==== Sys2Proof/Machine/Regs.lean ====
section
/-!
DEFINITION. The register file of the QK8128 as the register tables of chapters 01 to 18 give it: one constructor of `Reg` for each register, one constructor of `Fl` for each
field, with its bits, access code, change class and reset value (R10), and the address map of Tables 18-3 to 18-6.
-/
namespace Sys2Proof.Machine

/-- Access codes (R10, Table 00-3). -/
inductive Acc where
  | rw | ro | w1c | wo | rws
deriving DecidableEq, Repr

/-- Change classes (R16, Table 00-5); `none` for a field whose table gives no class. -/
inductive Cls where
  | none | i | b | s | x
deriving DecidableEq, Repr

/-- The blocks that own registers (R9). -/
inductive Blk where
  | DEV | TPL | STRM | MEND | SHTL | SELV | MAC | MDP | HIF | DMA | INTC | BOOT | THIM | PAIR | TAPE
deriving DecidableEq, Repr

/-- One row of a register table: the bits, the access code, the change class and the reset value (R10). -/
structure FieldInfo where
  hi : Nat
  lo : Nat
  acc : Acc
  cls : Cls
  reset : Nat
deriving DecidableEq, Repr

/-- The number of bits of a field. -/
def FieldInfo.width (f : FieldInfo) : Nat := f.hi + 1 - f.lo

/-- The registers, named BLOCK_REGISTER (R9). -/
inductive Reg where
  | DEV_PACE_CTRL
  | DEV_PACE_STATUS
  | DEV_PACE_EVENT
  | TPL_OSC_STATUS
  | TPL_VOTE_STATUS
  | TPL_EVENT
  | TPL_SNAP_CTRL
  | TPL_SNAP_SEC
  | TPL_SNAP_NS
  | TPL_DOM_CFG
  | TPL_DOM_PARAM
  | TPL_DOM_HOLD
  | TPL_DOM_SAMPLE_OFS
  | TPL_DOM_SAMPLE_RATIO
  | TPL_DOM_SET_SEC
  | TPL_DOM_SET_NS
  | TPL_DOM_STATUS
  | TPL_DOM_RATE
  | TPL_PORT_TS
  | TPL_PORT_TS_CFG
  | TPL_OUT_CFG
  | TPL_OUT_START_SEC
  | TPL_OUT_START_NS
  | TPL_OUT_PERIOD
  | TPL_OUT_STATUS
  | TPL_CAP_CFG
  | TPL_CAP_SEC
  | TPL_CAP_NS
  | TPL_DOM_MAP
  | TPL_SYNC_CFG
  | TPL_SYNC_STATUS
  | STRM_CTRL
  | STRM_HASH_SEED
  | STRM_TBL_BASE
  | STRM_DIR_BASE
  | STRM_MISS_CFG
  | STRM_MISS_STATUS
  | STRM_EVENT
  | STRM_SLICE_STATUS
  | STRM_TBL_CMD
  | STRM_TBL_STATUS
  | STRM_TBL_DATA
  | STRM_PORT_ID_CFG
  | STRM_PORT_DEFAULT
  | MEND_CTRL
  | MEND_EVENT
  | MEND_TBL_CMD
  | MEND_TBL_STATUS
  | MEND_TBL_DATA
  | MEND_LAT_LOG
  | MEND_MIRROR_STATUS
  | MEND_PORT_CFG
  | MEND_OWN_ADDR
  | SHTL_BUF_RSV
  | SHTL_BUF_CTRL_RSV
  | SHTL_BUF_STATUS
  | SHTL_BUF_EVENT
  | SHTL_PORT_BUF
  | SHTL_Q_CMD
  | SHTL_Q_CFG
  | SHTL_Q_STAT
  | SHTL_Q_MAX
  | SHTL_GCL_CFG
  | SHTL_GCL_CTRL
  | SHTL_GCL_ADMIN_BASE_SEC
  | SHTL_GCL_ADMIN_BASE_NS
  | SHTL_GCL_ADMIN_CYCLE
  | SHTL_GCL_ADMIN_EXT
  | SHTL_GCL_OPER_BASE_SEC
  | SHTL_GCL_OPER_BASE_NS
  | SHTL_GCL_OPER_CYCLE
  | SHTL_GCL_CHANGE_SEC
  | SHTL_GCL_CHANGE_NS
  | SHTL_GCL_OPER_EXT
  | SHTL_GCL_STATUS
  | SHTL_GCL_EVENT
  | SHTL_GCL_ADMIN
  | SHTL_GCL_OPER
  | SHTL_PORT_SEL
  | SHTL_Q_SHAPE
  | SHTL_Q_SEL
  | SHTL_Q_TOKENS
  | SELV_CTRL
  | SELV_STAGE_CFG
  | SELV_STAGE_STATUS
  | SELV_GRID_STATUS
  | SELV_HEM_CFG
  | SELV_HOLD_CFG
  | SELV_PREEMPT_CFG
  | SELV_PREEMPT_STATUS
  | SELV_GUARD_STATUS
  | SELV_GUARD_ENTRY
  | SELV_EVENT
  | MAC_LANE_CFG
  | MAC_LANE_STATUS
  | MAC_CFG
  | MAC_ADDR
  | MAC_LINK_STATUS
  | MAC_FC_TX_CFG
  | MAC_FC_TX_CMD
  | MAC_TAG_CFG
  | MAC_MD_CFG
  | MAC_PLCA_CFG
  | MAC_MD_STATUS
  | MAC_EVENT
  | MDP_PC_CFG
  | MDP_PC_TIMING
  | MDP_PC_TABLE_CFG
  | MDP_PC_SLOT_ADMIN
  | MDP_PC_SLOT_OPER
  | MDP_PC_STATUS
  | MDP_PC_TABLE_STATUS
  | MDP_PC_PRESENT
  | MDP_PC_DRIFT
  | MDP_EVENT
  | HIF_RING_BASE
  | HIF_RING_CFG
  | HIF_RING_CTRL
  | HIF_RING_STATUS
  | HIF_DOORBELL
  | HIF_CQ_BASE
  | HIF_CQ_CFG
  | HIF_CQ_DB
  | HIF_CQ_STATUS
  | HIF_LEDGER_ADDR
  | HIF_CFG
  | HIF_RX_STORE
  | HIF_EVENT
  | DMA_CTRL
  | DMA_CH_CFG
  | DMA_CH_RATE
  | DMA_CH_WIN
  | DMA_CH_CTRL
  | DMA_CH_DESC
  | DMA_CH_STATUS
  | DMA_CH_POS
  | DMA_PUB_CMD
  | DMA_PUB_STATUS
  | DMA_PUB_DATA
  | DMA_EVENT
  | INTC_CTRL
  | INTC_DRAIN
  | INTC_SRC_CFG
  | INTC_SRC_STATUS
  | INTC_ENABLE
  | INTC_PENDING
  | INTC_PEND_CNT
  | INTC_SW_SET
  | INTC_HOST_EOI
  | INTC_CORE_CFG
  | INTC_CORE_STATUS
  | INTC_CORE_CLAIM
  | INTC_CORE_EOI
  | INTC_EVENT
  | BOOT_STATUS
  | BOOT_CTRL
  | BOOT_REC
  | BOOT_BASTE_CMD
  | BOOT_BASTE_DATA
  | BOOT_BASTE_TIME_SEC
  | BOOT_BASTE_TIME_NS
  | BOOT_BASTE_STATUS
  | BOOT_BASTE_GROUP
  | BOOT_AWT_CMD
  | BOOT_AWT_STATUS
  | BOOT_AWT_DATA
  | BOOT_PROT_GEN
  | BOOT_PF_PRIV
  | BOOT_AWT_DENY_LOG
  | BOOT_NVM_CMD
  | BOOT_NVM_STATUS
  | BOOT_EVENT
  | THIM_CTRL
  | THIM_STATUS
  | THIM_FAULT_LOG
  | THIM_ACK
  | THIM_WDOG
  | THIM_INJECT
  | THIM_DUMP_BASE
  | THIM_LATENT_STATUS
  | THIM_EVENT
  | PAIR_CFG
  | PAIR_STATUS
  | PAIR_DRILL_CFG
  | PAIR_SWAP_CMD
  | PAIR_SWAP_STATUS
  | PAIR_PEER_CMD
  | PAIR_PEER_STATUS
  | PAIR_EVENT
  | TAPE_CNT_CMD
  | TAPE_CNT_STATUS
  | TAPE_CNT_DATA
  | TAPE_CTRL
  | TAPE_TCNT_BASE
  | TAPE_PEC_CFG
  | TAPE_CHALK_CFG
  | TAPE_DUMP_CFG
  | TAPE_OUT_BASE
  | TAPE_OUT_CFG
  | TAPE_OUT_PI
  | TAPE_OUT_CI
  | TAPE_EVENT
  | DEV_TEMP_STATUS
  | DEV_DBG_SEL
deriving DecidableEq, Repr

/-- The fields, named BLOCK_REGISTER_FIELD (R9). -/
inductive Fl where
  | DEV_PACE_CTRL_LOW_THRESH
  | DEV_PACE_CTRL_CLR_LOWEST
  | DEV_PACE_CTRL_LOW_NOTICE_EN
  | DEV_PACE_STATUS_LOWEST
  | DEV_PACE_STATUS_MIN_1US
  | DEV_PACE_STATUS_AVG_1US
  | DEV_PACE_EVENT_FLOOR
  | DEV_PACE_EVENT_LOW
  | TPL_OSC_STATUS_REF_SRC
  | TPL_OSC_STATUS_TPLL1_LOCK
  | TPL_OSC_STATUS_TPLL0_LOCK
  | TPL_OSC_STATUS_FREQ
  | TPL_VOTE_STATUS_EXCL
  | TPL_EVENT_PORT_COPY
  | TPL_EVENT_SNAP_DONE
  | TPL_EVENT_OSC_SWITCH
  | TPL_EVENT_VOTE_EXCLUDE
  | TPL_EVENT_VOTE_REPAIR
  | TPL_EVENT_BAD_CFG
  | TPL_EVENT_CHANGE_REFUSED
  | TPL_SNAP_CTRL_BUSY
  | TPL_SNAP_CTRL_TRIGGER
  | TPL_SNAP_SEC_SEC
  | TPL_SNAP_NS_NS
  | TPL_SNAP_NS_FRAC
  | TPL_DOM_CFG_EN
  | TPL_DOM_CFG_MODE
  | TPL_DOM_CFG_UNLOCK
  | TPL_DOM_CFG_HOLD_AVG_LOG2
  | TPL_DOM_CFG_HOLD_TIMEOUT
  | TPL_DOM_CFG_REACQ_COUNT
  | TPL_DOM_CFG_REACQ_THRESH
  | TPL_DOM_PARAM_KP
  | TPL_DOM_PARAM_KI
  | TPL_DOM_PARAM_T_CORR
  | TPL_DOM_PARAM_SLEW
  | TPL_DOM_PARAM_RATE_LIMIT
  | TPL_DOM_HOLD_RATE_UNC
  | TPL_DOM_HOLD_DRIFT
  | TPL_DOM_SAMPLE_OFS_OFS
  | TPL_DOM_SAMPLE_RATIO_RATIO
  | TPL_DOM_SET_SEC_SEC
  | TPL_DOM_SET_NS_NS
  | TPL_DOM_SET_NS_FRAC
  | TPL_DOM_STATUS_STATE
  | TPL_DOM_STATUS_HOLD_EST
  | TPL_DOM_STATUS_LAST_OFS
  | TPL_DOM_RATE_RATE
  | TPL_PORT_TS_TX_LAT
  | TPL_PORT_TS_RX_LAT
  | TPL_PORT_TS_CFG_LINK_DLY
  | TPL_PORT_TS_CFG_TS_DOM
  | TPL_PORT_TS_CFG_TC_MODE
  | TPL_OUT_CFG_WIDTH
  | TPL_OUT_CFG_DOM
  | TPL_OUT_CFG_COUNT
  | TPL_OUT_CFG_ARM
  | TPL_OUT_CFG_LEAD_ONLY
  | TPL_OUT_CFG_ALIGN_SEC
  | TPL_OUT_CFG_INVERT
  | TPL_OUT_CFG_MODE
  | TPL_OUT_START_SEC_SEC
  | TPL_OUT_START_NS_NS
  | TPL_OUT_START_NS_FRAC
  | TPL_OUT_PERIOD_NS
  | TPL_OUT_PERIOD_FRAC
  | TPL_OUT_STATUS_MISSED
  | TPL_OUT_STATUS_LATE
  | TPL_OUT_STATUS_ACTIVE
  | TPL_CAP_CFG_CABLE_DLY
  | TPL_CAP_CFG_FILTER
  | TPL_CAP_CFG_DOM
  | TPL_CAP_CFG_SERVO_FEED
  | TPL_CAP_CFG_EDGE
  | TPL_CAP_CFG_OVF
  | TPL_CAP_CFG_EN
  | TPL_CAP_SEC_VALID
  | TPL_CAP_SEC_RISE
  | TPL_CAP_SEC_LEVEL
  | TPL_CAP_SEC_SEC
  | TPL_CAP_NS_NS
  | TPL_CAP_NS_FRAC
  | TPL_DOM_MAP_INST
  | TPL_DOM_MAP_TR_L2
  | TPL_DOM_MAP_TR_IP4
  | TPL_DOM_MAP_TR_IP6
  | TPL_DOM_MAP_DELAY
  | TPL_DOM_MAP_STEP_TX
  | TPL_DOM_MAP_SDO_ID
  | TPL_DOM_MAP_DOMAIN_NUMBER
  | TPL_SYNC_CFG_SLB
  | TPL_SYNC_CFG_RESUME_COUNT
  | TPL_SYNC_CFG_REQ_ACQ
  | TPL_SYNC_CFG_GM
  | TPL_SYNC_STATUS_LOST
  | TPL_SYNC_STATUS_IN_SYNC
  | STRM_CTRL_NEG_LIFE
  | STRM_CTRL_DRAMLESS
  | STRM_CTRL_RUN
  | STRM_HASH_SEED_SEED2
  | STRM_HASH_SEED_SEED1
  | STRM_TBL_BASE_BASE
  | STRM_DIR_BASE_BASE
  | STRM_MISS_CFG_PROT_TC
  | STRM_MISS_CFG_RSV_CELLS
  | STRM_MISS_STATUS_HIGH_WATER
  | STRM_MISS_STATUS_PENDING
  | STRM_MISS_STATUS_OCCUPANCY
  | STRM_EVENT_DRAM_ERR
  | STRM_EVENT_ECC_UNCORR
  | STRM_EVENT_ECC_CORR
  | STRM_EVENT_MISS_DROP
  | STRM_EVENT_TBL_COLLIDE
  | STRM_EVENT_TBL_DONE
  | STRM_EVENT_CHANGE_REFUSED
  | STRM_SLICE_STATUS_PINNED
  | STRM_SLICE_STATUS_VALID
  | STRM_TBL_CMD_GO
  | STRM_TBL_CMD_TABLE
  | STRM_TBL_CMD_OP
  | STRM_TBL_CMD_INDEX
  | STRM_TBL_STATUS_BUSY
  | STRM_TBL_STATUS_CODE
  | STRM_TBL_STATUS_INDEX
  | STRM_TBL_DATA_DATA
  | STRM_PORT_ID_CFG_CTRL_LIMIT
  | STRM_PORT_ID_CFG_DEF_PCP
  | STRM_PORT_ID_CFG_PCP_MAP
  | STRM_PORT_ID_CFG_IP_MASK
  | STRM_PORT_ID_CFG_B_EN
  | STRM_PORT_ID_CFG_METHOD_B
  | STRM_PORT_ID_CFG_A_EN
  | STRM_PORT_ID_CFG_METHOD_A
  | STRM_PORT_DEFAULT_DEST
  | STRM_PORT_DEFAULT_METER_EN
  | STRM_PORT_DEFAULT_DP
  | STRM_PORT_DEFAULT_METER
  | MEND_CTRL_LAT_NOTICE_EN
  | MEND_CTRL_MIRROR_EN
  | MEND_CTRL_RUN
  | MEND_EVENT_COPY_NOSEQ
  | MEND_EVENT_MIRROR_DROP
  | MEND_EVENT_MIRROR_STALE
  | MEND_EVENT_LATENT
  | MEND_EVENT_ECC_UNCORR
  | MEND_EVENT_ECC_CORR
  | MEND_EVENT_TBL_COLLIDE
  | MEND_EVENT_TBL_DONE
  | MEND_EVENT_CHANGE_REFUSED
  | MEND_TBL_CMD_GO
  | MEND_TBL_CMD_TABLE
  | MEND_TBL_CMD_OP
  | MEND_TBL_CMD_INDEX
  | MEND_TBL_STATUS_BUSY
  | MEND_TBL_STATUS_CODE
  | MEND_TBL_DATA_DATA
  | MEND_LAT_LOG_VALID
  | MEND_LAT_LOG_OVF
  | MEND_LAT_LOG_FUNC
  | MEND_LAT_LOG_L_MS
  | MEND_MIRROR_STATUS_SNAP_BUSY
  | MEND_MIRROR_STATUS_LINK_OK
  | MEND_MIRROR_STATUS_STALE_COUNT
  | MEND_PORT_CFG_NET_ID
  | MEND_PORT_CFG_LAN
  | MEND_PORT_CFG_HSR_RING
  | MEND_PORT_CFG_PRP_PORT
  | MEND_OWN_ADDR_VALID
  | MEND_OWN_ADDR_ADDR
  | SHTL_BUF_RSV_DP_FRAC1
  | SHTL_BUF_RSV_DP_FRAC2
  | SHTL_BUF_RSV_DP_FRAC3
  | SHTL_BUF_RSV_RUN
  | SHTL_BUF_CTRL_RSV_CTRL_RSV
  | SHTL_BUF_STATUS_SHARED_SIZE
  | SHTL_BUF_STATUS_SHARED_USED
  | SHTL_BUF_STATUS_RSV_USED
  | SHTL_BUF_STATUS_CTRL_USED
  | SHTL_BUF_EVENT_CMD_COLLIDE
  | SHTL_BUF_EVENT_FLUSH_DONE
  | SHTL_BUF_EVENT_ECC_UNCORR
  | SHTL_BUF_EVENT_ECC_CORR
  | SHTL_BUF_EVENT_PRECEDENCE_DROP
  | SHTL_BUF_EVENT_BAD_CFG
  | SHTL_BUF_EVENT_CHANGE_REFUSED
  | SHTL_PORT_BUF_SCHED_RSV
  | SHTL_PORT_BUF_RSV_USED
  | SHTL_Q_CMD_GO
  | SHTL_Q_CMD_OP
  | SHTL_Q_CMD_BUSY
  | SHTL_Q_CMD_ALL
  | SHTL_Q_CMD_QUEUE
  | SHTL_Q_CFG_EN
  | SHTL_Q_CFG_ALPHA
  | SHTL_Q_CFG_MAX_CELLS
  | SHTL_Q_STAT_DEPTH_CELLS
  | SHTL_Q_STAT_DEPTH_FRAMES
  | SHTL_Q_STAT_HEAD_AGE
  | SHTL_Q_MAX_HIGH_CELLS
  | SHTL_Q_MAX_MAX_SOJOURN
  | SHTL_GCL_CFG_SCHED_TC
  | SHTL_GCL_CFG_DOM
  | SHTL_GCL_CFG_ADMIN_LEN
  | SHTL_GCL_CTRL_STOP
  | SHTL_GCL_CTRL_CANCEL
  | SHTL_GCL_CTRL_COMMIT
  | SHTL_GCL_ADMIN_BASE_SEC_SEC
  | SHTL_GCL_ADMIN_BASE_NS_NS
  | SHTL_GCL_ADMIN_BASE_NS_FRAC
  | SHTL_GCL_ADMIN_CYCLE_NS
  | SHTL_GCL_ADMIN_CYCLE_FRAC
  | SHTL_GCL_ADMIN_EXT_EXT
  | SHTL_GCL_OPER_BASE_SEC_SEC
  | SHTL_GCL_OPER_BASE_NS_NS
  | SHTL_GCL_OPER_BASE_NS_FRAC
  | SHTL_GCL_OPER_CYCLE_NS
  | SHTL_GCL_OPER_CYCLE_FRAC
  | SHTL_GCL_CHANGE_SEC_SEC
  | SHTL_GCL_CHANGE_NS_NS
  | SHTL_GCL_CHANGE_NS_FRAC
  | SHTL_GCL_OPER_EXT_EXT
  | SHTL_GCL_STATUS_RUNNING
  | SHTL_GCL_STATUS_PENDING
  | SHTL_GCL_STATUS_OPER_BANK
  | SHTL_GCL_STATUS_HOLD
  | SHTL_GCL_STATUS_GATES
  | SHTL_GCL_STATUS_OPER_LEN
  | SHTL_GCL_STATUS_ENTRY
  | SHTL_GCL_EVENT_MISSED_RESCUE
  | SHTL_GCL_EVENT_STEP_REPOSITION
  | SHTL_GCL_EVENT_COPY_MISMATCH
  | SHTL_GCL_EVENT_CANCEL_REFUSED
  | SHTL_GCL_EVENT_CANCEL_DONE
  | SHTL_GCL_EVENT_SWITCH_DONE
  | SHTL_GCL_EVENT_BAD_CFG
  | SHTL_GCL_EVENT_CHANGE_REFUSED
  | SHTL_GCL_ADMIN_ENTRY
  | SHTL_GCL_OPER_ENTRY
  | SHTL_PORT_SEL_OVH
  | SHTL_Q_SHAPE_EN
  | SHTL_Q_SHAPE_RATE
  | SHTL_Q_SHAPE_BURST
  | SHTL_Q_SEL_URGENT
  | SHTL_Q_SEL_PARKED
  | SHTL_Q_SEL_WEIGHT
  | SHTL_Q_SEL_RESCUE_AGE
  | SHTL_Q_TOKENS_TOKENS
  | SELV_CTRL_RUN
  | SELV_STAGE_CFG_LATE_ACT
  | SELV_STAGE_CFG_LEAD
  | SELV_STAGE_STATUS_BYTES
  | SELV_STAGE_STATUS_FRAMES
  | SELV_GRID_STATUS_LOCKED
  | SELV_GRID_STATUS_SLEWING
  | SELV_GRID_STATUS_STEP_PS
  | SELV_HEM_CFG_HEM
  | SELV_HOLD_CFG_HOLD_ADV
  | SELV_HOLD_CFG_RELEASE_ADV
  | SELV_PREEMPT_CFG_EN
  | SELV_PREEMPT_CFG_VERIFY_DIS
  | SELV_PREEMPT_CFG_ADD_FRAG
  | SELV_PREEMPT_CFG_PREEMPT_TC
  | SELV_PREEMPT_CFG_VERIFY_TIME
  | SELV_PREEMPT_STATUS_VERIFY_STATE
  | SELV_PREEMPT_STATUS_ACTIVE
  | SELV_PREEMPT_STATUS_SEAM_BUSY
  | SELV_PREEMPT_STATUS_ATTEMPTS
  | SELV_GUARD_STATUS_COPY_HOLD
  | SELV_GUARD_STATUS_DOM
  | SELV_GUARD_STATUS_SCHED_TC
  | SELV_GUARD_STATUS_OPEN
  | SELV_GUARD_ENTRY_ENTRY
  | SELV_EVENT_COPY_BLOCK
  | SELV_EVENT_GRID_UNLOCK
  | SELV_EVENT_SEAM_ERR
  | SELV_EVENT_VERIFY_OK
  | SELV_EVENT_VERIFY_FAIL
  | SELV_EVENT_GUARD_CUT
  | SELV_EVENT_GUARD_BLOCK
  | SELV_EVENT_STORE_FULL
  | SELV_EVENT_LATE
  | SELV_EVENT_CHANGE_REFUSED
  | MAC_LANE_CFG_MODE
  | MAC_LANE_CFG_FEC
  | MAC_LANE_CFG_TX_POL
  | MAC_LANE_CFG_RX_POL
  | MAC_LANE_CFG_LOOP
  | MAC_LANE_CFG_TX_MAIN
  | MAC_LANE_CFG_TX_PRE
  | MAC_LANE_CFG_TX_POST
  | MAC_LANE_STATUS_FEC_LOCK
  | MAC_LANE_STATUS_HI_BER
  | MAC_LANE_STATUS_BLOCK_LOCK
  | MAC_LANE_STATUS_CDR_LOCK
  | MAC_LANE_STATUS_SIGNAL
  | MAC_CFG_EN
  | MAC_CFG_AN_EN
  | MAC_CFG_FC_RX
  | MAC_CFG_DOWN_ACT
  | MAC_CFG_MAX_LEN
  | MAC_CFG_UP_HOLD
  | MAC_CFG_DOWN_FILTER
  | MAC_ADDR_ADDR
  | MAC_LINK_STATUS_STATE
  | MAC_LINK_STATUS_SPEED
  | MAC_LINK_STATUS_LF
  | MAC_LINK_STATUS_RF
  | MAC_LINK_STATUS_PAUSE_RX_OK
  | MAC_LINK_STATUS_PAUSE_TX_OK
  | MAC_LINK_STATUS_PAUSED
  | MAC_LINK_STATUS_PARTNER
  | MAC_FC_TX_CFG_MODE
  | MAC_FC_TX_CFG_CLASSES
  | MAC_FC_TX_CFG_QUANTA
  | MAC_FC_TX_CFG_XOFF_FRAC
  | MAC_FC_TX_CFG_XON_FRAC
  | MAC_FC_TX_CMD_GO
  | MAC_FC_TX_CMD_XON
  | MAC_FC_TX_CMD_CLASSES
  | MAC_FC_TX_CMD_QUANTA
  | MAC_TAG_CFG_PUSH_TPID
  | MAC_TAG_CFG_UNTAG_EN
  | MAC_TAG_CFG_UNTAG_VID
  | MAC_MD_CFG_PHY_EN
  | MAC_MD_CFG_MODE
  | MAC_PLCA_CFG_NODE_ID
  | MAC_PLCA_CFG_NODE_COUNT
  | MAC_PLCA_CFG_TO_TIMER
  | MAC_PLCA_CFG_BURST_CNT
  | MAC_PLCA_CFG_BURST_TIMER
  | MAC_PLCA_CFG_BEACON_LOSS
  | MAC_MD_STATUS_PLCA_OK
  | MAC_MD_STATUS_LINE_FAULT
  | MAC_MD_STATUS_ATTEMPTS
  | MAC_EVENT_BAD_CFG
  | MAC_EVENT_PLCA_LOST
  | MAC_EVENT_EXCESS_COLL
  | MAC_EVENT_LATE_COLL
  | MAC_EVENT_LINE_FAULT
  | MAC_EVENT_PFC_IGNORED
  | MAC_EVENT_AN_REFUSED
  | MAC_EVENT_REMOTE_FAULT
  | MAC_EVENT_LINK_DOWN
  | MAC_EVENT_LINK_UP
  | MAC_EVENT_CHANGE_REFUSED
  | MDP_PC_CFG_EN
  | MDP_PC_CFG_MASTER_CAP
  | MDP_PC_CFG_TIME_FEED
  | MDP_PC_CFG_FALLBACK
  | MDP_PC_CFG_NODE_ID
  | MDP_PC_CFG_SEG_ID
  | MDP_PC_CFG_RANK
  | MDP_PC_CFG_ACC_WIN
  | MDP_PC_CFG_RESP_WIN
  | MDP_PC_CFG_LISTEN_CYCLES
  | MDP_PC_CFG_MISS_LIMIT
  | MDP_PC_CFG_CLAIM_SPREAD
  | MDP_PC_TIMING_MAX_PROP
  | MDP_PC_TIMING_DRIFT_LIMIT
  | MDP_PC_TIMING_PROP_DLY
  | MDP_PC_TABLE_CFG_ADMIN_TABLE_ID
  | MDP_PC_TABLE_CFG_ADMIN_LEN
  | MDP_PC_SLOT_ADMIN_ENTRY
  | MDP_PC_SLOT_OPER_ENTRY
  | MDP_PC_STATUS_STATE
  | MDP_PC_STATUS_RX_IN_SYNC
  | MDP_PC_STATUS_ORIGIN
  | MDP_PC_STATUS_STALE
  | MDP_PC_STATUS_CYCLE
  | MDP_PC_TABLE_STATUS_OPER_TABLE_ID
  | MDP_PC_TABLE_STATUS_MISSED
  | MDP_PC_TABLE_STATUS_OPER_LEN
  | MDP_PC_PRESENT_NODES
  | MDP_PC_DRIFT_NODES
  | MDP_EVENT_TAKEOVER
  | MDP_EVENT_REINTEGRATE
  | MDP_EVENT_MISMATCH
  | MDP_EVENT_COLLISION
  | MDP_EVENT_DRIFT
  | MDP_EVENT_WINDOW_MISS
  | MDP_EVENT_DUAL_MASTER
  | MDP_EVENT_MASTER_LOST
  | MDP_EVENT_MASTER_UP
  | MDP_EVENT_BAD_TABLE
  | MDP_EVENT_CHANGE_REFUSED
  | HIF_RING_BASE_BASE
  | HIF_RING_CFG_PF
  | HIF_RING_CFG_SIZE_LOG2
  | HIF_RING_CFG_COMP
  | HIF_RING_CFG_NO_SNOOP
  | HIF_RING_CFG_NOTIFY
  | HIF_RING_CFG_KEEP_FCS
  | HIF_RING_CFG_CQ
  | HIF_RING_CFG_LEDGER
  | HIF_RING_CFG_RX_HOLD
  | HIF_RING_CFG_RX_WAIT
  | HIF_RING_CTRL_RESET
  | HIF_RING_CTRL_STOP
  | HIF_RING_CTRL_START
  | HIF_RING_STATUS_STATE
  | HIF_RING_STATUS_ERR
  | HIF_RING_STATUS_ERR_SEEN
  | HIF_RING_STATUS_ERR_IDX
  | HIF_RING_STATUS_CI
  | HIF_DOORBELL_PI
  | HIF_CQ_BASE_BASE
  | HIF_CQ_CFG_EN
  | HIF_CQ_CFG_PF
  | HIF_CQ_CFG_SIZE_LOG2
  | HIF_CQ_CFG_NO_SNOOP
  | HIF_CQ_CFG_SRC
  | HIF_CQ_CFG_MOD_TIME
  | HIF_CQ_CFG_MOD_COUNT
  | HIF_CQ_DB_ARM
  | HIF_CQ_DB_CI
  | HIF_CQ_STATUS_FULL
  | HIF_CQ_STATUS_ARMED
  | HIF_CQ_STATUS_HELD
  | HIF_CQ_STATUS_PI
  | HIF_LEDGER_ADDR_ADDR
  | HIF_CFG_RO_EN
  | HIF_CFG_LEDGER_HOLDOFF
  | HIF_RX_STORE_HIGH
  | HIF_RX_STORE_USED
  | HIF_EVENT_LINK_DOWN
  | HIF_EVENT_FLR
  | HIF_EVENT_DB_IGNORED
  | HIF_EVENT_TRUNCATED
  | HIF_EVENT_RX_DROP
  | HIF_EVENT_RING_ERR
  | HIF_EVENT_CQ_FULL
  | HIF_EVENT_MALFORMED
  | HIF_EVENT_BAD_CFG
  | HIF_EVENT_CHANGE_REFUSED
  | DMA_CTRL_PCIE_LIMIT
  | DMA_CTRL_DRAM_LIMIT
  | DMA_CTRL_PUB_RUN
  | DMA_CTRL_RUN
  | DMA_CH_CFG_PF
  | DMA_CH_CFG_PRIO
  | DMA_CH_CFG_DESC_NS
  | DMA_CH_CFG_RETRY_COUNT
  | DMA_CH_CFG_CQ
  | DMA_CH_CFG_CHAIN_LIMIT
  | DMA_CH_RATE_RATE
  | DMA_CH_RATE_BURST
  | DMA_CH_WIN_DRAM_BASE
  | DMA_CH_WIN_DRAM_LIMIT
  | DMA_CH_WIN_LOCAL_BASE
  | DMA_CH_WIN_LOCAL_LIMIT
  | DMA_CH_WIN_WIN_EN
  | DMA_CH_CTRL_RESET
  | DMA_CH_CTRL_STOP
  | DMA_CH_CTRL_START
  | DMA_CH_DESC_ADDR
  | DMA_CH_DESC_SPACE
  | DMA_CH_STATUS_STATE
  | DMA_CH_STATUS_HALT
  | DMA_CH_STATUS_WAIT_CQ
  | DMA_CH_STATUS_WAIT_TOK
  | DMA_CH_STATUS_PREEMPTED
  | DMA_CH_STATUS_HOPS
  | DMA_CH_POS_I2
  | DMA_CH_POS_I1
  | DMA_CH_POS_I0
  | DMA_PUB_CMD_GO
  | DMA_PUB_CMD_OP
  | DMA_PUB_CMD_INDEX
  | DMA_PUB_STATUS_BUSY
  | DMA_PUB_STATUS_CODE
  | DMA_PUB_DATA_DATA
  | DMA_EVENT_PUB_COLLIDE
  | DMA_EVENT_PUB_DONE
  | DMA_EVENT_PUB_TORN
  | DMA_EVENT_PUB_LOSS
  | DMA_EVENT_MALFORMED
  | DMA_EVENT_BUS_ERR
  | DMA_EVENT_LOOP
  | DMA_EVENT_BAD_CFG
  | DMA_EVENT_CHANGE_REFUSED
  | INTC_CTRL_EN
  | INTC_CTRL_FALLBACK
  | INTC_SRC_CFG_TKIND
  | INTC_SRC_CFG_TRIGGER
  | INTC_SRC_CFG_PRIO
  | INTC_SRC_CFG_TARGET
  | INTC_SRC_STATUS_DSTATE
  | INTC_SRC_STATUS_LEVEL
  | INTC_SRC_STATUS_PEND
  | INTC_SRC_STATUS_HOLDER
  | INTC_ENABLE_EN
  | INTC_PENDING_PEND
  | INTC_PEND_CNT_COUNT
  | INTC_SW_SET_SOURCE
  | INTC_HOST_EOI_ID
  | INTC_CORE_CFG_EN
  | INTC_CORE_CFG_THRESH
  | INTC_CORE_STATUS_STATE
  | INTC_CORE_STATUS_MASK
  | INTC_CORE_STATUS_ACTIVE
  | INTC_CORE_STATUS_RUN_PRIO
  | INTC_CORE_STATUS_DELIVERED
  | INTC_CORE_CLAIM_ID
  | INTC_CORE_EOI_ID
  | INTC_EVENT_NO_TARGET
  | INTC_EVENT_FALLBACK
  | INTC_EVENT_BAD_EOI
  | INTC_EVENT_BAD_CFG
  | BOOT_STATUS_STATE
  | BOOT_STATUS_STEP
  | BOOT_STATUS_SLOT
  | BOOT_STATUS_ACQ_SHORT
  | BOOT_STATUS_REC_FAIL
  | BOOT_STATUS_SKIP
  | BOOT_STATUS_ALT
  | BOOT_STATUS_BLOCKED
  | BOOT_STATUS_DEV_ID
  | BOOT_CTRL_KEY
  | BOOT_CTRL_PREF_SLOT
  | BOOT_CTRL_CLEAR_MARKS
  | BOOT_CTRL_CLEAR_FAILS
  | BOOT_CTRL_RESET
  | BOOT_REC_DATA
  | BOOT_BASTE_CMD_GO
  | BOOT_BASTE_CMD_OP
  | BOOT_BASTE_CMD_GROUP
  | BOOT_BASTE_CMD_DOM
  | BOOT_BASTE_CMD_WIDTH
  | BOOT_BASTE_CMD_ADDR
  | BOOT_BASTE_DATA_DATA
  | BOOT_BASTE_TIME_SEC_SEC
  | BOOT_BASTE_TIME_NS_NS
  | BOOT_BASTE_STATUS_BUSY
  | BOOT_BASTE_STATUS_PEEK_VALID
  | BOOT_BASTE_STATUS_CODE
  | BOOT_BASTE_STATUS_FREE
  | BOOT_BASTE_GROUP_STATE
  | BOOT_BASTE_GROUP_COUNT
  | BOOT_BASTE_GROUP_FAIL_ADDR
  | BOOT_AWT_CMD_GO
  | BOOT_AWT_CMD_OP
  | BOOT_AWT_CMD_INDEX
  | BOOT_AWT_STATUS_BUSY
  | BOOT_AWT_STATUS_CODE
  | BOOT_AWT_DATA_DATA
  | BOOT_PROT_GEN_GEN
  | BOOT_PF_PRIV_LEVEL
  | BOOT_AWT_DENY_LOG_VALID
  | BOOT_AWT_DENY_LOG_PF
  | BOOT_AWT_DENY_LOG_WRITE
  | BOOT_AWT_DENY_LOG_BAR
  | BOOT_AWT_DENY_LOG_OFFSET
  | BOOT_NVM_CMD_GO
  | BOOT_NVM_CMD_OP
  | BOOT_NVM_CMD_KEY_SLOT
  | BOOT_NVM_CMD_SECTOR
  | BOOT_NVM_STATUS_BUSY
  | BOOT_NVM_STATUS_CODE
  | BOOT_EVENT_NVM_ERR
  | BOOT_EVENT_NVM_DONE
  | BOOT_EVENT_AWT_DENY
  | BOOT_EVENT_LATE_COMMIT
  | BOOT_EVENT_GROUP_WARN
  | BOOT_EVENT_GROUP_FAIL
  | BOOT_EVENT_GROUP_DONE
  | BOOT_EVENT_BASTE_COLLIDE
  | BOOT_EVENT_BASTE_REFUSED
  | THIM_CTRL_RESTART
  | THIM_CTRL_RESTART_MAX
  | THIM_CTRL_RESTART_DELAY
  | THIM_CTRL_SWAP_ON_DEGRADED
  | THIM_CTRL_LATENT_INT
  | THIM_STATUS_HANDLING
  | THIM_STATUS_QUEUED
  | THIM_STATUS_LOST
  | THIM_STATUS_DUMP
  | THIM_STATUS_WORST
  | THIM_STATUS_RESTART_CNT
  | THIM_FAULT_LOG_RECORD
  | THIM_ACK_SEV
  | THIM_WDOG_KEY
  | THIM_INJECT_GO
  | THIM_INJECT_SM
  | THIM_DUMP_BASE_SPACE
  | THIM_DUMP_BASE_ADDR
  | THIM_LATENT_STATUS_LAST_S
  | THIM_LATENT_STATUS_FAILED
  | THIM_EVENT_BAD_CFG
  | THIM_EVENT_DUMP_DONE
  | THIM_EVENT_LATENT_FAIL
  | THIM_EVENT_LOG_OVF
  | THIM_EVENT_DEGRADED
  | THIM_EVENT_NOTICE
  | PAIR_CFG_EN
  | PAIR_CFG_SWAP_DOM
  | PAIR_CFG_GM_DOMAINS
  | PAIR_CFG_MDP_LEAD
  | PAIR_STATUS_ROLE
  | PAIR_STATUS_PEER
  | PAIR_STATUS_TOKEN_IN
  | PAIR_STATUS_TOKEN_DRV
  | PAIR_STATUS_FS_IN
  | PAIR_STATUS_BEAT_OK
  | PAIR_STATUS_PL1_OK
  | PAIR_STATUS_PL0_OK
  | PAIR_STATUS_SIDE
  | PAIR_STATUS_PEER_ID
  | PAIR_STATUS_PEER_STATE
  | PAIR_STATUS_PEER_WORST
  | PAIR_DRILL_CFG_PERIOD
  | PAIR_DRILL_CFG_LEAD_MS
  | PAIR_SWAP_CMD_GO
  | PAIR_SWAP_STATUS_PENDING
  | PAIR_SWAP_STATUS_RESULT
  | PAIR_SWAP_STATUS_POSTPONED
  | PAIR_SWAP_STATUS_DRILLS
  | PAIR_SWAP_STATUS_T_MS
  | PAIR_PEER_CMD_GO
  | PAIR_PEER_CMD_OP
  | PAIR_PEER_CMD_PAGE
  | PAIR_PEER_STATUS_BUSY
  | PAIR_PEER_STATUS_CODE
  | PAIR_EVENT_MIRROR_MISMATCH
  | PAIR_EVENT_LANE_DOWN
  | PAIR_EVENT_TOKEN_FAULT
  | PAIR_EVENT_PEER_UNKNOWN
  | PAIR_EVENT_PEER_LOST
  | PAIR_EVENT_SWAP_POSTPONED
  | PAIR_EVENT_SWAP_DONE
  | PAIR_EVENT_TAKEOVER
  | PAIR_EVENT_BAD_CFG
  | PAIR_EVENT_CHANGE_REFUSED
  | TAPE_CNT_CMD_GO
  | TAPE_CNT_CMD_OP
  | TAPE_CNT_CMD_GROUP
  | TAPE_CNT_CMD_ALL
  | TAPE_CNT_CMD_INDEX
  | TAPE_CNT_STATUS_BUSY
  | TAPE_CNT_STATUS_CODE
  | TAPE_CNT_DATA_WORD
  | TAPE_CTRL_HOST_CHALK_EN
  | TAPE_CTRL_HOST_K
  | TAPE_CTRL_CHALK_RUN
  | TAPE_TCNT_BASE_EN
  | TAPE_TCNT_BASE_BASE
  | TAPE_PEC_CFG_EN
  | TAPE_PEC_CFG_MODE
  | TAPE_PEC_CFG_EVENT
  | TAPE_PEC_CFG_TC_MASK
  | TAPE_PEC_CFG_QUAL
  | TAPE_PEC_CFG_QUAL_EN
  | TAPE_CHALK_CFG_EN
  | TAPE_CHALK_CFG_K
  | TAPE_DUMP_CFG_EN
  | TAPE_DUMP_CFG_DOM
  | TAPE_DUMP_CFG_BOLT_MASK
  | TAPE_DUMP_CFG_SEL
  | TAPE_DUMP_CFG_PERIOD
  | TAPE_OUT_BASE_BASE
  | TAPE_OUT_CFG_SPACE
  | TAPE_OUT_CFG_PF
  | TAPE_OUT_CFG_WRAP
  | TAPE_OUT_CFG_NO_SNOOP
  | TAPE_OUT_CFG_SIZE_LOG2
  | TAPE_OUT_PI_PI
  | TAPE_OUT_CI_CI
  | TAPE_EVENT_CNT_DONE
  | TAPE_EVENT_OVF
  | TAPE_EVENT_CHALK_LOST
  | TAPE_EVENT_OUT_LOST
  | TAPE_EVENT_DUMP_SKIP
  | TAPE_EVENT_BAD_CFG
  | TAPE_EVENT_CHANGE_REFUSED
  | DEV_TEMP_STATUS_VALID
  | DEV_TEMP_STATUS_IGNORED
  | DEV_TEMP_STATUS_TEMP
  | DEV_DBG_SEL_BOLT
deriving DecidableEq, Repr

/-- Bits, access, class and reset of every field, as its register table gives them. -/
def Fl.info : Fl → FieldInfo
  | .DEV_PACE_CTRL_LOW_THRESH => ⟨27, 16, .rw, .i, 480⟩
  | .DEV_PACE_CTRL_CLR_LOWEST => ⟨1, 1, .wo, .i, 0⟩
  | .DEV_PACE_CTRL_LOW_NOTICE_EN => ⟨0, 0, .rw, .i, 1⟩
  | .DEV_PACE_STATUS_LOWEST => ⟨43, 32, .ro, .none, 4095⟩
  | .DEV_PACE_STATUS_MIN_1US => ⟨23, 12, .ro, .none, 0⟩
  | .DEV_PACE_STATUS_AVG_1US => ⟨11, 0, .ro, .none, 0⟩
  | .DEV_PACE_EVENT_FLOOR => ⟨15, 8, .w1c, .i, 0⟩
  | .DEV_PACE_EVENT_LOW => ⟨7, 0, .w1c, .i, 0⟩
  | .TPL_OSC_STATUS_REF_SRC => ⟨7, 6, .ro, .none, 0⟩
  | .TPL_OSC_STATUS_TPLL1_LOCK => ⟨5, 5, .ro, .none, 0⟩
  | .TPL_OSC_STATUS_TPLL0_LOCK => ⟨4, 4, .ro, .none, 0⟩
  | .TPL_OSC_STATUS_FREQ => ⟨1, 0, .ro, .none, 0⟩
  | .TPL_VOTE_STATUS_EXCL => ⟨17, 0, .ro, .none, 0⟩
  | .TPL_EVENT_PORT_COPY => ⟨6, 6, .w1c, .i, 0⟩
  | .TPL_EVENT_SNAP_DONE => ⟨5, 5, .w1c, .i, 0⟩
  | .TPL_EVENT_OSC_SWITCH => ⟨4, 4, .w1c, .i, 0⟩
  | .TPL_EVENT_VOTE_EXCLUDE => ⟨3, 3, .w1c, .i, 0⟩
  | .TPL_EVENT_VOTE_REPAIR => ⟨2, 2, .w1c, .i, 0⟩
  | .TPL_EVENT_BAD_CFG => ⟨1, 1, .w1c, .i, 0⟩
  | .TPL_EVENT_CHANGE_REFUSED => ⟨0, 0, .w1c, .i, 0⟩
  | .TPL_SNAP_CTRL_BUSY => ⟨1, 1, .ro, .none, 0⟩
  | .TPL_SNAP_CTRL_TRIGGER => ⟨0, 0, .wo, .i, 0⟩
  | .TPL_SNAP_SEC_SEC => ⟨47, 0, .ro, .none, 0⟩
  | .TPL_SNAP_NS_NS => ⟨47, 16, .ro, .none, 0⟩
  | .TPL_SNAP_NS_FRAC => ⟨15, 0, .ro, .none, 0⟩
  | .TPL_DOM_CFG_EN => ⟨31, 31, .rw, .i, 0⟩
  | .TPL_DOM_CFG_MODE => ⟨30, 30, .rw, .x, 0⟩
  | .TPL_DOM_CFG_UNLOCK => ⟨29, 29, .wo, .i, 0⟩
  | .TPL_DOM_CFG_HOLD_AVG_LOG2 => ⟨27, 24, .rw, .i, 6⟩
  | .TPL_DOM_CFG_HOLD_TIMEOUT => ⟨23, 16, .rw, .i, 24⟩
  | .TPL_DOM_CFG_REACQ_COUNT => ⟨15, 12, .rw, .i, 3⟩
  | .TPL_DOM_CFG_REACQ_THRESH => ⟨11, 0, .rw, .i, 250⟩
  | .TPL_DOM_PARAM_KP => ⟨63, 48, .rw, .i, 32768⟩
  | .TPL_DOM_PARAM_KI => ⟨47, 32, .rw, .i, 8192⟩
  | .TPL_DOM_PARAM_T_CORR => ⟨31, 24, .rw, .i, 8⟩
  | .TPL_DOM_PARAM_SLEW => ⟨23, 12, .rw, .i, 40⟩
  | .TPL_DOM_PARAM_RATE_LIMIT => ⟨11, 0, .rw, .i, 200⟩
  | .TPL_DOM_HOLD_RATE_UNC => ⟨31, 16, .rw, .i, 512⟩
  | .TPL_DOM_HOLD_DRIFT => ⟨15, 0, .rw, .i, 410⟩
  | .TPL_DOM_SAMPLE_OFS_OFS => ⟨63, 0, .wo, .i, 0⟩
  | .TPL_DOM_SAMPLE_RATIO_RATIO => ⟨31, 0, .rw, .i, 0⟩
  | .TPL_DOM_SET_SEC_SEC => ⟨47, 0, .rw, .x, 0⟩
  | .TPL_DOM_SET_NS_NS => ⟨47, 16, .rw, .x, 0⟩
  | .TPL_DOM_SET_NS_FRAC => ⟨15, 0, .rw, .x, 0⟩
  | .TPL_DOM_STATUS_STATE => ⟨63, 61, .ro, .none, 0⟩
  | .TPL_DOM_STATUS_HOLD_EST => ⟨55, 32, .ro, .none, 0⟩
  | .TPL_DOM_STATUS_LAST_OFS => ⟨31, 0, .ro, .none, 0⟩
  | .TPL_DOM_RATE_RATE => ⟨31, 0, .ro, .none, 0⟩
  | .TPL_PORT_TS_TX_LAT => ⟨63, 32, .rw, .b, 0⟩
  | .TPL_PORT_TS_RX_LAT => ⟨31, 0, .rw, .b, 0⟩
  | .TPL_PORT_TS_CFG_LINK_DLY => ⟨63, 32, .rw, .i, 0⟩
  | .TPL_PORT_TS_CFG_TS_DOM => ⟨5, 3, .rw, .b, 0⟩
  | .TPL_PORT_TS_CFG_TC_MODE => ⟨1, 0, .rw, .b, 0⟩
  | .TPL_OUT_CFG_WIDTH => ⟨63, 32, .rw, .b, 100⟩
  | .TPL_OUT_CFG_DOM => ⟨26, 24, .rw, .x, 0⟩
  | .TPL_OUT_CFG_COUNT => ⟨23, 8, .rw, .x, 0⟩
  | .TPL_OUT_CFG_ARM => ⟨7, 7, .rw, .i, 0⟩
  | .TPL_OUT_CFG_LEAD_ONLY => ⟨6, 6, .rw, .x, 0⟩
  | .TPL_OUT_CFG_ALIGN_SEC => ⟨5, 5, .rw, .x, 0⟩
  | .TPL_OUT_CFG_INVERT => ⟨4, 4, .rw, .x, 0⟩
  | .TPL_OUT_CFG_MODE => ⟨1, 0, .rw, .x, 0⟩
  | .TPL_OUT_START_SEC_SEC => ⟨47, 0, .rw, .x, 0⟩
  | .TPL_OUT_START_NS_NS => ⟨47, 16, .rw, .x, 0⟩
  | .TPL_OUT_START_NS_FRAC => ⟨15, 0, .rw, .x, 0⟩
  | .TPL_OUT_PERIOD_NS => ⟨47, 16, .rw, .x, 0⟩
  | .TPL_OUT_PERIOD_FRAC => ⟨15, 0, .rw, .x, 0⟩
  | .TPL_OUT_STATUS_MISSED => ⟨31, 16, .ro, .none, 0⟩
  | .TPL_OUT_STATUS_LATE => ⟨1, 1, .w1c, .i, 0⟩
  | .TPL_OUT_STATUS_ACTIVE => ⟨0, 0, .ro, .none, 0⟩
  | .TPL_CAP_CFG_CABLE_DLY => ⟨31, 16, .rw, .i, 0⟩
  | .TPL_CAP_CFG_FILTER => ⟨15, 8, .rw, .x, 0⟩
  | .TPL_CAP_CFG_DOM => ⟨7, 5, .rw, .x, 0⟩
  | .TPL_CAP_CFG_SERVO_FEED => ⟨4, 4, .rw, .i, 0⟩
  | .TPL_CAP_CFG_EDGE => ⟨3, 2, .rw, .x, 1⟩
  | .TPL_CAP_CFG_OVF => ⟨1, 1, .w1c, .i, 0⟩
  | .TPL_CAP_CFG_EN => ⟨0, 0, .rw, .i, 0⟩
  | .TPL_CAP_SEC_VALID => ⟨63, 63, .ro, .none, 0⟩
  | .TPL_CAP_SEC_RISE => ⟨62, 62, .ro, .none, 0⟩
  | .TPL_CAP_SEC_LEVEL => ⟨59, 56, .ro, .none, 0⟩
  | .TPL_CAP_SEC_SEC => ⟨47, 0, .ro, .none, 0⟩
  | .TPL_CAP_NS_NS => ⟨47, 16, .ro, .none, 0⟩
  | .TPL_CAP_NS_FRAC => ⟨15, 0, .ro, .none, 0⟩
  | .TPL_DOM_MAP_INST => ⟨31, 30, .rw, .x, 0⟩
  | .TPL_DOM_MAP_TR_L2 => ⟨29, 29, .rw, .x, 1⟩
  | .TPL_DOM_MAP_TR_IP4 => ⟨28, 28, .rw, .x, 0⟩
  | .TPL_DOM_MAP_TR_IP6 => ⟨27, 27, .rw, .x, 0⟩
  | .TPL_DOM_MAP_DELAY => ⟨25, 25, .rw, .x, 0⟩
  | .TPL_DOM_MAP_STEP_TX => ⟨24, 24, .rw, .x, 0⟩
  | .TPL_DOM_MAP_SDO_ID => ⟨23, 12, .rw, .x, 256⟩
  | .TPL_DOM_MAP_DOMAIN_NUMBER => ⟨7, 0, .rw, .x, 0⟩
  | .TPL_SYNC_CFG_SLB => ⟨31, 16, .rw, .i, 250⟩
  | .TPL_SYNC_CFG_RESUME_COUNT => ⟨15, 12, .rw, .i, 4⟩
  | .TPL_SYNC_CFG_REQ_ACQ => ⟨1, 1, .rw, .i, 0⟩
  | .TPL_SYNC_CFG_GM => ⟨0, 0, .rw, .i, 0⟩
  | .TPL_SYNC_STATUS_LOST => ⟨15, 8, .w1c, .i, 0⟩
  | .TPL_SYNC_STATUS_IN_SYNC => ⟨7, 0, .ro, .none, 0⟩
  | .STRM_CTRL_NEG_LIFE => ⟨27, 16, .rw, .i, 1000⟩
  | .STRM_CTRL_DRAMLESS => ⟨1, 1, .ro, .none, 0⟩
  | .STRM_CTRL_RUN => ⟨0, 0, .rw, .i, 0⟩
  | .STRM_HASH_SEED_SEED2 => ⟨63, 32, .rw, .x, 0⟩
  | .STRM_HASH_SEED_SEED1 => ⟨31, 0, .rw, .x, 0⟩
  | .STRM_TBL_BASE_BASE => ⟨35, 30, .rw, .x, 0⟩
  | .STRM_DIR_BASE_BASE => ⟨35, 29, .rw, .x, 0⟩
  | .STRM_MISS_CFG_PROT_TC => ⟨31, 24, .rw, .i, 224⟩
  | .STRM_MISS_CFG_RSV_CELLS => ⟨14, 0, .rw, .i, 2048⟩
  | .STRM_MISS_STATUS_HIGH_WATER => ⟨46, 32, .ro, .none, 0⟩
  | .STRM_MISS_STATUS_PENDING => ⟨30, 16, .ro, .none, 0⟩
  | .STRM_MISS_STATUS_OCCUPANCY => ⟨14, 0, .ro, .none, 0⟩
  | .STRM_EVENT_DRAM_ERR => ⟨6, 6, .w1c, .i, 0⟩
  | .STRM_EVENT_ECC_UNCORR => ⟨5, 5, .w1c, .i, 0⟩
  | .STRM_EVENT_ECC_CORR => ⟨4, 4, .w1c, .i, 0⟩
  | .STRM_EVENT_MISS_DROP => ⟨3, 3, .w1c, .i, 0⟩
  | .STRM_EVENT_TBL_COLLIDE => ⟨2, 2, .w1c, .i, 0⟩
  | .STRM_EVENT_TBL_DONE => ⟨1, 1, .w1c, .i, 0⟩
  | .STRM_EVENT_CHANGE_REFUSED => ⟨0, 0, .w1c, .i, 0⟩
  | .STRM_SLICE_STATUS_PINNED => ⟨30, 16, .ro, .none, 0⟩
  | .STRM_SLICE_STATUS_VALID => ⟨15, 0, .ro, .none, 0⟩
  | .STRM_TBL_CMD_GO => ⟨63, 63, .wo, .i, 0⟩
  | .STRM_TBL_CMD_TABLE => ⟨62, 60, .rw, .i, 0⟩
  | .STRM_TBL_CMD_OP => ⟨59, 56, .rw, .i, 0⟩
  | .STRM_TBL_CMD_INDEX => ⟨23, 0, .rw, .i, 0⟩
  | .STRM_TBL_STATUS_BUSY => ⟨31, 31, .ro, .none, 0⟩
  | .STRM_TBL_STATUS_CODE => ⟨27, 24, .ro, .none, 0⟩
  | .STRM_TBL_STATUS_INDEX => ⟨23, 0, .ro, .none, 0⟩
  | .STRM_TBL_DATA_DATA => ⟨63, 0, .rw, .i, 0⟩
  | .STRM_PORT_ID_CFG_CTRL_LIMIT => ⟨63, 48, .rw, .i, 20⟩
  | .STRM_PORT_ID_CFG_DEF_PCP => ⟨42, 40, .rw, .b, 0⟩
  | .STRM_PORT_ID_CFG_PCP_MAP => ⟨39, 16, .rw, .b, 16434824⟩
  | .STRM_PORT_ID_CFG_IP_MASK => ⟨14, 8, .rw, .b, 127⟩
  | .STRM_PORT_ID_CFG_B_EN => ⟨7, 7, .rw, .b, 0⟩
  | .STRM_PORT_ID_CFG_METHOD_B => ⟨6, 4, .rw, .b, 0⟩
  | .STRM_PORT_ID_CFG_A_EN => ⟨3, 3, .rw, .b, 0⟩
  | .STRM_PORT_ID_CFG_METHOD_A => ⟨2, 0, .rw, .b, 0⟩
  | .STRM_PORT_DEFAULT_DEST => ⟨63, 48, .rw, .b, 49152⟩
  | .STRM_PORT_DEFAULT_METER_EN => ⟨47, 47, .rw, .b, 0⟩
  | .STRM_PORT_DEFAULT_DP => ⟨46, 45, .rw, .b, 0⟩
  | .STRM_PORT_DEFAULT_METER => ⟨17, 0, .rw, .b, 0⟩
  | .MEND_CTRL_LAT_NOTICE_EN => ⟨2, 2, .rw, .i, 1⟩
  | .MEND_CTRL_MIRROR_EN => ⟨1, 1, .rw, .i, 0⟩
  | .MEND_CTRL_RUN => ⟨0, 0, .rw, .i, 0⟩
  | .MEND_EVENT_COPY_NOSEQ => ⟨8, 8, .w1c, .i, 0⟩
  | .MEND_EVENT_MIRROR_DROP => ⟨7, 7, .w1c, .i, 0⟩
  | .MEND_EVENT_MIRROR_STALE => ⟨6, 6, .w1c, .i, 0⟩
  | .MEND_EVENT_LATENT => ⟨5, 5, .w1c, .i, 0⟩
  | .MEND_EVENT_ECC_UNCORR => ⟨4, 4, .w1c, .i, 0⟩
  | .MEND_EVENT_ECC_CORR => ⟨3, 3, .w1c, .i, 0⟩
  | .MEND_EVENT_TBL_COLLIDE => ⟨2, 2, .w1c, .i, 0⟩
  | .MEND_EVENT_TBL_DONE => ⟨1, 1, .w1c, .i, 0⟩
  | .MEND_EVENT_CHANGE_REFUSED => ⟨0, 0, .w1c, .i, 0⟩
  | .MEND_TBL_CMD_GO => ⟨63, 63, .wo, .i, 0⟩
  | .MEND_TBL_CMD_TABLE => ⟨62, 60, .rw, .i, 0⟩
  | .MEND_TBL_CMD_OP => ⟨59, 56, .rw, .i, 0⟩
  | .MEND_TBL_CMD_INDEX => ⟨17, 0, .rw, .i, 0⟩
  | .MEND_TBL_STATUS_BUSY => ⟨31, 31, .ro, .none, 0⟩
  | .MEND_TBL_STATUS_CODE => ⟨27, 24, .ro, .none, 0⟩
  | .MEND_TBL_DATA_DATA => ⟨63, 0, .rw, .i, 0⟩
  | .MEND_LAT_LOG_VALID => ⟨63, 63, .ro, .none, 0⟩
  | .MEND_LAT_LOG_OVF => ⟨62, 62, .ro, .none, 0⟩
  | .MEND_LAT_LOG_FUNC => ⟨49, 32, .ro, .none, 0⟩
  | .MEND_LAT_LOG_L_MS => ⟨31, 0, .ro, .none, 0⟩
  | .MEND_MIRROR_STATUS_SNAP_BUSY => ⟨31, 31, .ro, .none, 0⟩
  | .MEND_MIRROR_STATUS_LINK_OK => ⟨30, 30, .ro, .none, 0⟩
  | .MEND_MIRROR_STATUS_STALE_COUNT => ⟨19, 0, .ro, .none, 0⟩
  | .MEND_PORT_CFG_NET_ID => ⟨27, 25, .rw, .b, 0⟩
  | .MEND_PORT_CFG_LAN => ⟨24, 24, .rw, .b, 0⟩
  | .MEND_PORT_CFG_HSR_RING => ⟨23, 23, .rw, .b, 0⟩
  | .MEND_PORT_CFG_PRP_PORT => ⟨22, 22, .rw, .b, 0⟩
  | .MEND_OWN_ADDR_VALID => ⟨63, 63, .rw, .i, 0⟩
  | .MEND_OWN_ADDR_ADDR => ⟨47, 0, .rw, .i, 0⟩
  | .SHTL_BUF_RSV_DP_FRAC1 => ⟨30, 24, .rw, .i, 56⟩
  | .SHTL_BUF_RSV_DP_FRAC2 => ⟨22, 16, .rw, .i, 48⟩
  | .SHTL_BUF_RSV_DP_FRAC3 => ⟨14, 8, .rw, .i, 40⟩
  | .SHTL_BUF_RSV_RUN => ⟨0, 0, .rw, .i, 0⟩
  | .SHTL_BUF_CTRL_RSV_CTRL_RSV => ⟨15, 0, .rw, .x, 256⟩
  | .SHTL_BUF_STATUS_SHARED_SIZE => ⟨63, 48, .ro, .none, 32512⟩
  | .SHTL_BUF_STATUS_SHARED_USED => ⟨47, 32, .ro, .none, 0⟩
  | .SHTL_BUF_STATUS_RSV_USED => ⟨31, 16, .ro, .none, 0⟩
  | .SHTL_BUF_STATUS_CTRL_USED => ⟨15, 0, .ro, .none, 0⟩
  | .SHTL_BUF_EVENT_CMD_COLLIDE => ⟨6, 6, .w1c, .i, 0⟩
  | .SHTL_BUF_EVENT_FLUSH_DONE => ⟨5, 5, .w1c, .i, 0⟩
  | .SHTL_BUF_EVENT_ECC_UNCORR => ⟨4, 4, .w1c, .i, 0⟩
  | .SHTL_BUF_EVENT_ECC_CORR => ⟨3, 3, .w1c, .i, 0⟩
  | .SHTL_BUF_EVENT_PRECEDENCE_DROP => ⟨2, 2, .w1c, .i, 0⟩
  | .SHTL_BUF_EVENT_BAD_CFG => ⟨1, 1, .w1c, .i, 0⟩
  | .SHTL_BUF_EVENT_CHANGE_REFUSED => ⟨0, 0, .w1c, .i, 0⟩
  | .SHTL_PORT_BUF_SCHED_RSV => ⟨31, 16, .rw, .x, 0⟩
  | .SHTL_PORT_BUF_RSV_USED => ⟨15, 0, .ro, .none, 0⟩
  | .SHTL_Q_CMD_GO => ⟨31, 31, .wo, .i, 0⟩
  | .SHTL_Q_CMD_OP => ⟨30, 28, .rw, .i, 0⟩
  | .SHTL_Q_CMD_BUSY => ⟨27, 27, .ro, .none, 0⟩
  | .SHTL_Q_CMD_ALL => ⟨7, 7, .rw, .i, 0⟩
  | .SHTL_Q_CMD_QUEUE => ⟨6, 0, .rw, .i, 0⟩
  | .SHTL_Q_CFG_EN => ⟨31, 31, .rw, .i, 1⟩
  | .SHTL_Q_CFG_ALPHA => ⟨26, 24, .rw, .i, 4⟩
  | .SHTL_Q_CFG_MAX_CELLS => ⟨15, 0, .rw, .i, 32768⟩
  | .SHTL_Q_STAT_DEPTH_CELLS => ⟨63, 48, .ro, .none, 0⟩
  | .SHTL_Q_STAT_DEPTH_FRAMES => ⟨47, 32, .ro, .none, 0⟩
  | .SHTL_Q_STAT_HEAD_AGE => ⟨31, 0, .ro, .none, 0⟩
  | .SHTL_Q_MAX_HIGH_CELLS => ⟨63, 48, .ro, .none, 0⟩
  | .SHTL_Q_MAX_MAX_SOJOURN => ⟨31, 0, .ro, .none, 0⟩
  | .SHTL_GCL_CFG_SCHED_TC => ⟨31, 24, .rw, .x, 0⟩
  | .SHTL_GCL_CFG_DOM => ⟨18, 16, .rw, .x, 0⟩
  | .SHTL_GCL_CFG_ADMIN_LEN => ⟨10, 0, .rw, .i, 1⟩
  | .SHTL_GCL_CTRL_STOP => ⟨2, 2, .wo, .b, 0⟩
  | .SHTL_GCL_CTRL_CANCEL => ⟨1, 1, .wo, .i, 0⟩
  | .SHTL_GCL_CTRL_COMMIT => ⟨0, 0, .wo, .s, 0⟩
  | .SHTL_GCL_ADMIN_BASE_SEC_SEC => ⟨47, 0, .rw, .i, 0⟩
  | .SHTL_GCL_ADMIN_BASE_NS_NS => ⟨47, 16, .rw, .i, 0⟩
  | .SHTL_GCL_ADMIN_BASE_NS_FRAC => ⟨15, 0, .rw, .i, 0⟩
  | .SHTL_GCL_ADMIN_CYCLE_NS => ⟨47, 16, .rw, .i, 0⟩
  | .SHTL_GCL_ADMIN_CYCLE_FRAC => ⟨15, 0, .rw, .i, 0⟩
  | .SHTL_GCL_ADMIN_EXT_EXT => ⟨31, 0, .rw, .i, 0⟩
  | .SHTL_GCL_OPER_BASE_SEC_SEC => ⟨47, 0, .ro, .none, 0⟩
  | .SHTL_GCL_OPER_BASE_NS_NS => ⟨47, 16, .ro, .none, 0⟩
  | .SHTL_GCL_OPER_BASE_NS_FRAC => ⟨15, 0, .ro, .none, 0⟩
  | .SHTL_GCL_OPER_CYCLE_NS => ⟨47, 16, .ro, .none, 0⟩
  | .SHTL_GCL_OPER_CYCLE_FRAC => ⟨15, 0, .ro, .none, 0⟩
  | .SHTL_GCL_CHANGE_SEC_SEC => ⟨47, 0, .ro, .none, 0⟩
  | .SHTL_GCL_CHANGE_NS_NS => ⟨47, 16, .ro, .none, 0⟩
  | .SHTL_GCL_CHANGE_NS_FRAC => ⟨15, 0, .ro, .none, 0⟩
  | .SHTL_GCL_OPER_EXT_EXT => ⟨31, 0, .ro, .none, 0⟩
  | .SHTL_GCL_STATUS_RUNNING => ⟨63, 63, .ro, .none, 0⟩
  | .SHTL_GCL_STATUS_PENDING => ⟨62, 62, .ro, .none, 0⟩
  | .SHTL_GCL_STATUS_OPER_BANK => ⟨61, 61, .ro, .none, 0⟩
  | .SHTL_GCL_STATUS_HOLD => ⟨60, 60, .ro, .none, 0⟩
  | .SHTL_GCL_STATUS_GATES => ⟨55, 48, .ro, .none, 0⟩
  | .SHTL_GCL_STATUS_OPER_LEN => ⟨42, 32, .ro, .none, 0⟩
  | .SHTL_GCL_STATUS_ENTRY => ⟨9, 0, .ro, .none, 0⟩
  | .SHTL_GCL_EVENT_MISSED_RESCUE => ⟨7, 7, .w1c, .i, 0⟩
  | .SHTL_GCL_EVENT_STEP_REPOSITION => ⟨6, 6, .w1c, .i, 0⟩
  | .SHTL_GCL_EVENT_COPY_MISMATCH => ⟨5, 5, .w1c, .i, 0⟩
  | .SHTL_GCL_EVENT_CANCEL_REFUSED => ⟨4, 4, .w1c, .i, 0⟩
  | .SHTL_GCL_EVENT_CANCEL_DONE => ⟨3, 3, .w1c, .i, 0⟩
  | .SHTL_GCL_EVENT_SWITCH_DONE => ⟨2, 2, .w1c, .i, 0⟩
  | .SHTL_GCL_EVENT_BAD_CFG => ⟨1, 1, .w1c, .i, 0⟩
  | .SHTL_GCL_EVENT_CHANGE_REFUSED => ⟨0, 0, .w1c, .i, 0⟩
  | .SHTL_GCL_ADMIN_ENTRY => ⟨63, 0, .rw, .i, 0⟩
  | .SHTL_GCL_OPER_ENTRY => ⟨63, 0, .ro, .none, 0⟩
  | .SHTL_PORT_SEL_OVH => ⟨5, 0, .rw, .b, 20⟩
  | .SHTL_Q_SHAPE_EN => ⟨63, 63, .rw, .i, 0⟩
  | .SHTL_Q_SHAPE_RATE => ⟨53, 32, .rw, .i, 0⟩
  | .SHTL_Q_SHAPE_BURST => ⟨23, 0, .rw, .i, 0⟩
  | .SHTL_Q_SEL_URGENT => ⟨31, 31, .ro, .none, 0⟩
  | .SHTL_Q_SEL_PARKED => ⟨30, 30, .ro, .none, 0⟩
  | .SHTL_Q_SEL_WEIGHT => ⟨23, 16, .rw, .b, 1⟩
  | .SHTL_Q_SEL_RESCUE_AGE => ⟨15, 0, .rw, .i, 0⟩
  | .SHTL_Q_TOKENS_TOKENS => ⟨63, 16, .ro, .none, 0⟩
  | .SELV_CTRL_RUN => ⟨0, 0, .rw, .i, 0⟩
  | .SELV_STAGE_CFG_LATE_ACT => ⟨31, 31, .rw, .i, 0⟩
  | .SELV_STAGE_CFG_LEAD => ⟨9, 0, .rw, .x, 32⟩
  | .SELV_STAGE_STATUS_BYTES => ⟨31, 16, .ro, .none, 0⟩
  | .SELV_STAGE_STATUS_FRAMES => ⟨7, 0, .ro, .none, 0⟩
  | .SELV_GRID_STATUS_LOCKED => ⟨31, 31, .ro, .none, 0⟩
  | .SELV_GRID_STATUS_SLEWING => ⟨30, 30, .ro, .none, 0⟩
  | .SELV_GRID_STATUS_STEP_PS => ⟨15, 0, .ro, .none, 0⟩
  | .SELV_HEM_CFG_HEM => ⟨15, 0, .rw, .b, 0⟩
  | .SELV_HOLD_CFG_HOLD_ADV => ⟨31, 16, .rw, .b, 0⟩
  | .SELV_HOLD_CFG_RELEASE_ADV => ⟨15, 0, .rw, .b, 0⟩
  | .SELV_PREEMPT_CFG_EN => ⟨31, 31, .rw, .x, 0⟩
  | .SELV_PREEMPT_CFG_VERIFY_DIS => ⟨30, 30, .rw, .x, 0⟩
  | .SELV_PREEMPT_CFG_ADD_FRAG => ⟨29, 28, .rw, .x, 0⟩
  | .SELV_PREEMPT_CFG_PREEMPT_TC => ⟨23, 16, .rw, .x, 0⟩
  | .SELV_PREEMPT_CFG_VERIFY_TIME => ⟨15, 8, .rw, .i, 10⟩
  | .SELV_PREEMPT_STATUS_VERIFY_STATE => ⟨6, 4, .ro, .none, 0⟩
  | .SELV_PREEMPT_STATUS_ACTIVE => ⟨3, 3, .ro, .none, 0⟩
  | .SELV_PREEMPT_STATUS_SEAM_BUSY => ⟨2, 2, .ro, .none, 0⟩
  | .SELV_PREEMPT_STATUS_ATTEMPTS => ⟨1, 0, .ro, .none, 0⟩
  | .SELV_GUARD_STATUS_COPY_HOLD => ⟨31, 31, .ro, .none, 0⟩
  | .SELV_GUARD_STATUS_DOM => ⟨26, 24, .ro, .none, 0⟩
  | .SELV_GUARD_STATUS_SCHED_TC => ⟨23, 16, .ro, .none, 0⟩
  | .SELV_GUARD_STATUS_OPEN => ⟨7, 0, .ro, .none, 0⟩
  | .SELV_GUARD_ENTRY_ENTRY => ⟨63, 0, .ro, .none, 0⟩
  | .SELV_EVENT_COPY_BLOCK => ⟨9, 9, .w1c, .i, 0⟩
  | .SELV_EVENT_GRID_UNLOCK => ⟨8, 8, .w1c, .i, 0⟩
  | .SELV_EVENT_SEAM_ERR => ⟨7, 7, .w1c, .i, 0⟩
  | .SELV_EVENT_VERIFY_OK => ⟨6, 6, .w1c, .i, 0⟩
  | .SELV_EVENT_VERIFY_FAIL => ⟨5, 5, .w1c, .i, 0⟩
  | .SELV_EVENT_GUARD_CUT => ⟨4, 4, .w1c, .i, 0⟩
  | .SELV_EVENT_GUARD_BLOCK => ⟨3, 3, .w1c, .i, 0⟩
  | .SELV_EVENT_STORE_FULL => ⟨2, 2, .w1c, .i, 0⟩
  | .SELV_EVENT_LATE => ⟨1, 1, .w1c, .i, 0⟩
  | .SELV_EVENT_CHANGE_REFUSED => ⟨0, 0, .w1c, .i, 0⟩
  | .MAC_LANE_CFG_MODE => ⟨31, 29, .rw, .x, 0⟩
  | .MAC_LANE_CFG_FEC => ⟨28, 27, .rw, .x, 0⟩
  | .MAC_LANE_CFG_TX_POL => ⟨26, 26, .rw, .x, 0⟩
  | .MAC_LANE_CFG_RX_POL => ⟨25, 25, .rw, .x, 0⟩
  | .MAC_LANE_CFG_LOOP => ⟨24, 23, .rw, .x, 0⟩
  | .MAC_LANE_CFG_TX_MAIN => ⟨17, 12, .rw, .i, 48⟩
  | .MAC_LANE_CFG_TX_PRE => ⟨11, 6, .rw, .i, 4⟩
  | .MAC_LANE_CFG_TX_POST => ⟨5, 0, .rw, .i, 12⟩
  | .MAC_LANE_STATUS_FEC_LOCK => ⟨4, 4, .ro, .none, 0⟩
  | .MAC_LANE_STATUS_HI_BER => ⟨3, 3, .ro, .none, 0⟩
  | .MAC_LANE_STATUS_BLOCK_LOCK => ⟨2, 2, .ro, .none, 0⟩
  | .MAC_LANE_STATUS_CDR_LOCK => ⟨1, 1, .ro, .none, 0⟩
  | .MAC_LANE_STATUS_SIGNAL => ⟨0, 0, .ro, .none, 0⟩
  | .MAC_CFG_EN => ⟨63, 63, .rw, .i, 0⟩
  | .MAC_CFG_AN_EN => ⟨62, 62, .rw, .x, 1⟩
  | .MAC_CFG_FC_RX => ⟨61, 60, .rw, .x, 0⟩
  | .MAC_CFG_DOWN_ACT => ⟨59, 59, .rw, .i, 1⟩
  | .MAC_CFG_MAX_LEN => ⟨45, 32, .rw, .b, 9216⟩
  | .MAC_CFG_UP_HOLD => ⟨31, 24, .rw, .i, 10⟩
  | .MAC_CFG_DOWN_FILTER => ⟨23, 16, .rw, .i, 10⟩
  | .MAC_ADDR_ADDR => ⟨47, 0, .rw, .i, 0⟩
  | .MAC_LINK_STATUS_STATE => ⟨63, 61, .ro, .none, 0⟩
  | .MAC_LINK_STATUS_SPEED => ⟨60, 58, .ro, .none, 0⟩
  | .MAC_LINK_STATUS_LF => ⟨57, 57, .ro, .none, 0⟩
  | .MAC_LINK_STATUS_RF => ⟨56, 56, .ro, .none, 0⟩
  | .MAC_LINK_STATUS_PAUSE_RX_OK => ⟨55, 55, .ro, .none, 0⟩
  | .MAC_LINK_STATUS_PAUSE_TX_OK => ⟨54, 54, .ro, .none, 0⟩
  | .MAC_LINK_STATUS_PAUSED => ⟨47, 40, .ro, .none, 0⟩
  | .MAC_LINK_STATUS_PARTNER => ⟨31, 16, .ro, .none, 0⟩
  | .MAC_FC_TX_CFG_MODE => ⟨63, 62, .rw, .x, 0⟩
  | .MAC_FC_TX_CFG_CLASSES => ⟨55, 48, .rw, .i, 0⟩
  | .MAC_FC_TX_CFG_QUANTA => ⟨47, 32, .rw, .i, 65535⟩
  | .MAC_FC_TX_CFG_XOFF_FRAC => ⟨30, 24, .rw, .i, 56⟩
  | .MAC_FC_TX_CFG_XON_FRAC => ⟨22, 16, .rw, .i, 48⟩
  | .MAC_FC_TX_CMD_GO => ⟨31, 31, .wo, .i, 0⟩
  | .MAC_FC_TX_CMD_XON => ⟨30, 30, .wo, .i, 0⟩
  | .MAC_FC_TX_CMD_CLASSES => ⟨23, 16, .wo, .i, 0⟩
  | .MAC_FC_TX_CMD_QUANTA => ⟨15, 0, .wo, .i, 0⟩
  | .MAC_TAG_CFG_PUSH_TPID => ⟨31, 31, .rw, .b, 0⟩
  | .MAC_TAG_CFG_UNTAG_EN => ⟨12, 12, .rw, .b, 0⟩
  | .MAC_TAG_CFG_UNTAG_VID => ⟨11, 0, .rw, .b, 0⟩
  | .MAC_MD_CFG_PHY_EN => ⟨31, 31, .rw, .x, 0⟩
  | .MAC_MD_CFG_MODE => ⟨30, 29, .rw, .x, 0⟩
  | .MAC_PLCA_CFG_NODE_ID => ⟨55, 48, .rw, .x, 255⟩
  | .MAC_PLCA_CFG_NODE_COUNT => ⟨47, 40, .rw, .x, 8⟩
  | .MAC_PLCA_CFG_TO_TIMER => ⟨39, 32, .rw, .x, 32⟩
  | .MAC_PLCA_CFG_BURST_CNT => ⟨31, 24, .rw, .x, 0⟩
  | .MAC_PLCA_CFG_BURST_TIMER => ⟨23, 16, .rw, .x, 128⟩
  | .MAC_PLCA_CFG_BEACON_LOSS => ⟨7, 0, .rw, .i, 20⟩
  | .MAC_MD_STATUS_PLCA_OK => ⟨31, 31, .ro, .none, 0⟩
  | .MAC_MD_STATUS_LINE_FAULT => ⟨30, 30, .ro, .none, 0⟩
  | .MAC_MD_STATUS_ATTEMPTS => ⟨4, 0, .ro, .none, 0⟩
  | .MAC_EVENT_BAD_CFG => ⟨10, 10, .w1c, .i, 0⟩
  | .MAC_EVENT_PLCA_LOST => ⟨9, 9, .w1c, .i, 0⟩
  | .MAC_EVENT_EXCESS_COLL => ⟨8, 8, .w1c, .i, 0⟩
  | .MAC_EVENT_LATE_COLL => ⟨7, 7, .w1c, .i, 0⟩
  | .MAC_EVENT_LINE_FAULT => ⟨6, 6, .w1c, .i, 0⟩
  | .MAC_EVENT_PFC_IGNORED => ⟨5, 5, .w1c, .i, 0⟩
  | .MAC_EVENT_AN_REFUSED => ⟨4, 4, .w1c, .i, 0⟩
  | .MAC_EVENT_REMOTE_FAULT => ⟨3, 3, .w1c, .i, 0⟩
  | .MAC_EVENT_LINK_DOWN => ⟨2, 2, .w1c, .i, 0⟩
  | .MAC_EVENT_LINK_UP => ⟨1, 1, .w1c, .i, 0⟩
  | .MAC_EVENT_CHANGE_REFUSED => ⟨0, 0, .w1c, .i, 0⟩
  | .MDP_PC_CFG_EN => ⟨63, 63, .rw, .i, 0⟩
  | .MDP_PC_CFG_MASTER_CAP => ⟨62, 62, .rw, .x, 0⟩
  | .MDP_PC_CFG_TIME_FEED => ⟨61, 61, .rw, .i, 0⟩
  | .MDP_PC_CFG_FALLBACK => ⟨60, 60, .rw, .i, 1⟩
  | .MDP_PC_CFG_NODE_ID => ⟨55, 48, .rw, .x, 255⟩
  | .MDP_PC_CFG_SEG_ID => ⟨47, 40, .rw, .x, 0⟩
  | .MDP_PC_CFG_RANK => ⟨39, 32, .rw, .x, 16⟩
  | .MDP_PC_CFG_ACC_WIN => ⟨31, 24, .rw, .b, 4⟩
  | .MDP_PC_CFG_RESP_WIN => ⟨23, 16, .rw, .b, 20⟩
  | .MDP_PC_CFG_LISTEN_CYCLES => ⟨15, 12, .rw, .i, 3⟩
  | .MDP_PC_CFG_MISS_LIMIT => ⟨11, 8, .rw, .i, 3⟩
  | .MDP_PC_CFG_CLAIM_SPREAD => ⟨7, 4, .rw, .i, 2⟩
  | .MDP_PC_TIMING_MAX_PROP => ⟨31, 20, .rw, .b, 200⟩
  | .MDP_PC_TIMING_DRIFT_LIMIT => ⟨19, 16, .rw, .i, 4⟩
  | .MDP_PC_TIMING_PROP_DLY => ⟨11, 0, .rw, .i, 0⟩
  | .MDP_PC_TABLE_CFG_ADMIN_TABLE_ID => ⟨31, 16, .rw, .i, 0⟩
  | .MDP_PC_TABLE_CFG_ADMIN_LEN => ⟨6, 0, .rw, .i, 0⟩
  | .MDP_PC_SLOT_ADMIN_ENTRY => ⟨63, 0, .rw, .i, 0⟩
  | .MDP_PC_SLOT_OPER_ENTRY => ⟨63, 0, .ro, .none, 0⟩
  | .MDP_PC_STATUS_STATE => ⟨63, 61, .ro, .none, 0⟩
  | .MDP_PC_STATUS_RX_IN_SYNC => ⟨60, 60, .ro, .none, 0⟩
  | .MDP_PC_STATUS_ORIGIN => ⟨59, 36, .ro, .none, 0⟩
  | .MDP_PC_STATUS_STALE => ⟨35, 35, .ro, .none, 0⟩
  | .MDP_PC_STATUS_CYCLE => ⟨31, 0, .ro, .none, 0⟩
  | .MDP_PC_TABLE_STATUS_OPER_TABLE_ID => ⟨31, 16, .ro, .none, 0⟩
  | .MDP_PC_TABLE_STATUS_MISSED => ⟨15, 12, .ro, .none, 0⟩
  | .MDP_PC_TABLE_STATUS_OPER_LEN => ⟨6, 0, .ro, .none, 0⟩
  | .MDP_PC_PRESENT_NODES => ⟨63, 0, .ro, .none, 0⟩
  | .MDP_PC_DRIFT_NODES => ⟨63, 0, .ro, .none, 0⟩
  | .MDP_EVENT_TAKEOVER => ⟨10, 10, .w1c, .i, 0⟩
  | .MDP_EVENT_REINTEGRATE => ⟨9, 9, .w1c, .i, 0⟩
  | .MDP_EVENT_MISMATCH => ⟨8, 8, .w1c, .i, 0⟩
  | .MDP_EVENT_COLLISION => ⟨7, 7, .w1c, .i, 0⟩
  | .MDP_EVENT_DRIFT => ⟨6, 6, .w1c, .i, 0⟩
  | .MDP_EVENT_WINDOW_MISS => ⟨5, 5, .w1c, .i, 0⟩
  | .MDP_EVENT_DUAL_MASTER => ⟨4, 4, .w1c, .i, 0⟩
  | .MDP_EVENT_MASTER_LOST => ⟨3, 3, .w1c, .i, 0⟩
  | .MDP_EVENT_MASTER_UP => ⟨2, 2, .w1c, .i, 0⟩
  | .MDP_EVENT_BAD_TABLE => ⟨1, 1, .w1c, .i, 0⟩
  | .MDP_EVENT_CHANGE_REFUSED => ⟨0, 0, .w1c, .i, 0⟩
  | .HIF_RING_BASE_BASE => ⟨63, 12, .rw, .x, 0⟩
  | .HIF_RING_CFG_PF => ⟨63, 61, .rw, .x, 0⟩
  | .HIF_RING_CFG_SIZE_LOG2 => ⟨60, 57, .rw, .x, 6⟩
  | .HIF_RING_CFG_COMP => ⟨56, 55, .rw, .x, 0⟩
  | .HIF_RING_CFG_NO_SNOOP => ⟨54, 54, .rw, .x, 0⟩
  | .HIF_RING_CFG_NOTIFY => ⟨53, 53, .rw, .x, 0⟩
  | .HIF_RING_CFG_KEEP_FCS => ⟨52, 52, .rw, .x, 0⟩
  | .HIF_RING_CFG_CQ => ⟨51, 40, .rw, .x, 0⟩
  | .HIF_RING_CFG_LEDGER => ⟨39, 32, .rw, .x, 0⟩
  | .HIF_RING_CFG_RX_HOLD => ⟨29, 16, .rw, .i, 256⟩
  | .HIF_RING_CFG_RX_WAIT => ⟨9, 0, .rw, .i, 10⟩
  | .HIF_RING_CTRL_RESET => ⟨2, 2, .wo, .i, 0⟩
  | .HIF_RING_CTRL_STOP => ⟨1, 1, .wo, .i, 0⟩
  | .HIF_RING_CTRL_START => ⟨0, 0, .wo, .i, 0⟩
  | .HIF_RING_STATUS_STATE => ⟨63, 61, .ro, .none, 0⟩
  | .HIF_RING_STATUS_ERR => ⟨60, 57, .ro, .none, 0⟩
  | .HIF_RING_STATUS_ERR_SEEN => ⟨56, 56, .w1c, .i, 0⟩
  | .HIF_RING_STATUS_ERR_IDX => ⟨47, 32, .ro, .none, 0⟩
  | .HIF_RING_STATUS_CI => ⟨31, 0, .ro, .none, 0⟩
  | .HIF_DOORBELL_PI => ⟨31, 0, .rw, .i, 0⟩
  | .HIF_CQ_BASE_BASE => ⟨63, 12, .rw, .x, 0⟩
  | .HIF_CQ_CFG_EN => ⟨63, 63, .rw, .i, 0⟩
  | .HIF_CQ_CFG_PF => ⟨62, 60, .rw, .x, 0⟩
  | .HIF_CQ_CFG_SIZE_LOG2 => ⟨59, 56, .rw, .x, 6⟩
  | .HIF_CQ_CFG_NO_SNOOP => ⟨55, 55, .rw, .x, 0⟩
  | .HIF_CQ_CFG_SRC => ⟨49, 41, .rw, .x, 0⟩
  | .HIF_CQ_CFG_MOD_TIME => ⟨31, 16, .rw, .i, 10⟩
  | .HIF_CQ_CFG_MOD_COUNT => ⟨15, 0, .rw, .i, 16⟩
  | .HIF_CQ_DB_ARM => ⟨63, 63, .wo, .i, 0⟩
  | .HIF_CQ_DB_CI => ⟨31, 0, .rw, .i, 0⟩
  | .HIF_CQ_STATUS_FULL => ⟨63, 63, .ro, .none, 0⟩
  | .HIF_CQ_STATUS_ARMED => ⟨62, 62, .ro, .none, 0⟩
  | .HIF_CQ_STATUS_HELD => ⟨61, 57, .ro, .none, 0⟩
  | .HIF_CQ_STATUS_PI => ⟨31, 0, .ro, .none, 0⟩
  | .HIF_LEDGER_ADDR_ADDR => ⟨63, 2, .rw, .x, 0⟩
  | .HIF_CFG_RO_EN => ⟨31, 31, .rw, .i, 0⟩
  | .HIF_CFG_LEDGER_HOLDOFF => ⟨15, 0, .rw, .i, 1000⟩
  | .HIF_RX_STORE_HIGH => ⟨29, 16, .ro, .none, 0⟩
  | .HIF_RX_STORE_USED => ⟨13, 0, .ro, .none, 0⟩
  | .HIF_EVENT_LINK_DOWN => ⟨9, 9, .w1c, .i, 0⟩
  | .HIF_EVENT_FLR => ⟨8, 8, .w1c, .i, 0⟩
  | .HIF_EVENT_DB_IGNORED => ⟨7, 7, .w1c, .i, 0⟩
  | .HIF_EVENT_TRUNCATED => ⟨6, 6, .w1c, .i, 0⟩
  | .HIF_EVENT_RX_DROP => ⟨5, 5, .w1c, .i, 0⟩
  | .HIF_EVENT_RING_ERR => ⟨4, 4, .w1c, .i, 0⟩
  | .HIF_EVENT_CQ_FULL => ⟨3, 3, .w1c, .i, 0⟩
  | .HIF_EVENT_MALFORMED => ⟨2, 2, .w1c, .i, 0⟩
  | .HIF_EVENT_BAD_CFG => ⟨1, 1, .w1c, .i, 0⟩
  | .HIF_EVENT_CHANGE_REFUSED => ⟨0, 0, .w1c, .i, 0⟩
  | .DMA_CTRL_PCIE_LIMIT => ⟨31, 24, .rw, .i, 0⟩
  | .DMA_CTRL_DRAM_LIMIT => ⟨23, 16, .rw, .i, 0⟩
  | .DMA_CTRL_PUB_RUN => ⟨1, 1, .rw, .i, 0⟩
  | .DMA_CTRL_RUN => ⟨0, 0, .rw, .i, 0⟩
  | .DMA_CH_CFG_PF => ⟨63, 61, .rw, .x, 0⟩
  | .DMA_CH_CFG_PRIO => ⟨60, 59, .rw, .b, 0⟩
  | .DMA_CH_CFG_DESC_NS => ⟨58, 58, .rw, .x, 0⟩
  | .DMA_CH_CFG_RETRY_COUNT => ⟨57, 55, .rw, .i, 3⟩
  | .DMA_CH_CFG_CQ => ⟨51, 40, .rw, .x, 0⟩
  | .DMA_CH_CFG_CHAIN_LIMIT => ⟨19, 0, .rw, .x, 1024⟩
  | .DMA_CH_RATE_RATE => ⟨63, 48, .rw, .i, 0⟩
  | .DMA_CH_RATE_BURST => ⟨31, 16, .rw, .i, 16⟩
  | .DMA_CH_WIN_DRAM_BASE => ⟨63, 46, .rw, .x, 0⟩
  | .DMA_CH_WIN_DRAM_LIMIT => ⟨45, 28, .rw, .x, 0⟩
  | .DMA_CH_WIN_LOCAL_BASE => ⟨27, 19, .rw, .x, 0⟩
  | .DMA_CH_WIN_LOCAL_LIMIT => ⟨18, 10, .rw, .x, 0⟩
  | .DMA_CH_WIN_WIN_EN => ⟨0, 0, .rw, .x, 0⟩
  | .DMA_CH_CTRL_RESET => ⟨2, 2, .wo, .i, 0⟩
  | .DMA_CH_CTRL_STOP => ⟨1, 1, .wo, .i, 0⟩
  | .DMA_CH_CTRL_START => ⟨0, 0, .wo, .i, 0⟩
  | .DMA_CH_DESC_ADDR => ⟨63, 6, .rw, .x, 0⟩
  | .DMA_CH_DESC_SPACE => ⟨1, 0, .rw, .x, 0⟩
  | .DMA_CH_STATUS_STATE => ⟨63, 61, .ro, .none, 0⟩
  | .DMA_CH_STATUS_HALT => ⟨60, 57, .ro, .none, 0⟩
  | .DMA_CH_STATUS_WAIT_CQ => ⟨56, 56, .ro, .none, 0⟩
  | .DMA_CH_STATUS_WAIT_TOK => ⟨55, 55, .ro, .none, 0⟩
  | .DMA_CH_STATUS_PREEMPTED => ⟨54, 54, .ro, .none, 0⟩
  | .DMA_CH_STATUS_HOPS => ⟨19, 0, .ro, .none, 0⟩
  | .DMA_CH_POS_I2 => ⟨47, 32, .ro, .none, 0⟩
  | .DMA_CH_POS_I1 => ⟨31, 16, .ro, .none, 0⟩
  | .DMA_CH_POS_I0 => ⟨15, 0, .ro, .none, 0⟩
  | .DMA_PUB_CMD_GO => ⟨63, 63, .wo, .i, 0⟩
  | .DMA_PUB_CMD_OP => ⟨62, 59, .rw, .i, 0⟩
  | .DMA_PUB_CMD_INDEX => ⟨9, 0, .rw, .i, 0⟩
  | .DMA_PUB_STATUS_BUSY => ⟨31, 31, .ro, .none, 0⟩
  | .DMA_PUB_STATUS_CODE => ⟨27, 24, .ro, .none, 0⟩
  | .DMA_PUB_DATA_DATA => ⟨63, 0, .rw, .i, 0⟩
  | .DMA_EVENT_PUB_COLLIDE => ⟨8, 8, .w1c, .i, 0⟩
  | .DMA_EVENT_PUB_DONE => ⟨7, 7, .w1c, .i, 0⟩
  | .DMA_EVENT_PUB_TORN => ⟨6, 6, .w1c, .i, 0⟩
  | .DMA_EVENT_PUB_LOSS => ⟨5, 5, .w1c, .i, 0⟩
  | .DMA_EVENT_MALFORMED => ⟨4, 4, .w1c, .i, 0⟩
  | .DMA_EVENT_BUS_ERR => ⟨3, 3, .w1c, .i, 0⟩
  | .DMA_EVENT_LOOP => ⟨2, 2, .w1c, .i, 0⟩
  | .DMA_EVENT_BAD_CFG => ⟨1, 1, .w1c, .i, 0⟩
  | .DMA_EVENT_CHANGE_REFUSED => ⟨0, 0, .w1c, .i, 0⟩
  | .INTC_CTRL_EN => ⟨31, 31, .rw, .i, 0⟩
  | .INTC_CTRL_FALLBACK => ⟨3, 0, .rw, .i, 0⟩
  | .INTC_SRC_CFG_TKIND => ⟨31, 30, .rw, .i, 0⟩
  | .INTC_SRC_CFG_TRIGGER => ⟨29, 29, .ro, .none, 0⟩
  | .INTC_SRC_CFG_PRIO => ⟨27, 24, .rw, .i, 0⟩
  | .INTC_SRC_CFG_TARGET => ⟨10, 0, .rw, .i, 0⟩
  | .INTC_SRC_STATUS_DSTATE => ⟨31, 30, .ro, .none, 0⟩
  | .INTC_SRC_STATUS_LEVEL => ⟨29, 29, .ro, .none, 0⟩
  | .INTC_SRC_STATUS_PEND => ⟨28, 28, .ro, .none, 0⟩
  | .INTC_SRC_STATUS_HOLDER => ⟨10, 0, .ro, .none, 0⟩
  | .INTC_ENABLE_EN => ⟨31, 0, .rw, .i, 0⟩
  | .INTC_PENDING_PEND => ⟨31, 0, .rw, .i, 0⟩
  | .INTC_PEND_CNT_COUNT => ⟨31, 0, .ro, .none, 0⟩
  | .INTC_SW_SET_SOURCE => ⟨11, 0, .wo, .i, 0⟩
  | .INTC_HOST_EOI_ID => ⟨11, 0, .wo, .i, 0⟩
  | .INTC_CORE_CFG_EN => ⟨31, 31, .rw, .i, 0⟩
  | .INTC_CORE_CFG_THRESH => ⟨27, 24, .rw, .i, 0⟩
  | .INTC_CORE_STATUS_STATE => ⟨31, 30, .ro, .none, 0⟩
  | .INTC_CORE_STATUS_MASK => ⟨29, 29, .ro, .none, 1⟩
  | .INTC_CORE_STATUS_ACTIVE => ⟨28, 28, .ro, .none, 0⟩
  | .INTC_CORE_STATUS_RUN_PRIO => ⟨27, 24, .ro, .none, 0⟩
  | .INTC_CORE_STATUS_DELIVERED => ⟨11, 0, .ro, .none, 0⟩
  | .INTC_CORE_CLAIM_ID => ⟨11, 0, .ro, .none, 4095⟩
  | .INTC_CORE_EOI_ID => ⟨11, 0, .wo, .i, 0⟩
  | .INTC_EVENT_NO_TARGET => ⟨3, 3, .w1c, .i, 0⟩
  | .INTC_EVENT_FALLBACK => ⟨2, 2, .w1c, .i, 0⟩
  | .INTC_EVENT_BAD_EOI => ⟨1, 1, .w1c, .i, 0⟩
  | .INTC_EVENT_BAD_CFG => ⟨0, 0, .w1c, .i, 0⟩
  | .BOOT_STATUS_STATE => ⟨63, 60, .ro, .none, 1⟩
  | .BOOT_STATUS_STEP => ⟨59, 56, .ro, .none, 1⟩
  | .BOOT_STATUS_SLOT => ⟨55, 55, .ro, .none, 0⟩
  | .BOOT_STATUS_ACQ_SHORT => ⟨54, 54, .ro, .none, 0⟩
  | .BOOT_STATUS_REC_FAIL => ⟨53, 53, .rws, .none, 0⟩
  | .BOOT_STATUS_SKIP => ⟨52, 39, .ro, .none, 0⟩
  | .BOOT_STATUS_ALT => ⟨38, 25, .ro, .none, 0⟩
  | .BOOT_STATUS_BLOCKED => ⟨24, 24, .rws, .none, 0⟩
  | .BOOT_STATUS_DEV_ID => ⟨11, 0, .ro, .none, 0⟩
  | .BOOT_CTRL_KEY => ⟨31, 16, .wo, .i, 0⟩
  | .BOOT_CTRL_PREF_SLOT => ⟨3, 3, .rw, .i, 0⟩
  | .BOOT_CTRL_CLEAR_MARKS => ⟨2, 2, .wo, .i, 0⟩
  | .BOOT_CTRL_CLEAR_FAILS => ⟨1, 1, .wo, .i, 0⟩
  | .BOOT_CTRL_RESET => ⟨0, 0, .wo, .i, 0⟩
  | .BOOT_REC_DATA => ⟨63, 0, .ro, .none, 0⟩
  | .BOOT_BASTE_CMD_GO => ⟨63, 63, .wo, .i, 0⟩
  | .BOOT_BASTE_CMD_OP => ⟨62, 60, .rw, .i, 0⟩
  | .BOOT_BASTE_CMD_GROUP => ⟨59, 56, .rw, .i, 0⟩
  | .BOOT_BASTE_CMD_DOM => ⟨55, 53, .rw, .i, 0⟩
  | .BOOT_BASTE_CMD_WIDTH => ⟨52, 52, .rw, .i, 0⟩
  | .BOOT_BASTE_CMD_ADDR => ⟨25, 0, .rw, .i, 0⟩
  | .BOOT_BASTE_DATA_DATA => ⟨63, 0, .rw, .i, 0⟩
  | .BOOT_BASTE_TIME_SEC_SEC => ⟨47, 0, .rw, .i, 0⟩
  | .BOOT_BASTE_TIME_NS_NS => ⟨47, 16, .rw, .i, 0⟩
  | .BOOT_BASTE_STATUS_BUSY => ⟨31, 31, .ro, .none, 0⟩
  | .BOOT_BASTE_STATUS_PEEK_VALID => ⟨30, 30, .ro, .none, 0⟩
  | .BOOT_BASTE_STATUS_CODE => ⟨27, 24, .ro, .none, 0⟩
  | .BOOT_BASTE_STATUS_FREE => ⟨13, 0, .ro, .none, 8192⟩
  | .BOOT_BASTE_GROUP_STATE => ⟨63, 61, .ro, .none, 0⟩
  | .BOOT_BASTE_GROUP_COUNT => ⟨47, 34, .ro, .none, 0⟩
  | .BOOT_BASTE_GROUP_FAIL_ADDR => ⟨25, 0, .ro, .none, 0⟩
  | .BOOT_AWT_CMD_GO => ⟨31, 31, .wo, .i, 0⟩
  | .BOOT_AWT_CMD_OP => ⟨30, 30, .rw, .i, 0⟩
  | .BOOT_AWT_CMD_INDEX => ⟨9, 0, .rw, .i, 0⟩
  | .BOOT_AWT_STATUS_BUSY => ⟨31, 31, .ro, .none, 0⟩
  | .BOOT_AWT_STATUS_CODE => ⟨27, 24, .ro, .none, 0⟩
  | .BOOT_AWT_DATA_DATA => ⟨63, 0, .rw, .i, 0⟩
  | .BOOT_PROT_GEN_GEN => ⟨31, 0, .ro, .none, 0⟩
  | .BOOT_PF_PRIV_LEVEL => ⟨15, 0, .rw, .i, 43688⟩
  | .BOOT_AWT_DENY_LOG_VALID => ⟨63, 63, .ro, .none, 0⟩
  | .BOOT_AWT_DENY_LOG_PF => ⟨62, 60, .ro, .none, 0⟩
  | .BOOT_AWT_DENY_LOG_WRITE => ⟨59, 59, .ro, .none, 0⟩
  | .BOOT_AWT_DENY_LOG_BAR => ⟨58, 57, .ro, .none, 0⟩
  | .BOOT_AWT_DENY_LOG_OFFSET => ⟨25, 0, .ro, .none, 0⟩
  | .BOOT_NVM_CMD_GO => ⟨63, 63, .wo, .i, 0⟩
  | .BOOT_NVM_CMD_OP => ⟨62, 60, .rw, .i, 0⟩
  | .BOOT_NVM_CMD_KEY_SLOT => ⟨59, 58, .rw, .i, 0⟩
  | .BOOT_NVM_CMD_SECTOR => ⟨28, 12, .rw, .i, 0⟩
  | .BOOT_NVM_STATUS_BUSY => ⟨31, 31, .ro, .none, 0⟩
  | .BOOT_NVM_STATUS_CODE => ⟨27, 24, .ro, .none, 0⟩
  | .BOOT_EVENT_NVM_ERR => ⟨8, 8, .w1c, .i, 0⟩
  | .BOOT_EVENT_NVM_DONE => ⟨7, 7, .w1c, .i, 0⟩
  | .BOOT_EVENT_AWT_DENY => ⟨6, 6, .w1c, .i, 0⟩
  | .BOOT_EVENT_LATE_COMMIT => ⟨5, 5, .w1c, .i, 0⟩
  | .BOOT_EVENT_GROUP_WARN => ⟨4, 4, .w1c, .i, 0⟩
  | .BOOT_EVENT_GROUP_FAIL => ⟨3, 3, .w1c, .i, 0⟩
  | .BOOT_EVENT_GROUP_DONE => ⟨2, 2, .w1c, .i, 0⟩
  | .BOOT_EVENT_BASTE_COLLIDE => ⟨1, 1, .w1c, .i, 0⟩
  | .BOOT_EVENT_BASTE_REFUSED => ⟨0, 0, .w1c, .i, 0⟩
  | .THIM_CTRL_RESTART => ⟨31, 31, .rw, .i, 0⟩
  | .THIM_CTRL_RESTART_MAX => ⟨27, 24, .rw, .i, 3⟩
  | .THIM_CTRL_RESTART_DELAY => ⟨23, 16, .rw, .i, 5⟩
  | .THIM_CTRL_SWAP_ON_DEGRADED => ⟨15, 15, .rw, .i, 1⟩
  | .THIM_CTRL_LATENT_INT => ⟨6, 0, .rw, .i, 60⟩
  | .THIM_STATUS_HANDLING => ⟨63, 62, .ro, .none, 0⟩
  | .THIM_STATUS_QUEUED => ⟨61, 55, .ro, .none, 0⟩
  | .THIM_STATUS_LOST => ⟨54, 48, .ro, .none, 0⟩
  | .THIM_STATUS_DUMP => ⟨47, 46, .ro, .none, 0⟩
  | .THIM_STATUS_WORST => ⟨45, 44, .ro, .none, 0⟩
  | .THIM_STATUS_RESTART_CNT => ⟨3, 0, .rws, .i, 0⟩
  | .THIM_FAULT_LOG_RECORD => ⟨63, 0, .ro, .none, 0⟩
  | .THIM_ACK_SEV => ⟨1, 0, .wo, .i, 0⟩
  | .THIM_WDOG_KEY => ⟨15, 0, .wo, .i, 0⟩
  | .THIM_INJECT_GO => ⟨31, 31, .wo, .i, 0⟩
  | .THIM_INJECT_SM => ⟨7, 0, .wo, .i, 0⟩
  | .THIM_DUMP_BASE_SPACE => ⟨63, 62, .rw, .i, 0⟩
  | .THIM_DUMP_BASE_ADDR => ⟨35, 16, .rw, .i, 0⟩
  | .THIM_LATENT_STATUS_LAST_S => ⟨63, 32, .ro, .none, 0⟩
  | .THIM_LATENT_STATUS_FAILED => ⟨10, 0, .ro, .none, 0⟩
  | .THIM_EVENT_BAD_CFG => ⟨5, 5, .w1c, .i, 0⟩
  | .THIM_EVENT_DUMP_DONE => ⟨4, 4, .w1c, .i, 0⟩
  | .THIM_EVENT_LATENT_FAIL => ⟨3, 3, .w1c, .i, 0⟩
  | .THIM_EVENT_LOG_OVF => ⟨2, 2, .w1c, .i, 0⟩
  | .THIM_EVENT_DEGRADED => ⟨1, 1, .w1c, .i, 0⟩
  | .THIM_EVENT_NOTICE => ⟨0, 0, .w1c, .i, 0⟩
  | .PAIR_CFG_EN => ⟨63, 63, .rw, .x, 0⟩
  | .PAIR_CFG_SWAP_DOM => ⟨62, 60, .rw, .x, 0⟩
  | .PAIR_CFG_GM_DOMAINS => ⟨55, 48, .rw, .x, 0⟩
  | .PAIR_CFG_MDP_LEAD => ⟨47, 32, .rw, .x, 0⟩
  | .PAIR_STATUS_ROLE => ⟨63, 61, .ro, .none, 0⟩
  | .PAIR_STATUS_PEER => ⟨60, 58, .ro, .none, 0⟩
  | .PAIR_STATUS_TOKEN_IN => ⟨57, 57, .ro, .none, 0⟩
  | .PAIR_STATUS_TOKEN_DRV => ⟨56, 56, .ro, .none, 0⟩
  | .PAIR_STATUS_FS_IN => ⟨55, 55, .ro, .none, 0⟩
  | .PAIR_STATUS_BEAT_OK => ⟨54, 54, .ro, .none, 0⟩
  | .PAIR_STATUS_PL1_OK => ⟨53, 53, .ro, .none, 0⟩
  | .PAIR_STATUS_PL0_OK => ⟨52, 52, .ro, .none, 0⟩
  | .PAIR_STATUS_SIDE => ⟨51, 51, .ro, .none, 0⟩
  | .PAIR_STATUS_PEER_ID => ⟨43, 32, .ro, .none, 0⟩
  | .PAIR_STATUS_PEER_STATE => ⟨31, 28, .ro, .none, 0⟩
  | .PAIR_STATUS_PEER_WORST => ⟨27, 26, .ro, .none, 0⟩
  | .PAIR_DRILL_CFG_PERIOD => ⟨31, 24, .rw, .i, 24⟩
  | .PAIR_DRILL_CFG_LEAD_MS => ⟨23, 16, .rw, .i, 10⟩
  | .PAIR_SWAP_CMD_GO => ⟨31, 31, .wo, .i, 0⟩
  | .PAIR_SWAP_STATUS_PENDING => ⟨63, 63, .ro, .none, 0⟩
  | .PAIR_SWAP_STATUS_RESULT => ⟨62, 60, .ro, .none, 0⟩
  | .PAIR_SWAP_STATUS_POSTPONED => ⟨59, 56, .ro, .none, 0⟩
  | .PAIR_SWAP_STATUS_DRILLS => ⟨55, 32, .ro, .none, 0⟩
  | .PAIR_SWAP_STATUS_T_MS => ⟨31, 0, .ro, .none, 0⟩
  | .PAIR_PEER_CMD_GO => ⟨63, 63, .wo, .i, 0⟩
  | .PAIR_PEER_CMD_OP => ⟨62, 60, .rw, .i, 0⟩
  | .PAIR_PEER_CMD_PAGE => ⟨9, 0, .rw, .i, 0⟩
  | .PAIR_PEER_STATUS_BUSY => ⟨31, 31, .ro, .none, 0⟩
  | .PAIR_PEER_STATUS_CODE => ⟨27, 24, .ro, .none, 0⟩
  | .PAIR_EVENT_MIRROR_MISMATCH => ⟨9, 9, .w1c, .i, 0⟩
  | .PAIR_EVENT_LANE_DOWN => ⟨8, 8, .w1c, .i, 0⟩
  | .PAIR_EVENT_TOKEN_FAULT => ⟨7, 7, .w1c, .i, 0⟩
  | .PAIR_EVENT_PEER_UNKNOWN => ⟨6, 6, .w1c, .i, 0⟩
  | .PAIR_EVENT_PEER_LOST => ⟨5, 5, .w1c, .i, 0⟩
  | .PAIR_EVENT_SWAP_POSTPONED => ⟨4, 4, .w1c, .i, 0⟩
  | .PAIR_EVENT_SWAP_DONE => ⟨3, 3, .w1c, .i, 0⟩
  | .PAIR_EVENT_TAKEOVER => ⟨2, 2, .w1c, .i, 0⟩
  | .PAIR_EVENT_BAD_CFG => ⟨1, 1, .w1c, .i, 0⟩
  | .PAIR_EVENT_CHANGE_REFUSED => ⟨0, 0, .w1c, .i, 0⟩
  | .TAPE_CNT_CMD_GO => ⟨63, 63, .wo, .i, 0⟩
  | .TAPE_CNT_CMD_OP => ⟨62, 60, .rw, .i, 0⟩
  | .TAPE_CNT_CMD_GROUP => ⟨59, 56, .rw, .i, 0⟩
  | .TAPE_CNT_CMD_ALL => ⟨24, 24, .rw, .i, 0⟩
  | .TAPE_CNT_CMD_INDEX => ⟨23, 0, .rw, .i, 0⟩
  | .TAPE_CNT_STATUS_BUSY => ⟨31, 31, .ro, .none, 0⟩
  | .TAPE_CNT_STATUS_CODE => ⟨27, 24, .ro, .none, 0⟩
  | .TAPE_CNT_DATA_WORD => ⟨63, 0, .ro, .none, 0⟩
  | .TAPE_CTRL_HOST_CHALK_EN => ⟨15, 15, .rw, .i, 0⟩
  | .TAPE_CTRL_HOST_K => ⟨12, 8, .rw, .i, 10⟩
  | .TAPE_CTRL_CHALK_RUN => ⟨0, 0, .rw, .i, 0⟩
  | .TAPE_TCNT_BASE_EN => ⟨63, 63, .rw, .i, 0⟩
  | .TAPE_TCNT_BASE_BASE => ⟨35, 24, .rw, .x, 0⟩
  | .TAPE_PEC_CFG_EN => ⟨31, 31, .rw, .i, 0⟩
  | .TAPE_PEC_CFG_MODE => ⟨30, 30, .rw, .i, 0⟩
  | .TAPE_PEC_CFG_EVENT => ⟨29, 24, .rw, .i, 0⟩
  | .TAPE_PEC_CFG_TC_MASK => ⟨23, 16, .rw, .i, 255⟩
  | .TAPE_PEC_CFG_QUAL => ⟨15, 8, .rw, .i, 0⟩
  | .TAPE_PEC_CFG_QUAL_EN => ⟨7, 7, .rw, .i, 0⟩
  | .TAPE_CHALK_CFG_EN => ⟨31, 31, .rw, .i, 0⟩
  | .TAPE_CHALK_CFG_K => ⟨4, 0, .rw, .i, 10⟩
  | .TAPE_DUMP_CFG_EN => ⟨63, 63, .rw, .i, 0⟩
  | .TAPE_DUMP_CFG_DOM => ⟨62, 59, .rw, .x, 0⟩
  | .TAPE_DUMP_CFG_BOLT_MASK => ⟨55, 48, .rw, .x, 0⟩
  | .TAPE_DUMP_CFG_SEL => ⟨47, 40, .rw, .x, 0⟩
  | .TAPE_DUMP_CFG_PERIOD => ⟨29, 0, .rw, .x, 1000000000⟩
  | .TAPE_OUT_BASE_BASE => ⟨63, 12, .rw, .x, 0⟩
  | .TAPE_OUT_CFG_SPACE => ⟨31, 30, .rw, .x, 0⟩
  | .TAPE_OUT_CFG_PF => ⟨29, 27, .rw, .x, 0⟩
  | .TAPE_OUT_CFG_WRAP => ⟨26, 26, .rw, .x, 0⟩
  | .TAPE_OUT_CFG_NO_SNOOP => ⟨25, 25, .rw, .x, 0⟩
  | .TAPE_OUT_CFG_SIZE_LOG2 => ⟨24, 20, .rw, .x, 10⟩
  | .TAPE_OUT_PI_PI => ⟨31, 0, .ro, .none, 0⟩
  | .TAPE_OUT_CI_CI => ⟨31, 0, .rw, .i, 0⟩
  | .TAPE_EVENT_CNT_DONE => ⟨6, 6, .w1c, .i, 0⟩
  | .TAPE_EVENT_OVF => ⟨5, 5, .w1c, .i, 0⟩
  | .TAPE_EVENT_CHALK_LOST => ⟨4, 4, .w1c, .i, 0⟩
  | .TAPE_EVENT_OUT_LOST => ⟨3, 3, .w1c, .i, 0⟩
  | .TAPE_EVENT_DUMP_SKIP => ⟨2, 2, .w1c, .i, 0⟩
  | .TAPE_EVENT_BAD_CFG => ⟨1, 1, .w1c, .i, 0⟩
  | .TAPE_EVENT_CHANGE_REFUSED => ⟨0, 0, .w1c, .i, 0⟩
  | .DEV_TEMP_STATUS_VALID => ⟨31, 31, .ro, .none, 0⟩
  | .DEV_TEMP_STATUS_IGNORED => ⟨30, 30, .ro, .none, 0⟩
  | .DEV_TEMP_STATUS_TEMP => ⟨11, 0, .ro, .none, 0⟩
  | .DEV_DBG_SEL_BOLT => ⟨2, 0, .rw, .i, 0⟩

/-- The register of each field. -/
def Fl.reg : Fl → Reg
  | .DEV_PACE_CTRL_LOW_THRESH => .DEV_PACE_CTRL
  | .DEV_PACE_CTRL_CLR_LOWEST => .DEV_PACE_CTRL
  | .DEV_PACE_CTRL_LOW_NOTICE_EN => .DEV_PACE_CTRL
  | .DEV_PACE_STATUS_LOWEST => .DEV_PACE_STATUS
  | .DEV_PACE_STATUS_MIN_1US => .DEV_PACE_STATUS
  | .DEV_PACE_STATUS_AVG_1US => .DEV_PACE_STATUS
  | .DEV_PACE_EVENT_FLOOR => .DEV_PACE_EVENT
  | .DEV_PACE_EVENT_LOW => .DEV_PACE_EVENT
  | .TPL_OSC_STATUS_REF_SRC => .TPL_OSC_STATUS
  | .TPL_OSC_STATUS_TPLL1_LOCK => .TPL_OSC_STATUS
  | .TPL_OSC_STATUS_TPLL0_LOCK => .TPL_OSC_STATUS
  | .TPL_OSC_STATUS_FREQ => .TPL_OSC_STATUS
  | .TPL_VOTE_STATUS_EXCL => .TPL_VOTE_STATUS
  | .TPL_EVENT_PORT_COPY => .TPL_EVENT
  | .TPL_EVENT_SNAP_DONE => .TPL_EVENT
  | .TPL_EVENT_OSC_SWITCH => .TPL_EVENT
  | .TPL_EVENT_VOTE_EXCLUDE => .TPL_EVENT
  | .TPL_EVENT_VOTE_REPAIR => .TPL_EVENT
  | .TPL_EVENT_BAD_CFG => .TPL_EVENT
  | .TPL_EVENT_CHANGE_REFUSED => .TPL_EVENT
  | .TPL_SNAP_CTRL_BUSY => .TPL_SNAP_CTRL
  | .TPL_SNAP_CTRL_TRIGGER => .TPL_SNAP_CTRL
  | .TPL_SNAP_SEC_SEC => .TPL_SNAP_SEC
  | .TPL_SNAP_NS_NS => .TPL_SNAP_NS
  | .TPL_SNAP_NS_FRAC => .TPL_SNAP_NS
  | .TPL_DOM_CFG_EN => .TPL_DOM_CFG
  | .TPL_DOM_CFG_MODE => .TPL_DOM_CFG
  | .TPL_DOM_CFG_UNLOCK => .TPL_DOM_CFG
  | .TPL_DOM_CFG_HOLD_AVG_LOG2 => .TPL_DOM_CFG
  | .TPL_DOM_CFG_HOLD_TIMEOUT => .TPL_DOM_CFG
  | .TPL_DOM_CFG_REACQ_COUNT => .TPL_DOM_CFG
  | .TPL_DOM_CFG_REACQ_THRESH => .TPL_DOM_CFG
  | .TPL_DOM_PARAM_KP => .TPL_DOM_PARAM
  | .TPL_DOM_PARAM_KI => .TPL_DOM_PARAM
  | .TPL_DOM_PARAM_T_CORR => .TPL_DOM_PARAM
  | .TPL_DOM_PARAM_SLEW => .TPL_DOM_PARAM
  | .TPL_DOM_PARAM_RATE_LIMIT => .TPL_DOM_PARAM
  | .TPL_DOM_HOLD_RATE_UNC => .TPL_DOM_HOLD
  | .TPL_DOM_HOLD_DRIFT => .TPL_DOM_HOLD
  | .TPL_DOM_SAMPLE_OFS_OFS => .TPL_DOM_SAMPLE_OFS
  | .TPL_DOM_SAMPLE_RATIO_RATIO => .TPL_DOM_SAMPLE_RATIO
  | .TPL_DOM_SET_SEC_SEC => .TPL_DOM_SET_SEC
  | .TPL_DOM_SET_NS_NS => .TPL_DOM_SET_NS
  | .TPL_DOM_SET_NS_FRAC => .TPL_DOM_SET_NS
  | .TPL_DOM_STATUS_STATE => .TPL_DOM_STATUS
  | .TPL_DOM_STATUS_HOLD_EST => .TPL_DOM_STATUS
  | .TPL_DOM_STATUS_LAST_OFS => .TPL_DOM_STATUS
  | .TPL_DOM_RATE_RATE => .TPL_DOM_RATE
  | .TPL_PORT_TS_TX_LAT => .TPL_PORT_TS
  | .TPL_PORT_TS_RX_LAT => .TPL_PORT_TS
  | .TPL_PORT_TS_CFG_LINK_DLY => .TPL_PORT_TS_CFG
  | .TPL_PORT_TS_CFG_TS_DOM => .TPL_PORT_TS_CFG
  | .TPL_PORT_TS_CFG_TC_MODE => .TPL_PORT_TS_CFG
  | .TPL_OUT_CFG_WIDTH => .TPL_OUT_CFG
  | .TPL_OUT_CFG_DOM => .TPL_OUT_CFG
  | .TPL_OUT_CFG_COUNT => .TPL_OUT_CFG
  | .TPL_OUT_CFG_ARM => .TPL_OUT_CFG
  | .TPL_OUT_CFG_LEAD_ONLY => .TPL_OUT_CFG
  | .TPL_OUT_CFG_ALIGN_SEC => .TPL_OUT_CFG
  | .TPL_OUT_CFG_INVERT => .TPL_OUT_CFG
  | .TPL_OUT_CFG_MODE => .TPL_OUT_CFG
  | .TPL_OUT_START_SEC_SEC => .TPL_OUT_START_SEC
  | .TPL_OUT_START_NS_NS => .TPL_OUT_START_NS
  | .TPL_OUT_START_NS_FRAC => .TPL_OUT_START_NS
  | .TPL_OUT_PERIOD_NS => .TPL_OUT_PERIOD
  | .TPL_OUT_PERIOD_FRAC => .TPL_OUT_PERIOD
  | .TPL_OUT_STATUS_MISSED => .TPL_OUT_STATUS
  | .TPL_OUT_STATUS_LATE => .TPL_OUT_STATUS
  | .TPL_OUT_STATUS_ACTIVE => .TPL_OUT_STATUS
  | .TPL_CAP_CFG_CABLE_DLY => .TPL_CAP_CFG
  | .TPL_CAP_CFG_FILTER => .TPL_CAP_CFG
  | .TPL_CAP_CFG_DOM => .TPL_CAP_CFG
  | .TPL_CAP_CFG_SERVO_FEED => .TPL_CAP_CFG
  | .TPL_CAP_CFG_EDGE => .TPL_CAP_CFG
  | .TPL_CAP_CFG_OVF => .TPL_CAP_CFG
  | .TPL_CAP_CFG_EN => .TPL_CAP_CFG
  | .TPL_CAP_SEC_VALID => .TPL_CAP_SEC
  | .TPL_CAP_SEC_RISE => .TPL_CAP_SEC
  | .TPL_CAP_SEC_LEVEL => .TPL_CAP_SEC
  | .TPL_CAP_SEC_SEC => .TPL_CAP_SEC
  | .TPL_CAP_NS_NS => .TPL_CAP_NS
  | .TPL_CAP_NS_FRAC => .TPL_CAP_NS
  | .TPL_DOM_MAP_INST => .TPL_DOM_MAP
  | .TPL_DOM_MAP_TR_L2 => .TPL_DOM_MAP
  | .TPL_DOM_MAP_TR_IP4 => .TPL_DOM_MAP
  | .TPL_DOM_MAP_TR_IP6 => .TPL_DOM_MAP
  | .TPL_DOM_MAP_DELAY => .TPL_DOM_MAP
  | .TPL_DOM_MAP_STEP_TX => .TPL_DOM_MAP
  | .TPL_DOM_MAP_SDO_ID => .TPL_DOM_MAP
  | .TPL_DOM_MAP_DOMAIN_NUMBER => .TPL_DOM_MAP
  | .TPL_SYNC_CFG_SLB => .TPL_SYNC_CFG
  | .TPL_SYNC_CFG_RESUME_COUNT => .TPL_SYNC_CFG
  | .TPL_SYNC_CFG_REQ_ACQ => .TPL_SYNC_CFG
  | .TPL_SYNC_CFG_GM => .TPL_SYNC_CFG
  | .TPL_SYNC_STATUS_LOST => .TPL_SYNC_STATUS
  | .TPL_SYNC_STATUS_IN_SYNC => .TPL_SYNC_STATUS
  | .STRM_CTRL_NEG_LIFE => .STRM_CTRL
  | .STRM_CTRL_DRAMLESS => .STRM_CTRL
  | .STRM_CTRL_RUN => .STRM_CTRL
  | .STRM_HASH_SEED_SEED2 => .STRM_HASH_SEED
  | .STRM_HASH_SEED_SEED1 => .STRM_HASH_SEED
  | .STRM_TBL_BASE_BASE => .STRM_TBL_BASE
  | .STRM_DIR_BASE_BASE => .STRM_DIR_BASE
  | .STRM_MISS_CFG_PROT_TC => .STRM_MISS_CFG
  | .STRM_MISS_CFG_RSV_CELLS => .STRM_MISS_CFG
  | .STRM_MISS_STATUS_HIGH_WATER => .STRM_MISS_STATUS
  | .STRM_MISS_STATUS_PENDING => .STRM_MISS_STATUS
  | .STRM_MISS_STATUS_OCCUPANCY => .STRM_MISS_STATUS
  | .STRM_EVENT_DRAM_ERR => .STRM_EVENT
  | .STRM_EVENT_ECC_UNCORR => .STRM_EVENT
  | .STRM_EVENT_ECC_CORR => .STRM_EVENT
  | .STRM_EVENT_MISS_DROP => .STRM_EVENT
  | .STRM_EVENT_TBL_COLLIDE => .STRM_EVENT
  | .STRM_EVENT_TBL_DONE => .STRM_EVENT
  | .STRM_EVENT_CHANGE_REFUSED => .STRM_EVENT
  | .STRM_SLICE_STATUS_PINNED => .STRM_SLICE_STATUS
  | .STRM_SLICE_STATUS_VALID => .STRM_SLICE_STATUS
  | .STRM_TBL_CMD_GO => .STRM_TBL_CMD
  | .STRM_TBL_CMD_TABLE => .STRM_TBL_CMD
  | .STRM_TBL_CMD_OP => .STRM_TBL_CMD
  | .STRM_TBL_CMD_INDEX => .STRM_TBL_CMD
  | .STRM_TBL_STATUS_BUSY => .STRM_TBL_STATUS
  | .STRM_TBL_STATUS_CODE => .STRM_TBL_STATUS
  | .STRM_TBL_STATUS_INDEX => .STRM_TBL_STATUS
  | .STRM_TBL_DATA_DATA => .STRM_TBL_DATA
  | .STRM_PORT_ID_CFG_CTRL_LIMIT => .STRM_PORT_ID_CFG
  | .STRM_PORT_ID_CFG_DEF_PCP => .STRM_PORT_ID_CFG
  | .STRM_PORT_ID_CFG_PCP_MAP => .STRM_PORT_ID_CFG
  | .STRM_PORT_ID_CFG_IP_MASK => .STRM_PORT_ID_CFG
  | .STRM_PORT_ID_CFG_B_EN => .STRM_PORT_ID_CFG
  | .STRM_PORT_ID_CFG_METHOD_B => .STRM_PORT_ID_CFG
  | .STRM_PORT_ID_CFG_A_EN => .STRM_PORT_ID_CFG
  | .STRM_PORT_ID_CFG_METHOD_A => .STRM_PORT_ID_CFG
  | .STRM_PORT_DEFAULT_DEST => .STRM_PORT_DEFAULT
  | .STRM_PORT_DEFAULT_METER_EN => .STRM_PORT_DEFAULT
  | .STRM_PORT_DEFAULT_DP => .STRM_PORT_DEFAULT
  | .STRM_PORT_DEFAULT_METER => .STRM_PORT_DEFAULT
  | .MEND_CTRL_LAT_NOTICE_EN => .MEND_CTRL
  | .MEND_CTRL_MIRROR_EN => .MEND_CTRL
  | .MEND_CTRL_RUN => .MEND_CTRL
  | .MEND_EVENT_COPY_NOSEQ => .MEND_EVENT
  | .MEND_EVENT_MIRROR_DROP => .MEND_EVENT
  | .MEND_EVENT_MIRROR_STALE => .MEND_EVENT
  | .MEND_EVENT_LATENT => .MEND_EVENT
  | .MEND_EVENT_ECC_UNCORR => .MEND_EVENT
  | .MEND_EVENT_ECC_CORR => .MEND_EVENT
  | .MEND_EVENT_TBL_COLLIDE => .MEND_EVENT
  | .MEND_EVENT_TBL_DONE => .MEND_EVENT
  | .MEND_EVENT_CHANGE_REFUSED => .MEND_EVENT
  | .MEND_TBL_CMD_GO => .MEND_TBL_CMD
  | .MEND_TBL_CMD_TABLE => .MEND_TBL_CMD
  | .MEND_TBL_CMD_OP => .MEND_TBL_CMD
  | .MEND_TBL_CMD_INDEX => .MEND_TBL_CMD
  | .MEND_TBL_STATUS_BUSY => .MEND_TBL_STATUS
  | .MEND_TBL_STATUS_CODE => .MEND_TBL_STATUS
  | .MEND_TBL_DATA_DATA => .MEND_TBL_DATA
  | .MEND_LAT_LOG_VALID => .MEND_LAT_LOG
  | .MEND_LAT_LOG_OVF => .MEND_LAT_LOG
  | .MEND_LAT_LOG_FUNC => .MEND_LAT_LOG
  | .MEND_LAT_LOG_L_MS => .MEND_LAT_LOG
  | .MEND_MIRROR_STATUS_SNAP_BUSY => .MEND_MIRROR_STATUS
  | .MEND_MIRROR_STATUS_LINK_OK => .MEND_MIRROR_STATUS
  | .MEND_MIRROR_STATUS_STALE_COUNT => .MEND_MIRROR_STATUS
  | .MEND_PORT_CFG_NET_ID => .MEND_PORT_CFG
  | .MEND_PORT_CFG_LAN => .MEND_PORT_CFG
  | .MEND_PORT_CFG_HSR_RING => .MEND_PORT_CFG
  | .MEND_PORT_CFG_PRP_PORT => .MEND_PORT_CFG
  | .MEND_OWN_ADDR_VALID => .MEND_OWN_ADDR
  | .MEND_OWN_ADDR_ADDR => .MEND_OWN_ADDR
  | .SHTL_BUF_RSV_DP_FRAC1 => .SHTL_BUF_RSV
  | .SHTL_BUF_RSV_DP_FRAC2 => .SHTL_BUF_RSV
  | .SHTL_BUF_RSV_DP_FRAC3 => .SHTL_BUF_RSV
  | .SHTL_BUF_RSV_RUN => .SHTL_BUF_RSV
  | .SHTL_BUF_CTRL_RSV_CTRL_RSV => .SHTL_BUF_CTRL_RSV
  | .SHTL_BUF_STATUS_SHARED_SIZE => .SHTL_BUF_STATUS
  | .SHTL_BUF_STATUS_SHARED_USED => .SHTL_BUF_STATUS
  | .SHTL_BUF_STATUS_RSV_USED => .SHTL_BUF_STATUS
  | .SHTL_BUF_STATUS_CTRL_USED => .SHTL_BUF_STATUS
  | .SHTL_BUF_EVENT_CMD_COLLIDE => .SHTL_BUF_EVENT
  | .SHTL_BUF_EVENT_FLUSH_DONE => .SHTL_BUF_EVENT
  | .SHTL_BUF_EVENT_ECC_UNCORR => .SHTL_BUF_EVENT
  | .SHTL_BUF_EVENT_ECC_CORR => .SHTL_BUF_EVENT
  | .SHTL_BUF_EVENT_PRECEDENCE_DROP => .SHTL_BUF_EVENT
  | .SHTL_BUF_EVENT_BAD_CFG => .SHTL_BUF_EVENT
  | .SHTL_BUF_EVENT_CHANGE_REFUSED => .SHTL_BUF_EVENT
  | .SHTL_PORT_BUF_SCHED_RSV => .SHTL_PORT_BUF
  | .SHTL_PORT_BUF_RSV_USED => .SHTL_PORT_BUF
  | .SHTL_Q_CMD_GO => .SHTL_Q_CMD
  | .SHTL_Q_CMD_OP => .SHTL_Q_CMD
  | .SHTL_Q_CMD_BUSY => .SHTL_Q_CMD
  | .SHTL_Q_CMD_ALL => .SHTL_Q_CMD
  | .SHTL_Q_CMD_QUEUE => .SHTL_Q_CMD
  | .SHTL_Q_CFG_EN => .SHTL_Q_CFG
  | .SHTL_Q_CFG_ALPHA => .SHTL_Q_CFG
  | .SHTL_Q_CFG_MAX_CELLS => .SHTL_Q_CFG
  | .SHTL_Q_STAT_DEPTH_CELLS => .SHTL_Q_STAT
  | .SHTL_Q_STAT_DEPTH_FRAMES => .SHTL_Q_STAT
  | .SHTL_Q_STAT_HEAD_AGE => .SHTL_Q_STAT
  | .SHTL_Q_MAX_HIGH_CELLS => .SHTL_Q_MAX
  | .SHTL_Q_MAX_MAX_SOJOURN => .SHTL_Q_MAX
  | .SHTL_GCL_CFG_SCHED_TC => .SHTL_GCL_CFG
  | .SHTL_GCL_CFG_DOM => .SHTL_GCL_CFG
  | .SHTL_GCL_CFG_ADMIN_LEN => .SHTL_GCL_CFG
  | .SHTL_GCL_CTRL_STOP => .SHTL_GCL_CTRL
  | .SHTL_GCL_CTRL_CANCEL => .SHTL_GCL_CTRL
  | .SHTL_GCL_CTRL_COMMIT => .SHTL_GCL_CTRL
  | .SHTL_GCL_ADMIN_BASE_SEC_SEC => .SHTL_GCL_ADMIN_BASE_SEC
  | .SHTL_GCL_ADMIN_BASE_NS_NS => .SHTL_GCL_ADMIN_BASE_NS
  | .SHTL_GCL_ADMIN_BASE_NS_FRAC => .SHTL_GCL_ADMIN_BASE_NS
  | .SHTL_GCL_ADMIN_CYCLE_NS => .SHTL_GCL_ADMIN_CYCLE
  | .SHTL_GCL_ADMIN_CYCLE_FRAC => .SHTL_GCL_ADMIN_CYCLE
  | .SHTL_GCL_ADMIN_EXT_EXT => .SHTL_GCL_ADMIN_EXT
  | .SHTL_GCL_OPER_BASE_SEC_SEC => .SHTL_GCL_OPER_BASE_SEC
  | .SHTL_GCL_OPER_BASE_NS_NS => .SHTL_GCL_OPER_BASE_NS
  | .SHTL_GCL_OPER_BASE_NS_FRAC => .SHTL_GCL_OPER_BASE_NS
  | .SHTL_GCL_OPER_CYCLE_NS => .SHTL_GCL_OPER_CYCLE
  | .SHTL_GCL_OPER_CYCLE_FRAC => .SHTL_GCL_OPER_CYCLE
  | .SHTL_GCL_CHANGE_SEC_SEC => .SHTL_GCL_CHANGE_SEC
  | .SHTL_GCL_CHANGE_NS_NS => .SHTL_GCL_CHANGE_NS
  | .SHTL_GCL_CHANGE_NS_FRAC => .SHTL_GCL_CHANGE_NS
  | .SHTL_GCL_OPER_EXT_EXT => .SHTL_GCL_OPER_EXT
  | .SHTL_GCL_STATUS_RUNNING => .SHTL_GCL_STATUS
  | .SHTL_GCL_STATUS_PENDING => .SHTL_GCL_STATUS
  | .SHTL_GCL_STATUS_OPER_BANK => .SHTL_GCL_STATUS
  | .SHTL_GCL_STATUS_HOLD => .SHTL_GCL_STATUS
  | .SHTL_GCL_STATUS_GATES => .SHTL_GCL_STATUS
  | .SHTL_GCL_STATUS_OPER_LEN => .SHTL_GCL_STATUS
  | .SHTL_GCL_STATUS_ENTRY => .SHTL_GCL_STATUS
  | .SHTL_GCL_EVENT_MISSED_RESCUE => .SHTL_GCL_EVENT
  | .SHTL_GCL_EVENT_STEP_REPOSITION => .SHTL_GCL_EVENT
  | .SHTL_GCL_EVENT_COPY_MISMATCH => .SHTL_GCL_EVENT
  | .SHTL_GCL_EVENT_CANCEL_REFUSED => .SHTL_GCL_EVENT
  | .SHTL_GCL_EVENT_CANCEL_DONE => .SHTL_GCL_EVENT
  | .SHTL_GCL_EVENT_SWITCH_DONE => .SHTL_GCL_EVENT
  | .SHTL_GCL_EVENT_BAD_CFG => .SHTL_GCL_EVENT
  | .SHTL_GCL_EVENT_CHANGE_REFUSED => .SHTL_GCL_EVENT
  | .SHTL_GCL_ADMIN_ENTRY => .SHTL_GCL_ADMIN
  | .SHTL_GCL_OPER_ENTRY => .SHTL_GCL_OPER
  | .SHTL_PORT_SEL_OVH => .SHTL_PORT_SEL
  | .SHTL_Q_SHAPE_EN => .SHTL_Q_SHAPE
  | .SHTL_Q_SHAPE_RATE => .SHTL_Q_SHAPE
  | .SHTL_Q_SHAPE_BURST => .SHTL_Q_SHAPE
  | .SHTL_Q_SEL_URGENT => .SHTL_Q_SEL
  | .SHTL_Q_SEL_PARKED => .SHTL_Q_SEL
  | .SHTL_Q_SEL_WEIGHT => .SHTL_Q_SEL
  | .SHTL_Q_SEL_RESCUE_AGE => .SHTL_Q_SEL
  | .SHTL_Q_TOKENS_TOKENS => .SHTL_Q_TOKENS
  | .SELV_CTRL_RUN => .SELV_CTRL
  | .SELV_STAGE_CFG_LATE_ACT => .SELV_STAGE_CFG
  | .SELV_STAGE_CFG_LEAD => .SELV_STAGE_CFG
  | .SELV_STAGE_STATUS_BYTES => .SELV_STAGE_STATUS
  | .SELV_STAGE_STATUS_FRAMES => .SELV_STAGE_STATUS
  | .SELV_GRID_STATUS_LOCKED => .SELV_GRID_STATUS
  | .SELV_GRID_STATUS_SLEWING => .SELV_GRID_STATUS
  | .SELV_GRID_STATUS_STEP_PS => .SELV_GRID_STATUS
  | .SELV_HEM_CFG_HEM => .SELV_HEM_CFG
  | .SELV_HOLD_CFG_HOLD_ADV => .SELV_HOLD_CFG
  | .SELV_HOLD_CFG_RELEASE_ADV => .SELV_HOLD_CFG
  | .SELV_PREEMPT_CFG_EN => .SELV_PREEMPT_CFG
  | .SELV_PREEMPT_CFG_VERIFY_DIS => .SELV_PREEMPT_CFG
  | .SELV_PREEMPT_CFG_ADD_FRAG => .SELV_PREEMPT_CFG
  | .SELV_PREEMPT_CFG_PREEMPT_TC => .SELV_PREEMPT_CFG
  | .SELV_PREEMPT_CFG_VERIFY_TIME => .SELV_PREEMPT_CFG
  | .SELV_PREEMPT_STATUS_VERIFY_STATE => .SELV_PREEMPT_STATUS
  | .SELV_PREEMPT_STATUS_ACTIVE => .SELV_PREEMPT_STATUS
  | .SELV_PREEMPT_STATUS_SEAM_BUSY => .SELV_PREEMPT_STATUS
  | .SELV_PREEMPT_STATUS_ATTEMPTS => .SELV_PREEMPT_STATUS
  | .SELV_GUARD_STATUS_COPY_HOLD => .SELV_GUARD_STATUS
  | .SELV_GUARD_STATUS_DOM => .SELV_GUARD_STATUS
  | .SELV_GUARD_STATUS_SCHED_TC => .SELV_GUARD_STATUS
  | .SELV_GUARD_STATUS_OPEN => .SELV_GUARD_STATUS
  | .SELV_GUARD_ENTRY_ENTRY => .SELV_GUARD_ENTRY
  | .SELV_EVENT_COPY_BLOCK => .SELV_EVENT
  | .SELV_EVENT_GRID_UNLOCK => .SELV_EVENT
  | .SELV_EVENT_SEAM_ERR => .SELV_EVENT
  | .SELV_EVENT_VERIFY_OK => .SELV_EVENT
  | .SELV_EVENT_VERIFY_FAIL => .SELV_EVENT
  | .SELV_EVENT_GUARD_CUT => .SELV_EVENT
  | .SELV_EVENT_GUARD_BLOCK => .SELV_EVENT
  | .SELV_EVENT_STORE_FULL => .SELV_EVENT
  | .SELV_EVENT_LATE => .SELV_EVENT
  | .SELV_EVENT_CHANGE_REFUSED => .SELV_EVENT
  | .MAC_LANE_CFG_MODE => .MAC_LANE_CFG
  | .MAC_LANE_CFG_FEC => .MAC_LANE_CFG
  | .MAC_LANE_CFG_TX_POL => .MAC_LANE_CFG
  | .MAC_LANE_CFG_RX_POL => .MAC_LANE_CFG
  | .MAC_LANE_CFG_LOOP => .MAC_LANE_CFG
  | .MAC_LANE_CFG_TX_MAIN => .MAC_LANE_CFG
  | .MAC_LANE_CFG_TX_PRE => .MAC_LANE_CFG
  | .MAC_LANE_CFG_TX_POST => .MAC_LANE_CFG
  | .MAC_LANE_STATUS_FEC_LOCK => .MAC_LANE_STATUS
  | .MAC_LANE_STATUS_HI_BER => .MAC_LANE_STATUS
  | .MAC_LANE_STATUS_BLOCK_LOCK => .MAC_LANE_STATUS
  | .MAC_LANE_STATUS_CDR_LOCK => .MAC_LANE_STATUS
  | .MAC_LANE_STATUS_SIGNAL => .MAC_LANE_STATUS
  | .MAC_CFG_EN => .MAC_CFG
  | .MAC_CFG_AN_EN => .MAC_CFG
  | .MAC_CFG_FC_RX => .MAC_CFG
  | .MAC_CFG_DOWN_ACT => .MAC_CFG
  | .MAC_CFG_MAX_LEN => .MAC_CFG
  | .MAC_CFG_UP_HOLD => .MAC_CFG
  | .MAC_CFG_DOWN_FILTER => .MAC_CFG
  | .MAC_ADDR_ADDR => .MAC_ADDR
  | .MAC_LINK_STATUS_STATE => .MAC_LINK_STATUS
  | .MAC_LINK_STATUS_SPEED => .MAC_LINK_STATUS
  | .MAC_LINK_STATUS_LF => .MAC_LINK_STATUS
  | .MAC_LINK_STATUS_RF => .MAC_LINK_STATUS
  | .MAC_LINK_STATUS_PAUSE_RX_OK => .MAC_LINK_STATUS
  | .MAC_LINK_STATUS_PAUSE_TX_OK => .MAC_LINK_STATUS
  | .MAC_LINK_STATUS_PAUSED => .MAC_LINK_STATUS
  | .MAC_LINK_STATUS_PARTNER => .MAC_LINK_STATUS
  | .MAC_FC_TX_CFG_MODE => .MAC_FC_TX_CFG
  | .MAC_FC_TX_CFG_CLASSES => .MAC_FC_TX_CFG
  | .MAC_FC_TX_CFG_QUANTA => .MAC_FC_TX_CFG
  | .MAC_FC_TX_CFG_XOFF_FRAC => .MAC_FC_TX_CFG
  | .MAC_FC_TX_CFG_XON_FRAC => .MAC_FC_TX_CFG
  | .MAC_FC_TX_CMD_GO => .MAC_FC_TX_CMD
  | .MAC_FC_TX_CMD_XON => .MAC_FC_TX_CMD
  | .MAC_FC_TX_CMD_CLASSES => .MAC_FC_TX_CMD
  | .MAC_FC_TX_CMD_QUANTA => .MAC_FC_TX_CMD
  | .MAC_TAG_CFG_PUSH_TPID => .MAC_TAG_CFG
  | .MAC_TAG_CFG_UNTAG_EN => .MAC_TAG_CFG
  | .MAC_TAG_CFG_UNTAG_VID => .MAC_TAG_CFG
  | .MAC_MD_CFG_PHY_EN => .MAC_MD_CFG
  | .MAC_MD_CFG_MODE => .MAC_MD_CFG
  | .MAC_PLCA_CFG_NODE_ID => .MAC_PLCA_CFG
  | .MAC_PLCA_CFG_NODE_COUNT => .MAC_PLCA_CFG
  | .MAC_PLCA_CFG_TO_TIMER => .MAC_PLCA_CFG
  | .MAC_PLCA_CFG_BURST_CNT => .MAC_PLCA_CFG
  | .MAC_PLCA_CFG_BURST_TIMER => .MAC_PLCA_CFG
  | .MAC_PLCA_CFG_BEACON_LOSS => .MAC_PLCA_CFG
  | .MAC_MD_STATUS_PLCA_OK => .MAC_MD_STATUS
  | .MAC_MD_STATUS_LINE_FAULT => .MAC_MD_STATUS
  | .MAC_MD_STATUS_ATTEMPTS => .MAC_MD_STATUS
  | .MAC_EVENT_BAD_CFG => .MAC_EVENT
  | .MAC_EVENT_PLCA_LOST => .MAC_EVENT
  | .MAC_EVENT_EXCESS_COLL => .MAC_EVENT
  | .MAC_EVENT_LATE_COLL => .MAC_EVENT
  | .MAC_EVENT_LINE_FAULT => .MAC_EVENT
  | .MAC_EVENT_PFC_IGNORED => .MAC_EVENT
  | .MAC_EVENT_AN_REFUSED => .MAC_EVENT
  | .MAC_EVENT_REMOTE_FAULT => .MAC_EVENT
  | .MAC_EVENT_LINK_DOWN => .MAC_EVENT
  | .MAC_EVENT_LINK_UP => .MAC_EVENT
  | .MAC_EVENT_CHANGE_REFUSED => .MAC_EVENT
  | .MDP_PC_CFG_EN => .MDP_PC_CFG
  | .MDP_PC_CFG_MASTER_CAP => .MDP_PC_CFG
  | .MDP_PC_CFG_TIME_FEED => .MDP_PC_CFG
  | .MDP_PC_CFG_FALLBACK => .MDP_PC_CFG
  | .MDP_PC_CFG_NODE_ID => .MDP_PC_CFG
  | .MDP_PC_CFG_SEG_ID => .MDP_PC_CFG
  | .MDP_PC_CFG_RANK => .MDP_PC_CFG
  | .MDP_PC_CFG_ACC_WIN => .MDP_PC_CFG
  | .MDP_PC_CFG_RESP_WIN => .MDP_PC_CFG
  | .MDP_PC_CFG_LISTEN_CYCLES => .MDP_PC_CFG
  | .MDP_PC_CFG_MISS_LIMIT => .MDP_PC_CFG
  | .MDP_PC_CFG_CLAIM_SPREAD => .MDP_PC_CFG
  | .MDP_PC_TIMING_MAX_PROP => .MDP_PC_TIMING
  | .MDP_PC_TIMING_DRIFT_LIMIT => .MDP_PC_TIMING
  | .MDP_PC_TIMING_PROP_DLY => .MDP_PC_TIMING
  | .MDP_PC_TABLE_CFG_ADMIN_TABLE_ID => .MDP_PC_TABLE_CFG
  | .MDP_PC_TABLE_CFG_ADMIN_LEN => .MDP_PC_TABLE_CFG
  | .MDP_PC_SLOT_ADMIN_ENTRY => .MDP_PC_SLOT_ADMIN
  | .MDP_PC_SLOT_OPER_ENTRY => .MDP_PC_SLOT_OPER
  | .MDP_PC_STATUS_STATE => .MDP_PC_STATUS
  | .MDP_PC_STATUS_RX_IN_SYNC => .MDP_PC_STATUS
  | .MDP_PC_STATUS_ORIGIN => .MDP_PC_STATUS
  | .MDP_PC_STATUS_STALE => .MDP_PC_STATUS
  | .MDP_PC_STATUS_CYCLE => .MDP_PC_STATUS
  | .MDP_PC_TABLE_STATUS_OPER_TABLE_ID => .MDP_PC_TABLE_STATUS
  | .MDP_PC_TABLE_STATUS_MISSED => .MDP_PC_TABLE_STATUS
  | .MDP_PC_TABLE_STATUS_OPER_LEN => .MDP_PC_TABLE_STATUS
  | .MDP_PC_PRESENT_NODES => .MDP_PC_PRESENT
  | .MDP_PC_DRIFT_NODES => .MDP_PC_DRIFT
  | .MDP_EVENT_TAKEOVER => .MDP_EVENT
  | .MDP_EVENT_REINTEGRATE => .MDP_EVENT
  | .MDP_EVENT_MISMATCH => .MDP_EVENT
  | .MDP_EVENT_COLLISION => .MDP_EVENT
  | .MDP_EVENT_DRIFT => .MDP_EVENT
  | .MDP_EVENT_WINDOW_MISS => .MDP_EVENT
  | .MDP_EVENT_DUAL_MASTER => .MDP_EVENT
  | .MDP_EVENT_MASTER_LOST => .MDP_EVENT
  | .MDP_EVENT_MASTER_UP => .MDP_EVENT
  | .MDP_EVENT_BAD_TABLE => .MDP_EVENT
  | .MDP_EVENT_CHANGE_REFUSED => .MDP_EVENT
  | .HIF_RING_BASE_BASE => .HIF_RING_BASE
  | .HIF_RING_CFG_PF => .HIF_RING_CFG
  | .HIF_RING_CFG_SIZE_LOG2 => .HIF_RING_CFG
  | .HIF_RING_CFG_COMP => .HIF_RING_CFG
  | .HIF_RING_CFG_NO_SNOOP => .HIF_RING_CFG
  | .HIF_RING_CFG_NOTIFY => .HIF_RING_CFG
  | .HIF_RING_CFG_KEEP_FCS => .HIF_RING_CFG
  | .HIF_RING_CFG_CQ => .HIF_RING_CFG
  | .HIF_RING_CFG_LEDGER => .HIF_RING_CFG
  | .HIF_RING_CFG_RX_HOLD => .HIF_RING_CFG
  | .HIF_RING_CFG_RX_WAIT => .HIF_RING_CFG
  | .HIF_RING_CTRL_RESET => .HIF_RING_CTRL
  | .HIF_RING_CTRL_STOP => .HIF_RING_CTRL
  | .HIF_RING_CTRL_START => .HIF_RING_CTRL
  | .HIF_RING_STATUS_STATE => .HIF_RING_STATUS
  | .HIF_RING_STATUS_ERR => .HIF_RING_STATUS
  | .HIF_RING_STATUS_ERR_SEEN => .HIF_RING_STATUS
  | .HIF_RING_STATUS_ERR_IDX => .HIF_RING_STATUS
  | .HIF_RING_STATUS_CI => .HIF_RING_STATUS
  | .HIF_DOORBELL_PI => .HIF_DOORBELL
  | .HIF_CQ_BASE_BASE => .HIF_CQ_BASE
  | .HIF_CQ_CFG_EN => .HIF_CQ_CFG
  | .HIF_CQ_CFG_PF => .HIF_CQ_CFG
  | .HIF_CQ_CFG_SIZE_LOG2 => .HIF_CQ_CFG
  | .HIF_CQ_CFG_NO_SNOOP => .HIF_CQ_CFG
  | .HIF_CQ_CFG_SRC => .HIF_CQ_CFG
  | .HIF_CQ_CFG_MOD_TIME => .HIF_CQ_CFG
  | .HIF_CQ_CFG_MOD_COUNT => .HIF_CQ_CFG
  | .HIF_CQ_DB_ARM => .HIF_CQ_DB
  | .HIF_CQ_DB_CI => .HIF_CQ_DB
  | .HIF_CQ_STATUS_FULL => .HIF_CQ_STATUS
  | .HIF_CQ_STATUS_ARMED => .HIF_CQ_STATUS
  | .HIF_CQ_STATUS_HELD => .HIF_CQ_STATUS
  | .HIF_CQ_STATUS_PI => .HIF_CQ_STATUS
  | .HIF_LEDGER_ADDR_ADDR => .HIF_LEDGER_ADDR
  | .HIF_CFG_RO_EN => .HIF_CFG
  | .HIF_CFG_LEDGER_HOLDOFF => .HIF_CFG
  | .HIF_RX_STORE_HIGH => .HIF_RX_STORE
  | .HIF_RX_STORE_USED => .HIF_RX_STORE
  | .HIF_EVENT_LINK_DOWN => .HIF_EVENT
  | .HIF_EVENT_FLR => .HIF_EVENT
  | .HIF_EVENT_DB_IGNORED => .HIF_EVENT
  | .HIF_EVENT_TRUNCATED => .HIF_EVENT
  | .HIF_EVENT_RX_DROP => .HIF_EVENT
  | .HIF_EVENT_RING_ERR => .HIF_EVENT
  | .HIF_EVENT_CQ_FULL => .HIF_EVENT
  | .HIF_EVENT_MALFORMED => .HIF_EVENT
  | .HIF_EVENT_BAD_CFG => .HIF_EVENT
  | .HIF_EVENT_CHANGE_REFUSED => .HIF_EVENT
  | .DMA_CTRL_PCIE_LIMIT => .DMA_CTRL
  | .DMA_CTRL_DRAM_LIMIT => .DMA_CTRL
  | .DMA_CTRL_PUB_RUN => .DMA_CTRL
  | .DMA_CTRL_RUN => .DMA_CTRL
  | .DMA_CH_CFG_PF => .DMA_CH_CFG
  | .DMA_CH_CFG_PRIO => .DMA_CH_CFG
  | .DMA_CH_CFG_DESC_NS => .DMA_CH_CFG
  | .DMA_CH_CFG_RETRY_COUNT => .DMA_CH_CFG
  | .DMA_CH_CFG_CQ => .DMA_CH_CFG
  | .DMA_CH_CFG_CHAIN_LIMIT => .DMA_CH_CFG
  | .DMA_CH_RATE_RATE => .DMA_CH_RATE
  | .DMA_CH_RATE_BURST => .DMA_CH_RATE
  | .DMA_CH_WIN_DRAM_BASE => .DMA_CH_WIN
  | .DMA_CH_WIN_DRAM_LIMIT => .DMA_CH_WIN
  | .DMA_CH_WIN_LOCAL_BASE => .DMA_CH_WIN
  | .DMA_CH_WIN_LOCAL_LIMIT => .DMA_CH_WIN
  | .DMA_CH_WIN_WIN_EN => .DMA_CH_WIN
  | .DMA_CH_CTRL_RESET => .DMA_CH_CTRL
  | .DMA_CH_CTRL_STOP => .DMA_CH_CTRL
  | .DMA_CH_CTRL_START => .DMA_CH_CTRL
  | .DMA_CH_DESC_ADDR => .DMA_CH_DESC
  | .DMA_CH_DESC_SPACE => .DMA_CH_DESC
  | .DMA_CH_STATUS_STATE => .DMA_CH_STATUS
  | .DMA_CH_STATUS_HALT => .DMA_CH_STATUS
  | .DMA_CH_STATUS_WAIT_CQ => .DMA_CH_STATUS
  | .DMA_CH_STATUS_WAIT_TOK => .DMA_CH_STATUS
  | .DMA_CH_STATUS_PREEMPTED => .DMA_CH_STATUS
  | .DMA_CH_STATUS_HOPS => .DMA_CH_STATUS
  | .DMA_CH_POS_I2 => .DMA_CH_POS
  | .DMA_CH_POS_I1 => .DMA_CH_POS
  | .DMA_CH_POS_I0 => .DMA_CH_POS
  | .DMA_PUB_CMD_GO => .DMA_PUB_CMD
  | .DMA_PUB_CMD_OP => .DMA_PUB_CMD
  | .DMA_PUB_CMD_INDEX => .DMA_PUB_CMD
  | .DMA_PUB_STATUS_BUSY => .DMA_PUB_STATUS
  | .DMA_PUB_STATUS_CODE => .DMA_PUB_STATUS
  | .DMA_PUB_DATA_DATA => .DMA_PUB_DATA
  | .DMA_EVENT_PUB_COLLIDE => .DMA_EVENT
  | .DMA_EVENT_PUB_DONE => .DMA_EVENT
  | .DMA_EVENT_PUB_TORN => .DMA_EVENT
  | .DMA_EVENT_PUB_LOSS => .DMA_EVENT
  | .DMA_EVENT_MALFORMED => .DMA_EVENT
  | .DMA_EVENT_BUS_ERR => .DMA_EVENT
  | .DMA_EVENT_LOOP => .DMA_EVENT
  | .DMA_EVENT_BAD_CFG => .DMA_EVENT
  | .DMA_EVENT_CHANGE_REFUSED => .DMA_EVENT
  | .INTC_CTRL_EN => .INTC_CTRL
  | .INTC_CTRL_FALLBACK => .INTC_CTRL
  | .INTC_SRC_CFG_TKIND => .INTC_SRC_CFG
  | .INTC_SRC_CFG_TRIGGER => .INTC_SRC_CFG
  | .INTC_SRC_CFG_PRIO => .INTC_SRC_CFG
  | .INTC_SRC_CFG_TARGET => .INTC_SRC_CFG
  | .INTC_SRC_STATUS_DSTATE => .INTC_SRC_STATUS
  | .INTC_SRC_STATUS_LEVEL => .INTC_SRC_STATUS
  | .INTC_SRC_STATUS_PEND => .INTC_SRC_STATUS
  | .INTC_SRC_STATUS_HOLDER => .INTC_SRC_STATUS
  | .INTC_ENABLE_EN => .INTC_ENABLE
  | .INTC_PENDING_PEND => .INTC_PENDING
  | .INTC_PEND_CNT_COUNT => .INTC_PEND_CNT
  | .INTC_SW_SET_SOURCE => .INTC_SW_SET
  | .INTC_HOST_EOI_ID => .INTC_HOST_EOI
  | .INTC_CORE_CFG_EN => .INTC_CORE_CFG
  | .INTC_CORE_CFG_THRESH => .INTC_CORE_CFG
  | .INTC_CORE_STATUS_STATE => .INTC_CORE_STATUS
  | .INTC_CORE_STATUS_MASK => .INTC_CORE_STATUS
  | .INTC_CORE_STATUS_ACTIVE => .INTC_CORE_STATUS
  | .INTC_CORE_STATUS_RUN_PRIO => .INTC_CORE_STATUS
  | .INTC_CORE_STATUS_DELIVERED => .INTC_CORE_STATUS
  | .INTC_CORE_CLAIM_ID => .INTC_CORE_CLAIM
  | .INTC_CORE_EOI_ID => .INTC_CORE_EOI
  | .INTC_EVENT_NO_TARGET => .INTC_EVENT
  | .INTC_EVENT_FALLBACK => .INTC_EVENT
  | .INTC_EVENT_BAD_EOI => .INTC_EVENT
  | .INTC_EVENT_BAD_CFG => .INTC_EVENT
  | .BOOT_STATUS_STATE => .BOOT_STATUS
  | .BOOT_STATUS_STEP => .BOOT_STATUS
  | .BOOT_STATUS_SLOT => .BOOT_STATUS
  | .BOOT_STATUS_ACQ_SHORT => .BOOT_STATUS
  | .BOOT_STATUS_REC_FAIL => .BOOT_STATUS
  | .BOOT_STATUS_SKIP => .BOOT_STATUS
  | .BOOT_STATUS_ALT => .BOOT_STATUS
  | .BOOT_STATUS_BLOCKED => .BOOT_STATUS
  | .BOOT_STATUS_DEV_ID => .BOOT_STATUS
  | .BOOT_CTRL_KEY => .BOOT_CTRL
  | .BOOT_CTRL_PREF_SLOT => .BOOT_CTRL
  | .BOOT_CTRL_CLEAR_MARKS => .BOOT_CTRL
  | .BOOT_CTRL_CLEAR_FAILS => .BOOT_CTRL
  | .BOOT_CTRL_RESET => .BOOT_CTRL
  | .BOOT_REC_DATA => .BOOT_REC
  | .BOOT_BASTE_CMD_GO => .BOOT_BASTE_CMD
  | .BOOT_BASTE_CMD_OP => .BOOT_BASTE_CMD
  | .BOOT_BASTE_CMD_GROUP => .BOOT_BASTE_CMD
  | .BOOT_BASTE_CMD_DOM => .BOOT_BASTE_CMD
  | .BOOT_BASTE_CMD_WIDTH => .BOOT_BASTE_CMD
  | .BOOT_BASTE_CMD_ADDR => .BOOT_BASTE_CMD
  | .BOOT_BASTE_DATA_DATA => .BOOT_BASTE_DATA
  | .BOOT_BASTE_TIME_SEC_SEC => .BOOT_BASTE_TIME_SEC
  | .BOOT_BASTE_TIME_NS_NS => .BOOT_BASTE_TIME_NS
  | .BOOT_BASTE_STATUS_BUSY => .BOOT_BASTE_STATUS
  | .BOOT_BASTE_STATUS_PEEK_VALID => .BOOT_BASTE_STATUS
  | .BOOT_BASTE_STATUS_CODE => .BOOT_BASTE_STATUS
  | .BOOT_BASTE_STATUS_FREE => .BOOT_BASTE_STATUS
  | .BOOT_BASTE_GROUP_STATE => .BOOT_BASTE_GROUP
  | .BOOT_BASTE_GROUP_COUNT => .BOOT_BASTE_GROUP
  | .BOOT_BASTE_GROUP_FAIL_ADDR => .BOOT_BASTE_GROUP
  | .BOOT_AWT_CMD_GO => .BOOT_AWT_CMD
  | .BOOT_AWT_CMD_OP => .BOOT_AWT_CMD
  | .BOOT_AWT_CMD_INDEX => .BOOT_AWT_CMD
  | .BOOT_AWT_STATUS_BUSY => .BOOT_AWT_STATUS
  | .BOOT_AWT_STATUS_CODE => .BOOT_AWT_STATUS
  | .BOOT_AWT_DATA_DATA => .BOOT_AWT_DATA
  | .BOOT_PROT_GEN_GEN => .BOOT_PROT_GEN
  | .BOOT_PF_PRIV_LEVEL => .BOOT_PF_PRIV
  | .BOOT_AWT_DENY_LOG_VALID => .BOOT_AWT_DENY_LOG
  | .BOOT_AWT_DENY_LOG_PF => .BOOT_AWT_DENY_LOG
  | .BOOT_AWT_DENY_LOG_WRITE => .BOOT_AWT_DENY_LOG
  | .BOOT_AWT_DENY_LOG_BAR => .BOOT_AWT_DENY_LOG
  | .BOOT_AWT_DENY_LOG_OFFSET => .BOOT_AWT_DENY_LOG
  | .BOOT_NVM_CMD_GO => .BOOT_NVM_CMD
  | .BOOT_NVM_CMD_OP => .BOOT_NVM_CMD
  | .BOOT_NVM_CMD_KEY_SLOT => .BOOT_NVM_CMD
  | .BOOT_NVM_CMD_SECTOR => .BOOT_NVM_CMD
  | .BOOT_NVM_STATUS_BUSY => .BOOT_NVM_STATUS
  | .BOOT_NVM_STATUS_CODE => .BOOT_NVM_STATUS
  | .BOOT_EVENT_NVM_ERR => .BOOT_EVENT
  | .BOOT_EVENT_NVM_DONE => .BOOT_EVENT
  | .BOOT_EVENT_AWT_DENY => .BOOT_EVENT
  | .BOOT_EVENT_LATE_COMMIT => .BOOT_EVENT
  | .BOOT_EVENT_GROUP_WARN => .BOOT_EVENT
  | .BOOT_EVENT_GROUP_FAIL => .BOOT_EVENT
  | .BOOT_EVENT_GROUP_DONE => .BOOT_EVENT
  | .BOOT_EVENT_BASTE_COLLIDE => .BOOT_EVENT
  | .BOOT_EVENT_BASTE_REFUSED => .BOOT_EVENT
  | .THIM_CTRL_RESTART => .THIM_CTRL
  | .THIM_CTRL_RESTART_MAX => .THIM_CTRL
  | .THIM_CTRL_RESTART_DELAY => .THIM_CTRL
  | .THIM_CTRL_SWAP_ON_DEGRADED => .THIM_CTRL
  | .THIM_CTRL_LATENT_INT => .THIM_CTRL
  | .THIM_STATUS_HANDLING => .THIM_STATUS
  | .THIM_STATUS_QUEUED => .THIM_STATUS
  | .THIM_STATUS_LOST => .THIM_STATUS
  | .THIM_STATUS_DUMP => .THIM_STATUS
  | .THIM_STATUS_WORST => .THIM_STATUS
  | .THIM_STATUS_RESTART_CNT => .THIM_STATUS
  | .THIM_FAULT_LOG_RECORD => .THIM_FAULT_LOG
  | .THIM_ACK_SEV => .THIM_ACK
  | .THIM_WDOG_KEY => .THIM_WDOG
  | .THIM_INJECT_GO => .THIM_INJECT
  | .THIM_INJECT_SM => .THIM_INJECT
  | .THIM_DUMP_BASE_SPACE => .THIM_DUMP_BASE
  | .THIM_DUMP_BASE_ADDR => .THIM_DUMP_BASE
  | .THIM_LATENT_STATUS_LAST_S => .THIM_LATENT_STATUS
  | .THIM_LATENT_STATUS_FAILED => .THIM_LATENT_STATUS
  | .THIM_EVENT_BAD_CFG => .THIM_EVENT
  | .THIM_EVENT_DUMP_DONE => .THIM_EVENT
  | .THIM_EVENT_LATENT_FAIL => .THIM_EVENT
  | .THIM_EVENT_LOG_OVF => .THIM_EVENT
  | .THIM_EVENT_DEGRADED => .THIM_EVENT
  | .THIM_EVENT_NOTICE => .THIM_EVENT
  | .PAIR_CFG_EN => .PAIR_CFG
  | .PAIR_CFG_SWAP_DOM => .PAIR_CFG
  | .PAIR_CFG_GM_DOMAINS => .PAIR_CFG
  | .PAIR_CFG_MDP_LEAD => .PAIR_CFG
  | .PAIR_STATUS_ROLE => .PAIR_STATUS
  | .PAIR_STATUS_PEER => .PAIR_STATUS
  | .PAIR_STATUS_TOKEN_IN => .PAIR_STATUS
  | .PAIR_STATUS_TOKEN_DRV => .PAIR_STATUS
  | .PAIR_STATUS_FS_IN => .PAIR_STATUS
  | .PAIR_STATUS_BEAT_OK => .PAIR_STATUS
  | .PAIR_STATUS_PL1_OK => .PAIR_STATUS
  | .PAIR_STATUS_PL0_OK => .PAIR_STATUS
  | .PAIR_STATUS_SIDE => .PAIR_STATUS
  | .PAIR_STATUS_PEER_ID => .PAIR_STATUS
  | .PAIR_STATUS_PEER_STATE => .PAIR_STATUS
  | .PAIR_STATUS_PEER_WORST => .PAIR_STATUS
  | .PAIR_DRILL_CFG_PERIOD => .PAIR_DRILL_CFG
  | .PAIR_DRILL_CFG_LEAD_MS => .PAIR_DRILL_CFG
  | .PAIR_SWAP_CMD_GO => .PAIR_SWAP_CMD
  | .PAIR_SWAP_STATUS_PENDING => .PAIR_SWAP_STATUS
  | .PAIR_SWAP_STATUS_RESULT => .PAIR_SWAP_STATUS
  | .PAIR_SWAP_STATUS_POSTPONED => .PAIR_SWAP_STATUS
  | .PAIR_SWAP_STATUS_DRILLS => .PAIR_SWAP_STATUS
  | .PAIR_SWAP_STATUS_T_MS => .PAIR_SWAP_STATUS
  | .PAIR_PEER_CMD_GO => .PAIR_PEER_CMD
  | .PAIR_PEER_CMD_OP => .PAIR_PEER_CMD
  | .PAIR_PEER_CMD_PAGE => .PAIR_PEER_CMD
  | .PAIR_PEER_STATUS_BUSY => .PAIR_PEER_STATUS
  | .PAIR_PEER_STATUS_CODE => .PAIR_PEER_STATUS
  | .PAIR_EVENT_MIRROR_MISMATCH => .PAIR_EVENT
  | .PAIR_EVENT_LANE_DOWN => .PAIR_EVENT
  | .PAIR_EVENT_TOKEN_FAULT => .PAIR_EVENT
  | .PAIR_EVENT_PEER_UNKNOWN => .PAIR_EVENT
  | .PAIR_EVENT_PEER_LOST => .PAIR_EVENT
  | .PAIR_EVENT_SWAP_POSTPONED => .PAIR_EVENT
  | .PAIR_EVENT_SWAP_DONE => .PAIR_EVENT
  | .PAIR_EVENT_TAKEOVER => .PAIR_EVENT
  | .PAIR_EVENT_BAD_CFG => .PAIR_EVENT
  | .PAIR_EVENT_CHANGE_REFUSED => .PAIR_EVENT
  | .TAPE_CNT_CMD_GO => .TAPE_CNT_CMD
  | .TAPE_CNT_CMD_OP => .TAPE_CNT_CMD
  | .TAPE_CNT_CMD_GROUP => .TAPE_CNT_CMD
  | .TAPE_CNT_CMD_ALL => .TAPE_CNT_CMD
  | .TAPE_CNT_CMD_INDEX => .TAPE_CNT_CMD
  | .TAPE_CNT_STATUS_BUSY => .TAPE_CNT_STATUS
  | .TAPE_CNT_STATUS_CODE => .TAPE_CNT_STATUS
  | .TAPE_CNT_DATA_WORD => .TAPE_CNT_DATA
  | .TAPE_CTRL_HOST_CHALK_EN => .TAPE_CTRL
  | .TAPE_CTRL_HOST_K => .TAPE_CTRL
  | .TAPE_CTRL_CHALK_RUN => .TAPE_CTRL
  | .TAPE_TCNT_BASE_EN => .TAPE_TCNT_BASE
  | .TAPE_TCNT_BASE_BASE => .TAPE_TCNT_BASE
  | .TAPE_PEC_CFG_EN => .TAPE_PEC_CFG
  | .TAPE_PEC_CFG_MODE => .TAPE_PEC_CFG
  | .TAPE_PEC_CFG_EVENT => .TAPE_PEC_CFG
  | .TAPE_PEC_CFG_TC_MASK => .TAPE_PEC_CFG
  | .TAPE_PEC_CFG_QUAL => .TAPE_PEC_CFG
  | .TAPE_PEC_CFG_QUAL_EN => .TAPE_PEC_CFG
  | .TAPE_CHALK_CFG_EN => .TAPE_CHALK_CFG
  | .TAPE_CHALK_CFG_K => .TAPE_CHALK_CFG
  | .TAPE_DUMP_CFG_EN => .TAPE_DUMP_CFG
  | .TAPE_DUMP_CFG_DOM => .TAPE_DUMP_CFG
  | .TAPE_DUMP_CFG_BOLT_MASK => .TAPE_DUMP_CFG
  | .TAPE_DUMP_CFG_SEL => .TAPE_DUMP_CFG
  | .TAPE_DUMP_CFG_PERIOD => .TAPE_DUMP_CFG
  | .TAPE_OUT_BASE_BASE => .TAPE_OUT_BASE
  | .TAPE_OUT_CFG_SPACE => .TAPE_OUT_CFG
  | .TAPE_OUT_CFG_PF => .TAPE_OUT_CFG
  | .TAPE_OUT_CFG_WRAP => .TAPE_OUT_CFG
  | .TAPE_OUT_CFG_NO_SNOOP => .TAPE_OUT_CFG
  | .TAPE_OUT_CFG_SIZE_LOG2 => .TAPE_OUT_CFG
  | .TAPE_OUT_PI_PI => .TAPE_OUT_PI
  | .TAPE_OUT_CI_CI => .TAPE_OUT_CI
  | .TAPE_EVENT_CNT_DONE => .TAPE_EVENT
  | .TAPE_EVENT_OVF => .TAPE_EVENT
  | .TAPE_EVENT_CHALK_LOST => .TAPE_EVENT
  | .TAPE_EVENT_OUT_LOST => .TAPE_EVENT
  | .TAPE_EVENT_DUMP_SKIP => .TAPE_EVENT
  | .TAPE_EVENT_BAD_CFG => .TAPE_EVENT
  | .TAPE_EVENT_CHANGE_REFUSED => .TAPE_EVENT
  | .DEV_TEMP_STATUS_VALID => .DEV_TEMP_STATUS
  | .DEV_TEMP_STATUS_IGNORED => .DEV_TEMP_STATUS
  | .DEV_TEMP_STATUS_TEMP => .DEV_TEMP_STATUS
  | .DEV_DBG_SEL_BOLT => .DEV_DBG_SEL

/-- The fields of each register, from high to low (R7). -/
def Reg.fields : Reg → List Fl
  | .DEV_PACE_CTRL => [.DEV_PACE_CTRL_LOW_THRESH, .DEV_PACE_CTRL_CLR_LOWEST, .DEV_PACE_CTRL_LOW_NOTICE_EN]
  | .DEV_PACE_STATUS => [.DEV_PACE_STATUS_LOWEST, .DEV_PACE_STATUS_MIN_1US, .DEV_PACE_STATUS_AVG_1US]
  | .DEV_PACE_EVENT => [.DEV_PACE_EVENT_FLOOR, .DEV_PACE_EVENT_LOW]
  | .TPL_OSC_STATUS => [.TPL_OSC_STATUS_REF_SRC, .TPL_OSC_STATUS_TPLL1_LOCK, .TPL_OSC_STATUS_TPLL0_LOCK, .TPL_OSC_STATUS_FREQ]
  | .TPL_VOTE_STATUS => [.TPL_VOTE_STATUS_EXCL]
  | .TPL_EVENT => [.TPL_EVENT_PORT_COPY, .TPL_EVENT_SNAP_DONE, .TPL_EVENT_OSC_SWITCH, .TPL_EVENT_VOTE_EXCLUDE, .TPL_EVENT_VOTE_REPAIR, .TPL_EVENT_BAD_CFG, .TPL_EVENT_CHANGE_REFUSED]
  | .TPL_SNAP_CTRL => [.TPL_SNAP_CTRL_BUSY, .TPL_SNAP_CTRL_TRIGGER]
  | .TPL_SNAP_SEC => [.TPL_SNAP_SEC_SEC]
  | .TPL_SNAP_NS => [.TPL_SNAP_NS_NS, .TPL_SNAP_NS_FRAC]
  | .TPL_DOM_CFG => [.TPL_DOM_CFG_EN, .TPL_DOM_CFG_MODE, .TPL_DOM_CFG_UNLOCK, .TPL_DOM_CFG_HOLD_AVG_LOG2, .TPL_DOM_CFG_HOLD_TIMEOUT, .TPL_DOM_CFG_REACQ_COUNT, .TPL_DOM_CFG_REACQ_THRESH]
  | .TPL_DOM_PARAM => [.TPL_DOM_PARAM_KP, .TPL_DOM_PARAM_KI, .TPL_DOM_PARAM_T_CORR, .TPL_DOM_PARAM_SLEW, .TPL_DOM_PARAM_RATE_LIMIT]
  | .TPL_DOM_HOLD => [.TPL_DOM_HOLD_RATE_UNC, .TPL_DOM_HOLD_DRIFT]
  | .TPL_DOM_SAMPLE_OFS => [.TPL_DOM_SAMPLE_OFS_OFS]
  | .TPL_DOM_SAMPLE_RATIO => [.TPL_DOM_SAMPLE_RATIO_RATIO]
  | .TPL_DOM_SET_SEC => [.TPL_DOM_SET_SEC_SEC]
  | .TPL_DOM_SET_NS => [.TPL_DOM_SET_NS_NS, .TPL_DOM_SET_NS_FRAC]
  | .TPL_DOM_STATUS => [.TPL_DOM_STATUS_STATE, .TPL_DOM_STATUS_HOLD_EST, .TPL_DOM_STATUS_LAST_OFS]
  | .TPL_DOM_RATE => [.TPL_DOM_RATE_RATE]
  | .TPL_PORT_TS => [.TPL_PORT_TS_TX_LAT, .TPL_PORT_TS_RX_LAT]
  | .TPL_PORT_TS_CFG => [.TPL_PORT_TS_CFG_LINK_DLY, .TPL_PORT_TS_CFG_TS_DOM, .TPL_PORT_TS_CFG_TC_MODE]
  | .TPL_OUT_CFG => [.TPL_OUT_CFG_WIDTH, .TPL_OUT_CFG_DOM, .TPL_OUT_CFG_COUNT, .TPL_OUT_CFG_ARM, .TPL_OUT_CFG_LEAD_ONLY, .TPL_OUT_CFG_ALIGN_SEC, .TPL_OUT_CFG_INVERT, .TPL_OUT_CFG_MODE]
  | .TPL_OUT_START_SEC => [.TPL_OUT_START_SEC_SEC]
  | .TPL_OUT_START_NS => [.TPL_OUT_START_NS_NS, .TPL_OUT_START_NS_FRAC]
  | .TPL_OUT_PERIOD => [.TPL_OUT_PERIOD_NS, .TPL_OUT_PERIOD_FRAC]
  | .TPL_OUT_STATUS => [.TPL_OUT_STATUS_MISSED, .TPL_OUT_STATUS_LATE, .TPL_OUT_STATUS_ACTIVE]
  | .TPL_CAP_CFG => [.TPL_CAP_CFG_CABLE_DLY, .TPL_CAP_CFG_FILTER, .TPL_CAP_CFG_DOM, .TPL_CAP_CFG_SERVO_FEED, .TPL_CAP_CFG_EDGE, .TPL_CAP_CFG_OVF, .TPL_CAP_CFG_EN]
  | .TPL_CAP_SEC => [.TPL_CAP_SEC_VALID, .TPL_CAP_SEC_RISE, .TPL_CAP_SEC_LEVEL, .TPL_CAP_SEC_SEC]
  | .TPL_CAP_NS => [.TPL_CAP_NS_NS, .TPL_CAP_NS_FRAC]
  | .TPL_DOM_MAP => [.TPL_DOM_MAP_INST, .TPL_DOM_MAP_TR_L2, .TPL_DOM_MAP_TR_IP4, .TPL_DOM_MAP_TR_IP6, .TPL_DOM_MAP_DELAY, .TPL_DOM_MAP_STEP_TX, .TPL_DOM_MAP_SDO_ID, .TPL_DOM_MAP_DOMAIN_NUMBER]
  | .TPL_SYNC_CFG => [.TPL_SYNC_CFG_SLB, .TPL_SYNC_CFG_RESUME_COUNT, .TPL_SYNC_CFG_REQ_ACQ, .TPL_SYNC_CFG_GM]
  | .TPL_SYNC_STATUS => [.TPL_SYNC_STATUS_LOST, .TPL_SYNC_STATUS_IN_SYNC]
  | .STRM_CTRL => [.STRM_CTRL_NEG_LIFE, .STRM_CTRL_DRAMLESS, .STRM_CTRL_RUN]
  | .STRM_HASH_SEED => [.STRM_HASH_SEED_SEED2, .STRM_HASH_SEED_SEED1]
  | .STRM_TBL_BASE => [.STRM_TBL_BASE_BASE]
  | .STRM_DIR_BASE => [.STRM_DIR_BASE_BASE]
  | .STRM_MISS_CFG => [.STRM_MISS_CFG_PROT_TC, .STRM_MISS_CFG_RSV_CELLS]
  | .STRM_MISS_STATUS => [.STRM_MISS_STATUS_HIGH_WATER, .STRM_MISS_STATUS_PENDING, .STRM_MISS_STATUS_OCCUPANCY]
  | .STRM_EVENT => [.STRM_EVENT_DRAM_ERR, .STRM_EVENT_ECC_UNCORR, .STRM_EVENT_ECC_CORR, .STRM_EVENT_MISS_DROP, .STRM_EVENT_TBL_COLLIDE, .STRM_EVENT_TBL_DONE, .STRM_EVENT_CHANGE_REFUSED]
  | .STRM_SLICE_STATUS => [.STRM_SLICE_STATUS_PINNED, .STRM_SLICE_STATUS_VALID]
  | .STRM_TBL_CMD => [.STRM_TBL_CMD_GO, .STRM_TBL_CMD_TABLE, .STRM_TBL_CMD_OP, .STRM_TBL_CMD_INDEX]
  | .STRM_TBL_STATUS => [.STRM_TBL_STATUS_BUSY, .STRM_TBL_STATUS_CODE, .STRM_TBL_STATUS_INDEX]
  | .STRM_TBL_DATA => [.STRM_TBL_DATA_DATA]
  | .STRM_PORT_ID_CFG => [.STRM_PORT_ID_CFG_CTRL_LIMIT, .STRM_PORT_ID_CFG_DEF_PCP, .STRM_PORT_ID_CFG_PCP_MAP, .STRM_PORT_ID_CFG_IP_MASK, .STRM_PORT_ID_CFG_B_EN, .STRM_PORT_ID_CFG_METHOD_B, .STRM_PORT_ID_CFG_A_EN, .STRM_PORT_ID_CFG_METHOD_A]
  | .STRM_PORT_DEFAULT => [.STRM_PORT_DEFAULT_DEST, .STRM_PORT_DEFAULT_METER_EN, .STRM_PORT_DEFAULT_DP, .STRM_PORT_DEFAULT_METER]
  | .MEND_CTRL => [.MEND_CTRL_LAT_NOTICE_EN, .MEND_CTRL_MIRROR_EN, .MEND_CTRL_RUN]
  | .MEND_EVENT => [.MEND_EVENT_COPY_NOSEQ, .MEND_EVENT_MIRROR_DROP, .MEND_EVENT_MIRROR_STALE, .MEND_EVENT_LATENT, .MEND_EVENT_ECC_UNCORR, .MEND_EVENT_ECC_CORR, .MEND_EVENT_TBL_COLLIDE, .MEND_EVENT_TBL_DONE, .MEND_EVENT_CHANGE_REFUSED]
  | .MEND_TBL_CMD => [.MEND_TBL_CMD_GO, .MEND_TBL_CMD_TABLE, .MEND_TBL_CMD_OP, .MEND_TBL_CMD_INDEX]
  | .MEND_TBL_STATUS => [.MEND_TBL_STATUS_BUSY, .MEND_TBL_STATUS_CODE]
  | .MEND_TBL_DATA => [.MEND_TBL_DATA_DATA]
  | .MEND_LAT_LOG => [.MEND_LAT_LOG_VALID, .MEND_LAT_LOG_OVF, .MEND_LAT_LOG_FUNC, .MEND_LAT_LOG_L_MS]
  | .MEND_MIRROR_STATUS => [.MEND_MIRROR_STATUS_SNAP_BUSY, .MEND_MIRROR_STATUS_LINK_OK, .MEND_MIRROR_STATUS_STALE_COUNT]
  | .MEND_PORT_CFG => [.MEND_PORT_CFG_NET_ID, .MEND_PORT_CFG_LAN, .MEND_PORT_CFG_HSR_RING, .MEND_PORT_CFG_PRP_PORT]
  | .MEND_OWN_ADDR => [.MEND_OWN_ADDR_VALID, .MEND_OWN_ADDR_ADDR]
  | .SHTL_BUF_RSV => [.SHTL_BUF_RSV_DP_FRAC1, .SHTL_BUF_RSV_DP_FRAC2, .SHTL_BUF_RSV_DP_FRAC3, .SHTL_BUF_RSV_RUN]
  | .SHTL_BUF_CTRL_RSV => [.SHTL_BUF_CTRL_RSV_CTRL_RSV]
  | .SHTL_BUF_STATUS => [.SHTL_BUF_STATUS_SHARED_SIZE, .SHTL_BUF_STATUS_SHARED_USED, .SHTL_BUF_STATUS_RSV_USED, .SHTL_BUF_STATUS_CTRL_USED]
  | .SHTL_BUF_EVENT => [.SHTL_BUF_EVENT_CMD_COLLIDE, .SHTL_BUF_EVENT_FLUSH_DONE, .SHTL_BUF_EVENT_ECC_UNCORR, .SHTL_BUF_EVENT_ECC_CORR, .SHTL_BUF_EVENT_PRECEDENCE_DROP, .SHTL_BUF_EVENT_BAD_CFG, .SHTL_BUF_EVENT_CHANGE_REFUSED]
  | .SHTL_PORT_BUF => [.SHTL_PORT_BUF_SCHED_RSV, .SHTL_PORT_BUF_RSV_USED]
  | .SHTL_Q_CMD => [.SHTL_Q_CMD_GO, .SHTL_Q_CMD_OP, .SHTL_Q_CMD_BUSY, .SHTL_Q_CMD_ALL, .SHTL_Q_CMD_QUEUE]
  | .SHTL_Q_CFG => [.SHTL_Q_CFG_EN, .SHTL_Q_CFG_ALPHA, .SHTL_Q_CFG_MAX_CELLS]
  | .SHTL_Q_STAT => [.SHTL_Q_STAT_DEPTH_CELLS, .SHTL_Q_STAT_DEPTH_FRAMES, .SHTL_Q_STAT_HEAD_AGE]
  | .SHTL_Q_MAX => [.SHTL_Q_MAX_HIGH_CELLS, .SHTL_Q_MAX_MAX_SOJOURN]
  | .SHTL_GCL_CFG => [.SHTL_GCL_CFG_SCHED_TC, .SHTL_GCL_CFG_DOM, .SHTL_GCL_CFG_ADMIN_LEN]
  | .SHTL_GCL_CTRL => [.SHTL_GCL_CTRL_STOP, .SHTL_GCL_CTRL_CANCEL, .SHTL_GCL_CTRL_COMMIT]
  | .SHTL_GCL_ADMIN_BASE_SEC => [.SHTL_GCL_ADMIN_BASE_SEC_SEC]
  | .SHTL_GCL_ADMIN_BASE_NS => [.SHTL_GCL_ADMIN_BASE_NS_NS, .SHTL_GCL_ADMIN_BASE_NS_FRAC]
  | .SHTL_GCL_ADMIN_CYCLE => [.SHTL_GCL_ADMIN_CYCLE_NS, .SHTL_GCL_ADMIN_CYCLE_FRAC]
  | .SHTL_GCL_ADMIN_EXT => [.SHTL_GCL_ADMIN_EXT_EXT]
  | .SHTL_GCL_OPER_BASE_SEC => [.SHTL_GCL_OPER_BASE_SEC_SEC]
  | .SHTL_GCL_OPER_BASE_NS => [.SHTL_GCL_OPER_BASE_NS_NS, .SHTL_GCL_OPER_BASE_NS_FRAC]
  | .SHTL_GCL_OPER_CYCLE => [.SHTL_GCL_OPER_CYCLE_NS, .SHTL_GCL_OPER_CYCLE_FRAC]
  | .SHTL_GCL_CHANGE_SEC => [.SHTL_GCL_CHANGE_SEC_SEC]
  | .SHTL_GCL_CHANGE_NS => [.SHTL_GCL_CHANGE_NS_NS, .SHTL_GCL_CHANGE_NS_FRAC]
  | .SHTL_GCL_OPER_EXT => [.SHTL_GCL_OPER_EXT_EXT]
  | .SHTL_GCL_STATUS => [.SHTL_GCL_STATUS_RUNNING, .SHTL_GCL_STATUS_PENDING, .SHTL_GCL_STATUS_OPER_BANK, .SHTL_GCL_STATUS_HOLD, .SHTL_GCL_STATUS_GATES, .SHTL_GCL_STATUS_OPER_LEN, .SHTL_GCL_STATUS_ENTRY]
  | .SHTL_GCL_EVENT => [.SHTL_GCL_EVENT_MISSED_RESCUE, .SHTL_GCL_EVENT_STEP_REPOSITION, .SHTL_GCL_EVENT_COPY_MISMATCH, .SHTL_GCL_EVENT_CANCEL_REFUSED, .SHTL_GCL_EVENT_CANCEL_DONE, .SHTL_GCL_EVENT_SWITCH_DONE, .SHTL_GCL_EVENT_BAD_CFG, .SHTL_GCL_EVENT_CHANGE_REFUSED]
  | .SHTL_GCL_ADMIN => [.SHTL_GCL_ADMIN_ENTRY]
  | .SHTL_GCL_OPER => [.SHTL_GCL_OPER_ENTRY]
  | .SHTL_PORT_SEL => [.SHTL_PORT_SEL_OVH]
  | .SHTL_Q_SHAPE => [.SHTL_Q_SHAPE_EN, .SHTL_Q_SHAPE_RATE, .SHTL_Q_SHAPE_BURST]
  | .SHTL_Q_SEL => [.SHTL_Q_SEL_URGENT, .SHTL_Q_SEL_PARKED, .SHTL_Q_SEL_WEIGHT, .SHTL_Q_SEL_RESCUE_AGE]
  | .SHTL_Q_TOKENS => [.SHTL_Q_TOKENS_TOKENS]
  | .SELV_CTRL => [.SELV_CTRL_RUN]
  | .SELV_STAGE_CFG => [.SELV_STAGE_CFG_LATE_ACT, .SELV_STAGE_CFG_LEAD]
  | .SELV_STAGE_STATUS => [.SELV_STAGE_STATUS_BYTES, .SELV_STAGE_STATUS_FRAMES]
  | .SELV_GRID_STATUS => [.SELV_GRID_STATUS_LOCKED, .SELV_GRID_STATUS_SLEWING, .SELV_GRID_STATUS_STEP_PS]
  | .SELV_HEM_CFG => [.SELV_HEM_CFG_HEM]
  | .SELV_HOLD_CFG => [.SELV_HOLD_CFG_HOLD_ADV, .SELV_HOLD_CFG_RELEASE_ADV]
  | .SELV_PREEMPT_CFG => [.SELV_PREEMPT_CFG_EN, .SELV_PREEMPT_CFG_VERIFY_DIS, .SELV_PREEMPT_CFG_ADD_FRAG, .SELV_PREEMPT_CFG_PREEMPT_TC, .SELV_PREEMPT_CFG_VERIFY_TIME]
  | .SELV_PREEMPT_STATUS => [.SELV_PREEMPT_STATUS_VERIFY_STATE, .SELV_PREEMPT_STATUS_ACTIVE, .SELV_PREEMPT_STATUS_SEAM_BUSY, .SELV_PREEMPT_STATUS_ATTEMPTS]
  | .SELV_GUARD_STATUS => [.SELV_GUARD_STATUS_COPY_HOLD, .SELV_GUARD_STATUS_DOM, .SELV_GUARD_STATUS_SCHED_TC, .SELV_GUARD_STATUS_OPEN]
  | .SELV_GUARD_ENTRY => [.SELV_GUARD_ENTRY_ENTRY]
  | .SELV_EVENT => [.SELV_EVENT_COPY_BLOCK, .SELV_EVENT_GRID_UNLOCK, .SELV_EVENT_SEAM_ERR, .SELV_EVENT_VERIFY_OK, .SELV_EVENT_VERIFY_FAIL, .SELV_EVENT_GUARD_CUT, .SELV_EVENT_GUARD_BLOCK, .SELV_EVENT_STORE_FULL, .SELV_EVENT_LATE, .SELV_EVENT_CHANGE_REFUSED]
  | .MAC_LANE_CFG => [.MAC_LANE_CFG_MODE, .MAC_LANE_CFG_FEC, .MAC_LANE_CFG_TX_POL, .MAC_LANE_CFG_RX_POL, .MAC_LANE_CFG_LOOP, .MAC_LANE_CFG_TX_MAIN, .MAC_LANE_CFG_TX_PRE, .MAC_LANE_CFG_TX_POST]
  | .MAC_LANE_STATUS => [.MAC_LANE_STATUS_FEC_LOCK, .MAC_LANE_STATUS_HI_BER, .MAC_LANE_STATUS_BLOCK_LOCK, .MAC_LANE_STATUS_CDR_LOCK, .MAC_LANE_STATUS_SIGNAL]
  | .MAC_CFG => [.MAC_CFG_EN, .MAC_CFG_AN_EN, .MAC_CFG_FC_RX, .MAC_CFG_DOWN_ACT, .MAC_CFG_MAX_LEN, .MAC_CFG_UP_HOLD, .MAC_CFG_DOWN_FILTER]
  | .MAC_ADDR => [.MAC_ADDR_ADDR]
  | .MAC_LINK_STATUS => [.MAC_LINK_STATUS_STATE, .MAC_LINK_STATUS_SPEED, .MAC_LINK_STATUS_LF, .MAC_LINK_STATUS_RF, .MAC_LINK_STATUS_PAUSE_RX_OK, .MAC_LINK_STATUS_PAUSE_TX_OK, .MAC_LINK_STATUS_PAUSED, .MAC_LINK_STATUS_PARTNER]
  | .MAC_FC_TX_CFG => [.MAC_FC_TX_CFG_MODE, .MAC_FC_TX_CFG_CLASSES, .MAC_FC_TX_CFG_QUANTA, .MAC_FC_TX_CFG_XOFF_FRAC, .MAC_FC_TX_CFG_XON_FRAC]
  | .MAC_FC_TX_CMD => [.MAC_FC_TX_CMD_GO, .MAC_FC_TX_CMD_XON, .MAC_FC_TX_CMD_CLASSES, .MAC_FC_TX_CMD_QUANTA]
  | .MAC_TAG_CFG => [.MAC_TAG_CFG_PUSH_TPID, .MAC_TAG_CFG_UNTAG_EN, .MAC_TAG_CFG_UNTAG_VID]
  | .MAC_MD_CFG => [.MAC_MD_CFG_PHY_EN, .MAC_MD_CFG_MODE]
  | .MAC_PLCA_CFG => [.MAC_PLCA_CFG_NODE_ID, .MAC_PLCA_CFG_NODE_COUNT, .MAC_PLCA_CFG_TO_TIMER, .MAC_PLCA_CFG_BURST_CNT, .MAC_PLCA_CFG_BURST_TIMER, .MAC_PLCA_CFG_BEACON_LOSS]
  | .MAC_MD_STATUS => [.MAC_MD_STATUS_PLCA_OK, .MAC_MD_STATUS_LINE_FAULT, .MAC_MD_STATUS_ATTEMPTS]
  | .MAC_EVENT => [.MAC_EVENT_BAD_CFG, .MAC_EVENT_PLCA_LOST, .MAC_EVENT_EXCESS_COLL, .MAC_EVENT_LATE_COLL, .MAC_EVENT_LINE_FAULT, .MAC_EVENT_PFC_IGNORED, .MAC_EVENT_AN_REFUSED, .MAC_EVENT_REMOTE_FAULT, .MAC_EVENT_LINK_DOWN, .MAC_EVENT_LINK_UP, .MAC_EVENT_CHANGE_REFUSED]
  | .MDP_PC_CFG => [.MDP_PC_CFG_EN, .MDP_PC_CFG_MASTER_CAP, .MDP_PC_CFG_TIME_FEED, .MDP_PC_CFG_FALLBACK, .MDP_PC_CFG_NODE_ID, .MDP_PC_CFG_SEG_ID, .MDP_PC_CFG_RANK, .MDP_PC_CFG_ACC_WIN, .MDP_PC_CFG_RESP_WIN, .MDP_PC_CFG_LISTEN_CYCLES, .MDP_PC_CFG_MISS_LIMIT, .MDP_PC_CFG_CLAIM_SPREAD]
  | .MDP_PC_TIMING => [.MDP_PC_TIMING_MAX_PROP, .MDP_PC_TIMING_DRIFT_LIMIT, .MDP_PC_TIMING_PROP_DLY]
  | .MDP_PC_TABLE_CFG => [.MDP_PC_TABLE_CFG_ADMIN_TABLE_ID, .MDP_PC_TABLE_CFG_ADMIN_LEN]
  | .MDP_PC_SLOT_ADMIN => [.MDP_PC_SLOT_ADMIN_ENTRY]
  | .MDP_PC_SLOT_OPER => [.MDP_PC_SLOT_OPER_ENTRY]
  | .MDP_PC_STATUS => [.MDP_PC_STATUS_STATE, .MDP_PC_STATUS_RX_IN_SYNC, .MDP_PC_STATUS_ORIGIN, .MDP_PC_STATUS_STALE, .MDP_PC_STATUS_CYCLE]
  | .MDP_PC_TABLE_STATUS => [.MDP_PC_TABLE_STATUS_OPER_TABLE_ID, .MDP_PC_TABLE_STATUS_MISSED, .MDP_PC_TABLE_STATUS_OPER_LEN]
  | .MDP_PC_PRESENT => [.MDP_PC_PRESENT_NODES]
  | .MDP_PC_DRIFT => [.MDP_PC_DRIFT_NODES]
  | .MDP_EVENT => [.MDP_EVENT_TAKEOVER, .MDP_EVENT_REINTEGRATE, .MDP_EVENT_MISMATCH, .MDP_EVENT_COLLISION, .MDP_EVENT_DRIFT, .MDP_EVENT_WINDOW_MISS, .MDP_EVENT_DUAL_MASTER, .MDP_EVENT_MASTER_LOST, .MDP_EVENT_MASTER_UP, .MDP_EVENT_BAD_TABLE, .MDP_EVENT_CHANGE_REFUSED]
  | .HIF_RING_BASE => [.HIF_RING_BASE_BASE]
  | .HIF_RING_CFG => [.HIF_RING_CFG_PF, .HIF_RING_CFG_SIZE_LOG2, .HIF_RING_CFG_COMP, .HIF_RING_CFG_NO_SNOOP, .HIF_RING_CFG_NOTIFY, .HIF_RING_CFG_KEEP_FCS, .HIF_RING_CFG_CQ, .HIF_RING_CFG_LEDGER, .HIF_RING_CFG_RX_HOLD, .HIF_RING_CFG_RX_WAIT]
  | .HIF_RING_CTRL => [.HIF_RING_CTRL_RESET, .HIF_RING_CTRL_STOP, .HIF_RING_CTRL_START]
  | .HIF_RING_STATUS => [.HIF_RING_STATUS_STATE, .HIF_RING_STATUS_ERR, .HIF_RING_STATUS_ERR_SEEN, .HIF_RING_STATUS_ERR_IDX, .HIF_RING_STATUS_CI]
  | .HIF_DOORBELL => [.HIF_DOORBELL_PI]
  | .HIF_CQ_BASE => [.HIF_CQ_BASE_BASE]
  | .HIF_CQ_CFG => [.HIF_CQ_CFG_EN, .HIF_CQ_CFG_PF, .HIF_CQ_CFG_SIZE_LOG2, .HIF_CQ_CFG_NO_SNOOP, .HIF_CQ_CFG_SRC, .HIF_CQ_CFG_MOD_TIME, .HIF_CQ_CFG_MOD_COUNT]
  | .HIF_CQ_DB => [.HIF_CQ_DB_ARM, .HIF_CQ_DB_CI]
  | .HIF_CQ_STATUS => [.HIF_CQ_STATUS_FULL, .HIF_CQ_STATUS_ARMED, .HIF_CQ_STATUS_HELD, .HIF_CQ_STATUS_PI]
  | .HIF_LEDGER_ADDR => [.HIF_LEDGER_ADDR_ADDR]
  | .HIF_CFG => [.HIF_CFG_RO_EN, .HIF_CFG_LEDGER_HOLDOFF]
  | .HIF_RX_STORE => [.HIF_RX_STORE_HIGH, .HIF_RX_STORE_USED]
  | .HIF_EVENT => [.HIF_EVENT_LINK_DOWN, .HIF_EVENT_FLR, .HIF_EVENT_DB_IGNORED, .HIF_EVENT_TRUNCATED, .HIF_EVENT_RX_DROP, .HIF_EVENT_RING_ERR, .HIF_EVENT_CQ_FULL, .HIF_EVENT_MALFORMED, .HIF_EVENT_BAD_CFG, .HIF_EVENT_CHANGE_REFUSED]
  | .DMA_CTRL => [.DMA_CTRL_PCIE_LIMIT, .DMA_CTRL_DRAM_LIMIT, .DMA_CTRL_PUB_RUN, .DMA_CTRL_RUN]
  | .DMA_CH_CFG => [.DMA_CH_CFG_PF, .DMA_CH_CFG_PRIO, .DMA_CH_CFG_DESC_NS, .DMA_CH_CFG_RETRY_COUNT, .DMA_CH_CFG_CQ, .DMA_CH_CFG_CHAIN_LIMIT]
  | .DMA_CH_RATE => [.DMA_CH_RATE_RATE, .DMA_CH_RATE_BURST]
  | .DMA_CH_WIN => [.DMA_CH_WIN_DRAM_BASE, .DMA_CH_WIN_DRAM_LIMIT, .DMA_CH_WIN_LOCAL_BASE, .DMA_CH_WIN_LOCAL_LIMIT, .DMA_CH_WIN_WIN_EN]
  | .DMA_CH_CTRL => [.DMA_CH_CTRL_RESET, .DMA_CH_CTRL_STOP, .DMA_CH_CTRL_START]
  | .DMA_CH_DESC => [.DMA_CH_DESC_ADDR, .DMA_CH_DESC_SPACE]
  | .DMA_CH_STATUS => [.DMA_CH_STATUS_STATE, .DMA_CH_STATUS_HALT, .DMA_CH_STATUS_WAIT_CQ, .DMA_CH_STATUS_WAIT_TOK, .DMA_CH_STATUS_PREEMPTED, .DMA_CH_STATUS_HOPS]
  | .DMA_CH_POS => [.DMA_CH_POS_I2, .DMA_CH_POS_I1, .DMA_CH_POS_I0]
  | .DMA_PUB_CMD => [.DMA_PUB_CMD_GO, .DMA_PUB_CMD_OP, .DMA_PUB_CMD_INDEX]
  | .DMA_PUB_STATUS => [.DMA_PUB_STATUS_BUSY, .DMA_PUB_STATUS_CODE]
  | .DMA_PUB_DATA => [.DMA_PUB_DATA_DATA]
  | .DMA_EVENT => [.DMA_EVENT_PUB_COLLIDE, .DMA_EVENT_PUB_DONE, .DMA_EVENT_PUB_TORN, .DMA_EVENT_PUB_LOSS, .DMA_EVENT_MALFORMED, .DMA_EVENT_BUS_ERR, .DMA_EVENT_LOOP, .DMA_EVENT_BAD_CFG, .DMA_EVENT_CHANGE_REFUSED]
  | .INTC_CTRL => [.INTC_CTRL_EN, .INTC_CTRL_FALLBACK]
  | .INTC_DRAIN => []
  | .INTC_SRC_CFG => [.INTC_SRC_CFG_TKIND, .INTC_SRC_CFG_TRIGGER, .INTC_SRC_CFG_PRIO, .INTC_SRC_CFG_TARGET]
  | .INTC_SRC_STATUS => [.INTC_SRC_STATUS_DSTATE, .INTC_SRC_STATUS_LEVEL, .INTC_SRC_STATUS_PEND, .INTC_SRC_STATUS_HOLDER]
  | .INTC_ENABLE => [.INTC_ENABLE_EN]
  | .INTC_PENDING => [.INTC_PENDING_PEND]
  | .INTC_PEND_CNT => [.INTC_PEND_CNT_COUNT]
  | .INTC_SW_SET => [.INTC_SW_SET_SOURCE]
  | .INTC_HOST_EOI => [.INTC_HOST_EOI_ID]
  | .INTC_CORE_CFG => [.INTC_CORE_CFG_EN, .INTC_CORE_CFG_THRESH]
  | .INTC_CORE_STATUS => [.INTC_CORE_STATUS_STATE, .INTC_CORE_STATUS_MASK, .INTC_CORE_STATUS_ACTIVE, .INTC_CORE_STATUS_RUN_PRIO, .INTC_CORE_STATUS_DELIVERED]
  | .INTC_CORE_CLAIM => [.INTC_CORE_CLAIM_ID]
  | .INTC_CORE_EOI => [.INTC_CORE_EOI_ID]
  | .INTC_EVENT => [.INTC_EVENT_NO_TARGET, .INTC_EVENT_FALLBACK, .INTC_EVENT_BAD_EOI, .INTC_EVENT_BAD_CFG]
  | .BOOT_STATUS => [.BOOT_STATUS_STATE, .BOOT_STATUS_STEP, .BOOT_STATUS_SLOT, .BOOT_STATUS_ACQ_SHORT, .BOOT_STATUS_REC_FAIL, .BOOT_STATUS_SKIP, .BOOT_STATUS_ALT, .BOOT_STATUS_BLOCKED, .BOOT_STATUS_DEV_ID]
  | .BOOT_CTRL => [.BOOT_CTRL_KEY, .BOOT_CTRL_PREF_SLOT, .BOOT_CTRL_CLEAR_MARKS, .BOOT_CTRL_CLEAR_FAILS, .BOOT_CTRL_RESET]
  | .BOOT_REC => [.BOOT_REC_DATA]
  | .BOOT_BASTE_CMD => [.BOOT_BASTE_CMD_GO, .BOOT_BASTE_CMD_OP, .BOOT_BASTE_CMD_GROUP, .BOOT_BASTE_CMD_DOM, .BOOT_BASTE_CMD_WIDTH, .BOOT_BASTE_CMD_ADDR]
  | .BOOT_BASTE_DATA => [.BOOT_BASTE_DATA_DATA]
  | .BOOT_BASTE_TIME_SEC => [.BOOT_BASTE_TIME_SEC_SEC]
  | .BOOT_BASTE_TIME_NS => [.BOOT_BASTE_TIME_NS_NS]
  | .BOOT_BASTE_STATUS => [.BOOT_BASTE_STATUS_BUSY, .BOOT_BASTE_STATUS_PEEK_VALID, .BOOT_BASTE_STATUS_CODE, .BOOT_BASTE_STATUS_FREE]
  | .BOOT_BASTE_GROUP => [.BOOT_BASTE_GROUP_STATE, .BOOT_BASTE_GROUP_COUNT, .BOOT_BASTE_GROUP_FAIL_ADDR]
  | .BOOT_AWT_CMD => [.BOOT_AWT_CMD_GO, .BOOT_AWT_CMD_OP, .BOOT_AWT_CMD_INDEX]
  | .BOOT_AWT_STATUS => [.BOOT_AWT_STATUS_BUSY, .BOOT_AWT_STATUS_CODE]
  | .BOOT_AWT_DATA => [.BOOT_AWT_DATA_DATA]
  | .BOOT_PROT_GEN => [.BOOT_PROT_GEN_GEN]
  | .BOOT_PF_PRIV => [.BOOT_PF_PRIV_LEVEL]
  | .BOOT_AWT_DENY_LOG => [.BOOT_AWT_DENY_LOG_VALID, .BOOT_AWT_DENY_LOG_PF, .BOOT_AWT_DENY_LOG_WRITE, .BOOT_AWT_DENY_LOG_BAR, .BOOT_AWT_DENY_LOG_OFFSET]
  | .BOOT_NVM_CMD => [.BOOT_NVM_CMD_GO, .BOOT_NVM_CMD_OP, .BOOT_NVM_CMD_KEY_SLOT, .BOOT_NVM_CMD_SECTOR]
  | .BOOT_NVM_STATUS => [.BOOT_NVM_STATUS_BUSY, .BOOT_NVM_STATUS_CODE]
  | .BOOT_EVENT => [.BOOT_EVENT_NVM_ERR, .BOOT_EVENT_NVM_DONE, .BOOT_EVENT_AWT_DENY, .BOOT_EVENT_LATE_COMMIT, .BOOT_EVENT_GROUP_WARN, .BOOT_EVENT_GROUP_FAIL, .BOOT_EVENT_GROUP_DONE, .BOOT_EVENT_BASTE_COLLIDE, .BOOT_EVENT_BASTE_REFUSED]
  | .THIM_CTRL => [.THIM_CTRL_RESTART, .THIM_CTRL_RESTART_MAX, .THIM_CTRL_RESTART_DELAY, .THIM_CTRL_SWAP_ON_DEGRADED, .THIM_CTRL_LATENT_INT]
  | .THIM_STATUS => [.THIM_STATUS_HANDLING, .THIM_STATUS_QUEUED, .THIM_STATUS_LOST, .THIM_STATUS_DUMP, .THIM_STATUS_WORST, .THIM_STATUS_RESTART_CNT]
  | .THIM_FAULT_LOG => [.THIM_FAULT_LOG_RECORD]
  | .THIM_ACK => [.THIM_ACK_SEV]
  | .THIM_WDOG => [.THIM_WDOG_KEY]
  | .THIM_INJECT => [.THIM_INJECT_GO, .THIM_INJECT_SM]
  | .THIM_DUMP_BASE => [.THIM_DUMP_BASE_SPACE, .THIM_DUMP_BASE_ADDR]
  | .THIM_LATENT_STATUS => [.THIM_LATENT_STATUS_LAST_S, .THIM_LATENT_STATUS_FAILED]
  | .THIM_EVENT => [.THIM_EVENT_BAD_CFG, .THIM_EVENT_DUMP_DONE, .THIM_EVENT_LATENT_FAIL, .THIM_EVENT_LOG_OVF, .THIM_EVENT_DEGRADED, .THIM_EVENT_NOTICE]
  | .PAIR_CFG => [.PAIR_CFG_EN, .PAIR_CFG_SWAP_DOM, .PAIR_CFG_GM_DOMAINS, .PAIR_CFG_MDP_LEAD]
  | .PAIR_STATUS => [.PAIR_STATUS_ROLE, .PAIR_STATUS_PEER, .PAIR_STATUS_TOKEN_IN, .PAIR_STATUS_TOKEN_DRV, .PAIR_STATUS_FS_IN, .PAIR_STATUS_BEAT_OK, .PAIR_STATUS_PL1_OK, .PAIR_STATUS_PL0_OK, .PAIR_STATUS_SIDE, .PAIR_STATUS_PEER_ID, .PAIR_STATUS_PEER_STATE, .PAIR_STATUS_PEER_WORST]
  | .PAIR_DRILL_CFG => [.PAIR_DRILL_CFG_PERIOD, .PAIR_DRILL_CFG_LEAD_MS]
  | .PAIR_SWAP_CMD => [.PAIR_SWAP_CMD_GO]
  | .PAIR_SWAP_STATUS => [.PAIR_SWAP_STATUS_PENDING, .PAIR_SWAP_STATUS_RESULT, .PAIR_SWAP_STATUS_POSTPONED, .PAIR_SWAP_STATUS_DRILLS, .PAIR_SWAP_STATUS_T_MS]
  | .PAIR_PEER_CMD => [.PAIR_PEER_CMD_GO, .PAIR_PEER_CMD_OP, .PAIR_PEER_CMD_PAGE]
  | .PAIR_PEER_STATUS => [.PAIR_PEER_STATUS_BUSY, .PAIR_PEER_STATUS_CODE]
  | .PAIR_EVENT => [.PAIR_EVENT_MIRROR_MISMATCH, .PAIR_EVENT_LANE_DOWN, .PAIR_EVENT_TOKEN_FAULT, .PAIR_EVENT_PEER_UNKNOWN, .PAIR_EVENT_PEER_LOST, .PAIR_EVENT_SWAP_POSTPONED, .PAIR_EVENT_SWAP_DONE, .PAIR_EVENT_TAKEOVER, .PAIR_EVENT_BAD_CFG, .PAIR_EVENT_CHANGE_REFUSED]
  | .TAPE_CNT_CMD => [.TAPE_CNT_CMD_GO, .TAPE_CNT_CMD_OP, .TAPE_CNT_CMD_GROUP, .TAPE_CNT_CMD_ALL, .TAPE_CNT_CMD_INDEX]
  | .TAPE_CNT_STATUS => [.TAPE_CNT_STATUS_BUSY, .TAPE_CNT_STATUS_CODE]
  | .TAPE_CNT_DATA => [.TAPE_CNT_DATA_WORD]
  | .TAPE_CTRL => [.TAPE_CTRL_HOST_CHALK_EN, .TAPE_CTRL_HOST_K, .TAPE_CTRL_CHALK_RUN]
  | .TAPE_TCNT_BASE => [.TAPE_TCNT_BASE_EN, .TAPE_TCNT_BASE_BASE]
  | .TAPE_PEC_CFG => [.TAPE_PEC_CFG_EN, .TAPE_PEC_CFG_MODE, .TAPE_PEC_CFG_EVENT, .TAPE_PEC_CFG_TC_MASK, .TAPE_PEC_CFG_QUAL, .TAPE_PEC_CFG_QUAL_EN]
  | .TAPE_CHALK_CFG => [.TAPE_CHALK_CFG_EN, .TAPE_CHALK_CFG_K]
  | .TAPE_DUMP_CFG => [.TAPE_DUMP_CFG_EN, .TAPE_DUMP_CFG_DOM, .TAPE_DUMP_CFG_BOLT_MASK, .TAPE_DUMP_CFG_SEL, .TAPE_DUMP_CFG_PERIOD]
  | .TAPE_OUT_BASE => [.TAPE_OUT_BASE_BASE]
  | .TAPE_OUT_CFG => [.TAPE_OUT_CFG_SPACE, .TAPE_OUT_CFG_PF, .TAPE_OUT_CFG_WRAP, .TAPE_OUT_CFG_NO_SNOOP, .TAPE_OUT_CFG_SIZE_LOG2]
  | .TAPE_OUT_PI => [.TAPE_OUT_PI_PI]
  | .TAPE_OUT_CI => [.TAPE_OUT_CI_CI]
  | .TAPE_EVENT => [.TAPE_EVENT_CNT_DONE, .TAPE_EVENT_OVF, .TAPE_EVENT_CHALK_LOST, .TAPE_EVENT_OUT_LOST, .TAPE_EVENT_DUMP_SKIP, .TAPE_EVENT_BAD_CFG, .TAPE_EVENT_CHANGE_REFUSED]
  | .DEV_TEMP_STATUS => [.DEV_TEMP_STATUS_VALID, .DEV_TEMP_STATUS_IGNORED, .DEV_TEMP_STATUS_TEMP]
  | .DEV_DBG_SEL => [.DEV_DBG_SEL_BOLT]

/-- The owning block of each register. -/
def Reg.blk : Reg → Blk
  | .DEV_PACE_CTRL => .DEV
  | .DEV_PACE_STATUS => .DEV
  | .DEV_PACE_EVENT => .DEV
  | .TPL_OSC_STATUS => .TPL
  | .TPL_VOTE_STATUS => .TPL
  | .TPL_EVENT => .TPL
  | .TPL_SNAP_CTRL => .TPL
  | .TPL_SNAP_SEC => .TPL
  | .TPL_SNAP_NS => .TPL
  | .TPL_DOM_CFG => .TPL
  | .TPL_DOM_PARAM => .TPL
  | .TPL_DOM_HOLD => .TPL
  | .TPL_DOM_SAMPLE_OFS => .TPL
  | .TPL_DOM_SAMPLE_RATIO => .TPL
  | .TPL_DOM_SET_SEC => .TPL
  | .TPL_DOM_SET_NS => .TPL
  | .TPL_DOM_STATUS => .TPL
  | .TPL_DOM_RATE => .TPL
  | .TPL_PORT_TS => .TPL
  | .TPL_PORT_TS_CFG => .TPL
  | .TPL_OUT_CFG => .TPL
  | .TPL_OUT_START_SEC => .TPL
  | .TPL_OUT_START_NS => .TPL
  | .TPL_OUT_PERIOD => .TPL
  | .TPL_OUT_STATUS => .TPL
  | .TPL_CAP_CFG => .TPL
  | .TPL_CAP_SEC => .TPL
  | .TPL_CAP_NS => .TPL
  | .TPL_DOM_MAP => .TPL
  | .TPL_SYNC_CFG => .TPL
  | .TPL_SYNC_STATUS => .TPL
  | .STRM_CTRL => .STRM
  | .STRM_HASH_SEED => .STRM
  | .STRM_TBL_BASE => .STRM
  | .STRM_DIR_BASE => .STRM
  | .STRM_MISS_CFG => .STRM
  | .STRM_MISS_STATUS => .STRM
  | .STRM_EVENT => .STRM
  | .STRM_SLICE_STATUS => .STRM
  | .STRM_TBL_CMD => .STRM
  | .STRM_TBL_STATUS => .STRM
  | .STRM_TBL_DATA => .STRM
  | .STRM_PORT_ID_CFG => .STRM
  | .STRM_PORT_DEFAULT => .STRM
  | .MEND_CTRL => .MEND
  | .MEND_EVENT => .MEND
  | .MEND_TBL_CMD => .MEND
  | .MEND_TBL_STATUS => .MEND
  | .MEND_TBL_DATA => .MEND
  | .MEND_LAT_LOG => .MEND
  | .MEND_MIRROR_STATUS => .MEND
  | .MEND_PORT_CFG => .MEND
  | .MEND_OWN_ADDR => .MEND
  | .SHTL_BUF_RSV => .SHTL
  | .SHTL_BUF_CTRL_RSV => .SHTL
  | .SHTL_BUF_STATUS => .SHTL
  | .SHTL_BUF_EVENT => .SHTL
  | .SHTL_PORT_BUF => .SHTL
  | .SHTL_Q_CMD => .SHTL
  | .SHTL_Q_CFG => .SHTL
  | .SHTL_Q_STAT => .SHTL
  | .SHTL_Q_MAX => .SHTL
  | .SHTL_GCL_CFG => .SHTL
  | .SHTL_GCL_CTRL => .SHTL
  | .SHTL_GCL_ADMIN_BASE_SEC => .SHTL
  | .SHTL_GCL_ADMIN_BASE_NS => .SHTL
  | .SHTL_GCL_ADMIN_CYCLE => .SHTL
  | .SHTL_GCL_ADMIN_EXT => .SHTL
  | .SHTL_GCL_OPER_BASE_SEC => .SHTL
  | .SHTL_GCL_OPER_BASE_NS => .SHTL
  | .SHTL_GCL_OPER_CYCLE => .SHTL
  | .SHTL_GCL_CHANGE_SEC => .SHTL
  | .SHTL_GCL_CHANGE_NS => .SHTL
  | .SHTL_GCL_OPER_EXT => .SHTL
  | .SHTL_GCL_STATUS => .SHTL
  | .SHTL_GCL_EVENT => .SHTL
  | .SHTL_GCL_ADMIN => .SHTL
  | .SHTL_GCL_OPER => .SHTL
  | .SHTL_PORT_SEL => .SHTL
  | .SHTL_Q_SHAPE => .SHTL
  | .SHTL_Q_SEL => .SHTL
  | .SHTL_Q_TOKENS => .SHTL
  | .SELV_CTRL => .SELV
  | .SELV_STAGE_CFG => .SELV
  | .SELV_STAGE_STATUS => .SELV
  | .SELV_GRID_STATUS => .SELV
  | .SELV_HEM_CFG => .SELV
  | .SELV_HOLD_CFG => .SELV
  | .SELV_PREEMPT_CFG => .SELV
  | .SELV_PREEMPT_STATUS => .SELV
  | .SELV_GUARD_STATUS => .SELV
  | .SELV_GUARD_ENTRY => .SELV
  | .SELV_EVENT => .SELV
  | .MAC_LANE_CFG => .MAC
  | .MAC_LANE_STATUS => .MAC
  | .MAC_CFG => .MAC
  | .MAC_ADDR => .MAC
  | .MAC_LINK_STATUS => .MAC
  | .MAC_FC_TX_CFG => .MAC
  | .MAC_FC_TX_CMD => .MAC
  | .MAC_TAG_CFG => .MAC
  | .MAC_MD_CFG => .MAC
  | .MAC_PLCA_CFG => .MAC
  | .MAC_MD_STATUS => .MAC
  | .MAC_EVENT => .MAC
  | .MDP_PC_CFG => .MDP
  | .MDP_PC_TIMING => .MDP
  | .MDP_PC_TABLE_CFG => .MDP
  | .MDP_PC_SLOT_ADMIN => .MDP
  | .MDP_PC_SLOT_OPER => .MDP
  | .MDP_PC_STATUS => .MDP
  | .MDP_PC_TABLE_STATUS => .MDP
  | .MDP_PC_PRESENT => .MDP
  | .MDP_PC_DRIFT => .MDP
  | .MDP_EVENT => .MDP
  | .HIF_RING_BASE => .HIF
  | .HIF_RING_CFG => .HIF
  | .HIF_RING_CTRL => .HIF
  | .HIF_RING_STATUS => .HIF
  | .HIF_DOORBELL => .HIF
  | .HIF_CQ_BASE => .HIF
  | .HIF_CQ_CFG => .HIF
  | .HIF_CQ_DB => .HIF
  | .HIF_CQ_STATUS => .HIF
  | .HIF_LEDGER_ADDR => .HIF
  | .HIF_CFG => .HIF
  | .HIF_RX_STORE => .HIF
  | .HIF_EVENT => .HIF
  | .DMA_CTRL => .DMA
  | .DMA_CH_CFG => .DMA
  | .DMA_CH_RATE => .DMA
  | .DMA_CH_WIN => .DMA
  | .DMA_CH_CTRL => .DMA
  | .DMA_CH_DESC => .DMA
  | .DMA_CH_STATUS => .DMA
  | .DMA_CH_POS => .DMA
  | .DMA_PUB_CMD => .DMA
  | .DMA_PUB_STATUS => .DMA
  | .DMA_PUB_DATA => .DMA
  | .DMA_EVENT => .DMA
  | .INTC_CTRL => .INTC
  | .INTC_DRAIN => .INTC
  | .INTC_SRC_CFG => .INTC
  | .INTC_SRC_STATUS => .INTC
  | .INTC_ENABLE => .INTC
  | .INTC_PENDING => .INTC
  | .INTC_PEND_CNT => .INTC
  | .INTC_SW_SET => .INTC
  | .INTC_HOST_EOI => .INTC
  | .INTC_CORE_CFG => .INTC
  | .INTC_CORE_STATUS => .INTC
  | .INTC_CORE_CLAIM => .INTC
  | .INTC_CORE_EOI => .INTC
  | .INTC_EVENT => .INTC
  | .BOOT_STATUS => .BOOT
  | .BOOT_CTRL => .BOOT
  | .BOOT_REC => .BOOT
  | .BOOT_BASTE_CMD => .BOOT
  | .BOOT_BASTE_DATA => .BOOT
  | .BOOT_BASTE_TIME_SEC => .BOOT
  | .BOOT_BASTE_TIME_NS => .BOOT
  | .BOOT_BASTE_STATUS => .BOOT
  | .BOOT_BASTE_GROUP => .BOOT
  | .BOOT_AWT_CMD => .BOOT
  | .BOOT_AWT_STATUS => .BOOT
  | .BOOT_AWT_DATA => .BOOT
  | .BOOT_PROT_GEN => .BOOT
  | .BOOT_PF_PRIV => .BOOT
  | .BOOT_AWT_DENY_LOG => .BOOT
  | .BOOT_NVM_CMD => .BOOT
  | .BOOT_NVM_STATUS => .BOOT
  | .BOOT_EVENT => .BOOT
  | .THIM_CTRL => .THIM
  | .THIM_STATUS => .THIM
  | .THIM_FAULT_LOG => .THIM
  | .THIM_ACK => .THIM
  | .THIM_WDOG => .THIM
  | .THIM_INJECT => .THIM
  | .THIM_DUMP_BASE => .THIM
  | .THIM_LATENT_STATUS => .THIM
  | .THIM_EVENT => .THIM
  | .PAIR_CFG => .PAIR
  | .PAIR_STATUS => .PAIR
  | .PAIR_DRILL_CFG => .PAIR
  | .PAIR_SWAP_CMD => .PAIR
  | .PAIR_SWAP_STATUS => .PAIR
  | .PAIR_PEER_CMD => .PAIR
  | .PAIR_PEER_STATUS => .PAIR
  | .PAIR_EVENT => .PAIR
  | .TAPE_CNT_CMD => .TAPE
  | .TAPE_CNT_STATUS => .TAPE
  | .TAPE_CNT_DATA => .TAPE
  | .TAPE_CTRL => .TAPE
  | .TAPE_TCNT_BASE => .TAPE
  | .TAPE_PEC_CFG => .TAPE
  | .TAPE_CHALK_CFG => .TAPE
  | .TAPE_DUMP_CFG => .TAPE
  | .TAPE_OUT_BASE => .TAPE
  | .TAPE_OUT_CFG => .TAPE
  | .TAPE_OUT_PI => .TAPE
  | .TAPE_OUT_CI => .TAPE
  | .TAPE_EVENT => .TAPE
  | .DEV_TEMP_STATUS => .DEV
  | .DEV_DBG_SEL => .DEV

/-- Registers 64 bits wide; the others are 32 bits wide (R12). -/
def Reg.wide : Reg → Bool
  | .DEV_PACE_STATUS => true
  | .TPL_SNAP_SEC => true
  | .TPL_SNAP_NS => true
  | .TPL_DOM_PARAM => true
  | .TPL_DOM_SAMPLE_OFS => true
  | .TPL_DOM_SET_SEC => true
  | .TPL_DOM_SET_NS => true
  | .TPL_DOM_STATUS => true
  | .TPL_PORT_TS => true
  | .TPL_PORT_TS_CFG => true
  | .TPL_OUT_CFG => true
  | .TPL_OUT_START_SEC => true
  | .TPL_OUT_START_NS => true
  | .TPL_OUT_PERIOD => true
  | .TPL_CAP_SEC => true
  | .TPL_CAP_NS => true
  | .STRM_HASH_SEED => true
  | .STRM_TBL_BASE => true
  | .STRM_DIR_BASE => true
  | .STRM_MISS_STATUS => true
  | .STRM_TBL_CMD => true
  | .STRM_TBL_DATA => true
  | .STRM_PORT_ID_CFG => true
  | .STRM_PORT_DEFAULT => true
  | .MEND_TBL_CMD => true
  | .MEND_TBL_DATA => true
  | .MEND_LAT_LOG => true
  | .MEND_OWN_ADDR => true
  | .SHTL_BUF_STATUS => true
  | .SHTL_Q_STAT => true
  | .SHTL_Q_MAX => true
  | .SHTL_GCL_ADMIN_BASE_SEC => true
  | .SHTL_GCL_ADMIN_BASE_NS => true
  | .SHTL_GCL_ADMIN_CYCLE => true
  | .SHTL_GCL_OPER_BASE_SEC => true
  | .SHTL_GCL_OPER_BASE_NS => true
  | .SHTL_GCL_OPER_CYCLE => true
  | .SHTL_GCL_CHANGE_SEC => true
  | .SHTL_GCL_CHANGE_NS => true
  | .SHTL_GCL_STATUS => true
  | .SHTL_GCL_ADMIN => true
  | .SHTL_GCL_OPER => true
  | .SHTL_Q_SHAPE => true
  | .SHTL_Q_TOKENS => true
  | .SELV_GUARD_ENTRY => true
  | .MAC_CFG => true
  | .MAC_ADDR => true
  | .MAC_LINK_STATUS => true
  | .MAC_FC_TX_CFG => true
  | .MAC_PLCA_CFG => true
  | .MDP_PC_CFG => true
  | .MDP_PC_SLOT_ADMIN => true
  | .MDP_PC_SLOT_OPER => true
  | .MDP_PC_STATUS => true
  | .MDP_PC_PRESENT => true
  | .MDP_PC_DRIFT => true
  | .HIF_RING_BASE => true
  | .HIF_RING_CFG => true
  | .HIF_RING_STATUS => true
  | .HIF_CQ_BASE => true
  | .HIF_CQ_CFG => true
  | .HIF_CQ_DB => true
  | .HIF_CQ_STATUS => true
  | .HIF_LEDGER_ADDR => true
  | .DMA_CH_CFG => true
  | .DMA_CH_RATE => true
  | .DMA_CH_WIN => true
  | .DMA_CH_DESC => true
  | .DMA_CH_STATUS => true
  | .DMA_CH_POS => true
  | .DMA_PUB_CMD => true
  | .DMA_PUB_DATA => true
  | .BOOT_STATUS => true
  | .BOOT_REC => true
  | .BOOT_BASTE_CMD => true
  | .BOOT_BASTE_DATA => true
  | .BOOT_BASTE_TIME_SEC => true
  | .BOOT_BASTE_TIME_NS => true
  | .BOOT_BASTE_GROUP => true
  | .BOOT_AWT_DATA => true
  | .BOOT_AWT_DENY_LOG => true
  | .BOOT_NVM_CMD => true
  | .THIM_STATUS => true
  | .THIM_FAULT_LOG => true
  | .THIM_DUMP_BASE => true
  | .THIM_LATENT_STATUS => true
  | .PAIR_CFG => true
  | .PAIR_STATUS => true
  | .PAIR_SWAP_STATUS => true
  | .PAIR_PEER_CMD => true
  | .TAPE_CNT_CMD => true
  | .TAPE_CNT_DATA => true
  | .TAPE_TCNT_BASE => true
  | .TAPE_DUMP_CFG => true
  | .TAPE_OUT_BASE => true
  | _ => false

/-- A register of the address map: the register and its two indices (the unit, port, Bolt, ring or other instance, and the second index of a port or Bolt array). -/
structure RegRef where
  reg : Reg
  i : Nat
  j : Nat
deriving DecidableEq, Repr

/-- A row of an address table: offset of the first instance, stride and number of instances. -/
structure MapRow where
  off : Nat
  stride : Nat
  count : Nat
  reg : Reg
deriving DecidableEq, Repr

/-- Table 18-4, block DEV, at the offsets of Table 18-3. -/
def mapRowsDEV : List MapRow := [
  ⟨0x0, 0, 1, .DEV_PACE_CTRL⟩,
  ⟨0x40, 8, 8, .DEV_PACE_STATUS⟩,
  ⟨0x8, 0, 1, .DEV_PACE_EVENT⟩,
  ⟨0x80, 8, 8, .DEV_TEMP_STATUS⟩,
  ⟨0xc0, 0, 1, .DEV_DBG_SEL⟩]

/-- Table 18-4, block TPL, at the offsets of Table 18-3. -/
def mapRowsTPL : List MapRow := [
  ⟨0x10000, 0, 1, .TPL_OSC_STATUS⟩,
  ⟨0x10008, 0, 1, .TPL_VOTE_STATUS⟩,
  ⟨0x10010, 0, 1, .TPL_EVENT⟩,
  ⟨0x10018, 0, 1, .TPL_SNAP_CTRL⟩,
  ⟨0x10100, 16, 9, .TPL_SNAP_SEC⟩,
  ⟨0x10108, 16, 9, .TPL_SNAP_NS⟩,
  ⟨0x10400, 128, 8, .TPL_DOM_CFG⟩,
  ⟨0x10408, 128, 8, .TPL_DOM_PARAM⟩,
  ⟨0x10410, 128, 8, .TPL_DOM_HOLD⟩,
  ⟨0x10418, 128, 8, .TPL_DOM_SAMPLE_OFS⟩,
  ⟨0x10420, 128, 8, .TPL_DOM_SAMPLE_RATIO⟩,
  ⟨0x10428, 128, 8, .TPL_DOM_SET_SEC⟩,
  ⟨0x10430, 128, 8, .TPL_DOM_SET_NS⟩,
  ⟨0x10438, 128, 8, .TPL_DOM_STATUS⟩,
  ⟨0x10440, 128, 8, .TPL_DOM_RATE⟩,
  ⟨0x11000, 64, 36, .TPL_OUT_CFG⟩,
  ⟨0x11008, 64, 36, .TPL_OUT_START_SEC⟩,
  ⟨0x11010, 64, 36, .TPL_OUT_START_NS⟩,
  ⟨0x11018, 64, 36, .TPL_OUT_PERIOD⟩,
  ⟨0x11020, 64, 36, .TPL_OUT_STATUS⟩,
  ⟨0x12000, 32, 34, .TPL_CAP_CFG⟩,
  ⟨0x12008, 32, 34, .TPL_CAP_SEC⟩,
  ⟨0x12010, 32, 34, .TPL_CAP_NS⟩,
  ⟨0x10448, 128, 8, .TPL_DOM_MAP⟩,
  ⟨0x10450, 128, 8, .TPL_SYNC_CFG⟩,
  ⟨0x10020, 0, 1, .TPL_SYNC_STATUS⟩]

/-- Table 18-4, block STRM, at the offsets of Table 18-3. -/
def mapRowsSTRM : List MapRow := [
  ⟨0x20000, 0, 1, .STRM_CTRL⟩,
  ⟨0x20008, 0, 1, .STRM_HASH_SEED⟩,
  ⟨0x20010, 0, 1, .STRM_TBL_BASE⟩,
  ⟨0x20018, 0, 1, .STRM_DIR_BASE⟩,
  ⟨0x20020, 0, 1, .STRM_MISS_CFG⟩,
  ⟨0x20028, 0, 1, .STRM_MISS_STATUS⟩,
  ⟨0x20030, 0, 1, .STRM_EVENT⟩,
  ⟨0x20080, 8, 8, .STRM_SLICE_STATUS⟩,
  ⟨0x20038, 0, 1, .STRM_TBL_CMD⟩,
  ⟨0x20040, 0, 1, .STRM_TBL_STATUS⟩,
  ⟨0x20100, 8, 8, .STRM_TBL_DATA⟩]

/-- Table 18-4, block MEND, at the offsets of Table 18-3. -/
def mapRowsMEND : List MapRow := [
  ⟨0x30000, 0, 1, .MEND_CTRL⟩,
  ⟨0x30008, 0, 1, .MEND_EVENT⟩,
  ⟨0x30010, 0, 1, .MEND_TBL_CMD⟩,
  ⟨0x30018, 0, 1, .MEND_TBL_STATUS⟩,
  ⟨0x30100, 8, 8, .MEND_TBL_DATA⟩,
  ⟨0x30020, 0, 1, .MEND_LAT_LOG⟩,
  ⟨0x30028, 0, 1, .MEND_MIRROR_STATUS⟩,
  ⟨0x30040, 8, 4, .MEND_OWN_ADDR⟩]

/-- Table 18-4, block INTC, at the offsets of Table 18-3. -/
def mapRowsINTC : List MapRow := [
  ⟨0x40000, 0, 1, .INTC_CTRL⟩,
  ⟨0x40008, 0, 1, .INTC_DRAIN⟩,
  ⟨0x48000, 8, 4095, .INTC_SRC_CFG⟩,
  ⟨0x50000, 8, 4095, .INTC_SRC_STATUS⟩,
  ⟨0x40400, 8, 128, .INTC_ENABLE⟩,
  ⟨0x40800, 8, 128, .INTC_PENDING⟩,
  ⟨0x40c00, 8, 128, .INTC_PEND_CNT⟩,
  ⟨0x40010, 0, 1, .INTC_SW_SET⟩,
  ⟨0x40018, 0, 1, .INTC_HOST_EOI⟩,
  ⟨0x40100, 8, 8, .INTC_CORE_CFG⟩,
  ⟨0x40140, 8, 8, .INTC_CORE_STATUS⟩,
  ⟨0x40180, 8, 8, .INTC_CORE_CLAIM⟩,
  ⟨0x401c0, 8, 8, .INTC_CORE_EOI⟩,
  ⟨0x40020, 0, 1, .INTC_EVENT⟩]

/-- Table 18-4, block BOOT, at the offsets of Table 18-3. -/
def mapRowsBOOT : List MapRow := [
  ⟨0x60000, 0, 1, .BOOT_STATUS⟩,
  ⟨0x60008, 0, 1, .BOOT_CTRL⟩,
  ⟨0x60100, 8, 8, .BOOT_REC⟩,
  ⟨0x60010, 0, 1, .BOOT_BASTE_CMD⟩,
  ⟨0x60018, 0, 1, .BOOT_BASTE_DATA⟩,
  ⟨0x60020, 0, 1, .BOOT_BASTE_TIME_SEC⟩,
  ⟨0x60028, 0, 1, .BOOT_BASTE_TIME_NS⟩,
  ⟨0x60030, 0, 1, .BOOT_BASTE_STATUS⟩,
  ⟨0x60200, 8, 16, .BOOT_BASTE_GROUP⟩,
  ⟨0x60038, 0, 1, .BOOT_AWT_CMD⟩,
  ⟨0x60040, 0, 1, .BOOT_AWT_STATUS⟩,
  ⟨0x60080, 8, 2, .BOOT_AWT_DATA⟩,
  ⟨0x60048, 0, 1, .BOOT_PROT_GEN⟩,
  ⟨0x60050, 0, 1, .BOOT_PF_PRIV⟩,
  ⟨0x60058, 0, 1, .BOOT_AWT_DENY_LOG⟩,
  ⟨0x60060, 0, 1, .BOOT_NVM_CMD⟩,
  ⟨0x60068, 0, 1, .BOOT_NVM_STATUS⟩,
  ⟨0x60070, 0, 1, .BOOT_EVENT⟩]

/-- Table 18-4, block THIM, at the offsets of Table 18-3. -/
def mapRowsTHIM : List MapRow := [
  ⟨0x70000, 0, 1, .THIM_CTRL⟩,
  ⟨0x70008, 0, 1, .THIM_STATUS⟩,
  ⟨0x70010, 0, 1, .THIM_FAULT_LOG⟩,
  ⟨0x70018, 0, 1, .THIM_ACK⟩,
  ⟨0x70020, 0, 1, .THIM_WDOG⟩,
  ⟨0x70028, 0, 1, .THIM_INJECT⟩,
  ⟨0x70030, 0, 1, .THIM_DUMP_BASE⟩,
  ⟨0x70038, 0, 1, .THIM_LATENT_STATUS⟩,
  ⟨0x70040, 0, 1, .THIM_EVENT⟩]

/-- Table 18-4, block PAIR, at the offsets of Table 18-3. -/
def mapRowsPAIR : List MapRow := [
  ⟨0x80000, 0, 1, .PAIR_CFG⟩,
  ⟨0x80008, 0, 1, .PAIR_STATUS⟩,
  ⟨0x80010, 0, 1, .PAIR_DRILL_CFG⟩,
  ⟨0x80018, 0, 1, .PAIR_SWAP_CMD⟩,
  ⟨0x80020, 0, 1, .PAIR_SWAP_STATUS⟩,
  ⟨0x80028, 0, 1, .PAIR_PEER_CMD⟩,
  ⟨0x80030, 0, 1, .PAIR_PEER_STATUS⟩,
  ⟨0x80038, 0, 1, .PAIR_EVENT⟩]

/-- Table 18-4, block TAPE, at the offsets of Table 18-3. -/
def mapRowsTAPE : List MapRow := [
  ⟨0x90010, 0, 1, .TAPE_CNT_CMD⟩,
  ⟨0x90018, 0, 1, .TAPE_CNT_STATUS⟩,
  ⟨0x90080, 8, 8, .TAPE_CNT_DATA⟩,
  ⟨0x90000, 0, 1, .TAPE_CTRL⟩,
  ⟨0x90008, 0, 1, .TAPE_TCNT_BASE⟩,
  ⟨0x90040, 8, 4, .TAPE_DUMP_CFG⟩,
  ⟨0x90100, 32, 5, .TAPE_OUT_BASE⟩,
  ⟨0x90108, 32, 5, .TAPE_OUT_CFG⟩,
  ⟨0x90110, 32, 5, .TAPE_OUT_PI⟩,
  ⟨0x90118, 32, 5, .TAPE_OUT_CI⟩,
  ⟨0x90020, 0, 1, .TAPE_EVENT⟩]

/-- Table 18-5, the common part of a Bolt. -/
def mapRowsCommon : List MapRow := [
  ⟨0x0, 0, 1, .SHTL_BUF_RSV⟩,
  ⟨0x8, 0, 1, .SHTL_BUF_CTRL_RSV⟩,
  ⟨0x10, 0, 1, .SHTL_BUF_STATUS⟩,
  ⟨0x18, 0, 1, .SHTL_BUF_EVENT⟩,
  ⟨0x100, 8, 5, .MAC_LANE_CFG⟩,
  ⟨0x140, 8, 5, .MAC_LANE_STATUS⟩]

/-- Table 18-5, the block of a port. -/
def mapRowsPort : List MapRow := [
  ⟨0x100, 0, 1, .TPL_PORT_TS⟩,
  ⟨0x108, 0, 1, .TPL_PORT_TS_CFG⟩,
  ⟨0x180, 0, 1, .STRM_PORT_ID_CFG⟩,
  ⟨0x188, 0, 1, .STRM_PORT_DEFAULT⟩,
  ⟨0x1c0, 0, 1, .MEND_PORT_CFG⟩,
  ⟨0x400, 0, 1, .SHTL_PORT_BUF⟩,
  ⟨0x408, 0, 1, .SHTL_Q_CMD⟩,
  ⟨0x1000, 8, 128, .SHTL_Q_CFG⟩,
  ⟨0x1400, 8, 128, .SHTL_Q_STAT⟩,
  ⟨0x1800, 8, 128, .SHTL_Q_MAX⟩,
  ⟨0x418, 0, 1, .SHTL_GCL_CFG⟩,
  ⟨0x420, 0, 1, .SHTL_GCL_CTRL⟩,
  ⟨0x428, 0, 1, .SHTL_GCL_ADMIN_BASE_SEC⟩,
  ⟨0x430, 0, 1, .SHTL_GCL_ADMIN_BASE_NS⟩,
  ⟨0x438, 0, 1, .SHTL_GCL_ADMIN_CYCLE⟩,
  ⟨0x440, 0, 1, .SHTL_GCL_ADMIN_EXT⟩,
  ⟨0x448, 0, 1, .SHTL_GCL_OPER_BASE_SEC⟩,
  ⟨0x450, 0, 1, .SHTL_GCL_OPER_BASE_NS⟩,
  ⟨0x458, 0, 1, .SHTL_GCL_OPER_CYCLE⟩,
  ⟨0x460, 0, 1, .SHTL_GCL_CHANGE_SEC⟩,
  ⟨0x468, 0, 1, .SHTL_GCL_CHANGE_NS⟩,
  ⟨0x470, 0, 1, .SHTL_GCL_OPER_EXT⟩,
  ⟨0x478, 0, 1, .SHTL_GCL_STATUS⟩,
  ⟨0x480, 0, 1, .SHTL_GCL_EVENT⟩,
  ⟨0x4000, 8, 1024, .SHTL_GCL_ADMIN⟩,
  ⟨0x6000, 8, 1024, .SHTL_GCL_OPER⟩,
  ⟨0x410, 0, 1, .SHTL_PORT_SEL⟩,
  ⟨0x2000, 8, 128, .SHTL_Q_SHAPE⟩,
  ⟨0x2400, 8, 128, .SHTL_Q_SEL⟩,
  ⟨0x1c00, 8, 128, .SHTL_Q_TOKENS⟩,
  ⟨0x200, 0, 1, .SELV_CTRL⟩,
  ⟨0x208, 0, 1, .SELV_STAGE_CFG⟩,
  ⟨0x210, 0, 1, .SELV_STAGE_STATUS⟩,
  ⟨0x218, 0, 1, .SELV_GRID_STATUS⟩,
  ⟨0x220, 0, 1, .SELV_HEM_CFG⟩,
  ⟨0x228, 0, 1, .SELV_HOLD_CFG⟩,
  ⟨0x230, 0, 1, .SELV_PREEMPT_CFG⟩,
  ⟨0x238, 0, 1, .SELV_PREEMPT_STATUS⟩,
  ⟨0x240, 0, 1, .SELV_GUARD_STATUS⟩,
  ⟨0x8000, 8, 1024, .SELV_GUARD_ENTRY⟩,
  ⟨0x248, 0, 1, .SELV_EVENT⟩,
  ⟨0x0, 0, 1, .MAC_CFG⟩,
  ⟨0x8, 0, 1, .MAC_ADDR⟩,
  ⟨0x10, 0, 1, .MAC_LINK_STATUS⟩,
  ⟨0x18, 0, 1, .MAC_FC_TX_CFG⟩,
  ⟨0x20, 0, 1, .MAC_FC_TX_CMD⟩,
  ⟨0x28, 0, 1, .MAC_TAG_CFG⟩,
  ⟨0x30, 0, 1, .MAC_EVENT⟩,
  ⟨0x300, 8, 8, .TAPE_PEC_CFG⟩,
  ⟨0x340, 0, 1, .TAPE_CHALK_CFG⟩]

/-- Table 18-5, the registers that exist in local ports 14 and 15 only (R559). -/
def mapRowsMultidrop : List MapRow := [
  ⟨0x40, 0, 1, .MAC_MD_CFG⟩,
  ⟨0x48, 0, 1, .MAC_PLCA_CFG⟩,
  ⟨0x50, 0, 1, .MAC_MD_STATUS⟩,
  ⟨0x800, 0, 1, .MDP_PC_CFG⟩,
  ⟨0x808, 0, 1, .MDP_PC_TIMING⟩,
  ⟨0x810, 0, 1, .MDP_PC_TABLE_CFG⟩,
  ⟨0xc00, 8, 64, .MDP_PC_SLOT_ADMIN⟩,
  ⟨0xe00, 8, 64, .MDP_PC_SLOT_OPER⟩,
  ⟨0x818, 0, 1, .MDP_PC_STATUS⟩,
  ⟨0x820, 0, 1, .MDP_PC_TABLE_STATUS⟩,
  ⟨0x840, 8, 4, .MDP_PC_PRESENT⟩,
  ⟨0x860, 8, 4, .MDP_PC_DRIFT⟩,
  ⟨0x880, 0, 1, .MDP_EVENT⟩]

/-- Table 18-6, the HIF and DMA registers. -/
def mapRowsHif : List MapRow := [
  ⟨0x2000000, 8, 16384, .HIF_RING_BASE⟩,
  ⟨0x2020000, 8, 16384, .HIF_RING_CFG⟩,
  ⟨0x2040000, 8, 16384, .HIF_RING_CTRL⟩,
  ⟨0x2060000, 8, 16384, .HIF_RING_STATUS⟩,
  ⟨0x2080000, 32, 4096, .HIF_CQ_BASE⟩,
  ⟨0x2080008, 32, 4096, .HIF_CQ_CFG⟩,
  ⟨0x2080010, 32, 4096, .HIF_CQ_DB⟩,
  ⟨0x2080018, 32, 4096, .HIF_CQ_STATUS⟩,
  ⟨0x20a0000, 8, 256, .HIF_LEDGER_ADDR⟩,
  ⟨0x20a0800, 0, 1, .HIF_CFG⟩,
  ⟨0x20a0808, 0, 1, .HIF_RX_STORE⟩,
  ⟨0x20a0810, 0, 1, .HIF_EVENT⟩,
  ⟨0x2104000, 0, 1, .DMA_CTRL⟩,
  ⟨0x2100000, 64, 256, .DMA_CH_CFG⟩,
  ⟨0x2100008, 64, 256, .DMA_CH_RATE⟩,
  ⟨0x2100010, 64, 256, .DMA_CH_WIN⟩,
  ⟨0x2100018, 64, 256, .DMA_CH_CTRL⟩,
  ⟨0x2100020, 64, 256, .DMA_CH_DESC⟩,
  ⟨0x2100028, 64, 256, .DMA_CH_STATUS⟩,
  ⟨0x2100030, 64, 256, .DMA_CH_POS⟩,
  ⟨0x2104008, 0, 1, .DMA_PUB_CMD⟩,
  ⟨0x2104010, 0, 1, .DMA_PUB_STATUS⟩,
  ⟨0x2104040, 8, 8, .DMA_PUB_DATA⟩,
  ⟨0x2104018, 0, 1, .DMA_EVENT⟩]

/-- The register whose 8-byte slot begins at an offset, within a list of rows: the instance index of the row. -/
def lookupRows (rows : List MapRow) (off : Nat) : Option (Reg × Nat) :=
  rows.findSome? fun r =>
    if r.stride = 0 then (if off = r.off then some (r.reg, 0) else none)
    else if r.off ≤ off ∧ (off - r.off) % r.stride = 0 ∧ (off - r.off) / r.stride < r.count then
      some (r.reg, (off - r.off) / r.stride)
    else none

/-- The register whose slot begins at an 8-byte-aligned BAR0 offset, where there is one (R555, R556, R558 to R560). -/
def regAt (off : Nat) : Option RegRef :=
  if off < 0x100_0000 then
    (lookupRows (mapRowsDEV ++ mapRowsTPL ++ mapRowsSTRM ++ mapRowsMEND ++ mapRowsINTC ++ mapRowsBOOT ++ mapRowsTHIM ++ mapRowsPAIR ++ mapRowsTAPE) off).map
      fun (r, i) => ⟨r, i, 0⟩
  else if off < 0x200_0000 then
    let b := (off - 0x100_0000) / 0x20_0000
    let o := (off - 0x100_0000) % 0x20_0000
    if o < 0x10_0000 then (lookupRows mapRowsCommon o).map fun (r, k) => ⟨r, b, k⟩
    else
      let l := (o - 0x10_0000) / 0x1_0000
      let q := o % 0x1_0000
      (lookupRows (if 14 ≤ l then mapRowsPort ++ mapRowsMultidrop else mapRowsPort) q).map fun (r, k) => ⟨r, 16 * b + l, k⟩
  else if off < 0x300_0000 then (lookupRows mapRowsHif off).map fun (r, i) => ⟨r, i, 0⟩
  else none

/-- The row of a register among rows of an address table. -/
def rowOf (rows : List MapRow) (r : Reg) : Option MapRow := rows.find? fun x => decide (x.reg = r)

/-- The BAR0 offset of a register instance: the inverse of `regAt`. -/
def addrOf (r : Reg) (i j : Nat) : Nat :=
  match rowOf (mapRowsDEV ++ mapRowsTPL ++ mapRowsSTRM ++ mapRowsMEND ++ mapRowsINTC ++ mapRowsBOOT ++ mapRowsTHIM ++ mapRowsPAIR ++ mapRowsTAPE ++ mapRowsHif) r with
  | some x => x.off + x.stride * i
  | none =>
    match rowOf (mapRowsPort ++ mapRowsMultidrop) r with
    | some x => 0x100_0000 + i / 16 * 0x20_0000 + 0x10_0000 + i % 16 * 0x1_0000 + x.off + x.stride * j
    | none =>
      match rowOf mapRowsCommon r with
      | some x => 0x100_0000 + i * 0x20_0000 + x.off + x.stride * j
      | none => 0

end Sys2Proof.Machine
end

