-- ==== Sys2Proof/Machine/Tbl.lean ====
section
/-!
DEFINITION. Sparse tables: a list of (key, value) pairs with strictly rising keys and no entry equal to what an unlisted key reads as. Memories
(lists of address and byte), counters and every numbered resource of the QK8128 are held in this one canonical form.
-/
namespace Sys2Proof.Machine

/-- A sparse table from numbers to values. -/
abbrev Tbl (α : Type) := List (Nat × α)

/-- The value at a key; `d` is what an unlisted key reads as. -/
def Tbl.get {α : Type} (d : α) : Tbl α → Nat → α
  | [], _ => d
  | (a, v) :: t, k => if k = a then v else Tbl.get d t k

/-- The table without a key. -/
def Tbl.erase {α : Type} : Tbl α → Nat → Tbl α
  | [], _ => []
  | (a, v) :: t, k => if k = a then Tbl.erase t k else (a, v) :: Tbl.erase t k

/-- The table with an entry put in its place by key. -/
def Tbl.insert {α : Type} : Tbl α → Nat → α → Tbl α
  | [], k, v => [(k, v)]
  | (a, w) :: t, k, v => if k < a then (k, v) :: (a, w) :: t else if k = a then (k, v) :: t else (a, w) :: Tbl.insert t k v

/-- The table with a key holding a value; writing what an unlisted key reads as removes the entry. -/
def Tbl.set {α : Type} [DecidableEq α] (d : α) (t : Tbl α) (k : Nat) (v : α) : Tbl α :=
  if v = d then t.erase k else t.insert k v

/-- The table with the value at a key changed by a function. -/
def Tbl.upd {α : Type} [DecidableEq α] (d : α) (t : Tbl α) (k : Nat) (f : α → α) : Tbl α := t.set d k (f (t.get d k))

/-- The canonical form: keys strictly rising, and no entry equal to what an unlisted key reads as. -/
def Tbl.wf {α : Type} [DecidableEq α] (d : α) (t : Tbl α) : Bool :=
  decide (t.Pairwise fun a b => a.1 < b.1) && t.all fun a => decide (a.2 ≠ d)

/-- A byte memory: what an unlisted address reads as is the byte 0 (log entry 2). -/
abbrev Memory := Tbl Byte

/-- One byte of a memory. -/
def Memory.byte (m : Memory) (a : Nat) : Byte := Tbl.get 0#8 m a

/-- A memory with one byte written. -/
def Memory.put (m : Memory) (a : Nat) (b : Byte) : Memory := Tbl.set 0#8 m a b

/-- The canonical form of a memory. -/
def Memory.wf (m : Memory) : Bool := Tbl.wf 0#8 m

/-- `n` bytes of a memory, rising addresses. -/
def Memory.readBytes (m : Memory) (a n : Nat) : List Byte := (List.range n).map fun k => Memory.byte m (a + k)

/-- A memory with bytes written at rising addresses. -/
def Memory.writeBytes : Memory → Nat → List Byte → Memory
  | m, _, [] => m
  | m, a, b :: bs => Memory.writeBytes (Memory.put m a b) (a + 1) bs

/-- The number that bytes spell with the least significant byte first (R12). -/
def leNat : List Byte → Nat
  | [] => 0
  | b :: bs => b.toNat + 256 * leNat bs

/-- The number that bytes spell in network byte order (R12). -/
def beNat (bs : List Byte) : Nat := bs.foldl (fun a b => a * 256 + b.toNat) 0

/-- `n` bytes of a number, least significant first. -/
def leBytes : Nat → Nat → List Byte
  | 0, _ => []
  | n + 1, v => BitVec.ofNat 8 v :: leBytes n (v / 256)

/-- `n` bytes of a number in network byte order. -/
def beBytes (n v : Nat) : List Byte := (leBytes n v).reverse

/-- A little-endian word of `n` bytes read from a memory. -/
def Memory.readLe (m : Memory) (a n : Nat) : Nat := leNat (Memory.readBytes m a n)

/-- A memory with a little-endian word of `n` bytes written. -/
def Memory.writeLe (m : Memory) (a n v : Nat) : Memory := Memory.writeBytes m a (leBytes n v)

end Sys2Proof.Machine
end

