-- ==== Sys2Proof/Syntax.lean ====
section
/-!
DEFINITION. The commands of the QK8128: one constructor of `Instr` for each row of the table of operations and events, with the operands that the outside
world supplies (what a register write carries, what arrives on a line, what a host or partner returns, which memory error a read meets).
-/
namespace Sys2Proof

/-- A requester of register accesses (R12): a host function or a service-core pair. -/
inductive Req where
  | pf (n : Fin 8)
  | sp (n : Fin 8)
deriving DecidableEq, Repr

/-- The number of a requester: functions 0 to 7, pairs 8 to 15. -/
def Req.num : Req → Nat
  | .pf n => n.val
  | .sp n => 8 + n.val

abbrev Port := Fin 128
abbrev Bolt := Fin 8
abbrev Dom := Fin 8

/-- What a read of a stored frame meets in the buffer memory (R198, R470). -/
inductive BufErr where
  | none
  | corrected
  | cell
  | record
  | code
deriving DecidableEq, Repr


/-- Where an Announce comes from: grandmaster identity, steps removed, and the clocks on its way (path trace, R77). -/
structure ClockSrc where
  ident : BitVec 64
  steps : BitVec 16 := 0
  path : List (BitVec 64) := []
deriving DecidableEq, Repr

/-- A PTP message as the time service handles it (R77, R79, R81). Times are in 2^-16 ns of the instance's domain: `tIn` the ingress timestamp, `origin` and `corr` the
master's time and correction; `ratio` is the service's estimate of a frequency ratio (R60, R99); `quality` is clockClass, clockAccuracy and offsetScaledLogVariance; `peer` and `seq`
are the sourcePortIdentity and the sequenceId of a request. -/
inductive PtpMsg where
  | sync (tIn origin : Nat) (corr : Int) (ratio : BitVec 32)
  | twoStepSync (tIn : Nat)
  | followUp (tIn origin : Nat) (corr : Int) (ratio : BitVec 32)
  | announce (prio1 : BitVec 8) (quality : BitVec 32) (prio2 : BitVec 8) (src : ClockSrc)
  | linkDelay (delay : Nat) (ratio : BitVec 32)
  | pdelayReq (tIn : Nat) (peer : BitVec 80) (seq : BitVec 16)
  | delayReq (tIn : Nat) (peer : BitVec 80) (seq : BitVec 16)
deriving DecidableEq, Repr

/-- A periodic message of an instance, or the end of its initial period (R77, R78). -/
inductive PtpTimer where
  | sync | announce | peerDelay | delayReq | initialEnd
deriving DecidableEq, Repr

/-- A TTDP timer (R98). -/
inductive TtdpTimer where
  | hello | topology | helloTimeout | inhibitEnd
deriving DecidableEq, Repr

/-- What a transmission other than a staged frame carries (R253, R264, R287). -/
inductive TxPick where
  | express | preempt | control | verify | respond | retry
deriving DecidableEq, Repr

/-- What has lasted on a link (R276): signal lost, lock lost, high BER, Local or Remote Fault, a fault of the multidrop line. -/
inductive LossCause where
  | signal | lock | highBer | fault | line
deriving DecidableEq, Repr

/-- An ECC error that a lookup meets in the Stream Cache (R122): corrected, or uncorrectable in a way of the set of the first or second key; ways count from the most recently used. -/
inductive CacheErr where
  | none
  | corrected
  | uncorrectable (second : Bool) (way : Fin 8)
deriving DecidableEq, Repr

/-- An ECC error that a frame meets in the Mender's state memory (R157): corrected, or uncorrectable in its function's or its generator's record. -/
inductive MendErr where
  | none | corrected | function | generator
deriving DecidableEq, Repr

/-- Records of their mirror queues that the transmitters of PL0 and PL1 have sent since the command before (R175, R487): the speed of the link is not the device's. -/
structure LaneSent where
  pl0 : Nat := 0
  pl1 : Nat := 0
deriving DecidableEq, Repr

/-- What a port's lane has seen with a received frame: FEC codewords corrected and found uncorrectable since the frame before (Table 16-2), and the records sent on the Pair Link. -/
structure RxMeet where
  lanes : LaneSent := {}
  fecCorrected : Nat := 0
  fecFailed : Nat := 0
deriving DecidableEq, Repr

/-- What a frame of the device meets at the Mender stage: an ECC error of its generator's record, and the records sent on the lanes (R157, R175). -/
structure MendMeet where
  err : MendErr := .none
  lanes : LaneSent := {}
deriving DecidableEq, Repr

/-- The offer of the frame at the head of a transmit ring (R341). -/
structure TxOffer where
  ring : Fin 8192
  mend : MendMeet := {}
deriving DecidableEq, Repr

/-- A SNAPSHOT record (Table 15-8): the state bits of a recovery function, SEQ of a generator, or the master state of a Polled Cycle port. -/
inductive SnapRec where
  | func (i : BitVec 18) (v : BitVec 434)
  | gen (i : BitVec 18) (n : BitVec 16)
  | port (p : Port) (st : Fin 7) (cycle : BitVec 32) (present drift : BitVec 256)
deriving DecidableEq, Repr

/-- How a PROGRAM or ERASE of an NVM sector ends (R461): done, an error of the NVM, or a mismatch when it is read back; the sector then holds `got`. -/
inductive NvmRes where
  | ok
  | error (got : List Byte)
  | mismatch (got : List Byte)
deriving DecidableEq, Repr

/-- A supply that a monitor watches (R467). -/
inductive Supply where
  | vtime | vsd | vsdh | vaux | vddq | vdd2
deriving DecidableEq, Repr

/-- An uncorrectable error that the scrubber finds, or one that it corrects (R469): a Stream Cache way (Bolt, set, way), a recovery function or a generator record, a frame buffer
cell with the queue and place of the frame it holds, a cell link or frame record of a Bolt, an address of local memory. -/
inductive ScrubErr where
  | way (b : Fin 8) (set : Fin 4096) (way : Fin 8)
  | function (i : BitVec 18)
  | generator (i : BitVec 18)
  | cell (b : Fin 8) (frame : Option (Fin 16384 × Nat))
  | link (b : Fin 8)
  | localWord (a : BitVec 21)
  | corrected (b : Option (Fin 8)) (cache mender : Bool)
deriving DecidableEq, Repr

/-- The time-service parameters of an instance, as the TIME section of the Pattern gives them (Table 03-2); durations in ns. -/
structure TimeParams where
  ports : List (Fin 128)
  gmCapable : Bool
  priority1 : BitVec 8
  priority2 : BitVec 8
  /-- 0 PROFILE, 1 RANKED, 2 EXTERNAL -/
  bmca : Fin 3
  /-- static port roles of EXTERNAL: 0 slave, 1 master (R77, R83) -/
  roles : List (Fin 128 × Fin 2)
  logSyncInit : Int
  logSyncOper : Int
  logPdelayInit : Int
  logPdelayOper : Int
  logMinDelayReq : Int
  logAnnounce : Int
  announceTimeout : Nat
  syncTimeout : Nat
  propThresh : Nat
  allowedLost : Nat
  initialS : Nat
  listenExtra : Nat
  idSlot : Nat
  returnHold : Nat
  /-- link delays come from the Common Mean Link Delay Service (R77) -/
  cmlds : Bool
deriving DecidableEq, Repr

/-- The parameters of the train topology service (R98); durations in ns. -/
structure TtdpParams where
  lines : List (Fin 128 × Fin 128)
  helloNs : Nat
  topologyNs : Nat
  timeoutNs : Nat
  inhibitNs : Nat
deriving DecidableEq, Repr

/-- What the firmware services take from the Pattern beside the time parameters: LIFE_CHECK_INTERVAL in ms (R169), the service addresses (R106), the queue of each service's frames as
traffic class and local index: time, topology, supervision (R180), and the topology parameters. -/
structure Services where
  lifeCheckMs : Nat
  addrs : List (BitVec 48)
  queues : List (BitVec 3 × BitVec 4)
  ttdp : TtdpParams
deriving DecidableEq, Repr

/-- A train as a new topology describes it: whether this device is an ETBN, and the number of cars (R83, R99). -/
structure Train where
  isEtbn : Bool
  cars : Nat
deriving DecidableEq, Repr

/-- One item that BS08 loads from the STREAMS, RECORDS and LOCAL sections (Table 14-3): the DRAM places of the Stream Table and the Key Directory, the hash seeds, a Stream
Table entry, a record of the stream tables or of the Mender's, a publication entry, an image for local memory. -/
inductive LoadItem where
  | bases (table directory : BitVec 64)
  | seeds (v : BitVec 64)
  | entry (idx : BitVec 24) (v : BitVec 512)
  | strm (table : Fin 8) (idx : BitVec 24) (v : BitVec 512)
  | mend (table : Fin 8) (idx : BitVec 18) (v : BitVec 512)
  | pub (idx : Fin 1024) (v : BitVec 512)
  | image (a : BitVec 21) (bytes : List Byte)
deriving DecidableEq, Repr

/-- What a boot step has found or read when it completes, beside what the NVM holds in a format that the specification gives (R434: the contents of the other sections are Onune's):
the size SFDP reports in MiB, the POLICY, DEVICE and ACCESS sections, capacity and training of the DRAM channels, the items to load, the lanes that failed calibration and the
transmit and receive latency of the ports in ps (R50), and the TIME, SAFETY and PAIR parameters. -/
inductive BootWork where
  | plain
  | nvm (sizeMb : Nat)
  | policy (acqTimeoutS : Nat) (reqUp : BitVec 128) (reqAcq : BitVec 8)
  | identity (identPrefix : BitVec 48) (subsys : BitVec 32) (vectors : List (BitVec 11 × BitVec 12)) (pfPriv : BitVec 16) (windows : List (BitVec 128))
  | dram (bytes0 bytes1 : Nat) (trained0 trained1 : Bool)
  | load (items : List LoadItem)
  | lanes (failed : List (Fin 8 × Fin 5)) (latencies : List (Fin 128 × Nat × Nat))
  | config (times : List (Fin 8 × TimeParams)) (svc : Services) (thimCtrl : BitVec 32) (pairCfg : BitVec 64)
deriving DecidableEq, Repr

/-- The commands: one constructor for each row of the table of operations and events. -/
inductive Instr where
  /-- REGISTER_WRITE (R16): A write to a configuration register that has no row of its own takes effect as its change class states. -/
  | registerWrite (r : Req) (bar : Fin 4) (off : Nat) (len : Nat) (v : Nat) (aux : Bool)
  /-- LOW_HALF_READ (R12): A low-half read of a 64-bit register latches the high half for the requester and has the register's read effect. -/
  | lowHalfRead (r : Req) (bar : Fin 4) (slot : BitVec 26)
  /-- HIGH_HALF_READ (R12): A high-half read returns the latched high half if the requester's latch belongs to that register, and the present high half otherwise. -/
  | highHalfRead (r : Req) (bar : Fin 3) (slot : BitVec 26)
  /-- LOW_HALF_WRITE (R12): A low-half write replaces the requester's staged half without writing the register. -/
  | lowHalfWrite (r : Req) (slot : BitVec 26) (v : BitVec 32)
  /-- HIGH_HALF_WRITE (R12): A high-half write commits both halves, using the present low half with W1C and WO fields taken as 0 when the requester has nothing staged for that register. -/
  | highHalfWrite (r : Req) (slot : BitVec 26) (v : BitVec 32) (aux : Bool)
  /-- CLASS_B_COMMIT (R449): A pending class B value in its Basting slot commits at its field's natural boundary. -/
  | classBCommit (off : BitVec 26) (lo : Fin 64)
  /-- PACE_WINDOW_END (R26): At the end of each 128 ns window of L time, the pace monitor converts its lap count to a pace value. -/
  | paceWindowEnd (b : Bolt) (laps : Nat)
  /-- PACE_MICROSECOND_END (R26): At the end of each microsecond of L time, AVG_1US, MIN_1US and LOWEST are updated and the Pace Low condition is evaluated. -/
  | paceMicrosecondEnd (b : Bolt)
  /-- CLR_LOWEST (R26): Writing PACE_CTRL.CLR_LOWEST resets LOWEST in every Bolt to the current microsecond's mean. -/
  | clrLowest (r : Req)
  /-- VCORE_LOW_DETECT (R466): The VCORE comparator detects VCORE below 0.62 V, which is a Fatal fault. -/
  | vcoreLowDetect
  /-- FRAME_RECEIVED (R101): A frame received whole at a port passes the receive checks and then the ingress sequence of parse, control classification, identification, gate, meter, recovery and admission. -/
  | frameReceived (p : Port) (d : List Byte) (fcsOk codeOk ttdp : Bool) (cache : CacheErr) (mend : MendErr) (rx : RxMeet)
  /-- CTRL_LIMIT_WINDOW_END (R107): At the end of each 1 ms window, the per-port count of control frames for the service cores restarts. -/
  | ctrlLimitWindowEnd
  /-- MISS_LOOKUP_COMPLETE (R127): A miss-path lookup resolves, installs an entry or a negative entry, and releases the waiting frames of its key from Miss Wait. -/
  | missLookupComplete (err : Option (Fin 2)) (mend : MendErr) (lanes : LaneSent)
  /-- NEG_ENTRY_EXPIRY (R129): A negative entry expires NEG_LIFE µs after its installation. -/
  | negEntryExpiry
  /-- CACHE_ENTRY_RELOAD (R122): A pinned entry lost to an ECC error is reloaded from the Stream Table. -/
  | cacheEntryReload (b : Bolt) (k : Fin 4096)
  /-- HASH_SEED_WRITE (R565): A write of HASH_SEED is accepted only with STRM stopped and the table empty, and it invalidates every cached copy and negative entry. -/
  | hashSeedWrite (r : Req) (v : BitVec 64)
  /-- STRM_TBL_READ (R143): TBL_CMD READ copies record INDEX of the chosen table into TBL_DATA. -/
  | strmTblRead (r : Req) (table : Fin 8) (idx : BitVec 24) (err : Bool)
  /-- STRM_TBL_WRITE (R143): TBL_CMD WRITE writes a meter, stream gate, ingress gate list entry or configuration, or destination set record from TBL_DATA. -/
  | strmTblWrite (r : Req) (table : Fin 8) (idx : BitVec 24)
  /-- STRM_TBL_INSERT (R143): TBL_CMD INSERT writes a Stream Table entry at INDEX and enters its key in the directory or sets. -/
  | strmTblInsert (r : Req) (table : Fin 8) (idx : BitVec 24) (err : Bool)
  /-- STRM_TBL_UPDATE (R143): TBL_CMD UPDATE finds an entry by key and replaces its class B fields. -/
  | strmTblUpdate (r : Req) (table : Fin 8) (idx : BitVec 24) (err : Bool)
  /-- STRM_TBL_DELETE (R143): TBL_CMD DELETE finds an entry by key, clears it and its slot and removes it from every slice. -/
  | strmTblDelete (r : Req) (table : Fin 8) (idx : BitVec 24) (err : Bool)
  /-- STRM_TBL_LOOKUP (R143): TBL_CMD LOOKUP finds an entry by key and returns it with its index. -/
  | strmTblLookup (r : Req) (table : Fin 8) (idx : BitVec 24) (err : Bool)
  /-- STRM_TBL_PIN (R143): TBL_CMD PIN sets PINNED and PIN_BOLTS and loads the entry into those slices. -/
  | strmTblPin (r : Req) (table : Fin 8) (idx : BitVec 24) (err : Bool)
  /-- STRM_TBL_UNPIN (R143): TBL_CMD UNPIN clears PINNED so that the entry becomes replaceable. -/
  | strmTblUnpin (r : Req) (table : Fin 8) (idx : BitVec 24) (err : Bool)
  /-- STRM_TBL_COMPLETE (R145): A STRM table operation ends, BUSY falls, CODE is reported and TBL_DONE is set. -/
  | strmTblComplete
  /-- INGRESS_GATE_COMMIT (R134): A gate list configuration WRITE with COMMIT = 1 is checked and requests the admin-to-oper switch at a computed time. -/
  | ingressGateCommit (r : Req) (l : Fin 4096)
  /-- INGRESS_GATE_STOP (R134): A configuration WRITE with STOP = 1 requests that the ingress gate list stop at its next cycle start. -/
  | ingressGateStop (r : Req) (l : Fin 4096)
  /-- INGRESS_GATE_SWITCH (R134): At its switch time, the ingress gate list exchanges banks and starts the new oper list. -/
  | ingressGateSwitch (l : Fin 4096)
  /-- INGRESS_GATE_INTERVAL (R135): At each interval start of an ingress gate list, the gate states change and the octet counts restart. -/
  | ingressGateInterval (l : Fin 4096)
  /-- METER_SWEEP (R141): A background sweep brings every meter up to date at least once every 2^32 ns. -/
  | meterSweep
  /-- SCRUB_PASS (R469): The scrubber reads and corrects every ECC-protected word and applies the owning rule's reaction to an uncorrectable error. -/
  | scrubPass (errs : List ScrubErr)
  /-- TIMEOSC_MEASURE_DONE (R41): After 1 ms of measurement against REFCLK_A, the TIMEOSC frequency is selected or FREQ stays 0. -/
  | timeoscMeasureDone (hz : Nat)
  /-- TPLL_LOCK (R39): When both TPLLs lock, the L counters pass from the reference clock to TPCLK at the next vote. -/
  | tpllLock (phase : Fin 6401)
  /-- TIMEOSC_LOST (R43): When TIMEOSC is declared lost, the TPLLs switch to REFCLK_A and every LOCKED domain enters HOLDOVER with a Degraded fault. -/
  | timeoscLost
  /-- REFCLK_A_LOST (R43): When REFCLK_A is lost while it is the reference, the TPLLs switch to REFCLK_B, or the fault is Fatal if no reference is left. -/
  | refclkALost
  /-- COUNTER_VOTE (R44): At every whole microsecond of L time, the three counters of each timescale are voted and the sync state is evaluated. -/
  | counterVote (upsets : List (Fin 9 × Fin 3 × Int))
  /-- PORT_TIME_UPDATE (R46): Every 64 ns, the voted time and RATE reach each port, whose release and guardian copies are compared. -/
  | portTimeUpdate (p : Port) (skew : Int)
  /-- DOM_ENABLE (R56): Writing DOM_CFG.EN = 1 moves a domain to UNLOCKED, and writing 0 moves it to OFF. -/
  | domEnable (r : Req) (d : Dom) (en : Bool)
  /-- DOM_UNLOCK (R56): Writing DOM_CFG.UNLOCK = 1 moves an enabled domain to UNLOCKED. -/
  | domUnlock (r : Req) (d : Dom)
  /-- DOM_SAMPLE_WRITE (R57): Completing DOM_SAMPLE_OFS submits an offset sample and replaces a sample still waiting. -/
  | domSampleWrite (r : Req) (d : Dom) (ofs : BitVec 64)
  /-- DOM_SAMPLE_PROCESS (R58): The time plane processes a sample, discarding it or accepting it and moving the domain state and RATE. -/
  | domSampleProcess (d : Dom)
  /-- DOM_STEP_APPLY (R56): The pending step is applied to all three counters at the first L microsecond boundary at least 64 ns later, and the domain enters LOCKED. -/
  | domStepApply (d : Dom)
  /-- DOM_SET_WRITE (R59): Writing DOM_SET_SEC requests a direct load of the domain, accepted only in OFF and UNLOCKED. -/
  | domSetWrite (r : Req) (d : Dom) (sec : BitVec 48)
  /-- DOM_SET_APPLY (R59): The requested load is applied to the domain's counters at the next L microsecond boundary and counts as a step. -/
  | domSetApply (d : Dom)
  /-- HOLD_TIMEOUT_EXPIRY (R56): After HOLD_TIMEOUT without an accepted sample, a LOCKED domain enters HOLDOVER at its holdover rate. -/
  | holdTimeoutExpiry (d : Dom)
  /-- HOLD_EST_UPDATE (R64): Every microsecond in HOLDOVER, HOLD_EST is recomputed from RATE_UNC and DRIFT. -/
  | holdEstUpdate (d : Dom)
  /-- SNAPSHOT_TRIGGER (R75): Writing SNAP_CTRL.TRIGGER copies the voted values of all nine timescales on one TPCLK edge. -/
  | snapshotTrigger (r : Req)
  /-- SNAPSHOT_COMPLETE (R75): The snapshot copies become valid, BUSY falls and SNAP_DONE is set. -/
  | snapshotComplete
  /-- OUT_ARM (R70): Writing ARM = 1 starts an output unit at START or at the next future event of its sequence, setting LATE if START is past. -/
  | outArm (r : Req) (u : Fin 36)
  /-- OUT_DISARM (R69): Writing ARM = 0 lets a pulse in progress finish and then stops the unit at its last computed level. -/
  | outDisarm (r : Req) (u : Fin 36)
  /-- OUT_MODE_OFF (R69): Writing MODE Off stops the unit driving its pin within 16 ns and leaves the net to the keeper. -/
  | outModeOff (r : Req) (u : Fin 36)
  /-- OUT_EVENT (R65): At an event time, an armed output unit drives its pulse or toggles its output. -/
  | outEvent (u : Fin 36)
  /-- OUT_PULSE_END (R69): At the end of WIDTH, a Pulse unit returns to the inactive level. -/
  | outPulseEnd (u : Fin 36)
  /-- CAPTURE_EDGE (R72): A selected edge that stays stable for FILTER ns is recorded with its time in the capture domain. -/
  | captureEdge (u : Fin 34) (rise : Bool) (age : Nat)
  /-- CAP_NS_READ (R73): A read of CAP_NS returns the head capture record and removes it. -/
  | capNsRead (r : Req) (u : Fin 34)
  /-- TIME_SERVICE_PTP_MESSAGE (R81): The time service handles a PTP message delivered to its instance, relaying Sync and computing offset samples. -/
  | timeServicePtpMessage (d : Dom) (p : Port) (m : PtpMsg)
  /-- GM_LISTEN_EXPIRY (R84): A grandmaster-capable instance that has heard no Announce for T_LISTEN plus its identifier offset declares itself grandmaster. -/
  | gmListenExpiry (d : Dom)
  /-- ANNOUNCE_BETTER_CLOCK (R86): An instance acting as grandmaster that receives a better Announce clears GM and becomes a slave. -/
  | announceBetterClock (d : Dom) (p : Port) (prio1 : BitVec 8) (quality : BitVec 32) (prio2 : BitVec 8) (src : ClockSrc)
  /-- MASTER_LOSS_TIMEOUT (R95): announceReceiptTimeout or syncReceiptTimeout on the slave port starts the loss-of-master actions. -/
  | masterLossTimeout (d : Dom)
  /-- RETURN_HOLD_EXPIRY (R96): After RETURN_HOLD of unbroken Announces, an instance accepts the better returning clock. -/
  | returnHoldExpiry (d : Dom)
  /-- TTDP_TIMER_EXPIRY (R98): A TTDP HELLO, TOPOLOGY or inauguration timer expires in L time. -/
  | ttdpTimerExpiry (p : Port) (t : TtdpTimer)
  /-- TOPOLOGY_PUBLISH (R99): A new train topology restarts Pdelay, recomputes RANKED priority2 and distributes schedule sets with a commit time. -/
  | topologyPublish (counter position : Nat) (train : Train) (changed : List Port) (backbone : Dom)
  /-- SUPERVISION_FRAME (R169): The supervision service consumes a PRP or HSR supervision frame, forwards it on HSR rings and updates node statistics. -/
  | supervisionFrame (p : Port) (src : BitVec 48) (seq : BitVec 16)
  /-- LIFE_CHECK_SEND (R169): Every LIFE_CHECK_INTERVAL, the service sends its own supervision frame on every HSR and PRP port. -/
  | lifeCheckSend
  /-- RECOVERY_RESET_TIMEOUT (R155): A recovery function with no pass for RESET_MS is reset to take any number, and the reset is counted. -/
  | recoveryResetTimeout (i : BitVec 18)
  /-- MENDER_SWEEP (R155): The background sweep visits every recovery function at least once every 8 ms. -/
  | menderSweep
  /-- LATENT_TEST (R158): When LAT_T reaches LAT_PERIOD, the latent-error difference is compared with LAT_DIFF. -/
  | latentTest (i : BitVec 18)
  /-- LATENT_RESET (R158): When LAT_R reaches LAT_RESET, LAT_BASE is recomputed. -/
  | latentReset (i : BitVec 18)
  /-- MEND_TBL_READ (R179): MEND TBL_CMD READ copies a recovery function or generator record into TBL_DATA. -/
  | mendTblRead (r : Req) (table : Fin 8) (idx : BitVec 18)
  /-- MEND_TBL_WRITE (R151): MEND TBL_CMD WRITE writes a function's configuration and resets its state, or writes a whole generator record. -/
  | mendTblWrite (r : Req) (table : Fin 8) (idx : BitVec 18)
  /-- MEND_TBL_RESET (R151): MEND TBL_CMD RESET resets the state of one recovery function. -/
  | mendTblReset (r : Req) (table : Fin 8) (idx : BitVec 18)
  /-- MEND_TBL_COMPLETE (R179): A Mender table operation ends, CODE is reported and TBL_DONE is set. -/
  | mendTblComplete
  /-- LAT_LOG_READ (R557): A read of MEND.LAT_LOG returns the head latent-error report and removes it. -/
  | latLogRead (r : Req)
  /-- MIRROR_RECORD_APPLY (R173): The Shadow merges a received mirror record into its recovery function or generator. -/
  | mirrorRecordApply (isGen : Bool) (i : BitVec 18) (num : BitVec 16) (seq : BitVec 24)
  /-- END_OF_ROLE_APPLY (R174): The new Lead applies the old Lead's end-of-role marker and then begins Lead-only publication. -/
  | endOfRoleApply
  /-- MIRROR_SNAPSHOT (R176): When the Pair Link returns or a Shadow joins, the Lead sends the state of every mirrored function, generator and port. -/
  | mirrorSnapshot
  /-- SNAPSHOT_APPLY (R176): The Shadow applies a snapshot record and clears STALE for that function or generator. -/
  | snapshotApply (x : SnapRec)
  /-- HOST_FRAME_ADMIT_RETRY (R190): A host transmit frame held at its ring is tried again for admission when cells of the Bolt are freed. -/
  | hostFrameAdmitRetry (ring : Fin 8192)
  /-- QUEUE_FLUSH (R200): Q_CMD FLUSH discards every frame in the queue, or in all 128 queues of the port, when it starts. -/
  | queueFlush (r : Req) (p : Port) (all : Bool) (n : Fin 128)
  /-- QUEUE_FLUSH_DONE (R200): The flushed cells have returned to the free list, BUSY falls and FLUSH_DONE is set. -/
  | queueFlushDone (p : Port)
  /-- QUEUE_CLEAR_MAX (R201): Q_CMD CLEAR_MAX sets Q_MAX to the current depth and a sojourn of 0. -/
  | queueClearMax (r : Req) (p : Port) (all : Bool) (n : Fin 128)
  /-- STAGING_POINT (R29): At a window's staging point, the Shuttle begins handing the window's frames to the staging store. -/
  | stagingPoint (p : Port) (cls : Option (Fin 8))
  /-- STAGE_FRAME (R221): The Shuttle hands a frame of a gate-scheduled class that fits its window and the store to the Selvedge's staging store. -/
  | stageFrame (p : Port) (delayPs : Nat) (e : BufErr)
  /-- STORE_FULL_WINDOW (R249): A frame that cannot be staged before its window ends stays queued, and the window sets STORE_FULL. -/
  | storeFullWindow (p : Port) (cls : Fin 8)
  /-- SHUTTLE_SELECT (R222): At a selection opportunity of a path, the Shuttle chooses an Urgent queue or the highest eligible class by DWRR and hands its head frame to the path. -/
  | shuttleSelect (p : Port) (pre : Bool)
  /-- CALENDAR_COARSE_VISIT (R227): At each visit of a coarse calendar slot, a queue with laps 0 moves to its fine slot and others count down. -/
  | calendarCoarseVisit (b : Bolt)
  /-- CALENDAR_FINE_DUE (R227): When its fine calendar slot is due, a parked queue becomes eligible again. -/
  | calendarFineDue (b : Bolt)
  /-- Q_SHAPE_WRITE (R229): A write to Q_SHAPE sets the queue's tokens to 0, restarts its time and unparks it. -/
  | qShapeWrite (r : Req) (p : Port) (n : Fin 128) (v : BitVec 64)
  /-- RESCUE_EVALUATE (R233): At least once every microsecond, queues whose head age exceeds RESCUE_AGE are marked Urgent. -/
  | rescueEvaluate (p : Port)
  /-- GCL_ADMIN_WRITE (R210): A write to an admin gate list entry is stored in both the Shuttle's and the guardian's admin bank, or refused while a switch is pending. -/
  | gclAdminWrite (r : Req) (p : Port) (i : Fin 1024) (v : BitVec 64)
  /-- GCL_COMMIT (R214): Writing GCL_CTRL.COMMIT = 1 requests the admin-to-oper switch and starts the COMMIT checks. -/
  | gclCommit (r : Req) (p : Port)
  /-- GCL_COMMIT_CHECKED (R215): Within 20 µs, the checks and the copy comparison complete, and t_sw is computed with PENDING = 1, or the COMMIT is refused with BAD_CFG. -/
  | gclCommitChecked (p : Port)
  /-- GCL_CANCEL (R218): Writing GCL_CTRL.CANCEL cancels a pending switch at least 64 µs away, or is refused with CANCEL_REFUSED. -/
  | gclCancel (r : Req) (p : Port)
  /-- GCL_STOP (R213): Writing GCL_CTRL.STOP = 1 to a running list requests that it stop at the start of its next cycle. -/
  | gclStop (r : Req) (p : Port)
  /-- GCL_SWITCH (R216): At t_sw, both gate list copies exchange banks and the new oper list starts cycle 0. -/
  | gclSwitch (p : Port)
  /-- GCL_INTERVAL_START (R208): At each entry start of the oper list, the gate states are set and the entry's operation acts on the hold request. -/
  | gclIntervalStart (p : Port)
  /-- GCL_COPY_CHECK (R211): The background check compares both oper copies, and a difference is Fatal. -/
  | gclCopyCheck (p : Port)
  /-- GRID_LOCK (R239): The slewing lane clock brings every grid point within 0.1 ns of domain time and the grid is locked. -/
  | gridLock (p : Port)
  /-- FRAME_LAUNCH (R245): At its release point, the release sequencer checks a staged frame and launches it in its window's train. -/
  | frameLaunch (p : Port) (carrier : Bool)
  /-- TRANSMIT_START (R253): A frame held in a path starts when its gate, the Hem and the next window permit. -/
  | transmitStart (p : Port) (k : TxPick) (carrier : Bool) (e : BufErr)
  /-- TRANSMIT_COMPLETE (R185): A transmission's last bit leaves the port, and the frame's cells and counters are updated. -/
  | transmitComplete (p : Port)
  /-- HEM_CUT (R260): At gate-open − 16 ns of a window with a Hem, any transmission not of the window's train is cut. -/
  | hemCut (p : Port)
  /-- HOLD_APPLY (R255): HOLD_ADV before an interval that asserts the hold, no pre-emptable fragment may start and a fragment under way is cut. -/
  | holdApply (p : Port)
  /-- HOLD_RELEASE (R255): RELEASE_ADV before an interval that releases the hold, held continuations may resume. -/
  | holdRelease (p : Port)
  /-- FRAGMENT_CUT (R263): A pre-emptable frame is cut at a legal cut point with its mCRC and reported to the Shuttle. -/
  | fragmentCut (p : Port)
  /-- FRAGMENT_RESUME (R255): A held continuation resumes when the hold is released and the next window permits. -/
  | fragmentResume (p : Port)
  /-- SELVEDGE_STOP (R250): Writing SELV.CTRL.RUN = 0 discards every staged and path frame after the transmission under way. -/
  | selvedgeStop (r : Req) (p : Port)
  /-- VERIFY_START (R264): EN written 1 or a link up with VERIFY_DIS = 0 enters INIT and sends a Verify mPacket. -/
  | verifyStart (p : Port)
  /-- VERIFY_TIMEOUT (R264): After VERIFY_TIME without a Respond, a Verify is resent, or after three the state becomes FAILED. -/
  | verifyTimeout (p : Port)
  /-- RESPOND_RECEIVED (R264): A valid Respond in VERIFYING moves the verify state to SUCCEEDED and makes pre-emption active. -/
  | respondReceived (p : Port)
  /-- VERIFY_RECEIVED (R264): A received Verify mPacket is answered with a Respond within 2 µs while EN = 1. -/
  | verifyReceived (p : Port)
  /-- SEAM_FRAGMENT (R267): The Seam takes a received pre-emptable fragment into the frame under assembly and passes a completed frame to ingress. -/
  | seamFragment (p : Port) (start : Bool) (count : Fin 4) (bytes : List Byte) (final crcOk ttdp : Bool) (cache : CacheErr) (mend : MendErr) (lanes : LaneSent)
  /-- SEAM_TIMEOUT (R268): No continuation within 1 ms discards the frame under assembly. -/
  | seamTimeout (p : Port)
  /-- LANE_CFG_WRITE (R270): A write to MAC.LANE_CFG sets the lane's mode, FEC and cursors, or is refused with BAD_CFG. -/
  | laneCfgWrite (r : Req) (b : Bolt) (k : Fin 5) (v : BitVec 32)
  /-- MAC_ENABLE (R275): Writing MAC.CFG.EN = 1 moves the link to DOWN, and writing 0 moves it to DISABLED after the transmission under way. -/
  | macEnable (r : Req) (p : Port) (en : Bool)
  /-- SIGNAL_DETECT (R275): Signal detected on a DOWN port moves the link to LOCKING. -/
  | signalDetect (p : Port)
  /-- LOCK_ACHIEVED (R275): Lock moves the link to NEGOTIATING, FAULT or HOLD. -/
  | lockAchieved (p : Port)
  /-- AN_COMPLETE (R277): Clause 37 or SGMII negotiation resolves pause or holds the link with AN_REFUSED. -/
  | anComplete (p : Port) (page : BitVec 16)
  /-- FAULT_ORDERED_SET (R275): Local or Remote Fault received moves a locked link to FAULT, or ends HOLD at once. -/
  | faultOrderedSet (p : Port) (remote : Bool)
  /-- UP_HOLD_EXPIRY (R275): After UP_HOLD without interruption, the link enters UP. -/
  | upHoldExpiry (p : Port)
  /-- DOWN_FILTER_EXPIRY (R276): A loss, high BER, fault or line fault lasting DOWN_FILTER moves the link down. -/
  | downFilterExpiry (p : Port) (cause : LossCause) (us : Nat)
  /-- PAUSE_TIMER_EXPIRY (R282): A class's pause timer expires and the class is eligible again. -/
  | pauseTimerExpiry (p : Port) (c : Fin 8)
  /-- XOFF_REFRESH (R286): While the XOFF condition holds, the XOFF is sent again each time half of QUANTA has elapsed. -/
  | xoffRefresh (p : Port)
  /-- FC_TX_SEND (R286): Writing FC_TX_CMD.GO sends one PAUSE or PFC frame as specified. -/
  | fcTxSend (r : Req) (p : Port) (v : BitVec 32)
  /-- CARRIER_DEFER_END (R292): A deferring multidrop port may start 96 bit times after carrier ends, at the next grid point. -/
  | carrierDeferEnd (p : Port)
  /-- COLLISION_DETECT (R292): A collision is detected, the port jams, and the frame backs off, is discarded as a late collision or after 16 collisions. -/
  | collisionDetect (p : Port)
  /-- BACKOFF_EXPIRY (R293): A back-off of r slot times ends and the frame retries. -/
  | backoffExpiry (p : Port)
  /-- PLCA_BEACON_RECEIVED (R296): A PLCA BEACON starts a new PLCA cycle and makes PLCA status true. -/
  | plcaBeaconReceived (p : Port)
  /-- PLCA_OPPORTUNITY (R295): A PLCA transmit opportunity passes after TO_TIMER bit times without a transmission. -/
  | plcaOpportunity (p : Port)
  /-- PLCA_BEACON_LOSS (R296): No BEACON for BEACON_LOSS ms makes PLCA status false and sets PLCA_LOST. -/
  | plcaBeaconLoss (p : Port)
  /-- LINE_MONITOR_FAULT (R275): The multidrop line monitor reports a short, missing termination or supply fault. -/
  | lineMonitorFault (p : Port)
  /-- PC_ENABLE (R299): Meeting the conditions of R299 moves a Polled Cycle port from OFF to LISTEN, and losing one moves it to OFF. -/
  | pcEnable (p : Port)
  /-- PC_LISTEN_EXPIRY (R311): LISTEN expires and the port enters CLAIM if permitted, or listens again. -/
  | pcListenExpiry (p : Port)
  /-- PC_CLAIM_WAIT_EXPIRY (R313): The random claim wait ends and the port sends its CLAIM under CSMA/CD. -/
  | pcClaimWaitExpiry (p : Port) (carrier : Bool)
  /-- PC_CLAIM_SENT (R313): A CLAIM sent without collision moves the port to MASTER. -/
  | pcClaimSent (p : Port)
  /-- PC_CLAIM_RECEIVED (R313): A valid CLAIM received makes a claimant abandon its claim, or a master compare rank. -/
  | pcClaimReceived (p : Port) (d : List Byte)
  /-- PC_BEACON_RECEIVED (R314): A received BEACON drives integration, following, master comparison and time samples. -/
  | pcBeaconReceived (p : Port) (d : List Byte)
  /-- PC_BEACON_MISS (R316): A beacon not arriving within its window counts as missed, and MISS_LIMIT misses send the port to LISTEN. -/
  | pcBeaconMiss (p : Port)
  /-- PC_SLOT_START (R305): At a slot start, the master sends a POLL or the owner begins its TIMED or MASTER transmission. -/
  | pcSlotStart (p : Port)
  /-- PC_POLL_RECEIVED (R305): A follower that is polled answers after the POLL. -/
  | pcPollReceived (p : Port) (d : List Byte)
  /-- PC_SLOT_END (R308): After each slot, the master sets or clears the owner's PC_PRESENT bit and updates drift. -/
  | pcSlotEnd (p : Port)
  /-- PC_MASTER_RECORD_SEND (R320): At the end of each cycle as MASTER, the Lead sends a master record over the Pair Link. -/
  | pcMasterRecordSend (p : Port)
  /-- PC_MASTER_RECORD_APPLY (R320): A STANDBY port applies a received master record. -/
  | pcMasterRecordApply (p : Port) (st : Fin 7) (cycle : BitVec 32) (present drift : BitVec 256)
  /-- PC_MASTER_STALE (R320): A STANDBY port whose last master record is more than two cycles old shows stale master state. -/
  | pcMasterStale (p : Port)
  /-- DOORBELL_WRITE (R338): A doorbell write sets a ring's PI, or makes the ring malformed when it fails the index test. -/
  | doorbellWrite (r : Req) (ring : Fin 16384) (pi : BitVec 32) (wide : Bool)
  /-- TX_DESCRIPTOR_FETCH (R341): A RUNNING transmit ring fetches descriptors and buffers in index order to build frames. -/
  | txDescriptorFetch (ring : Fin 8192) (desc : BitVec 256) (data : List Byte)
  /-- TX_FRAME_OFFER (R341): A host frame whose buffers have all been read is offered for admission in ring order. -/
  | txFrameOffer (x : TxOffer)
  /-- HOST_READ_ERROR (R366): A failed host descriptor or buffer read puts the ring in ERROR and completes the frame with BUS_ERROR. -/
  | hostReadError (ring : Fin 16384)
  /-- HOST_RX_WRITE (R345): A frame waiting in the receive store is written into the ring's posted buffers and completed. -/
  | hostRxWrite (ring : Fin 8192) (descs : List (BitVec 256)) (err : BufErr)
  /-- RX_WAIT_EXPIRY (R348): RX_WAIT without a posted descriptor truncates the frame or discards it whole. -/
  | rxWaitExpiry (ring : Fin 8192)
  /-- CQ_DOORBELL (R353): A CQ_DB write advances the queue's CI, drains held records and may arm its interrupt. -/
  | cqDoorbell (r : Req) (c : Fin 4096) (ci : BitVec 32) (arm : Bool)
  /-- CQ_ENABLE (R350): Writing CQ_CFG.EN sets PI and CI to 0 or is refused while the queue is named. -/
  | cqEnable (r : Req) (c : Fin 4096) (en : Bool)
  /-- CQ_MODERATION_EXPIRY (R354): An armed queue whose oldest pending entry reaches MOD_TIME raises its completion source. -/
  | cqModerationExpiry (c : Fin 4096)
  /-- LEDGER_HOLDOFF_EXPIRY (R356): After LEDGER_HOLDOFF, a Ledger ring writes its current CI to its Ledger word. -/
  | ledgerHoldoffExpiry (ring : Fin 8192)
  /-- RING_START (R369): RING_CTRL.START checks the ring's configuration and enters RUNNING, or is refused with BAD_CFG. -/
  | ringStart (r : Req) (ring : Fin 16384)
  /-- RING_STOP (R368): RING_CTRL.STOP stops fetching at a frame boundary and aborts frames not yet admitted. -/
  | ringStop (r : Req) (ring : Fin 16384)
  /-- RING_STOP_COMPLETE (R368): A STOPPING ring with no outstanding completion enters STOPPED. -/
  | ringStopComplete (ring : Fin 16384)
  /-- RING_RESET (R369): RING_CTRL.RESET sets PI and CI to 0 and enters DISABLED, or is refused in RUNNING and STOPPING. -/
  | ringReset (r : Req) (ring : Fin 16384)
  /-- FUNCTION_LEVEL_RESET (R370): A Function Level Reset stops the function's rings, queues, Ledgers, channels and vectors and disables them. -/
  | functionLevelReset (pf : Fin 8)
  /-- PCIE_LINK_LOSS (R370): Loss of the PCIe link or PERST_N low acts as a Function Level Reset of every function. -/
  | pcieLinkLoss
  /-- DMA_CH_START (R386): CH_CTRL.START starts a channel from CH_DESC, or is refused with BAD_CFG. -/
  | dmaChStart (r : Req) (ch : Fin 256)
  /-- DMA_CH_STOP (R386): CH_CTRL.STOP stops a channel at its next descriptor boundary. -/
  | dmaChStop (r : Req) (ch : Fin 256)
  /-- DMA_CH_RESET (R386): CH_CTRL.RESET clears a channel's hop count and positions and enters IDLE. -/
  | dmaChReset (r : Req) (ch : Fin 256)
  /-- DMA_DESCRIPTOR_FETCH (R378): A running channel reserves completion room and fetches its next descriptor. -/
  | dmaDescriptorFetch (ch : Fin 256) (host : BitVec 512)
  /-- DMA_DESCRIPTOR_COMPLETE (R387): A descriptor completes, writes its record if asked, and the channel continues, stops or goes IDLE. -/
  | dmaDescriptorComplete (ch : Fin 256) (host : List Byte)
  /-- DMA_READ_FAIL (R391): A failed or timed-out DMA read schedules a retry, or halts the channel with BUS_ERROR. -/
  | dmaReadFail (ch : Fin 256) (elems : Nat) (host : List Byte)
  /-- DMA_READ_RETRY (R391): 1 µs after a failure, the channel reissues the failed read. -/
  | dmaReadRetry (ch : Fin 256)
  /-- CH_RATE_WRITE (R384): A write to CH_RATE or to a DMA cap sets that bucket's tokens to 0. -/
  | chRateWrite (r : Req) (ch : Fin 256) (v : BitVec 64)
  /-- PUB_GATHER_START (R396): At an entry's gather time G, the publisher builds the frame from template, gathers, consistency word and stamp. -/
  | pubGatherStart (e : Fin 1024)
  /-- PUB_GATHER_COMPLETE (R402): A completed gather hands its frame to the Mender stage and admission. -/
  | pubGatherComplete (e : Fin 1024) (host : List Byte) (fail : Bool) (mend : MendMeet)
  /-- PUB_ABANDON (R403): A gather not complete at the next G, or at T for a gate-scheduled entry, is abandoned. -/
  | pubAbandon (e : Fin 1024)
  /-- PUB_READ (R404): PUB_CMD READ copies a publication entry into PUB_DATA. -/
  | pubRead (r : Req) (idx : Fin 1024)
  /-- PUB_WRITE (R404): PUB_CMD WRITE writes an entry's configuration fields and clears its state. -/
  | pubWrite (r : Req) (idx : Fin 1024)
  /-- PUB_OP_COMPLETE (R404): A publication table operation ends and PUB_DONE is set. -/
  | pubOpComplete
  /-- INTERRUPT_DELIVERY (R410): A pending enabled source is delivered to its target pair or vector, or to the fallback pair. -/
  | interruptDelivery (n : Fin 4095)
  /-- CORE_CLAIM (R411): A read of CORE_CLAIM returns and claims the pair's highest eligible delivered source, or 4095. -/
  | coreClaim (r : Req) (k : Fin 8)
  /-- CORE_EOI (R411): A write of CORE_EOI ends service of a source held in IN_SERVICE, or sets BAD_EOI. -/
  | coreEoi (r : Req) (k : Fin 8) (id : BitVec 12)
  /-- MSIX_ISSUE (R412): A source delivered to a vector issues its MSI-X message once the vector can send. -/
  | msixIssue
  /-- HOST_EOI (R412): A write of HOST_EOI through the owning function ends a vector source's service. -/
  | hostEoi (r : Req) (id : BitVec 12)
  /-- SW_SET (R419): A write of a software source number to SW_SET sets its PENDING atomically. -/
  | swSet (r : Req) (src : BitVec 12)
  /-- PENDING_WRITE (R418): A write of a PENDING word sets or clears pending bits as written. -/
  | pendingWrite (r : Req) (w : Fin 128) (v : BitVec 32)
  /-- DRAIN_READ (R415): A read of INTC.DRAIN returns no earlier than 64 ns after the last enable or configuration write. -/
  | drainRead (r : Req)
  /-- CORE_PAIR_DISABLE (R421): A pair disabled or stopped returns every source it holds to NONE for redelivery. -/
  | corePairDisable (r : Req) (k : Fin 8)
  /-- POWER_GOOD (R534): PWRGOOD assertion starts the TIMEOSC measurement. -/
  | powerGood
  /-- PWRGOOD_FALL (R538): PWRGOOD low puts the device in Off within 1 µs, loses RWS fields and writes no dump. -/
  | pwrgoodFall
  /-- RESET_N_ASSERT (R535): RESET_N low for 1 µs or longer puts the device in Off. -/
  | resetNAssert
  /-- RESET_RELEASE (R438): The release of RESET_N samples the straps, starts L time at 0 and enters Boot at BS01. -/
  | resetRelease (mode : Fin 4) (right strapOpen : Bool)
  /-- SUPPLY_POR_DETECT (R537): The power-on detector holds the device in Off while VAUX, VTIME or VCORE is below 90 % of nominal. -/
  | supplyPorDetect (below : Bool)
  /-- BOOT_STEP_COMPLETE (R441): A boot step completes and the next step begins. -/
  | bootStepComplete (w : BootWork) (tokenLow : Bool)
  /-- BOOT_STEP_TIMEOUT (R441): A boot step that fails or exceeds its limit fails the boot or is abandoned. -/
  | bootStepTimeout (code : BitVec 8) (recOk tokenLow : Bool)
  /-- ACQUIRE_COMPLETE (R443): When the sync, port and role conditions hold, the device leaves Acquire and enters service. -/
  | acquireComplete (recOk : Bool)
  /-- ACQ_TIMEOUT_EXPIRY (R443): At ACQ_TIMEOUT, the device enters service anyway with ACQ_SHORT and a Degraded notice. -/
  | acqTimeoutExpiry (recOk : Bool)
  /-- BOOT_CTRL_RESET (R438): BOOT.CTRL.RESET with KEY resets the device as RESET_N. -/
  | bootCtrlReset (r : Req) (key : BitVec 16)
  /-- CLEAR_MARKS (R446): BOOT.CTRL.CLEAR_MARKS clears the skip and alternative marks in the Boot Record. -/
  | clearMarks (r : Req) (recOk : Bool)
  /-- CLEAR_FAILS (R447): BOOT.CTRL.CLEAR_FAILS clears BLOCKED, FAIL_STEP, FAIL_COUNT and REC_FAIL. -/
  | clearFails (r : Req) (recOk : Bool)
  /-- PREF_SLOT_WRITE (R446): A write of BOOT.CTRL.PREF_SLOT updates the Boot Record and clears the marks. -/
  | prefSlotWrite (r : Req) (slotB : Bool) (recOk : Bool)
  /-- BASTE_STAGE (R450): BASTE_CMD STAGE appends one write to a staging group, or is refused with a code. -/
  | basteStage (r : Req) (g : Fin 16) (wide : Bool) (addr : BitVec 26)
  /-- BASTE_COMMIT (R451): BASTE_CMD COMMIT arms a group with its release time T, or releases it at once when T is too close. -/
  | basteCommit (r : Req) (g : Fin 16) (d : Dom)
  /-- BASTE_ABORT (R455): BASTE_CMD ABORT discards an OPEN, FAILED or not yet releasing ARMED group. -/
  | basteAbort (r : Req) (g : Fin 16)
  /-- BASTE_PEEK (R449): BASTE_CMD PEEK returns a field's pending class B value. -/
  | bastePeek (r : Req) (addr : BitVec 26)
  /-- BASTE_RELEASE_GCL (R451): At T − 1 ms, an armed group performs its staged gate list COMMITs, failing the group on a refusal. -/
  | basteReleaseGcl (g : Fin 16)
  /-- BASTE_RELEASE (R451): At T, an armed group performs its other staged writes in order and returns to EMPTY. -/
  | basteRelease (g : Fin 16) (err : Bool)
  /-- AWT_READ (R458): AWT_CMD READ copies an Access Window Table entry into AWT_DATA. -/
  | awtRead (r : Req) (idx : Fin 1024)
  /-- AWT_WRITE (R460): AWT_CMD WRITE replaces an Access Window Table entry, and PROT_GEN increments. -/
  | awtWrite (r : Req) (idx : Fin 1024)
  /-- PF_PRIV_WRITE (R457): A P0 write of PF_PRIV assigns function levels and advances PROT_GEN, or is refused. -/
  | pfPrivWrite (r : Req) (v : BitVec 16)
  /-- AWT_DENY_LOG_READ (R557): A read of AWT_DENY_LOG returns and clears the latched denial. -/
  | awtDenyLogRead (r : Req)
  /-- NVM_READ (R461): NVM_CMD READ copies one 4 KiB sector into the NVM buffer window. -/
  | nvmRead (r : Req) (sector : BitVec 17) (err : Bool)
  /-- NVM_PROGRAM (R461): NVM_CMD PROGRAM writes a sector from the buffer and verifies it, or is refused. -/
  | nvmProgram (r : Req) (sector : BitVec 17) (res : NvmRes)
  /-- NVM_ERASE (R461): NVM_CMD ERASE erases one sector, or is refused. -/
  | nvmErase (r : Req) (sector : BitVec 17) (res : NvmRes)
  /-- OTP_KEY (R461): NVM_CMD OTP_KEY programs a key digest slot in Recovery. -/
  | otpKey (r : Req) (slot : Fin 4)
  /-- OTP_REVOKE (R461): NVM_CMD OTP_REVOKE blows a key slot's revoke bit in Recovery. -/
  | otpRevoke (r : Req) (slot : Fin 4)
  /-- NVM_CMD_COMPLETE (R461): An NVM command ends, reports its code and sets NVM_DONE. -/
  | nvmCmdComplete
  /-- FAULT_RECORD (R474): A safety mechanism's fault reaches Thimble, is recorded and graded, and triggers its severity's reaction. -/
  | faultRecord (sev : Fin 3) (sm : Fin 23) (unit : Fin 512) (detail : BitVec 12)
  /-- THIM_ACK (R476): A write of THIM.ACK ends the handling of a record of that severity. -/
  | thimAck (r : Req) (sev : Fin 4)
  /-- FAULT_LOG_READ (R557): A read of THIM.FAULT_LOG returns the head fault record and removes it. -/
  | faultLogRead (r : Req)
  /-- THIM_INJECT (R505): THIM.INJECT.GO raises a test fault of a mechanism in Test, or is refused with BAD_CFG. -/
  | thimInject (r : Req) (sm : BitVec 8)
  /-- WDOG_REFRESH (R472): A write of 0x5A5A to THIM.WDOG refreshes the supervisor watchdog. -/
  | wdogRefresh (r : Req) (key : BitVec 16)
  /-- WDOG_EXPIRY (R472): 10 ms without a refresh is a Fatal fault handled without a dump. -/
  | wdogExpiry
  /-- SUPPLY_OUT_OF_WINDOW (R467): A supply outside its monitor window for 1 µs is a Fatal or Degraded fault. -/
  | supplyOutOfWindow (u : Supply)
  /-- TEMP_CONVERSION (R552): Every 100 µs, each temperature sensor is converted into DEV.TEMP_STATUS. -/
  | tempConversion (temps : List (BitVec 12))
  /-- TEMP_OVER (R467): A reading above the grade maximum, or 10 °C above it, for 1 ms is a Degraded or Fatal fault. -/
  | tempOver (u : Fin 8) (fatal : Bool)
  /-- LOCKSTEP_MISMATCH (R468): A lockstep mismatch or uncorrectable SRAM error in a pair is Fatal or stops that pair. -/
  | lockstepMismatch (k : Fin 8)
  /-- FABRIC_PROBE_SEND (R471): Every 25 µs, each Bolt sends probe words around its Spools and the crossbar. -/
  | fabricProbeSend (b : Bolt) (lost : List (Fin 6))
  /-- PROBE_TIMEOUT (R471): A probe not returned within 75 µs is a Fatal fault. -/
  | probeTimeout (b : Bolt)
  /-- CELL_ACCOUNT_CHECK (R471): Every 50 µs, each Bolt checks that its free and held cells sum to 32,768, and a mismatch is Fatal. -/
  | cellAccountCheck (b : Bolt) (d : Int)
  /-- CONFIG_PARITY_CHECK (R472): Each configuration register's parity is checked at least every 10 µs, and an error is Fatal. -/
  | configParityCheck (bad : Bool)
  /-- THIMBLE_RESTART (R479): After the dump and RESTART_DELAY, Thimble resets a Fail-Silent device if RESTART permits. -/
  | thimbleRestart
  /-- RESTART_CNT_CLEAR (R479): After 1 h continuously in service, RESTART_CNT is cleared. -/
  | restartCntClear
  /-- FATAL_DUMP_WRITE (R501): After a Fatal fault, SP0 writes the Fatal Dump to DUMP_BASE. -/
  | fatalDumpWrite
  /-- FATAL_DUMP_COMPLETE (R502): A completed dump is marked complete and its NVM summary is written. -/
  | fatalDumpComplete
  /-- TOKEN_REFRESH (R481): Every 500 ns, the pair logic refreshes the token driver. -/
  | tokenRefresh
  /-- TOKEN_DRIVER_TIMEOUT (R481): A token driver without a refresh for 2 µs releases OVL_TOKEN. -/
  | tokenDriverTimeout
  /-- TOKEN_READBACK_FAULT (R481): A driven token read high for 200 ns raises a Degraded fault and sets TOKEN_FAULT. -/
  | tokenReadbackFault
  /-- HEARTBEAT_SEND (R488): Every 500 ns, a HEARTBEAT record is sent on each Pair Link lane, and OVL_BEAT_OUT toggles every 250 ns. -/
  | heartbeatSend
  /-- HEARTBEAT_RECEIVED (R487): A partner heartbeat updates the peer's role, state and readiness and may prompt a join. -/
  | heartbeatReceived (path : Fin 3) (crcOk : Bool) (role : Fin 5) (st : Fin 10) (worst : Fin 4) (ready : Bool) (id : BitVec 12) (tokenLow : Bool)
  /-- HEARTBEAT_SILENCE (R485): Heartbeats silent on all three paths for 4 µs declare the partner lost or unknown. -/
  | heartbeatSilence (tokenLow : Bool)
  /-- OVL_FS_ASSERTED (R485): OVL_FS asserted for 50 ns shows the partner is in Fail-Silent or Stay-Down. -/
  | ovlFsAsserted (tokenLow : Bool)
  /-- PEER_UNKNOWN_TIMEOUT (R486): A Shadow with silent heartbeats and a held token for 10 ms sets PEER_UNKNOWN with a Degraded fault. -/
  | peerUnknownTimeout
  /-- PAIR_LANE_DOWN (R487): A Pair Link lane with no valid block for 10 µs is down, with a Degraded fault. -/
  | pairLaneDown (lane : Fin 2)
  /-- PAIR_CLAIM_TIMEOUT (R482): In JOINING, T_CLAIM, 400 ms or the 500 ms BS12 limit expiring leads to LEAD, SOLO or SHADOW. -/
  | pairClaimTimeout (tokenLow confirmed recOk : Bool)
  /-- TAKEOVER_PASSAGE (R493): When the token readback confirms, the Shadow becomes Lead and takes on every Lead-only duty. -/
  | takeoverPassage
  /-- SERVO_RECORD_APPLY (R491): The Shadow keeps a received SERVO record of a grandmaster domain. -/
  | servoRecordApply (d : Dom) (rate : BitVec 32) (integ hold : Int) (st : Fin 5)
  /-- GCL_RECORD_APPLY (R490): The Shadow writes its admin banks from a Lead GCL record and mirrors its COMMITs. -/
  | gclRecordApply (p : Port) (ents : List (BitVec 64)) (base cycle : Nat) (ext tid : BitVec 32) (slots : List (BitVec 64))
  /-- MIRROR_CRC_COMPARE (R490): Once a second, partners compare oper bank CRCs, and a mismatch triggers a new GCL snapshot. -/
  | mirrorCrcCompare (p : Port) (same : Bool)
  /-- SWAP_REQUEST (R495): PAIR.SWAP_CMD, the drill timer or the supervisor makes the Lead send SWAP_REQ with T_swap. -/
  | swapRequest (r : Req)
  /-- DRILL_TIMER (R498): PERIOD hours after the last swap, the Lead starts a drill. -/
  | drillTimer
  /-- SWAP_REQ_RECEIVED (R495): The Shadow accepts or refuses a SWAP_REQ and answers with SWAP_ACK. -/
  | swapReqReceived (t : Nat)
  /-- SWAP_ACK_RECEIVED (R495): The Lead arranges the swap on acceptance, or postpones it by 1 h on refusal. -/
  | swapAckReceived (accept : Bool)
  /-- SWAP_POSTPONE_EXPIRY (R495): One hour after a postponement, the swap is requested again. -/
  | swapPostponeExpiry
  /-- SWAP_TOKEN_DRIVE (R497): At T_swap − 1 µs, the new Lead also drives OVL_TOKEN. -/
  | swapTokenDrive
  /-- SWAP_EXECUTE (R496): At T_swap, roles change, outputs are handed over and the old Lead sends END_OF_ROLE. -/
  | swapExecute
  /-- SWAP_TOKEN_RELEASE (R497): At T_swap + 1 µs, the old Lead releases OVL_TOKEN. -/
  | swapTokenRelease
  /-- LATENT_TEST_ROUND (R500): Every LATENT_INT minutes, the self-test service runs the latent-fault tests. -/
  | latentTestRound (failed : BitVec 11)
  /-- LATENT_TEST_OVERDUE (R500): A test not passed for 2 h raises a Degraded fault. -/
  | latentTestOverdue (t : Fin 11)
  /-- PEER_CMD_READ (R504): PAIR.PEER_CMD requests a 4 KiB dump page or the register page from the partner. -/
  | peerCmdRead (r : Req) (op : Fin 8) (page : BitVec 10)
  /-- PEER_READ_RECEIVED (R504): The partner answers a PEER_READ with PEER_DATA records in every state except Off. -/
  | peerReadReceived (regs : Bool) (page : BitVec 10)
  /-- PEER_DATA_RECEIVED (R504): Received PEER_DATA fills the peer buffer window and completes the read. -/
  | peerDataReceived (d : List Byte)
  /-- PEER_READ_TIMEOUT (R504): A peer read not complete within 100 µs ends with TIMEOUT. -/
  | peerReadTimeout
  /-- DUMP_INSTANT (R519): At each dump instant, a dump program captures its counter lines and queue samples, or skips if busy. -/
  | dumpInstant (j : Fin 4)
  /-- DUMP_WRITTEN (R518): A captured dump is written to its area whole, or dropped and counted when it does not fit. -/
  | dumpWritten (j : Fin 4)
  /-- CHALK_RECORD (R524): When a chalked copy's fate is final, a Chalk record is written under the rate limit. -/
  | chalkRecord
  /-- SLOT_CLASSIFY (R516): Each 512-bit-time slot of an UP port is classified as retired, wasted, back-starved or front-starved. -/
  | slotClassify (p : Port)
  /-- CNT_CLEAR (R507): TAPE CNT_CMD CLEAR sets a counter block or group to 0. -/
  | cntClear (r : Req) (group : Fin 16) (all : Bool) (idx : BitVec 24)
  /-- CNT_CLEAR_OVF (R527): TAPE CNT_CMD CLEAR_OVF clears the OVF bits of a block or group. -/
  | cntClearOvf (r : Req) (group : Fin 16) (all : Bool) (idx : BitVec 24)
  /-- CNT_READ_FUNC (R513): TAPE CNT_CMD READ_FUNC returns the exact counter words of one recovery function. -/
  | cntReadFunc (r : Req) (idx : BitVec 24) (err : Bool)
  /-- CNT_CMD_COMPLETE (R527): A counter command ends and sets CNT_DONE. -/
  | cntCmdComplete
  /-- TCNT_WRITEBACK (R513): At least every 1 ms, recovery function counter blocks are written back to DRAM. -/
  | tcntWriteback (bad : List (BitVec 18))
  /-- PEC_CFG_WRITE (R514): A write to PEC_CFG configures a programmable counter and clears it. -/
  | pecCfgWrite (r : Req) (p : Port) (i : Fin 8) (v : BitVec 32)
  /-- CHALK_ENABLE (R523): Writing CHALK_CFG.EN = 1 seeds the port's chalk LFSR. -/
  | chalkEnable (r : Req) (p : Port) (k : BitVec 5)
  /-- REFCLK_B_LOST (R43): When REFCLK_B is lost while it is the TPLL reference, no reference is left and the fault is Fatal. -/
  | refclkBLost
  /-- LOCK_LOST (R276): A loss of lock ends HOLD at once and sends the link to DOWN, and in other states starts the DOWN_FILTER wait. -/
  | lockLost (p : Port)
  /-- FAULT_CLEARED (R275): When Local or Remote Fault ceases on a locked link in FAULT, the link passes to HOLD. -/
  | faultCleared (p : Port)
  /-- LINE_FAULT_CLEARED (R275): When the multidrop line monitor reports no fault with PHY_EN = 1, the port leaves DOWN. -/
  | lineFaultCleared (p : Port)
  /-- OVL_TOKEN_RELEASED (R492): OVL_TOKEN released for 100 ns, together with OVL_FS asserted or silent heartbeats, makes a Shadow claim the token. -/
  | ovlTokenReleased
  /-- VIO_BANK_POWER_CHANGE (R544): A VIO_Tk or VIO_CTL bank losing or regaining power puts its pins in high impedance with keepers off, and with VIO_CTL it makes the pair logic read the partner absent and the token released. -/
  | vioBankPowerChange (k : Fin 5) (on : Bool)
  /-- PTP_MESSAGE_INTERVAL_EXPIRY (R77): At each sync, announce or peer-delay interval, and at the end of the initial period, an instance sends its periodic PTP messages or changes to its operational intervals. -/
  | ptpMessageIntervalExpiry (d : Dom) (t : PtpTimer)
  /-- FORGET_TIME_EXPIRY (R169): A node not heard within the 60 s forget time is removed from the supervision node statistics. -/
  | forgetTimeExpiry (src : BitVec 48)
  /-- HIGH_WATER_READ (R557): A read of STRM.MISS_STATUS or HIF.RX_STORE returns the value and restarts HIGH_WATER or HIGH. -/
  | highWaterRead (r : Req) (rx : Bool)
  /-- TABLE_WINDOW_READ (R563): A read of the local memory or cell debug window that meets an uncorrectable ECC error completes with Completer Abort and applies the reaction of R469. -/
  | tableWindowRead (r : Req) (cell : Bool) (word : BitVec 20)
  /-- JTAG_INSTRUCTION_LOAD (R550): An instruction loaded through the TAP takes control of pins under EXTEST, CLAMP or HIGHZ while RESET_N is low, and acts as BYPASS otherwise. -/
  | jtagInstructionLoad (i : Fin 4)
deriving DecidableEq, Repr

end Sys2Proof
end

