-- ==== Sys2Proof/Machine/State.lean ====
section
/-!
DEFINITION. The state of the QK8128 as plain data: every register field in `regs`, and beside them what the chapters give the device without a register of its own; the queue of
commands that wait; the log of what the device does at its pins; and the counter of free values. Fault and Refusal name the ways a command could stop.
-/
namespace Sys2Proof.Machine

/-- The key of a register field: the field, its instance (unit, port, Bolt, ring ...) and its second index. -/
structure FlKey where
  f : Fl
  i : Nat
  j : Nat
deriving DecidableEq, Repr

/-- The register fields that differ from their reset value. -/
abbrev Regs := List (FlKey × Nat)

/-- The device states (R20). -/
inductive DevState where
  | off | boot | acquire | solo | lead | shadow | recovery | test | failSilent | stayDown
deriving DecidableEq, Repr

/-- What the device does at its pins, in order: the outside world sees nothing else of it. -/
inductive Out where
  /-- a transmission of a port ended: kind (0 frame, 1 fragment, 2 control, 3 Verify, 4 Respond, 5 Polled Cycle, 6 PLCA BEACON), its start delimiter with the fragment count (R263), bytes from the destination address on,
  whether its FCS or mCRC is valid -/
  | wire (p kind : Nat) (start : List Byte) (bytes : List Byte) (good : Bool)
  /-- bytes written to host memory with the requester ID of a function; `attr` bit 0 Relaxed Ordering, bit 1 No-Snoop (R360, R363) -/
  | hostWrite (pf addr attr : Nat) (bytes : List Byte)
  /-- a zero-length read to host memory (R364, R387) -/
  | hostFlush (pf addr : Nat)
  /-- a read request to host memory of a descriptor, a buffer or an element: function, address, attributes, length (R330, R360) -/
  | hostRead (pf addr attr len : Nat)
  /-- an MSI-X message -/
  | msix (vec addr data : Nat)
  /-- the answer to a register or window read of a requester -/
  | reply (r v : Nat)
  /-- a read completed with Unsupported Request (R459) or Completer Abort (R563) -/
  | unsupported (r : Nat)
  | abort (r : Nat)
  /-- a configuration request answered with Request Retry Status (R442) -/
  | retry (r : Nat)
  /-- a record on the Pair Link: type and payload (Table 15-8) -/
  | pair (type : Nat) (payload : List Nat)
  /-- a PTP, TTDP or supervision message sent by a service: domain or 8, port, kind (R77, R98, R169) -/
  | service (d p kind v : Nat)
  /-- a level driven at OVL_BEAT_OUT (R480) -/
  | beat (high : Bool)
  /-- a PEER_DATA record on one lane of the Pair Link: 24 bytes of a page (R504) -/
  | peerData (bytes : List Byte)
  /-- what a port's transmitter sends between frames: 0 nothing, 1 idle, 2 Remote Fault, 3 the negotiation's exchange (R275, Table 09-2) -/
  | line (p code : Nat)
deriving DecidableEq, Repr

/-! ## Frames (chapters 02, 05, 06, 09) -/

/-- Tag operations that a frame record carries to the tag editor (R163, R288, Table 09-4). `num` is the sequence number to insert. -/
structure Edit where
  seqIn : Nat := 0
  seqOut : Nat := 0
  actDest : Option Nat := none
  popVlan : Bool := false
  pushVlan : Bool := false
  setPcp : Bool := false
  newPcp : Nat := 0
  newVid : Nat := 0
  deiMark : Bool := false
  num : Option Nat := none
deriving DecidableEq, Repr

/-- Egress action of a frame (R52). A reference time is in domain `dom` (8 for L) together with the steps of that domain up to then; `delay` is added to the residence (ticks). -/
inductive EgressAct where
  | none
  | origin
  | record
  | residence (dom : Nat) (ref : Nat) (steps : Int) (delay : Nat)
deriving DecidableEq, Repr

/-- Where a frame entered the device. -/
inductive FrameSrc where
  | port (p : Nat)
  | ring (r : Nat) (sop : Nat)
  | pub (e : Nat)
  | service
deriving DecidableEq, Repr

/-- The account that a frame's cells were taken from (R186, R187). -/
inductive Acct where
  | shared | reserve | ctrl
deriving DecidableEq, Repr

/-- A stored frame with its frame record (R182, R183): the bytes from the destination address to the last byte before the FCS, and what egress needs. -/
structure FrameRec where
  data : List Byte
  q : Nat := 0
  dp : Nat := 0
  admL : Nat := 0
  /-- its number among the frames admitted to its queue: the order in which they leave (R181) -/
  adm : Nat := 0
  /-- the cells that hold it, in order (R182) -/
  cellNos : List Nat := []
  acct : Acct := .shared
  service : Bool := false
  edit : Edit := {}
  act : EgressAct := .none
  tsDom : Nat := 8
  src : FrameSrc := .service
  tIn : Nat := 0
  stream : Option Nat := none
  seq : Option Nat := none
  colour : Nat := 3
  chalk : Bool := false
  copy : Nat := 0
  preempted : Bool := false
deriving DecidableEq, Repr

/-! ## The time plane (chapters 01, 02, 03). Times are counts of 2^-40 ns, the guard bits of R38 included. -/

/-- An exact rational number (servo integrator, holdover mean): the specification's arithmetic is exact. -/
structure Frac where
  num : Int := 0
  den : Nat := 1
deriving DecidableEq, Repr

/-- What a domain holds beside its registers and counters (R56 to R64, R90). Rates are in units of 2^-40. -/
structure DomSt where
  /-- the offset sample that waits (R57), in 2^-16 ns, with DOM_SAMPLE_RATIO as last written before it (R60) -/
  sample : Option (Int × Int) := none
  /-- the pending step, in ticks (R56), and the L time from which it may be applied -/
  step : Option (Int × Nat) := none
  /-- the ratio of the sample that caused the step (R60) -/
  stepRatio : Int := 0
  /-- the DOM_SET load that waits (R59) and its L time -/
  load : Option (Nat × Nat) := none
  lastAcc : Nat := 0
  lastStep : Nat := 0
  bigRun : Nat := 0
  integ : Frac := {}
  hold : Frac := {}
  holdEntry : Nat := 0
  /-- offsets of the accepted samples that R90 counts, newest first -/
  recent : List Int := []
  /-- HOLDOVER entered while in sync, no large sample discarded since (R90) -/
  holdOk : Bool := false
  /-- sum of the steps so far (R52) -/
  steps : Int := 0
  /-- the steps made, newest first: L time, domain time just after, and the sum of the steps before it (R52, R72) -/
  stepLog : List (Nat × Nat × Int) := []
  /-- its last sample came from a PPS capture (R97) -/
  fed : Bool := false
deriving DecidableEq, Repr

/-- A timed output unit (R65 to R71): computed level, time of the next event, events issued, end of the pulse in progress; times in the unit's domain. -/
structure OutSt where
  level : Bool := false
  next : Option Nat := none
  issued : Nat := 0
  pulseEnd : Option Nat := none
deriving DecidableEq, Repr

/-- A record of a capture unit (R72, R73). -/
structure CapRec where
  time : Nat
  rise : Bool
deriving DecidableEq, Repr

/-- The pace monitor of a Bolt (R26, R35): the windows ended and not yet reported (number, laps, value), the number of the window under way, the microsecond of L time under way, and
whether the Bolt was Pace Low in the one before. -/
structure PaceSt where
  windows : List (Nat × Nat × Nat) := []
  win : Nat := 0
  us : Nat := 0
  wasLow : Bool := false
deriving DecidableEq, Repr

/-- What a port received with its last update (R46, R62): its L time, the voted value of each timescale and what it then gained in each TPCLK cycle, and the domain and value of the
guardian copy. -/
structure TimeCopy where
  atL : Nat
  vals : List Nat
  incs : List Int
  gDom : Nat
  gVal : Nat
deriving DecidableEq, Repr

/-- The time plane. Counter c of timescale x (8 for L) is entry 3x + c of `cnt`. -/
structure TimeSt where
  cnt : Tbl Nat := []
  /-- the counters of L run on TPCLK (R39) -/
  locked : Bool := false
  /-- both TPLLs have locked and the next vote passes the counters of L to TPCLK, with this phase step in ps (R39) -/
  passing : Option Nat := none
  /-- reference cycles counted by L before lock (R39) -/
  refTicks : Nat := 0
  timeoscOk : Bool := true
  refAOk : Bool := true
  refBOk : Bool := true
  /-- the TIMEOSC measurement of R41 is running -/
  measuring : Bool := true
  /-- the ratios of TIMEOSC to REFCLK_A and to REFCLK_B of the last second of L time: sums of one sample in each microsecond, in units of 2^-32, and samples in the sums (R42) -/
  ratioA : Nat := 0
  ratioB : Nat := 0
  ratioN : Nat := 0
  /-- which run of samples this is: a new one with each reset -/
  ratioKey : Nat := 0
  /-- the averaged ratio to REFCLK_A recorded at lock: sum and samples (R43) -/
  ratioLock : Option (Nat × Nat) := none
  /-- the averaged ratio by which the TPLLs scale the reference clock that replaces TIMEOSC (R43) -/
  scale : Option (Nat × Nat) := none
  /-- domains whose sample waits, in the order of the writes (R57) -/
  sampleQ : List Nat := []
  /-- repairs of counters: (counter, L time) (R45) -/
  repairs : List (Nat × Nat) := []
  dom : Tbl DomSt := []
  out : Tbl OutSt := []
  cap : Tbl (List CapRec) := []
  /-- L time of the last edge recorded by a capture unit (R72) -/
  capLast : Tbl Nat := []
  /-- values of a snapshot in progress (R75) -/
  snap : Option (List Nat) := none
  pace : Tbl PaceSt := []
  /-- the Pattern's 48-bit identity prefix (R82) -/
  identPrefix : Nat := 0
deriving DecidableEq, Repr

/-- A clock offered by the Announces of a port: its dataset rank (lower is better), its identity, the port, the steps to it and the clocks on the way (path trace, R77); the L time of its
last Announce, and whether it is qualified as a foreign master (R89). -/
structure Foreign where
  rank : Nat
  ident : Nat
  port : Nat
  steps : Nat := 0
  path : List Nat := []
  atL : Nat := 0
  qual : Bool := true
deriving DecidableEq, Repr

/-- The Sync that an instance last took from its master, for relaying: ingress time, origin and correction (R79). -/
structure SyncIn where
  tIn : Nat
  origin : Nat
  corr : Int
deriving DecidableEq, Repr

/-- PTP instance parameters and run state (R78, R83 to R97, Table 03-2); durations in ns. -/
structure PtpSt where
  ports : List Nat := []
  gmCapable : Bool := false
  priority1 : Nat := 255
  priority2 : Nat := 248
  /-- 0 PROFILE, 1 RANKED, 2 EXTERNAL -/
  bmca : Nat := 0
  /-- static port roles of EXTERNAL: 0 slave, 1 master; a port not listed takes no part (R77, R83) -/
  roles : Tbl Nat := []
  logSyncInit : Int := -3
  logSyncOper : Int := -3
  logPdelayInit : Int := -3
  logPdelayOper : Int := 0
  logMinDelayReq : Int := 0
  logAnnounce : Int := 0
  announceTimeout : Nat := 3
  syncTimeout : Nat := 3
  /-- neighborPropDelayThresh, in ns, and allowedLostResponses -/
  propThresh : Nat := 800
  allowedLost : Nat := 3
  initialS : Nat := 8
  listenExtra : Nat := 500000000
  idSlot : Nat := 250000
  returnHold : Nat := 0
  /-- link delays come from the Common Mean Link Delay Service (R77) -/
  cmlds : Bool := false
  /-- LOCKED, the initial period over: the operational intervals apply -/
  operational : Bool := false
  /-- ports on which Pdelay runs at the initial interval again (R99) -/
  initPorts : List Nat := []
  /-- the instance acts as grandmaster (R85) -/
  actingGm : Bool := false
  /-- it has declared itself grandmaster and its domain is being loaded with L time (R85) -/
  declaring : Bool := false
  /-- an Announce has been received (R84) -/
  heard : Bool := false
  /-- the clocks whose Announces each port offers -/
  foreign : List Foreign := []
  /-- the grandmaster followed and its port -/
  best : Option Foreign := none
  /-- L time of the last Sync on the slave port (R95) -/
  lastSync : Nat := 0
  /-- L time since which the instance waits (R84) -/
  listenSince : Nat := 0
  /-- a better returning clock, the L time since which its Announces are unbroken and that of the last (R96) -/
  returning : Option (Foreign × Nat × Nat) := none
  /-- the Sync last relayed -/
  relay : Option SyncIn := none
  /-- mean link delay of a port, in 2^-16 ns, and its neighbour rate ratio in units of 2^-40 (R99) -/
  linkDelay : Tbl Nat := []
  nrr : Tbl Nat := []
  /-- ports whose link is fit for 802.1AS: a delay within neighborPropDelayThresh has been measured -/
  capable : List Nat := []
  /-- Pdelay_Req messages of a port without an answer -/
  lost : Tbl Nat := []
  /-- L time of the last message, by timer and port: 128 k + p -/
  sentL : Tbl Nat := []
  /-- sequenceId of the next message -/
  seqNo : Nat := 0
deriving DecidableEq, Repr

/-- The train topology service (R98, R99); durations in ns. -/
structure TtdpSt where
  counter : Nat := 0
  position : Nat := 0
  isEtbn : Bool := false
  /-- the ETB lines, each a pair of trunk ports -/
  lines : List (Nat × Nat) := []
  helloNs : Nat := 100000000
  topologyNs : Nat := 100000000
  timeoutNs : Nat := 400000000
  inhibitNs : Nat := 0
  /-- the neighbour heard on an ETB port: its address and the L time of its last HELLO -/
  heard : Tbl (Option (Nat × Nat)) := []
  /-- L times of the last HELLO and TOPOLOGY sent on a port, by 2 p and 2 p + 1 -/
  sentL : Tbl Nat := []
  /-- an inauguration runs -/
  inaugurating : Bool := false
  /-- the inauguration inhibit runs, since when, and whether it has kept one back -/
  inhibit : Bool := false
  inhibitL : Nat := 0
  kept : Bool := false
deriving DecidableEq, Repr

/-- The PRP and HSR supervision service (R169). -/
structure SupSt where
  /-- source addresses and numbers already forwarded -/
  sent : List (Nat × Nat) := []
  /-- L times at which a node was last heard on LAN A and on LAN B -/
  nodes : Tbl (Option Nat × Option Nat) := []
  number : Nat := 0
  /-- LIFE_CHECK_INTERVAL in ms -/
  interval : Nat := 2000
  lastLife : Nat := 0
deriving DecidableEq, Repr

/-! ## MAC and multidrop ports (chapter 09) -/

/-- A port's MAC beside its registers; times in L time. -/
structure MacSt where
  /-- start of HOLD (R275) -/
  holdSince : Nat := 0
  /-- the Clause 37 pause resolution allows PAUSE (R277) -/
  pauseRes : Bool := false
  /-- the negotiation of the present lock is complete (R275) -/
  negDone : Bool := false
  /-- pause timers: end of the pause per class (R282) -/
  pauseEnd : Tbl Nat := []
  /-- the L time from which a pause binds, per class (R283) -/
  pauseBind : Tbl Nat := []
  /-- control frame that waits to be sent (R287) -/
  ctrl : Option (List Byte) := none
  /-- an XOFF was sent and no XON since; next refresh (R286) -/
  xoff : Bool := false
  xoffNext : Nat := 0
  /-- the line of a multidrop port as last sensed, and the L time from which a deferring port may start (R292) -/
  carrier : Bool := false
  /-- the L time at which the carrier was first sensed (R310) -/
  carrierAt : Nat := 0
  mayStart : Nat := 0
  backoffEnd : Option Nat := none
  /-- the generator of R293 -/
  lfsr : Nat := 0
  /-- L time of the last PLCA BEACON; the node whose opportunity runs, and frames sent in it (R295, R296) -/
  lastBeacon : Nat := 0
  oppNode : Nat := 0
  /-- start of the opportunity that runs (R295) -/
  oppAt : Nat := 0
  oppFrames : Nat := 0
  /-- EN written 0 during a transmission (Table 09-7) -/
  disabling : Bool := false
  /-- a link down with DOWN_ACT = 1, no UP since (R278) -/
  downFlush : Bool := false
deriving DecidableEq, Repr

/-! ## Queues, Shuttle and Selvedge (chapters 06, 07, 08) -/

/-- A calendar entry (R227): eligible time in ns of L time, wheel, slot and laps. -/
structure Park where
  elig : Nat
  fine : Bool
  slot : Nat
  laps : Nat
deriving DecidableEq, Repr

/-- An egress queue: the frames that wait, head first, its depth (a frame held in a path counts until it is sent, R185), its shaper, DWRR tag and rescue state. -/
structure QSt where
  frames : List FrameRec := []
  cells : Nat := 0
  nframes : Nat := 0
  /-- frames admitted so far (R181) -/
  admitted : Nat := 0
  shared : Nat := 0
  maxCells : Nat := 0
  maxSojourn : Nat := 0
  tok : Int := 0
  last : Nat := 0
  park : Option Park := none
  tag : Nat := 0
  /-- L time at which the queue was marked Urgent (R233) -/
  urgent : Option Nat := none
  /-- L time of the last rescue (R233) -/
  rescued : Option Nat := none
  /-- an opportunity of R234 arose in the present cycle -/
  opp : Bool := false
deriving DecidableEq, Repr

/-- The Bolt's accounts (R186): cells in use of the shared pool and the control reserve, flushed cells on their way back to the free list. -/
structure BoltSt where
  /-- numbers of the cells that hold frames, rising (R182) -/
  usedCells : List Nat := []
  /-- the bytes that a cell holds, by its number; what nothing has written is left out and reads as log entry 2 says (R193) -/
  cells : Tbl (List Byte) := []
  /-- the coarse slot last visited, counted from L time 0 (R227) -/
  coarse : Option Nat := none
  sharedUsed : Nat := 0
  ctrlUsed : Nat := 0
  /-- a difference between the cells counted and 32,768 (R471): 0 unless a hardware fault is applied -/
  lost : Int := 0
  protErrs : List Nat := []
  probes : List (Nat × Nat) := []
deriving DecidableEq, Repr

/-- A window whose staging has begun (R221): class, gate-open and end in domain time, wire time handed over, queues whose frame did not fit, a frame kept out by the store,
the planned release point of its next frame and the planned last bit of the last one gone (R245, R254). -/
structure StgWin where
  cls : Nat
  openT : Nat
  closeT : Nat
  noHem : Bool
  used : Nat := 0
  noFit : List Nat := []
  storeFull : Bool := false
  nextT : Option Nat := none
  last : Option Nat := none
  /-- its next frame did not start at its planned point, which another train, its Hem or the medium held: it starts at the first grid point that permits (R247, R254) -/
  waits : Bool := false
deriving DecidableEq, Repr

/-- A staged frame (R245): its window, its bytes after the tag editor and the L time from which it is fully staged. `doomed`: a late or overrunning frame that is
discarded when fully staged (R248). -/
structure Staged where
  fr : FrameRec
  bytes : List Byte
  cls : Nat
  openT : Nat
  closeT : Nat
  fullAt : Nat
  counted : Bool := false
  doomed : Bool := false
  /-- not fully staged yet: it keeps its cells and its place in the depth of its queue (R185) -/
  held : Bool := false
deriving DecidableEq, Repr

/-- A frame held in a path (R222): bytes after the tag editor, data bytes of it already sent in fragments, fragments sent. -/
structure PathFrame where
  fr : FrameRec
  bytes : List Byte
  fcsOk : Bool := true
  sent : Nat := 0
  frags : Nat := 0
  started : Bool := false
  /-- L time of the first fragment, and the timestamp taken there in L and in its domain (R48, R266) -/
  firstL : Nat := 0
  ts : Option (Nat × Nat) := none
  /-- its number modulo 4 among the port's pre-emptable frames (R263) -/
  no : Nat := 0
  /-- its action was skipped at an attempt before, and counted (R54, R294) -/
  skipped : Bool := false
deriving DecidableEq, Repr

/-- What a transmission carries. -/
inductive TxKind where
  | staged (cls openT closeT : Nat)
  | express
  | preempt
  | control
  | verify
  | respond
  | polled
deriving DecidableEq, Repr

/-- An entry of the egress timestamp queue (R55): the domain and its time, L time, and type and sequenceId of the PTP message. -/
structure EgressStamp where
  dom : Nat
  time : Nat
  atL : Nat
  msg : Nat
  seq : Nat
deriving DecidableEq, Repr

/-- A transmission on the wire: start and end in L time; `upto` data bytes of the frame are sent at its end and `final` says that the frame then ends. -/
structure Tx where
  kind : TxKind
  path : PathFrame
  startL : Nat
  endL : Nat
  upto : Nat
  final : Bool := true
  good : Bool := true
  /-- the egress timestamp in L and in its domain (R48), action skipped (R54), and a staged frame that was late -/
  ts : Option (Nat × Nat) := none
  skipped : Bool := false
  late : Bool := false
deriving DecidableEq, Repr

/-- The Seam's frame under assembly (R267, R268). -/
structure SeamSt where
  bytes : List Byte
  count : Nat
  lastL : Nat
  tsL : Nat
  tsD : List Nat
deriving DecidableEq, Repr

/-- A port's gate list beside its registers (R206, R211 to R219): the two banks of both copies (entry i of bank b at 1024 b + i), the takeover time, requests and the entry last performed. -/
structure GclSt where
  sh : Tbl Nat := []
  gd : Tbl Nat := []
  tPrev : Nat := 0
  stopReq : Bool := false
  /-- a COMMIT accepted, whose checks run, with the switch time computed at acceptance (R214, R215) -/
  checking : Option Nat := none
  /-- start of the interval last performed, and of its cycle -/
  performed : Option Int := none
  cycleStart : Option Int := none
deriving DecidableEq, Repr

/-- The Hem guardian's faults (R261, R262): L times of blocks and cuts, of the last fault raised, and runs of disagreeing and agreeing updates. -/
structure GuardSt where
  blocks : List Nat := []
  lastFault : Option Nat := none
  badRun : Nat := 0
  goodRun : Nat := 0
deriving DecidableEq, Repr

/-- A BEACON as a receiver remembers it (R314). -/
structure Beacon where
  origin : Nat
  cycle : Nat
  table : Nat
  cycleNs : Nat
  /-- L time of its arrival -/
  atL : Nat
  /-- its TABLE_ID and CYCLE are those of the port's own list (R314) -/
  own : Bool
deriving DecidableEq, Repr

/-- What the master has seen of a slot in the present cycle (R308, R309): a frame accepted, a frame out of its window. -/
structure SlotSt where
  accepted : Bool := false
  missed : Bool := false
deriving DecidableEq, Repr

/-- A port's Polled Cycle beside its registers (chapter 10). -/
structure MdpSt where
  /-- the guardian's copy of the admin and the oper slot table (R304, R307) -/
  gdAdmin : Tbl Nat := []
  gdOper : Tbl Nat := []
  /-- L time at which LISTEN or the claim wait ends (R311, R313) -/
  listenEnd : Nat := 0
  claimEnd : Nat := 0
  /-- a CLAIM has been started and has met no collision; the collisions of the claim so far -/
  claiming : Bool := false
  claimColls : Nat := 0
  beacon : Option Beacon := none
  /-- domain time before which a new master transmits nothing (R313, R321) -/
  masterFrom : Nat := 0
  /-- the cycle start from which the partner is master, after a planned swap (R324, R496) -/
  handEnd : Option Nat := none
  /-- the next BEACON carries HANDOVER (R303) -/
  handover : Bool := false
  /-- the BEACON staged: its cycle start and IN_SYNC (R302, R303) -/
  staged : Option (Nat × Bool) := none
  /-- start of the last cycle whose BEACON was dealt with -/
  beaconAt : Option Nat := none
  /-- the BEACON staged could not start at its release point (R247) -/
  beaconWaits : Bool := false
  /-- the slot entered last: its start (R305); index and end of it until it is evaluated (R308) -/
  slotStart : Option Nat := none
  slotOpen : Option (Nat × Nat) := none
  /-- the slot in which the port may transmit now: start and end (R305, R306) -/
  own : Option (Nat × Nat) := none
  /-- a POLL sent or received: slot index and domain time of its last bit (R306, R308) -/
  poll : Option (Nat × Nat) := none
  slots : Tbl SlotSt := []
  /-- consecutive owned slots with a window miss, by owner (R309) -/
  misses : Tbl Nat := []
  /-- the last master record: whether it showed MASTER, and the L time of its arrival (R320, R321) -/
  record : Option (Bool × Nat) := none
deriving DecidableEq, Repr

/-! ## Stream identification and policing (chapter 04) -/

/-- A received frame between identification and admission: ingress port, bytes from the destination address to the last byte before the FCS, L ingress timestamp,
egress action of a transparent-clock message (R52), the domain of its ingress timestamp and its time in it (R48), and whether it is chalked. -/
structure Arrival where
  p : Nat
  data : List Byte
  tL : Nat
  act : EgressAct := .none
  tsDom : Nat := 8
  tD : Nat := 0
  chalk : Bool := false
deriving DecidableEq, Repr

/-- What a way of a Stream Cache slice holds: a copy of an entry, a negative entry (R129), or an invalidated copy of a pinned or resident entry (R122). -/
inductive WayKind where
  | entry | negative | lost
deriving DecidableEq, Repr

/-- A way: the stream index and the 512 bits of the entry (METHOD and KEY of a negative one), and the L time at which a negative entry ends. -/
structure Way where
  kind : WayKind
  idx : Nat
  ent : Nat
  ends : Nat := 0
deriving DecidableEq, Repr

/-- An ingress gate list (R133, R134): the admin and the oper configuration, the two banks (entry i of bank b at 256 b + i), the switch and the stop that wait, and the
list that ran before the last switch or stop: base, cycle and entries, with that time. -/
structure IglSt where
  baseSec : Nat := 0
  baseNs : Nat := 0
  cycle : Nat := 0
  adminLen : Nat := 0
  dom : Nat := 0
  oosOpen : Bool := false
  bank : Nat := 0
  running : Bool := false
  tsw : Option Nat := none
  stopAt : Option Int := none
  ents : Tbl Nat := []
  operBase : Nat := 0
  operCycle : Nat := 0
  operLen : Nat := 0
  tPrev : Nat := 0
  since : Option Int := none
  old : Option (Nat × Nat × List Nat) := none
deriving DecidableEq, Repr

/-- A frame in Miss Wait with the keys it waits on: method and compared key, METHOD_A first (R127, R128), and what the lookups of keys have found: an index and its entry, or none. -/
structure Missed where
  a : Arrival
  keys : List (Nat × Nat)
  got : List ((Nat × Nat) × Option (Nat × Nat)) := []
deriving DecidableEq, Repr

structure StrmSt where
  /-- set k of the slice of Bolt b at 4096 b + k, its ways from the most to the least recently used -/
  slice : Tbl (List Way) := []
  wait : List Missed := []
  gate : Tbl Nat := []
  /-- bytes passed by a stream gate in each interval: its start and the bytes (R135) -/
  oct : Tbl (List (Int × Nat)) := []
  igl : Tbl IglSt := []
  /-- meter records written, or used, since reset, and the L time in ns of the last sweep for the others (R141) -/
  meter : Tbl (Option Nat) := []
  swept : Nat := 0
  dset : Tbl Nat := []
  /-- completion code and index of the table operation in progress (R145) -/
  tblCode : Nat := 0
  tblIdx : Nat := 0
  /-- the device's service addresses in the Pattern (R106) -/
  svcAddr : List Nat := []
deriving DecidableEq, Repr

/-! ## Mender (chapter 05) -/

/-- A recovery function (Table 05-1): bits [511:436] of its record and its state. LAT_T and LAT_R are held as the L times in ms at which they were 0. -/
structure Rcv where
  cfg : Nat := 0
  takeAny : Bool := false
  recov : Nat := 0
  lastPass : Nat := 0
  latPass : Nat := 0
  latDisc : Nat := 0
  latBase : Nat := 0
  latT0 : Nat := 0
  latR0 : Nat := 0
  hist : Nat := 0
deriving DecidableEq, Repr

/-- A sequence generator: its record (Table 05-2), and an uncorrectable error met since the record was last written (R157). -/
structure Gen where
  word : Nat := 0
  bad : Bool := false
deriving DecidableEq, Repr

/-- A frame of a Lead-only stream that waits at the new Lead's Mender for END_OF_ROLE (R496): its arrival, Stream Table entry, class and frame record. -/
structure LeadWait where
  a : Arrival
  e : Nat
  tc : Nat
  fr : FrameRec
  err : MendErr
deriving DecidableEq, Repr

structure MendSt where
  rcv : Tbl Rcv := []
  gen : Tbl Gen := []
  /-- latent-error reports: function and L time in ms; a report was lost to the full queue -/
  latLog : List (Nat × Nat) := []
  latOvf : Bool := false
  tblCode : Nat := 0
  /-- mirror records sent, and the numbers of the records last applied (R172, R173) -/
  sent : Nat := 0
  seen : List Nat := []
  waiting : List LeadWait := []
deriving DecidableEq, Repr

/-! ## Host interface (chapter 11) and DMA (chapter 12) -/

/-- A transmit frame being built, or built and not yet admitted: its first index, the metadata of its SOP descriptor, its bytes, its descriptors and the address of a flushing read (R340, R364). -/
structure TxFrame where
  first : Nat
  desc : Nat
  data : List Byte := []
  /-- SOP and EOP of each descriptor so far (Table 11-3) -/
  marks : List (Bool × Bool) := []
  barrier : Option Nat := none
deriving DecidableEq, Repr

/-- A transmit frame admitted, whose completion is outstanding (R342). -/
structure TxFly where
  first : Nat
  n : Nat
  act : Nat
  dom : Nat
  barrier : Option Nat
deriving DecidableEq, Repr

/-- A frame in the receive store (R346): as the tag editor left it for its ring, before its FCS; its class, and its ingress timestamp. -/
structure RxFrame where
  bytes : List Byte
  tc : Nat
  tsDom : Nat
  ts : Nat
  fr : FrameRec
deriving DecidableEq, Repr

/-- A receive frame being written: the buffers used so far as index and bytes written, the bytes written in all, and the address for a flushing read (R345, R364). -/
structure RxCur where
  bufs : List (Nat × Nat) := []
  done : Nat := 0
  barrier : Bool := false
  lastAddr : Nat := 0
deriving DecidableEq, Repr

/-- A descriptor ring beside its registers: the next index to fetch, frames built and admitted, completions published out of order, the frame being written and its wait. -/
structure RingSt where
  fetch : Nat := 0
  building : Option TxFrame := none
  ready : List TxFrame := []
  /-- the first ready frame was refused and is held, numbered already: its frame record (R190) -/
  held : Option FrameRec := none
  flying : List TxFly := []
  pub : List Nat := []
  store : List RxFrame := []
  cur : Option RxCur := none
  waitFrom : Option Nat := none
  /-- a place of the completion queue is reserved for the frame being written -/
  reserved : Bool := false
  /-- CI changed since the Ledger word was last written, and the L time of that write (R356) -/
  ledgerDirty : Bool := false
  ledgerL : Option Nat := none
deriving DecidableEq, Repr

/-- A completion queue beside its registers (R350 to R355). -/
structure CqSt where
  held : List Nat := []
  reserved : Nat := 0
  armed : Bool := false
  pend : Nat := 0
  oldest : Nat := 0
deriving DecidableEq, Repr

structure HifSt where
  ring : Tbl RingSt := []
  cq : Tbl CqSt := []
  /-- the PCI Express link is up -/
  link : Bool := false
  /-- speed (1 to 5: 2.5, 5, 8, 16, 32 GT/s) and width of the link, as training found them (R326) -/
  speed : Nat := 0
  width : Nat := 0
  /-- requests held back while Bus Master Enable is 0 (R330), with their function -/
  stalled : List (Nat × Out) := []
deriving DecidableEq, Repr

/-- A DMA channel beside its registers (R381 to R391). -/
structure ChanSt where
  /-- the descriptor under way: address, space, 512 bits -/
  desc : Option (Nat × Nat × Nat) := none
  /-- the last completed descriptor: address, space, TAG (R390) -/
  last : Nat × Nat × Nat := (0, 0, 0)
  reserved : Bool := false
  /-- the bucket in thousandths of a byte, and the L time in ns at which it held that (R382) -/
  tokens : Nat := 0
  tokL : Nat := 0
  /-- bytes that the descriptor under way, or the one before it, has overwritten: space, address and the byte before (R377) -/
  wrote : List (Nat × Nat × Byte) := []
  /-- L time at which the failed read is issued again, and retries made (R391) -/
  retryAt : Option Nat := none
  retries : Nat := 0
deriving DecidableEq, Repr

/-- A publication event under way (R396, R402): G and T, the entry as read at G, DOM out of sync at G, the L time of G, whether a mover has taken it,
the first consistency read, and whether the gather is the repeat of R398. -/
structure PubRun where
  g : Nat
  t : Nat
  entry : Nat
  oos : Bool
  atL : Nat
  taken : Bool := false
  cons : Nat := 0
  again : Bool := false
deriving DecidableEq, Repr

/-- A publication entry's next event time T, and the event under way. -/
structure PubSt where
  word : Nat := 0
  next : Option Nat := none
  run : Option PubRun := none
deriving DecidableEq, Repr

structure DmaSt where
  ch : Tbl ChanSt := []
  /-- channels that hold one of the eight movers, in the order they received it (R381) -/
  movers : List Nat := []
  /-- channels that have given up a mover last, by priority (R381) -/
  gaveUp : Tbl Nat := []
  /-- the buckets of the caps on PCIe and DRAM in thousandths of a byte, and the L times in ns at which they held that (R383) -/
  pcieTok : Int := 0
  pcieL : Nat := 0
  dramTok : Int := 0
  dramL : Nat := 0
  /-- installed DRAM in bytes (R548), found at boot -/
  dramSize : Nat := 0
  pub : Tbl PubSt := []
  pubCode : Nat := 0
deriving DecidableEq, Repr

/-! ## Interrupts (chapter 13) -/

/-- A source's delivery (R409): state, holder (core or vector) and whether the holder is a vector. -/
structure SrcSt where
  dstate : Nat := 0
  holder : Nat := 0
  toVector : Bool := false
deriving DecidableEq, Repr

/-- A service-core pair (R423, R426): resting, its own interrupt mask (set at reset), stopped by Thimble, its SRAM of 512 KiB. -/
structure CoreSt where
  rest : Bool := false
  mask : Bool := true
  stopped : Bool := false
  sram : Memory := []
deriving DecidableEq, Repr

/-- A host function (R330, R412): Bus Master Enable, MSI-X Enable and Function Mask. -/
structure PfSt where
  busMaster : Bool := false
  msixEn : Bool := false
  fnMask : Bool := false
  /-- Max_Payload_Size and Max_Read_Request_Size as codes of 128 × 2^n bytes, 10-Bit Tag Requester Enable, and the Uncorrectable Error Status of AER (R326, log entry 16) -/
  maxPayload : Nat := 0
  maxRead : Nat := 2
  tenBit : Bool := false
  aer : Nat := 0
  /-- the function's range of MSI-X vectors (R329) -/
  vecLo : Nat := 0
  vecN : Nat := 0
deriving DecidableEq, Repr

/-- An MSI-X vector's table entry (R561). -/
structure Vec where
  addr : Nat := 0
  data : Nat := 0
  mask : Bool := true
deriving DecidableEq, Repr

/-- What a delivery up to an L time may still use of a source's enable bit and configuration before they were written (R414). -/
structure SrcOld where
  upto : Nat
  enabled : Bool
  tkind : Nat
  target : Nat
deriving DecidableEq, Repr

structure IntcSt where
  src : Tbl SrcSt := []
  core : Tbl CoreSt := []
  pf : Tbl PfSt := []
  vec : Tbl Vec := []
  /-- L time of the last write to ENABLE or SRC_CFG (R415) -/
  lastCfg : Nat := 0
  /-- the configuration that a source had before the last write of it (R414) -/
  old : Tbl (Option SrcOld) := []
deriving DecidableEq, Repr

/-! ## Thimble and the pair (chapter 15) -/

/-- A fault record (Table 15-4) without its VALID bit. -/
structure FaultRec where
  sev : Nat
  sm : Nat
  unit : Nat
  detail : Nat
  us : Nat
deriving DecidableEq, Repr

structure ThimSt where
  /-- records in order of arrival (R474) -/
  queue : List FaultRec := []
  /-- severities under handling, the present one first (R476) -/
  handling : List Nat := []
  /-- severities of records that wait for their handling (R476) -/
  waiting : List Nat := []
  fatal : Option FaultRec := none
  fatalL : Nat := 0
  fatalDoms : List Nat := []
  fatalPace : Nat := 0
  /-- device state code before Fail-Silent (Table 15-15) -/
  before : Nat := 0
  dumpEnd : Option Nat := none
  /-- space and address of the last Fatal Dump area written (R503) -/
  dumpKept : Option (Nat × Nat) := none
  wdogL : Nat := 0
  serviceSince : Option Nat := none
  /-- L time of the last pass of each latent-fault test (R500) -/
  testPass : Tbl Nat := []
  /-- tests reported overdue and not passed since (R500) -/
  overdue : Nat := 0
  /-- sensor s above limit k (0 the grade maximum, 1 that plus 10 °C), by 2 s + k: 0 no, 1 reported, else the L time since when plus 2 (R467) -/
  hot : Tbl Nat := []
  /-- DRAM treated as failed until reset (R467) -/
  dramFailed : Bool := false
deriving DecidableEq, Repr

/-- The SERVO record kept for a grandmaster domain (R491). -/
structure ServoRec where
  rate : Nat := 0
  integ : Frac := {}
  hold : Frac := {}
  state : Nat := 0
deriving DecidableEq, Repr

structure PairSt where
  joinSince : Nat := 0
  /-- L time of the pair's last claim of the token -/
  claimL : Option Nat := none
  /-- claim made, passage awaits the readback (R492) -/
  claiming : Bool := false
  lastBeat : Nat := 0
  lastPl0 : Nat := 0
  lastPl1 : Nat := 0
  silentSince : Option Nat := none
  refreshL : Nat := 0
  fsDrive : Bool := false
  beatLevel : Bool := false
  fsIn : Bool := false
  peerReady : Bool := false
  peerRole : Nat := 0
  swapAt : Option Nat := none
  preDriven : Bool := false
  postponedL : Option Nat := none
  lastSwapL : Nat := 0
  servo : Tbl ServoRec := []
  /-- the Lead-only functions, generators and ports whose state is STALE: kind and index (R176) -/
  stale : List (Nat × Nat) := []
  peerL : Nat := 0
  peerBuf : Memory := []
  /-- bytes of the page received so far (R504) -/
  peerAt : Nat := 0
  endOfRole : Bool := true
  /-- mirror records that wait on each lane, by number, oldest first (R175) -/
  laneQ0 : List Nat := []
  laneQ1 : List Nat := []
  discarding : Bool := false
deriving DecidableEq, Repr

/-! ## Boot, Basting, protection and NVM (chapter 14) -/

/-- A staged write (R450): BAR0 offset, width and value; a table operation carries the contents of its data registers, DATA[0] in the low bits. -/
structure Staged1 where
  addr : Nat
  wide : Bool
  v : Nat
  data : Option Nat := none
deriving DecidableEq, Repr

/-- A staging group beside its register (R450 to R454): the staged writes in order, the domain and the time T of its release, and whether step 1 of R451 is done. -/
structure GroupSt where
  writes : List Staged1 := []
  dom : Nat := 0
  t : Nat := 0
  gclDone : Bool := false
  /-- released by a late COMMIT: BASTE_STATUS.BUSY falls with its end (R454, R455) -/
  late : Bool := false
deriving DecidableEq, Repr

/-- What the running Pattern tells the boot (Tables 14-2 and 14-3): identifiers, security version and flags of the header, the POLICY section. -/
structure PatternSt where
  base : Nat := 0
  patternId : Nat := 0
  systemId : Nat := 0
  secVersion : Nat := 0
  advance : Bool := false
  /-- 0 NONE, 1 OPTIONAL, 2 REQUIRED -/
  dramPolicy : Nat := 0
  /-- the slot whose public key verified the image -/
  keySlot : Nat := 0
  acqTimeoutS : Nat := 20
  reqUp : Nat := 0
  reqAcq : Nat := 0
  /-- subsystem vendor ID and subsystem ID (R328) -/
  subsys : Nat := 0
  /-- the service entries: 16 tc + n of the queue that a service's frames take, by service: 0 time, 1 topology, 2 supervision (R180) -/
  svcQ : Tbl Nat := []
  /-- bytes of the image and of its NVM reads (R441) -/
  imageLen : Nat := 0
  /-- VARIANT of the Identity Record (R431) -/
  variant : Nat := 0
  /-- the PAIR section's value for PAIR.CFG, applied at BS12 (R434) -/
  pairCfg : Nat := 0
deriving DecidableEq, Repr

/-- Boot and what chapter 14 holds beside its registers. -/
structure BootSt where
  awt : Tbl Nat := []
  /-- the latch of each requester: register slot and high half (R12) -/
  latch : Tbl (Option (Nat × Nat)) := []
  /-- the staged low half of each requester: register slot and value (R12) -/
  stagedLow : Tbl (Option (Nat × Nat)) := []
  /-- pending values of class B fields, by 64 × BAR0 offset + low bit (R449) -/
  slots : Tbl (Option Nat) := []
  groups : Tbl GroupSt := []
  /-- the attached NVM: an unlisted byte is erased and reads 0xFF (R428, R429) -/
  nvm : Tbl Byte := []
  /-- the NVM buffer window (R461) -/
  nvmBuf : Memory := []
  nvmCode : Nat := 0
  /-- OTP fuses (R436, R437): programmed key digests, revoke bits, blown fuses of the security counter -/
  otpKey : Tbl (Option Nat) := []
  otpRevoked : Nat := 0
  otpCount : Nat := 0
  /-- the slot size in MiB of the Locator in use (R430) -/
  slotMb : Nat := 0
  /-- the Boot Record in use as a 512-bit number, and the sector of the Boot Record area written last (R444) -/
  record : Nat := 0
  recSector : Nat := 15
  /-- the cause of the last reset (Table 14-5) -/
  cause : Nat := 0
  /-- L time at which the present step began (R441) -/
  stepL : Nat := 0
  pattern : PatternSt := {}
  /-- lanes that failed calibration: 5 b + k (R441) -/
  deadLanes : List Nat := []
  /-- configuration requests are answered, with the Pattern identity (R442) -/
  pcieReady : Bool := false
deriving DecidableEq, Repr

/-! ## Pins and power (chapter 17) -/

structure PinSt where
  pwrgood : Bool := true
  resetN : Bool := true
  /-- the power-on detector holds the device in Off (R537) -/
  porHold : Bool := false
  /-- BOOT_MODE as sampled (R438), and a strap found open (R539) -/
  mode : Nat := 0
  strapOpen : Bool := false
  /-- banks without power: bit k VIO_Tk, bit 4 VIO_CTL (R544) -/
  bankOff : Nat := 0
  /-- the level at which the keeper of an output unit's net holds it (R543) -/
  net : Tbl Bool := []
  /-- the test port's instruction: 0 one that leaves the pins alone (BYPASS among them), 1 EXTEST, 2 CLAMP, 3 HIGHZ (R550) -/
  jtag : Nat := 0
deriving DecidableEq, Repr

/-! ## Tape (chapter 16) -/

/-- A dump captured and not yet written (R521): its header line and payload lines as 64-bit words. -/
structure DumpSt where
  next : Option Nat := none
  seq : Nat := 0
  skipped : Nat := 0
  captured : Option (List Nat) := none
deriving DecidableEq, Repr

/-- Slot accounting of a port (R515, R516): L time of the entry to UP, slots classified since, the word of an idle slot classified and not at its end yet, slots that wait for the
end of the transmission under way, and whether the last transmission ended valid. -/
structure SlotAcct where
  upAt : Nat := 0
  n : Nat := 0
  idle : Option Nat := none
  tx : Nat := 0
  lastGood : Bool := true
deriving DecidableEq, Repr

structure TapeSt where
  /-- counter words by BAR4 offset / 8 (R506, R509) -/
  ctr : Tbl Nat := []
  /-- recovery function counters, word w of function i at 8 i + w (R513) -/
  func : Tbl Nat := []
  dump : Tbl DumpSt := []
  lfsr : Tbl Nat := []
  hostLfsr : Nat := 0
  /-- tokens of the Chalk bucket in units of one nanosecond of a 1,000 ns record, and its time (R525) -/
  chalkTok : Nat := 256000
  chalkL : Nat := 0
  /-- records of chalked copies whose fate is final, oldest first, not yet written (R524) -/
  fates : List (List Byte) := []
  /-- slot accounting of each port (R515, R516) -/
  slots : Tbl SlotAcct := []
  /-- recovery function counters changed since their block was written back (R513) -/
  dirty : List Nat := []
  /-- counts that the rules ask for and no table gives a word: 256 k + source for a frame discarded at step k of R101, 256 · 16 + source for a host copy without its SEQ_OUT tag,
  256 · 17 + source for one too long (R101, R114, R146, R163, R166, R178) -/
  noWord : Tbl Nat := []
  /-- the counter command in progress: completion code (R527) -/
  cmdCode : Nat := 0
deriving DecidableEq, Repr

/-! ## The machine -/

/-- A port's transmit and receive state beside its registers. -/
structure PortSt where
  gcl : GclSt := {}
  guard : GuardSt := {}
  /-- virtual time per class (R230) -/
  vt : Tbl Nat := []
  wins : List StgWin := []
  /-- gate-open time and next train position of the train that last moved (R254) -/
  cursor : Option (Nat × Nat) := none
  /-- the egress timestamp queue of frames of the service cores (R48, R55) -/
  tsq : List EgressStamp := []
  /-- the port's internal latencies, found by the calibration of BS09, in ticks: transmit and receive (R50) -/
  latTx : Nat := 0
  latRx : Nat := 0
  /-- addFragSize that the partner announces, as the service cores learn it (R263) -/
  partnerFrag : Nat := 0
  /-- pre-emptable frames begun, modulo 4 (R263) -/
  preNo : Nat := 0
  staged : List Staged := []
  express : Option PathFrame := none
  preempt : Option PathFrame := none
  tx : Option Tx := none
  /-- a frame that collided and is tried again (R293); its collisions so far stand in MD_STATUS.ATTEMPTS -/
  retry : Option PathFrame := none
  /-- L time at which the last transmission ended -/
  lastEnd : Nat := 0
  /-- L time at which the last transmission started -/
  lastStart : Nat := 0
  /-- reserve cells in use (R186) -/
  rsvUsed : Nat := 0
  /-- flushed frames whose cells have not returned to the free list (R200) -/
  flushed : List FrameRec := []
  /-- the port's release and guardian copies of time as last updated (R46); none before the first update: the port then has the voted values -/
  copy : Option TimeCopy := none
  /-- the in-sync state of the schedule domain as the port last received it (R91) -/
  inSync : Bool := false
  /-- scheduled windows are served again: the first cycle start after the resumption has come (R93) -/
  serving : Bool := false
  /-- the cycle start, in domain time, from which they are served where it has not come yet (R93) -/
  resumeAt : Option Int := none
  holdApplied : Bool := false
  verifyDue : Nat := 0
  /-- a Verify and a Respond mPacket that wait to be sent (R264) -/
  verify : Bool := false
  respond : Bool := false
  seam : Option SeamSt := none
  /-- control frames consumed in a window of 1 ms, and the window's number (R107) -/
  ctrlCount : Nat := 0
  ctrlWin : Nat := 0
  mac : MacSt := {}
  mdp : MdpSt := {}
deriving DecidableEq, Repr

/-- The machine. -/
structure State where
  pending : List Instr := []
  regs : Regs := []
  dev : DevState := .boot
  time : TimeSt := {}
  ptp : Tbl PtpSt := []
  ttdp : TtdpSt := {}
  sup : SupSt := {}
  bolt : Tbl BoltSt := []
  port : Tbl PortSt := []
  queue : Tbl QSt := []
  strm : StrmSt := {}
  mend : MendSt := {}
  hif : HifSt := {}
  dma : DmaSt := {}
  intc : IntcSt := {}
  boot : BootSt := {}
  thim : ThimSt := {}
  pair : PairSt := {}
  tape : TapeSt := {}
  pins : PinSt := {}
  /-- local memory (R372) and attached DRAM -/
  localMem : Memory := []
  /-- 8-byte words of local memory with an uncorrectable error that nothing has written since (R469) -/
  localBad : List Nat := []
  dram : Memory := []
  out : List Out := []
  free : Nat := 0
deriving DecidableEq, Repr

/-- Why a command could end the run. No meaning of this model faults: every error of the device is an effect that the specification describes (a fault record, an event flag, a completion code). -/
inductive Fault where
  /-- Raised by no meaning: the machine has no state from which the specification gives no next state. Safe. -/
  | unreachable
deriving DecidableEq, Repr

/-- Why a command could have no meaning. -/
inductive Refusal where
  /-- Raised by `exec` for a command whose meaning is not written yet, by the mnemonic of the table. Safe. -/
  | notModelled (mnemonic : String)
deriving DecidableEq, Repr

/-- The machine right after the release of RESET_N: Boot at BS01, L time 0 (R39, R438), every register at the reset value of its table. -/
def State.reset : State := {}

end Sys2Proof.Machine
end

