-- ==== Sys2Proof/Machine/Ops.lean ====
section
/-!
DEFINITION. The shared operations that every block uses: register fields, event flags and the interrupt sources they assert, counter words, time, free values, exact rationals.
-/
namespace Sys2Proof.Machine

/-! ## Register fields -/

/-- The value stored under a key, where it differs from reset. -/
def Regs.find (k : FlKey) : Regs → Option Nat
  | [] => none
  | (a, v) :: t => if a = k then some v else Regs.find k t

/-- The register file without a key. -/
def Regs.drop (k : FlKey) : Regs → Regs
  | [] => []
  | (a, v) :: t => if a = k then Regs.drop k t else (a, v) :: Regs.drop k t

/-- The reset value of a field (R10); INTC.CORE_CFG.EN is 1 for pair 0 alone (Table 13-9). -/
def fldReset (f : Fl) (i : Nat) : Nat :=
  if f = .INTC_CORE_CFG_EN then (if i = 0 then 1 else 0) else f.info.reset

/-- The value a field holds, a number of the field's width: a field that nothing has written holds its reset value. -/
def State.fld (s : State) (f : Fl) (i : Nat := 0) (j : Nat := 0) : Nat :=
  match s.regs.find ⟨f, i, j⟩ with
  | some v => v % 2 ^ f.info.width
  | none => fldReset f i

/-- A field given a value, cut to the field's width; a field back at its reset value is not listed. -/
def State.setFld (s : State) (f : Fl) (i j v : Nat) : State :=
  let w := v % 2 ^ f.info.width
  let rest := s.regs.drop ⟨f, i, j⟩
  { s with regs := if w = fldReset f i then rest else (⟨f, i, j⟩, w) :: rest }

/-- A one-bit field read as a truth value. -/
def State.on (s : State) (f : Fl) (i : Nat := 0) (j : Nat := 0) : Bool := s.fld f i j != 0

/-- Several fields of one instance given values. -/
def State.setFlds (s : State) (i j : Nat) (l : List (Fl × Nat)) : State := l.foldl (fun a e => a.setFld e.1 i j e.2) s

/-! ## Pending values of class B fields (R449) -/

/-- The pending slot of a class B field of a register. -/
def slotKey (x : RegRef) (f : Fl) : Nat := 64 * addrOf x.reg x.i x.j + f.info.lo

/-- The pending value of a class B field. -/
def State.pendingB (s : State) (x : RegRef) (f : Fl) : Option Nat := s.boot.slots.get none (slotKey x f)

/-- A pending slot given a value, which replaces an earlier one, or emptied. -/
def State.setPendingB (s : State) (x : RegRef) (f : Fl) (v : Option Nat) : State :=
  { s with boot := { s.boot with slots := s.boot.slots.set none (slotKey x f) v } }

/-- The pending value of a class B field takes effect at its boundary. -/
def State.takeB (s : State) (x : RegRef) (f : Fl) : State :=
  match s.pendingB x f with
  | none => s
  | some v => (s.setFld f x.i x.j v).setPendingB x f none

/-- Every pending value of a register takes effect: its unit has stopped, or begins its next frame, descriptor, event or cycle. -/
def State.takeReg (s : State) (x : RegRef) : State := (x.reg.fields.filter fun f => decide (f.info.cls = Cls.b)).foldl (fun a f => a.takeB x f) s

/-- One line is added to the log of what the device does at its pins. -/
def State.emit (s : State) (o : Out) : State := { s with out := s.out ++ [o] }

/-- A free value: the counter of free values advances (log entry 5). -/
def State.draw (s : State) : Nat × State := (Config.freeNat s.free, { s with free := s.free + 1 })

/-! ## Local memory (R372, R469) -/

/-- No word of `n` bytes of local memory has an uncorrectable error. -/
def State.localGood (s : State) (a n : Nat) : Bool := s.localBad.all fun w => decide (8 * w + 8 ≤ a) || decide (a + n ≤ 8 * w)

/-- Words that `n` bytes from an address on rewrite whole have no error any more. -/
def State.localFresh (s : State) (a n : Nat) : State := { s with localBad := s.localBad.filter fun w => !(decide (a ≤ 8 * w) && decide (8 * w + 8 ≤ a + n)) }

/-- Bytes written to local memory. -/
def State.localPut (s : State) (a : Nat) (bs : List Byte) : State := ({ s with localMem := s.localMem.writeBytes a bs }).localFresh a bs.length

/-! ## Pending bits and level sources (R407, R410) -/

/-- PENDING of a source set by hardware; a change counts in PEND_CNT (R417). -/
def State.pendSet (s : State) (src : Nat) : State :=
  let w := src / 32
  let p := s.fld .INTC_PENDING_PEND w
  if p.testBit (src % 32) then s
  else (s.setFld .INTC_PENDING_PEND w 0 (setBit p (src % 32))).setFld .INTC_PEND_CNT_COUNT w 0 (s.fld .INTC_PEND_CNT_COUNT w + 1)

/-- PENDING of a source cleared by hardware. -/
def State.pendClear (s : State) (src : Nat) : State :=
  let w := src / 32
  let p := s.fld .INTC_PENDING_PEND w
  if p.testBit (src % 32) then
    (s.setFld .INTC_PENDING_PEND w 0 (clearBit p (src % 32))).setFld .INTC_PEND_CNT_COUNT w 0 (s.fld .INTC_PEND_CNT_COUNT w + 1)
  else s

/-- The delivery record of a source. -/
def State.src (s : State) (n : Nat) : SrcSt := s.intc.src.get {} n

/-- The delivery record of a source given a value. -/
def State.setSrc (s : State) (n : Nat) (v : SrcSt) : State := { s with intc := { s.intc with src := s.intc.src.set {} n v } }

/-- A level source that has come to be asserted: PENDING is held at 1 while its delivery state is NONE (R410). -/
def State.assertSrc (s : State) (n : Nat) : State := if (s.src n).dstate = 0 then s.pendSet n else s

/-- The level source that an event field of a register instance raises (Table 13-1); `bit` is the bit of a field of several bits. -/
def levelSrc (f : Fl) (i bit : Nat) : Option Nat :=
  match f with
  | .TPL_SYNC_STATUS_LOST => some (921 + bit)
  | .TPL_OUT_STATUS_LATE => some (929 + i)
  | .TPL_CAP_CFG_OVF => some (965 + i)
  | .DEV_PACE_EVENT_LOW => some 1003
  | _ =>
    match f.reg with
    | .MAC_EVENT => some (512 + i)
    | .SELV_EVENT => some (640 + i)
    | .SHTL_GCL_EVENT => some (768 + i)
    | .SHTL_BUF_EVENT => some (896 + i)
    | .MDP_EVENT => some (904 + 2 * (i / 16) + (i % 16 - 14))
    | .TPL_EVENT => some 920
    | .STRM_EVENT => some 999
    | .MEND_EVENT => some 1000
    | .HIF_EVENT => some 1001
    | .DMA_EVENT => some 1002
    | .INTC_EVENT => some 1004
    | .THIM_EVENT => some 1024
    | .PAIR_EVENT => some 1088
    | .BOOT_EVENT => some 1120
    | .TAPE_EVENT => some 1136
    | _ => none

/-- True if any field of a register instance is not 0. -/
def State.anyFld (s : State) (r : Reg) (i : Nat) : Bool := r.fields.any fun f => s.fld f i != 0

/-- A level source is asserted while any bit of the register that the map names is 1 (R407); an edge or unused source never is. -/
def State.asserted (s : State) (n : Nat) : Bool :=
  if n < 512 then false
  else if n < 640 then s.anyFld .MAC_EVENT (n - 512)
  else if n < 768 then s.anyFld .SELV_EVENT (n - 640)
  else if n < 896 then s.anyFld .SHTL_GCL_EVENT (n - 768)
  else if n < 904 then s.anyFld .SHTL_BUF_EVENT (n - 896)
  else if n < 920 then s.anyFld .MDP_EVENT (16 * ((n - 904) / 2) + 14 + (n - 904) % 2)
  else if n = 920 then s.anyFld .TPL_EVENT 0
  else if n < 929 then (s.fld .TPL_SYNC_STATUS_LOST).testBit (n - 921)
  else if n < 965 then s.on .TPL_OUT_STATUS_LATE (n - 929)
  else if n < 999 then s.on .TPL_CAP_CFG_OVF (n - 965)
  else if n = 999 then s.anyFld .STRM_EVENT 0
  else if n = 1000 then s.anyFld .MEND_EVENT 0
  else if n = 1001 then s.anyFld .HIF_EVENT 0
  else if n = 1002 then s.anyFld .DMA_EVENT 0
  else if n = 1003 then s.fld .DEV_PACE_EVENT_LOW != 0
  else if n = 1004 then s.anyFld .INTC_EVENT 0
  else if n = 1024 then s.anyFld .THIM_EVENT 0
  else if n = 1088 then s.anyFld .PAIR_EVENT 0
  else if n = 1120 then s.anyFld .BOOT_EVENT 0
  else if n = 1136 then s.anyFld .TAPE_EVENT 0
  else false

/-- Sources that exist (Table 13-1, R406). -/
def srcUsed (n : Nat) : Bool :=
  n < 1005 || n == 1024 || n == 1088 || n == 1120 || n == 1136 || (1200 ≤ n && n < 1456)

/-- Edge sources: HIF completions and software sources (Table 13-1). -/
def srcEdge (n : Nat) : Bool := n < 512 || (1200 ≤ n && n < 1456)

/-- An event flag of one bit set, with the source it asserts. -/
def State.event (s : State) (f : Fl) (i : Nat := 0) : State :=
  let s := s.setFld f i 0 1
  match levelSrc f i 0 with
  | some n => s.assertSrc n
  | none => s

/-- One bit of an event field of several bits set, with the source it asserts. -/
def State.eventBit (s : State) (f : Fl) (i b : Nat) : State :=
  let s := s.setFld f i 0 (setBit (s.fld f i) b)
  match levelSrc f i b with
  | some n => s.assertSrc n
  | none => s

/-! ## Counter words (R506, R507, Table 16-1) -/

/-- The word of a counter, by its BAR4 offset / 8. -/
def State.ctr (s : State) (a : Nat) : Nat := s.tape.ctr.get 0 a

/-- `n` events counted in a word: COUNT is modulo 2^48, and OVF is set when it wraps (R506). -/
def ctrAdd (w n : Nat) : Nat :=
  let c := w % 2 ^ 48 + n
  c % 2 ^ 48 + (if bit w 63 || decide (2 ^ 48 ≤ c) then 2 ^ 63 else 0)

/-- A counter word advanced; OVF going from 0 to 1 sets TAPE.EVENT.OVF (Table 16-17). -/
def State.bump (s : State) (a : Nat) (n : Nat := 1) : State :=
  let w := s.ctr a
  let w' := ctrAdd w n
  let s := { s with tape := { s.tape with ctr := s.tape.ctr.set 0 a w' } }
  if bit w' 63 && !bit w 63 then s.event .TAPE_EVENT_OVF else s

def portWord (p w : Nat) : Nat := 0x80 * p + w
def queueWord (q w : Nat) : Nat := 0x4000 + 4 * q + w
def boltWord (b w : Nat) : Nat := 0x14000 + 0x200 * b + w
def devWord (w : Nat) : Nat := 0x15000 + w
def chanWord (c w : Nat) : Nat := 0x16000 + 8 * c + w
def pubWord (e outcome : Nat) : Nat := 0x18000 + 8 * e + (outcome - 2)
def ringWord (r w : Nat) : Nat := 0x1C000 + 8 * r + w

/-- A port counter of Table 16-2. -/
def State.portCount (s : State) (p w : Nat) (n : Nat := 1) : State := s.bump (portWord p w) n

/-- A programmable event of a port: class `tc` if it has one, and the queue or owner that QUAL is compared with (R514, Table 16-8). -/
def State.pecEvent (s : State) (p code : Nat) (tc : Option Nat) (qual : Nat) : State :=
  (List.range 8).foldl (fun a i =>
    let m := a.fld .TAPE_PEC_CFG_TC_MASK p i
    let mask := if m = 0 then 0xFF else m
    let inMask : Bool := match tc with
      | some t => mask.testBit t
      | none => true
    if a.on .TAPE_PEC_CFG_EN p i && a.fld .TAPE_PEC_CFG_MODE p i == 0 && a.fld .TAPE_PEC_CFG_EVENT p i == code && inMask
        && (!a.on .TAPE_PEC_CFG_QUAL_EN p i || a.fld .TAPE_PEC_CFG_QUAL p i == qual) then
      a.bump (portWord p (64 + i))
    else a) s

/-! ## Exact rationals -/

/-- A rational in lowest terms. -/
def Frac.norm (n : Int) (d : Nat) : Frac :=
  let g := Nat.gcd n.natAbs d
  if g = 0 then ⟨0, 1⟩ else ⟨n / (g : Int), d / g⟩

def Frac.ofInt (n : Int) : Frac := ⟨n, 1⟩
def Frac.add (a b : Frac) : Frac := Frac.norm (a.num * b.den + b.num * a.den) (a.den * b.den)
def Frac.neg (a : Frac) : Frac := ⟨-a.num, a.den⟩
def Frac.sub (a b : Frac) : Frac := a.add b.neg
def Frac.mul (a b : Frac) : Frac := Frac.norm (a.num * b.num) (a.den * b.den)
def Frac.le (a b : Frac) : Bool := decide (a.num * b.den ≤ b.num * a.den)
def Frac.max (a b : Frac) : Frac := if a.le b then b else a
def Frac.min (a b : Frac) : Frac := if a.le b then a else b

/-- A rational between two bounds. -/
def Frac.clamp (lo hi a : Frac) : Frac := (a.max lo).min hi

/-- A rational held as a whole number: exact where it is whole; otherwise one of its two neighbours, and the specification does not say which (log entry 6). -/
def Frac.toWord (a : Frac) : Int :=
  if a.num % (a.den : Int) = 0 then a.num / (a.den : Int)
  else if Config.roundUp a.num a.den then a.num / (a.den : Int) + 1 else a.num / (a.den : Int)

/-! ## Time -/

/-- Ticks of a nanosecond: 2^40 (R38). -/
abbrev nsT : Nat := 2 ^ 40

/-- Ticks of a second. -/
abbrev secT : Nat := 1000000000 * 2 ^ 40

/-- Ticks of a whole number of picoseconds, rounded down (log entry 9). -/
def psT (ps : Nat) : Nat := ps * 2 ^ 40 / 1000

/-- A time from its seconds, nanoseconds and 2^-16 ns fraction (R8). -/
def timeOf (sec ns frac : Nat) : Nat := sec * secT + ns * nsT + frac * 2 ^ 24

/-- Seconds, nanoseconds and 16-bit fraction of a time (R8). -/
def secOf (t : Nat) : Nat := t / secT
def nsOf (t : Nat) : Nat := t % secT / nsT
def fracOf (t : Nat) : Nat := t % nsT / 2 ^ 24

/-- Counter c of timescale x (8 for L). -/
def State.cnt (s : State) (x c : Nat) : Nat := s.time.cnt.get 0 (3 * x + c)

/-- A counter loaded. -/
def State.setCnt (s : State) (x c v : Nat) : State :=
  { s with time := { s.time with cnt := s.time.cnt.set 0 (3 * x + c) v } }

/-- The counter excluded from a timescale: 0 none, 1 A, 2 B, 3 C (Table 02-9). -/
def State.excl (s : State) (x : Nat) : Nat := s.fld .TPL_VOTE_STATUS_EXCL / 4 ^ x % 4

/-- The median of three numbers. -/
def median (a b c : Nat) : Nat := max (min a b) (min (max a b) c)

/-- The mean of two counter values (R45); half a guard bit goes either way (log entry 6). -/
def meanOf (a b : Nat) : Nat :=
  if (a + b) % 2 = 0 then (a + b) / 2 else if Config.roundUp ((a + b : Nat) : Int) 2 then (a + b) / 2 + 1 else (a + b) / 2

/-- The voted value of a timescale (R44, R45). -/
def State.voted (s : State) (x : Nat) : Nat :=
  match s.excl x with
  | 1 => meanOf (s.cnt x 1) (s.cnt x 2)
  | 2 => meanOf (s.cnt x 0) (s.cnt x 2)
  | 3 => meanOf (s.cnt x 0) (s.cnt x 1)
  | _ => median (s.cnt x 0) (s.cnt x 1) (s.cnt x 2)

/-- L time in ticks. -/
def State.lNow (s : State) : Nat := s.voted 8

/-- L time in whole nanoseconds and microseconds. -/
def State.lNs (s : State) : Nat := s.lNow / nsT
def State.lUs (s : State) : Nat := s.lNow / (1000 * nsT)

/-- The first whole microsecond of L time at or after a time. -/
def ceilUs (t : Nat) : Nat := (t + 1000 * nsT - 1) / (1000 * nsT) * (1000 * nsT)

/-- All three counters of a timescale loaded on one edge (R40). -/
def State.loadCnts (s : State) (x v : Nat) : State := ((s.setCnt x 0 v).setCnt x 1 v).setCnt x 2 v

/-- All three counters of a timescale moved by a step (R40); time does not go below 0. -/
def State.stepCnts (s : State) (x : Nat) (d : Int) : State :=
  ((s.setCnt x 0 ((s.cnt x 0 : Int) + d).toNat).setCnt x 1 ((s.cnt x 1 : Int) + d).toNat).setCnt x 2 ((s.cnt x 2 : Int) + d).toNat

/-- The applied rate of a domain as a signed number of 2^-40 (R38). -/
def State.rate (s : State) (d : Nat) : Int := toSigned 32 (s.fld .TPL_DOM_RATE_RATE d)

/-- What a timescale gains in one TPCLK cycle: 1 ns × (1 + RATE) while it counts (R38 to R41). -/
def State.inc (s : State) (x : Nat) : Int :=
  if x = 8 then (2 ^ 40 : Nat) else if s.on .TPL_DOM_CFG_EN x && s.fld .TPL_OSC_STATUS_FREQ != 0 then (2 ^ 40 : Nat) + s.rate x else 0

/-- A domain's hidden state. -/
def State.dom (s : State) (d : Nat) : DomSt := s.time.dom.get {} d
def State.setDom (s : State) (d : Nat) (v : DomSt) : State := { s with time := { s.time with dom := s.time.dom.set {} d v } }

/-- The sum of a domain's steps as it stood at an L time: steps made later are not in it. -/
def stepsThen : List (Nat × Nat × Int) → Int → Nat → Int
  | [], n, _ => n
  | (l, _, old) :: rest, n, t => if l ≤ t then n else stepsThen rest old t

/-- The sum of a domain's steps as it stood when the domain last showed a time (R52). -/
def stepsShown : List (Nat × Nat × Int) → Int → Nat → Int
  | [], n, _ => n
  | (_, new, old) :: rest, n, t => if new ≤ t then n else stepsShown rest old t

/-- The sum of the steps of a timescale at an L time, and when it last showed a time; L meets no step (R39). -/
def State.stepsAtL (s : State) (x l : Nat) : Int := if x = 8 then 0 else stepsThen (s.dom x).stepLog (s.dom x).steps l
def State.stepsAtTime (s : State) (x t : Nat) : Int := if x = 8 then 0 else stepsShown (s.dom x).stepLog (s.dom x).steps t
def State.stepsOf (s : State) (x : Nat) : Int := if x = 8 then 0 else (s.dom x).steps

/-- The time of a timescale `age` ns of L time ago: what it gained since, and the steps it made since, taken off (R72). -/
def State.timeAgo (s : State) (x age : Nat) : Nat :=
  ((s.voted x : Int) - s.inc x * age - (s.stepsOf x - s.stepsAtL x (s.lNow - age * nsT))).toNat

/-- The state code of a domain (Table 02-3). -/
def State.domState (s : State) (d : Nat) : Nat := s.fld .TPL_DOM_STATUS_STATE d

/-- True while a domain is in sync, as last evaluated (R91). -/
def State.inSync (s : State) (d : Nat) : Bool := (s.fld .TPL_SYNC_STATUS_IN_SYNC).testBit d

/-! ## Device states (R20) -/

/-- "In service": any of the three Active states. -/
def DevState.inService : DevState → Bool
  | .solo | .lead | .shadow => true
  | _ => false

/-- The code of BOOT.STATUS.STATE (Table 14-8); Off has none. -/
def DevState.code : DevState → Nat
  | .off => 0
  | .boot => 1
  | .acquire => 2
  | .solo => 3
  | .lead => 4
  | .shadow => 5
  | .recovery => 6
  | .test => 7
  | .failSilent => 8
  | .stayDown => 9

/-- The traffic side of the device runs: it is silent in Off, Fail-Silent and Stay-Down (R477, R447, R535). -/
def State.alive (s : State) : Bool :=
  match s.dev with
  | .off | .failSilent | .stayDown => false
  | _ => true

/-! ## The end of every command and of every clock cycle -/

/-- A device with a role may drive OVL_TOKEN low; in Off, Fail-Silent, Stay-Down, Test and Recovery it releases it (Table 15-6). -/
def State.mayDriveToken (s : State) : Bool :=
  match s.dev with
  | .boot | .acquire | .solo | .lead | .shadow => s.on .PAIR_STATUS_ROLE
  | .off | .recovery | .test | .failSilent | .stayDown => false

/-- OVL_FS is driven low in Fail-Silent and Stay-Down alone (Table 15-6). -/
def DevState.failed : DevState → Bool
  | .failSilent | .stayDown => true
  | _ => false

/-- What holds whatever the device has just done, by rules that state no event: ROLE is NONE while PAIR.CFG.EN = 0, and in Test and Recovery (R482); the Overlock outputs follow role
and device state (Table 15-6). -/
def State.settle (s : State) : State :=
  let s := if !s.on .PAIR_CFG_EN || s.dev == .test || s.dev == .recovery then s.setFld .PAIR_STATUS_ROLE 0 0 0 else s
  let s := if s.mayDriveToken then s else s.setFld .PAIR_STATUS_TOKEN_DRV 0 0 0
  { s with pair := { s.pair with fsDrive := s.dev.failed, beatLevel := s.pair.beatLevel && s.on .PAIR_STATUS_ROLE && !s.dev.failed } }

/-- A command completes in a next state. -/
def done (s : State) : Host.Outcome State Fault Refusal := .next s.settle

/-! ## Sub-states -/

def State.pt (s : State) (p : Nat) : PortSt := s.port.get {} p
def State.setPt (s : State) (p : Nat) (v : PortSt) : State := { s with port := s.port.set {} p v }
def State.updPt (s : State) (p : Nat) (f : PortSt → PortSt) : State := s.setPt p (f (s.pt p))
def State.qu (s : State) (q : Nat) : QSt := s.queue.get {} q
def State.setQu (s : State) (q : Nat) (v : QSt) : State := { s with queue := s.queue.set {} q v }
def State.updQu (s : State) (q : Nat) (f : QSt → QSt) : State := s.setQu q (f (s.qu q))
def State.bo (s : State) (b : Nat) : BoltSt := s.bolt.get {} b
def State.updBo (s : State) (b : Nat) (f : BoltSt → BoltSt) : State := { s with bolt := s.bolt.set {} b (f (s.bo b)) }
def State.outU (s : State) (u : Nat) : OutSt := s.time.out.get {} u
def State.setOutU (s : State) (u : Nat) (v : OutSt) : State := { s with time := { s.time with out := s.time.out.set {} u v } }

end Sys2Proof.Machine
end

