-- ==== Sys2Proof/Machine/Frames.lean ====
section
/-!
DEFINITION. Frames as bytes: check sequences, the fields of a header, the tag editor (Table 09-4), lengths, wire times and port rates.
-/
namespace Sys2Proof.Machine

/-! ## Check sequences -/

/-- One bit of a reflected CRC-32 with polynomial `p`. -/
def crcBit (p c : Nat) : Nat := if c % 2 = 1 then (c / 2) ^^^ p else c / 2

/-- One byte of a reflected CRC-32. -/
def crcByte (p c : Nat) (b : Byte) : Nat :=
  let c := c ^^^ b.toNat
  crcBit p (crcBit p (crcBit p (crcBit p (crcBit p (crcBit p (crcBit p (crcBit p c)))))))

/-- A reflected CRC-32 of bytes with initial value and final inversion 0xFFFF_FFFF. -/
def crc32Of (p : Nat) (bs : List Byte) : Nat := (bs.foldl (crcByte p) 0xFFFFFFFF) ^^^ 0xFFFFFFFF

/-- The Ethernet frame check sequence (log entry 10). -/
def fcsOf (bs : List Byte) : Nat := crc32Of 0xEDB88320 bs

/-- The four bytes of a frame's check sequence as they stand behind it. -/
def fcsBytes (bs : List Byte) : List Byte := leBytes 4 (fcsOf bs)

/-- CRC-32C (R119, R430, R470, R487). -/
def crc32c (bs : List Byte) : Nat := crc32Of 0x82F63B78 bs

/-! ## Header fields -/

/-- The 16-bit number at a byte offset. -/
def be16 (d : List Byte) (o : Nat) : Nat := beNat ((d.drop o).take 2)

/-- Bytes `o` to `o + n - 1` of a frame. -/
def slice (d : List Byte) (o n : Nat) : List Byte := (d.drop o).take n

/-- A frame with bytes replaced from an offset on. -/
def putBytes (d : List Byte) (o : Nat) (bs : List Byte) : List Byte := d.take o ++ bs ++ d.drop (o + bs.length)

/-- TPIDs of VLAN tags that the parser and the editor recognise (R102, Table 09-4). -/
def isTpid (t : Nat) : Bool := t == 0x8100 || t == 0x88A8

/-- The number of VLAN tags of a frame, up to two (R102). -/
def vlanTags (d : List Byte) : Nat :=
  if isTpid (be16 d 12) then (if be16 d 16 = 0x8100 then 2 else 1) else 0

/-- Offset of the EtherType after the VLAN tags. -/
def typeOff (d : List Byte) : Nat := 12 + 4 * vlanTags d

/-- Bytes of a header sequence tag at the EtherType, 0 where there is none: R-TAG 0xF1C1, HSR 0x892F (Table 05-3). -/
def headTagKind (d : List Byte) : Nat :=
  if be16 d (typeOff d) = 0xF1C1 then 1 else if be16 d (typeOff d) = 0x892F then 2 else 0

/-- A PRP trailer ends the frame: suffix 0x88FB and an LSDU size that matches (R104). -/
def hasPrp (d : List Byte) : Bool :=
  let n := d.length
  18 + 4 * vlanTags d ≤ n && be16 d (n - 2) == 0x88FB && be16 d (n - 4) % 4096 == n - 12 - 4 * vlanTags d

/-! ## Tag editor (R163 to R166, R288, Table 09-4) -/

/-- Step 1: the SEQ_IN tag or trailer removed, where the frame carries one. -/
def removeSeq (kind : Nat) (d : List Byte) : List Byte :=
  if kind = 3 then (if hasPrp d then d.take (d.length - 6) else d)
  else if kind ≠ 0 ∧ headTagKind d = kind then d.take (typeOff d) ++ d.drop (typeOff d + 6)
  else d

/-- Any header sequence tag removed (R163). -/
def removeHeadTag (d : List Byte) : List Byte :=
  if headTagKind d ≠ 0 then d.take (typeOff d) ++ d.drop (typeOff d + 6) else d

/-- A VLAN tag inserted after the source address. -/
def pushTag (tpid pcp vid : Nat) (d : List Byte) : List Byte :=
  d.take 12 ++ beBytes 2 tpid ++ beBytes 2 (pcp * 8192 + vid) ++ d.drop 12

/-- The outer tag's control field changed by a function. -/
def mapTci (f : Nat → Nat) (d : List Byte) : List Byte :=
  if vlanTags d = 0 then d else putBytes d 14 (beBytes 2 (f (be16 d 14)))

/-- Steps 2 to 6: address, VLAN and priority operations. -/
def editVlan (e : Edit) (pushTpid : Nat) (d : List Byte) : List Byte :=
  let d := match e.actDest with
    | some da =>
      let d := putBytes d 0 (beBytes 6 da)
      if vlanTags d = 0 then pushTag 0x8100 e.newPcp e.newVid d
      else mapTci (fun t => t / 4096 * 4096 + e.newVid % 4096) d
    | none => d
  let d := if e.popVlan && vlanTags d != 0 then d.take 12 ++ d.drop 16 else d
  let d := if e.pushVlan then pushTag pushTpid e.newPcp e.newVid d else d
  let d := if e.setPcp then mapTci (fun t => e.newPcp * 8192 + t % 8192) d else d
  if e.deiMark then mapTci (fun t => t / 8192 * 8192 + 4096 + t % 4096) d else d

/-- A frame padded with zero bytes to a length. -/
def padTo (n : Nat) (d : List Byte) : List Byte := d ++ List.replicate (n - d.length) 0#8

/-- The LSDU size of a frame of `d` bytes without FCS (R165). -/
def lsduSize (d : List Byte) : Nat := d.length - 12 - 4 * vlanTags d

/-- Steps 8 and 9: the SEQ_OUT tag or trailer inserted, LSDU size and padding; `netLan` is NET_ID ++ LAN of the egress port and `lan` its LAN (R164 to R166).
`trailer`: the frame still carries the PRP trailer it came with. -/
def insertSeq (e : Edit) (trailer : Bool) (netLan lan : Nat) (d : List Byte) : List Byte :=
  match e.seqOut, e.num with
  | 1, some n =>
    let d := removeHeadTag d
    padTo 60 (d.take (typeOff d) ++ beBytes 2 0xF1C1 ++ beBytes 2 0 ++ beBytes 2 (n % 65536) ++ d.drop (typeOff d))
  | 2, some n =>
    let d := removeHeadTag d
    let o := typeOff d
    let d := padTo 60 (d.take o ++ beBytes 2 0x892F ++ beBytes 2 0 ++ beBytes 2 (n % 65536) ++ d.drop o)
    putBytes d (o + 2) (beBytes 2 (netLan % 16 * 4096 + lsduSize d % 4096))
  | 3, some n =>
    let d := padTo 60 (if trailer then d.take (d.length - 6) else d)
    d ++ beBytes 2 (n % 65536) ++ beBytes 2 ((if lan = 0 then 0xA else 0xB) * 4096 + (lsduSize d + 6) % 4096) ++ beBytes 2 0x88FB
  | _, _ => padTo 60 d

/-- A frame keeps its PRP trailer past step 1: operations on its tags move no byte of the trailer (R163). -/
def keepsPrp (e : Edit) (d : List Byte) : Bool := e.seqIn != 3 && hasPrp d

/-- The bytes of a frame as the tag editor of egress port `p` builds them, without the FCS. -/
def State.editFrame (s : State) (p : Nat) (fr : FrameRec) : List Byte :=
  let e := fr.edit
  let d := removeSeq e.seqIn fr.data
  let d := editVlan e (if s.on .MAC_TAG_CFG_PUSH_TPID p then 0x88A8 else 0x8100) d
  let d := if s.on .MAC_TAG_CFG_UNTAG_EN p && vlanTags d != 0 && be16 d 14 % 4096 == s.fld .MAC_TAG_CFG_UNTAG_VID p then d.take 12 ++ d.drop 16 else d
  insertSeq e (keepsPrp e fr.data) (2 * s.fld .MEND_PORT_CFG_NET_ID p + s.fld .MEND_PORT_CFG_LAN p) (s.fld .MEND_PORT_CFG_LAN p) d

/-- A source address is a valid OWN_ADDR entry (R168, R169). -/
def State.ownAddr (s : State) (a : Nat) : Bool := (List.range 4).any fun i => s.on .MEND_OWN_ADDR_VALID i && s.fld .MEND_OWN_ADDR_ADDR i == a

/-- SEQ_OUT names a tag and the copy has no number for it (R163). -/
def seqMissing (fr : FrameRec) : Bool := fr.edit.seqOut != 0 && fr.edit.num.isNone

/-! ## Lengths, rates and wire times -/

/-- The stored length of a frame, FCS included (R182). -/
def FrameRec.len (fr : FrameRec) : Nat := fr.data.length + 4

/-- Cells of a frame of `n` stored bytes (R182). -/
def cellsOf (n : Nat) : Nat := (n + 255) / 256

def FrameRec.cells (fr : FrameRec) : Nat := cellsOf fr.len

/-- The egress port, traffic class and local queue of a global queue (R14). -/
def qPort (q : Nat) : Nat := q / 128
def qTc (q : Nat) : Nat := q % 128 / 16
def qLocal (q : Nat) : Nat := q % 128
def boltOf (p : Nat) : Nat := p / 16

/-- The charged length: bytes at the egress MAC with FCS, and the port's overhead (R224). -/
def State.charged (s : State) (p : Nat) (fr : FrameRec) : Nat := (s.editFrame p fr).length + 4 + s.fld .SHTL_PORT_SEL_OVH p

/-- Picoseconds of one byte at the rate that LINK_STATUS.SPEED codes (Table 09-8); 0 with no rate. -/
def bytePs (speed : Nat) : Nat :=
  match speed with
  | 1 => 800000
  | 2 => 8000
  | 3 => 3200
  | 4 => 800
  | 5 => 320
  | _ => 0

/-- Picoseconds of one byte at a port's rate. -/
def State.portBytePs (s : State) (p : Nat) : Nat := bytePs (s.fld .MAC_LINK_STATUS_SPEED p)

/-- The wire time of `n` bytes at a port's rate, in ticks. -/
def State.wireT (s : State) (p n : Nat) : Nat := psT (n * s.portBytePs p)

/-- True on local ports 14 and 15. -/
def multidrop (p : Nat) : Bool := 14 ≤ p % 16

/-- The port's segment runs the Polled Cycle (R291, R300). -/
def State.polled (s : State) (p : Nat) : Bool := multidrop p && s.fld .MAC_MD_CFG_MODE p == 2

/-- The ports of an instance's set that may belong to it (R77): a multidrop port, off the Polled Cycle, only to a BC or TC instance with delay request-response. -/
def State.instPorts (s : State) (d : Nat) : List Nat :=
  (s.ptp.get {} d).ports.filter fun p =>
    !multidrop p || (!s.polled p && (s.fld .TPL_DOM_MAP_INST d == 1 || s.fld .TPL_DOM_MAP_INST d == 3) && s.on .TPL_DOM_MAP_DELAY d)

/-- True on local ports 0 and 1. -/
def trunk (p : Nat) : Bool := p % 16 < 2

/-- The lane of a port that has one (Table 09-1). -/
def laneOf (p : Nat) : Nat :=
  let l := p % 16
  if l < 2 then l else if l < 6 then 2 else if l < 10 then 3 else 4

/-- First local port of a lane (R270). -/
def laneFirst (k : Nat) : Nat := if k < 2 then k else 2 + 4 * (k - 2)

/-- The rate code of a port when its link is up, by its lane's mode (Table 09-1). -/
def State.portSpeed (s : State) (p : Nat) : Nat :=
  if multidrop p then 1
  else
    match s.fld .MAC_LANE_CFG_MODE (boltOf p) (laneOf p) with
    | 1 => 5
    | 2 => 4
    | 3 => 2
    | 4 => 2
    | 5 => 3
    | _ => 0

/-- Grid step in ps, minimum gap in bytes, staging store in 64-byte units and frames, guardian tolerance in ps, by rate code and port kind (Table 08-1). -/
def gridPs (speed : Nat) : Nat :=
  match speed with
  | 1 => 400000
  | 2 => 16000
  | 3 => 12800
  | 4 => 3200
  | 5 => 1280
  | _ => 0

def minGap (speed : Nat) : Nat :=
  match speed with
  | 1 => 12
  | 2 => 10
  | _ => 9

def storeUnits (p : Nat) : Nat := if trunk p then 1024 else if multidrop p then 64 else 256
def storeFrames (p : Nat) : Nat := if trunk p then 128 else if multidrop p then 16 else 64
def guardTolPs (p : Nat) : Nat := if trunk p then 2000 else if multidrop p then 200000 else 4000

/-- The first grid point at or after a domain time (R238): points lie at whole steps from each domain second. -/
def gridUp (gPs t : Nat) : Nat :=
  if gPs = 0 then t
  else
    let sec := t / secT
    let off := t % secT
    let k := (off * 1000 + gPs * 2 ^ 40 - 1) / (gPs * 2 ^ 40)
    if k * gPs < 1000000000000 then sec * secT + (k * gPs * 2 ^ 40 + 999) / 1000 else (sec + 1) * secT

end Sys2Proof.Machine
end

