-- ==== Sys2Proof/Machine/IntcOps.lean ====
section
/-!
DEFINITION. Operations of the interrupt controller (chapter 13): targets, delivery, claims, the return of sources whose holder is lost.
-/
namespace Sys2Proof.Machine

/-- A service-core pair's state. -/
def State.core (s : State) (k : Nat) : CoreSt := s.intc.core.get {} k
def State.setCore (s : State) (k : Nat) (v : CoreSt) : State := { s with intc := { s.intc with core := s.intc.core.set {} k v } }

/-- A host function's state. -/
def State.pfn (s : State) (f : Nat) : PfSt := s.intc.pf.get {} f
def State.setPfn (s : State) (f : Nat) (v : PfSt) : State := { s with intc := { s.intc with pf := s.intc.pf.set {} f v } }

/-- A vector's MSI-X table entry. -/
def State.vecE (s : State) (v : Nat) : Vec := s.intc.vec.get {} v
def State.setVecE (s : State) (v : Nat) (x : Vec) : State := { s with intc := { s.intc with vec := s.intc.vec.set {} v x } }

/-- Pair k is enabled: CORE_CFG.EN = 1 and Thimble has not stopped it (R421, R423). -/
def State.pairOn (s : State) (k : Nat) : Bool := s.on .INTC_CORE_CFG_EN k && !(s.core k).stopped

/-- Sources that pair k holds in a delivery state. -/
def State.heldBy (s : State) (k st : Nat) : List Nat :=
  (s.intc.src.filter fun e => e.2.dstate == st && !e.2.toVector && e.2.holder / 2 == k).map (·.1)

/-- Priority of a source (R408). -/
def State.prio (s : State) (n : Nat) : Nat := s.fld .INTC_SRC_CFG_PRIO n

/-- The running priority of pair k: the highest priority it holds in IN_SERVICE, or none (R411). -/
def State.runPrio (s : State) (k : Nat) : Option Nat :=
  match s.heldBy k 2 with
  | [] => none
  | l => some ((l.map s.prio).foldl max 0)

/-- A source returns to NONE: an edge source has PENDING set where `again`, a level source pends again while asserted (R410, R421). -/
def State.toNone (s : State) (n : Nat) (again : Bool) : State :=
  let s := s.setSrc n {}
  if srcEdge n then (if again then s.pendSet n else s)
  else if s.asserted n then s.pendSet n else s

/-- Every source that pair k holds returns to NONE (R421). -/
def State.releasePair (s : State) (k : Nat) : State :=
  (s.heldBy k 1 ++ s.heldBy k 2).foldl (fun a n => a.toNone n true) s

/-- Thimble stops a pair until reset (R421, R468). -/
def State.stopPair (s : State) (k : Nat) : State :=
  (s.setCore k { s.core k with stopped := true }).releasePair k

/-- The function that owns a vector: the Pattern gives each function one contiguous range (R329, R412). -/
def State.vecPf (s : State) (v : Nat) : Option Nat :=
  (List.range 8).find? fun f => decide ((s.pfn f).vecLo ≤ v) && decide (v < (s.pfn f).vecLo + (s.pfn f).vecN)

/-- The vector can send: its function's MSI-X Enable is 1, and neither mask applies (R412). -/
def State.vecCan (s : State) (v : Nat) : Bool :=
  match s.vecPf v with
  | some f => (s.pfn f).msixEn && !(s.pfn f).fnMask && !(s.vecE v).mask
  | none => false

/-- The enable bit of a source (R416). -/
def State.srcOn (s : State) (n : Nat) : Bool := (s.fld .INTC_ENABLE_EN (n / 32)).testBit (n % 32)

/-- The pair that a source delivered to a core goes to, and whether by the fallback (R408, R421); `none` where no pair is enabled. -/
def State.corePick (s : State) (target : Nat) : Option (Nat × Bool) :=
  let t := target % 16 / 2
  let fb := s.fld .INTC_CTRL_FALLBACK / 2
  if s.pairOn t then some (t, false) else if s.pairOn fb then some (fb, true) else none

/-- A source with an enable bit and a target kind may be delivered: pending, NONE, the controller enabled (R410); in Fail-Silent only THIM sources go, and only to
pairs (R478). -/
def State.deliverableAs (s : State) (n : Nat) (enabled : Bool) (tkind : Nat) : Bool :=
  srcUsed n && (s.fld .INTC_PENDING_PEND (n / 32)).testBit (n % 32) && enabled
    && (s.src n).dstate == 0 && (tkind == 1 || tkind == 2) && s.on .INTC_CTRL_EN
    && (s.dev != .failSilent || (n == 1024 && tkind == 1))

/-- A source may be delivered as it is configured now. -/
def State.deliverable (s : State) (n : Nat) : Bool := s.deliverableAs n (s.srcOn n) (s.fld .INTC_SRC_CFG_TKIND n)

/-- What a source was before a write less than 64 ns ago (R414). -/
def State.lateCfg (s : State) (n : Nat) : Option SrcOld := (s.intc.old.get none n).filter fun o => decide (s.lNow < o.upto)

/-- A pair is interrupted: its own mask is clear, and it holds in DELIVERED a source of a priority of at least THRESH and above its running priority (R424). -/
def State.interrupted (s : State) (k : Nat) : Bool :=
  !(s.core k).mask && (s.heldBy k 1).any fun n => decide (s.fld .INTC_CORE_CFG_THRESH k ≤ s.prio n) &&
    (match s.runPrio k with
     | some r => decide (r < s.prio n)
     | none => true)

/-- The bits of a word of sources that exist: a write to another is ignored (R406). -/
def usedBits (word v : Nat) : Nat := ((List.range 32).map fun b => if v.testBit b && srcUsed (32 * word + b) then 2 ^ b else 0).sum

/-- A pair in REST returns to RUN (R423). -/
def State.wake (s : State) (k : Nat) : State := s.setCore k { s.core k with rest := false }

/-- Delivery of a source under an enable bit, a target kind and a target (R410, R420, R421). -/
def State.deliverAs (s : State) (n : Nat) (enabled : Bool) (tkind target : Nat) : State :=
  if !s.deliverableAs n enabled tkind then s
  else if tkind == 2 then (s.pendClear n).setSrc n ⟨1, target, true⟩
  else
    match s.corePick target with
    | none => s.event .INTC_EVENT_NO_TARGET
    | some (k, fb) =>
      let s := ((s.pendClear n).setSrc n ⟨1, 2 * k, false⟩).bump (devWord (208 + k))
      let s := if fb then (s.event .INTC_EVENT_FALLBACK).bump (devWord (224 + k)) else s
      s.wake k

/-- Delivery of a source (R410): as it is configured now, or, within 64 ns of a write of its configuration, once as it was before (R414); which is a free value (log entry 118). -/
def State.deliver (s : State) (n : Nat) : State :=
  match s.lateCfg n with
  | none => s.deliverAs n (s.srcOn n) (s.fld .INTC_SRC_CFG_TKIND n) (s.fld .INTC_SRC_CFG_TARGET n)
  | some o =>
    let (g, s) := s.draw
    if g % 2 = 0 then s.deliverAs n (s.srcOn n) (s.fld .INTC_SRC_CFG_TKIND n) (s.fld .INTC_SRC_CFG_TARGET n)
    else ({ s with intc := { s.intc with old := s.intc.old.set none n none } }).deliverAs n o.enabled o.tkind o.target

/-- The source that a claim of pair k would return: DELIVERED, the highest priority above the running priority, lowest number on a tie (R411). -/
def State.claimPick (s : State) (k : Nat) : Option Nat :=
  let ok := (s.heldBy k 1).filter fun n =>
    match s.runPrio k with
    | some r => decide (r < s.prio n)
    | none => true
  ok.foldl (fun best n =>
    match best with
    | none => some n
    | some m => if s.prio m < s.prio n ∨ (s.prio n = s.prio m ∧ n < m) then some n else some m) none

end Sys2Proof.Machine
end

