-- ==== Sys2Proof/Machine/HifOps.lean ====
section
/-!
DEFINITION. Operations of the host interface (chapter 11) that frames and DMA channels share: host writes, completion queues, ring completions.
-/
namespace Sys2Proof.Machine

/-- A 32-bit free-running index (R333). -/
def idx32 (n : Nat) : Nat := n % 2 ^ 32

/-- An unsigned 32-bit difference (R338). -/
def diff32 (a b : Nat) : Nat := (a + 2 ^ 32 - b % 2 ^ 32) % 2 ^ 32

/-! ## Host writes (R330, R365) -/

/-- A memory request with the requester ID of a function; held back while its Bus Master Enable is 0 (R330). -/
def State.hostReq (s : State) (pf : Nat) (o : Out) : State :=
  if (s.pfn pf).busMaster then s.emit o else { s with hif := { s.hif with stalled := s.hif.stalled ++ [(pf, o)] } }

/-- `n` bytes from an address on, cut into requests of at most `m` bytes, none of which crosses a multiple of 4 KiB (R326, log entry 16). -/
def hostPieces (m : Nat) : (fuel addr n : Nat) → List (Nat × Nat)
  | 0, _, _ => []
  | f + 1, addr, n =>
    let k := min n (min m (4096 - addr % 4096))
    if n = 0 then [] else (addr, k) :: hostPieces m f (addr + k) (n - k)

/-- Max_Payload_Size, up to 512 bytes, and Max_Read_Request_Size, up to 4,096 bytes, of a function (R326). -/
def State.payloadSize (s : State) (pf : Nat) : Nat := 128 * 2 ^ min 2 (s.pfn pf).maxPayload
def State.readSize (s : State) (pf : Nat) : Nat := 128 * 2 ^ min 5 (s.pfn pf).maxRead

/-- A write to host memory (R326, R330). -/
def State.hostPut (s : State) (pf addr attr : Nat) (bytes : List Byte) : State :=
  (hostPieces (s.payloadSize pf) bytes.length addr bytes.length).foldl
    (fun a e => a.hostReq pf (.hostWrite pf e.1 attr ((bytes.drop (e.1 - addr)).take e.2))) s

/-- A read of host memory (R326, R330). -/
def State.hostGet (s : State) (pf addr attr n : Nat) : State :=
  (hostPieces (s.readSize pf) n addr n).foldl (fun a e => a.hostReq pf (.hostRead pf e.1 attr e.2)) s

/-- A zero-length read (R330, R364, R387). -/
def State.hostFlush (s : State) (pf addr : Nat) : State := s.hostReq pf (.hostFlush pf addr)

/-- The attributes of a write: Relaxed Ordering on payload, No-Snoop (R360, R363). -/
def hostAttr (relaxed noSnoop : Bool) : Nat := b2n relaxed + 2 * b2n noSnoop

/-- Bus Master Enable becomes 1: the requests held back go out (R330). -/
def State.busMasterOn (s : State) (pf : Nat) : State :=
  let mine := s.hif.stalled.filter fun e => e.1 == pf
  let s := s.setPfn pf { s.pfn pf with busMaster := true }
  mine.foldl (fun a e => a.emit e.2) { s with hif := { s.hif with stalled := s.hif.stalled.filter fun e => e.1 != pf } }

/-! ## Completion queues (R350 to R355) -/

def State.cq (s : State) (c : Nat) : CqSt := s.hif.cq.get {} c
def State.setCq (s : State) (c : Nat) (x : CqSt) : State := { s with hif := { s.hif with cq := s.hif.cq.set {} c x } }

/-- The number of records of a queue. -/
def State.cqSize (s : State) (c : Nat) : Nat := 2 ^ s.fld .HIF_CQ_CFG_SIZE_LOG2 c

/-- PI − CI of a queue. -/
def State.cqUsed (s : State) (c : Nat) : Nat := diff32 (s.fld .HIF_CQ_STATUS_PI c) (s.fld .HIF_CQ_DB_CI c)

/-- The queue has room for one more reservation (R355). -/
def State.cqRoom (s : State) (c : Nat) : Bool :=
  decide ((s.cq c).held.length + (s.cq c).reserved + s.cqUsed c < s.cqSize c + 16)

/-- One place reserved (R355). -/
def State.cqReserve (s : State) (c : Nat) : State := s.setCq c { s.cq c with reserved := (s.cq c).reserved + 1 }

/-- A place released. -/
def State.cqRelease (s : State) (c : Nat) : State := s.setCq c { s.cq c with reserved := (s.cq c).reserved - 1 }

/-- The condition of R354: armed, and the count or the age reached. -/
def State.cqRaise (s : State) (c : Nat) : State :=
  let x := s.cq c
  if x.armed && decide (0 < x.pend) && (decide (max 1 (s.fld .HIF_CQ_CFG_MOD_COUNT c) ≤ x.pend)
      || decide (x.oldest + s.fld .HIF_CQ_CFG_MOD_TIME c * 1000 * nsT ≤ s.lNow)) then
    (s.setCq c { x with armed := false, pend := 0 }).pendSet (s.fld .HIF_CQ_CFG_SRC c)
  else s

/-- A pending entry of the queue (R354). -/
def State.cqCount (s : State) (c : Nat) : State :=
  let x := s.cq c
  (s.setCq c { x with pend := x.pend + 1, oldest := if x.pend = 0 then s.lNow else x.oldest }).cqRaise c

/-- A record is written to host memory at PI with its PHASE, bytes 8 to 15 after bytes 0 to 7 (R336, R350, R363); FULL on reaching the size (R355). -/
def State.cqPut (s : State) (c rec : Nat) : State :=
  let pi := s.fld .HIF_CQ_STATUS_PI c
  let size := s.cqSize c
  let rec' := rec + (pi / size + 1) % 2 * 2 ^ 127
  let a := s.fld .HIF_CQ_BASE_BASE c * 4096 + pi % size * 16
  let pf := s.fld .HIF_CQ_CFG_PF c
  let at' := hostAttr false (s.on .HIF_CQ_CFG_NO_SNOOP c)
  let s := (s.hostPut pf a at' (leBytes 8 rec')).hostPut pf (a + 8) at' (leBytes 8 (rec' / 2 ^ 64))
  let s := s.setFld .HIF_CQ_STATUS_PI c 0 (idx32 (pi + 1))
  let s := if s.cqUsed c = size then (s.setFld .HIF_CQ_STATUS_FULL c 0 1).event .HIF_EVENT_CQ_FULL else s
  s.cqCount c

/-- A record for a queue: written, or held on die while the queue is full (R355). -/
def State.cqWrite (s : State) (c rec : Nat) : State :=
  if !s.on .HIF_CQ_CFG_EN c then s
  else if s.cqUsed c = s.cqSize c ∨ !(s.cq c).held.isEmpty then s.setCq c { s.cq c with held := (s.cq c).held ++ [rec] }
  else s.cqPut c rec

/-- Held records are written in order as CI advances (R355). -/
def State.cqDrain (s : State) (c : Nat) : State :=
  let s := if s.cqUsed c < s.cqSize c then s.setFld .HIF_CQ_STATUS_FULL c 0 0 else s
  (s.cq c).held.foldl (fun a rec =>
    if a.cqUsed c < a.cqSize c then (a.setCq c { a.cq c with held := (a.cq c).held.tail }).cqPut c rec else a) s

/-! ## Rings (R331 to R336) -/

def State.ring (s : State) (r : Nat) : RingSt := s.hif.ring.get {} r
def State.setRing (s : State) (r : Nat) (x : RingSt) : State := { s with hif := { s.hif with ring := s.hif.ring.set {} r x } }

def State.ringSize (s : State) (r : Nat) : Nat := 2 ^ s.fld .HIF_RING_CFG_SIZE_LOG2 r
def State.ringPf (s : State) (r : Nat) : Nat := s.fld .HIF_RING_CFG_PF r
def State.ringState (s : State) (r : Nat) : Nat := s.fld .HIF_RING_STATUS_STATE r

/-- The attributes of a ring's writebacks and Ledger words (R360, R363). -/
def State.ringAttr (s : State) (r : Nat) : Nat := hostAttr false (s.on .HIF_RING_CFG_NO_SNOOP r)

/-- Address of the descriptor at an index (R331). -/
def State.descAddr (s : State) (r i : Nat) : Nat := s.fld .HIF_RING_BASE_BASE r * 4096 + i % s.ringSize r * 32

/-- The read of the descriptor at an index (R341, R345, R360). -/
def State.descGet (s : State) (r i : Nat) : State := s.hostGet (s.ringPf r) (s.descAddr r i) (s.ringAttr r) 32

/-- The PHASE that the device writes for an index (R336). -/
def State.devPhase (s : State) (r i : Nat) : Nat := (i / s.ringSize r + 1) % 2

/-- CI advances over a contiguous run of published completions (R334). -/
def advanceCi : Nat → Nat → List Nat → Nat × List Nat
  | 0, ci, pub => (ci, pub)
  | n + 1, ci, pub => if pub.contains ci then advanceCi n (idx32 (ci + 1)) (pub.filter (· ≠ ci)) else (ci, pub)

/-- The Ledger word is written (R356). -/
def State.ledgerPut (s : State) (r : Nat) : State :=
  let a := s.fld .HIF_LEDGER_ADDR_ADDR (s.fld .HIF_RING_CFG_LEDGER r) * 4
  (s.hostPut (s.ringPf r) a (s.ringAttr r) (leBytes 4 (s.fld .HIF_RING_STATUS_CI r))).setRing r { s.ring r with ledgerDirty := false, ledgerL := some s.lNow }

/-- The Ledger word may be written: LEDGER_HOLDOFF has passed since the last write (R356). -/
def State.ledgerDue (s : State) (r : Nat) : Bool :=
  match (s.ring r).ledgerL with
  | none => true
  | some t => decide (t + s.fld .HIF_CFG_LEDGER_HOLDOFF * nsT ≤ s.lNow)

/-- Completions of descriptors are published (R334); a Ledger ring publishes CI (R356). -/
def State.publish (s : State) (r : Nat) (idxs : List Nat) : State :=
  let x := s.ring r
  let old := s.fld .HIF_RING_STATUS_CI r
  let l := x.pub ++ idxs
  let (ci, pub) := advanceCi l.length old l
  let s := (s.setRing r { x with pub := pub }).setFld .HIF_RING_STATUS_CI r 0 ci
  if s.fld .HIF_RING_CFG_COMP r = 2 ∧ ci ≠ old then
    (if s.ledgerDue r then s.ledgerPut r else s.setRing r { s.ring r with ledgerDirty := true })
  else s

/-- Word of Table 16-6 that a completion status counts in. -/
def statusWord (rx : Bool) (status : Nat) : Nat :=
  match status with
  | 0 => 0
  | 1 => 1
  | 2 => 4
  | 3 => 1
  | 4 => 2
  | 5 => 3
  | 7 => 6
  | _ => if rx then 5 else 5

/-- A completion is counted, and a status other than OK is latched (R356, Table 11-12). -/
def State.ringStatus (s : State) (r status idx : Nat) : State :=
  let s := s.bump (ringWord r (statusWord (decide (8192 ≤ r)) status))
  if status = 0 then s else s.setFlds r 0 [(.HIF_RING_STATUS_ERR, status), (.HIF_RING_STATUS_ERR_SEEN, 1), (.HIF_RING_STATUS_ERR_IDX, idx)]

/-- A 256-bit writeback in place of a descriptor: bytes 24 to 31, with PHASE, after bytes 0 to 23 (R363). -/
def State.putBack (s : State) (r i w : Nat) : State :=
  let w := w + s.devPhase r i * 2 ^ 255
  let a := s.descAddr r i
  (s.hostPut (s.ringPf r) a (s.ringAttr r) (leBytes 24 w)).hostPut (s.ringPf r) (a + 24) (s.ringAttr r) (leBytes 8 (w / 2 ^ 192))

/-- Seconds, nanoseconds and fraction of a time at their places in a 256-bit writeback. -/
def tsBits (dom t : Nat) : Nat := 2 ^ 248 + dom * 2 ^ 245 + secOf t % 2 ^ 48 * 2 ^ 80 + nsOf t * 2 ^ 50 + fracOf t * 2 ^ 34

/-- SOP and EOP of the `n` descriptors of a whole frame (Table 11-9). -/
def wholeMarks (n : Nat) : List (Bool × Bool) := (List.range n).map fun k => (k == 0, k + 1 == n)

/-- The writebacks of a transmit frame, SOP and EOP copied from its descriptors (Table 11-3). -/
def State.txBack (s : State) (r first : Nat) (marks : List (Bool × Bool)) (status dom : Nat) (ts : Option Nat) : State :=
  (marks.zipIdx).foldl (fun a e =>
    a.putBack r (idx32 (first + e.2)) (status * 2 ^ 251 + b2n e.1.1 * 2 ^ 250 + b2n e.1.2 * 2 ^ 249 +
      (match ts with | some t => if e.1.2 then tsBits dom t else 0 | none => 0))) s

/-- The completion record of a transmit frame (Table 11-8). -/
def txRecord (r idx status dom : Nat) (ts : Option Nat) : Nat :=
  status * 2 ^ 120 + r * 2 ^ 106 + idx % 65536 * 2 ^ 90 +
    (match ts with
     | some t => secOf t % 8192 * 2 ^ 77 + nsOf t * 2 ^ 47 + fracOf t * 2 ^ 31 + 2 ^ 30 + dom * 2 ^ 27
     | none => 0)

/-- The completion of transmit descriptors by the ring's mode (R335, R342, R351, R354). -/
def State.txComplete (s : State) (r first : Nat) (marks : List (Bool × Bool)) (status dom : Nat) (ts barrier : Option Nat) : State :=
  let n := marks.length
  let last := idx32 (first + n - 1)
  let s := match barrier with
    | some a => s.hostFlush (s.ringPf r) a
    | none => s
  let c := s.fld .HIF_RING_CFG_CQ r
  let s := match s.fld .HIF_RING_CFG_COMP r with
    | 0 => s.txBack r first marks status dom ts
    | 1 => (s.cqRelease c).cqWrite c (txRecord r last status dom ts)
    | _ => s
  let s := s.publish r ((List.range n).map fun k => idx32 (first + k))
  let s := if s.fld .HIF_RING_CFG_COMP r ≠ 1 ∧ s.on .HIF_RING_CFG_NOTIFY r then s.cqCount c else s
  s.ringStatus r status (last % 65536)

/-- The fate of an admitted host frame is final (R342): nothing is written for a frame whose function was reset since (R370), nor in
Fail-Silent, where every ring stops (R477). -/
def State.txFinal (s : State) (r first status : Nat) (ts : Option Nat) : State :=
  match (s.ring r).flying.find? fun f => s.alive && f.first == first with
  | none => s
  | some f =>
    let s := s.setRing r { s.ring r with flying := (s.ring r).flying.filter fun g => g.first != first }
    s.txComplete r first (wholeMarks f.n) status f.dom (if f.act = 0 then none else ts) f.barrier

/-- The final fate of a frame that came from a host ring. -/
def State.hostFate (s : State) (fr : FrameRec) (status : Nat) (ts : Option Nat := none) : State :=
  match fr.src with
  | .ring r first => s.txFinal r first status ts
  | _ => s

end Sys2Proof.Machine
end

