-- ==== Sys2Proof/Machine/Egress.lean ====
section
/-!
DEFINITION. Operations on egress queues, cells, paths and the staging store: admission, discards, freeing of cells, flow control frames, the fates of chalked copies.
-/
namespace Sys2Proof.Machine

/-! ## Chalk (R524): the fate of a chalked copy becomes final -/

/-- The source code of a Chalk record (Table 16-11). -/
def FrameSrc.code : FrameSrc → Nat
  | .port p => p
  | .ring _ _ => 128
  | .pub _ => 129
  | .service => 129

/-- The 64-byte Chalk record of a frame (Table 16-11). -/
def chalkRecord (fr : FrameRec) (fate step reason scope dest queue flags tOut : Nat) : List Byte :=
  [0xC1#8] ++ leBytes 1 fate ++ leBytes 1 step ++ leBytes 1 reason ++ leBytes 2 fr.src.code ++ leBytes 2 dest
    ++ leBytes 4 (match fr.stream with | some n => 2 ^ 31 + n | none => 0)
    ++ leBytes 2 queue ++ leBytes 1 (fr.colour * 64 + fr.dp) ++ leBytes 1 fr.copy ++ leBytes 2 fr.len
    ++ leBytes 2 (fr.seq.getD 0) ++ leBytes 1 (b2n fr.seq.isSome + 2 * b2n fr.preempted + flags + 16 * scope)
    ++ leBytes 3 0 ++ leBytes 8 fr.tIn ++ leBytes 8 tOut ++ padTo 24 (fr.data.take 24)

/-- The fate of a chalked copy is final: its record waits to be written (R524, R525). -/
def State.fate (s : State) (fr : FrameRec) (fate step reason scope dest queue : Nat) (flags : Nat := 0) (tOut : Option Nat := none) : State :=
  if fr.chalk && s.on .TAPE_CTRL_CHALK_RUN then
    { s with tape := { s.tape with fates := s.tape.fates ++ [chalkRecord fr fate step reason scope dest queue flags (tOut.getD s.lNs)] } }
  else s

/-- A count that the rules ask for and for which no table gives a word (R101; log entry 79). -/
def State.countNoWord (s : State) (kind : Nat) (src : FrameSrc) : State :=
  let k := 256 * kind + src.code
  { s with tape := { s.tape with noWord := s.tape.noWord.set 0 k (s.tape.noWord.get 0 k + 1) } }

/-! ## Accounts (R186, R187, R191) -/

/-- The size of a Bolt's shared pool (06.3). -/
def State.sharedSize (s : State) (b : Nat) : Nat :=
  32768 - s.fld .SHTL_BUF_CTRL_RSV_CTRL_RSV b - ((List.range 16).map fun l => s.fld .SHTL_PORT_BUF_SCHED_RSV (16 * b + l)).sum

/-! ## PAUSE and PFC frames (R286, R287) -/

/-- A MAC control frame of 60 bytes before its FCS: PAUSE (opcode 1) or PFC (opcode 0x0101). -/
def State.ctrlFrame (s : State) (p : Nat) (pfc : Bool) (classes quanta : Nat) : List Byte :=
  padTo 60 (beBytes 6 0x0180C2000001 ++ beBytes 6 (s.fld .MAC_ADDR_ADDR p) ++ beBytes 2 0x8808 ++
    (if pfc then beBytes 2 0x0101 ++ beBytes 2 classes ++ ((List.range 8).map fun t => if classes.testBit t then beBytes 2 quanta else beBytes 2 0).flatten
     else beBytes 2 1 ++ beBytes 2 quanta))

/-- A control frame waits at a port and replaces one that waits (R287). -/
def State.queueCtrl (s : State) (p : Nat) (bs : List Byte) : State :=
  s.updPt p fun x => { x with mac := { x.mac with ctrl := some bs } }

/-- Received PAUSE is obeyed under the resolution of R277, which governs only 1000BASE-X with auto-negotiation; a multidrop port obeys none (R281). -/
def State.pauseRxOk (s : State) (p : Nat) : Bool :=
  !multidrop p && s.fld .MAC_CFG_FC_RX p == 1 &&
    (!(s.fld .MAC_LANE_CFG_MODE (boltOf p) (laneOf p) == 3 && s.on .MAC_CFG_AN_EN p) || (s.pt p).mac.pauseRes)

/-- PAUSE may be sent (R277); FC_TX_CFG is ignored on multidrop ports (R286). -/
def State.pauseTxOk (s : State) (p : Nat) : Bool :=
  !multidrop p && s.fld .MAC_FC_TX_CFG_MODE p == 1 &&
    (!(s.fld .MAC_LANE_CFG_MODE (boltOf p) (laneOf p) == 3 && s.on .MAC_CFG_AN_EN p) || (s.pt p).mac.pauseRes)

/-- A port sends PAUSE or PFC frames (R286). -/
def State.fcMode (s : State) (p : Nat) : Bool :=
  !multidrop p && (s.pauseTxOk p || s.fld .MAC_FC_TX_CFG_MODE p == 2)

/-- The time of half of QUANTA at a port's rate: a quantum is 64 bytes (R281, R286). -/
def State.halfQuanta (s : State) (p : Nat) : Nat := s.wireT p (64 * s.fld .MAC_FC_TX_CFG_QUANTA p) / 2

/-- An XOFF is sent (R286). -/
def State.sendXoff (s : State) (p : Nat) : State :=
  let bs := s.ctrlFrame p (s.fld .MAC_FC_TX_CFG_MODE p == 2) (s.fld .MAC_FC_TX_CFG_CLASSES p) (s.fld .MAC_FC_TX_CFG_QUANTA p)
  (s.queueCtrl p bs).updPt p fun x => { x with mac := { x.mac with xoff := true, xoffNext := s.lNow + s.halfQuanta p } }

/-- An XON is sent once (R286). -/
def State.sendXon (s : State) (p : Nat) : State :=
  let bs := s.ctrlFrame p (s.fld .MAC_FC_TX_CFG_MODE p == 2) (s.fld .MAC_FC_TX_CFG_CLASSES p) 0
  (s.queueCtrl p bs).updPt p fun x => { x with mac := { x.mac with xoff := false } }

/-- The shared pool of some Bolt holds more than a fraction of its size, in 1/64 (R286). -/
def State.poolAbove (s : State) (frac : Nat) : Bool :=
  (List.range 8).any fun b => decide ((s.bo b).sharedUsed > s.sharedSize b * frac / 64)

/-- The XOFF and XON conditions of one port acted on (R286). -/
def State.fcPort (s : State) (p : Nat) : State :=
  if !s.fcMode p then s
  else if !(s.pt p).mac.xoff && s.poolAbove (s.fld .MAC_FC_TX_CFG_XOFF_FRAC p) then s.sendXoff p
  else if (s.pt p).mac.xoff && !s.poolAbove (s.fld .MAC_FC_TX_CFG_XON_FRAC p) then s.sendXon p
  else s

/-- The XOFF and XON conditions acted on at every port, after a change of a shared pool or of a threshold (R286). -/
def State.fcUpdate (s : State) : State := (List.range 128).foldl (fun a p => a.fcPort p) s

/-! ## Cells (R185, R187) -/

/-- Cells taken from or returned to the account of a frame. -/
def State.acctAdd (s : State) (q : Nat) (a : Acct) (c : Int) : State :=
  let p := qPort q
  match a with
  | .ctrl => s.updBo (boltOf p) fun b => { b with ctrlUsed := ((b.ctrlUsed : Int) + c).toNat }
  | .reserve => s.updPt p fun x => { x with rsvUsed := ((x.rsvUsed : Int) + c).toNat }
  | .shared =>
    ((s.updBo (boltOf p) fun b => { b with sharedUsed := ((b.sharedUsed : Int) + c).toNat }).updQu q
      fun x => { x with shared := ((x.shared : Int) + c).toNat })

/-- The free cell that has `r` free cells below it, where the rising list holds the used ones. -/
def nthFree : Nat → List Nat → Nat
  | r, [] => r
  | r, u :: us => if u ≤ r then nthFree (r + 1) us else r

/-- A cell number put in its place. -/
def insertCell (n : Nat) : List Nat → List Nat
  | [] => [n]
  | a :: t => if n < a then n :: a :: t else if n = a then a :: t else a :: insertCell n t

/-- Cells taken for a frame: the specification does not say which free cells it receives, so each is a free choice among them (R185, log entry 111). -/
def State.pickCells (s : State) (b : Nat) : Nat → List Nat × State
  | 0 => ([], s)
  | k + 1 =>
    let (d, s) := s.draw
    let used := (s.bo b).usedCells
    let n := nthFree (d % max 1 (32768 - used.length)) used
    let (l, s) := (s.updBo b fun x => { x with usedCells := insertCell n used }).pickCells b k
    (n :: l, s)

/-- A frame's bytes written into its cells; the last cell keeps what it held beyond the frame's length (R193). -/
def State.fillCells (s : State) (b : Nat) : List Nat → List Byte → State
  | [], _ => s
  | n :: ns, bs =>
    (s.updBo b fun x => { x with cells := x.cells.set [] n (bs.take 256 ++ (x.cells.get [] n).drop (bs.take 256).length) }).fillCells b ns (bs.drop 256)

/-- The cells of a frame return to the free list; they keep their bytes (R185, R193). -/
def State.giveCells (s : State) (fr : FrameRec) : State :=
  s.updBo (boltOf (qPort fr.q)) fun x => { x with usedCells := x.usedCells.filter fun n => !fr.cellNos.contains n }

/-- A frame leaves its queue's depth and its cells return to their account (R185, R187). -/
def State.freeFrame (s : State) (fr : FrameRec) : State :=
  (((s.updQu fr.q fun x => { x with cells := x.cells - fr.cells, nframes := x.nframes - 1 }).acctAdd fr.q fr.acct (-(fr.cells : Int))).giveCells fr).fcUpdate

/-- The sojourn of a frame whose last byte the Selvedge took at an L time (R196). -/
def State.sojourn (s : State) (fr : FrameRec) (l : Nat) : State :=
  s.updQu fr.q fun x => { x with maxSojourn := max x.maxSojourn (satTo 0xFFFFFFFF ((l - fr.admL) / nsT)) }

/-- A frame of a queue is lost after admission: DISCARDED is counted (R511), event 3 of Table 16-8, the fate of a chalked copy, and the completion of a host frame
with `status`, 4 DISCARDED or 8 MEM_ERROR (R342, Table 11-7). -/
def State.lose (s : State) (fr : FrameRec) (step reason scope : Nat) (status : Nat := 4) : State :=
  (((s.bump (queueWord fr.q 2)).pecEvent (qPort fr.q) 3 (some (qTc fr.q)) (qLocal fr.q)).fate fr 3 step reason scope (qPort fr.q) fr.q).hostFate fr status

/-- A frame that still holds its cells is discarded from its queue (R188, R511). -/
def State.discardHeld (s : State) (fr : FrameRec) (step reason scope : Nat) (status : Nat := 4) : State := (s.lose fr step reason scope status).freeFrame fr

/-! ## Scheduled classes (R92, R205, R212, R242) -/

/-- Class `t` is gate-scheduled on port `p` (R205). -/
def State.isSched (s : State) (p t : Nat) : Bool := (s.fld .SHTL_GCL_CFG_SCHED_TC p).testBit t

/-- The port carries its scheduled classes: its schedule domain is in sync as the port has received it, its grid is locked, its list runs, and a Polled Cycle port is in
neither LISTEN nor CLAIM (R312). -/
def State.schedUp (s : State) (p : Nat) : Bool :=
  (s.pt p).inSync && s.on .SELV_GRID_STATUS_LOCKED p && s.on .SHTL_GCL_STATUS_RUNNING p
    && s.fld .MDP_PC_STATUS_STATE p != 1 && s.fld .MDP_PC_STATUS_STATE p != 4

/-! ## Admission (R186, R189, R190) -/

/-- The outcome of an admission. -/
inductive Adm where
  | admitted | disabled | queueLimit | threshold | precedence | outOfSync
deriving DecidableEq, Repr

/-- alpha as numerator of sixteenths: 2^ALPHA (R186). -/
def alphaNum (a : Nat) : Nat := 2 ^ a

/-- dp_limit of R186. -/
def State.dpLimit (s : State) (b d : Nat) : Nat :=
  let sz := s.sharedSize b
  match d with
  | 0 => sz
  | 1 => sz * min 64 (s.fld .SHTL_BUF_RSV_DP_FRAC1 b) / 64
  | 2 => sz * min 64 (s.fld .SHTL_BUF_RSV_DP_FRAC2 b) / 64
  | _ => sz * min 64 (s.fld .SHTL_BUF_RSV_DP_FRAC3 b) / 64

/-- The decision of R186 for a frame of `c` cells and drop precedence `d`; the account it takes where it is admitted. -/
def State.admitTest (s : State) (q c d : Nat) (service : Bool) : Adm × Acct :=
  let p := qPort q
  let b := boltOf p
  let n := qLocal q
  let sched := s.isSched p (qTc q)
  let x := s.qu q
  let sz := s.sharedSize b
  let used := (s.bo b).sharedUsed
  if sched && !s.schedUp p then (.outOfSync, .shared)
  else if (s.pt p).mac.downFlush || !s.on .SHTL_BUF_RSV_RUN b || !s.on .SHTL_Q_CFG_EN p n then (.disabled, .shared)
  else if x.cells + c > min 32768 (s.fld .SHTL_Q_CFG_MAX_CELLS p n) then (.queueLimit, .shared)
  else if service && decide ((s.bo b).ctrlUsed + c ≤ s.fld .SHTL_BUF_CTRL_RSV_CTRL_RSV b) then (.admitted, .ctrl)
  else if sched && decide ((s.pt p).rsvUsed + c ≤ s.fld .SHTL_PORT_BUF_SCHED_RSV p) then (.admitted, .reserve)
  else if x.shared + c > (sz - used) * alphaNum (s.fld .SHTL_Q_CFG_ALPHA p n) / 16 then (.threshold, .shared)
  else if used + c > s.dpLimit b d then (.precedence, .shared)
  else (.admitted, .shared)

/-- Bolt counter of a discard at admission (Table 16-4). -/
def Adm.word : Adm → Nat
  | .disabled => 0
  | .queueLimit => 1
  | .threshold => 2
  | .precedence => 3
  | .outOfSync => 4
  | .admitted => 0

/-- A discard at admission, counted against the queue and by reason against the Bolt (R189). -/
def State.refuse (s : State) (q : Nat) (fr : FrameRec) (a : Adm) : State :=
  let b := boltOf (qPort q)
  let s := ((s.bump (queueWord q 2)).bump (boltWord b a.word)).pecEvent (qPort q) 3 (some (qTc q)) (qLocal q)
  let s := if a = .precedence then s.event .SHTL_BUF_EVENT_PRECEDENCE_DROP b else s
  s.fate fr 3 7 a.word 1 (qPort q) q

/-- The bytes of a frame as its cells hold them: with its FCS (R182). -/
def FrameRec.stored (fr : FrameRec) : List Byte := fr.data ++ fcsBytes fr.data

/-- A frame enters its queue: cells taken and written, depth and largest depth, start tag of a queue whose only frame it is (R182, R185, R195, R196, R232), ADMITTED. -/
def State.enqueue (s : State) (q : Nat) (fr : FrameRec) (a : Acct) : State :=
  let p := qPort q
  let (nos, s) := s.pickCells (boltOf p) fr.cells
  let s := s.fillCells (boltOf p) nos fr.stored
  let fr := { fr with q := q, acct := a, admL := s.lNow, adm := (s.qu q).admitted, cellNos := nos }
  let v := (s.pt p).vt.get 0 (qTc q)
  let s := s.updQu q fun x =>
    let cells := x.cells + fr.cells
    { x with frames := x.frames ++ [fr], cells := cells, nframes := x.nframes + 1, admitted := x.admitted + 1, maxCells := max x.maxCells cells,
             tag := if x.nframes = 0 then v else x.tag }
  let s := (s.acctAdd q a fr.cells).bump (queueWord q 0)
  (s.pecEvent p 1 (some (qTc q)) (qLocal q)).fcUpdate

/-- Admission of a frame copy: admitted, or discarded whole and counted (R186, R189). -/
def State.admitCopy (s : State) (q : Nat) (fr : FrameRec) : Adm × State :=
  let (a, acct) := s.admitTest q fr.cells fr.dp fr.service
  if a = .admitted then (a, s.enqueue q fr acct) else (a, s.refuse q fr a)

/-! ## Discards of staged, path and queued frames -/

/-- Frames that are fully staged by now leave the depth of their queue and free their cells (R185, R196). -/
def State.stagedFree (s : State) (p : Nat) : State :=
  let full (x : Staged) : Bool := x.held && decide (x.fullAt ≤ s.lNow)
  let done' := (s.pt p).staged.filter full
  if done'.isEmpty then s
  else done'.foldl (fun a x => (a.sojourn x.fr x.fullAt).freeFrame x.fr) (s.updPt p fun y => { y with staged := y.staged.map fun x => if full x then { x with held := false } else x })

/-- The frames that are fully staged by now, at every port. -/
def State.stagedDue (s : State) : State := s.port.foldl (fun a e => a.stagedFree e.1) s

/-- A staged frame is discarded, counted as a port counter's word says; one that is not fully staged still holds its cells. -/
def State.loseStaged (s : State) (x : Staged) (reason : Nat) : State := if x.held then s.discardHeld x.fr 9 reason 0 else s.lose x.fr 9 reason 0

/-- Staged frames that satisfy a test are discarded and counted in STAGED_DISCARD (R92, R250, R278). -/
def State.dropStaged (s : State) (p : Nat) (keep : Staged → Bool) : State :=
  let gone := (s.pt p).staged.filter fun x => !keep x
  gone.foldl (fun a x => (a.portCount p 46).loseStaged x 46) (s.updPt p fun x => { x with staged := x.staged.filter keep })

/-- The BEACON staged is discarded as a staged frame is (R250, R278, R302). -/
def State.dropBeacon (s : State) (p : Nat) : State :=
  match (s.pt p).mdp.staged with
  | some (t, _) => (s.updPt p fun x => { x with mdp := { x.mdp with staged := none, beaconAt := some t, beaconWaits := false } }).portCount p 46
  | none => s

/-- A pre-emptable frame is on the wire. -/
def PortSt.sendsPre (x : PortSt) : Bool :=
  match x.tx with
  | some t => t.kind == .preempt
  | none => false

/-- Frames held in a path that are not being sent are discarded (R250, R278). -/
def State.dropPaths (s : State) (p : Nat) : State :=
  let x := s.pt p
  let s := s.updPt p fun y => { y with express := none, retry := none, preempt := if x.sendsPre then y.preempt else none }
  let s := match x.retry with
    | some f => ((s.setFld .MAC_MD_STATUS_ATTEMPTS p 0 0).portCount p 46).discardHeld f.fr 9 46 0
    | none => s
  let s := match x.express with
    | some f => (s.portCount p 46).discardHeld f.fr 9 46 0
    | none => s
  match x.preempt with
  | some f => if x.sendsPre then s else (s.portCount p 46).discardHeld f.fr 9 46 0
  | none => s

/-- Every frame of a queue discarded (R92). -/
def State.dropQueue (s : State) (q : Nat) : State :=
  let fs := (s.qu q).frames
  let s := s.updQu q fun x => { x with frames := [], urgent := none }
  fs.foldl (fun a f => a.discardHeld f 8 2 3) s

/-- A flushed frame leaves its queue's depth at once, and its cells wait for their return (R200). -/
def State.flushFrame (s : State) (q : Nat) (f : FrameRec) : State :=
  let s := s.updQu q fun x => { x with cells := x.cells - f.cells, nframes := x.nframes - 1 }
  let s := s.updPt (qPort q) fun x => { x with flushed := x.flushed ++ [f] }
  (s.lose f 8 5 1).bump (boltWord (boltOf (qPort q)) 5)

/-- The frames of a queue that a path holds and the Selvedge has not begun to take (R185, R198, R200). -/
def PortSt.pathWaits (x : PortSt) (q : Nat) : List PathFrame :=
  (match x.express with
   | some f => if f.fr.q = q then [f] else []
   | none => []) ++
  (match x.preempt with
   | some f => if f.fr.q = q ∧ f.started = false ∧ x.sendsPre = false then [f] else []
   | none => [])

/-- Those frames taken out of their paths. -/
def PortSt.withoutWaits (x : PortSt) (q : Nat) : PortSt :=
  { x with express := if x.express.any fun f => f.fr.q == q then none else x.express,
           preempt := if (x.preempt.any fun f => f.fr.q == q && !f.started) && !x.sendsPre then none else x.preempt }

/-- Every frame of a queue flushed, but for one that the Selvedge has begun to take (R200). -/
def State.flushQueue (s : State) (q : Nat) : State :=
  let fs := ((s.pt (qPort q)).pathWaits q).map (·.fr) ++ (s.qu q).frames
  let s := s.updPt (qPort q) fun x => x.withoutWaits q
  fs.foldl (fun a f => a.flushFrame q f) (s.updQu q fun x => { x with frames := [], urgent := none })

/-- All 128 queues of a port flushed. -/
def State.flushPort (s : State) (p : Nat) : State :=
  (List.range 128).foldl (fun a n => if (a.qu (128 * p + n)).nframes = 0 then a else a.flushQueue (128 * p + n)) s

/-- The flushed cells have returned to the free list (R200). -/
def State.flushReturn (s : State) (p : Nat) : State :=
  let l := (s.pt p).flushed
  (l.foldl (fun a f => (a.acctAdd f.q f.acct (-(f.cells : Int))).giveCells f) (s.updPt p fun x => { x with flushed := [] })).fcUpdate

/-- The discards of R92 on a port: staged and queued frames of its scheduled classes. -/
def State.dropSched (s : State) (p : Nat) : State :=
  let s := s.dropStaged p fun _ => false
  (List.range 8).foldl (fun a t =>
    if a.isSched p t then (List.range 16).foldl (fun b n => if (b.qu (p * 128 + t * 16 + n)).frames.isEmpty then b else b.dropQueue (p * 128 + t * 16 + n)) a
    else a) s

/-! ## Ends of transmissions -/

/-- The kind code of a transmission in the log of the pins. -/
def TxKind.code : TxKind → Nat
  | .staged .. => 0
  | .express => 0
  | .preempt => 1
  | .control => 2
  | .verify => 3
  | .respond => 4
  | .polled => 5

/-- The start delimiter of a transmission, followed by the fragment count of a continuation: SFD, SMD-S and SMD-C with their counts modulo 4, SMD-V and SMD-R (R263, log entry 102). -/
def Tx.start (t : Tx) : List Byte :=
  let pick (l : List Nat) (n : Nat) : List Byte := beBytes 1 (l.getD (n % 4) 0)
  match t.kind with
  | .preempt => if t.path.frags = 0 then pick [0xE6, 0x4C, 0x7F, 0xB3] t.path.no
    else pick [0x61, 0x52, 0x9E, 0x2A] t.path.no ++ pick [0xE6, 0x4C, 0x7F, 0xB3] (t.path.frags - 1)
  | .verify => beBytes 1 0x07
  | .respond => beBytes 1 0x19
  | _ => beBytes 1 0xD5

/-- Bytes of a transmission that have left the port by now, preamble excluded. -/
def State.sentBytes (s : State) (p : Nat) (t : Tx) : Nat :=
  let b := s.wireT p 1
  if b = 0 then 0 else (s.lNow - t.startL + b - 1) / b - 8

/-! ## Slot accounting (R515, R516) -/

def State.slotAcct (s : State) (p : Nat) : SlotAcct := s.tape.slots.get {} p
def State.setSlotAcct (s : State) (p : Nat) (x : SlotAcct) : State := { s with tape := { s.tape with slots := s.tape.slots.set {} p x } }

/-- The length of a port's slot: 512 bit times (R515). -/
def State.slotT (s : State) (p : Nat) : Nat := s.wireT p 64

/-- A transmission has ended: its slots are counted, RETIRED where it ended valid and WASTED otherwise (R516). -/
def State.txEnded (s : State) (p : Nat) (good : Bool) : State :=
  let x := s.slotAcct p
  let s := s.setSlotAcct p { x with tx := 0, lastGood := good }
  if x.tx = 0 then s else s.portCount p (if good then 59 else 60) x.tx

/-- The link leaves UP: a slot left incomplete is not counted (R515). -/
def State.slotsCut (s : State) (p : Nat) : State :=
  let x := s.slotAcct p
  let open' := decide (s.lNow < x.upAt + x.n * s.slotT p)
  s.setSlotAcct p { x with idle := none, tx := x.tx - b2n (open' && x.idle.isNone) }

/-- The transmission under way ends before its end, inverted or truncated, for a reason that is a port counter's word: its frame is lost
(R198, R260, R278, R477, R511). -/
def State.abortTx (s : State) (p : Nat) (reason : Nat := 37) : State :=
  match (s.pt p).tx with
  | none => s
  | some t =>
    let n := s.sentBytes p t
    let s := s.updPt p fun x => { x with tx := none, lastEnd := max s.lNow t.startL }
    let s := s.txEnded p false
    let s := s.emit (.wire p t.kind.code t.start ((t.path.bytes.drop t.path.sent).take n) false)
    match t.kind with
    | .staged .. => s.lose t.path.fr 9 reason 0
    | .express => (s.setFld .MAC_MD_STATUS_ATTEMPTS p 0 0).discardHeld t.path.fr 9 reason 0
    | .preempt => (s.updPt p fun x => { x with preempt := none }).discardHeld t.path.fr 9 reason 0
    | _ => s

/-- A frame put back into its queue: in the order of admission (R181). -/
def insertFrame (fr : FrameRec) : List FrameRec → List FrameRec
  | [] => [fr]
  | a :: t => if fr.adm < a.adm then fr :: a :: t else a :: insertFrame fr t

/-- A frame held in a path that has not started goes back to its queue, to the place that its admission gave it (R181, R285). -/
def State.returnPath (s : State) (f : PathFrame) : State :=
  s.updQu f.fr.q fun x => { x with frames := insertFrame f.fr x.frames }

end Sys2Proof.Machine
end

