-- ==== Sys2Proof/Machine/PinOps.lean ====
section
/-!
DEFINITION. The timed pins (R65, R68, R477, R484, R535, R543, R544): which output units drive, and the level at which a keeper holds a net.
-/
namespace Sys2Proof.Machine

/-- The supply bank of a timed unit: VIO_T0 to VIO_T3 for TIO 0 to 31, VIO_CTL for the PPS pins (Table 17-1). -/
def bankOf (u : Nat) : Nat := if u < 32 then u / 8 else 4

/-- A bank has power (R544). -/
def State.bankOn (s : State) (k : Nat) : Bool := !s.pins.bankOff.testBit k

/-- The device state lets an output unit drive its pin (R68, R477, R484, R535). -/
def DevState.drives (d : DevState) (leadOnly : Bool) : Bool :=
  match d with
  | .off | .failSilent | .stayDown | .recovery => false
  | .boot | .acquire | .shadow => !leadOnly
  | .solo | .lead | .test => true

/-- An output unit drives its pin. -/
def State.drives (s : State) (u : Nat) : Bool :=
  s.fld .TPL_OUT_CFG_MODE u % 3 != 0 && s.dev.drives (s.on .TPL_OUT_CFG_LEAD_ONLY u) && s.bankOn (bankOf u)

/-- The level of an output unit's net: the computed level, inverted where INVERT = 1, or the one that the keeper holds (R65, R543). -/
def State.pinLevel (s : State) (u : Nat) : Bool :=
  if s.drives u then (s.outU u).level != s.on .TPL_OUT_CFG_INVERT u else s.pins.net.get false u

/-- The keepers take over the nets at their present levels: before a change by which units stop driving (R543). -/
def State.holdPins (s : State) : State :=
  { s with pins := { s.pins with net := (List.range 36).foldl (fun t u => t.set false u (s.pinLevel u)) s.pins.net } }

/-- XSPI_RESET_N is held low: in Off, and for 10 µs after the release of RESET_N, at which L time is 0 (R535, R546). -/
def State.xspiReset (s : State) : Bool := s.dev == .off || decide (s.lNow < 10000 * nsT)

/-- The NVM takes commands: 50 µs after the end of its reset (R546). -/
def State.xspiReady (s : State) : Bool := s.dev != .off && decide (60000 * nsT ≤ s.lNow)

/-- CLKREQ_N is driven low: from the release of RESET_N, in every device state except Off (R541). -/
def State.clkreqLow (s : State) : Bool := s.dev != .off

end Sys2Proof.Machine
end

