-- ==== Sys2Proof/Machine/Faults.lean ====
section
/-!
DEFINITION. Thimble (15.3): fault records, their queue and handling, and the entry to Fail-Silent (15.4).
-/
namespace Sys2Proof.Machine

/-- The 64 bits of a fault record (Table 15-4). -/
def FaultRec.word (f : FaultRec) : Nat :=
  2 ^ 63 + f.sev % 4 * 2 ^ 61 + f.sm % 256 * 2 ^ 53 + f.unit % 512 * 2 ^ 44 + f.detail % 4096 * 2 ^ 32 + f.us % 2 ^ 32

/-- Fatal handling is under way: from the detection until the dump is complete or abandoned (R476). -/
def State.fatalHandling (s : State) : Bool := s.thim.fatal.isSome && s.fld .THIM_STATUS_DUMP < 2

/-- The severity under handling (R476). -/
def State.handlingSev (s : State) : Nat := if s.fatalHandling then 3 else s.thim.handling.headD 0

/-- A record is lost and counted (R476). -/
def State.logLost (s : State) : State :=
  (s.setFld .THIM_STATUS_LOST 0 0 (satTo 127 (s.fld .THIM_STATUS_LOST + 1))).event .THIM_EVENT_LOG_OVF

/-- The queue with the newest record of lower severity than Fatal taken out. -/
def dropNewestLower (l : List FaultRec) : List FaultRec :=
  match l.reverse.findIdx? (fun r => decide (r.sev < 3)) with
  | some i => (l.reverse.eraseIdx i).reverse
  | none => l

/-- A record put into the queue of 64; a Fatal record displaces the newest record of lower severity (R474, R476). -/
def State.logRecord (s : State) (r : FaultRec) : State :=
  let q := s.thim.queue
  if q.length < 64 then { s with thim := { s.thim with queue := q ++ [r] } }
  else if r.sev = 3 then ({ s with thim := { s.thim with queue := dropNewestLower q ++ [r] } }).logLost
  else s.logLost

/-- The handling of a new Notice or Degraded record begins at once or waits; a record that was lost has none (R476). -/
def State.beginHandling (s : State) (sev : Nat) (lost : Bool) : State :=
  if lost then s
  else if s.fatalHandling then { s with thim := { s.thim with waiting := s.thim.waiting ++ [sev] } }
  else
    match s.thim.handling with
    | [] => { s with thim := { s.thim with handling := [sev] } }
    | h :: t => if h < sev then { s with thim := { s.thim with handling := sev :: h :: t } }
                else { s with thim := { s.thim with waiting := s.thim.waiting ++ [sev] } }

/-- The dump is abandoned and every service-core pair stops: a Fatal fault during Fatal handling (R476). -/
def State.doubleFatal (s : State) : State :=
  let s := (s.setFld .THIM_STATUS_DUMP 0 0 3).event .THIM_EVENT_DUMP_DONE
  let s := { s with thim := { s.thim with dumpEnd := some s.lNow } }
  (List.range 8).foldl (fun a k => a.stopPair k) s

/-- The entry to Fail-Silent: OVL_FS asserted, OVL_TOKEN released, the beat low, every transmission ended, every output undriven by the device state (R477). -/
def State.enterFailSilent (s : State) (r : FaultRec) : State :=
  let s := s.holdPins
  let s := { s with
    thim := { s.thim with fatal := some r, fatalL := s.lNow, before := s.dev.code, serviceSince := none,
                          fatalDoms := (List.range 8).map s.voted,
                          fatalPace := s.fld .DEV_PACE_EVENT_FLOOR * 256 + s.fld .DEV_PACE_EVENT_LOW },
    dev := .failSilent,
    pair := { s.pair with fsDrive := true, beatLevel := false } }
  let s := s.setFld .PAIR_STATUS_TOKEN_DRV 0 0 0
  (List.range 128).foldl (fun a p => if (a.pt p).tx.isSome then a.abortTx p else a) s

/-- Counter word of a record (Table 16-5). -/
def faultWord (sm sev : Nat) : Nat := if sm = 0 then devWord (162 + (sev - 1)) else devWord (96 + 3 * (sm - 1) + (sev - 1))

/-- A Fatal fault that is handled as one during Fatal handling, so that no dump is written: the supervisor watchdog, and a lockstep mismatch in SP0 (R468, R472). -/
def noDump (sm unit : Nat) : Bool := sm == 17 || (sm == 10 && unit == 0)

/-- A fault reaches Thimble: its record is counted and queued, and its severity's reaction follows (R474 to R477). -/
def State.record (s : State) (sev sm unit detail : Nat) : State :=
  let r : FaultRec := ⟨sev, sm, unit % 512, detail % 4096, s.lUs % 2 ^ 32⟩
  let s := s.bump (faultWord sm sev)
  let again := s.fatalHandling
  let lost := decide (64 ≤ s.thim.queue.length)
  let s := s.logRecord r
  let s := s.setFld .THIM_STATUS_WORST 0 0 (max (s.fld .THIM_STATUS_WORST) sev)
  if sev = 3 then
    let s := if s.dev = .failSilent then s else s.enterFailSilent r
    if again || noDump sm unit then s.doubleFatal else s
  else
    (s.event (if sev = 1 then .THIM_EVENT_NOTICE else .THIM_EVENT_DEGRADED)).beginHandling sev lost

/-- No unit: a value outside the UNIT field. -/
abbrev noUnit : Nat := 512

/-- A fault of severity 1 Notice, 2 Degraded or 3 Fatal, of mechanism `sm` (0 for none) and the unit concerned; DETAIL is the mechanism's own and not stated, a free value, and so is UNIT
where no port, Bolt, pair, domain or lane is concerned, given as `noUnit` (R474, log entry 5). -/
def State.fault (s : State) (sev sm unit : Nat) : State :=
  let (d, s) := s.draw
  let (u, s) := if unit = noUnit then s.draw else (unit, s)
  s.record sev sm (u % 512) d

end Sys2Proof.Machine
end

