-- ==== Sys2Proof/Machine/Gate.lean ====
section
/-!
DEFINITION. Access checks on register accesses: privilege and the Access Window Table (R456 to R459), the restrictions of Fail-Silent (R478), and the effect of a denial.
-/
namespace Sys2Proof.Machine

/-- One entry of the Access Window Table (Table 14-7). -/
def State.awtEntry (s : State) (n : Nat) : Nat := s.boot.awt.get 0 n

/-- The entry is valid, for this BAR and function, and its window holds every byte of the access (R459). -/
def awtCovers (e bar f off len : Nat) : Bool :=
  bit e 127 && bits e 126 125 == bar && bit e (117 + f) && decide (bits e 25 0 ≤ off) && decide (off + len ≤ bits e 57 32 + 1)

/-- The level of a function under PF_PRIV: 1 for P1, 2 for P2 (Table 14-12). -/
def State.pfLevel (s : State) (f : Nat) : Nat := s.fld .BOOT_PF_PRIV_LEVEL / 4 ^ f % 4

/-- The entry's code admits a level: P1 is admitted by 1 or 2, P2 by 2 (R459). -/
def privAdmits (code level : Nat) : Bool := (level == 1 && (code == 1 || code == 2)) || (level == 2 && code == 2)

/-- The lowest-numbered of the 1,024 entries that covers an access (R458, R459). -/
def State.awtFind (s : State) (bar f off len : Nat) : Option Nat :=
  ((List.range 1024).find? fun n => awtCovers (s.awtEntry n) bar f off len).map s.awtEntry

/-- The blocks whose BAR0 reads complete in Fail-Silent (R478). -/
def failSilentReadable (off : Nat) : Bool :=
  decide (off < 0x1_0000) || (decide (0x6_0000 ≤ off) && decide (off < 0x9_0000))

/-- The check of a function that is not PF0 against the Access Window Table (R459). -/
def State.tableAllows (s : State) (write : Bool) (bar off len f : Nat) : Bool :=
  match s.awtFind bar f off len with
  | some e => privAdmits (if write then bits e 114 113 else bits e 116 115) (s.pfLevel f)
  | none => false

/-- In Stay-Down the device answers through the BOOT registers and the NVM buffer window (R447). -/
def stayDownReaches (off : Nat) : Bool :=
  (decide (0x6_0000 ≤ off) && decide (off < 0x7_0000)) || (decide (0x3A0_0000 ≤ off) && decide (off < 0x3A0_1000))

/-- What the device state leaves to the host (R447, R478). -/
def State.stateAllows (s : State) (write : Bool) (bar off : Nat) : Bool :=
  match s.dev with
  | .failSilent => !write && bar == 0 && failSilentReadable off
  | .stayDown => bar == 0 && stayDownReaches off
  | _ => true

/-- An access is allowed (R447, R456, R459, R478). -/
def State.allowed (s : State) (r : Req) (write : Bool) (bar off len : Nat) : Bool :=
  match r with
  | .sp _ => true
  | .pf f => s.stateAllows write bar off && (f.val == 0 || s.tableAllows write bar off len f.val)

/-- A requester exists: PF1 to PF7 exist once BS11 has put the Pattern's configuration space in force; before, and where BS11 was skipped, PF0 is alone
(R438, R442, R447). -/
def State.present (s : State) (r : Req) : Bool :=
  match r with
  | .sp _ => true
  | .pf f => f.val == 0 || s.boot.pcieReady

/-- A function's AER records an error that it reports: bit 20 Unsupported Request, bit 15 Completer Abort (R326, log entry 16). -/
def State.aerNote (s : State) (f n : Nat) : State := s.setPfn f { s.pfn f with aer := (s.pfn f).aer ||| 2 ^ n }

/-- A denial: counted, latched if it is the first since the last read, AWT_DENY set; a denied read completes with Unsupported Request (R459). -/
def State.deny (s : State) (r : Req) (write : Bool) (bar off : Nat) : State :=
  let f := r.num % 8
  let s := (s.bump (devWord (196 + f))).event .BOOT_EVENT_AWT_DENY
  let s := if s.on .BOOT_AWT_DENY_LOG_VALID then s
    else s.setFlds 0 0 [(.BOOT_AWT_DENY_LOG_VALID, 1), (.BOOT_AWT_DENY_LOG_PF, f), (.BOOT_AWT_DENY_LOG_WRITE, b2n write),
      (.BOOT_AWT_DENY_LOG_BAR, bar), (.BOOT_AWT_DENY_LOG_OFFSET, off)]
  if write then s else (s.aerNote f 20).emit (.unsupported r.num)

/-- An access of `len` bytes does its effect if it is allowed, and is denied otherwise. In Off nothing is accessed (R535), and no access comes from a function that is not there. -/
def State.checked (s : State) (r : Req) (write : Bool) (bar off len : Nat) (k : State → State) : State :=
  if s.dev = .off ∨ s.present r = false then s
  else if s.allowed r write bar off len then k s else s.deny r write bar off

/-- The length of a full access to a register (R12). -/
def regLen (reg : Reg) : Nat := if reg.wide then 8 else 4

/-- A checked write of a register instance. -/
def State.writing (s : State) (r : Req) (reg : Reg) (i j : Nat) (k : State → State) : State :=
  s.checked r true 0 (addrOf reg i j) (regLen reg) k

/-- A checked read of a register instance. -/
def State.reading (s : State) (r : Req) (reg : Reg) (i j : Nat) (k : State → State) : State :=
  s.checked r false 0 (addrOf reg i j) (regLen reg) k

end Sys2Proof.Machine
end

