-- ==== Sys2Proof/Machine/Sched.lean ====
section
/-!
DEFINITION. Gate lists as timelines (07.1, 07.2): cycles, intervals and windows of a port's oper list and of the list that waits for its switch, in domain time.
-/
namespace Sys2Proof.Machine

/-! ## Entries (Table 07-1) -/

def eGates (e : Nat) : Nat := bits e 63 56
def eOp (e : Nat) : Nat := bits e 55 54
def eNoHem (e : Nat) : Bool := bit e 53
def eXonly (e : Nat) : Bool := bit e 52
def eLen (e : Nat) : Nat := bits e 31 0

/-- An interval as it runs: index and word of its entry, start and end. -/
structure Span where
  idx : Nat
  ent : Nat
  start : Int
  stop : Int
deriving DecidableEq, Repr

/-- The intervals of a cycle (R208): the last entry runs to the end of the cycle, and the entry in progress at the end is cut there. -/
def spansOf (stop : Int) : Nat → Int → List Nat → List Span
  | _, _, [] => []
  | i, t, [e] => if t < stop then [⟨i, e, t, stop⟩] else []
  | i, t, e :: f :: es =>
    if t < stop then ⟨i, e, t, min (t + (eLen e * nsT : Nat)) stop⟩ :: spansOf stop (i + 1) (t + (eLen e * nsT : Nat)) (f :: es) else []

/-- A cycle: its start, its end and its intervals. -/
structure Cyc where
  start : Int
  stop : Int
  spans : List Span
deriving DecidableEq, Repr

/-- A list with its base and cycle time. -/
structure GList where
  base : Int
  cycle : Int
  ents : List Nat
deriving DecidableEq, Repr

/-- Number of the cycle that contains a time (R208). -/
def GList.k (l : GList) (t : Int) : Int := (t - l.base) / l.cycle

/-- Start of a cycle (R208). -/
def GList.at (l : GList) (k : Int) : Int := l.base + k * l.cycle

/-- A cycle from its start to an end. -/
def GList.cyc (l : GList) (start stop : Int) : Cyc := ⟨start, stop, spansOf stop 0 start l.ents⟩

/-- What a port's list does over time: the running list, when it took over and its extension, the switch that waits, and whether the list halts at its next cycle start (R213). -/
structure Sched where
  cur : Option GList
  tPrev : Int
  ext : Int
  next : Option (Int × GList)
  halt : Bool
deriving DecidableEq, Repr

/-- The cycle of the running list that contains a time before its switch at `tsw` (R217). -/
def GList.before (l : GList) (tPrev ext tsw t : Int) : Cyc :=
  let ks := l.k tsw
  let sk := l.at ks
  if sk ≠ tsw ∧ tsw - sk < ext ∧ tPrev ≤ sk - l.cycle ∧ ks - 1 ≤ l.k t then l.cyc (sk - l.cycle) tsw
  else l.cyc (l.at (l.k t)) (min (l.at (l.k t) + l.cycle) tsw)

/-- The cycle that contains a time, where a list runs then. -/
def Sched.cycleAt (x : Sched) (t : Int) : Option Cyc :=
  match x.next with
  | some (tsw, l) =>
    if tsw ≤ t then some (l.cyc (l.at (l.k t)) (l.at (l.k t) + l.cycle))
    else x.cur.map fun c => c.before x.tPrev x.ext tsw t
  | none => x.cur.map fun c => c.cyc (c.at (c.k t)) (c.at (c.k t) + c.cycle)

/-- Cycles from the one that contains `t` on, through those that start no later than `upto`. -/
def Sched.cycles (x : Sched) : Nat → Int → Int → List Cyc
  | 0, _, _ => []
  | n + 1, t, upto =>
    if upto < t then []
    else
      match x.cycleAt t with
      | some c => if x.halt then [c] else c :: x.cycles n c.stop upto
      | none =>
        match x.next with
        | some (tsw, _) => if t < tsw then x.cycles n tsw upto else []
        | none => []

/-- The shortest cycle of a schedule, at least one tick. -/
def Sched.minCycle (x : Sched) : Nat :=
  let a := match x.cur with
    | some l => l.cycle.toNat
    | none => secT
  let b := match x.next with
    | some (_, l) => l.cycle.toNat
    | none => secT
  max 1 (min a b)

/-- The cycles that run between two times. -/
def Sched.cyclesIn (x : Sched) (t upto : Int) : List Cyc := x.cycles ((upto - t).toNat / x.minCycle + 4) t upto

/-- The interval that contains a time. -/
def Sched.spanAt (x : Sched) (t : Int) : Option (Cyc × Span) :=
  match x.cycleAt t with
  | some c => (c.spans.find? fun p => decide (p.start ≤ t) && decide (t < p.stop)).map fun p => (c, p)
  | none => none

/-- A window of a gate-scheduled class (R209). -/
structure Win where
  cls : Nat
  openT : Int
  closeT : Int
  noHem : Bool
deriving DecidableEq, Repr

/-- The windows of a class among consecutive intervals of one cycle: maximal runs with the gate open (R209). -/
def runsOf (t : Nat) : List Span → List Win
  | [] => []
  | p :: rest =>
    let ws := runsOf t rest
    if (eGates p.ent).testBit t then
      match ws with
      | w :: tl => if w.openT = p.stop then ⟨t, p.start, w.closeT, eNoHem p.ent⟩ :: tl else ⟨t, p.start, p.stop, eNoHem p.ent⟩ :: ws
      | [] => [⟨t, p.start, p.stop, eNoHem p.ent⟩]
    else ws

/-- The windows of a cycle for the classes of a mask, in descending class. -/
def Cyc.windows (c : Cyc) (mask : Nat) : List Win :=
  ([7, 6, 5, 4, 3, 2, 1, 0].map fun t => if mask.testBit t then runsOf t c.spans else []).flatten

/-- A window put in its place: by gate-open time, and in descending class at one gate-open time (R221). -/
def insertWin (w : Win) : List Win → List Win
  | [] => [w]
  | a :: t => if w.openT < a.openT ∨ (w.openT = a.openT ∧ a.cls < w.cls) then w :: a :: t else a :: insertWin w t

/-- The windows between two times, in order. -/
def Sched.windows (x : Sched) (mask : Nat) (t upto : Int) : List Win :=
  (((x.cyclesIn t upto).map fun c => c.windows mask).flatten).foldr insertWin []

/-- The gate of a class stays open from one time to another; before a list runs every gate is open (R212, R223). -/
def Sched.openFor (x : Sched) (c : Nat) (t upto : Int) : Bool :=
  (x.cyclesIn t upto).all fun y => y.spans.all fun p => decide (p.stop ≤ t) || decide (upto ≤ p.start) || (eGates p.ent).testBit c

/-! ## A port's lists -/

/-- The schedule domain of a port (R204), and its time. -/
def State.schedDom (s : State) (p : Nat) : Nat := s.fld .SHTL_GCL_CFG_DOM p
def State.nowD (s : State) (p : Nat) : Nat := s.voted (s.schedDom p)

/-- A value of a port's copy as it has advanced since its last update (R46). -/
def State.sinceCopy (s : State) (c : TimeCopy) (x v : Nat) : Nat := ((v : Int) + c.incs.getD x 0 * ((s.lNow - c.atL) / nsT : Nat)).toNat

/-- The release copy of a timescale at a port: what the port's timestamps and its Selvedge read (R46, R62). -/
def State.relD (s : State) (p x : Nat) : Nat :=
  match (s.pt p).copy with
  | none => s.voted x
  | some c => s.sinceCopy c x (c.vals.getD x 0)

/-- The release copy of a port's schedule domain. -/
def State.nowR (s : State) (p : Nat) : Nat := s.relD p (s.schedDom p)

/-- The guardian's time: its copy of the schedule domain is fed from counter C (R46, R257). -/
def State.nowG (s : State) (p : Nat) : Nat :=
  let d := s.fld .SELV_GUARD_STATUS_DOM p
  match (s.pt p).copy with
  | none => s.cnt d 2
  | some c => if c.gDom = d then s.sinceCopy c d c.gVal else s.cnt d 2

/-- A time of the port's schedule domain as its guardian counts it. -/
def State.toG (s : State) (p : Nat) (t : Int) : Int := t + ((s.nowG p : Int) - s.nowR p)

/-- What a port receives with an update: the voted value and the advance of each timescale, and counter C of the guardian's domain, which the second path may put off by `skew` ps. -/
def State.timeCopy (s : State) (p : Nat) (skew : Int) : TimeCopy :=
  let d := s.fld .SELV_GUARD_STATUS_DOM p
  { atL := s.lNow, vals := (List.range 9).map s.voted, incs := (List.range 9).map s.inc, gDom := d, gVal := ((s.cnt d 2 : Int) + skew * 2 ^ 40 / 1000).toNat }

def State.operBank (s : State) (p : Nat) : Nat := s.fld .SHTL_GCL_STATUS_OPER_BANK p
def State.running (s : State) (p : Nat) : Bool := s.on .SHTL_GCL_STATUS_RUNNING p
def State.switchPending (s : State) (p : Nat) : Bool := s.on .SHTL_GCL_STATUS_PENDING p

/-- Entries of a bank in the Shuttle's or the guardian's copy. -/
def State.bank (s : State) (p b n : Nat) (guard : Bool) : List Nat :=
  let t := if guard then (s.pt p).gcl.gd else (s.pt p).gcl.sh
  (List.range n).map fun i => t.get 0 (1024 * b + i)

/-- Base and cycle times of the oper and the admin configuration, and t_sw. -/
def State.operBase (s : State) (p : Nat) : Nat := timeOf (s.fld .SHTL_GCL_OPER_BASE_SEC_SEC p) (s.fld .SHTL_GCL_OPER_BASE_NS_NS p) (s.fld .SHTL_GCL_OPER_BASE_NS_FRAC p)
def State.operCycle (s : State) (p : Nat) : Nat := timeOf 0 (s.fld .SHTL_GCL_OPER_CYCLE_NS p) (s.fld .SHTL_GCL_OPER_CYCLE_FRAC p)
def State.adminBase (s : State) (p : Nat) : Nat := timeOf (s.fld .SHTL_GCL_ADMIN_BASE_SEC_SEC p) (s.fld .SHTL_GCL_ADMIN_BASE_NS_NS p) (s.fld .SHTL_GCL_ADMIN_BASE_NS_FRAC p)
def State.adminCycle (s : State) (p : Nat) : Nat := timeOf 0 (s.fld .SHTL_GCL_ADMIN_CYCLE_NS p) (s.fld .SHTL_GCL_ADMIN_CYCLE_FRAC p)
def State.tSw (s : State) (p : Nat) : Nat := timeOf (s.fld .SHTL_GCL_CHANGE_SEC_SEC p) (s.fld .SHTL_GCL_CHANGE_NS_NS p) (s.fld .SHTL_GCL_CHANGE_NS_FRAC p)

/-- The schedule of a port, from the Shuttle's or the guardian's copy. -/
def State.sched (s : State) (p : Nat) (guard : Bool := false) : Sched :=
  let b := s.operBank p
  { cur := if s.running p then some ⟨s.operBase p, s.operCycle p, s.bank p b (s.fld .SHTL_GCL_STATUS_OPER_LEN p) guard⟩ else none,
    tPrev := (s.pt p).gcl.tPrev, ext := s.fld .SHTL_GCL_OPER_EXT_EXT p * nsT,
    next := if s.switchPending p then some (s.tSw p, ⟨s.adminBase p, s.adminCycle p, s.bank p (1 - b) (s.fld .SHTL_GCL_CFG_ADMIN_LEN p) guard⟩) else none,
    halt := (s.pt p).gcl.stopReq && s.running p }

/-- The first start of the port's gate cycle at or after a time (R93). -/
def State.cycleFrom (s : State) (p t : Nat) : Option Int := ((s.sched p).cycleAt t).map fun c => if c.start = (t : Int) then c.start else c.stop

/-- A change that may suspend or resume a port's scheduled classes: on suspension the discards of R92, on resumption the first cycle start from then on (R92, R93). -/
def State.withSched (s : State) (p : Nat) (f : State → State) : State :=
  let was := s.schedUp p
  let s := f s
  if was && !s.schedUp p then (s.updPt p fun x => { x with serving := false, resumeAt := none, wins := [], cursor := none }).dropSched p
  else if !was && s.schedUp p then
    let t := s.cycleFrom p (s.nowD p)
    s.updPt p fun x => { x with resumeAt := t }
  else s

end Sys2Proof.Machine
end

