-- ==== Sys2Proof/Machine/Grid.lean ====
section
/-!
DEFINITION. The transmit grid of a port (R238 to R242) and the guard that an event takes effect only in a powered device.
-/
namespace Sys2Proof.Machine

/-- An event in a device that is not in Off (R20, R535). -/
def State.powered (s : State) (k : State → State) : State := if s.dev = .off then s else k s

/-- The port that a port's grid follows: the lane's lowest-numbered local port (R241); a multidrop port has a grid of its own. -/
def gridPort (p : Nat) : Nat := if multidrop p then p else p / 16 * 16 + laneFirst (laneOf p)

/-- The domain that a port's grid follows (R241). -/
def State.gridDom (s : State) (p : Nat) : Nat := s.schedDom (gridPort p)

/-- A domain on which no grid locks: OFF, or UNLOCKED with GM = 0 (R242). -/
def State.gridBarred (s : State) (d : Nat) : Bool := s.domState d == 0 || (s.domState d == 1 && !s.on .TPL_SYNC_CFG_GM d)

/-- A cause unlocks the grid of a port whose link is up (R242): the event flag and the count of each unlock; the lane clock of a trunk or branch port slews until the grid is locked again (R239). -/
def State.gridUnlock (s : State) (p : Nat) : State :=
  if s.fld .SELV_GRID_STATUS_STEP_PS p = 0 then s
  else s.withSched p fun s =>
    (((s.setFlds p 0 [(.SELV_GRID_STATUS_LOCKED, 0),
        (.SELV_GRID_STATUS_SLEWING, b2n (!multidrop p))]).portCount p 58).event .SELV_EVENT_GRID_UNLOCK p)

/-- The grids that follow a domain, or whose port has it as schedule domain, unlock. -/
def State.gridUnlockDom (s : State) (d : Nat) : State :=
  (List.range 128).foldl (fun a p => if s.schedDom p = d ∨ s.gridDom p = d then a.gridUnlock p else a) s

/-- Every grid unlocks: a phase step on TPCLK (R43, R242). -/
def State.gridUnlockAll (s : State) : State := (List.range 128).foldl (fun a p => a.gridUnlock p) s

end Sys2Proof.Machine
end

