-- ==== Sys2Proof/Machine/Intc.lean ====
section
/-!
DEFINITION. The interrupt controller's commands (chapter 13).
-/
namespace Sys2Proof.Machine

/-- The number of a pair's requester, where the requester is a pair. -/
def reqPair : Req → Option Nat
  | .sp k => some k.val
  | .pf _ => none

/-- A claim by pair k (R411, R413): the source claimed, or 4095, which counts as a spurious claim (Table 16-5; log entry 123); a level source no longer
asserted returns to NONE. -/
def State.claim (s : State) (k : Nat) : Nat × State :=
  match s.claimPick k with
  | none => (4095, s.bump (devWord (216 + k)))
  | some n =>
    if !srcEdge n && !s.asserted n then (4095, (s.setSrc n {}).bump (devWord (216 + k)))
    else (n, s.setSrc n { s.src n with dstate := 2 })

/-- A read of CORE_CLAIM[k]: any agent but pair k reads 4095 and claims nothing (R411). -/
def State.readClaim (s : State) (r : Req) (k : Nat) : State :=
  if reqPair r = some k then
    let (v, s) := s.claim k
    s.emit (.reply r.num v)
  else s.emit (.reply r.num 4095)

/-- An EOI of pair k (R411). -/
def State.eoi (s : State) (k id : Nat) : State :=
  let x := s.src id
  if x.dstate = 2 ∧ !x.toVector ∧ x.holder / 2 = k then s.toNone id false else s.event .INTC_EVENT_BAD_EOI

/-- A write of CORE_EOI[k]: reached by the service cores only (R427), and only pair k ends its service (R411). -/
def State.writeEoi (s : State) (r : Req) (k id : Nat) : State :=
  match reqPair r with
  | none => s
  | some j => if j = k then s.eoi k id else s.event .INTC_EVENT_BAD_EOI

/-- The source whose message is issued next: DELIVERED at a vector that can send, in priority order, the lowest number on a tie (R412). -/
def State.msixPick (s : State) : Option Nat :=
  let l := (s.intc.src.filter fun e => e.2.dstate == 1 && e.2.toVector && s.vecCan e.2.holder).map (·.1)
  l.foldl (fun best n =>
    match best with
    | none => some n
    | some m => if s.prio m < s.prio n ∨ (s.prio n = s.prio m ∧ n < m) then some n else some m) none

/-- The message of a source is issued, and the source enters IN_SERVICE (R412). -/
def State.msixIssue (s : State) : State :=
  match s.msixPick with
  | none => s
  | some n =>
    let x := s.src n
    let v := s.vecE x.holder
    (s.setSrc n { x with dstate := 2 }).emit (.msix x.holder v.addr v.data)

/-- An EOI through a host function (R412). -/
def State.hostEoi (s : State) (r : Req) (id : Nat) : State :=
  let x := s.src id
  match r with
  | .pf f => if x.dstate = 2 ∧ x.toVector ∧ s.vecPf x.holder = some f.val then s.toNone id false else s.event .INTC_EVENT_BAD_EOI
  | .sp _ => s.event .INTC_EVENT_BAD_EOI

/-- SW_SET (R419). -/
def State.swSet (s : State) (n : Nat) : State := if 1200 ≤ n ∧ n < 1456 then s.pendSet n else s.event .INTC_EVENT_BAD_CFG

/-- A PENDING word written (R406, R418): bits of unused numbers ignored, level sources asserted in NONE pend again (R410). -/
def State.pendWrite (s : State) (w v : Nat) : State :=
  (List.range 32).foldl (fun a b =>
    let n := 32 * w + b
    if !srcEdge n && a.asserted n && (a.src n).dstate == 0 then a.pendSet n else a) (s.setFld .INTC_PENDING_PEND w 0 (usedBits w v))

/-- Pair k disabled by CORE_CFG.EN = 0 (R421). -/
def State.pairDisable (s : State) (k : Nat) : State := (s.setFld .INTC_CORE_CFG_EN k 0 0).releasePair k

/-- A write of CORE_CFG reaches it from the service cores only (R427). -/
def State.coreOnly (s : State) (r : Req) (k : State → State) : State :=
  match r with
  | .sp _ => k s
  | .pf _ => s

/-- INTERRUPT_DELIVERY (R410). -/
def execInterruptDelivery (n : Fin 4095) (s : State) : Host.Outcome State Fault Refusal := done (s.powered fun s => s.deliver n)
/-- CORE_CLAIM (R411). -/
def execCoreClaim (r : Req) (k : Fin 8) (s : State) : Host.Outcome State Fault Refusal := done (s.reading r .INTC_CORE_CLAIM k 0 fun s => s.readClaim r k)
/-- CORE_EOI (R411). -/
def execCoreEoi (r : Req) (k : Fin 8) (id : BitVec 12) (s : State) : Host.Outcome State Fault Refusal :=
  done (s.writing r .INTC_CORE_EOI k 0 fun s => s.writeEoi r k id.toNat)
/-- MSIX_ISSUE (R412, R478). -/
def execMsixIssue (s : State) : Host.Outcome State Fault Refusal := done (if s.alive then s.msixIssue else s)
/-- HOST_EOI (R412). -/
def execHostEoi (r : Req) (id : BitVec 12) (s : State) : Host.Outcome State Fault Refusal := done (s.writing r .INTC_HOST_EOI 0 0 fun s => s.hostEoi r id.toNat)
/-- SW_SET (R419). -/
def execSwSet (r : Req) (src : BitVec 12) (s : State) : Host.Outcome State Fault Refusal := done (s.writing r .INTC_SW_SET 0 0 fun s => s.swSet src.toNat)
/-- PENDING_WRITE (R418). -/
def execPendingWrite (r : Req) (w : Fin 128) (v : BitVec 32) (s : State) : Host.Outcome State Fault Refusal :=
  done (s.writing r .INTC_PENDING w 0 fun s => s.pendWrite w v.toNat)
/-- DRAIN_READ (R415): returns no earlier than 64 ns after the last write of ENABLE or SRC_CFG. -/
def execDrainRead (r : Req) (s : State) : Host.Outcome State Fault Refusal :=
  done (s.reading r .INTC_DRAIN 0 0 fun s => if s.intc.lastCfg = 0 ∨ s.intc.lastCfg + 64 * nsT ≤ s.lNow then s.emit (.reply r.num 0) else s)
/-- CORE_PAIR_DISABLE (R421). -/
def execCorePairDisable (r : Req) (k : Fin 8) (s : State) : Host.Outcome State Fault Refusal :=
  done (s.writing r .INTC_CORE_CFG k 0 fun s => s.coreOnly r fun s => s.pairDisable k)

end Sys2Proof.Machine
end

