-- ==== Sys2Proof/Machine/Gates.lean ====
section
/-!
DEFINITION. Gate control lists (07.1, 07.2) with the slot tables that switch with them (R304), and the lock of the transmit grid (R239).
-/
namespace Sys2Proof.Machine

def State.updGcl (s : State) (p : Nat) (f : GclSt → GclSt) : State := s.updPt p fun x => { x with gcl := f x.gcl }

/-! ## The state of a Polled Cycle port (Table 10-3) -/

def State.updMdp (s : State) (p : Nat) (f : MdpSt → MdpSt) : State := s.updPt p fun x => { x with mdp := f x.mdp }

/-- State of a Polled Cycle port: 0 OFF, 1 LISTEN, 2 INTEGRATE, 3 FOLLOW, 4 CLAIM, 5 MASTER, 6 STANDBY. -/
def State.pcState (s : State) (p : Nat) : Nat := s.fld .MDP_PC_STATUS_STATE p

/-- A Polled Cycle port enters a state; scheduled classes are suspended in LISTEN and CLAIM (R312). What a slot or a claim left behind ends with the state. -/
def State.setPc (s : State) (p st : Nat) : State :=
  s.withSched p fun s => (s.setFld .MDP_PC_STATUS_STATE p 0 st).updMdp p fun x =>
    { x with claiming := false, claimColls := 0, staged := none, beaconWaits := false, own := none, poll := none, slotOpen := none, slots := [] }

/-- A Polled Cycle port enters OFF (R299). -/
def State.pcOff (s : State) (p : Nat) : State :=
  if s.pcState p = 0 then s
  else ((s.setPc p 0).setFld .MDP_PC_STATUS_ORIGIN p 0 0).updMdp p fun x => { x with beacon := none, handover := false }

/-! ## Classes paused and the start tags of queues that become eligible again (R232, R282) -/

/-- A class's pause timer runs (R282). -/
def State.pauseRuns (s : State) (p c : Nat) : Bool := decide (s.lNow < (s.pt p).mac.pauseEnd.get 0 c)

/-- A class of a port is paused: its timer runs, and the 256 ns within which a transmission may still start have passed (R282, R283). -/
def State.paused (s : State) (p c : Nat) : Bool := s.pauseRuns p c && decide ((s.pt p).mac.pauseBind.get 0 c < s.lNow)

/-- Frames held in a path that have not started go back to their queues where a pause of their class binds (R283, R285). -/
def State.returnPaused (s : State) (p : Nat) : State :=
  let x := s.pt p
  let s := match x.express with
    | some f => if s.paused p (qTc f.fr.q) ∧ !f.started then (s.updPt p fun y => { y with express := none }).returnPath f else s
    | none => s
  match x.preempt with
  | some f => if s.paused p (qTc f.fr.q) ∧ !f.started ∧ !x.sendsPre then (s.updPt p fun y => { y with preempt := none }).returnPath f else s
  | none => s

/-- Gate c of a port is open; while no list runs the gates of non-scheduled classes are open (R212). -/
def State.gateOpen (s : State) (p c : Nat) : Bool := !s.running p || (s.fld .SHTL_GCL_STATUS_GATES p).testBit c

/-- A signed difference of start tags modulo 2^48 (R230). -/
def tagDiff (a b : Nat) : Int := toSigned 48 ((a + 2 ^ 48 - b % 2 ^ 48) % 2 ^ 48)

/-- A queue that holds a frame becomes eligible again: its start tag is raised to the virtual time of its class (R232). -/
def State.retag (s : State) (p n : Nat) : State :=
  let c := n / 16
  let q := 128 * p + n
  if (s.qu q).nframes = 0 || (s.qu q).park.isSome || s.paused p c || !s.gateOpen p c then s
  else
    let v := (s.pt p).vt.get 0 c
    s.updQu q fun x => { x with tag := if tagDiff x.tag v < 0 then v else x.tag }

/-- The queues of some classes become eligible again. -/
def State.retagClasses (s : State) (p mask : Nat) : State :=
  (List.range 128).foldl (fun a n => if mask.testBit (n / 16) && !a.isSched p (n / 16) then a.retag p n else a) s

/-! ## Admin writes (R210, R216) -/

/-- An admin entry written to both copies, or refused while a switch is pending (R210, R216). -/
def State.gclAdminWrite (s : State) (p i v : Nat) : State :=
  if s.switchPending p then s.event .SHTL_GCL_EVENT_CHANGE_REFUSED p
  else
    let k := 1024 * (1 - s.operBank p) + i
    s.updGcl p fun g => { g with sh := g.sh.set 0 k v, gd := g.gd.set 0 k v }

/-! ## COMMIT (R211, R214, R215, R304) -/

/-- t_sw of a COMMIT accepted at domain time `tc` (R215). -/
def switchTime (tc base cycle : Nat) : Nat :=
  let earliest := tc + 128000 * nsT
  if earliest ≤ base then base else base + (earliest - base + cycle - 1) / cycle * cycle

/-- The slot table entry i of a port's admin table (Table 10-2). -/
def State.adminSlot (s : State) (p i : Nat) : Nat := s.fld .MDP_PC_SLOT_ADMIN_ENTRY p i

def slotKind (e : Nat) : Nat := bits e 63 62
def slotOwner (e : Nat) : Nat := bits e 61 54
def slotOffset (e : Nat) : Nat := bits e 47 24
def slotLength (e : Nat) : Nat := bits e 23 8

/-- The checks on the entries of a slot table from index i on, after an entry that ends at `prev` (R304). -/
def slotsOk (guard resp first : Nat) : Nat → List Nat → Bool
  | _, [] => true
  | prev, e :: es =>
    decide (prev + guard ≤ slotOffset e) && slotKind e != 0 && decide ((if slotKind e = 3 then 360 + resp else first) ≤ slotLength e)
      && slotsOk guard resp first (slotOffset e + slotLength e) es

/-- The guard of R304 in steps of 400 ns. -/
def State.slotGuard (s : State) (p : Nat) : Nat := 24 + 2 * s.fld .MDP_PC_CFG_ACC_WIN p + (s.fld .MDP_PC_TIMING_MAX_PROP p + 399) / 400

/-- The admin slot table of a multidrop port satisfies R304. -/
def State.slotTableOk (s : State) (p : Nat) : Bool :=
  let n := s.fld .MDP_PC_TABLE_CFG_ADMIN_LEN p
  let l := (List.range n).map (s.adminSlot p)
  decide (n ≤ 64) && slotsOk (s.slotGuard p) (s.fld .MDP_PC_CFG_RESP_WIN p) 168 168 l &&
    (match l.getLast? with
     | some e => decide ((slotOffset e + slotLength e) * 400 * nsT ≤ s.adminCycle p)
     | none => true)

/-- The admin copies differ over ADMIN_LEN entries, in SCHED_TC, in DOM or in the slot table (R211, R257, R307). -/
def State.adminDiffer (s : State) (p : Nat) : Bool :=
  let b := 1 - s.operBank p
  let n := s.fld .SHTL_GCL_CFG_ADMIN_LEN p
  s.bank p b n false != s.bank p b n true
    || s.fld .SELV_GUARD_STATUS_DOM p != s.schedDom p || s.fld .SELV_GUARD_STATUS_SCHED_TC p != s.fld .SHTL_GCL_CFG_SCHED_TC p
    || (multidrop p && (List.range (min 64 (s.fld .MDP_PC_TABLE_CFG_ADMIN_LEN p))).any fun i => (s.pt p).mdp.gdAdmin.get 0 i != s.adminSlot p i)

/-- The admin list fails a check of R214. -/
def State.adminBad (s : State) (p : Nat) : Bool :=
  let n := s.fld .SHTL_GCL_CFG_ADMIN_LEN p
  n == 0 || decide (1024 < n)
    || (s.bank p (1 - s.operBank p) (min n 1024) false).any (fun e => decide (eLen e < 16) || eOp e == 3 || bits e 51 32 != 0)
    || decide (s.adminCycle p < 16 * nsT) || decide (999999999 < s.fld .SHTL_GCL_ADMIN_BASE_NS_NS p) || s.domState (s.schedDom p) == 0

/-- The multidrop port's index in PAIR.CFG.MDP_LEAD. -/
def mdpIndex (p : Nat) : Nat := 2 * (p / 16) + (p % 16 - 14)

/-- The GCL record of a COMMIT on a port in MDP_LEAD (R490, Table 15-8). -/
def State.gclRecord (s : State) (p : Nat) : List Nat :=
  [p, s.fld .SHTL_GCL_CFG_ADMIN_LEN p, s.adminBase p, s.adminCycle p, s.fld .SHTL_GCL_ADMIN_EXT_EXT p,
    s.fld .MDP_PC_TABLE_CFG_ADMIN_TABLE_ID p, s.fld .MDP_PC_TABLE_CFG_ADMIN_LEN p]
    ++ s.bank p (1 - s.operBank p) (s.fld .SHTL_GCL_CFG_ADMIN_LEN p) false
    ++ (List.range (s.fld .MDP_PC_TABLE_CFG_ADMIN_LEN p)).map (s.adminSlot p)

/-- A COMMIT: refused while a switch is pending, otherwise accepted with its switch time (R214, R215). -/
def State.gclCommit (s : State) (p : Nat) : State :=
  if s.switchPending p then s.event .SHTL_GCL_EVENT_CHANGE_REFUSED p
  else
    let t := switchTime (s.nowD p) (s.adminBase p) (s.adminCycle p)
    let s := s.updGcl p fun g => { g with checking := some t }
    if s.dev = .lead ∧ multidrop p ∧ (s.fld .PAIR_CFG_MDP_LEAD).testBit (mdpIndex p) then s.emit (.pair 7 (s.gclRecord p)) else s

/-- CHANGE_SEC and CHANGE_NS. -/
def State.setChange (s : State) (p t : Nat) : State :=
  s.setFlds p 0 [(.SHTL_GCL_CHANGE_SEC_SEC, secOf t), (.SHTL_GCL_CHANGE_NS_NS, nsOf t), (.SHTL_GCL_CHANGE_NS_FRAC, fracOf t)]

/-! ## What follows a port's timeline when it changes -/

/-- The end of a window as the list now runs: a switch accepted, cancelled or made meanwhile can cut or lengthen its cycle (R209, R217, R221). -/
def State.closeNow (s : State) (p c o close : Nat) : Nat :=
  match ((s.sched p).windows (2 ^ c) o o).find? fun w => w.openT == (o : Int) with
  | some w => w.closeT.toNat
  | none => close

/-- The windows recorded for staging, and those of staged frames, take the end that the list now gives them. -/
def State.refreshWins (s : State) (p : Nat) : State :=
  s.updPt p fun x => { x with wins := x.wins.map (fun w => { w with closeT := s.closeNow p w.cls w.openT w.closeT }),
                              staged := x.staged.map fun f => { f with closeT := s.closeNow p f.cls f.openT f.closeT } }

/-- The cycle start from which scheduled windows are served, computed anew where it has not come yet (R93). -/
def State.resumeAgain (s : State) (p t : Nat) : State :=
  if (s.pt p).resumeAt.isNone then s
  else
    let t := s.cycleFrom p t
    s.updPt p fun x => { x with resumeAt := t }

/-- The port's list has a new timeline: a switch waits for it, or no longer does. -/
def State.newTimeline (s : State) (p : Nat) : State := (s.refreshWins p).resumeAgain p (s.nowD p)

/-- A COMMIT is refused: nothing is left pending. -/
def State.gclRefuse (s : State) (p : Nat) : State := s.updGcl p fun g => { g with checking := none }

/-- The checks of an accepted COMMIT complete (R211, R214, R304). -/
def State.gclChecked (s : State) (p : Nat) : State :=
  match (s.pt p).gcl.checking with
  | none => s
  | some t =>
    let s := s.gclRefuse p
    let differ := s.adminDiffer p
    let slots := multidrop p && !s.slotTableOk p
    let bad := s.adminBad p || slots
    let s := if differ then (s.event .SHTL_GCL_EVENT_COPY_MISMATCH p).fault 2 4 p else s
    let s := if slots then s.event .MDP_EVENT_BAD_TABLE p else s
    let s := if bad then s.event .SHTL_GCL_EVENT_BAD_CFG p else s
    if differ || bad then s else ((s.setChange p t).setFld .SHTL_GCL_STATUS_PENDING p 0 1).newTimeline p

/-- CANCEL (R218). -/
def State.gclCancel (s : State) (p : Nat) : State :=
  if !s.switchPending p then s
  else if s.nowD p + 64000 * nsT ≤ s.tSw p then
    (((s.setFld .SHTL_GCL_STATUS_PENDING p 0 0).setChange p (s.pt p).gcl.tPrev).event .SHTL_GCL_EVENT_CANCEL_DONE p).newTimeline p
  else s.event .SHTL_GCL_EVENT_CANCEL_REFUSED p

/-- STOP: remembered only while the list runs (R213). -/
def State.gclStop (s : State) (p : Nat) : State :=
  if s.running p then s.updGcl p fun g => { g with stopReq := true } else s

/-! ## Intervals (R207, R208) -/

/-- The gates that are open: before a list runs every gate of a non-scheduled class is (R212). -/
def State.gatesNow (s : State) (p : Nat) : Nat := if s.running p then s.fld .SHTL_GCL_STATUS_GATES p else 255

/-- The gates of an interval are set; queues behind a gate that was closed and opens catch up (R232). -/
def State.setGates (s : State) (p gates : Nat) : State :=
  let was := s.gatesNow p
  (s.setFld .SHTL_GCL_STATUS_GATES p 0 gates).retagClasses p (gates ^^^ (gates &&& was))

/-- A cycle of the port's list begins, or the list has stopped: values of class B (cycle) fields that wait take effect (R16, R251, R255, R325). -/
def State.cycleFields (s : State) (p : Nat) : State :=
  (((s.takeReg ⟨.SELV_HEM_CFG, p, 0⟩).takeReg ⟨.SELV_HOLD_CFG, p, 0⟩).takeReg ⟨.MDP_PC_CFG, p, 0⟩).takeReg ⟨.MDP_PC_TIMING, p, 0⟩

/-- The entry of a cycle at or after the start from which scheduled windows are served: they are, from then on (R93). -/
def State.serve (s : State) (p : Nat) (c : Cyc) : State :=
  if (s.pt p).resumeAt.any fun t => decide (t ≤ c.start) then s.updPt p fun x => { x with serving := true, resumeAt := none } else s

/-- An entry is performed: gates, entry index and the operation on the hold request (Table 07-2). -/
def State.gclPerform (s : State) (p : Nat) (c : Cyc) (x : Span) : State :=
  let s := s.serve p c
  let s := if (s.pt p).gcl.cycleStart = some c.start then s else s.cycleFields p
  let s := (s.setGates p (eGates x.ent)).setFld .SHTL_GCL_STATUS_ENTRY p 0 x.idx
  let s := match eOp x.ent with
    | 1 => s.setFld .SHTL_GCL_STATUS_HOLD p 0 1
    | 2 => s.setFld .SHTL_GCL_STATUS_HOLD p 0 0
    | _ => s
  s.updGcl p fun g => { g with performed := some x.start, cycleStart := some c.start }

/-- The hold request left by the last hold operation at or before an entry of a cycle; released where there is none (R219). -/
def holdAt (c : Cyc) (x : Span) : Bool :=
  (c.spans.filter fun y => decide (y.idx ≤ x.idx)).foldl (fun h y => match eOp y.ent with
    | 1 => true
    | 2 => false
    | _ => h) false

/-- The list is placed at the entry that contains a time, and no operation is performed (R219). -/
def State.gclPlace (s : State) (p : Nat) (t : Int) : State :=
  match (s.sched p).spanAt t with
  | some (c, x) =>
    let s := (s.setGates p (eGates x.ent)).setFlds p 0 [(.SHTL_GCL_STATUS_ENTRY, x.idx), (.SHTL_GCL_STATUS_HOLD, b2n (holdAt c x))]
    s.updGcl p fun g => { g with performed := some x.start, cycleStart := some c.start }
  | none => s

/-- The list stops (R212, R213): gates of non-scheduled classes open, hold request released, class B values that wait take effect, a pending switch that lies later cancelled. -/
def State.gclHalt (s : State) (p : Nat) : State :=
  s.withSched p fun s =>
    let was := s.gatesNow p
    let s := (s.setFlds p 0 [(.SHTL_GCL_STATUS_RUNNING, 0), (.SHTL_GCL_STATUS_HOLD, 0), (.SHTL_GCL_STATUS_GATES, 0), (.SHTL_GCL_STATUS_ENTRY, 0)])
    let s := (((s.updGcl p fun g => { g with stopReq := false, performed := none, cycleStart := none }).retagClasses p (255 - was)).pcOff p).cycleFields p
    if s.switchPending p then ((s.setFld .SHTL_GCL_STATUS_PENDING p 0 0).setChange p (s.pt p).gcl.tPrev).event .SHTL_GCL_EVENT_CANCEL_DONE p else s

/-- A whole cycle has passed without an opportunity for a queue that was marked Urgent before it: missed rescues (R235). -/
def State.missedRescues (s : State) (p : Nat) (prevStart : Int) : State :=
  let since : Int := (s.lNow : Int) - (s.nowD p - prevStart)
  (List.range 128).foldl (fun a n =>
    let q := 128 * p + n
    match (a.qu q).urgent with
    | some m =>
      let miss := decide ((m : Int) ≤ since) && !(a.qu q).opp
      let a := a.updQu q fun x => { x with opp := false }
      if miss then ((a.portCount p 57).pecEvent p 5 (some (n / 16)) n).event .SHTL_GCL_EVENT_MISSED_RESCUE p else a
    | none => a) s

/-- The start of an entry of the oper list (R208); the start of a cycle on which a STOP acts (R213). -/
def State.gclInterval (s : State) (p : Nat) : State :=
  if !s.running p || (s.switchPending p && decide (s.tSw p ≤ s.nowD p)) then s
  else
    match (s.sched p).spanAt (s.nowD p) with
    | none => s
    | some (c, x) =>
      let g := (s.pt p).gcl
      if g.performed = some x.start then s
      else
        let s := match g.cycleStart with
          | some c0 => if c0 < c.start then s.missedRescues p c0 else s
          | none => s
        if g.stopReq ∧ g.cycleStart ≠ some c.start then s.gclHalt p else s.gclPerform p c x

/-! ## The switch (R213, R216, R304) -/

/-- The oper configuration takes the admin configuration (R216), and the slot tables exchange with it (R304). -/
def State.gclExchange (s : State) (p t : Nat) : State :=
  let s := (s.setFlds p 0 [(.SHTL_GCL_OPER_BASE_SEC_SEC, s.fld .SHTL_GCL_ADMIN_BASE_SEC_SEC p), (.SHTL_GCL_OPER_BASE_NS_NS, s.fld .SHTL_GCL_ADMIN_BASE_NS_NS p),
    (.SHTL_GCL_OPER_BASE_NS_FRAC, s.fld .SHTL_GCL_ADMIN_BASE_NS_FRAC p), (.SHTL_GCL_OPER_CYCLE_NS, s.fld .SHTL_GCL_ADMIN_CYCLE_NS p),
    (.SHTL_GCL_OPER_CYCLE_FRAC, s.fld .SHTL_GCL_ADMIN_CYCLE_FRAC p), (.SHTL_GCL_OPER_EXT_EXT, s.fld .SHTL_GCL_ADMIN_EXT_EXT p),
    (.SHTL_GCL_STATUS_OPER_LEN, s.fld .SHTL_GCL_CFG_ADMIN_LEN p), (.SHTL_GCL_STATUS_OPER_BANK, 1 - s.operBank p),
    (.SHTL_GCL_STATUS_PENDING, 0), (.SHTL_GCL_STATUS_HOLD, 0)]).setChange p t
  let s := s.updGcl p fun g => { g with tPrev := t, performed := none, cycleStart := none }
  if multidrop p then
    let s := (List.range 64).foldl (fun a i =>
      let x := a.fld .MDP_PC_SLOT_ADMIN_ENTRY p i
      let y := a.fld .MDP_PC_SLOT_OPER_ENTRY p i
      (a.setFld .MDP_PC_SLOT_ADMIN_ENTRY p i y).setFld .MDP_PC_SLOT_OPER_ENTRY p i x) s
    let s := s.updPt p fun x => { x with mdp := { x.mdp with gdAdmin := x.mdp.gdOper, gdOper := x.mdp.gdAdmin } }
    s.setFlds p 0 [(.MDP_PC_TABLE_STATUS_OPER_TABLE_ID, s.fld .MDP_PC_TABLE_CFG_ADMIN_TABLE_ID p), (.MDP_PC_TABLE_STATUS_OPER_LEN, s.fld .MDP_PC_TABLE_CFG_ADMIN_LEN p)]
  else s

/-- The last cycle before a switch at a time: a whole or a lengthened one counts for R235, and one cut short does not. -/
def State.lastCycle (s : State) (p t : Nat) : State :=
  match (s.pt p).gcl.cycleStart with
  | none => s
  | some c0 => if (s.operCycle p : Int) ≤ t - c0 then s.missedRescues p c0 else (List.range 128).foldl (fun a n => a.updQu (128 * p + n) fun x => { x with opp := false }) s

/-- The exchange of the banks at a time; a STOP that waits acts at the same instant, and then no cycle of the new list runs (R213, R216). A list that begins to run finds every gate open. -/
def State.gclTakeOver (s : State) (p t : Nat) : State :=
  let s := s.withSched p fun s =>
    let stop := (s.pt p).gcl.stopReq
    let gates := s.gatesNow p
    let s := ((s.lastCycle p t).gclExchange p t).event .SHTL_GCL_EVENT_SWITCH_DONE p
    if stop then s.gclHalt p else s.setFlds p 0 [(.SHTL_GCL_STATUS_RUNNING, 1), (.SHTL_GCL_STATUS_GATES, gates)]
  s.resumeAgain p t

/-- The switch at t_sw: the new list starts cycle 0 with entry 0 (R216). -/
def State.gclSwitch (s : State) (p : Nat) : State :=
  if s.switchPending p ∧ s.tSw p ≤ s.nowD p then
    let t := s.tSw p
    let s := s.gclTakeOver p t
    if !s.running p then s
    else
      match (s.sched p).spanAt t with
      | some (c, x) => s.gclPerform p c x
      | none => s
  else s

/-- What a Polled Cycle port planned by the old domain time is given up at a step; the next BEACON is staged anew (R319). -/
def State.pcReposition (s : State) (p : Nat) : State :=
  if !multidrop p then s
  else s.updMdp p fun m => { m with staged := none, beaconAt := none, beaconWaits := false, slotStart := none, slotOpen := none, own := none, poll := none, slots := [] }

/-- A step of the schedule domain to the present time (R219). -/
def State.gclReposition (s : State) (p : Nat) : State :=
  let now := s.nowD p
  let s := s.pcReposition p
  let s := if s.switchPending p ∧ s.tSw p ≤ now then s.gclTakeOver p now else s
  if s.running p then ((s.gclPlace p now).resumeAgain p now).event .SHTL_GCL_EVENT_STEP_REPOSITION p else s

/-! ## The background check of the copies (R211, R257, R307) -/

/-- The oper copies differ. -/
def State.operDiffer (s : State) (p : Nat) : Bool :=
  let b := s.operBank p
  let n := s.fld .SHTL_GCL_STATUS_OPER_LEN p
  s.bank p b n false != s.bank p b n true
    || s.fld .SELV_GUARD_STATUS_DOM p != s.schedDom p || s.fld .SELV_GUARD_STATUS_SCHED_TC p != s.fld .SHTL_GCL_CFG_SCHED_TC p
    || (multidrop p && (List.range 64).any fun i => (s.pt p).mdp.gdOper.get 0 i != s.fld .MDP_PC_SLOT_OPER_ENTRY p i)

/-- A difference is a Fatal fault while the list runs (R211). -/
def State.gclCopyCheck (s : State) (p : Nat) : State :=
  if s.running p && s.operDiffer p then (s.event .SHTL_GCL_EVENT_COPY_MISMATCH p).fault 3 4 p else s

/-! ## The grid locks (R239, R241, R242) -/

/-- The grid of a port can lock: its link is up, its schedule domain is the one its lane's grid follows and is neither OFF nor UNLOCKED without GM; on a multidrop port no
transmission is under way. -/
def State.gridCanLock (s : State) (p : Nat) : Bool :=
  s.fld .SELV_GRID_STATUS_STEP_PS p != 0 && s.schedDom p == s.gridDom p && !s.gridBarred (s.schedDom p) && !(multidrop p && (s.pt p).tx.isSome)

/-- The grid is locked. -/
def State.gridLock (s : State) (p : Nat) : State :=
  if s.gridCanLock p then s.withSched p fun s => s.setFlds p 0 [(.SELV_GRID_STATUS_LOCKED, 1), (.SELV_GRID_STATUS_SLEWING, 0)] else s

/-! ## The commands -/

/-- GCL_ADMIN_WRITE (R210, R216). -/
def execGclAdminWrite (r : Req) (p : Port) (i : Fin 1024) (v : BitVec 64) (s : State) : Host.Outcome State Fault Refusal :=
  done (s.writing r .SHTL_GCL_ADMIN p i fun s => s.gclAdminWrite p i v.toNat)
/-- GCL_COMMIT (R214, R215). -/
def execGclCommit (r : Req) (p : Port) (s : State) : Host.Outcome State Fault Refusal := done (s.writing r .SHTL_GCL_CTRL p 0 fun s => s.gclCommit p)
/-- GCL_COMMIT_CHECKED (R211, R214, R215). -/
def execGclCommitChecked (p : Port) (s : State) : Host.Outcome State Fault Refusal := done (s.powered fun s => s.gclChecked p)
/-- GCL_CANCEL (R218). -/
def execGclCancel (r : Req) (p : Port) (s : State) : Host.Outcome State Fault Refusal := done (s.writing r .SHTL_GCL_CTRL p 0 fun s => s.gclCancel p)
/-- GCL_STOP (R213). -/
def execGclStop (r : Req) (p : Port) (s : State) : Host.Outcome State Fault Refusal := done (s.writing r .SHTL_GCL_CTRL p 0 fun s => s.gclStop p)
/-- GCL_SWITCH (R213, R216). -/
def execGclSwitch (p : Port) (s : State) : Host.Outcome State Fault Refusal := done (s.powered fun s => s.gclSwitch p)
/-- GCL_INTERVAL_START (R207, R208, R213, R235). -/
def execGclIntervalStart (p : Port) (s : State) : Host.Outcome State Fault Refusal := done (s.powered fun s => s.gclInterval p)
/-- GCL_COPY_CHECK (R211). -/
def execGclCopyCheck (p : Port) (s : State) : Host.Outcome State Fault Refusal := done (s.powered fun s => s.gclCopyCheck p)
/-- GRID_LOCK (R239, R241, R242). -/
def execGridLock (p : Port) (s : State) : Host.Outcome State Fault Refusal := done (s.powered fun s => s.gridLock p)

end Sys2Proof.Machine
end

