-- ==== Sys2Proof/Machine/PcOps.lean ====
section
/-!
DEFINITION. The Polled Cycle's frames, cycle numbers and slots (10.1 to 10.4), as far as the Selvedge needs them.
-/
namespace Sys2Proof.Machine

/-- The Polled Cycle of a port is enabled (R299): Polled Cycle mode and PC_CFG.EN = 1. -/
def State.pcMode (s : State) (p : Nat) : Bool := s.polled p && s.on .MDP_PC_CFG_EN p

/-- ORIGIN of this device's port (Table 10-1). -/
def State.pcOrigin (s : State) (p : Nat) : Nat := s.fld .BOOT_STATUS_DEV_ID * 4096 + p

/-- A domain time lies at or after the switch of list that waits. -/
def State.pcNext (s : State) (p t : Nat) : Bool := s.switchPending p && decide (s.tSw p ≤ t)

/-- CYCLE of the cycle that contains a domain time: k mod 2^32, counted from the cycle at the last switch of list, which is CYCLE 0 (R303). -/
def State.pcCycle (s : State) (p t : Nat) : Nat :=
  let l : GList := if s.pcNext p t then ⟨s.adminBase p, s.adminCycle p, []⟩ else ⟨s.operBase p, s.operCycle p, []⟩
  let sw : Int := if s.pcNext p t then s.tSw p else (s.pt p).gcl.tPrev
  ((l.k t - l.k sw) % (2 ^ 32 : Nat)).toNat

/-- Cycle length in ns and slot table in force at a domain time (Table 10-1). -/
def State.pcCycleNs (s : State) (p t : Nat) : Nat := (if s.pcNext p t then s.adminCycle p else s.operCycle p) / nsT
def State.pcTableId (s : State) (p t : Nat) : Nat := if s.pcNext p t then s.fld .MDP_PC_TABLE_CFG_ADMIN_TABLE_ID p else s.fld .MDP_PC_TABLE_STATUS_OPER_TABLE_ID p

/-- A control frame of the Polled Cycle of a domain time, without its FCS (R300, Table 10-1). -/
def State.pcFrame (s : State) (p t sub flags cycle sec ns rank node slot : Nat) : List Byte :=
  beBytes 6 0x03514B00000E ++ beBytes 6 (s.fld .MAC_ADDR_ADDR p) ++ beBytes 2 0x88B5 ++
    padTo 46 (beBytes 1 sub ++ beBytes 1 1 ++ beBytes 1 (s.fld .MDP_PC_CFG_SEG_ID p) ++ beBytes 1 flags ++ beBytes 2 (s.pcTableId p t) ++ beBytes 4 cycle
      ++ beBytes 6 sec ++ beBytes 4 ns ++ beBytes 4 (s.pcCycleNs p t) ++ beBytes 1 rank ++ beBytes 1 node ++ beBytes 3 (s.pcOrigin p) ++ beBytes 1 slot)

/-- The oper slot table of a port, in the Shuttle's or the guardian's copy. -/
def State.slotTable (s : State) (p : Nat) (guard : Bool) : List Nat :=
  (List.range (s.fld .MDP_PC_TABLE_STATUS_OPER_LEN p)).map fun i => if guard then (s.pt p).mdp.gdOper.get 0 i else s.fld .MDP_PC_SLOT_OPER_ENTRY p i

/-- Start and end of a slot in the cycle that starts at a time. -/
def slotTimes (start : Int) (e : Nat) : Int × Int :=
  (start + (slotOffset e * 400 * nsT : Nat), start + ((slotOffset e + slotLength e) * 400 * nsT : Nat))

/-- The port may transmit in a slot in its present state (R305): a master in MASTER and POLL slots, a follower in its own. -/
def State.slotOwned (s : State) (p e : Nat) : Bool :=
  match s.pcState p with
  | 5 => slotKind e == 1 || slotKind e == 3
  | 3 => (slotKind e == 2 || slotKind e == 3) && slotOwner e == s.fld .MDP_PC_CFG_NODE_ID p && s.fld .MDP_PC_CFG_NODE_ID p != 255 && slotOwner e != 0
  | _ => false

/-- The guardian of a Polled Cycle port lets a transmission pass, by its own copies of the lists and of domain time (R307): it lies within a slot the port owns, or is the BEACON of a
master and lies within the beacon period of 168 grid steps (R302). -/
def State.guardSlotOk (s : State) (p : Nat) (t stop : Int) (beacon : Bool := false) : Bool :=
  if !(s.pcMode p && (s.pcState p == 3 || s.pcState p == 5)) then true
  else
    let t := s.toG p t
    let stop := s.toG p stop
    let tol : Int := 200 * nsT
    match (s.sched p true).cycleAt (if beacon then t + tol else t) with
    | some c =>
      if beacon then s.pcState p == 5 && decide (c.start - tol ≤ t) && decide (stop ≤ c.start + (168 * 400 * nsT : Nat) + tol)
      else (s.slotTable p true).any fun e => s.slotOwned p e && decide ((slotTimes c.start e).1 - tol ≤ t) && decide (stop ≤ (slotTimes c.start e).2 + tol)
    | none => false

/-- The port's own PLCA opportunity is open for one more frame: BURST_CNT further frames, each within BURST_TIMER bit times of the previous end (R295). -/
def State.plcaOpen (s : State) (p : Nat) : Bool :=
  let m := (s.pt p).mac
  decide (m.oppNode = s.fld .MAC_PLCA_CFG_NODE_ID p) && (m.oppFrames == 0 ||
    (decide (m.oppFrames ≤ s.fld .MAC_PLCA_CFG_BURST_CNT p) && decide (s.lNow ≤ (s.pt p).lastEnd + s.fld .MAC_PLCA_CFG_BURST_TIMER p * 100 * nsT)))

/-- The medium access rules of a multidrop segment permit a start at a domain time (R247, R292, R295, R305, R312); `sched` for a staged frame. -/
def State.mediumOk (s : State) (p : Nat) (t : Int) (sched : Bool) : Bool :=
  if !multidrop p then true
  else
    let m := (s.pt p).mac
    let toD (l : Nat) : Int := (s.nowR p : Int) + l - s.lNow
    let csma := !m.carrier && decide (toD m.mayStart ≤ t) && (sched || m.backoffEnd.all fun b => decide (toD b ≤ t))
    match s.fld .MAC_MD_CFG_MODE p with
    | 1 => if s.fld .MAC_PLCA_CFG_NODE_ID p = 255 ∨ !s.on .MAC_MD_STATUS_PLCA_OK p then csma else s.plcaOpen p && !m.carrier
    | 2 =>
      (match s.pcState p with
       | 3 => (s.pt p).mdp.own.any fun w => decide ((w.1 : Int) ≤ t) && decide (t < w.2)
       | 5 => (s.pt p).mdp.own.any fun w => decide ((w.1 : Int) ≤ t) && decide (t < w.2)
       | 1 => s.on .MDP_PC_CFG_FALLBACK p && csma && !sched
       | 4 => s.on .MDP_PC_CFG_FALLBACK p && csma && !sched
       | _ => false)
    | _ => csma

/-- The end of the slot in which a Polled Cycle port transmits (R306). -/
def State.ownEnd (s : State) (p : Nat) : Option Nat :=
  if s.pcMode p && (s.pcState p == 3 || s.pcState p == 5) then (s.pt p).mdp.own.map (·.2) else none

/-- A draw from the port's generator: uniform in 0 to 2^k - 1 (R293). -/
def State.lfsrDraw (s : State) (p k : Nat) : Nat × State :=
  let v := Config.lfsrNext (s.pt p).mac.lfsr
  (v % 2 ^ k, s.updPt p fun x => { x with mac := { x.mac with lfsr := v } })

/-- A Polled Cycle port enters LISTEN (R311). -/
def State.pcListen (s : State) (p : Nat) : State :=
  ((s.setPc p 1).setFlds p 0 [(.MDP_PC_STATUS_ORIGIN, 0), (.MDP_PC_TABLE_STATUS_MISSED, 0)]).updMdp p fun m =>
    { m with beacon := none, handover := false,
             listenEnd := s.lNow + max 1 (s.fld .MDP_PC_CFG_LISTEN_CYCLES p) * s.operCycle p + s.fld .MDP_PC_CFG_RANK p * 51200 * nsT }

end Sys2Proof.Machine
end

