-- ==== Sys2Proof/Machine/Parse.lean ====
section
/-!
DEFINITION. The parser (R102 to R104) and the one-step PTP actions (R51 to R54): where the headers of a frame lie, and how an egress action changes it.
-/
namespace Sys2Proof.Machine

/-- What the parser finds in a frame (Table 04-1). Offsets count from the destination address. -/
structure Parse where
  /-- outer tag's control field -/
  outer : Option Nat := none
  /-- kind (1 R-TAG, 2 HSR) and number of the header sequence tag, and its LSDU size field -/
  seqTag : Option (Nat × Nat × Nat) := none
  etype : Nat := 0
  /-- 4 or 6 with an IP header, else 0 -/
  ip : Nat := 0
  ipOff : Nat := 0
  proto : Nat := 0
  /-- offset of a UDP or TCP header that may be read -/
  l4 : Option Nat := none
  /-- the last header needed by an IP method ends at this byte -/
  ipEnd : Nat := 0
  /-- a third extension header, or a fragment other than the first -/
  blocked : Bool := false
  /-- offset of a PTP message and its transport: 0 layer 2, 1 IPv4, 2 IPv6 -/
  ptp : Option (Nat × Nat) := none
deriving DecidableEq, Repr

/-- One byte of a frame as a number. -/
def byteAt (d : List Byte) (o : Nat) : Nat := beNat (slice d o 1)

/-- IPv6 extension headers that the parser follows (Table 04-1). -/
def isExt (t : Nat) : Bool := t == 0 || t == 43 || t == 44 || t == 60

/-- The extension headers from a next-header code and offset on, at most `n`: the transport code and offset, and whether a non-first fragment was met. -/
def skipExt (d : List Byte) : Nat → Nat → Nat → Bool → Nat × Nat × Bool
  | 0, t, o, fr => (t, o, fr)
  | n + 1, t, o, fr =>
    if isExt t then
      if t = 44 then skipExt d n (byteAt d o) (o + 8) (fr || be16 d (o + 2) / 8 != 0)
      else skipExt d n (byteAt d o) (o + 8 * (byteAt d (o + 1) + 1)) fr
    else (t, o, fr)

/-- The transport header of an IP frame, and PTP over UDP ports 319 and 320. -/
def parseL4 (d : List Byte) (x : Parse) (o : Nat) (transport : Nat) : Parse :=
  if x.blocked then { x with ipEnd := o }
  else if x.proto = 17 then
    let port := be16 d (o + 2)
    { x with l4 := some o, ipEnd := o + 8, ptp := if port = 319 ∨ port = 320 then some (o + 8, transport) else none }
  else if x.proto = 6 then { x with l4 := some o, ipEnd := o + max 20 (4 * (byteAt d (o + 12) / 16)) }
  else { x with ipEnd := o }

/-- The parser (R102). -/
def parse (d : List Byte) : Parse :=
  let t := typeOff d
  let k := headTagKind d
  let e := if k = 0 then t else t + 6
  let x : Parse := { outer := if vlanTags d = 0 then none else some (be16 d 14),
                     seqTag := if k = 0 then none else some (k, be16 d (t + 4), be16 d (t + 2) % 4096), etype := be16 d e }
  let o := e + 2
  if x.etype = 0x88F7 then { x with ptp := some (o, 0) }
  else if x.etype = 0x0800 ∧ byteAt d o / 16 = 4 ∧ 5 ≤ byteAt d o % 16 then
    let x := { x with ip := 4, ipOff := o, proto := byteAt d (o + 9), blocked := be16 d (o + 6) % 8192 != 0 }
    parseL4 d x (o + 4 * (byteAt d o % 16)) 1
  else if x.etype = 0x86DD ∧ byteAt d o / 16 = 6 then
    let (pr, q, fr) := skipExt d 2 (byteAt d (o + 6)) (o + 40) false
    parseL4 d { x with ip := 6, ipOff := o, proto := pr, blocked := fr || isExt pr } q 2
  else x

/-- The PTP message of a frame, where its headers lie within the first 192 bytes (R102). -/
def ptpMsg (d : List Byte) : Option (Nat × Nat) :=
  match (parse d).ptp with
  | some (o, tr) => if o ≤ 192 ∧ o < d.length then some (o, tr) else none
  | none => none

/-- messageType, domainNumber and sdoId of a PTP message. -/
def ptpType (d : List Byte) (o : Nat) : Nat := byteAt d o % 16
def ptpDomain (d : List Byte) (o : Nat) : Nat := byteAt d (o + 4)
def ptpSdo (d : List Byte) (o : Nat) : Nat := byteAt d o / 16 * 256 + byteAt d (o + 5)

/-- A PTP event message: Sync, Delay_Req, Pdelay_Req and Pdelay_Resp. -/
def ptpEvent (d : List Byte) : Bool :=
  match ptpMsg d with
  | some (o, _) => decide (ptpType d o < 4)
  | none => false

/-! ## One-step actions (R51 to R54) -/

/-- The one's complement sum of the 16-bit words of a byte string. -/
def sum16 : List Byte → Nat
  | a :: b :: t => a.toNat * 256 + b.toNat + sum16 t
  | [a] => a.toNat * 256
  | [] => 0

/-- A sum folded to 16 bits. -/
def fold16 (n : Nat) : Nat := let a := n % 65536 + n / 65536; a % 65536 + a / 65536

/-- Bytes at an offset replaced, and the UDP checksum updated incrementally where the message travels over UDP (R51); a checksum of 0 over IPv4 is no checksum. -/
def ptpPut (d : List Byte) (msg transport o : Nat) (bs : List Byte) : List Byte :=
  let old := slice d o bs.length
  let d' := putBytes d o bs
  if transport = 0 then d'
  else
    let c := be16 d (msg - 2)
    if c = 0 then d'
    else
      let n := fold16 (fold16 ((65535 - c) + sum16 bs + (65535 * bs.length - sum16 old)))
      let c' := 65535 - n
      putBytes d' (msg - 2) (beBytes 2 (if c' = 0 then 65535 else c'))

/-- A correction added to a signed 64-bit correctionField, held at its largest value (R53). -/
def addCorr (field : Nat) (v : Int) : Nat :=
  let n := toSigned 64 field + v
  if n > 0x7FFFFFFFFFFFFFFF then 0x7FFFFFFFFFFFFFFF else ofSigned 64 n

/-- ORIGIN: seconds and whole nanoseconds into originTimestamp, the fraction added to correctionField (R52); `none` where the message is too short (R54). -/
def actOrigin (d : List Byte) (t : Nat) : Option (List Byte) :=
  match ptpMsg d with
  | none => none
  | some (o, tr) =>
    if d.length < o + 44 then none
    else
      let d := ptpPut d o tr (o + 34) (beBytes 6 (secOf t) ++ beBytes 4 (nsOf t))
      some (ptpPut d o tr (o + 8) (beBytes 8 (addCorr (beNat (slice d (o + 8) 8)) (fracOf t))))

/-- RESIDENCE: a time in 2^-16 ns added to correctionField (R52). -/
def actResidence (d : List Byte) (v : Int) : Option (List Byte) :=
  match ptpMsg d with
  | none => none
  | some (o, tr) =>
    if d.length < o + 16 then none
    else some (ptpPut d o tr (o + 8) (beBytes 8 (addCorr (beNat (slice d (o + 8) 8)) v)))

end Sys2Proof.Machine
end

