-- ==== Sys2Proof/Machine/Shuttle.lean ====
section
/-!
DEFINITION. The Shuttle (07.3 to 07.6) and the queue commands (06.7): staging, selection, calendar shaping, DWRR, starvation rescue, flushing.
-/
namespace Sys2Proof.Machine

/-! ## Reading a stored frame (R198, R470, R166, R163) -/

/-- A frame protection mismatch: a Degraded fault, Fatal at sixteen in one Bolt within 1 ms (R470). -/
def State.codeMismatch (s : State) (b : Nat) : State :=
  let now := s.lNow
  let l := ((s.bo b).protErrs.filter fun t => decide (now ≤ t + 1000000 * nsT)) ++ [now]
  let s := (s.updBo b fun x => { x with protErrs := l }).bump (boltWord b 13)
  if 16 ≤ l.length then s.fault 3 12 b else s.fault 2 12 b

/-- The counts, flags and faults of an error that the read of a stored frame meets (R198, R470). -/
def State.bufErr (s : State) (b : Nat) (e : BufErr) : State :=
  match e with
  | .none => s
  | .corrected => (s.bump (boltWord b 7)).event .SHTL_BUF_EVENT_ECC_CORR b
  | .cell => ((s.bump (boltWord b 6)).event .SHTL_BUF_EVENT_ECC_UNCORR b).fault 2 11 b
  | .record => ((s.bump (boltWord b 6)).event .SHTL_BUF_EVENT_ECC_UNCORR b).fault 3 11 b
  | .code => s.codeMismatch b

/-- The error spoils the frame's bytes. -/
def bufSpoils : BufErr → Bool
  | .none => false
  | .corrected => false
  | _ => true

/-! ## Staging (R221, R243, R244, R249) -/

/-- Staging lead time (R244). -/
def State.lead (s : State) (p : Nat) : Nat := max 16 (min 512 (s.fld .SELV_STAGE_CFG_LEAD p)) * 125 * nsT

/-- The port takes frames from the Shuttle: RUN = 1, link up, device not silent (R250, R275, R477). -/
def State.portTakes (s : State) (p : Nat) : Bool := s.alive && s.on .SELV_CTRL_RUN p && s.fld .MAC_LINK_STATUS_STATE p == 6

/-- Windows whose end has passed and of which nothing is staged are forgotten. -/
def State.pruneWins (s : State) (p : Nat) : State :=
  let now := s.nowD p
  let keep (x : PortSt) (w : StgWin) : Bool := decide (now < w.closeT) || (x.staged.any fun f => f.cls == w.cls && f.openT == w.openT)
  s.updPt p fun x => { x with wins := x.wins.filter (keep x) }

/-- The window of a class whose staging point has come: the earliest not yet recorded that opens within the lead time, at or after the resumption (R93, R244).
The Shuttle reads the domain time itself: of the lag of at most 32 ns that R25 allows a self-timed consumer the model takes 0 (log entry 108). -/
def State.dueWindow (s : State) (p c : Nat) : Option Win :=
  let now := s.nowD p
  ((s.sched p).windows (2 ^ c) now (now + s.lead p)).find? fun w =>
    decide ((now : Int) < w.closeT) && decide (w.openT ≤ (now + s.lead p : Nat)) && decide (0 ≤ w.openT)
      && ((s.pt p).serving || (s.pt p).resumeAt.any fun t => decide (t ≤ w.openT))
      && !((s.pt p).wins.any fun x => x.cls == c && (x.openT : Int) == w.openT)

/-- The staging point of a window (R29, R244). -/
def State.stagingPoint (s : State) (p c : Nat) : State :=
  let s := s.pruneWins p
  if s.portTakes p && s.schedUp p && s.isSched p c then
    match s.dueWindow p c with
    | some w => s.updPt p fun x => { x with wins := x.wins ++ [{ cls := c, openT := w.openT.toNat, closeT := w.closeT.toNat, noHem := w.noHem }] }
    | none => s
  else s

/-- The staging point of the next BEACON of a Polled Cycle master (R302, R303): the next cycle start within the lead time, with the domain's state under R90. -/
def State.beaconPoint (s : State) (p : Nat) : State :=
  let now := s.nowD p
  match (s.sched p).cycleAt (now + s.lead p), (s.pt p).mdp.staged with
  | some c, none =>
    let fresh := (s.pt p).mdp.beaconAt.all fun t => decide ((t : Int) < c.start)
    if s.fld .MDP_PC_STATUS_STATE p = 5 ∧ s.on .SELV_CTRL_RUN p = true ∧ (now : Int) ≤ c.start ∧ fresh = true ∧ ((s.pt p).mdp.masterFrom : Int) ≤ c.start
        ∧ ((s.pt p).mdp.handEnd.all fun t => decide (c.start < t)) = true then
      s.updPt p fun x => { x with mdp := { x.mdp with staged := some (c.start.toNat, s.inSync (s.schedDom p)) } }
    else s
  | _, _ => s

def State.updWin (s : State) (p c o : Nat) (f : StgWin → StgWin) : State :=
  s.updPt p fun x => { x with wins := x.wins.map fun w => if w.cls = c ∧ w.openT = o then f w else w }

/-- Units of 64 bytes and frames in the staging store; a staged frame on the wire still occupies it (R243). -/
def stgUnits (fr : FrameRec) : Nat := (fr.len + 63) / 64
def State.storeUsed (s : State) (p : Nat) : Nat × Nat :=
  let onWire := match (s.pt p).tx with
    | some t => if t.kind.code = 0 ∧ t.kind ≠ .express then [t.path.fr] else []
    | none => []
  let l := (s.pt p).staged.map (·.fr) ++ onWire
  ((l.map stgUnits).sum, l.length)

/-- A frame has room in the staging store (R243). -/
def State.storeFits (s : State) (p : Nat) (fr : FrameRec) : Bool :=
  decide ((s.storeUsed p).1 + stgUnits fr ≤ storeUnits p) && decide ((s.storeUsed p).2 < storeFrames p)

/-- A frame that has left the head of its queue is taken into the staging store for a window; `at` is the L time from which it is fully staged, when it leaves
the depth and frees its cells (R185, R198, R470, R166). -/
def State.stageTake (s : State) (p : Nat) (w : StgWin) (fr : FrameRec) (wire at' : Nat) (e : BufErr) : State :=
  let b := boltOf p
  let s := s.bufErr b e
  let d := s.editFrame p fr
  if bufSpoils e then s.discardHeld fr 9 (if e = BufErr.code then 13 else 6) 1 8
  else if 9216 < d.length + 4 then (s.portCount p 41).discardHeld fr 9 41 0
  else
    let s := if seqMissing fr then s.portCount p 40 else s
    let s := s.updPt p fun x => { x with staged := x.staged ++ [{ fr := fr, bytes := d, cls := w.cls, openT := w.openT, closeT := w.closeT, fullAt := at', held := true }] }
    let s := s.stagedFree p
    let s := s.updWin p w.cls w.openT fun w => { w with used := w.used + wire, storeFull := false }
    if fr.act = .none then s.hostFate fr 0 else s

/-- The head frames of queues tried in order until one is handed over: a frame that does not fit its window stays, counted once for the window; a frame that finds
no room in the store waits (R221, R249). -/
def State.stageTry (p at' : Nat) (e : BufErr) : List (StgWin × Nat) → State → State
  | [], s => s
  | (w, n) :: rest, s =>
    let q := 128 * p + 16 * w.cls + n
    match (s.qu q).frames with
    | [] => State.stageTry p at' e rest s
    | fr :: tl =>
      let wire := s.wireT p (s.charged p fr)
      if w.noFit.contains n then State.stageTry p at' e rest s
      else if w.closeT - w.openT < w.used + wire then
        State.stageTry p at' e rest ((s.portCount p 42).updWin p w.cls w.openT fun w => { w with noFit := w.noFit ++ [n] })
      else if !s.storeFits p fr then s.updWin p w.cls w.openT fun w => { w with storeFull := true }
      else (s.updQu q fun x => { x with frames := tl }).stageTake p w fr wire at' e

/-- A window before another: earlier gate-open, and descending class at one gate-open time (R221, R254). -/
def winBefore (a b : StgWin) : Bool := decide (a.openT < b.openT) || (a.openT == b.openT && decide (b.cls < a.cls))

def insertStg (w : StgWin) : List StgWin → List StgWin
  | [] => [w]
  | a :: t => if winBefore w a then w :: a :: t else a :: insertStg w t

/-- The windows of a port in the order of their trains. -/
def State.winOrder (s : State) (p : Nat) : List StgWin := (s.pt p).wins.foldr insertStg []

/-- The Shuttle hands one frame to the staging store (R221). -/
def State.stageFrame (s : State) (p delayPs : Nat) (e : BufErr) : State :=
  if s.portTakes p && s.schedUp p then
    let now := s.nowD p
    let ws := (s.winOrder p).filter fun w => decide (now < w.closeT)
    State.stageTry p (s.lNow + psT delayPs) e ((ws.map fun w => (List.range 16).map fun n => (w, n)).flatten) s
  else s

/-- A window has ended while a frame found no room in the store (R249). -/
def State.storeFullWindow (s : State) (p c : Nat) : State :=
  let now := s.nowD p
  match (s.pt p).wins.find? fun w => w.cls == c && w.storeFull && decide (w.closeT ≤ now) with
  | some w => ((s.updWin p c w.openT fun w => { w with storeFull := false }).portCount p 43).event .SELV_EVENT_STORE_FULL p
  | none => s

/-! ## Shaping (R225 to R229) -/

/-- Bytes per second of a rate-limited queue: RATE in units of 1,000, at least 1, at most the line rate. -/
def State.shapeRate (s : State) (p n : Nat) : Nat :=
  let r := max 1 (s.fld .SHTL_Q_SHAPE_RATE p n) * 1000
  if s.portBytePs p = 0 then r else min r (1000000000000 / s.portBytePs p)

/-- A queue parked until its tokens reach 0: the slot of the calendar (R227). -/
def State.parkAt (s : State) (rate : Nat) (deficit : Nat) : Park :=
  let now := s.lNow
  let r := rate * 65536
  let t8 := (now * r + deficit * secT + (r * (8 * nsT) - 1)) / (r * (8 * nsT))
  let t := 8 * t8
  if t * nsT < now + 32768 * nsT then { elig := t, fine := true, slot := t8 % 4096, laps := 0 }
  else
    let tc := t / 32768 * 32768
    { elig := t, fine := false, slot := tc / 32768 % 4096, laps := (tc * nsT - now + (134217728 * nsT - 1)) / (134217728 * nsT) - 1 }

/-- A charge of bytes to a rate-limited queue: tokens brought up to date, then charged; the queue parks when they fall below 0 (R225, R226). -/
def State.chargeTokens (s : State) (p n bytes : Nat) : State :=
  let q := 128 * p + n
  if !s.on .SHTL_Q_SHAPE_EN p n then s
  else
    let x := s.qu q
    let now := s.lNow
    let rate := s.shapeRate p n
    let gain := Frac.toWord (Frac.norm (rate * 65536 * (now - x.last) : Nat) secT)
    let tok := min ((s.fld .SHTL_Q_SHAPE_BURST p n * 65536 : Nat) : Int) (x.tok + gain) - (bytes * 65536 : Nat)
    s.setQu q { x with tok := tok, last := now, park := if tok < 0 then some (s.parkAt rate tok.natAbs) else x.park }

/-- A write to Q_SHAPE (R229): a queue that it unparks becomes eligible again (R232). -/
def State.shapeReset (s : State) (p n : Nat) : State :=
  let t := s.updQu (128 * p + n) fun x => { x with tok := 0, last := s.lNow, park := none }
  if (s.qu (128 * p + n)).park.isSome then t.retag p n else t

/-- Q_SHAPE written (Table 07-13). -/
def State.shapeWrite (s : State) (p n v : Nat) : State :=
  (s.setFlds p n [(.SHTL_Q_SHAPE_EN, bits v 63 63), (.SHTL_Q_SHAPE_RATE, bits v 53 32), (.SHTL_Q_SHAPE_BURST, bits v 23 0)]).shapeReset p n

/-- Queues of a Bolt that are parked and satisfy a test. -/
def State.parkedIn (s : State) (b : Nat) (f : Park → Bool) : List Nat :=
  (s.queue.filter fun e => decide (boltOf (qPort e.1) = b) && e.2.park.any f).map (·.1)

/-- The coarse slot of the present time is visited, once (R227). -/
def State.coarseVisit (s : State) (b : Nat) : State :=
  let k := s.lNs / 32768
  if (s.bo b).coarse = some k then s
  else
    let s := s.updBo b fun x => { x with coarse := some k }
    (s.parkedIn b fun a => !a.fine && a.slot == k % 4096).foldl (fun a q =>
      a.updQu q fun x => { x with park := x.park.map fun y => if y.laps = 0 then { y with fine := true, slot := y.elig / 8 % 4096 } else { y with laps := y.laps - 1 } }) s

/-- Queues whose fine slot is due become eligible (R227, R232). -/
def State.fineDue (s : State) (b : Nat) : State :=
  let now := s.lNow
  (s.parkedIn b fun a => a.fine && decide (a.elig * nsT ≤ now)).foldl (fun a q =>
    (a.updQu q fun x => { x with park := none }).retag (qPort q) (qLocal q)) s

/-! ## Egress timestamps and actions (R48, R50 to R54) -/

/-- The time of timescale `x` at the egress timestamp point of a transmission whose launch edge is at L time `startL`, read from the port's release copy: the preamble, the port's internal
latency and TX_LAT added (R47, R50, R51). -/
def State.egressTime (s : State) (p x startL : Nat) : Nat :=
  (((s.relD p x : Int) + startL - s.lNow) + s.wireT p 8 + (s.pt p).latTx + toSigned 32 (s.fld .TPL_PORT_TS_TX_LAT p) * 2 ^ 24).toNat

/-- The two times of an egress timestamp: L and the frame's domain (R48). -/
def State.egressStamp (s : State) (p x startL : Nat) : Nat × Nat := (s.egressTime p 8 startL, s.egressTime p x startL)

/-- The action of a frame applied at launch: its bytes, whether the action had to be skipped (R54), and its egress timestamp, which a PTP event message has whatever its action (R48). -/
def State.applyAct (s : State) (p : Nat) (fr : FrameRec) (d : List Byte) (startL : Nat) : List Byte × Bool × Option (Nat × Nat) :=
  let ts := s.egressStamp p fr.tsDom startL
  match fr.act with
  | .none => (d, false, if ptpEvent d then some ts else none)
  | .record => (d, false, some ts)
  | .origin =>
    match actOrigin d ts.2 with
    | some d' => (d', false, some ts)
    | none => (d, true, none)
  | .residence x ref steps delay =>
    let v : Int := (s.egressTime p x startL : Int) - ref - (s.stepsOf x - steps) + delay
    match actResidence d (Frac.toWord (Frac.norm v (2 ^ 24))) with
    | some d' => (d', false, some ts)
    | none => (d, true, none)

/-- The egress timestamp of a service core's frame with action RECORD goes to the port's queue, with the type and the sequenceId of its message (R55). -/
def State.noteStamp (s : State) (p : Nat) (fr : FrameRec) (ts : Option (Nat × Nat)) : State :=
  match ts with
  | some (l, t) =>
    if fr.src = .service ∧ fr.act = .record then
      let (ty, n) := match ptpMsg fr.data with
        | some (o, _) => (ptpType fr.data o, be16 fr.data (o + 30))
        | none => (16, 0)
      s.updPt p fun x => { x with tsq := x.tsq ++ [⟨fr.tsDom, t, l, ty, n⟩] }
    else s
  | none => s

/-! ## Selection (R220, R222, R223, R230, R234) -/

/-- A frame of a class travels on the pre-emptable path: pre-emption active, class in PREEMPT_TC, not gate-scheduled, no ORIGIN or RESIDENCE action, no PTP event message
(R51, R237, R263, R265). -/
def State.onPre (s : State) (p c : Nat) (fr : FrameRec) : Bool :=
  s.on .SELV_PREEMPT_STATUS_ACTIVE p && (s.fld .SELV_PREEMPT_CFG_PREEMPT_TC p).testBit c && !s.isSched p c && (fr.act == .none || fr.act == .record) && !ptpEvent fr.data

/-- The wire time of a frame at a port (R221). -/
def State.frameWire (s : State) (p : Nat) (fr : FrameRec) : Nat := s.wireT p (s.charged p fr)

/-- The gate of a class stays open for a frame's wire time from a domain time on (R223). -/
def State.gateFits (s : State) (p c : Nat) (fr : FrameRec) (t : Nat) : Bool := (s.sched p).openFor c t (t + s.frameWire p fr)

/-- A queue of a non-scheduled class is eligible for a path (R223). -/
def State.eligible (s : State) (p n : Nat) (pre : Bool) : Bool :=
  let c := n / 16
  match (s.qu (128 * p + n)).frames with
  | [] => false
  | fr :: _ =>
    !s.isSched p c && s.onPre p c fr == pre && s.gateOpen p c && !s.paused p c && (s.qu (128 * p + n)).park.isNone
      && (pre || s.gateFits p c fr (s.nowD p))

/-- The present interval opens a window of a gate-scheduled class (R234). -/
def State.inWindow (s : State) (p : Nat) : Bool :=
  s.running p && (s.fld .SHTL_GCL_STATUS_GATES p &&& s.fld .SHTL_GCL_CFG_SCHED_TC p) != 0

/-- Urgent queues that R234 lets be served on a path now. -/
def State.urgentReady (s : State) (p : Nat) (pre : Bool) : List Nat :=
  if s.inWindow p then [] else (List.range 128).filter fun n => (s.qu (128 * p + n)).urgent.isSome && s.eligible p n pre

/-- The Urgent queue marked earliest, the lower number on a tie. -/
def State.urgentPick (s : State) (p : Nat) (pre : Bool) : Option Nat :=
  (s.urgentReady p pre).foldl (fun best n =>
    match best with
    | none => some n
    | some m => if (s.qu (128 * p + n)).urgent.getD 0 < (s.qu (128 * p + m)).urgent.getD 0 then some n else some m) none

/-- The queue that DWRR chooses in a class: the smallest start tag, the lowest n on a tie (R230). -/
def State.dwrrPick (s : State) (p c : Nat) (pre : Bool) : Option Nat :=
  ((List.range 16).map fun n => 16 * c + n).foldl (fun best n =>
    if s.eligible p n pre then
      match best with
      | none => some n
      | some m => if tagDiff (s.qu (128 * p + n)).tag (s.qu (128 * p + m)).tag < 0 then some n else some m
    else best) none

/-- The queue that the Shuttle chooses (R222), and whether as a rescue. -/
def State.selectPick (s : State) (p : Nat) (pre : Bool) : Option (Nat × Bool) :=
  match s.urgentPick p pre with
  | some n => some (n, true)
  | none => ([7, 6, 5, 4, 3, 2, 1, 0].findSome? fun c => s.dwrrPick p c pre).map fun n => (n, false)

/-- The DWRR tag after a selection (R230): a WEIGHT that waits applies from this tag update. -/
def State.dwrrCharge (s : State) (p n bytes : Nat) : State :=
  let s := s.takeB ⟨.SHTL_Q_SEL, p, n⟩ .SHTL_Q_SEL_WEIGHT
  let q := 128 * p + n
  let tag := (s.qu q).tag
  let w := max 1 (s.fld .SHTL_Q_SEL_WEIGHT p n)
  let s := s.updPt p fun x => { x with vt := x.vt.set 0 (n / 16) tag }
  s.updQu q fun x => { x with tag := (tag + (Frac.toWord (Frac.norm (bytes * 256 : Nat) w)).toNat) % 2 ^ 48 }

/-- The head frame of a queue is handed to a path (R185, R222): it keeps its cells and its place in the depth. -/
def State.handOver (s : State) (p n : Nat) (pre rescue : Bool) : State :=
  let q := 128 * p + n
  match (s.qu q).frames with
  | [] => s
  | fr :: tl =>
    let bytes := s.charged p fr
    let s := (s.dwrrCharge p n bytes).chargeTokens p n bytes
    let s := if rescue then
        ((s.updQu q fun x => { x with urgent := none, rescued := some s.lNow }).portCount p 56).pecEvent p 4 (some (n / 16)) n
      else s
    let s := s.updQu q fun x => { x with frames := tl, urgent := if tl.isEmpty then none else x.urgent }
    let f : PathFrame := { fr := fr, bytes := fr.data }
    s.updPt p fun x => if pre then { x with preempt := some { f with no := x.preNo }, preNo := (x.preNo + 1) % 4 } else { x with express := some f }

/-- A selection opportunity of a path (R220, R222). -/
def State.shuttleSelect (s : State) (p : Nat) (pre : Bool) : State :=
  let s := s.returnPaused p
  let free := if pre then (s.pt p).preempt.isNone else (s.pt p).express.isNone
  if s.portTakes p && free then
    let s := (s.urgentReady p pre).foldl (fun a n => a.updQu (128 * p + n) fun x => { x with opp := true }) s
    match s.selectPick p pre with
    | some (n, rescue) => s.handOver p n pre rescue
    | none => s
  else s

/-! ## Rescue (R233) -/

/-- A queue is marked Urgent. -/
def State.rescueDue (s : State) (p n : Nat) : Bool :=
  let c := n / 16
  let age := s.fld .SHTL_Q_SEL_RESCUE_AGE p n
  let x := s.qu (128 * p + n)
  match x.frames with
  | [] => false
  | fr :: _ =>
    age != 0 && !s.isSched p c && x.urgent.isNone && x.park.isNone && !s.paused p c && decide (fr.admL + age * 1000 * nsT < s.lNow)
      && (x.rescued.all fun t => decide (t + age * 1000 * nsT < s.lNow))

/-- The condition of R233 evaluated for the queues of a port. -/
def State.rescueEval (s : State) (p : Nat) : State :=
  (List.range 128).foldl (fun a n =>
    if a.rescueDue p n then a.updQu (128 * p + n) fun x => { x with urgent := some s.lNow, opp := false } else a) s

/-! ## Queue commands (R200, R201) -/

/-- Q_CMD.GO with its fields: ignored while an operation is in progress (R201). -/
def State.qCmd (s : State) (p op : Nat) (all : Bool) (queue : Nat) (k : State → State) : State :=
  let s := s.setFlds p 0 [(.SHTL_Q_CMD_OP, op), (.SHTL_Q_CMD_ALL, b2n all), (.SHTL_Q_CMD_QUEUE, queue)]
  if s.on .SHTL_Q_CMD_BUSY p then s.event .SHTL_BUF_EVENT_CMD_COLLIDE (boltOf p) else k s

/-- FLUSH (R200). -/
def State.flush (s : State) (p : Nat) (all : Bool) (n : Nat) : State :=
  let s := s.setFld .SHTL_Q_CMD_BUSY p 0 1
  if all then s.flushPort p else s.flushQueue (128 * p + n)

/-- The flush is done: cells returned, BUSY 0, FLUSH_DONE (R200). -/
def State.flushDone (s : State) (p : Nat) : State :=
  if s.on .SHTL_Q_CMD_BUSY p then ((s.flushReturn p).setFld .SHTL_Q_CMD_BUSY p 0 0).event .SHTL_BUF_EVENT_FLUSH_DONE (boltOf p) else s

/-- CLEAR_MAX (R201). -/
def State.clearMax (s : State) (p : Nat) (all : Bool) (n : Nat) : State :=
  let one (a : State) (q : Nat) : State := a.updQu q fun x => { x with maxCells := x.cells, maxSojourn := 0 }
  if all then (List.range 128).foldl (fun a n => one a (128 * p + n)) s else one s (128 * p + n)

/-! ## The commands -/

/-- QUEUE_FLUSH (R200, R201). -/
def execQueueFlush (r : Req) (p : Port) (all : Bool) (n : Fin 128) (s : State) : Host.Outcome State Fault Refusal :=
  done (s.writing r .SHTL_Q_CMD p 0 fun s => s.qCmd p 0 all n fun s => s.flush p all n)
/-- QUEUE_FLUSH_DONE (R200). -/
def execQueueFlushDone (p : Port) (s : State) : Host.Outcome State Fault Refusal := done (s.powered fun s => s.flushDone p)
/-- QUEUE_CLEAR_MAX (R201). -/
def execQueueClearMax (r : Req) (p : Port) (all : Bool) (n : Fin 128) (s : State) : Host.Outcome State Fault Refusal :=
  done (s.writing r .SHTL_Q_CMD p 0 fun s => s.qCmd p 1 all n fun s => s.clearMax p all n)
/-- STAGING_POINT (R29, R244, R302): of a window of a class, or of a BEACON. -/
def execStagingPoint (p : Port) (cls : Option (Fin 8)) (s : State) : Host.Outcome State Fault Refusal :=
  done (s.powered fun s => match cls with
    | some c => s.stagingPoint p c
    | none => s.beaconPoint p)
/-- STAGE_FRAME (R221, R243). -/
def execStageFrame (p : Port) (delayPs : Nat) (e : BufErr) (s : State) : Host.Outcome State Fault Refusal := done (s.powered fun s => s.stageFrame p delayPs e)
/-- STORE_FULL_WINDOW (R249). -/
def execStoreFullWindow (p : Port) (cls : Fin 8) (s : State) : Host.Outcome State Fault Refusal := done (s.powered fun s => s.storeFullWindow p cls)
/-- SHUTTLE_SELECT (R220, R222). -/
def execShuttleSelect (p : Port) (pre : Bool) (s : State) : Host.Outcome State Fault Refusal := done (s.powered fun s => s.shuttleSelect p pre)
/-- CALENDAR_COARSE_VISIT (R227). -/
def execCalendarCoarseVisit (b : Bolt) (s : State) : Host.Outcome State Fault Refusal := done (s.powered fun s => s.coarseVisit b)
/-- CALENDAR_FINE_DUE (R227). -/
def execCalendarFineDue (b : Bolt) (s : State) : Host.Outcome State Fault Refusal := done (s.powered fun s => s.fineDue b)
/-- Q_SHAPE_WRITE (R229). -/
def execQShapeWrite (r : Req) (p : Port) (n : Fin 128) (v : BitVec 64) (s : State) : Host.Outcome State Fault Refusal :=
  done (s.writing r .SHTL_Q_SHAPE p n fun s => s.shapeWrite p n v.toNat)
/-- RESCUE_EVALUATE (R233). -/
def execRescueEvaluate (p : Port) (s : State) : Host.Outcome State Fault Refusal := done (s.powered fun s => s.rescueEval p)

end Sys2Proof.Machine
end

