-- ==== Sys2Proof/Machine/LinkOps.lean ====
section
/-!
DEFINITION. Links going up and down (09.2), as operations that the Selvedge, the MAC and the reset share.
-/
namespace Sys2Proof.Machine

def State.linkState (s : State) (p : Nat) : Nat := s.fld .MAC_LINK_STATUS_STATE p
def State.updMac (s : State) (p : Nat) (f : MacSt → MacSt) : State := s.updPt p fun x => { x with mac := f x.mac }

/-- The verify state, with pre-emption active in DISABLED and SUCCEEDED while EN = 1 and the link is up (R263, R264). -/
def State.setVerify (s : State) (p st : Nat) : State :=
  s.setFlds p 0 [(.SELV_PREEMPT_STATUS_VERIFY_STATE, st),
    (.SELV_PREEMPT_STATUS_ACTIVE,
      b2n (s.on .SELV_PREEMPT_CFG_EN p && !multidrop p && s.linkState p == 6 && ((st == 0 && s.on .SELV_PREEMPT_CFG_VERIFY_DIS p) || st == 3)))]

/-- The verify state where a link goes up or down: INIT, or DISABLED with VERIFY_DIS = 1 or without pre-emption (R264). -/
def State.verifyRest (s : State) (p : Nat) : State :=
  let s := s.updPt p fun x => { x with verify := false, respond := false }
  (s.setFld .SELV_PREEMPT_STATUS_ATTEMPTS p 0 0).setVerify p (if s.on .SELV_PREEMPT_CFG_EN p && !s.on .SELV_PREEMPT_CFG_VERIFY_DIS p && !multidrop p then 1 else 0)

/-- The Seam discards the frame under assembly, counted under a word of Table 16-2 (R268). -/
def State.seamDrop (s : State) (p word : Nat) : State :=
  (((s.updPt p fun x => { x with seam := none }).setFld .SELV_PREEMPT_STATUS_SEAM_BUSY p 0 0).portCount p word).event .SELV_EVENT_SEAM_ERR p

/-- The link leaves UP for another state (R278). -/
def State.linkDown (s : State) (p next : Nat) : State :=
  let master := s.pcState p == 5
  let s := s.slotsCut p
  let s := if (s.pt p).tx.isSome then (s.abortTx p 37).portCount p 37 else s
  let s := ((s.dropStaged p fun _ => false).dropPaths p).dropBeacon p
  let s := s.withSched p fun s => s.setFlds p 0 [(.MAC_LINK_STATUS_STATE, next), (.MAC_LINK_STATUS_SPEED, 0), (.SELV_GRID_STATUS_STEP_PS, 0),
    (.SELV_GRID_STATUS_LOCKED, 0), (.SELV_GRID_STATUS_SLEWING, 0)]
  let s := if s.on .MAC_CFG_DOWN_ACT p then
      ((s.updMac p fun m => { m with downFlush := true }).flushPort p).setFld .SHTL_Q_CMD_BUSY p 0 1
    else s
  let s := (s.updMac p fun m => { m with pauseEnd := [], pauseBind := [], ctrl := none, xoff := false, disabling := false }).retagClasses p 255
  let s := if (s.pt p).seam.isSome then s.seamDrop p 31 else s
  let s := (((s.verifyRest p).updPt p fun x => { x with partnerFrag := 0 }).setFlds p 0 [(.MAC_MD_STATUS_ATTEMPTS, 0), (.MAC_MD_STATUS_PLCA_OK, 0)]).pcOff p
  let s := ((s.event .MAC_EVENT_LINK_DOWN p).portCount p 54).fault 1 0 p
  if master && s.dev == .lead then s.fault 2 0 p else s

/-- What the transmitter sends between frames (Table 09-2): nothing in DISABLED, the exchange in NEGOTIATING, Remote Fault on Local Fault, and idle. -/
def State.lineSends (s : State) (p : Nat) : Nat :=
  match s.linkState p with
  | 0 => 0
  | 3 => 3
  | 4 => if s.on .MAC_LINK_STATUS_LF p then 2 else 1
  | _ => 1

/-- The transmitter sends what the link state asks for (R275). -/
def State.line (s : State) (p : Nat) : State := s.emit (.line p (s.lineSends p))

/-- The link passes to a state that is not UP; below NEGOTIATING nothing is received, no fault either (R275). -/
def State.linkTo (s : State) (p next : Nat) : State :=
  let s := if s.linkState p = 6 then s.linkDown p next else s.setFld .MAC_LINK_STATUS_STATE p 0 next
  let s := if next = 5 then s.updMac p fun m => { m with holdSince := s.lNow } else s
  (if next < 3 then s.setFlds p 0 [(.MAC_LINK_STATUS_LF, 0), (.MAC_LINK_STATUS_RF, 0)] else s).line p

/-- A transmission has ended on a port whose MAC was disabled meanwhile (Table 09-7). -/
def State.disableAfter (s : State) (p : Nat) : State := if (s.pt p).mac.disabling && (s.pt p).tx.isNone then s.linkTo p 0 else s

/-- The entry to UP (R279, R293); a PLCA coordinator sends the BEACON of its first cycle (R295, R296). -/
def State.linkUp (s : State) (p : Nat) : State :=
  let speed := s.portSpeed p
  let s := s.setFlds p 0 [(.MAC_LINK_STATUS_STATE, 6), (.MAC_LINK_STATUS_SPEED, speed), (.SELV_GRID_STATUS_STEP_PS, gridPs speed)]
  let s := (s.event .MAC_EVENT_LINK_UP p).gridUnlock p
  let seed := Config.lfsrSeed (s.lNs % 65536) (s.fld .BOOT_STATUS_DEV_ID) p
  let s := s.updMac p fun m => { m with downFlush := false, lfsr := seed, carrier := false, mayStart := 0, backoffEnd := none, lastBeacon := s.lNow, oppNode := 0, oppAt := s.lNow, oppFrames := 0 }
  let s := if multidrop p ∧ s.fld .MAC_MD_CFG_MODE p = 1 ∧ s.fld .MAC_PLCA_CFG_NODE_ID p = 0 then (s.setFld .MAC_MD_STATUS_PLCA_OK p 0 1).emit (.wire p 6 [] [] true) else s
  let s := ((s.verifyRest p).emit (.service 10 p 0 6)).emit (.service 8 p 0 6)
  ((s.setSlotAcct p { upAt := s.lNow }).fcPort p).line p

end Sys2Proof.Machine
end

