-- ==== Sys2Proof/Machine/Selvedge.lean ====
section
/-!
DEFINITION. The Selvedge (chapter 08): release of staged frames, starts of path frames under the Hem, cuts, the Hem guardian, pre-emption and its verification,
and the update of a port's copies of domain time (R46).
-/
namespace Sys2Proof.Machine

/-! ## The port's time -/

/-- An L time as a time of the port's schedule domain, and back: within a transmission the two run at one rate. -/
def State.toD (s : State) (p l : Nat) : Int := (s.nowR p : Int) + l - s.lNow
def State.toL (s : State) (p : Nat) (t : Int) : Nat := ((s.lNow : Int) + t - s.nowR p).toNat

/-- Grid step of the port in ps (R238). -/
def State.gridStep (s : State) (p : Nat) : Nat := gridPs (s.fld .MAC_LINK_STATUS_SPEED p)

/-- The first grid point at or after a time of the port's schedule domain: the grid lies in the domain that the lane's grid follows (R238, R241). -/
def State.gridAt (s : State) (p : Nat) (t : Int) : Nat :=
  let off : Int := (s.relD p (s.gridDom p) : Int) - s.nowR p
  ((gridUp (s.gridStep p) (t + off).toNat : Int) - off).toNat

/-- The minimum gap of the port, as a time (Table 08-1). -/
def State.gapT (s : State) (p : Nat) : Nat := s.wireT p (minGap (s.fld .MAC_LINK_STATUS_SPEED p))

/-- The domain time from which the wire is free, the minimum gap included. -/
def State.wireFree (s : State) (p : Nat) : Int :=
  s.toD p (match (s.pt p).tx with
    | some t => t.endL
    | none => (s.pt p).lastEnd) + s.gapT p

/-- The first start position of the port at or after a domain time (R238). -/
def State.nextStart (s : State) (p : Nat) (t : Int) : Nat := s.gridAt p (max t (s.wireFree p))

/-- Wire time of a whole frame of `n` bytes before its FCS: preamble, frame and FCS. -/
def State.wholeT (s : State) (p n : Nat) : Nat := s.wireT p (8 + n + 4)

/-! ## Hem and windows (R251 to R254) -/

/-- addFragSize as the port uses it: its own, or the partner's where that is larger (R263). -/
def State.addFrag (s : State) (p : Nat) : Nat := max (s.fld .SELV_PREEMPT_CFG_ADD_FRAG p) (s.pt p).partnerFrag

/-- The Hem (R251). -/
def State.hemT (s : State) (p : Nat) : Nat :=
  let d := 16 * nsT + (if s.on .SELV_PREEMPT_STATUS_ACTIVE p then s.wireT p (20 + 64 * (s.addFrag p + 1)) else 0)
  max d (s.fld .SELV_HEM_CFG_HEM p * nsT)

def cutT : Nat := 16 * nsT

/-- The next window that has a Hem and opens after a time, within a horizon. -/
def State.nextHem (s : State) (p : Nat) (t upto : Int) : Option Win :=
  ((s.sched p).windows (s.fld .SHTL_GCL_CFG_SCHED_TC p) t upto).find? fun w => !w.noHem && decide (t < w.openT)

/-- The train of a window has ended: frames were handed over and all have gone (R254). -/
def State.trainDone (s : State) (p : Nat) (w : Win) : Bool :=
  (s.pt p).wins.any fun x => x.cls == w.cls && (x.openT : Int) == w.openT && x.last.isSome
    && !((s.pt p).staged.any fun f => f.cls == x.cls && f.openT == x.openT && !f.doomed)

/-- A window keeps other transmissions off the wire at a domain time (R254). -/
def State.inTrain (s : State) (p : Nat) (t : Int) : Bool :=
  ((s.sched p).windows (s.fld .SHTL_GCL_CFG_SCHED_TC p) t t).any fun w =>
    decide ((s.gridAt p w.openT : Int) ≤ t) && decide (t < w.closeT) && !s.trainDone p w

/-- A transmission of a given wire time, its minimum gap included, may start at a domain time (R253, R254, R306). -/
def State.expressFits (s : State) (p : Nat) (t : Int) (dur : Nat) : Bool :=
  !s.inTrain p t
    && (match s.nextHem p t (t + (dur + s.hemT p + cutT : Nat)) with
        | some w => decide (t < w.openT - s.hemT p) && decide (t + (dur : Nat) ≤ w.openT - (cutT : Nat))
        | none => true)
    && (match s.ownEnd p with
        | some e => decide (t + (dur : Nat) ≤ (e : Int))
        | none => true)

/-! ## The guardian's reports (R261) -/

/-- A block (word 47) or cut (word 48) is counted, flagged and reported: Degraded at most once per microsecond, Fatal at sixteen within 1 ms (R261). -/
def State.guardReport (s : State) (p : Nat) (cut : Bool) : State :=
  let now := s.lNow
  let g := (s.pt p).guard
  let l := (g.blocks.filter fun t => decide (now ≤ t + 1000000 * nsT)) ++ [now]
  let due := g.lastFault.all fun t => decide (t + 1000 * nsT ≤ now)
  let s := (s.portCount p (if cut then 48 else 47)).event (if cut then .SELV_EVENT_GUARD_CUT else .SELV_EVENT_GUARD_BLOCK) p
  let s := s.updPt p fun x => { x with guard := { g with blocks := l, lastFault := if due then some now else g.lastFault } }
  if 16 ≤ l.length then s.fault 3 5 p else if due then s.fault 2 5 p else s

/-- The guardian lets a scheduled frame pass, in guardian time (R258). -/
def State.guardPass (s : State) (p cls : Nat) (t stop : Int) : Bool :=
  let t := s.toG p t
  let stop := s.toG p stop
  let tol : Int := psT (guardTolPs p)
  let mask := s.fld .SELV_GUARD_STATUS_SCHED_TC p
  !mask.testBit cls || ((s.sched p true).windows (2 ^ cls) (t - tol) (t + tol)).any fun w =>
    decide (w.openT - tol ≤ t) && decide (stop ≤ w.closeT + tol) && decide (t < w.closeT + tol)

/-! ## Starts -/

/-- A transmission begins; on a PLCA segment it counts in the port's opportunity (R295). -/
def State.begin (s : State) (p : Nat) (x : Tx) : State :=
  s.updPt p fun y => { y with tx := some x, lastStart := x.startL, mac := { y.mac with oppFrames := y.mac.oppFrames + 1 } }

/-- What a multidrop port senses of its line. -/
def State.sense (s : State) (p : Nat) (carrier : Bool) : State :=
  if multidrop p then s.updPt p fun x => { x with mac := { x.mac with carrier := carrier, carrierAt := if carrier && !x.mac.carrier then s.lNow else x.mac.carrierAt } } else s

/-- The next planned position of a window's train after a frame that ends at a time (R245, R254). -/
def State.trainMove (s : State) (p : Nat) (w : StgWin) (stop : Int) : State :=
  let n := s.gridAt p (stop + s.gapT p)
  (s.updWin p w.cls w.openT fun x => { x with nextT := some n, last := some stop.toNat, waits := false }).updPt p fun x => { x with cursor := some (w.openT, n) }

/-- Frames of a port taken out of the staging store. -/
def State.unstage (s : State) (p : Nat) (f : Staged) : State := s.updPt p fun x => { x with staged := x.staged.erase f }

/-- A staged frame discarded under R248, when it is fully staged. -/
def State.lateDrop (s : State) (p : Nat) (f : Staged) : State :=
  if f.fullAt ≤ s.lNow then ((s.unstage p f).portCount p 45).loseStaged f 45
  else s.updPt p fun x => { x with staged := x.staged.map fun g => if g = f then { g with doomed := true } else g }

/-- Staged frames to be discarded that have become fully staged (R248). -/
def State.lateSweep (s : State) (p : Nat) : State :=
  ((s.pt p).staged.filter fun f => f.doomed && decide (f.fullAt ≤ s.lNow)).foldl (fun a f => a.lateDrop p f) s

/-- A staged frame is late, counted once (R248). -/
def State.markLate (s : State) (p : Nat) (f : Staged) : Staged × State :=
  if f.counted then (f, s)
  else
    let g := { f with counted := true }
    let s := s.updPt p fun x => { x with staged := x.staged.map fun h => if h = f then g else h }
    (g, ((s.event .SELV_EVENT_LATE p).portCount p 44).pecEvent p 7 (some f.cls) (qLocal f.fr.q))

/-- The launch of a staged frame at its planned release point `t`: egress action and timestamp, then its first bit (R51, R52, R245, R342). -/
def State.launch (s : State) (p : Nat) (w : StgWin) (f : Staged) (t : Nat) : State :=
  let startL := s.toL p t
  let (d, skipped, ts) := s.applyAct p f.fr f.bytes startL
  let stop := t + s.wholeT p d.length
  let s := if skipped then s.portCount p 39 else s
  let s := (s.unstage p f).trainMove p w stop
  let s := if f.fr.act = .none then s else s.hostFate f.fr (if skipped then 5 else 0) (ts.map (·.2))
  let s := s.noteStamp p f.fr ts
  s.begin p { kind := .staged w.cls w.openT w.closeT, path := { fr := f.fr, bytes := d }, startL := startL, endL := startL + s.wholeT p d.length,
              upto := d.length, ts := ts, skipped := skipped, late := f.counted }

/-- The planned release point of a window's next frame (R245, R254). -/
def State.planned (s : State) (p : Nat) (w : StgWin) : Nat :=
  match w.nextT with
  | some t => t
  | none =>
    let t := s.gridAt p w.openT
    match (s.pt p).cursor with
    | some (o, c) => if o = w.openT then max t c else t
    | none => t

/-- A planned point moved later. -/
def State.replan (s : State) (p : Nat) (w : StgWin) (t : Nat) : State := s.updWin p w.cls w.openT fun x => { x with nextT := some t, waits := false }

/-- Another window keeps a window's train off the wire at a point: its Hem (R251), or its own train, which began before or goes first at one gate-open time (R254). -/
def State.otherTrain (s : State) (p : Nat) (w : StgWin) (t : Nat) : Bool :=
  ((s.sched p).windows (s.fld .SHTL_GCL_CFG_SCHED_TC p) t (t + s.hemT p)).any fun x =>
    !(x.cls == w.cls && x.openT == (w.openT : Int)) &&
      ((!x.noHem && decide ((t : Int) < x.openT) && decide (x.openT - s.hemT p ≤ (t : Int)))
        || (decide ((s.gridAt p x.openT : Int) ≤ t) && decide ((t : Int) < x.closeT) && !s.trainDone p x && !(x.openT == (w.openT : Int) && decide (x.cls < w.cls))))

/-- The point at which a window's next frame would start now: its planned point, or the first grid point from now on where it had to wait there. -/
def State.point (s : State) (p : Nat) (w : StgWin) : Nat := if w.waits then s.gridAt p (max (s.planned p w) (s.nowR p)) else s.planned p w

/-- The frame to release: of the first window in train order that no other window's train keeps off the wire, or of the first window. -/
def State.launchPick (s : State) (p : Nat) : Option (StgWin × Staged) :=
  let l := (s.winOrder p).filterMap fun w => ((s.pt p).staged.find? fun f => f.cls == w.cls && f.openT == w.openT && !f.doomed).map fun f => (w, f)
  match l.find? fun e => !s.otherTrain p e.1 (s.point p e.1) with
  | some e => some e
  | none => l.head?

/-- A window's next frame waits past its planned point. -/
def State.holdTrain (s : State) (p : Nat) (w : StgWin) : State := s.updWin p w.cls w.openT fun x => { x with waits := true }

/-- The guardian decides on a staged frame, and it is launched or lost (R258, R262, R307). -/
def State.guardLaunch (s : State) (p : Nat) (w : StgWin) (f : Staged) (t : Nat) : State :=
  let stop := t + s.wholeT p f.bytes.length
  if s.on .SELV_GUARD_STATUS_COPY_HOLD p then (((s.unstage p f).trainMove p w stop).portCount p 46).loseStaged f 46
  else if !s.guardPass p w.cls t stop || !s.guardSlotOk p t stop then (((s.unstage p f).trainMove p w stop).guardReport p false).loseStaged f 47
  else s.launch p w f t

/-- The release sequencer at a release point `t` (R245, R247, R248, R254). -/
def State.sequence (s : State) (p : Nat) (w : StgWin) (f : Staged) (t : Nat) : State :=
  let stop := t + s.wholeT p f.bytes.length
  let free := s.wireFree p
  let busy := decide ((t : Int) < free)
  let early := busy && decide (s.toD p (s.pt p).lastStart < (s.gridAt p w.openT : Int))
  let held := multidrop p && (!s.mediumOk p t true || decide (s.planned p w + 200 * nsT < t))
  let late := !early && (decide (s.toL p t < f.fullAt) || held)
  let (f, s) := if late then s.markLate p f else (f, s)
  if w.closeT < stop then (s.trainMove p w stop).lateDrop p f
  else if busy && !late then s.replan p w (s.gridAt p free)
  else if late then
    if s.on .SELV_STAGE_CFG_LATE_ACT p then s.replan p w (s.gridAt p (max (max (s.nowR p : Int) (t + 1)) (max free (s.toD p f.fullAt))))
    else (s.trainMove p w stop).lateDrop p f
  else if s.otherTrain p w t then s.holdTrain p w
  else s.guardLaunch p w f t

/-! ## The BEACON of a Polled Cycle master (R302, R303) -/

/-- The BEACON of a cycle start is dealt with. -/
def State.beaconOver (s : State) (p t : Nat) : State := s.updMdp p fun x => { x with staged := none, beaconAt := some t, beaconWaits := false }

/-- A BEACON that is late: discarded whatever LATE_ACT says (R248, R302). -/
def State.beaconLate (s : State) (p : Nat) : State := (((s.event .SELV_EVENT_LATE p).portCount p 44).portCount p 45).portCount p 27

/-- The BEACON of the cycle that starts at `t`, sent from domain time `start` on with the egress timestamp of its planned release point (R303). -/
def State.beaconSend (s : State) (p t plan start : Nat) (inSync : Bool) : State :=
  let e := s.egressTime p (s.schedDom p) (s.toL p plan)
  let cyc := s.pcCycle p t
  let d := s.pcFrame p t 0x51 (b2n inSync * 128 + b2n (s.pt p).mdp.handover * 64) cyc (secOf e) (nsOf e) (s.fld .MDP_PC_CFG_RANK p) 0 0
  let s := (s.updMdp p fun x => { x with handover := false }).setFlds p 0
    [(.MDP_PC_STATUS_CYCLE, cyc), (.MDP_PC_STATUS_RX_IN_SYNC, b2n inSync), (.MDP_PC_STATUS_ORIGIN, s.pcOrigin p)]
  (s.portCount p 24).begin p
    { kind := .polled, path := { fr := { data := d }, bytes := d }, startL := s.toL p start, endL := s.toL p start + s.wholeT p 60, upto := 60 }

/-- The release of the staged BEACON at the first start position from its planned release point on (R238, R302): it waits up to 200 ns for the medium, and is late then (R247); the
guardian lets it pass within the beacon period (R307). From the cycle start at which the partner is master it is withdrawn (R324). Log entry 117. -/
def State.beaconLaunch (s : State) (p t : Nat) (inSync : Bool) : State :=
  let m := (s.pt p).mdp
  let plan := s.gridAt p t
  let start := s.nextStart p (if m.beaconWaits then max plan (s.nowR p) else plan)
  let barred := (s.pt p).mac.carrier || (s.pt p).tx.isSome
  if s.pcState p ≠ 5 ∨ !s.alive ∨ m.handEnd.any (fun h => decide (h ≤ t)) = true then s.beaconOver p t
  else if barred && decide (s.nowR p ≤ plan + 200 * nsT) then s.updMdp p fun x => { x with beaconWaits := true }
  else if barred || decide (plan + 200 * nsT < start) then (s.beaconOver p t).beaconLate p
  else if !s.guardSlotOk p start (start + s.wholeT p 60) true then (s.beaconOver p t).guardReport p false
  else (s.beaconOver p t).beaconSend p t plan start inSync

/-- FRAME_LAUNCH: a BEACON due first, then the head frame of the trains (R245, R302). -/
def State.frameLaunch (s : State) (p : Nat) : State :=
  let s := (s.stagedFree p).lateSweep p
  match (s.pt p).mdp.staged with
  | some (t, sync) => if t ≤ s.nowR p then s.beaconLaunch p t sync else s
  | none =>
    match s.launchPick p with
    | none => s
    | some (w, f) =>
      let t := s.point p w
      let waits := multidrop p && !s.mediumOk p t true && decide (s.nowR p ≤ s.planned p w + 200 * nsT)
      let ends := (s.pt p).tx.any fun x => decide (s.toD p x.endL + s.gapT p ≤ (t : Int))
      if s.nowR p < s.planned p w ∨ ends = true ∨ !s.alive then s
      else if waits then s.holdTrain p w
      else s.sequence p w f t

/-! ## Pre-emptable fragments (R252, R255, R256, R263) -/

/-- The least number of data bytes of a fragment before a legal cut (R263). -/
def State.minFrag (s : State) (p : Nat) : Nat := 64 * (s.addFrag p + 1)

/-- A cut after `n` data bytes of a fragment is legal where `left` bytes of the frame before its FCS lay before it (R263). -/
def State.legalCut (s : State) (p left n : Nat) : Bool :=
  decide (s.minFrag p ≤ n + 4) && decide (n % 8 = 0) && decide (n + 64 ≤ left + 4)

/-- The legal cuts of a fragment, in rising order. -/
def State.cuts (s : State) (p left : Nat) : List Nat := ((List.range (left / 8 + 1)).map (8 * ·)).filter (s.legalCut p left)

/-- Wire time of a fragment cut after `n` data bytes: preamble, data and mCRC. -/
def State.fragT (s : State) (p n : Nat) : Nat := s.wireT p (8 + n + 4)

/-- How much of the rest of a frame may be sent from a domain time on: all of it, or up to the latest cut that clears the wire for the next Hem (R252). -/
def State.fragPlan (s : State) (p : Nat) (t : Int) (left : Nat) : Option (Nat × Bool) :=
  let gap := s.gapT p
  match s.nextHem p t (t + (s.wholeT p left + gap + s.hemT p + cutT : Nat)) with
  | none => some (left, true)
  | some w =>
    let lim := w.openT - (cutT : Nat)
    if w.openT - s.hemT p ≤ t then none
    else if t + (s.wholeT p left + gap : Nat) ≤ lim then some (left, true)
    else ((s.cuts p left).reverse.find? fun n => decide (t + (s.fragT p n + gap : Nat) ≤ lim)).map fun n => (n, false)

/-- The entry of a list in force at a time has EXPRESS_ONLY = 1; the guardian looks at its own copy in its own time (R256, R257, R259). -/
def State.expressOnly (s : State) (p : Nat) (t : Int) (guard : Bool) : Bool :=
  match (s.sched p guard).spanAt (if guard then s.toG p t else t) with
  | some (_, x) => eXonly x.ent
  | none => false

/-- The hold request that the Selvedge applies at the present time: changes ahead count by HOLD_ADV and RELEASE_ADV (R255). -/
def State.holdNow (s : State) (p : Nat) : Bool :=
  let now : Int := s.nowR p
  let adv := s.fld .SELV_HOLD_CFG_HOLD_ADV p
  let ha : Nat := if adv = 0 then s.wireT p (8 + 64 * (s.addFrag p + 1) + 63 + 12) else adv * nsT
  let ra : Nat := s.fld .SELV_HOLD_CFG_RELEASE_ADV p * nsT
  let spans := ((s.sched p).cyclesIn now (now + max ha ra)).map (·.spans)
  (spans.flatten.filter fun x => decide (now < x.start)).foldl (fun h x =>
    match eOp x.ent with
    | 1 => h || decide (x.start - ha ≤ now)
    | 2 => h && !decide (x.start - ra ≤ now)
    | _ => h) (s.on .SHTL_GCL_STATUS_HOLD p)

/-- A pre-emptable fragment starts or resumes at a start position (R252, R255, R256, R259, R266). -/
def State.startFrag (s : State) (p : Nat) (f : PathFrame) (t : Nat) (good : Bool) : State :=
  let left := f.bytes.length - f.sent
  if (s.pt p).holdApplied || s.expressOnly p t false || s.inTrain p t then s
  else
    match s.fragPlan p t left with
    | none => s
    | some (n, final) =>
      if s.expressOnly p t true then s.guardReport p false
      else
        let l := s.toL p t
        let f := { f with started := true, fcsOk := good, firstL := if f.started then f.firstL else l,
                          ts := if f.started then f.ts else if f.fr.act = .record then some (s.egressStamp p f.fr.tsDom l) else none }
        (s.updPt p fun x => { x with preempt := some f }).begin p
          { kind := .preempt, path := f, startL := l, endL := l + (if final then s.wholeT p n else s.fragT p n), upto := f.sent + n, final := final,
            good := good || !final, ts := f.ts }

/-! ## Starts of path, control and handshake transmissions (R253, R264, R287) -/

/-- An express transmission that is not staged starts at the first start position, where R253, R254, R307 and the medium permit. -/
def State.startExpress (s : State) (p n : Nat) (k : Nat → State) : State :=
  let t := s.nextStart p (s.nowR p)
  let dur := s.wholeT p n + s.gapT p
  if s.expressFits p t dur && s.mediumOk p t false then
    (if s.guardSlotOk p t (t + s.wholeT p n) then k t else s.guardReport p false)
  else s

/-- An express frame starts, from its path or as a retry, which is a new start (R294): its bytes after the tag editor and its action; errors of the read spoil its FCS (R198, R288,
R470). -/
def State.startPath (s : State) (p : Nat) (f : PathFrame) (e : BufErr) (t : Nat) : State :=
  let s := s.bufErr (boltOf p) e
  let l := s.toL p t
  let (d, skipped, ts) := s.applyAct p f.fr (s.editFrame p f.fr) l
  let s := if skipped && !f.skipped then s.portCount p 39 else s
  let s := if seqMissing f.fr && !f.started then s.portCount p 40 else s
  (s.updPt p fun x => if f.started then { x with retry := none } else { x with express := none }).begin p
    { kind := .express, path := { f with bytes := d, started := true, fcsOk := !bufSpoils e, skipped := skipped || f.skipped }, startL := l, endL := l + s.wholeT p d.length, upto := d.length,
      good := !bufSpoils e, ts := ts, skipped := skipped }

/-- The express frame that waits starts (R253); a copy too long after the editor is discarded (R166). -/
def State.startExpressFrame (s : State) (p : Nat) (f : PathFrame) (e : BufErr) : State :=
  let n := (s.editFrame p f.fr).length
  let c := qTc f.fr.q
  if 9216 < n + 4 then ((s.updPt p fun x => { x with express := none }).portCount p 41).discardHeld f.fr 9 41 0
  else if s.gateOpen p c && s.gateFits p c f.fr (s.nextStart p (s.nowR p)) then s.startExpress p n fun t => s.startPath p f e t
  else s

/-- The pre-emptable frame that waits starts with its first fragment. -/
def State.startPreFrame (s : State) (p : Nat) (f : PathFrame) (e : BufErr) : State :=
  let d := s.editFrame p f.fr
  if 9216 < d.length + 4 then ((s.updPt p fun x => { x with preempt := none }).portCount p 41).discardHeld f.fr 9 41 0
  else if s.gateOpen p (qTc f.fr.q) && s.mediumOk p (s.nextStart p (s.nowR p)) false then
    let t := s.nextStart p (s.nowR p)
    let a := s.startFrag p { f with bytes := d } t (!bufSpoils e)
    if a.pt p = s.pt p ∨ (a.pt p).tx.isNone then a
    else
      let a := a.bufErr (boltOf p) e
      if seqMissing f.fr then a.portCount p 40 else a
  else s

/-- A transmission of bytes the port builds itself. -/
def State.startOwn (s : State) (p : Nat) (k : TxKind) (d : List Byte) (f : PortSt → PortSt) : State :=
  s.startExpress p d.length fun t =>
    (s.updPt p f).begin p { kind := k, path := { fr := { data := d }, bytes := d }, startL := s.toL p t, endL := s.toL p t + s.wholeT p d.length, upto := d.length }

/-- A start other than of a staged frame. A control frame goes ahead of every selected frame (R287); mPackets are sent while RUN = 0 too (R250). -/
def State.transmitStart (s : State) (p : Nat) (k : TxPick) (e : BufErr) : State :=
  let s := s.returnPaused p
  let x := s.pt p
  let run := s.on .SELV_CTRL_RUN p
  if !s.alive || x.tx.isSome || s.fld .MAC_LINK_STATUS_STATE p != 6 then s
  else
    match k with
    | .control =>
      (match x.mac.ctrl with
       | some d => if run then s.startOwn p .control d fun y => { y with mac := { y.mac with ctrl := none } } else s
       | none => s)
    | .verify => if x.verify then s.startOwn p .verify (padTo 60 []) fun y => { y with verify := false } else s
    | .respond => if x.respond then s.startOwn p .respond (padTo 60 []) fun y => { y with respond := false } else s
    | .express =>
      (match x.express with
       | some f => if run && x.mac.ctrl.isNone && x.retry.isNone then s.startExpressFrame p f e else s
       | none => s)
    | .preempt =>
      (match x.preempt with
       | some f => if run && x.mac.ctrl.isNone && !f.started then s.startPreFrame p f e else s
       | none => s)
    | .retry =>
      (match x.retry with
       | some f => if run then s.startExpress p (s.editFrame p f.fr).length fun t => s.startPath p f e t else s
       | none => s)

/-! ## Ends (R185, R342, R511) -/

/-- A frame has left the port: counts, fate, completion. `held` for a path frame, whose cells are freed now. -/
def State.frameGone (s : State) (p : Nat) (t : Tx) (held : Bool) : State :=
  let fr := t.path.fr
  let n := t.path.bytes.length + 4
  let s := (s.portCount p 33).portCount p 34 n
  let s := if held then (s.sojourn fr s.lNow).freeFrame fr else s
  if t.good then
    let s := (s.bump (queueWord fr.q 1)).pecEvent p 2 (some (qTc fr.q)) (qLocal fr.q)
    let s := s.fate { fr with preempted := decide (0 < t.path.frags) } 0 0 0 0 p fr.q (4 * b2n (!held) + 8 * b2n t.late) (some ((if held && t.path.firstL != 0 then t.path.firstL else t.startL) / nsT))
    let s := if held then s.noteStamp p fr t.ts else s
    if held then s.hostFate fr (if t.skipped then 5 else 0) (t.ts.map (·.2)) else s
  else s.lose fr 9 13 1 8

/-- The last bit of a transmission has left (R185). -/
def State.transmitDone (s : State) (p : Nat) : State :=
  match (s.pt p).tx with
  | none => s
  | some t =>
    if s.lNow < t.endL ∨ !t.final then s
    else
      let s := s.updPt p fun x => { x with tx := none, lastEnd := t.endL }
      let s := s.txEnded p t.good
      let s := s.emit (.wire p t.kind.code t.start (t.path.bytes.drop t.path.sent) t.good)
      let s := match t.kind with
        | .staged .. => s.frameGone p t false
        | .express => (s.setFld .MAC_MD_STATUS_ATTEMPTS p 0 0).frameGone p t true
        | .preempt => (((s.updPt p fun x => { x with preempt := none }).portCount p 35).frameGone p t true)
        | .control => (((s.portCount p 38).portCount p 33).portCount p 34 64)
        | .polled => (s.portCount p 33).portCount p 34 64
        | .verify => s
        | .respond => s
      s.disableAfter p

/-! ## Cuts (R226, R255, R260, R263) -/

/-- The pre-emptable fragment under way is planned to end at a cut: data bytes of the frame sent by then. -/
def State.planCut (s : State) (p : Nat) (t : Tx) (n : Nat) : State :=
  s.updPt p fun x => { x with tx := some { t with upto := t.path.sent + n, final := false, endL := t.startL + s.fragT p n, good := true } }

/-- The first legal cut at or after the present time, where it comes before the planned end (R255, R263). -/
def State.firstCut (s : State) (p : Nat) (t : Tx) (ok : Nat → Bool) : Option Nat :=
  let gone := s.sentBytes p t
  (s.cuts p (t.path.bytes.length - t.path.sent)).find? fun n =>
    decide (gone ≤ n) && decide (t.startL + s.fragT p n < t.endL) && ok n

/-- An express transmission that waits could start after a cut: a control frame, a Verify or Respond, or the express frame (R253, R254, R263, R264). -/
def State.expressAfter (s : State) (p : Nat) (t : Tx) (n : Nat) : Bool :=
  let at' := s.gridAt p (s.toD p (t.startL + s.fragT p n) + s.gapT p)
  let fits (len : Nat) : Bool := s.expressFits p at' (s.wholeT p len + s.gapT p)
  let x := s.pt p
  ((x.verify || x.respond) && fits 60) ||
    (match x.mac.ctrl, x.express with
     | some d, _ => fits d.length
     | none, some f => fits (s.editFrame p f.fr).length && s.gateOpen p (qTc f.fr.q) && s.gateFits p (qTc f.fr.q) f.fr at'
     | none, none => false)

/-- A fragment ends at its cut with its mCRC; the Shuttle charges the pre-emption (R226, R263). With RUN = 0 the frame is discarded (R250). -/
def State.cutDone (s : State) (p : Nat) (t : Tx) : State :=
  let f := { t.path with sent := t.upto, frags := t.path.frags + 1 }
  let s := s.updPt p fun x => { x with tx := none, lastEnd := t.endL, preempt := some f }
  let s := s.txEnded p true
  let s := s.emit (.wire p 1 t.start ((t.path.bytes.drop t.path.sent).take (t.upto - t.path.sent)) true)
  let s := ((s.portCount p 35).portCount p 36).pecEvent p 6 (some (qTc f.fr.q)) (qLocal f.fr.q)
  let s := s.chargeTokens p (qLocal f.fr.q) 24
  (if s.on .SELV_CTRL_RUN p then s else s.dropPaths p).disableAfter p

/-- FRAGMENT_CUT: a planned cut is reached, or one is planned for an express frame that waits (R263). -/
def State.fragmentCut (s : State) (p : Nat) : State :=
  match (s.pt p).tx with
  | none => s
  | some t =>
    if t.kind ≠ .preempt then s
    else if !t.final ∧ t.endL ≤ s.lNow then s.cutDone p t
    else
      match s.firstCut p t (s.expressAfter p t) with
      | some n => s.planCut p t n
      | none => s

/-- FRAGMENT_RESUME: a held continuation resumes (R255). -/
def State.fragmentResume (s : State) (p : Nat) : State :=
  match (s.pt p).preempt with
  | some f =>
    if f.started && (s.pt p).tx.isNone && s.alive && s.on .SELV_CTRL_RUN p && s.fld .MAC_LINK_STATUS_STATE p == 6 && (s.pt p).mac.ctrl.isNone then
      s.startFrag p f (s.nextStart p (s.nowR p)) f.fcsOk
    else s
  | none => s

/-- HOLD_APPLY (R255): a fragment under way ends at the earlier of its planned end and the first legal cut. -/
def State.holdApply (s : State) (p : Nat) : State :=
  if !s.holdNow p then s
  else
    let s := s.updPt p fun x => { x with holdApplied := true }
    if !s.on .SELV_PREEMPT_STATUS_ACTIVE p then s
    else
      match (s.pt p).tx with
      | some t =>
        if t.kind = .preempt then
          match s.firstCut p t fun _ => true with
          | some n => s.planCut p t n
          | none => s
        else s
      | none => s

/-- HOLD_RELEASE (R255). -/
def State.holdRelease (s : State) (p : Nat) : State := if s.holdNow p then s else s.updPt p fun x => { x with holdApplied := false }

/-- A window with a Hem, in guardian time, whose cut point lies in a transmission that is not of its train (R260). -/
def State.hemHit (s : State) (p : Nat) (t : Tx) : Bool :=
  let now : Int := s.nowG p
  let start : Int := now + t.startL - s.lNow
  let stop : Int := now + t.endL - s.lNow
  ((s.sched p true).windows (s.fld .SELV_GUARD_STATUS_SCHED_TC p) start (now + (cutT : Nat))).any fun w =>
    let c := w.openT - (cutT : Nat)
    let own := match t.kind with
      | .staged cls o _ => decide (cls = w.cls) && decide ((o : Int) = w.openT)
      | _ => false
    !w.noHem && decide (c ≤ now) && decide (start ≤ c) && decide (c < stop) && !own

/-- HEM_CUT (R260, R261). -/
def State.hemCut (s : State) (p : Nat) : State :=
  match (s.pt p).tx with
  | some t => if s.hemHit p t then (s.abortTx p 48).guardReport p true else s
  | none => s

/-! ## RUN = 0 (R250) -/

/-- SELV.CTRL.RUN written 0. -/
def State.selvStop (s : State) (p : Nat) : State := ((((s.setFld .SELV_CTRL_RUN p 0 0).dropStaged p fun _ => false)).dropPaths p).dropBeacon p

/-! ## Verification of pre-emption (R264, R265) -/

/-- VERIFY_TIME in ticks. -/
def State.verifyTime (s : State) (p : Nat) : Nat := max 1 (min 128 (s.fld .SELV_PREEMPT_CFG_VERIFY_TIME p)) * 1000000 * nsT

/-- A Verify mPacket is sent. -/
def State.sendVerify (s : State) (p attempts : Nat) : State :=
  (s.setFld .SELV_PREEMPT_STATUS_ATTEMPTS p 0 attempts).updPt p fun x => { x with verify := true, verifyDue := s.lNow + s.verifyTime p }

/-- INIT with the link up: a Verify at once, and VERIFYING. -/
def State.verifyStart (s : State) (p : Nat) : State :=
  if s.on .SELV_PREEMPT_CFG_EN p && !multidrop p && !s.on .SELV_PREEMPT_CFG_VERIFY_DIS p && s.fld .MAC_LINK_STATUS_STATE p == 6
      && s.fld .SELV_PREEMPT_STATUS_VERIFY_STATE p == 1 then (s.setVerify p 2).sendVerify p 1
  else s

/-- VERIFY_TIME without a Respond. -/
def State.verifyTimeout (s : State) (p : Nat) : State :=
  if s.fld .SELV_PREEMPT_STATUS_VERIFY_STATE p = 2 ∧ (s.pt p).verifyDue ≤ s.lNow then
    let n := s.fld .SELV_PREEMPT_STATUS_ATTEMPTS p
    if n < 3 then s.sendVerify p (n + 1) else ((s.setVerify p 4).event .SELV_EVENT_VERIFY_FAIL p).fault 1 0 p
  else s

/-- A valid Respond. -/
def State.respondIn (s : State) (p : Nat) : State :=
  if s.fld .SELV_PREEMPT_STATUS_VERIFY_STATE p = 2 ∧ s.fld .MAC_LINK_STATUS_STATE p = 6 then (s.setVerify p 3).event .SELV_EVENT_VERIFY_OK p else s

/-- A received Verify (R264, R267). -/
def State.verifyIn (s : State) (p : Nat) : State :=
  if s.on .SELV_PREEMPT_CFG_EN p && !multidrop p && s.fld .MAC_LINK_STATUS_STATE p == 6 then s.updPt p fun x => { x with respond := true } else s

/-! ## The port's copies of domain time (R46, R91, R262) -/

/-- The release copy and the guardian copy of a port's schedule domain differ by more than 1.0 ns (R46). -/
def State.copiesDiffer (s : State) (p : Nat) : Bool := decide (nsT < (s.nowR p - s.nowG p) + (s.nowG p - s.nowR p))

/-- The comparison of the two copies and its reaction (R46, R262). -/
def State.copyCompare (s : State) (p : Nat) : State :=
  let g := (s.pt p).guard
  if s.copiesDiffer p then
    let s := (s.event .TPL_EVENT_PORT_COPY).updPt p fun x => { x with guard := { g with badRun := g.badRun + 1, goodRun := 0 } }
    let s := if s.on .SELV_GUARD_STATUS_COPY_HOLD p then s
      else ((s.setFld .SELV_GUARD_STATUS_COPY_HOLD p 0 1).event .SELV_EVENT_COPY_BLOCK p).fault 2 3 p
    if g.badRun + 1 = 3 then s.fault 3 3 p else s
  else
    let s := s.updPt p fun x => { x with guard := { g with badRun := 0, goodRun := min 2 (g.goodRun + 1) } }
    if 2 ≤ g.goodRun + 1 then s.setFld .SELV_GUARD_STATUS_COPY_HOLD p 0 0 else s

/-- An update of a port's time: voted values and rates arrive on the release copy, counter C on the guardian copy, and the in-sync state with them; the two copies are compared (R46, R62, R91). -/
def State.portTime (s : State) (p : Nat) (skew : Int) : State :=
  let sync := s.inSync (s.schedDom p)
  let c := s.timeCopy p skew
  (s.withSched p fun s => s.updPt p fun x => { x with copy := some c, inSync := sync }).copyCompare p

/-! ## The commands -/

/-- PORT_TIME_UPDATE (R46, R62, R91, R262): `skew` is what the second broadcast path adds to the guardian copy, in ps. -/
def execPortTimeUpdate (p : Port) (skew : Int) (s : State) : Host.Outcome State Fault Refusal := done (s.powered fun s => s.portTime p skew)
/-- FRAME_LAUNCH (R245, R247, R248, R258). -/
def execFrameLaunch (p : Port) (carrier : Bool) (s : State) : Host.Outcome State Fault Refusal := done (s.powered fun s => (s.sense p carrier).frameLaunch p)
/-- TRANSMIT_START (R252, R253, R264, R287). -/
def execTransmitStart (p : Port) (k : TxPick) (carrier : Bool) (e : BufErr) (s : State) : Host.Outcome State Fault Refusal :=
  done (s.powered fun s => (s.sense p carrier).transmitStart p k e)
/-- TRANSMIT_COMPLETE (R185). -/
def execTransmitComplete (p : Port) (s : State) : Host.Outcome State Fault Refusal := done (s.powered fun s => s.transmitDone p)
/-- HEM_CUT (R260). -/
def execHemCut (p : Port) (s : State) : Host.Outcome State Fault Refusal := done (s.powered fun s => s.hemCut p)
/-- HOLD_APPLY (R255). -/
def execHoldApply (p : Port) (s : State) : Host.Outcome State Fault Refusal := done (s.powered fun s => s.holdApply p)
/-- HOLD_RELEASE (R255). -/
def execHoldRelease (p : Port) (s : State) : Host.Outcome State Fault Refusal := done (s.powered fun s => s.holdRelease p)
/-- FRAGMENT_CUT (R226, R263). -/
def execFragmentCut (p : Port) (s : State) : Host.Outcome State Fault Refusal := done (s.powered fun s => s.fragmentCut p)
/-- FRAGMENT_RESUME (R255). -/
def execFragmentResume (p : Port) (s : State) : Host.Outcome State Fault Refusal := done (s.powered fun s => s.fragmentResume p)
/-- SELVEDGE_STOP (R250). -/
def execSelvedgeStop (r : Req) (p : Port) (s : State) : Host.Outcome State Fault Refusal := done (s.writing r .SELV_CTRL p 0 fun s => s.selvStop p)
/-- VERIFY_START (R264). -/
def execVerifyStart (p : Port) (s : State) : Host.Outcome State Fault Refusal := done (s.powered fun s => s.verifyStart p)
/-- VERIFY_TIMEOUT (R264, R265). -/
def execVerifyTimeout (p : Port) (s : State) : Host.Outcome State Fault Refusal := done (s.powered fun s => s.verifyTimeout p)
/-- RESPOND_RECEIVED (R264). -/
def execRespondReceived (p : Port) (s : State) : Host.Outcome State Fault Refusal := done (s.powered fun s => s.respondIn p)
/-- VERIFY_RECEIVED (R264, R267). -/
def execVerifyReceived (p : Port) (s : State) : Host.Outcome State Fault Refusal := done (s.powered fun s => s.verifyIn p)

end Sys2Proof.Machine
end

