-- ==== Sys2Proof/Machine/Mac.lean ====
section
/-!
DEFINITION. Lanes, links, flow control and the multidrop MAC (chapter 09).
-/
namespace Sys2Proof.Machine

/-! ## Lanes (R270, R274, R298) -/

/-- A lane's mode code: 6 and 7 act as 0 (Table 09-5). -/
def State.laneMode (s : State) (b k : Nat) : Nat := let m := s.fld .MAC_LANE_CFG_MODE b k; if m ≤ 5 then m else 0

/-- A lane accepts a mode (Table 09-1); 0, and 6 and 7 that act as 0, are accepted by every lane. -/
def laneAccepts (k m : Nat) : Bool := m == 0 || m == 6 || m == 7 || (if k < 2 then decide (m ≤ 4) else m == 4 || m == 5)

/-- Local ports of a lane. -/
def lanePorts (b k : Nat) : List Nat := if k < 2 then [16 * b + k] else (List.range 4).map fun i => 16 * b + laneFirst k + i

/-- A port is carried by its lane's mode (R270, R274); a multidrop port has its own PHY. -/
def State.carried (s : State) (p : Nat) : Bool :=
  if multidrop p then true
  else
    let k := laneOf p
    let m := s.laneMode (boltOf p) k
    if k < 2 then 1 ≤ m && decide (m ≤ 4) else m == 5 || (m == 4 && p % 16 == laneFirst k)

/-- A lane is stopped: every port it carries has EN = 0 (R298). -/
def State.laneStopped (s : State) (b k : Nat) : Bool := (lanePorts b k).all fun p => !s.carried p || !s.on .MAC_CFG_EN p

/-- A port is held DISABLED whatever MAC.CFG.EN says: in Recovery and Stay-Down, and on a lane that failed calibration at BS09 (R440, R441, R447). -/
def State.portHeld (s : State) (p : Nat) : Bool :=
  s.dev == .recovery || s.dev == .stayDown || (!multidrop p && s.boot.deadLanes.contains (5 * boltOf p + laneOf p))

/-- A multidrop port with its PHY enabled leaves DOWN while its line monitor reports no fault (R275). -/
def State.lineReady (s : State) (p : Nat) : State :=
  if multidrop p && s.linkState p == 1 && s.on .MAC_MD_CFG_PHY_EN p && !s.on .MAC_MD_STATUS_LINE_FAULT p then s.linkTo p 5 else s

/-- A port with EN = 1 that its lane carries leaves DISABLED (Table 09-2). -/
def State.linkEnable (s : State) (p : Nat) : State :=
  (if s.on .MAC_CFG_EN p && s.carried p && !s.portHeld p && s.linkState p == 0 then s.linkTo p 1 else s).lineReady p

/-- A write to LANE_CFG (R270, R298, Table 09-5). -/
def State.laneCfg (s : State) (b k v : Nat) : State :=
  let first := 16 * b + laneFirst k
  let x : List (Fl × Nat) := [(.MAC_LANE_CFG_FEC, bits v 28 27), (.MAC_LANE_CFG_TX_POL, bits v 26 26), (.MAC_LANE_CFG_RX_POL, bits v 25 25), (.MAC_LANE_CFG_LOOP, bits v 24 23)]
  let mode := bits v 31 29
  let modeOk := laneAccepts k mode
  let x := if modeOk then (.MAC_LANE_CFG_MODE, mode) :: x else x
  let changed := x.any fun e => s.fld e.1 b k != e.2
  let s := if modeOk then s else s.event .MAC_EVENT_BAD_CFG first
  let s := if s.laneStopped b k then s.setFlds b k x else if changed then s.event .MAC_EVENT_CHANGE_REFUSED first else s
  let s := if bits v 17 12 + bits v 11 6 + bits v 5 0 ≤ 64 then
      s.setFlds b k [(.MAC_LANE_CFG_TX_MAIN, bits v 17 12), (.MAC_LANE_CFG_TX_PRE, bits v 11 6), (.MAC_LANE_CFG_TX_POST, bits v 5 0)]
    else s.event .MAC_EVENT_BAD_CFG first
  (lanePorts b k).foldl (fun a p => a.linkEnable p) s

/-! ## Link states (R275 to R279) -/

/-- MAC.CFG.EN written. -/
def State.macEnable (s : State) (p : Nat) (en : Bool) : State :=
  if en then ((s.setFld .MAC_CFG_EN p 0 1).updMac p fun m => { m with disabling := false }).linkEnable p
  else
    let s := s.setFld .MAC_CFG_EN p 0 0
    if (s.pt p).tx.isSome then s.updMac p fun m => { m with disabling := true } else s.linkTo p 0

/-- Signal detected. -/
def State.signalIn (s : State) (p : Nat) : State :=
  if multidrop p then s
  else
    let s := s.setFld .MAC_LANE_STATUS_SIGNAL (boltOf p) (laneOf p) 1
    if s.linkState p = 1 then s.linkTo p 2 else s

/-- The reference of a port's lane is present (R272). -/
def State.laneRef (s : State) (p : Nat) : Bool := if boltOf p < 4 then s.time.refAOk else s.time.refBOk

/-- Local or Remote Fault is being received. -/
def State.linkFault (s : State) (p : Nat) : Bool := s.on .MAC_LINK_STATUS_LF p || s.on .MAC_LINK_STATUS_RF p

/-- Negotiation is used: AN_EN = 1 in 1000BASE-X or SGMII (R277). -/
def State.negotiates (s : State) (p : Nat) : Bool :=
  s.on .MAC_CFG_AN_EN p && (let m := s.laneMode (boltOf p) (laneOf p); m == 3 || m == 4)

/-- FEC in use on a lane: BASE-R FEC in 25GBASE-R and 10GBASE-R, RS-FEC in 25GBASE-R alone (R271). -/
def State.fecUsed (s : State) (b k : Nat) : Bool :=
  let m := s.laneMode b k
  let f := s.fld .MAC_LANE_CFG_FEC b k
  (m == 1 && (f == 1 || f == 2)) || (m == 2 && f == 1)

/-- The state of a link with lock that is not UP (Table 09-2): FAULT while Local or Remote Fault is received, NEGOTIATING until a negotiation used is complete, HOLD. -/
def State.lockedTo (s : State) (p : Nat) : State :=
  s.linkTo p (if s.linkFault p then 4 else if s.negotiates p && !(s.pt p).mac.negDone then 3 else 5)

/-- Lock: NEGOTIATING, FAULT or HOLD. -/
def State.lockIn (s : State) (p : Nat) : State :=
  if multidrop p ∨ s.linkState p ≠ 2 ∨ !s.laneRef p then s
  else
    let s := s.setFlds (boltOf p) (laneOf p) [(.MAC_LANE_STATUS_CDR_LOCK, 1), (.MAC_LANE_STATUS_BLOCK_LOCK, 1), (.MAC_LANE_STATUS_HI_BER, 0),
      (.MAC_LANE_STATUS_FEC_LOCK, b2n (s.fecUsed (boltOf p) (laneOf p)))]
    (s.updMac p fun m => { m with negDone := false }).lockedTo p

/-- The negotiation ends with the partner's base page or control word (R277). -/
def State.anDone (s : State) (p page : Nat) : State :=
  if s.linkState p ≠ 3 then s
  else
    let s := s.setFld .MAC_LINK_STATUS_PARTNER p 0 page
    let sgmii := s.laneMode (boltOf p) (laneOf p) == 4
    let ok := if sgmii then bits page 11 10 == 2 && bit page 12 else bit page 5
    if !ok then s.event .MAC_EVENT_AN_REFUSED p
    else
      let adv := s.fld .MAC_CFG_FC_RX p == 1 || s.fld .MAC_FC_TX_CFG_MODE p == 1
      (s.updMac p fun m => { m with pauseRes := !sgmii && adv && bit page 7, negDone := true }).lockedTo p

/-- Local or Remote Fault received, one at a time: a locked link that is not UP passes to FAULT at once (R275, R276), where what it sends follows the fault (log entry 116). -/
def State.faultIn (s : State) (p : Nat) (remote : Bool) : State :=
  if multidrop p ∨ s.linkState p < 3 then s
  else
    let s := s.setFlds p 0 [(.MAC_LINK_STATUS_LF, b2n (!remote)), (.MAC_LINK_STATUS_RF, b2n remote)]
    let s := if remote then s.event .MAC_EVENT_REMOTE_FAULT p else s
    if s.linkState p = 6 then s else s.linkTo p 4

/-- Local and Remote Fault have ceased: HOLD, or NEGOTIATING where the negotiation is not complete (R275). -/
def State.faultOut (s : State) (p : Nat) : State :=
  let s := s.setFlds p 0 [(.MAC_LINK_STATUS_LF, 0), (.MAC_LINK_STATUS_RF, 0)]
  if s.linkState p = 4 then s.lockedTo p else s

/-- UP_HOLD has passed in HOLD (R275). -/
def State.upHold (s : State) (p : Nat) : State :=
  if s.linkState p = 5 ∧ (s.pt p).mac.holdSince + s.fld .MAC_CFG_UP_HOLD p * 1000000 * nsT ≤ s.lNow then s.linkUp p else s

/-- Lock lost: HOLD ends at once, other states wait for DOWN_FILTER (R276). -/
def State.lockOut (s : State) (p : Nat) : State :=
  if multidrop p then s
  else
    let s := s.setFlds (boltOf p) (laneOf p) [(.MAC_LANE_STATUS_BLOCK_LOCK, 0), (.MAC_LANE_STATUS_CDR_LOCK, 0), (.MAC_LANE_STATUS_FEC_LOCK, 0)]
    if s.linkState p = 5 then s.linkTo p 1 else s

/-- What a lane's status shows of a cause: signal that is gone, high BER (Table 09-6). -/
def State.laneShows (s : State) (p : Nat) (c : LossCause) : State :=
  if multidrop p then s
  else
    match c with
    | .signal => s.setFld .MAC_LANE_STATUS_SIGNAL (boltOf p) (laneOf p) 0
    | .highBer => s.setFld .MAC_LANE_STATUS_HI_BER (boltOf p) (laneOf p) 1
    | _ => s

/-- A cause has lasted `us` microseconds (R276). -/
def State.downFilter (s : State) (p : Nat) (c : LossCause) (us : Nat) : State :=
  let st := s.linkState p
  let s := s.laneShows p c
  if us < max 1 (s.fld .MAC_CFG_DOWN_FILTER p) then s
  else
    match c with
    | .signal => if st = 2 ∧ !multidrop p then s.linkTo p 1 else s
    | .lock => if multidrop p then s else if st = 3 ∨ st = 4 ∨ st = 6 then s.linkTo p 1 else s
    | .highBer => if multidrop p then s else if st = 3 ∨ st = 4 ∨ st = 6 then s.linkTo p 1 else s
    | .fault => if st = 6 ∧ !multidrop p then s.linkTo p 4 else s
    | .line => if st = 6 ∧ multidrop p then s.linkTo p 1 else s

/-- The line monitor of a multidrop port reports a fault (R275, R276). -/
def State.lineFault (s : State) (p : Nat) : State :=
  if !multidrop p then s
  else
    let s := (s.setFld .MAC_MD_STATUS_LINE_FAULT p 0 1).event .MAC_EVENT_LINE_FAULT p
    if s.linkState p = 5 then s.linkTo p 1 else s

/-- The line monitor reports no fault (R275). -/
def State.lineClear (s : State) (p : Nat) : State :=
  if !multidrop p then s
  else (s.setFld .MAC_MD_STATUS_LINE_FAULT p 0 0).lineReady p

/-! ## Flow control (R282, R286) -/

/-- A class's pause timer has run out: the class is eligible again (R232, R282). -/
def State.pauseOver (s : State) (p c : Nat) : State :=
  let t := (s.pt p).mac.pauseEnd.get 0 c
  if t ≠ 0 ∧ t ≤ s.lNow then (s.updMac p fun m => { m with pauseEnd := m.pauseEnd.set 0 c 0 }).retagClasses p (2 ^ c) else s

/-- The XOFF is sent again while its condition holds (R286). -/
def State.xoffRefresh (s : State) (p : Nat) : State :=
  if s.fcMode p && (s.pt p).mac.xoff && decide ((s.pt p).mac.xoffNext ≤ s.lNow) && s.poolAbove (s.fld .MAC_FC_TX_CFG_XOFF_FRAC p) then s.sendXoff p else s

/-- FC_TX_CMD.GO (R286, Table 09-9). -/
def State.fcSend (s : State) (p v : Nat) : State :=
  if s.fcMode p && bit v 31 then s.queueCtrl p (s.ctrlFrame p (s.fld .MAC_FC_TX_CFG_MODE p == 2) (bits v 23 16) (if bit v 30 then 0 else bits v 15 0)) else s

/-! ## Multidrop access (R292 to R296) -/

/-- 96 bit times have passed since the carrier ended (R292). -/
def State.deferEnd (s : State) (p : Nat) : State :=
  if multidrop p && decide ((s.pt p).mac.mayStart ≤ s.lNow) then s.updMac p fun m => { m with carrier := false, mayStart := s.lNow } else s

/-- The transmission ends with a 32-bit jam, invalid (R292). -/
def State.jam (s : State) (p : Nat) (t : Tx) : State :=
  let s := s.updPt p fun x => { x with tx := none, lastEnd := s.lNow + 3200 * nsT }
  let s := s.txEnded p false
  s.emit (.wire p t.kind.code t.start (t.path.bytes.take (s.sentBytes p t)) false)

/-- The wait after the n-th collision: r slot times of 51.2 µs from the end of the jam (R293). -/
def State.backoff (s : State) (p n : Nat) : State :=
  let (r, s) := s.lfsrDraw p (min n 10)
  s.updMac p fun m => { m with backoffEnd := some (s.lNow + 3200 * nsT + r * 51200 * nsT) }

/-- A collision of an express frame that may be retried (R292, R293). -/
def State.collideExpress (s : State) (p : Nat) (t : Tx) : State :=
  let n := s.fld .MAC_MD_STATUS_ATTEMPTS p + 1
  if 64 < s.sentBytes p t then
    (((s.jam p t).event .MAC_EVENT_LATE_COLL p).portCount p 50).setFld .MAC_MD_STATUS_ATTEMPTS p 0 0 |>.discardHeld t.path.fr 10 50 0
  else if 16 ≤ n then
    (((s.jam p t).event .MAC_EVENT_EXCESS_COLL p).portCount p 51).setFld .MAC_MD_STATUS_ATTEMPTS p 0 0 |>.discardHeld t.path.fr 10 51 0
  else
    (((s.jam p t).setFld .MAC_MD_STATUS_ATTEMPTS p 0 n).updPt p fun x => { x with retry := some t.path }).backoff p n

/-- The owner of the slot that runs at a domain time, where one runs (R310). -/
def State.slotAt (s : State) (p : Nat) (t : Int) : Option Nat :=
  match (s.sched p).cycleAt t with
  | some c => (s.slotTable p false).find? fun e => decide ((slotTimes c.start e).1 ≤ t) && decide (t < (slotTimes c.start e).2)
  | none => none

/-- The slots in which the frames of a collision started, each once (R310): the frame of the carrier sensed before, the port's own, and the one that began at the collision, within the 16 bit
times of its detection (R292). -/
def State.collisionSlots (s : State) (p : Nat) : List Nat :=
  let x := s.pt p
  let starts := (if x.mac.carrier then [s.toD p x.mac.carrierAt] else []) ++ (x.tx.toList.map fun t => s.toD p t.startL) ++ [(s.nowR p : Int)]
  (starts.filterMap (s.slotAt p)).eraseDups

/-- A collision that the master detects during a slot is counted against the owner of each slot in which a colliding frame started (R310). -/
def State.slotCollision (s : State) (p : Nat) : State :=
  if s.pcState p ≠ 5 ∨ (s.slotAt p (s.nowR p)).isNone then s
  else (s.collisionSlots p).foldl (fun a e => (a.portCount p 53).pecEvent p 16 none (slotOwner e)) (s.event .MDP_EVENT_COLLISION p)

/-- A CLAIM that collides backs off; the sixteenth collision ends the claim (R313). -/
def State.collideClaim (s : State) (p : Nat) (t : Tx) : State :=
  let n := (s.pt p).mdp.claimColls + 1
  let s := (s.jam p t).portCount p 30
  if 16 ≤ n then s.pcListen p else (s.updMdp p fun m => { m with claiming := false, claimColls := n }).backoff p n

/-- A collision is detected (R247, R292, R293, R306, R310, R313). -/
def State.collide (s : State) (p : Nat) : State :=
  match (s.pt p).tx with
  | none => if multidrop p then s.slotCollision p else s
  | some t =>
    if !multidrop p then s
    else
      let s := s.portCount p 49
      let slotted := s.pcMode p && (s.pcState p == 3 || s.pcState p == 5)
      let s := s.slotCollision p
      match t.kind with
      | .staged .. =>
        let s := if t.late then s.jam p t else ((s.jam p t).event .SELV_EVENT_LATE p).portCount p 44
        (s.portCount p 45).lose t.path.fr 9 45 0
      | .express => if slotted then (if s.pcState p = 3 then (s.jam p t).portCount p 53 else s.jam p t).discardHeld t.path.fr 10 53 0 else s.collideExpress p t
      | .polled => if s.pcState p = 4 then s.collideClaim p t else s.jam p t
      | _ => s.jam p t

/-- A back-off has ended (R293). -/
def State.backoffOver (s : State) (p : Nat) : State :=
  if ((s.pt p).mac.backoffEnd.any fun t => decide (t ≤ s.lNow)) then s.updMac p fun m => { m with backoffEnd := none } else s

/-- The port runs PLCA with an identity of its own (R295). -/
def State.plca (s : State) (p : Nat) : Bool :=
  multidrop p && s.fld .MAC_MD_CFG_MODE p == 1 && s.fld .MAC_PLCA_CFG_NODE_ID p != 255 && s.linkState p == 6

/-- A PLCA BEACON starts a new PLCA cycle (R295, R296). -/
def State.plcaBeacon (s : State) (p : Nat) : State :=
  if s.plca p && s.fld .MAC_PLCA_CFG_NODE_ID p != 0 then
    (s.setFld .MAC_MD_STATUS_PLCA_OK p 0 1).updMac p fun m => { m with lastBeacon := s.lNow, oppNode := 0, oppAt := s.lNow, oppFrames := 0 }
  else s

/-- An opportunity ends (R295): after TO_TIMER bit times without a transmission; the port's own one after its frames too, when no further one may follow. None ends during a transmission. -/
def State.plcaEnds (s : State) (p : Nat) : Bool :=
  let m := (s.pt p).mac
  let mine := m.oppNode == s.fld .MAC_PLCA_CFG_NODE_ID p && m.oppFrames != 0
  !m.carrier && (s.pt p).tx.isNone &&
    (if mine then !s.plcaOpen p else decide (m.oppAt + s.fld .MAC_PLCA_CFG_TO_TIMER p * 100 * nsT ≤ s.lNow))

/-- An opportunity passes to the next node; the coordinator sends a BEACON after the last (R295). -/
def State.plcaNext (s : State) (p : Nat) : State :=
  if !s.plca p || !s.plcaEnds p then s
  else
    let n := (s.pt p).mac.oppNode + 1
    if s.fld .MAC_PLCA_CFG_NODE_ID p = 0 ∧ max 1 (s.fld .MAC_PLCA_CFG_NODE_COUNT p) ≤ n then
      (s.updMac p fun m => { m with oppNode := 0, oppAt := s.lNow, oppFrames := 0, lastBeacon := s.lNow }).emit (.wire p 6 [] [] true)
    else s.updMac p fun m => { m with oppNode := n, oppAt := s.lNow, oppFrames := 0 }

/-- No BEACON for BEACON_LOSS ms (R296). -/
def State.plcaLoss (s : State) (p : Nat) : State :=
  if s.plca p && s.fld .MAC_PLCA_CFG_NODE_ID p != 0 && s.on .MAC_MD_STATUS_PLCA_OK p
      && decide ((s.pt p).mac.lastBeacon + max 1 (s.fld .MAC_PLCA_CFG_BEACON_LOSS p) * 1000000 * nsT ≤ s.lNow) then
    (s.setFld .MAC_MD_STATUS_PLCA_OK p 0 0).event .MAC_EVENT_PLCA_LOST p
  else s

/-! ## The commands -/

/-- LANE_CFG_WRITE (R270, R298). -/
def execLaneCfgWrite (r : Req) (b : Bolt) (k : Fin 5) (v : BitVec 32) (s : State) : Host.Outcome State Fault Refusal :=
  done (s.writing r .MAC_LANE_CFG b k fun s => s.laneCfg b k v.toNat)
/-- MAC_ENABLE (R275, R278). -/
def execMacEnable (r : Req) (p : Port) (en : Bool) (s : State) : Host.Outcome State Fault Refusal := done (s.writing r .MAC_CFG p 0 fun s => s.macEnable p en)
/-- SIGNAL_DETECT (R275). -/
def execSignalDetect (p : Port) (s : State) : Host.Outcome State Fault Refusal := done (s.powered fun s => s.signalIn p)
/-- LOCK_ACHIEVED (R272, R275). -/
def execLockAchieved (p : Port) (s : State) : Host.Outcome State Fault Refusal := done (s.powered fun s => s.lockIn p)
/-- AN_COMPLETE (R277). -/
def execAnComplete (p : Port) (page : BitVec 16) (s : State) : Host.Outcome State Fault Refusal := done (s.powered fun s => s.anDone p page.toNat)
/-- FAULT_ORDERED_SET (R275, R276). -/
def execFaultOrderedSet (p : Port) (remote : Bool) (s : State) : Host.Outcome State Fault Refusal := done (s.powered fun s => s.faultIn p remote)
/-- FAULT_CLEARED (R275). -/
def execFaultCleared (p : Port) (s : State) : Host.Outcome State Fault Refusal := done (s.powered fun s => s.faultOut p)
/-- UP_HOLD_EXPIRY (R275, R279). -/
def execUpHoldExpiry (p : Port) (s : State) : Host.Outcome State Fault Refusal := done (s.powered fun s => s.upHold p)
/-- LOCK_LOST (R276). -/
def execLockLost (p : Port) (s : State) : Host.Outcome State Fault Refusal := done (s.powered fun s => s.lockOut p)
/-- DOWN_FILTER_EXPIRY (R276, R278). -/
def execDownFilterExpiry (p : Port) (cause : LossCause) (us : Nat) (s : State) : Host.Outcome State Fault Refusal := done (s.powered fun s => s.downFilter p cause us)
/-- LINE_MONITOR_FAULT (R275, R276). -/
def execLineMonitorFault (p : Port) (s : State) : Host.Outcome State Fault Refusal := done (s.powered fun s => s.lineFault p)
/-- LINE_FAULT_CLEARED (R275). -/
def execLineFaultCleared (p : Port) (s : State) : Host.Outcome State Fault Refusal := done (s.powered fun s => s.lineClear p)
/-- PAUSE_TIMER_EXPIRY (R282). -/
def execPauseTimerExpiry (p : Port) (c : Fin 8) (s : State) : Host.Outcome State Fault Refusal := done (s.powered fun s => s.pauseOver p c)
/-- XOFF_REFRESH (R286). -/
def execXoffRefresh (p : Port) (s : State) : Host.Outcome State Fault Refusal := done (s.powered fun s => s.xoffRefresh p)
/-- FC_TX_SEND (R286). -/
def execFcTxSend (r : Req) (p : Port) (v : BitVec 32) (s : State) : Host.Outcome State Fault Refusal := done (s.writing r .MAC_FC_TX_CMD p 0 fun s => s.fcSend p v.toNat)
/-- CARRIER_DEFER_END (R292). -/
def execCarrierDeferEnd (p : Port) (s : State) : Host.Outcome State Fault Refusal := done (s.powered fun s => s.deferEnd p)
/-- COLLISION_DETECT (R292, R293). -/
def execCollisionDetect (p : Port) (s : State) : Host.Outcome State Fault Refusal := done (s.powered fun s => s.collide p)
/-- BACKOFF_EXPIRY (R293). -/
def execBackoffExpiry (p : Port) (s : State) : Host.Outcome State Fault Refusal := done (s.powered fun s => s.backoffOver p)
/-- PLCA_BEACON_RECEIVED (R296). -/
def execPlcaBeaconReceived (p : Port) (s : State) : Host.Outcome State Fault Refusal := done (s.powered fun s => s.plcaBeacon p)
/-- PLCA_OPPORTUNITY (R295). -/
def execPlcaOpportunity (p : Port) (s : State) : Host.Outcome State Fault Refusal := done (s.powered fun s => s.plcaNext p)
/-- PLCA_BEACON_LOSS (R296). -/
def execPlcaBeaconLoss (p : Port) (s : State) : Host.Outcome State Fault Refusal := done (s.powered fun s => s.plcaLoss p)

end Sys2Proof.Machine
end

