-- ==== Sys2Proof/Machine/ChalkOps.lean ====
section
/-!
DEFINITION. The draws that chalk frames (R523).
-/
namespace Sys2Proof.Machine

/-- A value whose low K bits are 0; values of K above 20 act as 20 (Tables 16-13 and 16-14). -/
def chalkHit (v k : Nat) : Bool := v % 2 ^ min 20 k == 0

/-- A port draws a value for a frame and chalks it when the low K bits are 0 (R523). -/
def State.chalkPort (s : State) (p : Nat) : Bool × State :=
  if !s.on .TAPE_CHALK_CFG_EN p then (false, s)
  else
    let v := Config.lfsrNext (s.tape.lfsr.get 0 p)
    (chalkHit v (s.fld .TAPE_CHALK_CFG_K p), { s with tape := { s.tape with lfsr := s.tape.lfsr.set 0 p v } })

/-- The device draws a value for a host transmit or Cyclic Publisher frame (R523). -/
def State.chalkHost (s : State) : Bool × State :=
  if !s.on .TAPE_CTRL_HOST_CHALK_EN then (false, s)
  else
    let v := Config.lfsrNext s.tape.hostLfsr
    (chalkHit v (s.fld .TAPE_CTRL_HOST_K), { s with tape := { s.tape with hostLfsr := v } })

end Sys2Proof.Machine
end

