-- ==== Sys2Proof/Machine/Time.lean ====
section
/-!
DEFINITION. The time plane (chapters 01.3, 02 and 03.5): pace, oscillator, voting, domains, outputs, captures, snapshots. What a step of a domain does elsewhere
stands in DomainStep.
-/
namespace Sys2Proof.Machine

/-! ## Pace (R26, R35, 01.5) -/

/-- The microsecond of L time in which window `j` ends: one that ends on a whole microsecond belongs to the microsecond that ends there (R26). -/
def windowUs (j : Nat) : Nat := (128 * (j + 1) - 1) / 1000

/-- The window under way ends, where L time has reached its end: a window below the Pace Floor of 400 M words/s is Fatal; every window is kept for its microsecond. -/
def State.paceWindow (s : State) (b laps : Nat) : State :=
  let x := s.time.pace.get {} b
  if s.lNs < 128 * (x.win + 1) then s
  else
    let v := Config.paceOf laps 128
    let s := { s with time := { s.time with pace := s.time.pace.set {} b { x with windows := x.windows ++ [(x.win, laps, v)], win := x.win + 1 } } }
    if v < 400 then (s.setFld .DEV_PACE_EVENT_FLOOR 0 0 (setBit (s.fld .DEV_PACE_EVENT_FLOOR) b)).fault 3 6 b else s

/-- The Pace Low threshold: written values below 400 act as 400 (Table 01-4). -/
def State.paceThresh (s : State) : Nat := max 400 (s.fld .DEV_PACE_CTRL_LOW_THRESH)

/-- The windows of a microsecond: laps and values. -/
def PaceSt.windowsOf (x : PaceSt) (us : Nat) : List (Nat × Nat) := (x.windows.filter fun e => windowUs e.1 == us).map (·.2)

/-- The microsecond under way of a Bolt ends, where L time has reached its end and its 7 or 8 windows have ended: mean, lowest window, lowest mean, and the Pace Low condition with its
Notice (R26, R35). A value above 0xFFF shows as 0xFFF in the 12-bit fields, and a microsecond without a window, which no reachable state has, changes none of them (log entry 108). -/
def State.paceMicrosecond (s : State) (b : Nat) : State :=
  let x := s.time.pace.get {} b
  if s.lNs < 1000 * (x.us + 1) ∨ windowUs x.win ≤ x.us then s
  else
    let kept := { x with windows := x.windows.filter (fun e => windowUs e.1 != x.us), us := x.us + 1 }
    match x.windowsOf x.us with
    | [] => { s with time := { s.time with pace := s.time.pace.set {} b kept } }
    | w :: ws =>
      let avg := Config.paceOf ((w :: ws).map (·.1)).sum (128 * (ws.length + 1))
      let low := ws.foldl (fun m e => min m e.2) w.2
      let isLow := decide (low < s.paceThresh) && decide (400 ≤ low)
      let s := s.setFlds b 0 [(.DEV_PACE_STATUS_AVG_1US, satTo 0xFFF avg), (.DEV_PACE_STATUS_MIN_1US, satTo 0xFFF low),
        (.DEV_PACE_STATUS_LOWEST, min (s.fld .DEV_PACE_STATUS_LOWEST b) avg)]
      let s := { s with time := { s.time with pace := s.time.pace.set {} b { kept with wasLow := isLow } } }
      if isLow then
        let s := s.eventBit .DEV_PACE_EVENT_LOW 0 b
        if !x.wasLow && s.on .DEV_PACE_CTRL_LOW_NOTICE_EN then s.fault 1 6 b else s
      else s

/-- CLR_LOWEST: LOWEST of every Bolt takes the mean that AVG_1US shows (R26, Table 01-4). -/
def State.clrLowest (s : State) : State :=
  (List.range 8).foldl (fun a b => a.setFld .DEV_PACE_STATUS_LOWEST b 0 (a.fld .DEV_PACE_STATUS_AVG_1US b)) s

/-! ## Oscillator and references (R39 to R43) -/

/-- The frequency code that R41 selects: the nominal frequency within 200 ppm of the measured one. -/
def oscFreq (hz : Nat) : Nat :=
  let near (n : Nat) : Bool := decide ((n - hz + (hz - n)) * 1000000 ≤ hz * 200)
  if near 10000000 then 1 else if near 20000000 then 2 else if near 25000000 then 3 else 0

/-- The measurement of R41 ends. -/
def State.oscMeasured (s : State) (hz : Nat) : State :=
  if s.time.measuring then { s.setFld .TPL_OSC_STATUS_FREQ 0 0 (oscFreq hz) with time := { s.time with measuring := false } } else s

/-- Both TPLLs have locked to TIMEOSC: the lock bits, the ratio recorded at lock (R43); the counters of L pass to TPCLK at the next vote (R39). -/
def State.tpllLock (s : State) (ps : Nat) : State :=
  if s.time.locked || s.time.passing.isSome || s.fld .TPL_OSC_STATUS_FREQ == 0 || !s.time.timeoscOk then s
  else
    let s := s.setFlds 0 0 [(.TPL_OSC_STATUS_TPLL0_LOCK, 1), (.TPL_OSC_STATUS_TPLL1_LOCK, 1)]
    { s with time := { s.time with passing := some ps, ratioLock := some (s.time.ratioA, s.time.ratioN) } }

/-- The first vote after lock: the counters of L go on with TPCLK from their value, with a phase step that the model takes forward and alike on all three (R39, log entry 109). -/
def State.passToTpclk (s : State) : State :=
  match s.time.passing with
  | none => s
  | some ps => { s.stepCnts 8 (psT ps) with time := { (s.stepCnts 8 (psT ps)).time with locked := true, passing := none } }

/-- The holdover rate of a domain as a rate word (R63). -/
def State.holdWord (s : State) (d : Nat) : Int := (s.dom d).hold.toWord

/-- RATE of a domain (R62). -/
def State.setRate (s : State) (d : Nat) (w : Int) : State := s.setFld .TPL_DOM_RATE_RATE d 0 (ofSigned 32 w)

/-- Entry to HOLDOVER: the holdover rate, the integrator of Servo mode, and whether the domain was in sync (R56, R61, R63, R90). -/
def State.enterHoldover (s : State) (d : Nat) : State :=
  let x := s.dom d
  let s := (s.setFlds d 0 [(.TPL_DOM_STATUS_STATE, 4), (.TPL_DOM_STATUS_HOLD_EST, 0)]).setRate d x.hold.toWord
  s.setDom d { x with holdEntry := s.lNow, holdOk := s.inSync d,
                      integ := if s.on .TPL_DOM_CFG_MODE d then x.hold.neg else x.integ }

/-- A TPLL reference switch (R43): REF_SRC, the event, a Degraded fault; the reference is scaled by its last averaged ratio. The phase step of at most 0.5 ns on TPCLK moves no counter of the
model (log entry 109); it unlocks the grids (R242). -/
def State.refSwitch (s : State) (src : Nat) : State :=
  let s := { s with time := { s.time with scale := some (if src = 1 then s.time.ratioA else s.time.ratioB, s.time.ratioN) } }
  (((s.setFld .TPL_OSC_STATUS_REF_SRC 0 0 src).event .TPL_EVENT_OSC_SWITCH).fault 2 2 noUnit).gridUnlockAll

/-- The averaged ratio of TIMEOSC to REFCLK_A has drifted by more than 100 ppm from the one recorded at lock (R43). -/
def State.oscDrifted (s : State) : Bool :=
  match s.time.ratioLock with
  | none => false
  | some (sum, n) =>
    let now := s.time.ratioA * n
    let then' := sum * s.time.ratioN
    decide (then' < 10000 * ((now - then') + (then' - now)))

/-- Every domain in LOCKED enters HOLDOVER (R43). -/
def State.holdAll (s : State) : State := (List.range 8).foldl (fun a d => if a.domState d = 3 then a.enterHoldover d else a) s

/-- TIMEOSC is declared lost (R43). -/
def State.timeoscLost (s : State) : State :=
  if !s.time.timeoscOk then s
  else
    let s := { s with time := { s.time with timeoscOk := false } }
    if s.fld .TPL_OSC_STATUS_REF_SRC != 0 then s
    else if !s.time.refAOk && !s.time.refBOk then s.holdAll.fault 3 2 noUnit
    else (s.refSwitch (if s.time.refAOk then 1 else 2)).holdAll

/-- REFCLK_A is lost; while it is the TPLL reference the TPLLs switch to REFCLK_B, or no reference is left (R43). -/
def State.refALost (s : State) : State :=
  if !s.time.refAOk then s
  else
    let s := { s with time := { s.time with refAOk := false } }
    if s.fld .TPL_OSC_STATUS_REF_SRC != 1 then s
    else if s.time.refBOk then s.refSwitch 2 else s.fault 3 2 noUnit

/-- REFCLK_B is lost; while it is the TPLL reference no reference is left (R43). -/
def State.refBLost (s : State) : State :=
  if !s.time.refBOk then s
  else
    let s := { s with time := { s.time with refBOk := false } }
    if s.fld .TPL_OSC_STATUS_REF_SRC = 2 then s.fault 3 2 noUnit else s

/-! ## Voting (R44, R45) -/

/-- Two counters agree when they differ by no more than 0.5 ns (R44). -/
def agree (a b : Nat) : Bool := decide ((a - b) + (b - a) ≤ 2 ^ 39)

/-- What a vote of one timescale finds (R45): nothing, the counter to repair, or no usable majority. -/
inductive Verdict where
  | fine
  | repair (c : Nat)
  | fatal
deriving DecidableEq, Repr

/-- The verdict on three counters (R45). -/
def verdict (a b c : Nat) : Verdict :=
  let m := median a b c
  let far (x : Nat) : Nat := (x - m) + (m - x)
  let worse (i x j y : Nat) : Verdict := if far x = far y then .repair 2 else if far y < far x then .repair i else .repair j
  match agree a b, agree a c, agree b c with
  | true, true, true => .fine
  | true, true, false => worse 1 b 2 c
  | true, false, true => worse 0 a 2 c
  | false, true, true => worse 0 a 1 b
  | true, false, false => .repair 2
  | false, true, false => .repair 1
  | false, false, true => .repair 0
  | false, false, false => .fatal

/-- A counter is repaired with the voted value; the third repair within 1 s of L time excludes it (R45). -/
def State.repair (s : State) (x c : Nat) : State :=
  let v := s.voted x
  let now := s.lNow
  let k := 3 * x + c
  let hist := (s.time.repairs.filter fun e => decide (now ≤ e.2 + secT)) ++ [(k, now)]
  let s := ({ s.setCnt x c v with time := { (s.setCnt x c v).time with repairs := hist } }.event .TPL_EVENT_VOTE_REPAIR).fault 2 1 x
  if 3 ≤ (hist.filter fun e => e.1 == k).length then
    (s.setFld .TPL_VOTE_STATUS_EXCL 0 0 (s.fld .TPL_VOTE_STATUS_EXCL + (c + 1) * 4 ^ x)).event .TPL_EVENT_VOTE_EXCLUDE
  else s

/-- One vote of one timescale (R44, R45). -/
def State.voteOne (s : State) (x : Nat) : State :=
  let a := s.cnt x 0
  let b := s.cnt x 1
  let c := s.cnt x 2
  match s.excl x with
  | 1 => if agree b c then s else s.fault 3 1 x
  | 2 => if agree a c then s else s.fault 3 1 x
  | 3 => if agree a b then s else s.fault 3 1 x
  | _ =>
    match verdict a b c with
    | .fine => s
    | .repair k => s.repair x k
    | .fatal => s.fault 3 1 x

/-! ## The in-sync state (R90, R91, R94) -/

/-- The Sync Loss Bound in 2^-16 ns; 0 acts as 1 ns (Table 03-6). -/
def State.slb (s : State) (d : Nat) : Nat := max 1 (s.fld .TPL_SYNC_CFG_SLB d) * 65536

/-- RESUME_COUNT; 0 acts as 1. -/
def State.resumeCount (s : State) (d : Nat) : Nat := max 1 (s.fld .TPL_SYNC_CFG_RESUME_COUNT d)

/-- R90: the domain is in sync. -/
def State.syncNow (s : State) (d : Nat) : Bool :=
  let st := s.domState d
  let x := s.dom d
  let n := s.resumeCount d
  (s.on .TPL_SYNC_CFG_GM d && (st == 1 || st == 3 || st == 4))
  || (st == 3 && decide (n ≤ x.recent.length) && (x.recent.take n).all fun o => decide (o.natAbs ≤ s.slb d))
  || (st == 4 && x.holdOk && decide (s.fld .TPL_DOM_STATUS_HOLD_EST d * 65536 ≤ s.slb d))

/-- A domain leaves sync: LOST, its source, and the report to Thimble (R94). The count of R90 starts again. -/
def State.syncLost (s : State) (d : Nat) : State :=
  let s := s.setDom d { s.dom d with recent := [] }
  let s := s.eventBit .TPL_SYNC_STATUS_LOST 0 d
  match s.dev with
  | .solo | .lead | .shadow => s.fault 2 0 d
  | .boot | .acquire | .test | .recovery => s.fault 1 0 d
  | .off | .failSilent | .stayDown => s

/-- R90 evaluated for one domain (R91). -/
def State.syncEval (s : State) (d : Nat) : State :=
  let was := s.inSync d
  let is := s.syncNow d
  let s := s.setFld .TPL_SYNC_STATUS_IN_SYNC 0 0 (putBit (s.fld .TPL_SYNC_STATUS_IN_SYNC) d is)
  if was && !is then s.syncLost d else s

/-- A disturbance of a counter found at a vote. -/
def State.upset (s : State) (e : Fin 9 × Fin 3 × Int) : State :=
  s.setCnt e.1 e.2.1 ((s.cnt e.1 e.2.1 : Int) + e.2.2).toNat

/-- The vote of a whole microsecond: L passes to TPCLK at the first one after lock; every timescale, then R90 of every domain (R39, R44, R45, R91). -/
def State.voteAll (s : State) (upsets : List (Fin 9 × Fin 3 × Int)) : State :=
  let s := upsets.foldl State.upset s.passToTpclk
  let s := (List.range 9).foldl (fun a x => a.voteOne x) s
  (List.range 8).foldl (fun a d => a.syncEval d) s

/-! ## Domain states and correction (R56 to R64) -/

/-- A sample is discarded and counted (R58). -/
def State.sampleDiscard (s : State) (d : Nat) : State := s.bump (devWord (48 + d))

/-- A domain enters UNLOCKED (Table 02-3): RATE 0, nothing pending; its grid unlocks unless GM = 1 (R242). -/
def State.enterUnlocked (s : State) (d : Nat) : State :=
  let s := (s.setFlds d 0 [(.TPL_DOM_STATUS_STATE, 1), (.TPL_DOM_STATUS_HOLD_EST, 0)]).setRate d 0
  let s := s.setDom d { s.dom d with step := none, bigRun := 0, recent := [], holdOk := false, fed := false }
  let s := { s with ptp := s.ptp.upd {} d fun x => { x with listenSince := s.lNow, declaring := false } }
  if s.on .TPL_SYNC_CFG_GM d then s else s.gridUnlockDom d

/-- DOM_CFG.EN written (R40, R56). -/
def State.domEnable (s : State) (d : Nat) (en : Bool) : State :=
  if en then (if s.on .TPL_DOM_CFG_EN d then s else (s.setFld .TPL_DOM_CFG_EN d 0 1).enterUnlocked d)
  else
    let s := s.setFlds d 0 [(.TPL_DOM_CFG_EN, 0), (.TPL_DOM_STATUS_STATE, 0), (.TPL_DOM_STATUS_HOLD_EST, 0)]
    (s.setDom d { s.dom d with step := none, bigRun := 0, recent := [], holdOk := false }).gridUnlockDom d

/-- DOM_CFG.UNLOCK written 1 (Table 02-3). -/
def State.domUnlock (s : State) (d : Nat) : State := if s.on .TPL_DOM_CFG_EN d then s.enterUnlocked d else s

/-- The order in which samples wait, without a domain. -/
def State.dropSample (s : State) (d : Nat) : State := { s with time := { s.time with sampleQ := s.time.sampleQ.filter fun e => e != d } }

/-- An offset sample submitted (R57, R58): it waits behind those written before it. -/
def State.sampleWrite (s : State) (d : Nat) (ofs : Int) : State :=
  let st := s.domState d
  if st = 0 ∨ st = 2 then s.sampleDiscard d
  else
    let s := if (s.dom d).sample.isSome then s.bump (devWord (40 + d)) else s
    let s := s.setDom d { s.dom d with sample := some (ofs, toSigned 32 (s.fld .TPL_DOM_SAMPLE_RATIO_RATIO d)) }
    let s := s.dropSample d
    { s with time := { s.time with sampleQ := s.time.sampleQ ++ [d] } }

/-- LAST_OFS: the offset in whole ns, saturating (Table 02-17). -/
def State.setLastOfs (s : State) (d : Nat) (ofs : Int) : State :=
  s.setFld .TPL_DOM_STATUS_LAST_OFS d 0 (ofSigned 32 (clampInt (-2147483648) 2147483647 (Frac.toWord (Frac.norm ofs 65536))))

/-- The rate limit in rate words: values above 500 ppm act as 500 (Table 02-13). -/
def State.rateLimit (s : State) (d : Nat) : Frac := Frac.norm (min 500 (s.fld .TPL_DOM_PARAM_RATE_LIMIT d) * 2 ^ 40 : Nat) 1000000

/-- An accepted sample that leads to a step: entry to STEPPING with the step −offset, applied at the first L microsecond boundary at least 64 ns later (Table 02-3). -/
def State.enterStepping (s : State) (d : Nat) (ofs ratio : Int) : State :=
  let s := (s.setLastOfs d ofs).setFlds d 0 [(.TPL_DOM_STATUS_STATE, 2), (.TPL_DOM_STATUS_HOLD_EST, 0)]
  let s := s.setDom d { s.dom d with step := some (-ofs * 2 ^ 24, ceilUs (s.lNow + 64 * nsT)), stepRatio := ratio, bigRun := 0,
                                     lastAcc := s.lNow, recent := [], holdOk := false }
  s.syncEval d

/-- RATE of an accepted sample in Step-Rate mode (R60), in rate words. -/
def State.stepRate (s : State) (d : Nat) (ofs ratio : Int) : Frac :=
  let prev := Frac.ofInt (s.rate d)
  let slew := Frac.norm (s.fld .TPL_DOM_PARAM_SLEW d * 2 ^ 40 : Nat) 4000000000
  let r := (Frac.ofInt ratio).sub (Frac.norm (ofs * 2 ^ 27) (max 1 (s.fld .TPL_DOM_PARAM_T_CORR d) * 1000000000))
  let r := Frac.clamp (prev.sub slew) (prev.add slew) r
  Frac.clamp (s.rateLimit d).neg (s.rateLimit d) r

/-- The integrator after an accepted sample in Servo mode (R61). -/
def State.servoInteg (s : State) (d : Nat) (ofs : Int) : Frac :=
  let x := s.dom d
  let dt := min secT (s.lNow - max x.lastAcc x.lastStep)
  let i := x.integ.add (Frac.norm (s.fld .TPL_DOM_PARAM_KI d * ofs * 256 * dt) (1000000000 * secT))
  Frac.clamp (s.rateLimit d).neg (s.rateLimit d) i

/-- RATE of an accepted sample in Servo mode, from the new integrator (R61). -/
def State.servoRate (s : State) (d : Nat) (ofs : Int) (i : Frac) : Frac :=
  Frac.clamp (s.rateLimit d).neg (s.rateLimit d) ((Frac.norm (s.fld .TPL_DOM_PARAM_KP d * ofs * 256) 1000000000).add i).neg

/-- A sample accepted in LOCKED, or one that returns the domain from HOLDOVER: RATE by the mode and the holdover mean (R56, R60 to R63). -/
def State.sampleAccept (s : State) (d : Nat) (ofs ratio : Int) : State :=
  let x := s.dom d
  let servo := s.on .TPL_DOM_CFG_MODE d
  let i := if servo then s.servoInteg d ofs else x.integ
  let w := if servo then (s.servoRate d ofs i).toWord else (s.stepRate d ofs ratio).toWord
  let hold := x.hold.add (((Frac.ofInt w).sub x.hold).mul ⟨1, 2 ^ s.fld .TPL_DOM_CFG_HOLD_AVG_LOG2 d⟩)
  let s := ((s.setLastOfs d ofs).setFlds d 0 [(.TPL_DOM_STATUS_STATE, 3), (.TPL_DOM_STATUS_HOLD_EST, 0)]).setRate d w
  s.setDom d { x with integ := i, hold := hold, lastAcc := s.lNow, bigRun := 0, recent := (ofs :: x.recent).take 15 }

/-- A sample discarded as too large (R58): the domain is out of sync from then on (R90, R91). -/
def State.sampleLarge (s : State) (d : Nat) : State :=
  ((s.setDom d { s.dom d with bigRun := (s.dom d).bigRun + 1, recent := [], holdOk := false }).sampleDiscard d).syncEval d

/-- The SERVO record of the Lead after an accepted sample in a domain of GM_DOMAINS (Table 15-8, R491). -/
def State.servoRecord (s : State) (d : Nat) : State :=
  if s.dev = .lead ∧ (s.fld .PAIR_CFG_GM_DOMAINS).testBit d then
    let x := s.dom d
    s.emit (.pair 6 [d, s.fld .TPL_DOM_RATE_RATE d, ofSigned 32 x.integ.toWord, ofSigned 32 x.hold.toWord, s.domState d])
  else s

/-- The time plane processes the sample of a domain that waits, where none of another domain was written before it (R57, R58). -/
def State.sampleProcess (s : State) (d : Nat) : State :=
  match (s.dom d).sample, s.time.sampleQ.head? == some d with
  | none, _ | _, false => s
  | some (ofs, ratio), true =>
    let s := s.dropSample d
    let s := s.setDom d { s.dom d with sample := none }
    match s.domState d with
    | 1 => (s.enterStepping d ofs ratio).servoRecord d
    | 3 | 4 =>
      if ofs.natAbs > s.fld .TPL_DOM_CFG_REACQ_THRESH d * 4 * 65536 then
        if max 1 (s.fld .TPL_DOM_CFG_REACQ_COUNT d) ≤ (s.dom d).bigRun + 1 then (s.enterStepping d ofs ratio).servoRecord d else s.sampleLarge d
      else (s.sampleAccept d ofs ratio).servoRecord d
    | _ => s.sampleDiscard d

/-- DOM_SET_SEC written (R59): accepted in OFF and UNLOCKED only. -/
def State.domSetWrite (s : State) (d sec : Nat) : State :=
  if s.domState d = 0 ∨ s.domState d = 1 then
    let s := s.setFld .TPL_DOM_SET_SEC_SEC d 0 sec
    s.setDom d { s.dom d with load := some (timeOf sec (s.fld .TPL_DOM_SET_NS_NS d) (s.fld .TPL_DOM_SET_NS_FRAC d),
                                            (s.lNow / (1000 * nsT) + 1) * (1000 * nsT)) }
  else s.event .TPL_EVENT_CHANGE_REFUSED

/-- HOLD_TIMEOUT without an accepted sample (Table 02-3); 0 acts as 1, in units of 16 ms. -/
def State.holdTimeout (s : State) (d : Nat) : State :=
  if s.domState d = 3 ∧ (s.dom d).lastAcc + max 1 (s.fld .TPL_DOM_CFG_HOLD_TIMEOUT d) * 16000000 * nsT ≤ s.lNow then s.enterHoldover d else s

/-- HOLD_EST of a domain in HOLDOVER (R64). -/
def State.holdEst (s : State) (d : Nat) : State :=
  if s.domState d = 4 then
    let t : Int := (s.lNow - (s.dom d).holdEntry : Nat)
    let unc := Frac.norm (s.fld .TPL_DOM_HOLD_RATE_UNC d * t) (256 * secT)
    let dr := Frac.norm (s.fld .TPL_DOM_HOLD_DRIFT d * (t * t)) (8192 * (secT * secT))
    s.setFld .TPL_DOM_STATUS_HOLD_EST d 0 (satTo 0xFFFFFF (unc.add dr).toWord.toNat)
  else s

/-! ## Snapshots (R75) -/

/-- TRIGGER: the voted values of all nine timescales are copied; written while a copy is under way, it takes the values anew (log entry 109). -/
def State.snapTrigger (s : State) : State :=
  { s.setFld .TPL_SNAP_CTRL_BUSY 0 0 1 with time := { s.time with snap := some ((List.range 9).map s.voted) } }

/-- The copies become valid. -/
def State.snapDone (s : State) : State :=
  match s.time.snap with
  | none => s
  | some l =>
    let s := (List.range 9).foldl (fun a x =>
      let t := l.getD x 0
      a.setFlds x 0 [(.TPL_SNAP_SEC_SEC, secOf t), (.TPL_SNAP_NS_NS, nsOf t), (.TPL_SNAP_NS_FRAC, fracOf t)]) s
    ({ s.setFld .TPL_SNAP_CTRL_BUSY 0 0 0 with time := { s.time with snap := none } }).event .TPL_EVENT_SNAP_DONE

/-! ## Output units (R65 to R71) -/

/-- Period of an output unit, in ticks. -/
def State.outPeriod (s : State) (u : Nat) : Nat := timeOf 0 (s.fld .TPL_OUT_PERIOD_NS u) (s.fld .TPL_OUT_PERIOD_FRAC u)

/-- START within its second, and START, in ticks. -/
def State.outStartNs (s : State) (u : Nat) : Nat := timeOf 0 (s.fld .TPL_OUT_START_NS_NS u) (s.fld .TPL_OUT_START_NS_FRAC u)
def State.outStart (s : State) (u : Nat) : Nat := s.fld .TPL_OUT_START_SEC_SEC u * secT + s.outStartNs u

/-- N of R65: the events of each domain second of an aligned sequence with START `st` and period `p`. -/
def seqN (st p : Nat) : Nat := (2 * (secT - st % secT) + p) / (2 * p)

/-- The number of events of a sequence at or before a domain time (R65). -/
def seqEvents (align : Bool) (st p t : Nat) : Nat :=
  if p = 0 then (if st ≤ t then 1 else 0)
  else if align then
    let off := t % secT
    t / secT * seqN st p + (if st % secT ≤ off then min (seqN st p) ((off - st % secT) / p + 1) else 0)
  else if st ≤ t then (t - st) / p + 1 else 0

/-- The first event of a sequence at or after a domain time (R65). -/
def seqFirst (align : Bool) (st p t : Nat) : Option Nat :=
  if p = 0 then (if t ≤ st then some st else none)
  else if align && seqN st p == 0 then none
  else if align then
    let sec := t / secT
    let off := t % secT
    let k := (off - st % secT + p - 1) / p
    if off ≤ st % secT then some (sec * secT + st % secT)
    else if k < seqN st p then some (sec * secT + st % secT + k * p)
    else some ((sec + 1) * secT + st % secT)
  else if t ≤ st then some st else some (st + (t - st + p - 1) / p * p)

/-- The sequence of an output unit. -/
def State.outEvents (s : State) (u t : Nat) : Nat := seqEvents (s.on .TPL_OUT_CFG_ALIGN_SEC u) (s.outStart u) (s.outPeriod u) t
def State.outFirst (s : State) (u t : Nat) : Option Nat := seqFirst (s.on .TPL_OUT_CFG_ALIGN_SEC u) (s.outStart u) (s.outPeriod u) t

/-- An event's place on the 0.125 ns grid nearest its exact time (R65). -/
def outPlace (t : Nat) : Nat :=
  let q := t / 2 ^ 37
  let r := t % 2 ^ 37
  if r < 2 ^ 36 then q * 2 ^ 37 else if 2 ^ 36 < r then (q + 1) * 2 ^ 37
  else if Config.roundUp t (2 ^ 37) then (q + 1) * 2 ^ 37 else q * 2 ^ 37

/-- The domain of a unit and its present time. -/
def State.outNow (s : State) (u : Nat) : Nat := s.voted (s.fld .TPL_OUT_CFG_DOM u)

/-- ACTIVE follows what the unit still has to do. -/
def State.outActive (s : State) (u : Nat) : State :=
  s.setFld .TPL_OUT_STATUS_ACTIVE u 0 (b2n ((s.outU u).next.isSome || (s.outU u).pulseEnd.isSome))

/-- ARM written 1 (R65, R69, R70). With ALIGN_SEC = 1, whose START has no seconds, START for LATE is START.ns of the present domain second (log entry 109). -/
def State.outArm (s : State) (u : Nat) : State :=
  let now := s.outNow u
  let align := s.on .TPL_OUT_CFG_ALIGN_SEC u && s.outPeriod u != 0
  let start := if align then now / secT * secT + s.outStartNs u else s.outStart u
  let late := decide (start ≤ now)
  let next := if late then (if s.outPeriod u = 0 then none else s.outFirst u (now + 64 * nsT)) else s.outFirst u start
  let s := s.setFlds u 0 [(.TPL_OUT_CFG_ARM, 1), (.TPL_OUT_STATUS_MISSED, 0)]
  let x := s.outU u
  let s := s.setOutU u { x with level := if s.fld .TPL_OUT_CFG_MODE u = 2 then false else x.level, next := next, issued := 0 }
  let s := s.outActive u
  if late then s.event .TPL_OUT_STATUS_LATE u else s

/-- ARM written 0: a pulse in progress finishes (R69), and a WIDTH that waits takes effect. -/
def State.outDisarm (s : State) (u : Nat) : State :=
  (((s.setFld .TPL_OUT_CFG_ARM u 0 0).takeReg ⟨.TPL_OUT_CFG, u, 0⟩).setOutU u { s.outU u with next := none }).outActive u

/-- MODE written Off: refused while the unit is not stopped (R16, R74); otherwise the unit no longer drives its pin and its level is the inactive one (R69). -/
def State.outModeOff (s : State) (u : Nat) : State :=
  if s.fld .TPL_OUT_CFG_MODE u % 3 = 0 then s.setFld .TPL_OUT_CFG_MODE u 0 0
  else if s.on .TPL_OUT_CFG_ARM u then s.event .TPL_EVENT_CHANGE_REFUSED
  else ((s.holdPins.setFld .TPL_OUT_CFG_MODE u 0 0).setOutU u {}).outActive u

/-- An event time is reached (R65, R69): a WIDTH that waits applies from it on (R449). -/
def State.outEvent (s : State) (u : Nat) : State :=
  let x := s.outU u
  match x.next with
  | none => s
  | some t =>
    if s.outNow u < outPlace t then s
    else
      let s := s.takeB ⟨.TPL_OUT_CFG, u, 0⟩ .TPL_OUT_CFG_WIDTH
      let n := x.issued + 1
      let cnt := s.fld .TPL_OUT_CFG_COUNT u
      let next := if s.outPeriod u = 0 ∨ (cnt ≠ 0 ∧ cnt ≤ n) then none else s.outFirst u (t + 1)
      let x := { x with next := next, issued := n }
      let x := match s.fld .TPL_OUT_CFG_MODE u with
        | 1 => { x with level := true, pulseEnd := some (outPlace t + s.fld .TPL_OUT_CFG_WIDTH u * nsT) }
        | 2 => { x with level := !x.level }
        | _ => x
      (s.setOutU u x).outActive u

/-- The end of WIDTH (R69). -/
def State.outPulseEnd (s : State) (u : Nat) : State :=
  match (s.outU u).pulseEnd with
  | none => s
  | some e => if s.outNow u < e then s else (s.setOutU u { s.outU u with level := false, pulseEnd := none }).outActive u

/-- A step of a unit's domain to a new time: a forward step skips every event at or before it (R71). Skipped events do not count toward COUNT, and MISSED counts every event of the
sequence that is skipped (log entry 109). -/
def State.outStep (s : State) (d new : Nat) (forward : Bool) : State :=
  if !forward then s
  else (List.range 36).foldl (fun a u =>
    if a.fld .TPL_OUT_CFG_DOM u != d then a
    else
      match (a.outU u).next with
      | none => a
      | some t =>
        if new < t then a
        else
          let m := a.outEvents u new - a.outEvents u (t - 1)
          let a := a.setFld .TPL_OUT_STATUS_MISSED u 0 (satTo 0xFFFF (a.fld .TPL_OUT_STATUS_MISSED u + m))
          (a.setOutU u { a.outU u with next := if a.outPeriod u = 0 then none else a.outFirst u (new + 1) }).outActive u) s

/-! ## Capture units (R72, R73) -/

/-- The records of a capture unit. -/
def State.capQ (s : State) (u : Nat) : List CapRec := s.time.cap.get [] u

/-- The edge selection of a unit admits an edge: 0 acts as rising (Table 02-22). -/
def State.capEdge (s : State) (u : Nat) (rise : Bool) : Bool :=
  match s.fld .TPL_CAP_CFG_EDGE u with
  | 2 => !rise
  | 3 => true
  | _ => rise

/-- The offset sample of a PPS capture in 2^-16 ns: the part below the second wrapped to half a second, minus the cable delay (R72). -/
def State.ppsOffset (s : State) (u t : Nat) : Int :=
  let sub : Int := (t % secT / 2 ^ 24 : Nat)
  (if sub < 500000000 * 65536 then sub else sub - 1000000000 * 65536) - (s.fld .TPL_CAP_CFG_CABLE_DLY u * 65536 : Nat)

/-- An edge whose level has been stable for `age` ns: its time is that of the domain at the edge, and edges are apart as L time measures them (R72, R73). An edge lost to a full queue
gives no sample (log entry 109). -/
def State.capture (s : State) (u : Nat) (rise : Bool) (age : Nat) : State :=
  let d := s.fld .TPL_CAP_CFG_DOM u
  let t := s.timeAgo d age
  let l := s.lNow - age * nsT
  let filt := s.fld .TPL_CAP_CFG_FILTER u
  let last := s.time.capLast.get 0 u
  if !s.on .TPL_CAP_CFG_EN u || !s.bankOn (bankOf u) || !s.capEdge u rise || decide (age < filt) then s
  else if last ≠ 0 ∧ (l - last) + (last - l) < (8 + filt) * nsT then s
  else if 8 ≤ (s.capQ u).length then (s.event .TPL_CAP_CFG_OVF u).bump (devWord (56 + u))
  else
    let s := { s with time := { s.time with cap := s.time.cap.set [] u (s.capQ u ++ [⟨t, rise⟩]), capLast := s.time.capLast.set 0 u l } }
    if 32 ≤ u ∧ s.on .TPL_CAP_CFG_SERVO_FEED u ∧ s.on .TPL_DOM_CFG_MODE d then (s.setDom d { s.dom d with fed := true }).sampleWrite d (s.ppsOffset u t) else s

/-- The value of CAP_NS (Table 02-23). -/
def State.capNs (s : State) (u : Nat) : Nat :=
  match s.capQ u with
  | [] => 0
  | r :: _ => nsOf r.time * 65536 + fracOf r.time

/-- The value of CAP_SEC (Table 02-23). -/
def State.capSec (s : State) (u : Nat) : Nat :=
  match s.capQ u with
  | [] => 0
  | r :: q => 2 ^ 63 + b2n r.rise * 2 ^ 62 + (q.length + 1) * 2 ^ 56 + secOf r.time % 2 ^ 48

/-- A read of CAP_NS removes the head record (R73). -/
def State.capPop (s : State) (u : Nat) : State := { s with time := { s.time with cap := s.time.cap.set [] u (s.capQ u).tail } }

/-! ## The commands -/

/-- PACE_WINDOW_END (R26). -/
def execPaceWindowEnd (b : Bolt) (laps : Nat) (s : State) : Host.Outcome State Fault Refusal := done (s.powered fun s => s.paceWindow b laps)
/-- PACE_MICROSECOND_END (R26, R35). -/
def execPaceMicrosecondEnd (b : Bolt) (s : State) : Host.Outcome State Fault Refusal := done (s.powered fun s => s.paceMicrosecond b)
/-- CLR_LOWEST (R26). -/
def execClrLowest (r : Req) (s : State) : Host.Outcome State Fault Refusal := done (s.writing r .DEV_PACE_CTRL 0 0 State.clrLowest)
/-- VCORE_LOW_DETECT (01.5, R466). -/
def execVcoreLowDetect (s : State) : Host.Outcome State Fault Refusal := done (s.powered fun s => s.fault 3 7 noUnit)
/-- TIMEOSC_MEASURE_DONE (R41). -/
def execTimeoscMeasureDone (hz : Nat) (s : State) : Host.Outcome State Fault Refusal := done (s.oscMeasured hz)
/-- TPLL_LOCK (R39). -/
def execTpllLock (phase : Fin 6401) (s : State) : Host.Outcome State Fault Refusal := done (s.powered fun s => s.tpllLock phase)
/-- TIMEOSC_LOST (R43): no edge has come for four nominal periods. The other cause, a drift of the averaged ratio, is found by the device's own clock (Tick). -/
def execTimeoscLost (s : State) : Host.Outcome State Fault Refusal := done (s.powered State.timeoscLost)
/-- REFCLK_A_LOST (R43). -/
def execRefclkALost (s : State) : Host.Outcome State Fault Refusal := done (s.powered State.refALost)
/-- REFCLK_B_LOST (R43). -/
def execRefclkBLost (s : State) : Host.Outcome State Fault Refusal := done (s.powered State.refBLost)
/-- DOM_ENABLE (R56). -/
def execDomEnable (r : Req) (d : Dom) (en : Bool) (s : State) : Host.Outcome State Fault Refusal := done (s.writing r .TPL_DOM_CFG d 0 fun s => s.domEnable d en)
/-- DOM_UNLOCK (R56). -/
def execDomUnlock (r : Req) (d : Dom) (s : State) : Host.Outcome State Fault Refusal := done (s.writing r .TPL_DOM_CFG d 0 fun s => s.domUnlock d)
/-- DOM_SAMPLE_WRITE (R57). -/
def execDomSampleWrite (r : Req) (d : Dom) (ofs : BitVec 64) (s : State) : Host.Outcome State Fault Refusal :=
  done (s.writing r .TPL_DOM_SAMPLE_OFS d 0 fun s => s.sampleWrite d ofs.toInt)
/-- DOM_SAMPLE_PROCESS (R58). -/
def execDomSampleProcess (d : Dom) (s : State) : Host.Outcome State Fault Refusal := done (s.powered fun s => s.sampleProcess d)
/-- DOM_SET_WRITE (R59). -/
def execDomSetWrite (r : Req) (d : Dom) (sec : BitVec 48) (s : State) : Host.Outcome State Fault Refusal :=
  done (s.writing r .TPL_DOM_SET_SEC d 0 fun s => s.domSetWrite d sec.toNat)
/-- HOLD_TIMEOUT_EXPIRY (R56). -/
def execHoldTimeoutExpiry (d : Dom) (s : State) : Host.Outcome State Fault Refusal := done (s.powered fun s => s.holdTimeout d)
/-- HOLD_EST_UPDATE (R64). -/
def execHoldEstUpdate (d : Dom) (s : State) : Host.Outcome State Fault Refusal := done (s.powered fun s => s.holdEst d)
/-- SNAPSHOT_TRIGGER (R75). -/
def execSnapshotTrigger (r : Req) (s : State) : Host.Outcome State Fault Refusal := done (s.writing r .TPL_SNAP_CTRL 0 0 State.snapTrigger)
/-- SNAPSHOT_COMPLETE (R75). -/
def execSnapshotComplete (s : State) : Host.Outcome State Fault Refusal := done (s.powered State.snapDone)
/-- OUT_ARM (R70). -/
def execOutArm (r : Req) (u : Fin 36) (s : State) : Host.Outcome State Fault Refusal := done (s.writing r .TPL_OUT_CFG u 0 fun s => s.outArm u)
/-- OUT_DISARM (R69). -/
def execOutDisarm (r : Req) (u : Fin 36) (s : State) : Host.Outcome State Fault Refusal := done (s.writing r .TPL_OUT_CFG u 0 fun s => s.outDisarm u)
/-- OUT_MODE_OFF (R69). -/
def execOutModeOff (r : Req) (u : Fin 36) (s : State) : Host.Outcome State Fault Refusal := done (s.writing r .TPL_OUT_CFG u 0 fun s => s.outModeOff u)
/-- OUT_EVENT (R65). -/
def execOutEvent (u : Fin 36) (s : State) : Host.Outcome State Fault Refusal := done (s.powered fun s => s.outEvent u)
/-- OUT_PULSE_END (R69). -/
def execOutPulseEnd (u : Fin 36) (s : State) : Host.Outcome State Fault Refusal := done (s.powered fun s => s.outPulseEnd u)
/-- CAPTURE_EDGE (R72). -/
def execCaptureEdge (u : Fin 34) (rise : Bool) (age : Nat) (s : State) : Host.Outcome State Fault Refusal := done (s.powered fun s => s.capture u rise age)
/-- CAP_NS_READ (R73). -/
def execCapNsRead (r : Req) (u : Fin 34) (s : State) : Host.Outcome State Fault Refusal :=
  done (s.reading r .TPL_CAP_NS u 0 fun s => (s.emit (.reply r.num (s.capNs u))).capPop u)

end Sys2Proof.Machine
end

