-- ==== Sys2Proof/Machine/PolledCycle.lean ====
section
/-!
DEFINITION. The Polled Cycle (chapter 10): states of a port, claims, beacons, slots, acceptance at the master, and mastering in a redundant pair.
-/
namespace Sys2Proof.Machine

/-! ## Fields of a control frame's payload (Table 10-1) -/

/-- A control frame that a receiver accepts: VERSION, SEG_ID and SUBTYPE (R300). -/
def State.pcValid (s : State) (p : Nat) (d : List Byte) : Bool :=
  byteAt d 1 == 1 && byteAt d 2 == s.fld .MDP_PC_CFG_SEG_ID p && (byteAt d 0 == 0x51 || byteAt d 0 == 0x52 || byteAt d 0 == 0x53)

def pcTable (d : List Byte) : Nat := be16 d 4
def pcCyc (d : List Byte) : Nat := beNat (slice d 6 4)
def pcTimeOf (d : List Byte) : Nat := timeOf (beNat (slice d 10 6)) (beNat (slice d 16 4)) 0
def pcNs (d : List Byte) : Nat := beNat (slice d 20 4)
def pcRank (d : List Byte) : Nat := byteAt d 24
def pcNode (d : List Byte) : Nat := byteAt d 25
def pcOrig (d : List Byte) : Nat := beNat (slice d 26 3)
def pcSlot (d : List Byte) : Nat := byteAt d 29

/-- A received control frame that is not valid is discarded and counted (R300). -/
def State.pcDiscard (s : State) (p : Nat) : State := s.portCount p 28

/-- The time of a timescale at the timestamp point of a frame of `n` bytes before its FCS whose last bit has just been received (R47, R50). -/
def State.rxTime (s : State) (p x n : Nat) : Nat :=
  ((s.relD p x : Int) - s.wireT p (n + 4) - (s.pt p).latRx + toSigned 32 (s.fld .TPL_PORT_TS_RX_LAT p) * 2 ^ 24).toNat

/-! ## States (R299, R311 to R313, R321) -/

/-- The conditions of R299. -/
def State.pcMet (s : State) (p : Nat) : Bool := s.pcMode p && s.linkState p == 6 && s.running p

/-- The conditions of R299 acted on: OFF, or LISTEN, in Active-Shadow STANDBY. -/
def State.pcEnable (s : State) (p : Nat) : State :=
  if !s.pcMet p then s.pcOff p
  else if s.pcState p != 0 then s
  else if s.dev = .shadow then s.setPc p 6
  else s.pcListen p

/-- A device that enters Active-Shadow, or leaves it other than by a takeover: STANDBY, or LISTEN (R311, R320); a master that hands over at a cycle start stays MASTER until then (R324). -/
def State.pcRole (s : State) : State :=
  (List.range 128).foldl (fun a p =>
    if !multidrop p || a.pcState p == 0 then a
    else if a.dev = .shadow then (if a.pcState p = 6 ∨ (a.pcState p = 5 ∧ (a.pt p).mdp.handEnd.isSome) then a else a.setPc p 6)
    else if a.pcState p = 6 then a.pcListen p else a) s

/-- The port enters MASTER and transmits nothing planned before a domain time (R313, R321). -/
def State.pcMaster (s : State) (p : Nat) (start : Nat) (handover : Bool) : State :=
  ((((s.setPc p 5).setFlds p 0 [(.MDP_PC_STATUS_ORIGIN, s.pcOrigin p), (.MDP_PC_TABLE_STATUS_MISSED, 0)]).event .MDP_EVENT_MASTER_UP p)).updMdp p
    fun m => { m with beacon := none, masterFrom := start, handover := handover, beaconAt := none, handEnd := none }

/-- A claim may be made (R312). -/
def State.pcMayClaim (s : State) (p : Nat) : Bool :=
  s.on .MDP_PC_CFG_MASTER_CAP p && (s.dev == .solo || s.dev == .lead) && s.inSync (s.schedDom p)

/-- LISTEN expires (R311 to R313). -/
def State.pcListenEnd (s : State) (p : Nat) : State :=
  if s.pcState p ≠ 1 ∨ s.lNow < (s.pt p).mdp.listenEnd then s
  else if s.pcMayClaim p then
    let (r, s) := s.lfsrDraw p (min 10 (s.fld .MDP_PC_CFG_CLAIM_SPREAD p))
    (s.setPc p 4).updMdp p fun m => { m with claimEnd := s.lNow + r * 51200 * nsT }
  else s.pcListen p

/-- The wait of a claim is over, and CSMA/CD permits the CLAIM (R292, R293, R313). -/
def State.pcClaim (s : State) (p : Nat) : State :=
  let x := s.pt p
  let free := !x.mac.carrier && decide (x.mac.mayStart ≤ s.lNow) && x.mac.backoffEnd.all fun t => decide (t ≤ s.lNow)
  if s.pcState p ≠ 4 ∨ x.mdp.claiming ∨ s.lNow < x.mdp.claimEnd ∨ !free ∨ x.tx.isSome ∨ !s.alive then s
  else
    let d := s.pcFrame p (s.nowR p) 0x53 0 0 0 0 (s.fld .MDP_PC_CFG_RANK p) 0 0
    let l := s.toL p (s.nextStart p (s.nowR p))
    ((s.updMdp p fun m => { m with claiming := true }).portCount p 29).begin p
      { kind := .polled, path := { fr := { data := d }, bytes := d }, startL := l, endL := l + s.wholeT p 60, upto := 60 }

/-- A CLAIM has left without collision (R313): the first BEACON lies at least 200 µs after its last bit. -/
def State.pcClaimSent (s : State) (p : Nat) : State :=
  let s := s.transmitDone p
  if s.pcState p = 4 ∧ (s.pt p).mdp.claiming ∧ (s.pt p).tx.isNone then
    s.pcMaster p (s.toD p (s.pt p).lastEnd + (200000 * nsT : Nat)).toNat false
  else s

/-- Another master is heard (R317). -/
def State.pcDual (s : State) (p : Nat) (d : List Byte) : State :=
  if pcOrig d = s.pcOrigin p then s
  else
    let s := (s.event .MDP_EVENT_DUAL_MASTER p).portCount p 9
    let mine := s.fld .MDP_PC_CFG_RANK p
    if pcRank d < mine ∨ (pcRank d = mine ∧ pcOrig d < s.pcOrigin p) then s.pcListen p else s

/-- A CLAIM is received (R313, R317). -/
def State.pcClaimIn (s : State) (p : Nat) (d : List Byte) : State :=
  if !s.polled p then s
  else if !s.pcValid p d || byteAt d 0 != 0x53 then s.pcDiscard p
  else
    match s.pcState p with
    | 4 => s.pcListen p
    | 5 => s.pcDual p d
    | _ => s

/-! ## Beacons (R314 to R319) -/

/-- The CYCLE rule of R314 against the previous beacon; beacons counted as missed since then stand for the numbers between. -/
def pcCycleRule (prev : Beacon) (missed : Nat) (d : List Byte) : Bool :=
  pcCyc d == (prev.cycle + 1 + missed) % 2 ^ 32 || (pcCyc d == 0 && pcTable d != prev.table)

/-- ACC_WIN as a time. -/
def State.accWin (s : State) (p : Nat) : Nat := s.fld .MDP_PC_CFG_ACC_WIN p * 400 * nsT

/-- The three conditions of R314. -/
def State.pcSecond (s : State) (p : Nat) (prev : Beacon) (d : List Byte) (at' : Nat) : Bool :=
  pcCycleRule prev 0 d && pcOrig d == prev.origin
    && decide (((at' : Int) - prev.atL - (prev.cycleNs * nsT : Nat)).natAbs ≤ 2 * s.accWin p)

/-- The offset sample of a beacon (R315). -/
def State.pcFeed (s : State) (p : Nat) (d : List Byte) : State :=
  if s.on .MDP_PC_CFG_TIME_FEED p && bit (byteAt d 3) 7 && (s.pcState p == 2 || s.pcState p == 3) then
    let x := s.schedDom p
    let ofs : Int := (s.rxTime p x 60 : Int) - pcTimeOf d - (s.fld .MDP_PC_TIMING_PROP_DLY p * nsT : Nat)
    s.sampleWrite x (Frac.toWord (Frac.norm ofs (2 ^ 24)))
  else s

/-- A follower's own list differs from the beacon's table or cycle (R314). -/
def State.pcMismatch (s : State) (p : Nat) (own : Bool) : State :=
  if !own && (s.pcState p == 2 || s.pcState p == 3) then (s.event .MDP_EVENT_MISMATCH p).portCount p 55 else s

/-- A valid BEACON drives the state of a port that is not master (R313, R314, R319). -/
def State.pcFollow (s : State) (p : Nat) (d : List Byte) (b : Beacon) : State :=
  match s.pcState p, (s.pt p).mdp.beacon with
  | 1, _ => s.setPc p 2
  | 4, _ => (s.pcListen p).setPc p 2
  | 2, some prev => if s.pcSecond p prev d b.atL then s.setPc p 3 else s
  | 3, some prev => if pcCycleRule prev (s.fld .MDP_PC_TABLE_STATUS_MISSED p) d then s else (s.setPc p 2).event .MDP_EVENT_REINTEGRATE p
  | _, _ => s

/-- A BEACON is received (R314 to R317, R319). -/
def State.pcBeaconIn (s : State) (p : Nat) (d : List Byte) : State :=
  if !s.polled p then s
  else if !s.pcValid p d || byteAt d 0 != 0x51 then s.pcDiscard p
  else if s.pcState p = 0 then s
  else
    let s := (s.portCount p 25).setFlds p 0 [(.MDP_PC_STATUS_CYCLE, pcCyc d), (.MDP_PC_STATUS_RX_IN_SYNC, b2n (bit (byteAt d 3) 7))]
    if s.pcState p = 5 then s.pcDual p d
    else
      let own := pcTable d == s.pcTableId p (s.nowR p) && pcCyc d == s.pcCycle p (s.nowR p)
      let b : Beacon := ⟨pcOrig d, pcCyc d, pcTable d, pcNs d, s.rxTime p 8 60, own⟩
      let s := s.pcFollow p d b
      let s := (s.updMdp p fun m => { m with beacon := some b }).setFlds p 0 [(.MDP_PC_STATUS_ORIGIN, pcOrig d), (.MDP_PC_TABLE_STATUS_MISSED, 0)]
      (s.pcMismatch p own).pcFeed p d

/-- No BEACON has come within its time (R316). -/
def State.pcBeaconMiss (s : State) (p : Nat) : State :=
  match (s.pt p).mdp.beacon with
  | none => s
  | some b =>
    let n := s.fld .MDP_PC_TABLE_STATUS_MISSED p
    if (s.pcState p ≠ 2 ∧ s.pcState p ≠ 3) ∨ s.lNow ≤ b.atL + (n + 1) * b.cycleNs * nsT + 2 * s.accWin p then s
    else
      let s := (s.portCount p 26).setFld .MDP_PC_TABLE_STATUS_MISSED p 0 (satTo 15 (n + 1))
      if max 1 (s.fld .MDP_PC_CFG_MISS_LIMIT p) ≤ n + 1 then
        ((s.pcListen p).setFld .MDP_PC_TABLE_STATUS_MISSED p 0 (satTo 15 (n + 1))).event .MDP_EVENT_MASTER_LOST p
      else s

/-! ## The master record and the end of master transmission at a swap (R320, R324) -/

/-- The master record of a port (R320). -/
def State.pcRecord (s : State) (p : Nat) : List Nat :=
  [p, s.pcState p, s.fld .MDP_PC_STATUS_CYCLE p, s.fld .MDP_PC_TABLE_STATUS_OPER_TABLE_ID p]
    ++ (List.range 4).map (fun j => s.fld .MDP_PC_PRESENT_NODES p j) ++ (List.range 4).map (fun j => s.fld .MDP_PC_DRIFT_NODES p j)

/-- The old Lead's port, at the cycle start from which the partner is master: the final master record, then STANDBY (R324, R496). -/
def State.pcHandEnd (s : State) (p : Nat) : State :=
  if s.pcState p = 5 ∧ ((s.pt p).mdp.handEnd.any fun t => decide (t ≤ s.nowR p)) then
    ((s.emit (.pair 5 (s.pcRecord p))).setPc p 6).updMdp p fun m => { m with handEnd := none, own := none, staged := none }
  else s

/-- The Lead sends a master record at the end of a cycle (R320). -/
def State.pcSend (s : State) (p : Nat) : State :=
  let s := s.pcHandEnd p
  if (s.dev = .lead ∨ (s.pt p).mdp.handEnd.isSome) ∧ s.pcState p = 5 then s.emit (.pair 5 (s.pcRecord p)) else s

/-! ## Slots (R305, R306) -/

/-- The entry of the oper table whose slot runs at a domain time: its index, its word and the cycle; none where the switch of list is due and the table with it. -/
def State.slotRun (s : State) (p : Nat) (t : Int) : Option (Nat × Nat × Cyc) :=
  match if s.pcNext p t.toNat then none else (s.sched p).cycleAt t with
  | some c => ((s.slotTable p false).zipIdx.find? fun e => decide ((slotTimes c.start e.1).1 ≤ t) && decide (t < (slotTimes c.start e.1).2)).map fun e => (e.2, e.1, c)
  | none => none

/-- The POLL of a POLL slot (R305). -/
def State.pcPoll (s : State) (p i e : Nat) (start : Nat) : State :=
  if (s.pt p).tx.isSome || !s.alive then s
  else
    let d := s.pcFrame p start 0x52 0 (s.pcCycle p start) 0 0 0 (slotOwner e) i
    let t := s.nextStart p start
    if !s.guardSlotOk p t (t + s.wholeT p 60) then s.guardReport p false
    else
      let l := s.toL p t
      (s.updMdp p fun m => { m with poll := some (i, t + s.wholeT p 60) }).begin p
        { kind := .polled, path := { fr := { data := d }, bytes := d }, startL := l, endL := l + s.wholeT p 60, upto := 60 }

/-- A follower may use its TIMED slots: its domain in sync and its own list in step with the last beacon (R314). -/
def State.pcTimedOk (s : State) (p : Nat) : Bool := s.inSync (s.schedDom p) && (s.pt p).mdp.beacon.any fun b => b.own

/-- A slot starts (R305, R306). -/
def State.pcSlotStart (s : State) (p : Nat) : State :=
  let s := s.pcHandEnd p
  match s.slotRun p (s.nowR p) with
  | none => s
  | some (i, e, c) =>
    let a := (slotTimes c.start e).1.toNat
    let z := (slotTimes c.start e).2.toNat
    if (s.pcState p ≠ 3 ∧ s.pcState p ≠ 5) ∨ (s.pt p).mdp.slotStart = some a then s
    else
      let s := s.updMdp p fun m => { m with slotStart := some a, slotOpen := some (i, z), poll := none }
      if s.pcState p = 5 then
        (if a < (s.pt p).mdp.masterFrom then s
         else match slotKind e with
           | 1 => s.updMdp p fun m => { m with own := some (a, z) }
           | 3 => s.pcPoll p i e a
           | _ => s)
      else if slotKind e = 2 ∧ s.slotOwned p e ∧ s.pcTimedOk p then s.updMdp p fun m => { m with own := some (a, z) }
      else s

/-- A POLL is received: its owner answers from 12 bytes after its last bit on (R305, R306). -/
def State.pcPollIn (s : State) (p : Nat) (d : List Byte) : State :=
  if !s.polled p then s
  else if !s.pcValid p d || byteAt d 0 != 0x52 then s.pcDiscard p
  else if s.pcState p ≠ 3 ∨ pcNode d ≠ s.fld .MDP_PC_CFG_NODE_ID p ∨ pcNode d = 0 ∨ pcNode d = 255 then s
  else
    match (s.sched p).cycleAt (s.nowR p), (s.slotTable p false).zipIdx.find? fun e => e.2 == pcSlot d && slotKind e.1 == 3 && s.slotOwned p e.1 with
    | some c, some e => s.updMdp p fun m => { m with own := some (s.nowR p + 9600 * nsT, (slotTimes c.start e.1).2.toNat), poll := some (e.2, s.nowR p) }
    | _, _ => s

/-! ## Acceptance at the master (R308, R309) -/

/-- What a received frame is to the master's slots. -/
inductive SlotVerdict where
  | accepted (i owner : Nat)
  | early (i owner : Nat)
  | late (i owner : Nat)
  | overrun (i owner : Nat)
  | noSlot
deriving DecidableEq, Repr

/-- How long after its end a slot's frames are accepted (R308). -/
def State.slotTail (s : State) (p : Nat) : Nat := s.accWin p + s.fld .MDP_PC_TIMING_MAX_PROP p * nsT

/-- The acceptance window of a slot's first frame (R308). -/
def State.slotWindow (s : State) (p : Nat) (start : Int) (i e : Nat) : Option (Int × Int) :=
  let acc : Int := (s.accWin p : Nat)
  let prop : Int := (s.fld .MDP_PC_TIMING_MAX_PROP p * nsT : Nat)
  let a := (slotTimes start e).1
  match slotKind e with
  | 2 => some (a - acc, a + acc + prop)
  | 3 =>
    (match (s.pt p).mdp.poll with
     | some (j, t) => if i = j then some ((t : Int) + (9600 * nsT : Nat), (t : Int) + (9600 * nsT : Nat) + (s.fld .MDP_PC_CFG_RESP_WIN p * 400 * nsT : Nat) + 2 * prop) else none
     | none => none)
  | _ => none

/-- A time's distance from a slot. -/
def slotDist (a z t : Int) : Nat := if t < a then (a - t).toNat else if z < t then (t - z).toNat else 0

/-- The verdict on a frame from its first to its last bit in guardian time, against the slot nearest to its first bit; a frame that lies in no slot at all is none's (R308, R309). -/
def State.slotVerdict (s : State) (p : Nat) (first last : Int) : SlotVerdict :=
  match (s.sched p true).cycleAt first with
  | none => .noSlot
  | some c =>
    let l := (s.slotTable p true).zipIdx
    let near := l.foldl (fun (b : Option (Nat × Nat)) x =>
      match b with
      | none => some (x.1, x.2)
      | some y =>
        let d (e : Nat) := slotDist (slotTimes c.start e).1 (slotTimes c.start e).2 first
        if d x.1 < d y.1 then some (x.1, x.2) else b) none
    match near with
    | none => .noSlot
    | some (e, i) =>
      let a := (slotTimes c.start e).1
      let z := (slotTimes c.start e).2
      let o := slotOwner e
      let fits := decide (last ≤ z + (s.slotTail p : Nat))
      let inSlot := l.any fun x => decide (first < (slotTimes c.start x.1).2) && decide ((slotTimes c.start x.1).1 < last)
      let inWin := (s.slotWindow p c.start i e).any fun w => decide (w.1 ≤ first) && decide (first ≤ w.2)
      if inWin || (((s.pt p).mdp.slots.get {} i).accepted && decide (a ≤ first) && decide (first < z)) then
        (if fits then .accepted i o else .overrun i o)
      else if !inSlot then .noSlot
      else if first < (match s.slotWindow p c.start i e with
        | some w => w.1
        | none => a) then .early i o
      else .late i o

/-- A node's bit among the four words of PC_PRESENT or PC_DRIFT. -/
def State.nodeBit (s : State) (f : Fl) (p o : Nat) (v : Bool) : State := s.setFld f p (o / 64) (putBit (s.fld f p (o / 64)) (o % 64) v)

/-- A frame of an owner missed its window (R309). -/
def State.windowMiss (s : State) (p i o word : Nat) : State :=
  (((s.portCount p word).pecEvent p 15 none o).event .MDP_EVENT_WINDOW_MISS p).updMdp p fun m => { m with slots := m.slots.upd {} i fun x => { x with missed := true } }

/-- A frame received by a master: accepted, or discarded and counted (R308, R309). -/
def State.pcAccept (s : State) (p n : Nat) : Bool × State :=
  let last : Int := s.nowG p
  let first := last - s.wireT p (8 + n + 4)
  match s.slotVerdict p first last with
  | .accepted i o =>
    let s := ((s.portCount p 32).pecEvent p 14 none o).updMdp p fun m => { m with slots := m.slots.upd {} i fun x => { x with accepted := true }, misses := m.misses.set 0 o 0 }
    (true, s.nodeBit .MDP_PC_DRIFT_NODES p o false)
  | .early i o => (false, s.windowMiss p i o 35)
  | .late i o => (false, s.windowMiss p i o 36)
  | .overrun i o => (false, s.windowMiss p i o 52)
  | .noSlot => (false, (s.portCount p 7).event .MDP_EVENT_WINDOW_MISS p)

/-- A slot has ended, and the time in which its frames are accepted: PC_PRESENT and the consecutive misses of its owner (R308, R309). -/
def State.pcSlotEnd (s : State) (p : Nat) : State :=
  match (s.pt p).mdp.slotOpen with
  | none => s
  | some (i, z) =>
    if s.nowG p ≤ z + s.slotTail p ∨ s.pcState p ≠ 5 then s
    else
      let x := (s.pt p).mdp.slots.get {} i
      let e := s.fld .MDP_PC_SLOT_OPER_ENTRY p i
      let o := slotOwner e
      let n := if x.missed && !x.accepted then (s.pt p).mdp.misses.get 0 o + 1 else 0
      let s := s.updMdp p fun m => { m with slotOpen := none, slots := m.slots.set {} i {} }
      if slotKind e = 1 then s
      else
        let s := (s.nodeBit .MDP_PC_PRESENT_NODES p o x.accepted).updMdp p fun m => { m with misses := m.misses.set 0 o n }
        if max 1 (s.fld .MDP_PC_TIMING_DRIFT_LIMIT p) ≤ n then (s.nodeBit .MDP_PC_DRIFT_NODES p o true).event .MDP_EVENT_DRIFT p else s

/-! ## The redundant pair (R320 to R322, R324) -/

/-- Words of 64 bits of a node set. -/
def nodeWords (v : Nat) : List (Nat × Nat) := (List.range 4).map fun j => (j, v / 2 ^ (64 * j) % 2 ^ 64)

/-- A STANDBY port applies a master record (R320). -/
def State.pcApply (s : State) (p st cycle present drift : Nat) : State :=
  if s.pcState p ≠ 6 then s
  else
    let s := (nodeWords present).foldl (fun a e => a.setFld .MDP_PC_PRESENT_NODES p e.1 e.2) s
    let s := (nodeWords drift).foldl (fun a e => a.setFld .MDP_PC_DRIFT_NODES p e.1 e.2) s
    (s.setFlds p 0 [(.MDP_PC_STATUS_STALE, 0), (.MDP_PC_STATUS_CYCLE, cycle)]).updMdp p fun m => { m with record := some (st == 5, s.lNow) }

/-- The last record is more than two cycles old (R320). -/
def State.pcStale (s : State) (p : Nat) : State :=
  if s.pcState p = 6 ∧ ((s.pt p).mdp.record.any fun r => decide (r.2 + 2 * s.operCycle p < s.lNow)) then s.setFld .MDP_PC_STATUS_STALE p 0 1 else s

/-- A STANDBY port at the passage to Active-Lead: it transmits from a domain time on (R321, R322, R496). -/
def State.pcTakeover (s : State) (p : Nat) (start : Nat) : State :=
  if s.pcState p ≠ 6 then s
  else if !((s.pt p).mdp.record.any fun r => r.1) then ((s.pcListen p).setFld .MDP_PC_STATUS_STALE p 0 0).event .MDP_EVENT_TAKEOVER p
  else
    let stale := s.on .MDP_PC_STATUS_STALE p
    let s := s.pcMaster p start true
    let s := (s.event .MDP_EVENT_TAKEOVER p).portCount p 31
    if stale then
      let s := (List.range 4).foldl (fun a j => (a.setFld .MDP_PC_PRESENT_NODES p j 0).setFld .MDP_PC_DRIFT_NODES p j 0) s
      (s.setFld .MDP_PC_STATUS_STALE p 0 0).fault 1 0 p
    else s

/-! ## The commands -/

/-- PC_ENABLE (R299, R311). -/
def execPcEnable (p : Port) (s : State) : Host.Outcome State Fault Refusal := done (s.powered fun s => s.pcEnable p)
/-- PC_LISTEN_EXPIRY (R311 to R313). -/
def execPcListenExpiry (p : Port) (s : State) : Host.Outcome State Fault Refusal := done (s.powered fun s => s.pcListenEnd p)
/-- PC_CLAIM_WAIT_EXPIRY (R313). -/
def execPcClaimWaitExpiry (p : Port) (carrier : Bool) (s : State) : Host.Outcome State Fault Refusal := done (s.powered fun s => (s.sense p carrier).pcClaim p)
/-- PC_CLAIM_SENT (R313). -/
def execPcClaimSent (p : Port) (s : State) : Host.Outcome State Fault Refusal := done (s.powered fun s => s.pcClaimSent p)
/-- PC_CLAIM_RECEIVED (R313, R317). -/
def execPcClaimReceived (p : Port) (d : List Byte) (s : State) : Host.Outcome State Fault Refusal := done (s.powered fun s => s.pcClaimIn p d)
/-- PC_BEACON_RECEIVED (R314 to R317, R319). -/
def execPcBeaconReceived (p : Port) (d : List Byte) (s : State) : Host.Outcome State Fault Refusal := done (s.powered fun s => s.pcBeaconIn p d)
/-- PC_BEACON_MISS (R316). -/
def execPcBeaconMiss (p : Port) (s : State) : Host.Outcome State Fault Refusal := done (s.powered fun s => s.pcBeaconMiss p)
/-- PC_SLOT_START (R305, R306). -/
def execPcSlotStart (p : Port) (s : State) : Host.Outcome State Fault Refusal := done (s.powered fun s => s.pcSlotStart p)
/-- PC_POLL_RECEIVED (R305, R306). -/
def execPcPollReceived (p : Port) (d : List Byte) (s : State) : Host.Outcome State Fault Refusal := done (s.powered fun s => s.pcPollIn p d)
/-- PC_SLOT_END (R308, R309). -/
def execPcSlotEnd (p : Port) (s : State) : Host.Outcome State Fault Refusal := done (s.powered fun s => s.pcSlotEnd p)
/-- PC_MASTER_RECORD_SEND (R320). -/
def execPcMasterRecordSend (p : Port) (s : State) : Host.Outcome State Fault Refusal := done (s.powered fun s => s.pcSend p)
/-- PC_MASTER_RECORD_APPLY (R320). -/
def execPcMasterRecordApply (p : Port) (st : Fin 7) (cycle : BitVec 32) (present drift : BitVec 256) (s : State) : Host.Outcome State Fault Refusal :=
  done (s.powered fun s => s.pcApply p st cycle.toNat present.toNat drift.toNat)
/-- PC_MASTER_STALE (R320). -/
def execPcMasterStale (p : Port) (s : State) : Host.Outcome State Fault Refusal := done (s.powered fun s => s.pcStale p)

end Sys2Proof.Machine
end

