-- ==== Sys2Proof/Machine/Strm.lean ====
section
/-!
DEFINITION. Stream identification and policing (chapter 04): keys, the Stream Cache, the Stream Table and Key Directory, stream gates and ingress gate lists, meters, destination
sets, and the table operations.
-/
namespace Sys2Proof.Machine

/-! ## Stream Table entries (Table 04-4) -/

def entValid (e : Nat) : Bool := bit e 511
def entMethod (e : Nat) : Nat := bits e 510 508
def entKey (e : Nat) : Nat := bits e 319 0
def entPinned (e : Nat) : Bool := bit e 507
def entBolts (e : Nat) : Nat := bits e 387 380

/-- The part of a key that is hashed and compared: bits [319:272] are left out for method 2 (R119, R124). -/
def keyPart (m k : Nat) : Nat := if m = 2 then k % 2 ^ 272 else k

/-- An entry's key as method and compared part. -/
def entId (e : Nat) : Nat × Nat := (entMethod e, keyPart (entMethod e) (entKey e))

/-- The register of the CRC of R119: initial value as given, no final inversion. -/
def crcReg (seed : Nat) (bs : List Byte) : Nat := bs.foldl (crcByte 0x82F63B78) seed

/-- The key string of R119. -/
def keyString (k : Nat × Nat) : List Byte := beBytes 1 k.1 ++ beBytes 40 k.2

def State.h1 (s : State) (k : Nat × Nat) : Nat := crcReg (s.fld .STRM_HASH_SEED_SEED1) (keyString k)
def State.h2 (s : State) (k : Nat × Nat) : Nat := crcReg (s.fld .STRM_HASH_SEED_SEED2) (keyString k)

/-- Set, buckets and directory tag of a key (R119). -/
def State.setOf (s : State) (k : Nat × Nat) : Nat := s.h1 k % 4096
def State.bucket1 (s : State) (k : Nat × Nat) : Nat := bits (s.h1 k) 22 0
def State.bucket2 (s : State) (k : Nat × Nat) : Nat := bits (s.h2 k) 22 0
def State.dirTag (s : State) (k : Nat × Nat) : Nat := bits (s.h1 k) 31 16 * 65536 + bits (s.h2 k) 31 16

/-! ## Keys of a frame (R108, R109) -/

/-- VID and TAG_CLASS of a frame. -/
def vidOf (x : Parse) : Nat := match x.outer with
  | some t => t % 4096
  | none => 0
def tagClass (x : Parse) : Nat := if vidOf x = 0 then 0 else 1

/-- A header that an IP method needs ends beyond byte 192: the ports only where the mask selects one (R103). -/
def State.ipBeyond (s : State) (p : Nat) (x : Parse) : Bool :=
  let need := if bits (s.fld .STRM_PORT_ID_CFG_IP_MASK p) 3 2 = 0 then
      (match x.l4 with
       | some o => o
       | none => x.ipEnd)
    else x.ipEnd
  decide (192 < need)

/-- The key that a method forms (Table 04-3), and whether the frame is parse-limited for it (R103). -/
def State.keyOf (s : State) (p : Nat) (d : List Byte) (x : Parse) (m : Nat) : Option Nat × Bool :=
  let tail := tagClass x * 4096 + vidOf x
  match m with
  | 0 => (some (beNat (slice d 0 6) * 8192 + tail), false)
  | 1 => (some (beNat (slice d 6 6) * 8192 + tail), false)
  | 2 => (some (beNat (slice d 0 6) * 8192 + tail), false)
  | _ =>
    let v6 := m == 4
    if x.ip ≠ (if v6 then 6 else 4) then (none, false)
    else if x.blocked || s.ipBeyond p x then (none, true)
    else
      let mask := s.fld .STRM_PORT_ID_CFG_IP_MASK p
      let sel (n v : Nat) : Nat := if mask.testBit n then v else 0
      let o := x.ipOff
      let src := if v6 then beNat (slice d (o + 8) 16) else beNat (slice d (o + 12) 4)
      let dst := if v6 then beNat (slice d (o + 24) 16) else beNat (slice d (o + 16) 4)
      let dscp := if v6 then be16 d o / 64 % 64 else byteAt d (o + 1) / 4
      let sp := match x.l4 with
        | some l => be16 d l
        | none => 0
      let dp := match x.l4 with
        | some l => be16 d (l + 2)
        | none => 0
      (some (sel 0 src * 2 ^ 192 + sel 1 dst * 2 ^ 64 + sel 2 sp * 2 ^ 48 + sel 3 dp * 2 ^ 32 + sel 4 x.proto * 2 ^ 24 + sel 5 dscp * 2 ^ 18
        + tagClass x * 4096 + sel 6 (vidOf x)), false)

/-- The keys of a frame, METHOD_A first, and whether it is parse-limited (R103, R108). -/
def State.keysOf (s : State) (p : Nat) (d : List Byte) : List (Nat × Nat) × Bool :=
  let x := parse d
  let one (en : Bool) (m : Nat) : List (Nat × Nat) × Bool :=
    if en && decide (m < 5) then
      (match s.keyOf p d x m with
       | (some k, l) => ([(m, k)], l)
       | (none, l) => ([], l))
    else ([], false)
  let a := one (s.on .STRM_PORT_ID_CFG_A_EN p) (s.fld .STRM_PORT_ID_CFG_METHOD_A p)
  let b := one (s.on .STRM_PORT_ID_CFG_B_EN p) (s.fld .STRM_PORT_ID_CFG_METHOD_B p)
  (a.1 ++ b.1, a.2 || b.2 || x.blocked)

/-! ## The Stream Cache (R118 to R122, R125) -/

def State.dramless (s : State) : Bool := s.on .STRM_CTRL_DRAMLESS
def State.ways (s : State) (b k : Nat) : List Way := s.strm.slice.get [] (4096 * b + k)
def State.setWays (s : State) (b k : Nat) (l : List Way) : State := { s with strm := { s.strm with slice := s.strm.slice.set [] (4096 * b + k) l } }

/-- A way holds, or has lost, a pinned or resident entry of the slice of Bolt `b`. -/
def State.wayKept (s : State) (b : Nat) (w : Way) : Bool :=
  match w.kind with
  | .lost => true
  | .negative => false
  | .entry => s.dramless || (entPinned w.ent && (entBolts w.ent).testBit b)

/-- Room for one more way: the least recently used way that is not kept leaves a full set (R120). -/
def State.evict (s : State) (b : Nat) (l : List Way) : List Way :=
  if l.length < 8 then l
  else match l.reverse.find? fun w => !s.wayKept b w with
    | some w => l.erase w
    | none => l

/-- A copy loaded as the most recently used way; it finds no place where every way is kept. -/
def State.loadWay (s : State) (b k : Nat) (w : Way) : State :=
  let l := s.evict b (s.ways b k)
  if l.length < 8 then s.setWays b k (w :: l) else s

/-- A negative entry lives (R129). -/
def State.negLive (s : State) (w : Way) : Bool := w.kind == .negative && decide (s.lNow < w.ends)

/-- What a slice answers for a key. -/
inductive Hit where
  | found (idx ent : Nat)
  | negative
  | lost
  | miss
deriving DecidableEq, Repr

/-- A hit makes its way the most recently used (R120). -/
def State.touch (s : State) (b k : Nat) (w : Way) : State := s.setWays b k (w :: (s.ways b k).erase w)

/-- A lookup of one key in a slice (R110, R122, R124, R129). -/
def State.lookup1 (s : State) (b : Nat) (key : Nat × Nat) : Hit × State :=
  let id := (key.1, keyPart key.1 key.2)
  let k := s.setOf id
  let l := s.ways b k
  match l.find? fun w => w.kind == .entry && entValid w.ent && decide (entId w.ent = id) with
  | some w => (.found w.idx w.ent, s.touch b k w)
  | none =>
    if l.any fun w => w.kind == .lost then (.lost, s)
    else match l.find? fun w => s.negLive w && decide (entId w.ent = id) with
      | some w => (.negative, s.touch b k w)
      | none => (.miss, s)

/-- A corrected ECC error in a slice (R122). -/
def State.cacheCorr (s : State) (b : Nat) : State := (s.bump (boltWord b 11)).event .STRM_EVENT_ECC_CORR

/-- An uncorrectable ECC error in a way (R122, R469): the way is invalidated; of a pinned or resident entry it is kept as lost, with a Degraded fault. -/
def State.loseWay (s : State) (b k i : Nat) : State :=
  match (s.ways b k)[i]? with
  | none => s
  | some w =>
    let s := s.bump (boltWord b 12)
    if w.kind == .lost then s
    else if s.wayKept b w then
      ((s.setWays b k ((s.ways b k).map fun x => if x = w then { w with kind := .lost } else x)).event .STRM_EVENT_ECC_UNCORR).fault 2 11 b
    else s.setWays b k ((s.ways b k).erase w)

/-- An error that a lookup meets: the way it lies in, and whether it lies in the set of the second key (R122). -/
def State.cacheError (s : State) (b : Nat) (keys : List (Nat × Nat)) (e : CacheErr) : State :=
  match e with
  | .none => s
  | .corrected => if keys.isEmpty then s else s.cacheCorr b
  | .uncorrectable second way =>
    match keys[if second then 1 else 0]? with
    | some k => s.loseWay b (s.setOf (k.1, keyPart k.1 k.2)) way
    | none => s

/-- The SLICE_STATUS counts of a Bolt (Table 04-16). -/
def State.slicePinned (s : State) (b : Nat) : Nat :=
  ((s.strm.slice.filter fun e => e.1 / 4096 == b).map fun e => (e.2.filter fun w => w.kind == .entry && s.wayKept b w).length).sum
def State.sliceValid (s : State) (b : Nat) : Nat :=
  ((s.strm.slice.filter fun e => e.1 / 4096 == b).map fun e => (e.2.filter fun w => w.kind == .entry && entValid w.ent).length).sum

/-! ## Stream Table and Key Directory in DRAM (R123, R124) -/

def State.entAddr (s : State) (idx : Nat) : Nat := s.fld .STRM_TBL_BASE_BASE * 2 ^ 30 + 64 * idx
def State.slotAddr (s : State) (b i : Nat) : Nat := s.fld .STRM_DIR_BASE_BASE * 2 ^ 29 + 64 * b + 8 * i
def State.dramEnt (s : State) (idx : Nat) : Nat := Memory.readLe s.dram (s.entAddr idx) 64
def State.setDramEnt (s : State) (idx e : Nat) : State := { s with dram := Memory.writeLe s.dram (s.entAddr idx) 64 e }
def State.slotWord (s : State) (b i : Nat) : Nat := Memory.readLe s.dram (s.slotAddr b i) 8
def State.setSlot (s : State) (b i w : Nat) : State := { s with dram := Memory.writeLe s.dram (s.slotAddr b i) 8 w }

/-- The slots of a key's buckets: one bucket where the two are equal. -/
def State.keySlots (s : State) (k : Nat × Nat) : List (Nat × Nat) :=
  let bs := if s.bucket1 k = s.bucket2 k then [s.bucket1 k] else [s.bucket1 k, s.bucket2 k]
  (bs.map fun b => (List.range 8).map fun i => (b, i)).flatten

/-- The valid slot of a key's buckets that holds its tag. -/
def State.tagSlot (s : State) (k : Nat × Nat) : Option (Nat × Nat) :=
  (s.keySlots k).find? fun e => let w := s.slotWord e.1 e.2; bit w 63 && bits w 55 24 == s.dirTag k

/-- A lookup in DRAM: bucket, slot, stream index and entry (R124). -/
def State.dramFind (s : State) (k : Nat × Nat) : Option (Nat × Nat × Nat × Nat) :=
  match s.tagSlot k with
  | some (b, i) =>
    let idx := s.slotWord b i % 2 ^ 24
    let e := s.dramEnt idx
    if entId e = k then some (b, i, idx, e) else none
  | none => none

/-- A way of some slice that holds an entry which satisfies a test; one that has been lost is invalid (R122). -/
def State.sliceFind (s : State) (f : Way → Bool) : Option Way := s.strm.slice.findSome? fun e => e.2.find? fun w => w.kind == .entry && f w

/-- The index and entry of a key: from DRAM, or from the slices of a DRAM-less build (R125). -/
def State.findKey (s : State) (k : Nat × Nat) : Option (Nat × Nat) :=
  if s.dramless then (s.sliceFind fun w => decide (entId w.ent = k)).map fun w => (w.idx, w.ent)
  else (s.dramFind k).map fun x => (x.2.2.1, x.2.2.2)

/-- The entry at a stream index. -/
def State.entAt (s : State) (idx : Nat) : Nat :=
  if s.dramless then
    (match s.sliceFind fun w => w.idx == idx with
     | some w => w.ent
     | none => 0)
  else s.dramEnt idx

/-! ## Entries changed in every slice (R120, R125, R144) -/

/-- An entry is kept in the slice of a Bolt. -/
def State.entKept (s : State) (e b : Nat) : Bool := (s.dramless || entPinned e) && (entBolts e).testBit b

/-- An entry would find no place: 6 pinned entries, or 8 resident ones, in a set already (R120, R125). -/
def State.pinFull (s : State) (idx e : Nat) : Bool :=
  let k := s.setOf (entId e)
  (List.range 8).any fun b => s.entKept e b &&
    decide ((if s.dramless then 8 else 6) ≤ ((s.ways b k).filter fun w => w.idx != idx && s.wayKept b w).length)

/-- Negative entries of a key are invalidated in every slice (R129). -/
def State.dropNegative (s : State) (id : Nat × Nat) : State :=
  (List.range 8).foldl (fun a b =>
    let k := a.setOf id
    a.setWays b k ((a.ways b k).filter fun w => !(w.kind == .negative && decide (entId w.ent = id)))) s

/-- The copies of an entry in the slices brought up to date: kept where it is pinned or resident, an unpinned copy where one was, gone otherwise. -/
def State.syncSlices (s : State) (idx e : Nat) : State :=
  let k := s.setOf (entId e)
  (List.range 8).foldl (fun a b =>
    let l := a.ways b k
    let had := l.any fun w => w.idx == idx && w.kind == .entry
    let rest := l.filter fun w => !(w.idx == idx && w.kind != .negative) && !(w.kind == .lost && decide (entId w.ent = entId e))
    if a.entKept e b then (a.setWays b k rest).loadWay b k ⟨.entry, idx, e, 0⟩
    else if !a.dramless && had then a.setWays b k (l.filterMap fun w =>
      if w.idx = idx ∧ w.kind = .entry then some { w with ent := e } else if w.idx = idx ∧ w.kind = .lost then none else some w)
    else a.setWays b k rest) s

/-- An entry removed from every slice. -/
def State.dropSlices (s : State) (idx e : Nat) : State :=
  let k := s.setOf (entId e)
  (List.range 8).foldl (fun a b => a.setWays b k ((a.ways b k).filter fun w => !(w.idx == idx && w.kind != .negative))) s

/-- An entry stored at its index and in the slices. -/
def State.storeEnt (s : State) (idx e : Nat) : State := (if s.dramless then s else s.setDramEnt idx e).syncSlices idx e

/-! ## Table operations on the Stream Table (Table 04-12, R143 to R145) -/

/-- The record in TBL_DATA, and TBL_DATA given a record. -/
def State.tblData (s : State) : Nat := ((List.range 8).map fun i => s.fld .STRM_TBL_DATA_DATA i * 2 ^ (64 * i)).sum
def State.setTblData (s : State) (v : Nat) : State := (List.range 8).foldl (fun a i => a.setFld .STRM_TBL_DATA_DATA i 0 (v / 2 ^ (64 * i))) s

/-- The operation in progress ends with a code. -/
def State.tblEnd (s : State) (code : Nat) (idx : Nat := 0) : State := { s with strm := { s.strm with tblCode := code, tblIdx := idx } }

/-- INSERT (R124, R125, R129, R145). -/
def State.tblInsert (s : State) (idx : Nat) : State :=
  let e := s.tblData
  let k := entId e
  let other := match s.findKey k with
    | some (i, _) => i != idx
    | none => false
  if 5 ≤ entMethod e then s.tblEnd 7
  else if entValid (s.entAt idx) || other then s.tblEnd 2
  else if s.dramless then
    (if s.pinFull idx e then s.tblEnd 5 else ((s.storeEnt idx e).dropNegative k).tblEnd 0)
  else
    let same := (s.findKey k).isSome
    let count (b : Nat) : Nat := ((List.range 8).filter fun i => bit (s.slotWord b i) 63).length
    let b := if count (s.bucket2 k) < count (s.bucket1 k) then s.bucket2 k else s.bucket1 k
    if !same && (s.tagSlot k).isSome then s.tblEnd 4
    else
      match (List.range 8).find? fun i => !bit (s.slotWord b i) 63 with
      | none => if same then (if s.pinFull idx e then s.tblEnd 5 else ((s.storeEnt idx e).dropNegative k).tblEnd 0) else s.tblEnd 3
      | some i =>
        if s.pinFull idx e then s.tblEnd 5
        else
          let s := if same then s else s.setSlot b i (2 ^ 63 + s.dirTag k * 2 ^ 24 + idx)
          ((s.storeEnt idx e).dropNegative k).tblEnd 0

/-- An operation on the entry that the key in TBL_DATA finds; `f` gives the new entry from the old. -/
def State.tblChange (s : State) (f : Nat → Nat) : State :=
  let e := s.tblData
  if 5 ≤ entMethod e then s.tblEnd 7
  else
    match s.findKey (entId e) with
    | none => s.tblEnd 1
    | some (idx, old) => if s.pinFull idx (f old) then s.tblEnd 5 else (s.storeEnt idx (f old)).tblEnd 0

/-- UPDATE: every field but METHOD and KEY comes from TBL_DATA (R113). -/
def updated (old new : Nat) : Nat := new / 2 ^ 511 * 2 ^ 511 + entMethod old * 2 ^ 508 + bits new 507 320 * 2 ^ 320 + entKey old

/-- PIN: PINNED set and PIN_BOLTS from TBL_DATA. -/
def pinned (old new : Nat) : Nat := old / 2 ^ 508 * 2 ^ 508 + 2 ^ 507 + bits old 506 388 * 2 ^ 388 + entBolts new * 2 ^ 380 + old % 2 ^ 380

/-- UNPIN: PINNED cleared. -/
def unpinned (old : Nat) : Nat := clearBit old 507

/-- DELETE: VALID and the directory slot cleared, the entry removed from every slice. -/
def State.tblDelete (s : State) : State :=
  let e := s.tblData
  if 5 ≤ entMethod e then s.tblEnd 7
  else
    match s.findKey (entId e) with
    | none => s.tblEnd 1
    | some (idx, old) =>
      let s := s.dropSlices idx old
      let s := if s.dramless then s
        else match s.dramFind (entId e) with
          | some (b, i, _, _) => (s.setSlot b i 0).setDramEnt idx (clearBit old 511)
          | none => s
      s.tblEnd 0

/-- LOOKUP. -/
def State.tblLookup (s : State) : State :=
  let e := s.tblData
  if 5 ≤ entMethod e then s.tblEnd 7
  else
    match s.findKey (entId e) with
    | none => s.tblEnd 1
    | some (idx, old) => (s.setTblData old).tblEnd 0 idx

/-! ## Ingress gate lists (R133, R134) -/

def State.igl (s : State) (l : Nat) : IglSt := s.strm.igl.get {} l
def State.setIgl (s : State) (l : Nat) (x : IglSt) : State := { s with strm := { s.strm with igl := s.strm.igl.set {} l x } }

def IglSt.entries (x : IglSt) (b n : Nat) : List Nat := (List.range n).map fun i => x.ents.get 0 (256 * b + i)

/-- The schedule of an ingress gate list; it has no cycle extension. How its entries fill its cycle is that of R208 for a port's list, which chapter 04 does not state (log entry 115). -/
def IglSt.sched (x : IglSt) : Sched :=
  { cur := if x.running then some ⟨x.operBase, x.operCycle, x.entries x.bank x.operLen⟩ else none, tPrev := x.tPrev, ext := 0,
    next := x.tsw.map fun t => (t, ⟨timeOf x.baseSec x.baseNs 0, x.cycle * nsT, x.entries (1 - x.bank) x.adminLen⟩), halt := false }

/-- The interval of the list that holds at a domain time: before the last switch or stop the list that ran then, from a STOP on none. -/
def IglSt.spanAt (x : IglSt) (t : Int) : Option (Cyc × Span) :=
  if x.since.any fun u => decide (t < u) then
    (match x.old with
     | some (b, c, es) => ({ cur := some ⟨b, c, es⟩, tPrev := 0, ext := 0, next := none, halt := false } : Sched).spanAt t
     | none => none)
  else if x.stopAt.any fun u => decide (u ≤ t) then none
  else x.sched.spanAt t

/-- The list as it leaves off at a time: what ran until then is remembered for frames whose first bit came before (R133). -/
def IglSt.leave (x : IglSt) (t : Int) : IglSt :=
  { x with since := some t, old := if x.running then some (x.operBase, x.operCycle, x.entries x.bank x.operLen) else none }

/-- The banks exchange at a time (R134, R216). -/
def IglSt.exchange (x : IglSt) (t : Nat) : IglSt :=
  { x.leave t with bank := 1 - x.bank, running := true, tsw := none, operBase := timeOf x.baseSec x.baseNs 0, operCycle := x.cycle * nsT, operLen := x.adminLen, tPrev := t }

/-- The list stops at a time; a pending switch that lies later is cancelled (R134, R213). -/
def IglSt.halt (x : IglSt) (t : Int) : IglSt := { (if x.since = some t then x else x.leave t) with running := false, stopAt := none, tsw := none }

/-- The switch and the stop that are due at a domain time. -/
def IglSt.settle (x : IglSt) (now : Int) : IglSt :=
  let x := match x.tsw with
    | some t => if (t : Int) ≤ now ∧ (x.stopAt.all fun u => decide ((t : Int) ≤ u)) then x.exchange t else x
    | none => x
  match x.stopAt with
  | some u => if u ≤ now then x.halt u else x
  | none => x

/-- STOP: remembered only while the list runs; it acts at the next cycle start (R134, R213). -/
def IglSt.stop (x : IglSt) (now : Int) : IglSt :=
  if x.running && x.stopAt.isNone then { x with stopAt := (x.sched.cycleAt now).map (·.stop) } else x

/-- A step of the list's domain (R134, R219): a pending switch that is passed takes place, a STOP waits for the next cycle start. -/
def IglSt.step (x : IglSt) (new : Nat) : IglSt :=
  let x := { x with since := none, old := none }
  let x := match x.tsw with
    | some t => if t ≤ new then { x.exchange new with since := none, old := none } else x
    | none => x
  if x.stopAt.isSome then { x with stopAt := (x.sched.cycleAt new).map (·.stop) } else x

/-- The configuration record (Table 04-9). -/
def IglSt.record (x : IglSt) : Nat :=
  x.baseSec * 2 ^ 128 + x.baseNs * 2 ^ 96 + x.cycle * 2 ^ 64 + b2n x.tsw.isSome * 2 ^ 62 + x.dom * 2 ^ 59 + b2n x.oosOpen * 2 ^ 58 + x.bank * 2 ^ 57
    + x.adminLen * 2 ^ 48 + b2n x.running * 2 ^ 46

/-- The checks of a COMMIT (R134). -/
def State.iglBad (s : State) (x : IglSt) : Bool :=
  x.adminLen == 0 || decide (256 < x.adminLen) || decide (x.cycle < 16) || s.domState x.dom == 0
    || (x.entries (1 - x.bank) x.adminLen).any fun e => decide (bits e 31 0 < 16) || bits e 58 56 != 0

/-- A WRITE refused under R134. -/
def State.iglRefused (s : State) : State := (s.event .STRM_EVENT_CHANGE_REFUSED).tblEnd 9

/-- A WRITE of a configuration record (R134). With a STOP pending, the next cycle start is that of the list with its new switch: where the switch comes first, both act at it (R213). -/
def State.iglWrite (s : State) (l v : Nat) : State :=
  let x := s.igl l
  let commit := bit v 63
  let y := { x with baseSec := bits v 175 128, baseNs := bits v 127 96, cycle := bits v 95 64, dom := bits v 61 59, oosOpen := bit v 58, adminLen := bits v 56 48 }
  let frozen := x.tsw.isSome && (commit || y.baseSec != x.baseSec || y.baseNs != x.baseNs || y.cycle != x.cycle || y.adminLen != x.adminLen)
  let moved := y.dom != x.dom && (x.running || x.tsw.isSome)
  if 999999999 < y.baseNs then s.tblEnd 7
  else if frozen || moved then s.iglRefused
  else if commit && s.iglBad y then s.tblEnd 7
  else
    let now := s.voted y.dom
    let y := if bit v 47 then y.stop now else y
    let y := if commit then { y with tsw := some (switchTime now (timeOf y.baseSec y.baseNs 0) (y.cycle * nsT)) } else y
    let y := if commit && y.stopAt.any (fun u => decide ((now : Int) < u)) then { y with stopAt := (y.sched.cycleAt now).map (·.stop) } else y
    (s.setIgl l y).tblEnd 0

/-- A WRITE of an admin entry (R134). -/
def State.iglEntWrite (s : State) (i v : Nat) : State :=
  let l := i / 256
  let x := s.igl l
  if x.tsw.isSome then s.iglRefused
  else (s.setIgl l { x with ents := x.ents.set 0 (256 * (1 - x.bank) + i % 256) (v % 2 ^ 64) }).tblEnd 0

/-- The switch of a list (R134). -/
def State.iglSwitch (s : State) (l : Nat) : State := s.setIgl l ((s.igl l).settle (s.voted (s.igl l).dom))

/-- An interval start of a list: a STOP that is due acts, and octet counts of intervals that no waiting frame can meet are dropped (R127, R134, R135). -/
def State.iglInterval (s : State) (l : Nat) : State :=
  let s := s.iglSwitch l
  match (s.igl l).spanAt (s.voted (s.igl l).dom) with
  | some (_, x) =>
    let old (e : Nat × List (Int × Nat)) : Nat × List (Int × Nat) :=
      if bits (s.strm.gate.get 0 e.1) 63 52 = l then (e.1, e.2.filter fun c => decide (x.start ≤ c.1 + (1000000 * nsT : Nat))) else e
    { s with strm := { s.strm with oct := (s.strm.oct.map old).filter fun e => !e.2.isEmpty } }
  | none => s

/-- A step of a domain to a new time repositions its lists (R134, R219). -/
def State.iglStep (s : State) (d new : Nat) : State :=
  { s with strm := { s.strm with igl := s.strm.igl.map fun e => if e.2.dom = d then (e.1, e.2.step new) else e } }

/-! ## Stream gates (R132, R135, R137) -/

/-- The outcome of a stream gate: the IPV of a passed frame, or the port counter of its discard. -/
inductive GateOut where
  | pass (ipv : Option Nat)
  | drop (word : Nat)
deriving DecidableEq, Repr

def State.setGate (s : State) (g v : Nat) : State := { s with strm := { s.strm with gate := s.strm.gate.set 0 g v } }

/-- The octet limit and the IPV of a frame of `n` bytes that meets an open interval (R135). -/
def State.gateOpenPass (s : State) (g n : Nat) (x : Span) : GateOut × State :=
  let r := s.strm.gate.get 0 g
  let max := bits x.ent 55 32
  let ipv := if bit x.ent 62 then some (bits x.ent 61 59) else none
  let l := s.strm.oct.get [] g
  let had := ((l.filter fun c => c.1 == x.start).map (·.2)).sum
  if max = 0 then (.pass ipv, s)
  else if max < had + n then (.drop 20, if bit r 31 then s.setGate g (setBit r 30) else s)
  else (.pass ipv, { s with strm := { s.strm with oct := s.strm.oct.set [] g ((x.start, had + n) :: l.filter fun c => c.1 != x.start) } })

/-- The stream gate (R132 to R137): MAX_SDU, the gate's own flags, the state of its list. -/
def State.gateCheck (s : State) (g n tL : Nat) : GateOut × State :=
  let r := s.strm.gate.get 0 g
  let sdu := bits r 51 36
  if sdu ≠ 0 ∧ sdu < n then (.drop 19, if bit r 35 then s.setGate g (setBit r 34) else s)
  else if bit r 34 then (.drop 19, s)
  else if bit r 32 then (.drop 18, s)
  else if bit r 30 then (.drop 18, if bit r 33 && s.inSync (s.igl (bits r 63 52)).dom then s.setGate g (setBit r 32) else s)
  else
    let x := s.igl (bits r 63 52)
    let t : Int := (tL : Int) + s.voted x.dom - s.lNow
    match x.spanAt t, s.inSync x.dom with
    | some (_, y), true =>
      if bit y.ent 63 then s.gateOpenPass g n y else (.drop 18, if bit r 33 then s.setGate g (setBit r 32) else s)
    | _, _ => if x.oosOpen then (.pass none, s) else (.drop 18, s)

/-! ## Meters (R138 to R142) -/

/-- The record of a meter: one that nothing has written or used is all 0 but for LAST, which the sweep keeps up to date. -/
def State.meterRec (s : State) (m : Nat) : Nat := (s.strm.meter.get none m).getD (s.strm.swept % 2 ^ 48)
def State.setMeter (s : State) (m v : Nat) : State := { s with strm := { s.strm with meter := s.strm.meter.set none m (some v) } }

/-- A meter record with its buckets and LAST. -/
def meterPut (r c e last : Nat) : Nat := r / 2 ^ 128 * 2 ^ 128 + c % 2 ^ 40 * 2 ^ 88 + e % 2 ^ 40 * 2 ^ 48 + last % 2 ^ 48

/-- Tokens that a rate of 8 kb/s units adds in `dt` ns, in 2^-16 bytes; the rounding is not stated (log entry 6). -/
def tokensIn (rate dt : Nat) : Nat := (Frac.toWord (Frac.norm ((rate * 65536 * dt : Nat) : Int) 1000000)).toNat

/-- The buckets and LAST of a record brought up to a time in ns (R139). -/
def meterFill (r t : Nat) : Nat × Nat × Nat :=
  let last := r % 2 ^ 48
  let d := toSigned 48 ((t % 2 ^ 48 + 2 ^ 48 - last) % 2 ^ 48)
  let dt := d.toNat
  let c := bits r 127 88 + tokensIn (bits r 255 234) dt
  let cbs := bits r 211 188 * 65536
  let spill := c - cbs
  let e := bits r 87 48 + tokensIn (bits r 233 212) dt + (if bit r 163 then spill else 0)
  (min c cbs, min e (bits r 187 164 * 65536), if 0 < d then t % 2 ^ 48 else last)

/-- The meter colours a frame of `n` bytes: 0 green, 1 yellow, 2 red (R139). -/
def State.meterRun (s : State) (m n tNs : Nat) (dei : Bool) : Nat × State :=
  let r := s.meterRec m
  let (c, e, last) := meterFill r tNs
  let len := n * 65536
  let green := !(bit r 162 && dei)
  let (col, c, e) :=
    if bit r 159 then (2, c, e)
    else if green ∧ len ≤ c then (0, c - len, e)
    else if len ≤ e then (1, c, e - len)
    else (2, c, e)
  let r := if col = 2 ∧ bit r 160 then setBit r 159 else r
  (col, s.setMeter m (meterPut r c e last))

/-- A WRITE of a meter record (R138, R142). -/
def State.meterWrite (s : State) (m v : Nat) : State :=
  if 3125000 < bits v 255 234 ∨ 3125000 < bits v 233 212 then s.tblEnd 7
  else (s.setMeter m (meterPut (v % 2 ^ 256) (bits v 211 188 * 65536) (bits v 187 164 * 65536) s.lNs)).tblEnd 0

/-- The background sweep (R141). -/
def State.meterSweep (s : State) : State :=
  let up (r : Nat) : Nat := let (c, e, last) := meterFill r s.lNs; meterPut r c e last
  { s with strm := { s.strm with meter := s.strm.meter.map (fun x => (x.1, x.2.map up)), swept := s.lNs } }

/-! ## Table operations (R143 to R145) -/

/-- Records of each table. -/
def tblSize (t : Nat) : Nat :=
  match t with
  | 0 => 2 ^ 24
  | 1 => 262144
  | 2 => 65536
  | 3 => 1048576
  | 4 => 4096
  | 5 => 4096
  | _ => 0

/-- A table operation starts: ignored while BUSY, otherwise its effect, and BUSY until it completes (R144, R145). -/
def State.tblGo (s : State) (table op idx : Nat) (k : State → State) : State :=
  if s.on .STRM_TBL_STATUS_BUSY then s.event .STRM_EVENT_TBL_COLLIDE
  else
    let s := s.setFlds 0 0 [(.STRM_TBL_CMD_TABLE, table), (.STRM_TBL_CMD_OP, op), (.STRM_TBL_CMD_INDEX, idx), (.STRM_TBL_STATUS_BUSY, 1)]
    let defined := if op = 0 then decide (table < 6) else if op = 1 then decide (1 ≤ table) && decide (table < 6) else table == 0 && decide (op < 8)
    if !defined then s.tblEnd 7
    else if tblSize table ≤ idx then s.tblEnd 6
    else k s

/-- An operation on table 0 that reads DRAM meets an uncorrectable error (code 8). -/
def State.onDram (s : State) (err : Bool) (k : State → State) : State :=
  if (err || s.thim.dramFailed) && !s.dramless then s.tblEnd 8 else k s

/-- Bytes at or above the installed size of DRAM (R548). -/
def State.dramBeyond (s : State) (a n : Nat) : Bool := decide (s.dma.dramSize < a + n)

/-- The entry at an index, or a bucket or entry of a key, lies beyond the installed DRAM (R548). -/
def State.entBeyond (s : State) (idx : Nat) : Bool := s.dramBeyond (s.entAddr idx) 64
def State.keyBeyond (s : State) (k : Nat × Nat) : Bool :=
  s.dramBeyond (s.slotAddr (s.bucket1 k) 0) 64 || s.dramBeyond (s.slotAddr (s.bucket2 k) 0) 64
    || (match s.tagSlot k with
        | some (b, i) => s.entBeyond (s.slotWord b i % 2 ^ 24)
        | none => false)

/-- READ. -/
def State.tblRead (s : State) (table idx : Nat) (err : Bool) : State :=
  match table with
  | 0 => s.onDram (err || s.entBeyond idx) fun s => (s.setTblData (s.entAt idx)).tblEnd 0
  | 1 => (s.setTblData (s.meterRec idx)).tblEnd 0
  | 2 => (s.setTblData (s.strm.gate.get 0 idx)).tblEnd 0
  | 3 => let x := s.igl (idx / 256); (s.setTblData (x.ents.get 0 (256 * (1 - x.bank) + idx % 256))).tblEnd 0
  | 4 => (s.setTblData (s.igl idx).record).tblEnd 0
  | _ => (s.setTblData (s.strm.dset.get 0 idx)).tblEnd 0

/-- WRITE. -/
def State.tblWrite (s : State) (table idx : Nat) : State :=
  let v := s.tblData
  match table with
  | 1 => s.meterWrite idx v
  | 2 => (s.setGate idx (v % 2 ^ 64)).tblEnd 0
  | 3 => s.iglEntWrite idx v
  | 4 => s.iglWrite idx v
  | _ => { s with strm := { s.strm with dset := s.strm.dset.set 0 idx (v % 2 ^ 128) } }.tblEnd 0

/-! ## Lead-only functions and generators (R170, R400) -/

/-- Stream Table entries with VALID and MIRROR = 1 and one of RCV_EN and GEN_EN. -/
def State.mirrorEnts (s : State) : List Nat :=
  let l := if s.dramless then
      ((s.strm.slice.map fun e => (e.2.filter fun w => w.kind != .negative).map (·.ent)).flatten).filter entValid
    else
      let base := s.fld .STRM_TBL_BASE_BASE * 2 ^ 30
      (s.dram.filter fun e => decide (base ≤ e.1) && decide (e.1 < base + 2 ^ 30) && e.1 % 64 == 63 && bit e.2.toNat 7).map fun e => s.dramEnt ((e.1 - base) / 64)
  l.filter fun e => bit e 506

/-- The Lead-only functions (kind 0) and generators (kind 1) of the Stream Table and the publication table. -/
def State.leadOnly (s : State) : List (Nat × Nat) :=
  let one (e : Nat) : List (Nat × Nat) :=
    (if bit e 504 then [(0, bits e 465 448)] else []) ++ (if bit e 503 then [(1, bits e 447 430)] else [])
  let pubs := (s.dma.pub.filter fun e => bits e.2.word 506 505 == 2 && bit e.2.word 500).map fun e => (1, bits e.2.word 499 482)
  ((s.mirrorEnts.map one).flatten ++ pubs).eraseDups

/-- The function or generator is marked stale (R176). -/
def State.isStale (s : State) (kind i : Nat) : Bool := s.pair.stale.contains (kind, i)

/-- STALE cleared for one of them. -/
def State.unstale (s : State) (kind i : Nat) : State := { s with pair := { s.pair with stale := s.pair.stale.filter fun e => e != (kind, i) } }

/-- Functions and generators with STALE = 1 (Table 05-10). -/
def State.staleCount (s : State) : Nat := (s.pair.stale.filter fun e => decide (e.1 < 2)).length

/-- Every Lead-only function and generator becomes stale (R176, R482, R486). -/
def State.staleAll (s : State) : State :=
  let new := s.leadOnly.filter fun e => !s.pair.stale.contains e
  if new.isEmpty then s
  else
    let first := s.staleCount == 0
    let s := { s with pair := { s.pair with stale := s.pair.stale ++ new } }
    if first then s.event .MEND_EVENT_MIRROR_STALE else s

/-- Every Lead-only function and generator of the Shadow becomes stale (R176). -/
def State.markStale (s : State) : State := if s.dev = .shadow then s.staleAll else s

/-- What makes Lead-only state of the Shadow stale holds: both lanes are down, or MIRROR_EN = 0 (R176). -/
def State.staleCheck (s : State) : State :=
  if (!s.on .PAIR_STATUS_PL0_OK && !s.on .PAIR_STATUS_PL1_OK) || !s.on .MEND_CTRL_MIRROR_EN then s.markStale else s

/-- The operation ends (R145); an entry that it made Lead-only may be stale from the first (R176). -/
def State.tblDone (s : State) : State :=
  if s.on .STRM_TBL_STATUS_BUSY then
    ((s.setFlds 0 0 [(.STRM_TBL_STATUS_BUSY, 0), (.STRM_TBL_STATUS_CODE, s.strm.tblCode), (.STRM_TBL_STATUS_INDEX, s.strm.tblIdx)]).event .STRM_EVENT_TBL_DONE).staleCheck
  else s

/-! ## HASH_SEED, expiry and reload (R122, R129, R565) -/

/-- A directory slot in DRAM is valid: the top bit of the last byte of some slot. -/
def State.dirHolds (s : State) : Bool :=
  let base := s.fld .STRM_DIR_BASE_BASE * 2 ^ 29
  s.dram.any fun e => decide (base ≤ e.1) && decide (e.1 < base + 2 ^ 29) && e.1 % 8 == 7 && decide (128 ≤ e.2.toNat)

/-- No valid Stream Table entry exists (R565). -/
def State.tableEmpty (s : State) : Bool :=
  if s.dramless then (s.sliceFind fun _ => true).isNone else !s.dirHolds

/-- A write of HASH_SEED (R565). -/
def State.seedWrite (s : State) (v : Nat) : State :=
  if !s.on .STRM_CTRL_RUN && s.tableEmpty then
    let s := s.setFlds 0 0 [(.STRM_HASH_SEED_SEED2, v / 2 ^ 32), (.STRM_HASH_SEED_SEED1, v)]
    { s with strm := { s.strm with slice := [] } }
  else s.event .STRM_EVENT_CHANGE_REFUSED

/-- Negative entries whose life has ended are gone (R129). -/
def State.negExpire (s : State) : State :=
  { s with strm := { s.strm with slice := (s.strm.slice.map fun e => (e.1, e.2.filter fun w => !(w.kind == .negative && decide (w.ends ≤ s.lNow)))).filter fun e => !e.2.isEmpty } }

/-- Entries lost from a set are reloaded from the Stream Table; a DRAM-less build has none to reload from (R122). -/
def State.reload (s : State) (b k : Nat) : State :=
  if s.dramless then s
  else s.setWays b k ((s.ways b k).map fun w => if w.kind = .lost then { w with kind := .entry, ent := s.dramEnt w.idx } else w)

/-- What is known of a waiting frame's stream: the entry of its first key that has one, no entry, or nothing yet (R110, R128). -/
def Missed.result (m : Missed) : Option (Option (Nat × Nat)) :=
  m.keys.foldr (fun k rest =>
    match m.got.find? fun g => g.1 = k with
    | some (_, some e) => some (some e)
    | some (_, none) => rest
    | none => none) (some none)

/-- Cells in use and lookups waiting in Miss Wait (Table 04-15). -/
def State.missCells (s : State) : Nat := (s.strm.wait.map fun m => cellsOf (m.a.data.length + 4)).sum
def State.missKeys (s : State) : List (List (Nat × Nat)) := ((s.strm.wait.filter fun m => m.result.isNone).map (·.keys)).eraseDups

/-- The window of CTRL_LIMIT that holds the present L time: windows are 1 ms (R107). -/
def State.ctrlWindow (s : State) : Nat := s.lNow / (1000000 * nsT)

/-- The windows of CTRL_LIMIT that have ended restart (R107). -/
def State.ctrlWindowEnd (s : State) : State :=
  (List.range 128).foldl (fun a p => if (a.pt p).ctrlWin = a.ctrlWindow then a else a.updPt p fun x => { x with ctrlCount := 0, ctrlWin := s.ctrlWindow }) s

/-! ## The commands -/

/-- STRM_TBL_READ (R143, R145). -/
def execStrmTblRead (r : Req) (table : Fin 8) (idx : BitVec 24) (err : Bool) (s : State) : Host.Outcome State Fault Refusal :=
  done (s.writing r .STRM_TBL_CMD 0 0 fun s => s.tblGo table 0 idx.toNat fun s => s.tblRead table idx.toNat err)
/-- STRM_TBL_WRITE (R134, R138, R142 to R145). -/
def execStrmTblWrite (r : Req) (table : Fin 8) (idx : BitVec 24) (s : State) : Host.Outcome State Fault Refusal :=
  done (s.writing r .STRM_TBL_CMD 0 0 fun s => s.tblGo table 1 idx.toNat fun s => s.tblWrite table idx.toNat)
/-- STRM_TBL_INSERT (R124, R125, R143, R145). -/
def execStrmTblInsert (r : Req) (table : Fin 8) (idx : BitVec 24) (err : Bool) (s : State) : Host.Outcome State Fault Refusal :=
  done (s.writing r .STRM_TBL_CMD 0 0 fun s => s.tblGo table 2 idx.toNat fun s => s.onDram (err || s.entBeyond idx.toNat || s.keyBeyond (entId s.tblData)) fun s => s.tblInsert idx.toNat)
/-- STRM_TBL_UPDATE (R113, R143). -/
def execStrmTblUpdate (r : Req) (table : Fin 8) (idx : BitVec 24) (err : Bool) (s : State) : Host.Outcome State Fault Refusal :=
  done (s.writing r .STRM_TBL_CMD 0 0 fun s => s.tblGo table 3 idx.toNat fun s => s.onDram (err || s.keyBeyond (entId s.tblData)) fun s => s.tblChange fun old => updated old s.tblData)
/-- STRM_TBL_DELETE (R143). -/
def execStrmTblDelete (r : Req) (table : Fin 8) (idx : BitVec 24) (err : Bool) (s : State) : Host.Outcome State Fault Refusal :=
  done (s.writing r .STRM_TBL_CMD 0 0 fun s => s.tblGo table 4 idx.toNat fun s => s.onDram (err || s.keyBeyond (entId s.tblData)) fun s => s.tblDelete)
/-- STRM_TBL_LOOKUP (R143). -/
def execStrmTblLookup (r : Req) (table : Fin 8) (idx : BitVec 24) (err : Bool) (s : State) : Host.Outcome State Fault Refusal :=
  done (s.writing r .STRM_TBL_CMD 0 0 fun s => s.tblGo table 5 idx.toNat fun s => s.onDram (err || s.keyBeyond (entId s.tblData)) fun s => s.tblLookup)
/-- STRM_TBL_PIN (R120, R143). -/
def execStrmTblPin (r : Req) (table : Fin 8) (idx : BitVec 24) (err : Bool) (s : State) : Host.Outcome State Fault Refusal :=
  done (s.writing r .STRM_TBL_CMD 0 0 fun s => s.tblGo table 6 idx.toNat fun s => s.onDram (err || s.keyBeyond (entId s.tblData)) fun s => s.tblChange fun old => pinned old s.tblData)
/-- STRM_TBL_UNPIN (R143). -/
def execStrmTblUnpin (r : Req) (table : Fin 8) (idx : BitVec 24) (err : Bool) (s : State) : Host.Outcome State Fault Refusal :=
  done (s.writing r .STRM_TBL_CMD 0 0 fun s => s.tblGo table 7 idx.toNat fun s => s.onDram (err || s.keyBeyond (entId s.tblData)) fun s => s.tblChange unpinned)
/-- STRM_TBL_COMPLETE (R145). -/
def execStrmTblComplete (s : State) : Host.Outcome State Fault Refusal := done (s.powered State.tblDone)
/-- INGRESS_GATE_COMMIT (R134): a WRITE of the configuration record in TBL_DATA with COMMIT = 1. -/
def execIngressGateCommit (r : Req) (l : Fin 4096) (s : State) : Host.Outcome State Fault Refusal :=
  done (s.writing r .STRM_TBL_CMD 0 0 fun s => s.tblGo 4 1 l fun s => s.iglWrite l (setBit s.tblData 63))
/-- INGRESS_GATE_STOP (R134): a WRITE of the configuration record in TBL_DATA with STOP = 1. -/
def execIngressGateStop (r : Req) (l : Fin 4096) (s : State) : Host.Outcome State Fault Refusal :=
  done (s.writing r .STRM_TBL_CMD 0 0 fun s => s.tblGo 4 1 l fun s => s.iglWrite l (setBit s.tblData 47))
/-- INGRESS_GATE_SWITCH (R134, R216). -/
def execIngressGateSwitch (l : Fin 4096) (s : State) : Host.Outcome State Fault Refusal := done (s.powered fun s => s.iglSwitch l)
/-- INGRESS_GATE_INTERVAL (R133 to R135). -/
def execIngressGateInterval (l : Fin 4096) (s : State) : Host.Outcome State Fault Refusal := done (s.powered fun s => s.iglInterval l)
/-- METER_SWEEP (R141). -/
def execMeterSweep (s : State) : Host.Outcome State Fault Refusal := done (s.powered State.meterSweep)
/-- HASH_SEED_WRITE (R565). -/
def execHashSeedWrite (r : Req) (v : BitVec 64) (s : State) : Host.Outcome State Fault Refusal :=
  done (s.writing r .STRM_HASH_SEED 0 0 fun s => s.seedWrite v.toNat)
/-- NEG_ENTRY_EXPIRY (R129). -/
def execNegEntryExpiry (s : State) : Host.Outcome State Fault Refusal := done (s.powered State.negExpire)
/-- CACHE_ENTRY_RELOAD (R122). -/
def execCacheEntryReload (b : Bolt) (k : Fin 4096) (s : State) : Host.Outcome State Fault Refusal := done (s.powered fun s => s.reload b k)
/-- CTRL_LIMIT_WINDOW_END (R107). -/
def execCtrlLimitWindowEnd (s : State) : Host.Outcome State Fault Refusal := done (s.powered State.ctrlWindowEnd)

end Sys2Proof.Machine
end

