-- ==== Sys2Proof/Machine/Mend.lean ====
section
/-!
DEFINITION. The Mender (chapter 05): recovery functions, latent-error detection, sequence generators, and the mirroring of both to a pair partner.
-/
namespace Sys2Proof.Machine

def State.rcv (s : State) (i : Nat) : Rcv := s.mend.rcv.get {} i
def State.setRcv (s : State) (i : Nat) (x : Rcv) : State := { s with mend := { s.mend with rcv := s.mend.rcv.set {} i x } }
def State.gen (s : State) (i : Nat) : Gen := s.mend.gen.get {} i
def State.setGen (s : State) (i : Nat) (x : Gen) : State := { s with mend := { s.mend with gen := s.mend.gen.set {} i x } }

/-! ## Fields of a record (Table 05-1); `cfg` starts at bit 436 -/

def Rcv.en (x : Rcv) : Bool := bit x.cfg 75
def Rcv.matchAlg (x : Rcv) : Bool := bit x.cfg 74
def Rcv.takeNoSeq (x : Rcv) : Bool := bit x.cfg 73
def Rcv.latEn (x : Rcv) : Bool := bit x.cfg 72
def Rcv.histLen (x : Rcv) : Nat := max 7 (bits x.cfg 71 64) + 1
def Rcv.resetMs (x : Rcv) : Nat := bits x.cfg 63 52
def Rcv.paths (x : Rcv) : Nat := bits x.cfg 51 48
def Rcv.latDiff (x : Rcv) : Nat := bits x.cfg 47 32
def Rcv.latPeriod (x : Rcv) : Nat := bits x.cfg 31 16
def Rcv.latReset (x : Rcv) : Nat := bits x.cfg 15 0

/-- L time in ms. -/
def State.lMs (s : State) : Nat := s.lUs / 1000

/-! ## Counters of a recovery function (R513, Table 16-7) -/

/-- `n` events in word `w` of a function and in the device's sum (Table 16-5). -/
def State.rcvCount (s : State) (i w : Nat) (n : Nat := 1) : State :=
  if n = 0 then s
  else
    let s := s.bump (devWord (16 + w)) n
    if !s.on .TAPE_TCNT_BASE_EN || s.dramless then s
    else
      let v := s.tape.func.get 0 (8 * i + w)
      let v' := ctrAdd v n
      let s := { s with tape := { s.tape with func := s.tape.func.set 0 (8 * i + w) v', dirty := if s.tape.dirty.contains i then s.tape.dirty else s.tape.dirty ++ [i] } }
      if bit v' 63 && !bit v 63 then s.event .TAPE_EVENT_OVF else s

/-! ## Mirror records (R172, R173) -/

/-- This device mirrors Lead-only state to its partner. -/
def State.mirrors (s : State) : Bool := s.dev == .lead && s.on .MEND_CTRL_MIRROR_EN && s.on .MEND_CTRL_RUN

/-- A mirror record handed to both lanes; records are discarded while the partner is lost (R172, R485). -/
def State.mirrorSend (s : State) (type i num : Nat) : State :=
  if !s.mirrors || s.pair.discarding then s
  else
    let put (ok : Bool) (q : List Nat) : List Nat := if ok then q ++ [s.mend.sent] else q
    { s.emit (.pair type [i, num]) with
      mend := { s.mend with sent := s.mend.sent + 1 },
      pair := { s.pair with laneQ0 := put (s.on .PAIR_STATUS_PL0_OK) s.pair.laneQ0, laneQ1 := put (s.on .PAIR_STATUS_PL1_OK) s.pair.laneQ1 } }

/-- The lanes have sent records of their mirror queues. -/
def State.laneSent (s : State) (n : LaneSent) : State :=
  { s with pair := { s.pair with laneQ0 := s.pair.laneQ0.drop n.pl0, laneQ1 := s.pair.laneQ1.drop n.pl1 } }

/-- A mirror queue of 4,096 records is full (R175). -/
def State.laneFull (s : State) : Bool := s.mirrors && (decide (4096 ≤ s.pair.laneQ0.length) || decide (4096 ≤ s.pair.laneQ1.length))

/-- A frame of a Lead-only stream met a full mirror queue (R175). -/
def State.mirrorDrop (s : State) : State := (s.bump (devWord 30)).event .MEND_EVENT_MIRROR_DROP

/-- The device publishes Lead-only streams (R170, R171). -/
def State.leadPublishes (s : State) : Bool := s.dev == .lead || s.dev == .solo

/-! ## Resets and table operations on a function (R151, R155) -/

/-- The state of a function reset as by a WRITE or a RESET (R151). -/
def State.rcvReset (s : State) (i cfg : Nat) : State :=
  (s.setRcv i { cfg := cfg, takeAny := true, recov := (s.rcv i).recov, lastPass := s.lUs % 2 ^ 32, latT0 := s.lMs, latR0 := s.lMs }).unstale 0 i

/-- RESET_MS has passed since the last pass (R155). -/
def State.rcvDue (s : State) (x : Rcv) : Bool :=
  x.resetMs != 0 && !x.takeAny && decide (x.resetMs * 1000 ≤ (s.lUs + 2 ^ 32 - x.lastPass % 2 ^ 32) % 2 ^ 32)

/-- The reset of R155, counted once. -/
def State.rcvTimeout (s : State) (i : Nat) : State :=
  let x := s.rcv i
  if s.rcvDue x then (s.setRcv i { x with takeAny := true, hist := 0 }).rcvCount i 6 else s

/-! ## Evaluation (R152 to R154) -/

/-- A corrected error of the state memory (R157). -/
def State.mendCorr (s : State) : State := (s.bump (devWord 25)).event .MEND_EVENT_ECC_CORR

/-- An uncorrectable error in a function's record: reset, ECC_UNCORR, a Degraded fault (R157). -/
def State.rcvEcc (s : State) (i : Nat) : State := ((s.rcvReset i (s.rcv i).cfg).event .MEND_EVENT_ECC_UNCORR).fault 2 11 noUnit

/-- An uncorrectable error in a generator's record (R157). -/
def State.genEcc (s : State) (i : Nat) : State := ((s.setGen i { s.gen i with bad := true }).event .MEND_EVENT_ECC_UNCORR).fault 2 11 noUnit

/-- A signed difference of sequence numbers (R148). -/
def seqDiff (a b : Nat) : Int := toSigned 16 ((a + 2 ^ 16 - b % 2 ^ 16) % 2 ^ 16)

/-- The verdict of a recovery function on a number. -/
inductive Recovery where
  | pass (lost : Nat) (outOfOrder : Bool)
  | duplicate
  | rogue
deriving DecidableEq, Repr

/-- The vector algorithm (R152). -/
def Rcv.vector (x : Rcv) (n : Nat) : Recovery × Rcv :=
  let len := x.histLen
  if x.takeAny then (.pass 0 false, { x with recov := n, hist := 2 ^ len - 1, takeAny := false })
  else
    let d := seqDiff n x.recov
    if (len : Int) ≤ d ∨ d ≤ -(len : Int) then (.rogue, x)
    else if d ≤ 0 then
      (if x.hist.testBit d.natAbs then (.duplicate, x) else (.pass 0 true, { x with hist := setBit x.hist d.natAbs }))
    else
      let k := d.natAbs
      let lost := k - popCount (x.hist / 2 ^ (len - k)) k
      (.pass lost (k != 1), { x with hist := (x.hist * 2 ^ k) % 2 ^ len ||| 1, recov := n })

/-- The match algorithm (R153). -/
def Rcv.matching (x : Rcv) (n : Nat) : Recovery × Rcv :=
  if x.takeAny then (.pass 0 false, { x with recov := n, takeAny := false })
  else if n = x.recov then (.duplicate, x)
  else (.pass 0 (seqDiff n x.recov != 1), { x with recov := n })

/-- A number evaluated by a function's algorithm. -/
def Rcv.judge (x : Rcv) (n : Nat) : Recovery × Rcv := if x.matchAlg then x.matching n else x.vector n

/-- A frame's number evaluated by a function, with its counts (R152 to R155, R158): true where the frame passes. -/
def State.rcvEval (s : State) (i : Nat) (num : Option Nat) : Bool × State :=
  let s := s.rcvTimeout i
  let x := s.rcv i
  match num with
  | none => (x.takeNoSeq, s.rcvCount i 5)
  | some n =>
    match x.judge n with
    | (.pass lost ooo, y) =>
      let y := { y with lastPass := s.lUs % 2 ^ 32, latPass := if x.latEn then (y.latPass + 1) % 2 ^ 32 else y.latPass }
      (true, ((((s.setRcv i y).rcvCount i 0).rcvCount i 2 (b2n ooo)).rcvCount i 4 lost))
    | (.duplicate, y) => (false, (s.setRcv i { y with latDisc := if x.latEn then (y.latDisc + 1) % 2 ^ 32 else y.latDisc }).rcvCount i 1)
    | (.rogue, y) => (false, (s.setRcv i y).rcvCount i 3)

/-! ## Latent errors (R158, R159) -/

/-- LAT_T and LAT_R: ms since the last test and reset, while LAT_EN = 1 (Table 05-1). -/
def State.latT (s : State) (x : Rcv) : Nat := if x.latEn then satTo 65535 (s.lMs - x.latT0) else 0
def State.latR (s : State) (x : Rcv) : Nat := if x.latEn then satTo 65535 (s.lMs - x.latR0) else 0

/-- LAT_PASS × (paths − 1) − LAT_DISC in 32-bit arithmetic. -/
def Rcv.latNow (x : Rcv) : Nat := ofSigned 32 ((x.latPass : Int) * (x.paths - 1 : Nat) - x.latDisc)

/-- LAT_R reaches LAT_RESET. -/
def State.latReset (s : State) (i : Nat) : State :=
  let x := s.rcv i
  if x.latEn && decide (x.latReset ≤ s.latR x) then s.setRcv i { x with latBase := x.latNow, latR0 := s.lMs } else s

/-- A latent error is signalled (R159). -/
def State.latError (s : State) (i : Nat) : State :=
  let s := (s.rcvCount i 7).event .MEND_EVENT_LATENT
  let m := s.mend
  let s := if m.latLog.length < 16 then { s with mend := { m with latLog := m.latLog ++ [(i, s.lMs % 2 ^ 32)] } } else { s with mend := { m with latOvf := true } }
  if s.on .MEND_CTRL_LAT_NOTICE_EN then s.fault 1 0 noUnit else s

/-- LAT_T reaches LAT_PERIOD. -/
def State.latTest (s : State) (i : Nat) : State :=
  let s := s.latReset i
  let x := s.rcv i
  if x.latEn && decide (x.latPeriod ≤ s.latT x) then
    let d := (toSigned 32 (ofSigned 32 ((x.latBase : Int) - x.latNow))).natAbs
    let s := s.setRcv i { x with latT0 := s.lMs }
    if x.latDiff < d then s.latError i else s
  else s

/-- The background sweep visits every function (R155, R158). -/
def State.mendSweep (s : State) : State := s.mend.rcv.foldl (fun a e => (a.rcvTimeout e.1).latTest e.1) s

/-! ## Generators (R160, R161) -/

def Gen.en (x : Gen) : Bool := bit x.word 127
def Gen.mode (x : Gen) : Nat := bits x.word 126 125
def Gen.dom (x : Gen) : Nat := bits x.word 124 122
def Gen.seq (x : Gen) : Nat := bits x.word 121 106
def Gen.period (x : Gen) : Nat := timeOf 0 (bits x.word 47 16) (bits x.word 15 0)
def Gen.setSeq (x : Gen) (n : Nat) : Gen := { x with word := x.word / 2 ^ 122 * 2 ^ 122 + n % 2 ^ 16 * 2 ^ 106 + x.word % 2 ^ 106 }

/-- The nearest whole number to a ratio; the specification does not say where a half goes (log entry 6). -/
def roundDiv (a b : Nat) : Nat :=
  let q := a / b
  let r := a % b
  if 2 * r < b then q else if b < 2 * r then q + 1 else if Config.roundUp a b then q + 1 else q

/-- The number of a publication time in CYCLE mode (R161). -/
def cycleNumber (period t : Nat) : Nat :=
  let n := (2 * secT + period) / (2 * period)
  (t / secT * n + roundDiv (t % secT) period) % 2 ^ 16

/-- A generator numbers a frame: its number, or the device counter word of its discard (R157, R161, Table 16-5). A PERIOD of 0 gives no stated number. -/
def State.genNumber (s : State) (i : Nat) (received pubTime : Option Nat) : (Nat ⊕ Nat) × State :=
  let x := s.gen i
  if x.bad then (.inr 29, s)
  else if !x.en then (.inr 26, s)
  else
    match x.mode with
    | 0 => (.inl x.seq, s.setGen i (x.setSeq (x.seq + 1)))
    | 1 =>
      (match pubTime with
       | none => (.inr 27, s)
       | some t =>
         if x.period = 0 then
           (let (n, s) := s.draw
            (.inl (n % 2 ^ 16), s.setGen i (x.setSeq n)))
         else (.inl (cycleNumber x.period t), s.setGen i (x.setSeq (cycleNumber x.period t))))
    | _ =>
      match received with
      | none => (.inr 28, s.event .MEND_EVENT_COPY_NOSEQ)
      | some n => (.inl n, s.setGen i (x.setSeq n))

/-! ## The received number and the checks of a port (R148, R165, R167, R168) -/

/-- The number of the PRP trailer, and its LanId. -/
def prpNumber (d : List Byte) : Option Nat := if hasPrp d then some (be16 d (d.length - 6)) else none
def prpLanId (d : List Byte) : Nat := be16 d (d.length - 4) / 4096

/-- The received sequence number (R148). -/
def receivedNumber (seqIn : Nat) (d : List Byte) : Option Nat :=
  let head := (parse d).seqTag
  match seqIn with
  | 3 => prpNumber d
  | 0 =>
    (match head with
     | some (_, n, _) => some n
     | none => prpNumber d)
  | k =>
    match head with
    | some (j, n, _) => if j = k then some n else none
    | none => none

/-- A frame removed from an HSR ring (R168). -/
def State.hsrOwn (s : State) (p : Nat) (d : List Byte) : Bool := s.on .MEND_PORT_CFG_HSR_RING p && s.ownAddr (beNat (slice d 6 6))

/-- The counts of a frame with a wrong LanId and with a wrong HSR LSDU size (R165, R167). -/
def State.tagCounts (s : State) (p : Nat) (d : List Byte) : State :=
  let s := if s.on .MEND_PORT_CFG_PRP_PORT p && hasPrp d && prpLanId d != 10 + s.fld .MEND_PORT_CFG_LAN p then s.portCount p 21 else s
  match (parse d).seqTag with
  | some (2, _, size) => if size = lsduSize d % 4096 then s else s.portCount p 22
  | _ => s

/-! ## Table operations (R151, R179) -/

def State.mTblData (s : State) : Nat := ((List.range 8).map fun i => s.fld .MEND_TBL_DATA_DATA i * 2 ^ (64 * i)).sum
def State.setMTblData (s : State) (v : Nat) : State := (List.range 8).foldl (fun a i => a.setFld .MEND_TBL_DATA_DATA i 0 (v / 2 ^ (64 * i))) s
def State.mTblEnd (s : State) (code : Nat) : State := { s with mend := { s.mend with tblCode := code } }

/-- A Mender table operation starts (R179). -/
def State.mTblGo (s : State) (table op idx : Nat) (k : State → State) : State :=
  if s.on .MEND_TBL_STATUS_BUSY then s.event .MEND_EVENT_TBL_COLLIDE
  else
    let s := s.setFlds 0 0 [(.MEND_TBL_CMD_TABLE, table), (.MEND_TBL_CMD_OP, op), (.MEND_TBL_CMD_INDEX, idx), (.MEND_TBL_STATUS_BUSY, 1)]
    if 2 ≤ table ∨ 3 ≤ op ∨ (op = 2 ∧ table = 1) then s.mTblEnd 7 else k (s.mTblEnd 0)

/-- The record of a function (Table 05-1). -/
def State.rcvRecord (s : State) (i : Nat) : Nat :=
  let x := s.rcv i
  x.cfg * 2 ^ 436 + b2n x.takeAny * 2 ^ 433 + b2n (s.isStale 0 i) * 2 ^ 432 + x.recov * 2 ^ 416 + x.lastPass * 2 ^ 384 + x.latPass * 2 ^ 352 + x.latDisc * 2 ^ 320
    + x.latBase * 2 ^ 288 + s.latT x * 2 ^ 272 + s.latR x * 2 ^ 256 + x.hist

def State.mTblRead (s : State) (table idx : Nat) : State := s.setMTblData (if table = 0 then s.rcvRecord idx else (s.gen idx).word)

/-- A function's configuration is refused (R158). -/
def rcvBad (cfg : Nat) : Bool :=
  let x : Rcv := { cfg := cfg }
  x.latEn && (decide (x.paths < 2) || decide (8 < x.paths) || x.latPeriod == 0 || decide (x.latReset < x.latPeriod))

/-- WRITE (R151, R160). -/
def State.mTblWrite (s : State) (table idx : Nat) : State :=
  let v := s.mTblData
  if table = 0 then (if rcvBad (bits v 511 436) then s.mTblEnd 7 else (s.rcvReset idx (bits v 511 436)).mTblEnd 0)
  else if bits v 126 125 = 3 then s.mTblEnd 7
  else (s.setGen idx { word := bits v 127 106 * 2 ^ 106 + v % 2 ^ 48 }).mTblEnd 0

/-- The operation ends (R179). -/
def State.mTblDone (s : State) : State :=
  if s.on .MEND_TBL_STATUS_BUSY then
    (s.setFlds 0 0 [(.MEND_TBL_STATUS_BUSY, 0), (.MEND_TBL_STATUS_CODE, s.mend.tblCode)]).event .MEND_EVENT_TBL_DONE
  else s

/-- LAT_LOG as a read returns it, and the state after the read (Table 05-10). -/
def State.latLogRead (s : State) : Nat × State :=
  let m := s.mend
  let v := match m.latLog with
    | [] => 0
    | (i, ms) :: _ => 2 ^ 63 + i * 2 ^ 32 + ms
  (v + b2n m.latOvf * 2 ^ 62, { s with mend := { m with latLog := m.latLog.tail, latOvf := false } })

/-! ## The Shadow (R173, R174, R176) -/

/-- Mirror records are applied. -/
def State.mirrored (s : State) : Bool := s.dev == .shadow && s.on .MEND_CTRL_MIRROR_EN && s.on .MEND_CTRL_RUN

/-- A record that arrives on a lane is applied once (R173, R487). -/
def State.once (s : State) (seq : Nat) (k : State → State) : State :=
  if s.mend.seen.contains seq then s else k { s with mend := { s.mend with seen := (seq :: s.mend.seen).take 4096 } }

/-- The merge of a number into a function (R173). -/
def Rcv.merge (x : Rcv) (n us : Nat) : Rcv :=
  match x.judge n with
  | (.rogue, y) => { y with recov := n, hist := 2 ^ x.histLen - 1, lastPass := us }
  | (_, y) => { y with lastPass := us }

/-- A mirror record applied by the Shadow (R173). -/
def State.mirrorApply (s : State) (isGen : Bool) (i num seq : Nat) : State :=
  if !s.mirrored then s
  else s.once seq fun s =>
    if isGen then s.setGen i ((s.gen i).setSeq (num + 1)) else s.setRcv i ((s.rcv i).merge num (s.lUs % 2 ^ 32))

/-- The state of a function in a SNAPSHOT record: bits [433:0] of its record. -/
def State.rcvState (s : State) (i : Nat) : Nat := s.rcvRecord i % 2 ^ 434

/-- The multidrop ports in MDP_LEAD. -/
def State.mdpLead (s : State) : List Nat := (List.range 128).filter fun p => multidrop p && (s.fld .PAIR_CFG_MDP_LEAD).testBit (mdpIndex p)

/-- The oper list and slot table of a port, as a GCL record (R489, R490). -/
def State.operRecord (s : State) (p : Nat) : List Nat :=
  [p, s.fld .SHTL_GCL_STATUS_OPER_LEN p, s.operBase p, s.operCycle p, s.fld .SHTL_GCL_OPER_EXT_EXT p, s.fld .MDP_PC_TABLE_STATUS_OPER_TABLE_ID p,
    s.fld .MDP_PC_TABLE_STATUS_OPER_LEN p] ++ s.bank p (s.operBank p) (s.fld .SHTL_GCL_STATUS_OPER_LEN p) false ++ s.slotTable p false

/-- The Lead sends the state of every Lead-only function and generator, of every mirrored port, and the servo state of every domain of GM_DOMAINS (R176, R489). -/
def State.snapshotSend (s : State) : State :=
  if s.dev ≠ .lead then s
  else
    let s := if s.mirrors then s.leadOnly.foldl (fun a e => a.emit (.pair 8 [e.1, e.2, if e.1 = 0 then a.rcvState e.2 else (a.gen e.2).seq])) s else s
    let s := s.mdpLead.foldl (fun a p => (a.emit (.pair 7 (a.operRecord p))).emit (.pair 8 (2 :: a.pcRecord p))) s
    (List.range 8).foldl (fun a d => a.servoRecord d) s

/-- The SNAPSHOT entry of a function or generator applied by the Shadow, which clears STALE (R176). -/
def State.snapshotPut (s : State) (isGen : Bool) (i v : Nat) : State :=
  if !s.mirrored then s
  else
    let x := s.rcv i
    let s := if isGen then s.setGen i ((s.gen i).setSeq v)
      else s.setRcv i { x with takeAny := bit v 433, recov := bits v 431 416, lastPass := bits v 415 384, latPass := bits v 383 352, latDisc := bits v 351 320,
                               latBase := bits v 319 288, latT0 := s.lMs - bits v 287 272, latR0 := s.lMs - bits v 271 256, hist := bits v 255 0 }
    let s := s.unstale (b2n isGen) i
    s.setFld .MEND_MIRROR_STATUS_SNAP_BUSY 0 0 (b2n (decide (0 < s.staleCount)))

/-- A SNAPSHOT entry applied by the Shadow (R176, R489). -/
def State.snapshotApply (s : State) (x : SnapRec) : State :=
  match x with
  | .func i v => s.snapshotPut false i.toNat v.toNat
  | .gen i n => s.snapshotPut true i.toNat n.toNat
  | .port p st cycle present drift => if s.dev = .shadow then s.pcApply p st cycle.toNat present.toNat drift.toNat else s

/-! ## The commands -/

/-- RECOVERY_RESET_TIMEOUT (R155). -/
def execRecoveryResetTimeout (i : BitVec 18) (s : State) : Host.Outcome State Fault Refusal := done (s.powered fun s => s.rcvTimeout i.toNat)
/-- MENDER_SWEEP (R155, R158). -/
def execMenderSweep (s : State) : Host.Outcome State Fault Refusal := done (s.powered State.mendSweep)
/-- LATENT_TEST (R158, R159). -/
def execLatentTest (i : BitVec 18) (s : State) : Host.Outcome State Fault Refusal := done (s.powered fun s => s.latTest i.toNat)
/-- LATENT_RESET (R158). -/
def execLatentReset (i : BitVec 18) (s : State) : Host.Outcome State Fault Refusal := done (s.powered fun s => s.latReset i.toNat)
/-- MEND_TBL_READ (R179). -/
def execMendTblRead (r : Req) (table : Fin 8) (idx : BitVec 18) (s : State) : Host.Outcome State Fault Refusal :=
  done (s.writing r .MEND_TBL_CMD 0 0 fun s => s.mTblGo table 0 idx.toNat fun s => s.mTblRead table idx.toNat)
/-- MEND_TBL_WRITE (R151, R158, R179). -/
def execMendTblWrite (r : Req) (table : Fin 8) (idx : BitVec 18) (s : State) : Host.Outcome State Fault Refusal :=
  done (s.writing r .MEND_TBL_CMD 0 0 fun s => s.mTblGo table 1 idx.toNat fun s => s.mTblWrite table idx.toNat)
/-- MEND_TBL_RESET (R151, R179). -/
def execMendTblReset (r : Req) (table : Fin 8) (idx : BitVec 18) (s : State) : Host.Outcome State Fault Refusal :=
  done (s.writing r .MEND_TBL_CMD 0 0 fun s => s.mTblGo table 2 idx.toNat fun s => s.rcvReset idx.toNat (s.rcv idx.toNat).cfg)
/-- MEND_TBL_COMPLETE (R179). -/
def execMendTblComplete (s : State) : Host.Outcome State Fault Refusal := done (s.powered State.mTblDone)
/-- LAT_LOG_READ (R557). -/
def execLatLogRead (r : Req) (s : State) : Host.Outcome State Fault Refusal :=
  done (s.reading r .MEND_LAT_LOG 0 0 fun s => let (v, s) := s.latLogRead; s.emit (.reply r.num v))
/-- MIRROR_RECORD_APPLY (R173). -/
def execMirrorRecordApply (isGen : Bool) (i : BitVec 18) (num : BitVec 16) (seq : BitVec 24) (s : State) : Host.Outcome State Fault Refusal :=
  done (s.powered fun s => s.mirrorApply isGen i.toNat num.toNat seq.toNat)
/-- MIRROR_SNAPSHOT (R176). -/
def execMirrorSnapshot (s : State) : Host.Outcome State Fault Refusal := done (s.powered State.snapshotSend)
/-- SNAPSHOT_APPLY (R176). -/
def execSnapshotApply (x : SnapRec) (s : State) : Host.Outcome State Fault Refusal := done (s.powered fun s => s.snapshotApply x)

end Sys2Proof.Machine
end

