-- ==== Sys2Proof/Machine/Hif.lean ====
section
/-!
DEFINITION. Rings, completion queues and Ledgers (chapter 11): doorbells, transmit frames from descriptors to admission, the receive store and its writing, stopping and resets.
-/
namespace Sys2Proof.Machine

/-- The HIF works: the PCIe link is up and the device is not silent (R1, R477). -/
def State.hifUp (s : State) : Bool := s.hif.link && s.alive

/-- A ring may issue requests: HIF up, Bus Master Enable of its function (R330). -/
def State.ringGoes (s : State) (r : Nat) : Bool := s.hifUp && (s.pfn (s.ringPf r)).busMaster

def State.ringPi (s : State) (r : Nat) : Nat := s.fld .HIF_DOORBELL_PI r

/-- A posted descriptor has not been fetched yet. -/
def State.ringPosted (s : State) (r : Nat) : Bool := (s.ring r).fetch != s.ringPi r

/-- RUNNING or STOPPING: not stopped in the sense of R371. -/
def ringActive (st : Nat) : Bool := st == 1 || st == 2

/-- A ring that is not stopped and satisfies a test. -/
def State.anyRing (s : State) (f : Nat → Bool) : Bool := s.regs.any fun e => e.1.f == .HIF_RING_STATUS_STATE && ringActive e.2 && f e.1.i

/-! ## Doorbells (R337, R338, R359) -/

/-- A malformed ring or queue index (R359): Fatal in service, and outside it the write is ignored; `k` latches it. -/
def State.badIndex (s : State) (k : State → State) : State :=
  if s.dev.inService then s.fault 3 15 noUnit else k (s.event .HIF_EVENT_MALFORMED)

/-- The test of R338. -/
def State.piOk (s : State) (r pi : Nat) : Bool :=
  let ci := s.fld .HIF_RING_STATUS_CI r
  decide (diff32 pi ci ≤ s.ringSize r) && decide (diff32 (s.ringPi r) ci ≤ diff32 pi ci)

/-- A function other than the ring's owner (R337). -/
def State.foreignPf (s : State) (q : Req) (r : Nat) : Bool :=
  match q with
  | .pf f => f.val != s.ringPf r
  | .sp _ => false

/-- A doorbell write (R337, R338). -/
def State.doorbell (s : State) (q : Req) (r pi : Nat) : State :=
  if s.foreignPf q r then (s.bump (devWord (232 + q.num % 8))).event .HIF_EVENT_DB_IGNORED
  else if pi = s.ringPi r then s
  else if s.piOk r pi then (s.setFld .HIF_DOORBELL_PI r 0 pi).setRing r { s.ring r with waitFrom := none }
  else s.badIndex fun s => s.setFlds r 0 [(.HIF_RING_STATUS_ERR, 2), (.HIF_RING_STATUS_ERR_SEEN, 1), (.HIF_RING_STATUS_ERR_IDX, pi)]

/-! ## Transmit descriptors (Table 11-2, Table 11-9, R339 to R341) -/

def descLen (d : Nat) : Nat := bits d 127 112
def descSop (d : Nat) : Bool := bit d 111
def descEop (d : Nat) : Bool := bit d 110

/-- PHASE as software writes it is wrong on an in-place ring (R336). -/
def State.phaseBad (s : State) (r i d : Nat) : Bool := s.fld .HIF_RING_CFG_COMP r == 0 && b2n (bit d 255) != i / s.ringSize r % 2

/-- The first line of Table 11-9: a descriptor `d` at index `i` after the open frame, if any. -/
def State.txBad (s : State) (r i d : Nat) (x : Option TxFrame) : Bool :=
  let had := match x with
    | some f => f.data.length
    | none => 0
  let n := match x with
    | some f => f.marks.length
    | none => 0
  let total := had + descLen d
  descLen d == 0 || (descSop d && x.isSome) || (!descSop d && x.isNone) || (!descSop d && bits d 254 128 != 0)
    || bits d 254 248 != 0 || bits d 133 128 != 0 || bits d 107 64 != 0 || decide (9212 < total) || (descEop d && decide (total < 14))
    || decide (36 ≤ n) || s.phaseBad r i d

/-- The address of a flushing read after one more descriptor: the frame's last buffer, once any descriptor asked for it (R364). -/
def barrierAt (old : Option Nat) (d : Nat) : Option Nat := if old.isSome || bit d 109 then some (bits d 63 0) else none

/-- A malformed transmit descriptor (R359). -/
def State.txMalformed (s : State) (r first : Nat) (marks : List (Bool × Bool)) (barrier : Option Nat) : State :=
  if s.dev.inService then s.fault 3 15 noUnit
  else ((s.event .HIF_EVENT_MALFORMED).setRing r { s.ring r with building := none }).txComplete r first marks 2 0 none barrier

/-- A transmit ring may fetch: RUNNING, a posted descriptor, no frame held, and room in its completion queue for a new frame (R341, R355). -/
def State.txMay (s : State) (r : Nat) : Bool :=
  let x := s.ring r
  s.ringGoes r && s.ringState r == 1 && s.ringPosted r && x.held.isNone
    && (x.building.isSome || s.fld .HIF_RING_CFG_COMP r != 1 || s.cqRoom (s.fld .HIF_RING_CFG_CQ r))

/-- The place that a transmit ring reserves at a frame's first descriptor (R355). -/
def State.txReserve (s : State) (r : Nat) : State :=
  if (s.ring r).building.isNone && s.fld .HIF_RING_CFG_COMP r == 1 then s.cqReserve (s.fld .HIF_RING_CFG_CQ r) else s

/-- One descriptor and its buffer fetched (R339 to R341). -/
def State.txFetch (s : State) (r d : Nat) (data : List Byte) : State :=
  if !s.txMay r then s
  else
    let s := s.txReserve r
    let x := s.ring r
    let i := x.fetch
    let s := (s.setRing r { x with fetch := idx32 (i + 1) }).descGet r i
    let fr : TxFrame := x.building.getD { first := i, desc := d }
    if s.txBad r i d x.building then s.txMalformed r fr.first (fr.marks ++ [(descSop d, descEop d)]) fr.barrier
    else
      let n := descLen d
      let fr := { fr with data := fr.data ++ padTo n (data.take n), marks := fr.marks ++ [(descSop d, descEop d)], barrier := barrierAt fr.barrier d }
      let s := (s.hostGet (s.ringPf r) (bits d 63 0) (hostAttr false (bit d 108 || s.on .HIF_RING_CFG_NO_SNOOP r)) n).bump (ringWord r 7) n
      let x := s.ring r
      if descEop d then s.setRing r { x with building := none, ready := x.ready ++ [fr] } else s.setRing r { x with building := some fr }

/-! ## Offering transmit frames (R341, R342, R190) -/

/-- The time of a domain that a reference of nanoseconds modulo 2^48 and a fraction in 2^-8 ns stands for: the latest such time up to now. -/
def State.refTime (s : State) (dom ns frac : Nat) : Nat :=
  let m := 2 ^ 48 * nsT
  let t := ns * nsT + frac * 2 ^ 32
  let now := s.voted dom
  if t ≤ now then now - (now - t) % m else t

/-- The egress action of a transmit descriptor (R52). -/
def State.txAct (s : State) (d : Nat) : EgressAct :=
  let dom := bits d 136 134
  match bits d 138 137 with
  | 0 => .none
  | 1 => .record
  | 2 => .origin
  | _ =>
    let t := s.refTime dom (bits d 247 200) (bits d 199 192)
    .residence dom t (s.stepsAtTime dom t) 0

/-- The tag operations of a transmit descriptor (R340). -/
def txEdit (d : Nat) (num : Option Nat) : Edit :=
  { seqOut := bits d 174 173, popVlan := bit d 177, pushVlan := bit d 176, setPcp := bit d 175, newPcp := bits d 172 170, newVid := bits d 169 158, num := num }

/-- The frame record of a transmit frame. -/
def State.txFrame (s : State) (r : Nat) (x : TxFrame) (num : Option Nat) (chalk : Bool) : FrameRec :=
  { data := x.data, edit := txEdit x.desc num, act := s.txAct x.desc, tsDom := bits x.desc 136 134, src := .ring r x.first, tIn := s.lNs,
    seq := receivedNumber 0 x.data, chalk := chalk }

/-- The queue of a transmit frame (R340). -/
def txQueue (d : Nat) : Nat := bits d 191 185 * 128 + bits d 184 182 * 16 + bits d 181 178

/-- A generator at the Mender stage numbers a frame of the device (R147, R157, R161, R171, R172, R175, R178): the number, or the device counter word of the discard; none with MEND stopped.
A Lead-only generator numbers nothing in Active-Shadow, and nothing while a mirror queue is full. -/
def State.stageNumber (s : State) (i : Nat) (src : FrameSrc) (received pubTime : Option Nat) (err : MendErr) : (Nat ⊕ Option Nat) × State :=
  let lead := s.leadOnly.contains (1, i)
  if !s.on .MEND_CTRL_RUN then (.inr none, s.countNoWord 6 src)
  else if lead && s.laneFull then (.inr (some 30), s.mirrorDrop)
  else if lead && s.dev == .shadow then (.inr (some 31), s.bump (devWord 31))
  else
    let s := if err = .corrected then s.mendCorr else s
    if err = .generator then (.inr (some 29), (s.genEcc i).bump (devWord 29))
    else
      match s.genNumber i received pubTime with
      | (.inr w, s) => (.inr (some w), s.bump (devWord w))
      | (.inl n, s) => (.inl n, if lead then s.mirrorSend 3 i n else s)

/-- A frame leaves the head of its ring without being admitted: its completion. -/
def State.txEnd (s : State) (r : Nat) (x : TxFrame) (status : Nat) : State :=
  let y := s.ring r
  (s.setRing r { y with ready := y.ready.tail, held := none }).txComplete r x.first x.marks status (bits x.desc 136 134) none x.barrier

/-- Admission of the frame at the head of a ring (R190, R342). -/
def State.txAdmit (s : State) (r : Nat) (x : TxFrame) (fr : FrameRec) : State :=
  let q := txQueue x.desc
  match s.admitTest q fr.cells 0 false with
  | (.admitted, acct) =>
    let s := s.enqueue q fr acct
    let y := s.ring r
    s.setRing r { y with ready := y.ready.tail, held := none, flying := y.flying ++ [⟨x.first, x.marks.length, bits x.desc 138 137, bits x.desc 136 134, x.barrier⟩] }
  | (.disabled, _) => (s.refuse q fr .disabled).txEnd r x 3
  | (.outOfSync, _) => (s.refuse q fr .outOfSync).txEnd r x 4
  | _ => s.setRing r { s.ring r with held := some fr }

/-- The states in which the frames a ring has built are offered: RUNNING, and ERROR, in which completions already due are written. -/
def State.txOffers (s : State) (r : Nat) : Bool := s.hifUp && (s.ringState r == 1 || s.ringState r == 4)

/-- The frame at the head of a ring offered for the first time (R341). -/
def State.txOffer (s : State) (r : Nat) (err : MendErr) : State :=
  match s.txOffers r, (s.ring r).held, (s.ring r).ready with
  | true, none, x :: _ =>
    let (chalk, s) := s.chalkHost
    let seq := receivedNumber 0 x.data
    if !bit x.desc 157 then s.txAdmit r x (s.txFrame r x seq chalk)
    else
      (match s.stageNumber (bits x.desc 156 139) (.ring r x.first) seq none err with
       | (.inl n, s) => s.txAdmit r x (s.txFrame r x (some n) chalk)
       | (.inr w, s) => (s.fate (s.txFrame r x none chalk) 3 6 (w.getD 0) 2 0xFFFF 0xFFFF).txEnd r x 4)
  | _, _, _ => s

/-- A held frame tried again as cells are freed (R190). -/
def State.txRetry (s : State) (r : Nat) : State :=
  match s.txOffers r, (s.ring r).held, (s.ring r).ready with
  | true, some fr, x :: _ => s.txAdmit r x fr
  | _, _, _ => s

/-! ## The receive store (R345, R346) -/

/-- Cells of a frame in the receive store, its FCS included. -/
def RxFrame.cells (x : RxFrame) : Nat := cellsOf (x.bytes.length + 4)

/-- Cells in use by a ring, and in all. -/
def RingSt.rxCells (x : RingSt) : Nat := (x.store.map RxFrame.cells).sum
def State.rxUsed (s : State) : Nat := (s.hif.ring.map fun e => e.2.rxCells).sum

/-- A frame of a receive ring is discarded and counted against it (R346, R349, R368); no scope of Table 16-11 names a ring's counters (log entry 5). -/
def State.rxLose (s : State) (r : Nat) (fr : FrameRec) (word : Nat) : State :=
  let (g, s) := s.draw
  (s.bump (ringWord r word)).fate fr 3 11 word (g % 4) (2 ^ 15 + r % 8192) 0xFFFF

/-- A frame enters the receive store, or is discarded for want of room or of a link (R1, R346). -/
def State.rxStore (s : State) (r : Nat) (x : RxFrame) : State :=
  let y := s.ring r
  if !s.hifUp then s.rxLose r x.fr 2
  else if max 1 (s.fld .HIF_RING_CFG_RX_HOLD r) < y.rxCells + x.cells ∨ 8192 < s.rxUsed + x.cells then (s.rxLose r x.fr 2).event .HIF_EVENT_RX_DROP
  else
    let s := s.setRing r { y with store := y.store ++ [x] }
    s.setFld .HIF_RX_STORE_HIGH 0 0 (max (s.fld .HIF_RX_STORE_HIGH) s.rxUsed)

/-- The values of a port's configuration that the editor of a host ring lacks a port for: NET_ID, LAN and TPID are free (log entry 5). -/
def State.editHost (s : State) (fr : FrameRec) : List Byte × State :=
  let (g, s) := s.draw
  let d := editVlan fr.edit (if g % 2 = 1 then 0x88A8 else 0x8100) (removeSeq fr.edit.seqIn fr.data)
  (insertSeq fr.edit (keepsPrp fr.edit fr.data) (g / 2 % 16) (g / 2 % 2) d, s)

/-! ## Writing receive frames (R344 to R349) -/

/-- A malformed receive descriptor (Table 11-9). -/
def State.rxBad (s : State) (r i d : Nat) : Bool :=
  decide (descLen d < 256) || bits d 254 128 != 0 || bits d 111 110 != 0 || bits d 107 64 != 0 || s.phaseBad r i d

/-- The bytes of a frame that are written: without its FCS, or with it (R345). -/
def State.rxBytes (s : State) (r : Nat) (x : RxFrame) : List Byte := if s.on .HIF_RING_CFG_KEEP_FCS r then x.bytes ++ leBytes 4 (fcsOf x.bytes) else x.bytes

/-- The ingress port of a stored frame. -/
def RxFrame.port (x : RxFrame) : Nat := match x.fr.src with
  | .port p => p
  | _ => 0

/-- A receive writeback without PHASE (Table 11-5). -/
def State.rxBack (s : State) (r : Nat) (x : RxFrame) (status len total : Nat) (sop eop : Bool) : Nat :=
  status * 2 ^ 251 + b2n sop * 2 ^ 250 + b2n eop * 2 ^ 249 + b2n (s.on .HIF_RING_CFG_KEEP_FCS r && (status == 0 || status == 8)) * 2 ^ 244 + b2n x.fr.stream.isSome * 2 ^ 243
    + b2n (x.fr.colour == 1) * 2 ^ 242 + x.port * 2 ^ 235 + x.tc * 2 ^ 232 + x.fr.stream.getD 0 * 2 ^ 208 + (if eop then total * 2 ^ 194 else 0) + len * 2 ^ 180
    + (if eop then tsBits x.tsDom x.ts else 0)

/-- A receive completion record without PHASE (Table 11-8). -/
def rxRecord (r : Nat) (x : RxFrame) (status idx n total : Nat) : Nat :=
  2 ^ 124 + status * 2 ^ 120 + r * 2 ^ 106 + idx % 65536 * 2 ^ 90 + total * 2 ^ 76 + n * 2 ^ 70 + x.port * 2 ^ 63 + secOf x.ts % 8192 * 2 ^ 50 + nsOf x.ts * 2 ^ 20
    + fracOf x.ts * 2 ^ 4 + 2 ^ 3 + x.tsDom

/-- The writebacks of a frame's buffers in ascending index order (R347); a malformed descriptor is neither first nor last of the frame that goes on without it (R359). -/
def State.rxBacks (s : State) (r : Nat) (x : RxFrame) (status total : Nat) (bufs : List (Nat × Nat)) : State :=
  let last := bufs.length - 1
  (bufs.zipIdx).foldl (fun a e => a.putBack r e.1.1 (a.rxBack r x status e.1.2 total (status != 2 && e.2 == 0) (status != 2 && e.2 == last))) s

/-- Completions of receive descriptors by the ring's mode (R335, R342, R354). -/
def State.rxComplete (s : State) (r : Nat) (x : RxFrame) (status total : Nat) (bufs : List (Nat × Nat)) (reserved : Bool) : State :=
  let idx := (bufs.getLastD (0, 0)).1
  let c := s.fld .HIF_RING_CFG_CQ r
  let s := if s.fld .HIF_RING_CFG_COMP r = 1 then (if reserved then s.cqRelease c else s).cqWrite c (rxRecord r x status idx bufs.length total)
    else s.rxBacks r x status total bufs
  let s := s.publish r (bufs.map (·.1))
  let s := if s.fld .HIF_RING_CFG_COMP r ≠ 1 ∧ s.on .HIF_RING_CFG_NOTIFY r then s.cqCount c else s
  s.ringStatus r status (idx % 65536)

/-- The frame being written ends with a status (R345, R347, R348, R364, R366). -/
def State.rxFinish (s : State) (r status : Nat) : State :=
  let y := s.ring r
  match y.store, y.cur with
  | x :: rest, some c =>
    let s := if c.barrier then s.hostFlush (s.ringPf r) c.lastAddr else s
    let s := s.setRing r { y with store := rest, cur := none, reserved := false, waitFrom := none }
    let s := s.rxComplete r x status c.done c.bufs y.reserved
    if status = 0 then s.fate x.fr 1 0 0 0 (2 ^ 15 + r % 8192) 0xFFFF
    else
      (let (g, s) := s.draw
       s.fate x.fr 3 11 (statusWord true status) (g % 4) (2 ^ 15 + r % 8192) 0xFFFF)
  | _, _ => s

/-- The frame at the head of a ring's part of the store is discarded whole (R349). -/
def State.rxDropHead (s : State) (r : Nat) : State :=
  let y := s.ring r
  match y.store with
  | [] => s
  | x :: rest =>
    let s := if y.reserved then s.cqRelease (s.fld .HIF_RING_CFG_CQ r) else s
    ((s.setRing r { s.ring r with store := rest, cur := none, reserved := false, waitFrom := none }).rxLose r x.fr 2).event .HIF_EVENT_RX_DROP

/-- The status that a frame takes when its last byte is written: a frame protection error or an error of the store is MEM_ERROR (R470, Table 11-7). -/
def rxStatus (e : BufErr) : Nat :=
  match e with
  | .none | .corrected => 0
  | _ => 8

/-- A malformed receive descriptor (R359): it completes alone, and the frame continues in the next one. -/
def State.rxMalformed (s : State) (r i : Nat) (x : RxFrame) : State :=
  if s.dev.inService then s.fault 3 15 noUnit
  else if s.fld .HIF_RING_CFG_COMP r = 1 ∧ !s.cqRoom (s.fld .HIF_RING_CFG_CQ r) then s
  else
    let s := (s.event .HIF_EVENT_MALFORMED).setRing r { s.ring r with fetch := idx32 (i + 1) }
    s.rxComplete r x 2 0 [(i, 0)] false

/-- One posted descriptor used by the frame at the head of the store (R345). -/
def State.rxFill (s : State) (r d : Nat) (err : BufErr) : State :=
  let y := s.ring r
  match y.store, y.cur with
  | x :: _, some c =>
    if !s.ringGoes r || !s.ringPosted r then s
    else
      let i := y.fetch
      let s := s.descGet r i
      if s.rxBad r i d then s.rxMalformed r i x
      else
        let all := s.rxBytes r x
        let n := min (descLen d) (all.length - c.done)
        let a := bits d 63 0
        let s := s.hostPut (s.ringPf r) a (hostAttr (s.on .HIF_CFG_RO_EN) (bit d 108 || s.on .HIF_RING_CFG_NO_SNOOP r)) ((all.drop c.done).take n)
        let c := { c with bufs := c.bufs ++ [(i, n)], done := c.done + n, barrier := c.barrier || bit d 109, lastAddr := a }
        let s := (s.setRing r { s.ring r with fetch := idx32 (i + 1), cur := some c, waitFrom := none }).bump (ringWord r 7) n
        if c.done = all.length then
          (let s := if err = .code then s.codeMismatch (boltOf x.port) else s
           s.rxFinish r (rxStatus err))
        else s
  | _, _ => s

/-- The frame at the head of the store may be written: RUNNING, or STOPPING with the frame begun, and a place in the completion queue (R355, R368). -/
def State.rxMay (s : State) (r : Nat) : Bool :=
  let y := s.ring r
  s.ringGoes r && !y.store.isEmpty && (s.ringState r == 1 || (s.ringState r == 2 && y.cur.isSome))
    && (y.cur.isSome || s.fld .HIF_RING_CFG_COMP r != 1 || s.cqRoom (s.fld .HIF_RING_CFG_CQ r))

/-- The writing of a frame begins: a place is reserved (R355). -/
def State.rxBegin (s : State) (r : Nat) : State :=
  let y := s.ring r
  if y.cur.isSome then s
  else
    let one := s.fld .HIF_RING_CFG_COMP r == 1
    (if one then s.cqReserve (s.fld .HIF_RING_CFG_CQ r) else s).setRing r { y with cur := some {}, reserved := one, waitFrom := none }

/-- The wait of R348 and R349 begins. -/
def State.rxWait (s : State) (r : Nat) : State :=
  let y := s.ring r
  if y.waitFrom.isSome || y.store.isEmpty || s.ringPosted r then s else s.setRing r { y with waitFrom := some s.lNow }

/-- The frame at the head of the store written into the posted descriptors that were read, until it is whole (R345 to R349). -/
def State.rxWrite (s : State) (r : Nat) (descs : List Nat) (err : BufErr) : State :=
  if !s.rxMay r then s
  else if !s.ringPosted r then s.rxWait r
  else
    let s := descs.foldl (fun a d => a.rxFill r d err) (s.rxBegin r)
    if (s.ring r).cur.isSome then s.rxWait r else s

/-- RX_WAIT in ticks (Table 11-11). -/
def State.rxWaitT (s : State) (r : Nat) : Nat := min 1000 (s.fld .HIF_RING_CFG_RX_WAIT r) * 1000 * nsT

/-- RX_WAIT has expired: TRUNCATED, or the frame is discarded whole (R348, R349). -/
def State.rxExpire (s : State) (r : Nat) : State :=
  match (s.ring r).waitFrom with
  | none => s
  | some t =>
    if s.lNow < t + s.rxWaitT r || s.ringPosted r || !s.hifUp then s
    else
      match (s.ring r).cur with
      | some c => if c.bufs.isEmpty then s.rxDropHead r else (s.rxFinish r 1).event .HIF_EVENT_TRUNCATED
      | none => s.rxDropHead r

/-! ## Bus errors (R366) -/

/-- The ring enters ERROR. -/
def State.ringError (s : State) (r : Nat) : State := ((s.setFld .HIF_RING_STATUS_STATE r 0 4).event .HIF_EVENT_RING_ERR).fault 1 0 noUnit

/-- A descriptor or buffer read of a transmit ring failed: the open frame and the descriptor under way complete with BUS_ERROR; SOP and EOP of a descriptor
that the read did not bring are free values (log entries 5, 76). -/
def State.txReadError (s : State) (r : Nat) : State :=
  if !s.txMay r then s
  else
    let (g, s) := (s.txReserve r).draw
    let x := s.ring r
    let s := s.descGet r x.fetch
    let fr : TxFrame := x.building.getD { first := x.fetch, desc := 0 }
    ((s.setRing r { x with fetch := idx32 (x.fetch + 1), building := none }).txComplete r fr.first (fr.marks ++ [(g % 2 == 1, g / 2 % 2 == 1)]) 6 0 none fr.barrier).ringError r

/-- A descriptor read of a receive ring failed. -/
def State.rxReadError (s : State) (r : Nat) : State :=
  if !s.rxMay r || !s.ringPosted r then s
  else
    let s := s.rxBegin r
    let y := s.ring r
    let s := s.descGet r y.fetch
    let s := match y.cur with
      | some c => if c.bufs.isEmpty then s.setRing r { y with fetch := idx32 (y.fetch + 1), cur := some { c with bufs := [(y.fetch, 0)] } } else s
      | none => s
    (s.rxFinish r 6).ringError r

/-! ## Ring states (R367 to R369) -/

/-- Another running ring publishes to the same Ledger (R356). -/
def State.ledgerInUse (s : State) (r : Nat) : Bool :=
  s.anyRing fun q => q != r && s.fld .HIF_RING_CFG_COMP q == 2 && s.fld .HIF_RING_CFG_LEDGER q == s.fld .HIF_RING_CFG_LEDGER r

/-- The checks of START (R369). -/
def State.startBad (s : State) (r : Nat) : Bool :=
  let comp := s.fld .HIF_RING_CFG_COMP r
  let size := s.fld .HIF_RING_CFG_SIZE_LOG2 r
  decide (size < 6) || decide (16 < size) || comp == 3 || (comp == 2 && (decide (8192 ≤ r) || s.ledgerInUse r))
    || ((comp == 1 || s.on .HIF_RING_CFG_NOTIFY r) && !s.on .HIF_CQ_CFG_EN (s.fld .HIF_RING_CFG_CQ r))

/-- START (R369). -/
def State.ringStart (s : State) (r : Nat) : State :=
  match s.ringState r with
  | 0 | 3 => if s.startBad r then s.event .HIF_EVENT_BAD_CFG else s.setFld .HIF_RING_STATUS_STATE r 0 1
  | _ => s

/-- Frames fetched but not admitted complete with ABORTED (R368). -/
def State.txAbort (s : State) (r : Nat) : State :=
  let x := s.ring r
  let l := x.ready ++ x.building.toList
  l.foldl (fun a f => a.txComplete r f.first f.marks 7 0 none f.barrier) (s.setRing r { x with ready := [], building := none, held := none })

/-- Frames in the receive store, but for the one being written, are discarded and counted (R368). -/
def State.rxStop (s : State) (r : Nat) : State :=
  let y := s.ring r
  let keep := if y.cur.isSome then 1 else 0
  (y.store.drop keep).foldl (fun a x => a.rxLose r x.fr 2) (s.setRing r { y with store := y.store.take keep, waitFrom := if keep = 1 then y.waitFrom else none })

/-- STOP (R368). -/
def State.ringStop (s : State) (r : Nat) : State :=
  if s.ringState r = 1 then
    let s := s.setFld .HIF_RING_STATUS_STATE r 0 2
    if r < 8192 then s.txAbort r else s.rxStop r
  else s

/-- STOPPING ends when no completion is outstanding (R368). -/
def State.ringStopped (s : State) (r : Nat) : State :=
  let x := s.ring r
  if s.ringState r = 2 ∧ x.flying.isEmpty ∧ x.ready.isEmpty ∧ x.building.isNone ∧ x.cur.isNone then s.setFld .HIF_RING_STATUS_STATE r 0 3 else s

/-- Places of completion queues that a ring has reserved. -/
def RingSt.places (x : RingSt) : Nat := x.flying.length + x.ready.length + b2n x.building.isSome + b2n x.reserved

/-- A ring forgets what it fetched and admitted: PI and CI at 0, DISABLED (R369, R370). -/
def State.ringClear (s : State) (r : Nat) (store : List RxFrame) : State :=
  let x := s.ring r
  let c := s.fld .HIF_RING_CFG_CQ r
  let s := if s.fld .HIF_RING_CFG_COMP r = 1 then s.setCq c { s.cq c with reserved := (s.cq c).reserved - x.places } else s
  (s.setRing r { store := store }).setFlds r 0 [(.HIF_DOORBELL_PI, 0), (.HIF_RING_STATUS_CI, 0), (.HIF_RING_STATUS_STATE, 0)]

/-- RESET (R369). -/
def State.ringReset (s : State) (r : Nat) : State :=
  if ringActive (s.ringState r) then s.event .HIF_EVENT_CHANGE_REFUSED else s.ringClear r (s.ring r).store

/-! ## Completion queues (R350, R353, R354, R371) -/

/-- The test of R353. -/
def State.ciOk (s : State) (c ci : Nat) : Bool := decide (diff32 (s.fld .HIF_CQ_STATUS_PI c) ci ≤ s.cqUsed c)

/-- A write of CQ_DB (R353, R354). -/
def State.cqDoorbell (s : State) (c ci : Nat) (arm : Bool) : State :=
  if s.ciOk c ci then
    let s := (s.setFld .HIF_CQ_DB_CI c 0 ci).cqDrain c
    if arm then (s.setCq c { s.cq c with armed := true }).cqRaise c else s
  else s.badIndex id

/-- A running ring or DMA channel names a queue (R371). -/
def State.cqNamed (s : State) (c : Nat) : Bool :=
  s.anyRing (fun r => (s.fld .HIF_RING_CFG_COMP r == 1 || s.on .HIF_RING_CFG_NOTIFY r) && s.fld .HIF_RING_CFG_CQ r == c)
    || s.regs.any fun e => e.1.f == .DMA_CH_STATUS_STATE && ringActive e.2 && s.fld .DMA_CH_CFG_CQ e.1.i == c

/-- A write of CQ_CFG.EN (R350, R371, Table 11-13). -/
def State.cqEnable (s : State) (c : Nat) (en : Bool) : State :=
  let size := s.fld .HIF_CQ_CFG_SIZE_LOG2 c
  if en then
    (if s.on .HIF_CQ_CFG_EN c then s
     else if size < 6 ∨ 16 < size then s.event .HIF_EVENT_BAD_CFG
     else (s.setCq c {}).setFlds c 0 [(.HIF_CQ_CFG_EN, 1), (.HIF_CQ_STATUS_PI, 0), (.HIF_CQ_DB_CI, 0), (.HIF_CQ_STATUS_FULL, 0)])
  else if s.cqNamed c then s.event .HIF_EVENT_CHANGE_REFUSED
  else s.setFld .HIF_CQ_CFG_EN c 0 0

/-- The holdoff of a Ledger word has ended (R356). -/
def State.ledgerExpire (s : State) (r : Nat) : State := if (s.ring r).ledgerDirty && s.ledgerDue r && s.hifUp then s.ledgerPut r else s

/-! ## The commands -/

/-- DOORBELL_WRITE (R337, R338): a 32-bit write, or a 64-bit write of which the low 32 bits are used. -/
def execDoorbellWrite (r : Req) (ring : Fin 16384) (pi : BitVec 32) (wide : Bool) (s : State) : Host.Outcome State Fault Refusal :=
  done (s.checked r true 1 (ring.val * 0x40) (if wide then 8 else 4) fun s => s.doorbell r ring pi.toNat)
/-- TX_DESCRIPTOR_FETCH (R341). -/
def execTxDescriptorFetch (ring : Fin 8192) (desc : BitVec 256) (data : List Byte) (s : State) : Host.Outcome State Fault Refusal :=
  done (s.txFetch ring desc.toNat data)
/-- TX_FRAME_OFFER (R341). -/
def execTxFrameOffer (x : TxOffer) (s : State) : Host.Outcome State Fault Refusal := done ((s.laneSent x.mend.lanes).txOffer x.ring x.mend.err)
/-- HOST_FRAME_ADMIT_RETRY (R190). -/
def execHostFrameAdmitRetry (ring : Fin 8192) (s : State) : Host.Outcome State Fault Refusal := done (s.txRetry ring)
/-- HOST_READ_ERROR (R366). -/
def execHostReadError (ring : Fin 16384) (s : State) : Host.Outcome State Fault Refusal :=
  done (if ring.val < 8192 then s.txReadError ring else s.rxReadError ring)
/-- HOST_RX_WRITE (R345, R359, R470). -/
def execHostRxWrite (ring : Fin 8192) (descs : List (BitVec 256)) (err : BufErr) (s : State) : Host.Outcome State Fault Refusal :=
  done (s.rxWrite (8192 + ring) (descs.map BitVec.toNat) err)
/-- RX_WAIT_EXPIRY (R348, R349). -/
def execRxWaitExpiry (ring : Fin 8192) (s : State) : Host.Outcome State Fault Refusal := done (s.rxExpire (8192 + ring))
/-- CQ_DOORBELL (R353, R354). -/
def execCqDoorbell (r : Req) (c : Fin 4096) (ci : BitVec 32) (arm : Bool) (s : State) : Host.Outcome State Fault Refusal :=
  done (s.writing r .HIF_CQ_DB c 0 fun s => s.cqDoorbell c ci.toNat arm)
/-- CQ_ENABLE (R350, R371). -/
def execCqEnable (r : Req) (c : Fin 4096) (en : Bool) (s : State) : Host.Outcome State Fault Refusal :=
  done (s.writing r .HIF_CQ_CFG c 0 fun s => s.cqEnable c en)
/-- CQ_MODERATION_EXPIRY (R354). -/
def execCqModerationExpiry (c : Fin 4096) (s : State) : Host.Outcome State Fault Refusal := done (if s.hifUp then s.cqRaise c else s)
/-- LEDGER_HOLDOFF_EXPIRY (R356). -/
def execLedgerHoldoffExpiry (ring : Fin 8192) (s : State) : Host.Outcome State Fault Refusal := done (s.ledgerExpire ring)
/-- RING_START (R369). -/
def execRingStart (r : Req) (ring : Fin 16384) (s : State) : Host.Outcome State Fault Refusal :=
  done (s.writing r .HIF_RING_CTRL ring 0 fun s => s.ringStart ring)
/-- RING_STOP (R368). -/
def execRingStop (r : Req) (ring : Fin 16384) (s : State) : Host.Outcome State Fault Refusal :=
  done (s.writing r .HIF_RING_CTRL ring 0 fun s => s.ringStop ring)
/-- RING_STOP_COMPLETE (R368). -/
def execRingStopComplete (ring : Fin 16384) (s : State) : Host.Outcome State Fault Refusal := done (s.powered fun s => s.ringStopped ring)
/-- RING_RESET (R369). -/
def execRingReset (r : Req) (ring : Fin 16384) (s : State) : Host.Outcome State Fault Refusal :=
  done (s.writing r .HIF_RING_CTRL ring 0 fun s => s.ringReset ring)

end Sys2Proof.Machine
end

