-- ==== Sys2Proof/Machine/DmaOps.lean ====
section
/-!
DEFINITION. DMA channels (12.1 to 12.7): memory spaces and windows, descriptors, movers, token buckets, fetching, moving, retries and halts; the loss of a function.
-/
namespace Sys2Proof.Machine

/-! ## Spaces and windows (R372 to R374) -/

/-- A byte of DRAM (space 1) or local memory (space 2). -/
def State.spaceByte (s : State) (space a : Nat) : Byte := if space = 1 then s.dram.byte a else s.localMem.byte a

/-- A byte of DRAM or local memory written. -/
def State.spacePut (s : State) (space a : Nat) (b : Byte) : State :=
  if space = 1 then { s with dram := s.dram.put a b } else { s with localMem := s.localMem.put a b }

/-- A little-endian word of `n` bytes of DRAM or local memory. -/
def State.spaceLe (s : State) (space a n : Nat) : Nat := if space = 1 then s.dram.readLe a n else s.localMem.readLe a n

/-- The bytes exist: inside the installed DRAM, or the 2 MiB of local memory (R372, R548). -/
def State.spaceHas (s : State) (space a n : Nat) : Bool :=
  match space with
  | 1 => decide (a + n ≤ s.dma.dramSize)
  | 2 => decide (a + n ≤ 0x20_0000)
  | _ => true

/-- The bytes lie in a window of units of `unit` bytes from `base` to `last`. -/
def unitWindow (unit base last a n : Nat) : Bool := decide (base * unit ≤ a) && decide (a + n ≤ (last + 1) * unit)

/-- A channel may reach the bytes: host memory always, DRAM and local memory inside its window and the installed memory (R374). -/
def State.chReach (s : State) (ch space a n : Nat) : Bool :=
  match space with
  | 0 => true
  | 1 => s.on .DMA_CH_WIN_WIN_EN ch && unitWindow 0x1_0000 (s.fld .DMA_CH_WIN_DRAM_BASE ch) (s.fld .DMA_CH_WIN_DRAM_LIMIT ch) a n && s.spaceHas 1 a n
  | _ => s.on .DMA_CH_WIN_WIN_EN ch && unitWindow 0x1000 (s.fld .DMA_CH_WIN_LOCAL_BASE ch) (s.fld .DMA_CH_WIN_LOCAL_LIMIT ch) a n && s.spaceHas 2 a n

/-! ## Descriptors (Table 12-1, R375, R376) -/

def dNextAddr (w : Nat) : Nat := bits w 511 448
def dSrcSpace (w : Nat) : Nat := bits w 447 446
def dDstSpace (w : Nat) : Nat := bits w 445 444
def dNextSpace (w : Nat) : Nat := bits w 443 442
def dComp (w : Nat) : Bool := bit w 439
def dBarrier (w : Nat) : Bool := bit w 438
def dChain (w : Nat) : Bool := bit w 437
def dTag (w : Nat) : Nat := bits w 407 384
def dCnt2 (w : Nat) : Nat := bits w 383 368 + 1
def dCnt1 (w : Nat) : Nat := bits w 367 352 + 1
def dCnt0 (w : Nat) : Nat := bits w 351 336 + 1
def dElem (w : Nat) : Nat := bits w 335 320 + 1

/-- The number of elements, and the bytes that they are in all (R376). -/
def dCount (w : Nat) : Nat := dCnt0 w * dCnt1 w * dCnt2 w
def dTotal (w : Nat) : Nat := dElem w * dCount w

/-- The three loop positions of the `k`-th element in order: inner, middle, outer (R376). -/
def dPos (w k : Nat) : Nat × Nat × Nat := (k % dCnt0 w, k / dCnt0 w % dCnt1 w, k / (dCnt0 w * dCnt1 w))

/-- An address of the three loops modulo 2^64: steps are two's complement (R376). -/
def loopAddr (base step0 step1 step2 : Nat) (p : Nat × Nat × Nat) : Nat :=
  (((base : Int) + p.1 * toSigned 32 step0 + p.2.1 * toSigned 32 step1 + p.2.2 * toSigned 32 step2) % (2 ^ 64 : Int)).toNat

/-- Source and destination address of the `k`-th element. -/
def dSrc (w k : Nat) : Nat := loopAddr (bits w 63 0) (bits w 159 128) (bits w 223 192) (bits w 287 256) (dPos w k)
def dDst (w k : Nat) : Nat := loopAddr (bits w 127 64) (bits w 191 160) (bits w 255 224) (bits w 319 288) (dPos w k)

/-- The faults that a channel descriptor and a gather share (R392, log entry 120). -/
def State.descBad (s : State) (w : Nat) : Bool :=
  bits w 436 408 != 0 || dNextSpace w == 3 || dSrcSpace w == 3 || decide (2 ^ 32 < dTotal w)
    || (s.dramless && (dSrcSpace w == 1 || dDstSpace w == 1 || dNextSpace w == 1))

/-- A malformed channel descriptor (R392). -/
def State.chDescBad (s : State) (w : Nat) : Bool :=
  s.descBad w || dDstSpace w == 3 || (dChain w && dNextAddr w % 64 != 0)

/-! ## Channels (R381 to R388) -/

def State.chan (s : State) (ch : Nat) : ChanSt := s.dma.ch.get {} ch
def State.setChan (s : State) (ch : Nat) (x : ChanSt) : State := { s with dma := { s.dma with ch := s.dma.ch.set {} ch x } }
def State.chState (s : State) (ch : Nat) : Nat := s.fld .DMA_CH_STATUS_STATE ch
def State.chPf (s : State) (ch : Nat) : Nat := s.fld .DMA_CH_CFG_PF ch
def State.chPrio (s : State) (ch : Nat) : Nat := s.fld .DMA_CH_CFG_PRIO ch
def State.chCq (s : State) (ch : Nat) : Nat := s.fld .DMA_CH_CFG_CQ ch

/-- Host requests of a function can be issued (R330). -/
def State.hostGoes (s : State) (pf : Nat) : Bool := s.hif.link && (s.pfn pf).busMaster

/-- The memory requests for a space can be issued on behalf of a channel. -/
def State.spaceGoes (s : State) (ch space : Nat) : Bool := space != 0 || s.hostGoes (s.chPf ch)

/-! ### Movers (R381) -/

def State.setMovers (s : State) (l : List Nat) : State := { s with dma := { s.dma with movers := l } }

/-- A channel takes the place of another, which is ready without a mover from then on. -/
def State.moverSwap (s : State) (ch old : Nat) : State :=
  ((s.setMovers (s.dma.movers.erase old ++ [ch])).setFld .DMA_CH_STATUS_PREEMPTED old 0 1).setFld .DMA_CH_STATUS_PREEMPTED ch 0 0

/-- The mover that a channel pre-empts: of the lowest priority below its own, the one received last. -/
def State.moverVictim (s : State) (ch : Nat) : Option Nat :=
  (s.dma.movers.filter fun c => decide (s.chPrio c < s.chPrio ch)).foldl (fun best c =>
    match best with
    | none => some c
    | some b => if s.chPrio c ≤ s.chPrio b then some c else some b) none

/-- The mover that an equal gives up after 4 KiB: the one received first. -/
def State.moverEqual (s : State) (ch : Nat) : Option Nat := s.dma.movers.find? fun c => s.chPrio c == s.chPrio ch

/-- A ready channel asks for a mover: a free one, or one that it pre-empts. -/
def State.moverAsk (s : State) (ch : Nat) : State :=
  if s.dma.movers.contains ch then s
  else if s.dma.movers.length < 8 then (s.setMovers (s.dma.movers ++ [ch])).setFld .DMA_CH_STATUS_PREEMPTED ch 0 0
  else
    match s.moverVictim ch with
    | some v => (s.moverSwap ch v).bump (chanWord v 3)
    | none => s.setFld .DMA_CH_STATUS_PREEMPTED ch 0 1

/-- A ready channel without a mover comes to hold one in its turn among equals. -/
def State.moverTurn (s : State) (ch : Nat) : State :=
  let s := s.moverAsk ch
  if s.dma.movers.contains ch then s
  else
    match s.moverEqual ch with
    | some v => ({ s with dma := { s.dma with gaveUp := s.dma.gaveUp.set 0 (s.chPrio ch) v } }).moverSwap ch v
    | none => s

/-- The waiting channel that takes a free mover: the highest priority, and among equals ascending numbers after the one that last gave one up. -/
def State.moverNext (s : State) : Option Nat :=
  let wait := (List.range 256).filter fun c => s.on .DMA_CH_STATUS_PREEMPTED c
  let top := (wait.map s.chPrio).foldl max 0
  let l := wait.filter fun c => s.chPrio c == top
  match l.find? fun c => decide (s.dma.gaveUp.get 0 top < c) with
  | some c => some c
  | none => l.head?

/-- A channel is no longer ready: its mover goes to the next. -/
def State.moverFree (s : State) (ch : Nat) : State :=
  let s := s.setFld .DMA_CH_STATUS_PREEMPTED ch 0 0
  if s.dma.movers.contains ch then
    let s := s.setMovers (s.dma.movers.erase ch)
    let s := { s with dma := { s.dma with gaveUp := s.dma.gaveUp.set 0 (s.chPrio ch) ch } }
    match s.moverNext with
    | some c => s.moverAsk c
    | none => s
  else s

/-! ### Token buckets (R382 to R384), in thousandths of a byte: RATE per nanosecond -/

/-- The tokens that a channel has had since its bucket was last settled. -/
def State.chTokens (s : State) (ch : Nat) : Nat := (s.chan ch).tokens + s.fld .DMA_CH_RATE_RATE ch * (s.lNs - (s.chan ch).tokL)

/-- The ceiling of a channel's bucket; BURST 0 acts as 1. -/
def State.chCeiling (s : State) (ch : Nat) : Nat := max 1 (s.fld .DMA_CH_RATE_BURST ch) * 1024000

/-- The bucket brought up to now after `used` bytes. -/
def State.chSettle (s : State) (ch used : Nat) : State :=
  s.setChan ch { s.chan ch with tokens := min (s.chCeiling ch) (s.chTokens ch - used * 1000), tokL := s.lNs }

/-- A channel has the tokens for `n` bytes. -/
def State.chCan (s : State) (ch n : Nat) : Bool := !s.on .DMA_CH_RATE_RATE ch || decide (n * 1000 ≤ s.chTokens ch)

/-- The balance of a cap's bucket now: LIMIT × 100 × 10^6 bytes per second, ceiling 16 KiB. -/
def capNow (limit : Nat) (tok : Int) (since now : Nat) : Int := min (16384000 : Nat) (tok + (limit * 100 * (now - since) : Nat))

/-- A cap of 0 is none; otherwise its bucket is not in debt. -/
def capOk (limit : Nat) (tok : Int) (since now : Nat) : Bool := limit == 0 || decide (0 ≤ capNow limit tok since now)

/-- Neither cap that a descriptor's spaces fall under is in debt (R383). -/
def State.capsOk (s : State) (w : Nat) : Bool :=
  let has (sp : Nat) : Bool := dSrcSpace w == sp || dDstSpace w == sp
  (!has 0 || capOk (s.fld .DMA_CTRL_PCIE_LIMIT) s.dma.pcieTok s.dma.pcieL s.lNs)
    && (!has 1 || capOk (s.fld .DMA_CTRL_DRAM_LIMIT) s.dma.dramTok s.dma.dramL s.lNs)

/-- `n` bytes moved are charged to the caps. -/
def State.capsPay (s : State) (w n : Nat) : State :=
  let part (sp : Nat) : Int := ((b2n (dSrcSpace w == sp) + b2n (dDstSpace w == sp)) * n * 1000 : Nat)
  { s with dma := { s.dma with
      pcieTok := capNow (s.fld .DMA_CTRL_PCIE_LIMIT) s.dma.pcieTok s.dma.pcieL s.lNs - part 0, pcieL := s.lNs,
      dramTok := capNow (s.fld .DMA_CTRL_DRAM_LIMIT) s.dma.dramTok s.dma.dramL s.lNs - part 1, dramL := s.lNs } }

/-! ### Records and ends (R379, R387 to R393) -/

/-- A channel's completion record without PHASE (Table 12-3). -/
def State.chRecord (s : State) (ch status addr space tag : Nat) : Nat :=
  2 * 2 ^ 124 + status * 2 ^ 120 + ch * 2 ^ 112 + tag * 2 ^ 88 + addr / 64 * 2 ^ 30 + space * 2 ^ 28 + s.lUs % 2 ^ 28

/-- The place that a channel holds in its queue is released (R388). -/
def State.chRelease (s : State) (ch : Nat) : State :=
  if (s.chan ch).reserved then (s.cqRelease (s.chCq ch)).setChan ch { s.chan ch with reserved := false } else s

/-- The position of a channel in its descriptor. -/
def State.setChPos (s : State) (ch w k : Nat) : State :=
  let p := dPos w k
  s.setFlds ch 0 [(.DMA_CH_POS_I0, p.1), (.DMA_CH_POS_I1, p.2.1), (.DMA_CH_POS_I2, p.2.2)]

/-- The element that a channel has reached. -/
def State.chPos (s : State) (ch w : Nat) : Nat :=
  s.fld .DMA_CH_POS_I0 ch + dCnt0 w * (s.fld .DMA_CH_POS_I1 ch + dCnt1 w * s.fld .DMA_CH_POS_I2 ch)

/-- A descriptor begins, or the channel leaves the running states: a PRIO that waits takes effect (R16, Table 12-10). -/
def State.chBoundary (s : State) (ch : Nat) : State := s.takeReg ⟨.DMA_CH_CFG, ch, 0⟩

/-- Counter word of a halt (Table 16-6). -/
def haltWord (status : Nat) : Nat := if status = 9 then 4 else if status = 6 then 5 else 6

/-- A channel halts: the record is always written (R387, R390, R391, R393). -/
def State.chHalt (s : State) (ch status addr space tag : Nat) : State :=
  let s := (s.chRelease ch).cqWrite (s.chCq ch) (s.chRecord ch status addr space tag)
  let s := (s.setFlds ch 0 [(.DMA_CH_STATUS_STATE, 4), (.DMA_CH_STATUS_HALT, status), (.DMA_CH_STATUS_WAIT_CQ, 0), (.DMA_CH_STATUS_WAIT_TOK, 0)]).bump
    (chanWord ch (haltWord status))
  let s := ((s.setChan ch { s.chan ch with desc := none, retryAt := none, retries := 0 }).moverFree ch).chBoundary ch
  match status with
  | 9 => s.event .DMA_EVENT_LOOP
  | 6 => (s.event .DMA_EVENT_BUS_ERR).fault 1 0 noUnit
  | _ => s

/-- A descriptor completes with OK (0) or MALFORMED (2), and the channel continues or ends (R379, R385, R387, R388, R392). -/
def State.chDone (s : State) (ch status addr space w : Nat) (more : Bool) : State :=
  let s := s.chRelease ch
  let s := if dComp w || status != 0 then s.cqWrite (s.chCq ch) (s.chRecord ch status addr space (dTag w)) else s
  let s := s.bump (chanWord ch 0)
  let s := if status = 2 then s.bump (chanWord ch 7) else s
  let s := s.setFlds ch 0 [(.DMA_CH_DESC_ADDR, dNextAddr w / 64), (.DMA_CH_DESC_SPACE, dNextSpace w), (.DMA_CH_STATUS_WAIT_TOK, 0),
    (.DMA_CH_STATUS_STATE, if s.chState ch = 2 then 3 else if more then 1 else 0)]
  ((s.setChan ch { s.chan ch with desc := none, last := (addr, space, dTag w), retryAt := none, retries := 0 }).moverFree ch).chBoundary ch

/-- A malformed descriptor (R392): Fatal in service; otherwise it moves nothing and completes with MALFORMED. -/
def State.chMalformed (s : State) (ch addr space w : Nat) : State :=
  if s.dev.inService then s.fault 3 15 noUnit
  else
    (s.event .DMA_EVENT_MALFORMED).chDone ch 2 addr space w
      (dChain w && dNextAddr w % 64 == 0 && dNextSpace w != 3 && !(s.dramless && dNextSpace w == 1))

/-! ### Fetching (R378, R388, R390) -/

/-- The address and the space of the next descriptor. -/
def State.chNext (s : State) (ch : Nat) : Nat := s.fld .DMA_CH_DESC_ADDR ch * 64
def State.chNextSpace (s : State) (ch : Nat) : Nat := s.fld .DMA_CH_DESC_SPACE ch

/-- A channel may fetch: RUNNING between descriptors, with no retry pending, its requests issued. -/
def State.chMayFetch (s : State) (ch : Nat) : Bool :=
  s.alive && s.on .DMA_CTRL_RUN && s.chState ch == 1 && (s.chan ch).desc.isNone && (s.chan ch).retryAt.isNone && s.spaceGoes ch (s.chNextSpace ch)

/-- A channel reserves its place, or waits for room; a halt for LOOP or a decode error comes before the read, and then `k` reads (R388, R390, R391). -/
def State.chFetch (s : State) (ch : Nat) (k : State → State) : State :=
  if !s.chMayFetch ch then s
  else if !(s.chan ch).reserved && !s.cqRoom (s.chCq ch) then s.setFld .DMA_CH_STATUS_WAIT_CQ ch 0 1
  else
    let s := if (s.chan ch).reserved then s else (s.cqReserve (s.chCq ch)).setChan ch { s.chan ch with reserved := true }
    let s := s.setFld .DMA_CH_STATUS_WAIT_CQ ch 0 0
    let last := (s.chan ch).last
    if max 1 (s.fld .DMA_CH_CFG_CHAIN_LIMIT ch) ≤ s.fld .DMA_CH_STATUS_HOPS ch then s.chHalt ch 9 last.1 last.2.1 last.2.2
    else if s.chReach ch (s.chNextSpace ch) (s.chNext ch) 64 then k s
    else
      (let (tag, s) := s.draw
       s.chHalt ch 6 (s.chNext ch) (s.chNextSpace ch) (tag % 2 ^ 24))

/-- The read request of a descriptor in host memory; DESC_NS reads it with No-Snoop (Table 12-10). -/
def State.chAsk (s : State) (ch : Nat) : State :=
  if s.chNextSpace ch = 0 then s.hostGet (s.chPf ch) (s.chNext ch) (hostAttr false (s.on .DMA_CH_CFG_DESC_NS ch)) 64 else s

/-- A descriptor as read: host memory answers with the operand. -/
def State.chRead (s : State) (ch : Nat) (host : Nat) : Nat :=
  if s.chNextSpace ch = 0 then host else s.spaceLe (s.chNextSpace ch) (s.chNext ch) 64

/-- The descriptor `w` has been read. -/
def State.chTake (s : State) (ch w : Nat) : State :=
  let addr := s.chNext ch
  let space := s.chNextSpace ch
  let s := (s.setFld .DMA_CH_STATUS_HOPS ch 0 (s.fld .DMA_CH_STATUS_HOPS ch + 1)).chBoundary ch
  if s.chDescBad w then s.chMalformed ch addr space w
  else (((s.setChan ch { s.chan ch with desc := some (addr, space, w), retries := 0 }).chSettle ch 0).setChPos ch w 0).moverAsk ch

/-! ### Failed reads (R391) -/

/-- A read of a channel failed: issued again 1 µs later, or the last retry has failed and the channel halts. -/
def State.chReadFailed (s : State) (ch : Nat) : State :=
  let x := s.chan ch
  if x.retries < s.fld .DMA_CH_CFG_RETRY_COUNT ch then s.setChan ch { x with retries := x.retries + 1, retryAt := some (s.lNow + 1000 * nsT) }
  else
    match x.desc with
    | some (addr, space, w) => s.chHalt ch 6 addr space (dTag w)
    | none =>
      (let (tag, s) := s.draw
       s.chHalt ch 6 (s.chNext ch) (s.chNextSpace ch) (tag % 2 ^ 24))

/-- The failed read is issued again. -/
def State.chRetry (s : State) (ch : Nat) : State :=
  match (s.chan ch).retryAt with
  | some t => if s.alive && decide (t ≤ s.lNow) then (s.setChan ch { s.chan ch with retryAt := none }).bump (chanWord ch 2) else s
  | none => s

/-! ### Moving (R376, R377, R380) -/

/-- A byte read by a channel: one that the descriptor or the one before it has overwritten reads as before or as after (R377). -/
def State.chByte (s : State) (ch space a : Nat) : Byte × State :=
  match (s.chan ch).wrote.find? fun e => e.1 == space && e.2.1 == a with
  | none => (s.spaceByte space a, s)
  | some e =>
    let (g, s) := s.draw
    (if g % 2 = 0 then s.spaceByte space a else e.2.2, s)

/-- `n` bytes read by a channel at rising addresses. -/
def State.chBytes (s : State) (ch space : Nat) : (n a : Nat) → List Byte × State
  | 0, _ => ([], s)
  | n + 1, a =>
    let (b, s') := s.chByte ch space a
    let (l, s'') := State.chBytes s' ch space n (a + 1)
    (b :: l, s'')

/-- One byte written by a channel; what it replaces is kept (R377). -/
def State.chPut (s : State) (ch space a : Nat) (b : Byte) : State :=
  (s.setChan ch { s.chan ch with wrote := (space, a, s.spaceByte space a) :: (s.chan ch).wrote }).spacePut space a b

/-- The bytes of an element written with exact byte enables (R380). -/
def State.chWrite (s : State) (ch w a : Nat) (bs : List Byte) : State :=
  if dDstSpace w = 0 then s.hostPut (s.chPf ch) a (hostAttr (s.on .HIF_CFG_RO_EN) (bit w 440)) bs
  else
    let t := (bs.zipIdx).foldl (fun t e => t.chPut ch (dDstSpace w) (a + e.2) e.1) s
    if dDstSpace w = 2 then t.localFresh a bs.length else t

/-- Both sides of an element can be reached (R374). -/
def State.elemOk (s : State) (ch w k : Nat) : Bool :=
  s.chReach ch (dSrcSpace w) (dSrc w k) (dElem w) && s.chReach ch (dDstSpace w) (dDst w k) (dElem w)

/-- One element copied; `src` is what host memory still has to return (R376). -/
def State.chElem (s : State) (ch w k : Nat) (src : List Byte) : List Byte × State :=
  let n := dElem w
  if dSrcSpace w = 0 then (src.drop n, (s.hostGet (s.chPf ch) (dSrc w k) (hostAttr false (bit w 441)) n).chWrite ch w (dDst w k) (padTo n (src.take n)))
  else
    let (bs, s) := s.chBytes ch (dSrcSpace w) n (dSrc w k)
    (src, s.chWrite ch w (dDst w k) bs)

/-- `n` elements from the `k`-th on, until one cannot be reached: the element reached (R376, R391). -/
def State.chElems (s : State) (ch w : Nat) : (n k : Nat) → (src : List Byte) → Nat × State
  | 0, k, _ => (k, s)
  | n + 1, k, src =>
    if s.elemOk ch w k then
      let (rest, s') := s.chElem ch w k src
      State.chElems s' ch w n (k + 1) rest
    else (k, s)

/-- Elements up to the `stop`-th moved and charged; true if all of them could be reached. -/
def State.chMove (s : State) (ch w stop : Nat) (src : List Byte) : Bool × State :=
  let k := s.chPos ch w
  let (k', s) := s.chElems ch w (stop - k) k src
  let n := (k' - k) * dElem w
  (k' == stop, (((s.bump (chanWord ch 1) n).chSettle ch n).capsPay w n).setChPos ch w k')

/-- A channel may move: a descriptor under way with no retry pending, its requests issued, neither cap in debt. -/
def State.chMayMove (s : State) (ch w : Nat) : Bool :=
  s.alive && ringActive (s.chState ch) && (s.chan ch).retryAt.isNone && s.spaceGoes ch (dSrcSpace w) && s.spaceGoes ch (dDstSpace w) && s.capsOk w

/-- A channel moves up to the `stop`-th element of its descriptor and then does `k`; without the tokens it is not ready, without a mover it waits, and a decode
error halts it (R381, R382, R391). -/
def State.chRun (s : State) (ch addr space w stop : Nat) (src : List Byte) (k : State → State) : State :=
  if !s.chMayMove ch w then s
  else if !s.chCan ch ((stop - s.chPos ch w) * dElem w) then (s.setFld .DMA_CH_STATUS_WAIT_TOK ch 0 1).moverFree ch
  else
    let s := (s.setFld .DMA_CH_STATUS_WAIT_TOK ch 0 0).moverTurn ch
    if !s.dma.movers.contains ch then s
    else
      match s.chMove ch w stop src with
      | (true, s) => k s
      | (false, s) => s.chHalt ch 6 addr space (dTag w)

/-- The flushing read of a descriptor to the last destination byte (R387). -/
def State.chFlush (s : State) (ch w : Nat) : State :=
  if dComp w && dBarrier w && dDstSpace w == 0 then s.hostFlush (s.chPf ch) ((dDst w (dCount w - 1) + dElem w - 1) % 2 ^ 64) else s

/-- The bytes kept for R377 are those of the descriptor that has completed. -/
def State.chForget (s : State) (ch n : Nat) : State := s.setChan ch { s.chan ch with wrote := (s.chan ch).wrote.take n }

/-- The first element from the `k`-th on whose source is a word of local memory with an uncorrectable error (R391, R469). -/
def State.chBad (s : State) (w k : Nat) : Option Nat :=
  if s.localBad.isEmpty || dSrcSpace w != 2 then none else ((List.range (dCount w)).drop k).find? fun j => !s.localGood (dSrc w j) (dElem w)

/-- The source of an element fails after those before it are moved (R391). -/
def State.chStumble (s : State) (ch addr space w elems : Nat) (src : List Byte) : State :=
  let k := s.chPos ch w
  s.chRun ch addr space w elems src fun s => (if k < elems then s.setChan ch { s.chan ch with retries := 0 } else s).chReadFailed ch

/-- The descriptor under way completes (R376, R379, R387); every access to failed DRAM fails (R467). -/
def State.chComplete (s : State) (ch : Nat) (src : List Byte) : State :=
  match (s.chan ch).desc with
  | none => s
  | some (addr, space, w) =>
    if s.thim.dramFailed && (dSrcSpace w == 1 || dDstSpace w == 1) then s.chStumble ch addr space w (s.chPos ch w) src
    else
      match s.chBad w (s.chPos ch w) with
      | some j => s.chStumble ch addr space w j src
      | none => s.chRun ch addr space w (dCount w) src fun s => ((s.chFlush ch w).chForget ch (dTotal w)).chDone ch 0 addr space w (dChain w)

/-- A read failed: of a descriptor, or of the source after `elems` elements (R391). -/
def State.chFail (s : State) (ch elems : Nat) (src : List Byte) : State :=
  match (s.chan ch).desc with
  | none => s.chFetch ch fun s => (s.chAsk ch).chReadFailed ch
  | some (addr, space, w) =>
    s.chStumble ch addr space w (min elems (dCount w - 1)) src

/-- A channel fetches its next descriptor (R378). -/
def State.chGet (s : State) (ch host : Nat) : State :=
  s.chFetch ch fun s => let s := s.chAsk ch; if (s.thim.dramFailed && s.chNextSpace ch == 1) || (s.chNextSpace ch == 2 && !s.localGood (s.chNext ch) 64) then s.chReadFailed ch else s.chTake ch (s.chRead ch host)

/-! ### Channel control (R386) -/

/-- STOP. -/
def State.chStop (s : State) (ch : Nat) : State :=
  if s.chState ch != 1 then s
  else if (s.chan ch).desc.isSome then s.setFld .DMA_CH_STATUS_STATE ch 0 2
  else
    let s := (s.chRelease ch).setFlds ch 0 [(.DMA_CH_STATUS_STATE, 3), (.DMA_CH_STATUS_WAIT_CQ, 0)]
    (s.setChan ch { s.chan ch with retryAt := none, retries := 0 }).chBoundary ch

/-- START; while RUN = 0 a STOP follows at once (Table 12-9). -/
def State.chStart (s : State) (ch : Nat) : State :=
  if s.chState ch != 0 && s.chState ch != 3 then s
  else if s.chNextSpace ch = 3 || !s.on .HIF_CQ_CFG_EN (s.chCq ch) then s.event .DMA_EVENT_BAD_CFG
  else
    let s := (s.setFlds ch 0 [(.DMA_CH_STATUS_STATE, 1), (.DMA_CH_STATUS_HOPS, 0)]).setChan ch { s.chan ch with wrote := [] }
    if s.on .DMA_CTRL_RUN then s else s.chStop ch

/-- RESET. -/
def State.chReset (s : State) (ch : Nat) : State :=
  if ringActive (s.chState ch) then s.event .DMA_EVENT_CHANGE_REFUSED
  else s.setFlds ch 0 [(.DMA_CH_STATUS_STATE, 0), (.DMA_CH_STATUS_HOPS, 0), (.DMA_CH_POS_I0, 0), (.DMA_CH_POS_I1, 0), (.DMA_CH_POS_I2, 0)]

/-- CTRL.RUN = 0 acts as STOP on every channel. -/
def State.chStopAll (s : State) : State := (List.range 256).foldl (fun a ch => a.chStop ch) s

/-- A write of CH_RATE: the bucket is empty (R384). -/
def State.chRateWrite (s : State) (ch v : Nat) : State :=
  (s.setFlds ch 0 [(.DMA_CH_RATE_RATE, bits v 63 48), (.DMA_CH_RATE_BURST, bits v 31 16)]).setChan ch { s.chan ch with tokens := 0, tokL := s.lNs }

/-! ## The loss of a function (R370, R393, R421) -/

/-- A running channel of a lost function ends with ABORTED (R393). -/
def State.chAbort (s : State) (ch : Nat) : State :=
  if !ringActive (s.chState ch) then s
  else
    match (s.chan ch).desc with
    | some (addr, space, w) => s.chHalt ch 7 addr space (dTag w)
    | none =>
      (let (tag, s) := s.draw
       s.chHalt ch 7 (s.chNext ch) (s.chNextSpace ch) (tag % 2 ^ 24))

/-- A frame of the receive store is discarded: no counter of a ring names this discard. -/
def State.rxVanish (s : State) (r : Nat) (fr : FrameRec) : State :=
  let (g, s) := s.draw
  s.fate fr 3 11 (g / 4 % 256) (g % 4) (2 ^ 15 + r % 8192) 0xFFFF

/-- A ring of a lost function: its stored frames are discarded, PI and CI are 0, DISABLED. -/
def State.ringLost (s : State) (r : Nat) : State := ((s.ring r).store.foldl (fun a x => a.rxVanish r x.fr) s).ringClear r []

/-- A queue of a lost function: EN = 0, its held records dropped. -/
def State.cqLost (s : State) (c : Nat) : State := (s.setCq c {}).setFld .HIF_CQ_CFG_EN c 0 0

/-- The sources held at a function's vectors return to NONE (R421). -/
def State.vectorsLost (s : State) (pf : Nat) : State :=
  let l := s.intc.src.filter fun e => e.2.toVector && e.2.dstate != 0 && s.vecPf e.2.holder == some pf
  l.foldl (fun a e => a.toNone e.1 true) s

/-- The effects on one function of its reset or of the loss of the link (R370, R393, R421). A Function Level Reset clears Bus Master Enable and MSI-X Enable and
unmasks the function, as PCI Express has it (log entry 13). -/
def State.functionLost (s : State) (pf : Nat) : State :=
  let s := (List.range 256).foldl (fun a ch => if a.chPf ch = pf then a.chAbort ch else a) s
  let s := { s with hif := { s.hif with stalled := s.hif.stalled.filter fun e => e.1 != pf } }
  let s := (List.range 16384).foldl (fun a r => if a.ringPf r = pf then a.ringLost r else a) s
  let s := (List.range 4096).foldl (fun a c => if a.fld .HIF_CQ_CFG_PF c = pf then a.cqLost c else a) s
  (s.vectorsLost pf).setPfn pf { s.pfn pf with busMaster := false, msixEn := false, fnMask := false, maxRead := 2, tenBit := false }

/-- A Function Level Reset. -/
def State.functionReset (s : State) (pf : Nat) : State :=
  if !s.hifUp then s else ((s.functionLost pf).event .HIF_EVENT_FLR).fault 1 0 noUnit

/-- The PCI Express link is lost: no host request is issued any more, and every function is reset. -/
def State.linkLoss (s : State) : State :=
  if !s.hif.link then s
  else
    let s := { s with hif := { s.hif with link := false, speed := 0, width := 0 } }
    let s := (List.range 8).foldl (fun a f => a.setPfn f { a.pfn f with busMaster := false }) s
    ((List.range 8).foldl (fun a f => a.functionLost f) s).event .HIF_EVENT_LINK_DOWN |>.fault 1 0 noUnit

end Sys2Proof.Machine
end

