-- ==== Sys2Proof/Machine/Services.lean ====
section
/-!
DEFINITION. The firmware services of the service cores: the time service (chapter 03), the train topology service (03.7) and the supervision service (R169). Each message they send is a
line of the log, `service` with the domain (8 TTDP, 9 supervision, 10 a notice to the time service), the port, the kind of message and its value, and a service frame that enters the
egress queue of the Pattern's service entry (R180). The kinds of a PTP message are 0 Sync, 1 Follow_Up, 2 Announce, 3 Pdelay_Req, 4 Delay_Req, 5 Pdelay_Resp, 6 Pdelay_Resp_Follow_Up,
7 Delay_Resp.
-/
namespace Sys2Proof.Machine

/-! ## Instances -/

def State.inst (s : State) (d : Nat) : PtpSt := s.ptp.get {} d
def State.setInst (s : State) (d : Nat) (x : PtpSt) : State := { s with ptp := s.ptp.set {} d x }

/-- The device identifier (Table 14-8). -/
def State.devId (s : State) : Nat := s.fld .BOOT_STATUS_DEV_ID

/-- The domain is disciplined by a PPS capture: one is configured to feed it, it is in Servo mode (R72), and its last sample came from a capture (R97). -/
def State.ppsFed (s : State) (d : Nat) : Bool :=
  s.on .TPL_DOM_CFG_MODE d && (s.dom d).fed && [32, 33].any fun u => s.on .TPL_CAP_CFG_EN u && s.on .TPL_CAP_CFG_SERVO_FEED u && s.fld .TPL_CAP_CFG_DOM u == d

/-- clockClass announced as grandmaster (R97). R97 gives no class for a domain that is fed and UNLOCKED or STEPPING, and two for one that is LOCKED and out of sync:
52 and 6 (log entry 114). -/
def State.clockClass (s : State) (d : Nat) : Nat :=
  if !s.ppsFed d then 248 else if s.domState d = 3 then 6 else if s.domState d = 4 ∧ s.inSync d then 7 else 52

/-- The clockIdentity of every instance: the Pattern's prefix and the device identifier (R82). -/
def State.ownIdent (s : State) : Nat := s.time.identPrefix * 65536 + s.devId

/-- A dataset rank: priority1, clockClass, clockAccuracy, variance (32 bits in all, `quality`) and priority2, compared in that order (R83; log entry 11). -/
def dsRank (p1 quality p2 : Nat) : Nat := (p1 * 2 ^ 32 + quality) * 256 + p2

/-- The clockQuality of this device as grandmaster. -/
def State.ownQuality (s : State) (d : Nat) : Nat := s.clockClass d * 2 ^ 24 + Config.clockQuality % 2 ^ 24

/-- The instance's own dataset. -/
def State.ownRank (s : State) (d : Nat) : Nat := dsRank (s.inst d).priority1 (s.ownQuality d) (s.inst d).priority2

/-- A clock is better: lower rank, then lower identity (R83). -/
def better (r1 i1 r2 i2 : Nat) : Bool := decide (r1 < r2) || (r1 == r2 && decide (i1 < i2))

/-- A clock is better than this device as grandmaster. -/
def State.beatsOwn (s : State) (d : Nat) (f : Foreign) : Bool := better f.rank f.ident (s.ownRank d) s.ownIdent

/-- An offer is better than another: the clock; then fewer steps to it, then the lower port (R83). -/
def betterOffer (f g : Foreign) : Bool :=
  better f.rank f.ident g.rank g.ident ||
    (f.rank == g.rank && f.ident == g.ident && (decide (f.steps < g.steps) || (f.steps == g.steps && decide (f.port < g.port))))

/-- The best of the clocks offered. -/
def bestForeign (l : List Foreign) : Option Foreign :=
  l.foldl (fun b f =>
    match b with
    | none => some f
    | some g => if betterOffer f g then some f else some g) none

/-- The instance type of a domain (Table 03-1). -/
def State.instType (s : State) (d : Nat) : Nat := s.fld .TPL_DOM_MAP_INST d

/-- Two-step transmit (Table 03-5). -/
def State.twoStep (s : State) (d : Nat) : Bool := s.on .TPL_DOM_MAP_STEP_TX d

/-- A peer delay mechanism is used; a TC instance originates no messages (Table 03-1). -/
def State.peerDelay (s : State) (d : Nat) : Bool := s.instType d != 3 && (s.instType d != 1 || !s.on .TPL_DOM_MAP_DELAY d)

/-- 2^log seconds in ticks. -/
def logT (l : Int) : Nat := 2 ^ (l + 7).toNat * 7812500 * nsT

/-- The intervals of Table 03-2: initial, or operational once the initial period is over. -/
def PtpSt.syncT (x : PtpSt) : Nat := logT (if x.operational then x.logSyncOper else x.logSyncInit)
def PtpSt.pdelayT (x : PtpSt) (p : Nat) : Nat := logT (if x.operational && !x.initPorts.contains p then x.logPdelayOper else x.logPdelayInit)
def PtpSt.announceT (x : PtpSt) : Nat := logT x.logAnnounce

/-- The times after which an Announce and a Sync are missed (Table 03-2). -/
def PtpSt.announceTimeoutT (x : PtpSt) : Nat := x.announceTimeout * x.announceT
def PtpSt.syncTimeoutT (x : PtpSt) : Nat := x.syncTimeout * x.syncT

/-- The ports on which the instance acts as master: with EXTERNAL those the Pattern names, else all but the slave port; on 802.1AS links only where the link is fit (R77, R83). -/
def State.masters (s : State) (d : Nat) : List Nat :=
  let x := s.inst d
  (s.instPorts d).filter fun p =>
    (if x.bmca = 2 then x.roles.get 2 p == 1 else some p != x.best.map (·.port)) && (s.instType d != 0 || x.capable.contains p)

/-! ## Messages -/

/-- `n` bytes that the specification does not give, from place `o` of message `key` on (log entry 112). -/
def openBytes (key o n : Nat) : List Byte := (List.range n).map fun i => Config.serviceByte key (o + i)

/-- A service's frame enters the queue of the Pattern's service entry: admitted, or discarded and counted (R180, R186). -/
def State.serviceFrame (s : State) (svc p : Nat) (data : List Byte) (act : EgressAct) (dom : Nat) (edit : Edit := {}) : State :=
  (s.admitCopy (128 * p + s.boot.pattern.svcQ.get 0 svc % 128)
    { data := padTo 60 data, act := act, tsDom := dom, service := true, src := .service, tIn := s.lNs, edit := edit }).2

/-- A PTP message to send: kind, correction in 2^-16 ns, body after its header, sequenceId where it answers or follows one, and its egress action. -/
structure PtpOut where
  kind : Nat
  corr : Int := 0
  body : List Byte := []
  seq : Option Nat := none
  act : EgressAct := .none
deriving DecidableEq, Repr

/-- messageType of a kind. -/
def ptpTypeOf (kind : Nat) : Nat := [0, 8, 11, 2, 1, 3, 10, 9].getD kind 0

/-- A time of 2^-16 ns as a 10-byte PTP timestamp. -/
def ptpStamp (v : Nat) : List Byte := beBytes 6 (v / 65536 / 1000000000) ++ beBytes 4 (v / 65536 % 1000000000)

/-- A PTP message (IEEE 1588, log entry 112): its header with the instance's domainNumber and sdoId (R80) and the device's clockIdentity (R82), and its body. -/
def State.ptpBytes (s : State) (d p key seq : Nat) (m : PtpOut) : List Byte :=
  let sdo := s.fld .TPL_DOM_MAP_SDO_ID d
  let two := s.twoStep d && (m.kind == 0 || m.kind == 5)
  beBytes 1 (sdo / 256 * 16 + ptpTypeOf m.kind) ++ openBytes key 1 1 ++ beBytes 2 (34 + m.body.length) ++ beBytes 1 (s.fld .TPL_DOM_MAP_DOMAIN_NUMBER d) ++ beBytes 1 (sdo % 256) ++
    beBytes 1 (if two then 2 else 0) ++ openBytes key 7 1 ++ beBytes 8 (ofSigned 64 m.corr) ++ openBytes key 16 4 ++ beBytes 8 s.ownIdent ++ beBytes 2 (p + 1) ++ beBytes 2 seq ++
    openBytes key 32 2 ++ m.body

/-- Group addresses of Table 03-1: peer delay messages have their own. -/
def State.ptpGroup (s : State) (d tr : Nat) (peer : Bool) : Nat :=
  match tr with
  | 0 => if s.instType d = 0 ∨ peer then 0x0180C200000E else 0x011B19000000
  | 1 => if peer then 0xE000006B else 0xE0000181
  | _ => if peer then 0xFF02 * 2 ^ 112 + 0x6B else 0xFF0E * 2 ^ 112 + 0x181

/-- A PTP message in a frame of a transport: 0 layer 2, 1 UDP over IPv4, 2 over IPv6; event messages take UDP port 319, the others 320. -/
def State.ptpFrame (s : State) (d p key tr kind : Nat) (msg : List Byte) : List Byte :=
  let g := s.ptpGroup d tr (kind == 3 || kind == 5 || kind == 6)
  let src := beBytes 6 (s.fld .MAC_ADDR_ADDR p)
  let port := if ptpTypeOf kind < 4 then 319 else 320
  let udp (sum : List Byte) := beBytes 2 port ++ beBytes 2 port ++ beBytes 2 (8 + msg.length) ++ sum ++ msg
  match tr with
  | 0 => beBytes 6 g ++ src ++ beBytes 2 0x88F7 ++ msg
  | 1 => beBytes 3 0x01005E ++ beBytes 3 (g % 2 ^ 23) ++ src ++ beBytes 2 0x0800 ++ beBytes 1 0x45 ++ openBytes key 100 1 ++ beBytes 2 (28 + msg.length) ++ openBytes key 102 2 ++
      beBytes 2 0 ++ openBytes key 104 1 ++ beBytes 1 17 ++ openBytes key 105 6 ++ beBytes 4 g ++ udp (beBytes 2 0)
  | _ => beBytes 2 0x3333 ++ beBytes 4 (g % 2 ^ 32) ++ src ++ beBytes 2 0x86DD ++ beBytes 4 0x60000000 ++ beBytes 2 (8 + msg.length) ++ beBytes 1 17 ++ openBytes key 100 17 ++
      beBytes 16 g ++ udp (openBytes key 117 2)

/-- The transports of an instance: the layer 2 of Table 03-1, or those that its DOM_MAP enables. -/
def State.transports (s : State) (d : Nat) : List Nat :=
  if s.instType d = 1 then
    [(0, s.on .TPL_DOM_MAP_TR_L2 d), (1, s.on .TPL_DOM_MAP_TR_IP4 d), (2, s.on .TPL_DOM_MAP_TR_IP6 d)].filterMap fun e => if e.2 then some e.1 else none
  else [0]

/-- A PTP message of an instance is sent on a port: its value `v` in the log, its frames in the port's queue. -/
def State.ptpSend (s : State) (d kind v : Nat) (m : PtpOut) (p : Nat) : State :=
  let (key, s) := s.draw
  let x := s.inst d
  let s := (s.emit (.service d p kind v)).setInst d { x with seqNo := (x.seqNo + 1) % 65536 }
  let msg := s.ptpBytes d p key (m.seq.getD x.seqNo) m
  (s.transports d).foldl (fun a tr => a.serviceFrame 0 p (s.ptpFrame d p key tr kind msg) m.act d) s

/-- The same on each of some ports. -/
def State.ptpSendOn (s : State) (d kind v : Nat) (m : PtpOut) (ps : List Nat) : State := ps.foldl (fun a p => a.ptpSend d kind v m p) s

/-- A Sync of the instance's own time: the egress time is written into it, or follows it (R52, R77). -/
def State.ownSync (s : State) (d : Nat) : PtpOut := { kind := 0, body := beBytes 10 0, act := if s.twoStep d then .record else .origin }

/-- The Announce of a grandmaster dataset; `path`: the clocks on the way to it, this one appended (path trace, R77). -/
def State.announceOut (s : State) (rank ident steps : Nat) (path : List Nat) : PtpOut :=
  let trace := path ++ [s.ownIdent]
  { kind := 2, body := beBytes 10 0 ++ beBytes 3 0 ++ beBytes 1 (rank / 2 ^ 40) ++ beBytes 4 (rank / 256 % 2 ^ 32) ++ beBytes 1 (rank % 256) ++ beBytes 8 ident ++ beBytes 2 steps ++
      beBytes 1 0xA0 ++ beBytes 2 8 ++ beBytes 2 (8 * trace.length) ++ (trace.map (beBytes 8)).flatten }

/-- The Announce of this device as grandmaster, and of the one it follows. -/
def State.ownAnnounce (s : State) (d : Nat) : PtpOut := s.announceOut (s.ownRank d) s.ownIdent 0 []
def State.onAnnounce (s : State) (f : Foreign) : PtpOut := s.announceOut f.rank f.ident (f.steps + 1) f.path

/-- The L time of the last message of a timer on a port. -/
def State.markSent (s : State) (d k : Nat) (ps : List Nat) : State :=
  s.setInst d { s.inst d with sentL := ps.foldl (fun l p => l.set 0 (128 * k + p) s.lNow) (s.inst d).sentL }

/-- The ports of a list whose interval of timer `k` has passed. -/
def State.duePorts (s : State) (d k : Nat) (t : Nat → Nat) (ps : List Nat) : List Nat :=
  ps.filter fun p => decide ((s.inst d).sentL.get 0 (128 * k + p) + t p ≤ s.lNow)

/-! ## Grandmaster and slave roles (R83 to R86, R95, R96) -/

/-- The time service writes SYNC_CFG.GM; clearing it while the domain is UNLOCKED unlocks the grids (R242). -/
def State.writeGm (s : State) (d : Nat) (gm : Bool) : State :=
  let was := s.on .TPL_SYNC_CFG_GM d
  let s := s.setFld .TPL_SYNC_CFG_GM d 0 (b2n gm)
  if was && !gm && s.domState d == 1 then s.gridUnlockDom d else s

/-- The instance acts as grandmaster: GM, and its first Announce and Sync together (R85). -/
def State.becomeGm (s : State) (d : Nat) : State :=
  let s := s.writeGm d true
  let s := s.setInst d { s.inst d with actingGm := true, declaring := false, best := none, returning := none }
  let ps := s.masters d
  let s := (s.ptpSendOn d 2 (s.ownRank d) (s.ownAnnounce d) ps).ptpSendOn d 0 (s.voted d) (s.ownSync d) ps
  (s.markSent d 0 ps).markSent d 1 ps

/-- The instance declares itself grandmaster (R85): an UNLOCKED domain without external reference is first loaded with L time. -/
def State.declareGm (s : State) (d : Nat) : State :=
  if s.instType d = 3 then s
  else if s.domState d = 1 ∧ !s.ppsFed d then
    let s := (s.setFlds d 0 [(.TPL_DOM_SET_NS_NS, nsOf s.lNow), (.TPL_DOM_SET_NS_FRAC, fracOf s.lNow)]).domSetWrite d (secOf s.lNow)
    s.setInst d { s.inst d with declaring := true, best := none, returning := none }
  else s.becomeGm d

/-- The load of a declaration has been applied (R59, R85). -/
def State.loadedGm (s : State) (d : Nat) : State := if (s.inst d).declaring && (s.dom d).load.isNone then s.becomeGm d else s

/-- A clock becomes the grandmaster followed, its port the slave port. -/
def State.setBest (s : State) (d : Nat) (f : Foreign) : State :=
  let x := s.inst d
  let same := x.best.any fun g => g.ident == f.ident && g.port == f.port
  s.setInst d { x with best := some f, declaring := false, returning := none, lastSync := if same then x.lastSync else s.lNow }

/-- An instance acting as grandmaster yields to a better clock and becomes a slave (R86). -/
def State.yieldGm (s : State) (d : Nat) (f : Foreign) : State := ((s.writeGm d false).setInst d { (s.writeGm d false).inst d with actingGm := false }).setBest d f

/-- An Announce is recorded as the offer of its port. A BC or BC-PU instance qualifies a clock by a second Announce within four intervals (R89, IEEE 1588, log entry 12). An Announce that
has passed this device already is none (path trace, R77). -/
def State.noteOffer (s : State) (d : Nat) (f : Foreign) : State :=
  let x := s.inst d
  if f.path.contains s.ownIdent || f.ident == s.ownIdent then s
  else
    let again := x.foreign.any fun g => g.port == f.port && g.ident == f.ident && decide (s.lNow ≤ g.atL + 4 * x.announceT)
    let f := { f with atL := s.lNow, qual := s.instType d == 0 || again }
    s.setInst d { x with heard := true, foreign := (x.foreign.filter fun g => g.port != f.port) ++ [f] }

/-- The offers that count: qualified, not expired, with EXTERNAL of a port whose static role is slave (R83, R89, R95). -/
def State.offers (s : State) (d : Nat) : List Foreign :=
  let x := s.inst d
  x.foreign.filter fun f => f.qual && decide (s.lNow < f.atL + x.announceTimeoutT) && (x.bmca != 2 || x.roles.get 2 f.port == 0)

/-- A better clock than the present grandmaster is accepted: at once with RETURN_HOLD 0 and in Acquire, else after its Announces have come unbroken for RETURN_HOLD (R96, log entry 121). -/
def State.tryBetter (s : State) (d : Nat) (f : Foreign) : State :=
  let x := s.inst d
  if x.returnHold = 0 ∨ s.dev = .acquire then (if x.actingGm then s.yieldGm d f else s.setBest d f)
  else
    match x.returning with
    | some (h, since, last) =>
      if h.ident = f.ident ∧ s.lNow ≤ last + x.announceTimeoutT then s.setInst d { x with returning := some (f, since, s.lNow) }
      else s.setInst d { x with returning := some (f, s.lNow, s.lNow) }
    | none => s.setInst d { x with returning := some (f, s.lNow, s.lNow) }

/-- The best master clock algorithm on the offers (R83, R84, R86). -/
def State.bmca (s : State) (d : Nat) : State :=
  let x := s.inst d
  match bestForeign (s.offers d) with
  | none => s
  | some f =>
    if x.bmca = 2 then s.setBest d f
    else if x.actingGm then (if s.beatsOwn d f then s.tryBetter d f else s)
    else if x.gmCapable && !s.beatsOwn d f then (if x.declaring then s else s.declareGm d)
    else
      match x.best with
      | none => s.setBest d f
      | some g => if g.ident = f.ident then s.setBest d f else if better f.rank f.ident g.rank g.ident then s.tryBetter d f else s

/-- A received Announce (R83, R84, R86, R96); a TC instance takes part in no choice. -/
def State.announce (s : State) (d : Nat) (f : Foreign) : State := if s.instType d = 3 then s else (s.noteOffer d f).bmca d

/-- The wait of R84, in ticks. -/
def State.listenT (s : State) (d : Nat) : Nat :=
  let x := s.inst d
  x.announceTimeoutT + (x.listenExtra + s.devId * x.idSlot) * nsT

/-- R84: no Announce heard, the domain UNLOCKED, the wait over. -/
def State.listenExpiry (s : State) (d : Nat) : State :=
  let x := s.inst d
  if x.gmCapable && !x.heard && !x.actingGm && !x.declaring && s.domState d == 1 && decide (x.listenSince + s.listenT d ≤ s.lNow) then s.declareGm d else s

/-- The master is lost: announceReceiptTimeout or syncReceiptTimeout has expired on the slave port (R95). -/
def State.masterLate (s : State) (d : Nat) (g : Foreign) : Bool :=
  let x := s.inst d
  decide (x.lastSync + x.syncTimeoutT ≤ s.lNow) || !(x.foreign.any fun f => f.port == g.port && f.ident == g.ident && decide (s.lNow < f.atL + x.announceTimeoutT))

/-- The loss of the master on the slave port (R95). With EXTERNAL no role changes: another slave port that hears the same or another grandmaster, or none. -/
def State.masterLoss (s : State) (d : Nat) : State :=
  match (s.inst d).best with
  | none => s
  | some g =>
    if !s.masterLate d g then s
    else
      let x := s.inst d
      let s := s.setInst d { x with foreign := x.foreign.filter (fun f => f.port != g.port), best := none, returning := none }
      let capable := x.gmCapable && x.bmca != 2
      match bestForeign ((s.offers d).filter fun f => f.ident == g.ident) with
      | some f => s.setBest d f
      | none =>
        match bestForeign (s.offers d) with
        | some f => if capable && !s.beatsOwn d f then s.declareGm d else s.setBest d f
        | none => if capable then s.declareGm d else s

/-- RETURN_HOLD of Announces without a gap up to now (R96). -/
def State.returnExpiry (s : State) (d : Nat) : State :=
  let x := s.inst d
  match x.returning with
  | some (f, since, last) =>
    if last + x.announceTimeoutT < s.lNow then s.setInst d { x with returning := none }
    else if since + x.returnHold * nsT ≤ s.lNow then (if x.actingGm then s.yieldGm d f else s.setBest d f)
    else s
  | none => s

/-! ## Received messages (R77, R79, R81) -/

/-- The offset of a Sync or Follow_Up: domain time − master time (02.7), and the sample submitted. -/
def State.syncSample (s : State) (d p tIn origin : Nat) (corr : Int) (ratio : Nat) : State :=
  let delay := if s.instType d = 3 then s.fld .TPL_PORT_TS_CFG_LINK_DLY p else (s.inst d).linkDelay.get 0 p
  let s := s.setDom d { s.dom d with fed := false }
  (s.setFld .TPL_DOM_SAMPLE_RATIO_RATIO d 0 ratio).sampleWrite d ((tIn : Int) - ((origin : Int) + corr + delay))

/-- A Sync or Follow_Up relayed by a TAS instance on its master ports, with the time it has spent here: added at egress, or in the Follow_Up (R52, R79). -/
def State.relaySync (s : State) (d p kind tIn origin : Nat) (corr : Int) : State :=
  let ps := (s.masters d).filter (· ≠ p)
  let corr := corr + (s.inst d).linkDelay.get 0 p
  let s := s.setInst d { s.inst d with relay := some ⟨tIn, origin, corr⟩ }
  if kind = 1 then (if s.twoStep d then s else s.ptpSendOn d 1 origin { kind := 1, corr := corr, body := ptpStamp origin } ps)
  else
    let t := tIn * 2 ^ 24
    let act := if s.twoStep d then EgressAct.record else .residence d t (s.stepsAtTime d t) 0
    s.ptpSendOn d 0 origin { kind := 0, corr := if s.twoStep d then 0 else corr, body := if s.twoStep d then beBytes 10 0 else ptpStamp origin, act := act } ps

/-- A Sync or Follow_Up with its times: relayed by a TAS instance, and a sample where the port is the slave port or the instance is a TC (R76, R79, R81). -/
def State.syncMsg (s : State) (d p kind tIn origin : Nat) (corr : Int) (ratio : Nat) : State :=
  let s := if s.instType d = 0 then s.relaySync d p kind tIn origin corr else s
  if s.instType d = 3 then s.syncSample d p tIn origin corr ratio
  else if (s.inst d).best.map (·.port) = some p then (s.setInst d { s.inst d with lastSync := s.lNow }).syncSample d p tIn origin corr ratio
  else s

/-- A measured link delay, with the neighbour rate ratio: shared by the instances that use the Common Mean Link Delay Service (R77, R99). -/
def State.noteDelay (s : State) (d p v ratio : Nat) : State :=
  let put (a : State) (e : Nat) : State :=
    let x := a.inst e
    a.setInst e { x with linkDelay := x.linkDelay.set 0 p v, nrr := x.nrr.set 0 p ratio, lost := x.lost.set 0 p 0,
                         capable := (x.capable.filter (· ≠ p)) ++ if v ≤ x.propThresh * 65536 then [p] else [] }
  if (s.inst d).cmlds then ((List.range 8).filter fun e => (s.inst e).cmlds).foldl put s else put s d

/-- An answer to a peer delay request: one-step, or two-step with the request's time in it (R52, R77). -/
def State.pdelayResp (s : State) (d p tIn peer seq : Nat) : State :=
  let t := tIn * 2 ^ 24
  if s.twoStep d then s.ptpSend d 5 tIn { kind := 5, body := ptpStamp tIn ++ beBytes 10 peer, seq := some seq, act := .record } p
  else s.ptpSend d 5 tIn { kind := 5, body := beBytes 10 0 ++ beBytes 10 peer, seq := some seq, act := .residence d t (s.stepsAtTime d t) 0 } p

/-- A PTP message delivered to its instance (R77, R79, R81). -/
def State.ptpMessage (s : State) (d p : Nat) (m : PtpMsg) : State :=
  if !s.on .TPL_DOM_CFG_EN d || !(s.instPorts d).contains p then s
  else
    match m with
    | .sync tIn origin corr ratio => s.syncMsg d p 0 tIn origin corr ratio.toNat
    | .twoStepSync tIn =>
      let s := if (s.inst d).best.map (·.port) = some p then s.setInst d { s.inst d with lastSync := s.lNow } else s
      if s.instType d = 0 then s.relaySync d p 0 tIn 0 0 else s
    | .followUp tIn origin corr ratio => s.syncMsg d p 1 tIn origin corr ratio.toNat
    | .announce p1 quality p2 src =>
      s.announce d { rank := dsRank p1.toNat quality.toNat p2.toNat, ident := src.ident.toNat, port := p, steps := src.steps.toNat, path := src.path.map BitVec.toNat }
    | .linkDelay v ratio => if s.instType d = 3 then s else s.noteDelay d p v ratio.toNat
    | .pdelayReq tIn peer seq => if s.peerDelay d then s.pdelayResp d p tIn peer.toNat seq.toNat else s
    | .delayReq tIn peer seq =>
      if s.instType d = 1 && !s.peerDelay d && (s.masters d).contains p then
        s.ptpSend d 7 tIn { kind := 7, body := ptpStamp tIn ++ beBytes 10 peer.toNat, seq := some seq.toNat } p
      else s

/-! ## Egress timestamps and periodic messages (R55, R77, R78) -/

/-- The message that follows a two-step one, with the time at which that left: a Follow_Up, or a Pdelay_Resp_Follow_Up. -/
def State.followUp (s : State) (d p : Nat) (e : EgressStamp) : State :=
  let v := e.time / 2 ^ 24
  if e.msg = 3 then s.ptpSend d 6 v { kind := 6, body := ptpStamp v ++ openBytes e.atL 44 10, seq := some e.seq } p
  else if e.msg ≠ 0 then s
  else
    match (s.inst d).relay, s.instType d == 0 && !(s.inst d).actingGm with
    | some r, true => s.ptpSend d 1 v { kind := 1, corr := r.corr + ((v : Int) - r.tIn), body := ptpStamp r.origin, seq := some e.seq } p
    | _, _ => s.ptpSend d 1 v { kind := 1, corr := fracOf e.time, body := ptpStamp v, seq := some e.seq } p

/-- The time service reads the egress timestamp queue of a port (R55). -/
def State.readStamps (s : State) (d p : Nat) : State :=
  let mine := (s.pt p).tsq.filter fun e => e.dom == d
  mine.foldl (fun a e => a.followUp d p e) (s.updPt p fun x => { x with tsq := x.tsq.filter fun e => e.dom != d })

/-- The egress timestamp queues of an instance's ports read. -/
def State.stamps (s : State) (d : Nat) : State := (s.instPorts d).foldl (fun a p => a.readStamps d p) s

/-- A Pdelay_Req on a port; a link with more requests unanswered than allowedLostResponses is not fit any longer (Table 03-2). -/
def State.pdelayReq (s : State) (d p : Nat) : State :=
  let x := s.inst d
  let n := x.lost.get 0 p + 1
  let s := s.setInst d { x with lost := x.lost.set 0 p n, capable := if x.allowedLost < n then x.capable.filter (· ≠ p) else x.capable }
  s.ptpSend d 3 0 { kind := 3, body := beBytes 20 0, act := .record } p

/-- The periodic messages of an instance on the ports whose interval has passed, and the end of its initial period (R77, R78, R85). A TC instance originates none (Table 03-1). -/
def State.ptpInterval (s : State) (d : Nat) (t : PtpTimer) : State :=
  if !s.on .TPL_DOM_CFG_EN d || s.instType d == 3 then s
  else
    let s := s.stamps d
    let x := s.inst d
    match t with
    | .sync =>
      let ps := s.duePorts d 0 (fun _ => x.syncT) (s.masters d)
      if x.actingGm || ((s.instType d == 1 || s.instType d == 2) && s.inSync d) then (s.ptpSendOn d 0 (s.voted d) (s.ownSync d) ps).markSent d 0 ps else s
    | .announce =>
      let ps := s.duePorts d 1 (fun _ => x.announceT) (s.masters d)
      if x.actingGm then (s.ptpSendOn d 2 (s.ownRank d) (s.ownAnnounce d) ps).markSent d 1 ps
      else match x.best with
        | some f => (s.ptpSendOn d 2 f.rank (s.onAnnounce f) ps).markSent d 1 ps
        | none => s
    | .peerDelay =>
      let ps := s.duePorts d 2 x.pdelayT ((s.instPorts d).filter fun p => !x.cmlds || !(List.range d).any fun e => (s.inst e).cmlds && (s.instPorts e).contains p)
      if s.peerDelay d then (ps.foldl (fun a p => a.pdelayReq d p) s).markSent d 2 ps else s
    | .delayReq =>
      match x.best with
      | some f =>
        if s.instType d != 1 || s.peerDelay d then s
        else
          let ps := s.duePorts d 3 (fun _ => logT x.logMinDelayReq) [f.port]
          (s.ptpSendOn d 4 0 { kind := 4, body := beBytes 10 0, act := .record } ps).markSent d 3 ps
      | none => s
    | .initialEnd =>
      if s.domState d = 3 ∧ (s.dom d).lastStep + x.initialS * secT ≤ s.lNow then s.setInst d { x with operational := true, initPorts := [] } else s

/-! ## Train topology (R98, R99) -/

/-- The ETB ports: two of each line (R98). -/
def TtdpSt.ports (x : TtdpSt) : List Nat := (x.lines.map fun e => [e.1, e.2]).flatten

/-- A message of the topology service: its bytes are those of IEC 61375-2-5 (log entry 113). -/
def State.ttdpSend (s : State) (p kind : Nat) : State :=
  let (key, s) := s.draw
  let s := { s with ttdp := { s.ttdp with sentL := s.ttdp.sentL.set 0 (2 * p + kind) s.lNow } }
  (s.emit (.service 8 p kind s.ttdp.counter)).serviceFrame 1 p (openBytes key 0 6 ++ beBytes 6 (s.fld .MAC_ADDR_ADDR p) ++ openBytes key 12 48) .none 8

/-- A change of a neighbour begins an inauguration, unless it is inhibited (R98). -/
def State.inaugurate (s : State) : State :=
  { s with ttdp := if s.ttdp.inhibit then { s.ttdp with kept := true } else { s.ttdp with inaugurating := true } }

/-- A TTDP frame of a neighbour is heard on an ETB port (R98). -/
def State.ttdpHeard (s : State) (p src : Nat) : State :=
  if !s.ttdp.ports.contains p then s
  else
    let new := (s.ttdp.heard.get none p).map (·.1) != some src
    let s := { s with ttdp := { s.ttdp with heard := s.ttdp.heard.set none p (some (src, s.lNow)) } }
    if new then s.inaugurate else s

/-- A TTDP timer expires: it acts on an ETB port whose time has come in L time (R98). -/
def State.ttdpTimer (s : State) (p : Nat) (t : TtdpTimer) : State :=
  let x := s.ttdp
  match t with
  | .hello => if x.ports.contains p ∧ x.sentL.get 0 (2 * p) + x.helloNs * nsT ≤ s.lNow then s.ttdpSend p 0 else s
  | .topology => if x.ports.contains p ∧ x.sentL.get 0 (2 * p + 1) + x.topologyNs * nsT ≤ s.lNow then s.ttdpSend p 1 else s
  | .helloTimeout =>
    match x.heard.get none p with
    | some (_, l) => if l + x.timeoutNs * nsT ≤ s.lNow then { s with ttdp := { x with heard := x.heard.set none p none } }.inaugurate else s
    | none => s
  | .inhibitEnd =>
    if x.inhibit ∧ x.inhibitL + x.inhibitNs * nsT ≤ s.lNow then
      { s with ttdp := { x with inhibit := false, kept := false, inaugurating := x.inaugurating || x.kept } }
    else s

/-- One instance at a new topology: on the changed ports the neighbour rate ratio is discarded and Pdelay restarts at the initial interval; RANKED recomputes priority2, which the next
Announce carries (R83, R99). -/
def State.topologyInst (s : State) (position : Nat) (isEtbn : Bool) (changed : List Nat) (d : Nat) : State :=
  let x := s.inst d
  let ch := (changed.filter (s.instPorts d).contains).filter s.ttdp.ports.contains
  let s := s.setInst d { x with nrr := ch.foldl (fun l p => l.erase p) x.nrr, lost := ch.foldl (fun l p => l.erase p) x.lost, initPorts := x.initPorts ++ ch,
                                priority2 := if x.bmca = 1 then (if isEtbn then 64 + position else 255) else x.priority2 }
  if s.on .TPL_DOM_CFG_EN d && s.peerDelay d then (ch.foldl (fun a p => a.pdelayReq d p) s).markSent d 2 ch else s

/-- The schedule distribution service on the grandmaster of the backbone domain (R99): the commit time, the first whole second at least 1 s later, and the schedule set of each car
position with it. -/
def State.distribute (s : State) (backbone cars : Nat) : State :=
  if !s.on .TPL_SYNC_CFG_GM backbone then s
  else
    let sec := (s.voted backbone + secT + secT - 1) / secT
    (List.range cars).foldl (fun a k => a.emit (.service 8 (k + 1) 3 sec)) (s.emit (.service 8 0 2 sec))

/-- A new topology is published (R98, R99): the inauguration is over. -/
def State.topology (s : State) (counter position : Nat) (train : Train) (changed : List Nat) (backbone : Nat) : State :=
  if counter = s.ttdp.counter then s
  else
    let s := { s with ttdp := { s.ttdp with counter := counter, position := position, isEtbn := train.isEtbn, inaugurating := false, inhibit := true, inhibitL := s.lNow, kept := false } }
    ((List.range 8).foldl (fun a d => a.topologyInst position train.isEtbn changed d) s).distribute backbone train.cars

/-! ## PRP and HSR supervision (R169) -/

/-- The forget time of 60 s. -/
def forgetT : Nat := 60 * secT

/-- The node statistics of Table 16-5, words 32 to 34: nodes heard on LAN A only, LAN B only and both. -/
def State.nodeStats (s : State) : State :=
  let a := (s.sup.nodes.filter fun e => e.2.1.isSome && e.2.2.isNone).length
  let b := (s.sup.nodes.filter fun e => e.2.1.isNone && e.2.2.isSome).length
  let c := (s.sup.nodes.filter fun e => e.2.1.isSome && e.2.2.isSome).length
  { s with tape := { s.tape with ctr := ((s.tape.ctr.set 0 (devWord 32) a).set 0 (devWord 33) b).set 0 (devWord 34) c } }

/-- The other port of an HSR ring: same NET_ID (R168). -/
def State.otherRing (s : State) (p : Nat) : List Nat :=
  (List.range 128).filter fun q => q != p && s.on .MEND_PORT_CFG_HSR_RING q && s.fld .MEND_PORT_CFG_NET_ID q == s.fld .MEND_PORT_CFG_NET_ID p

/-- A supervision frame on each of some ports, in the HSR tag of a ring port or with a PRP trailer, numbered `n` (R169, log entry 112). -/
def State.supSend (s : State) (kind v src n : Nat) (ps : List Nat) : State :=
  ps.foldl (fun a p =>
    let (key, a) := a.draw
    let hsr := a.on .MEND_PORT_CFG_HSR_RING p
    (a.emit (.service 9 p kind v)).serviceFrame 2 p (beBytes 5 0x01154E0001 ++ openBytes key 5 1 ++ beBytes 6 (if kind = 0 then src else a.fld .MAC_ADDR_ADDR p) ++ beBytes 2 0x88FB ++
      openBytes key 14 2 ++ beBytes 2 n ++ openBytes key 18 42) .none 8 { seqOut := if hsr then 2 else 3, num := some n }) s

/-- A supervision frame reaches the service (R169). -/
def State.supFrame (s : State) (p src seq : Nat) : State :=
  let n := s.sup.nodes.get (none, none) src
  let n := if s.on .MEND_PORT_CFG_LAN p then (n.1, some s.lNow) else (some s.lNow, n.2)
  let s := { s with sup := { s.sup with nodes := s.sup.nodes.set (none, none) src n } }.nodeStats
  if s.on .MEND_PORT_CFG_HSR_RING p && !s.ownAddr src && !s.sup.sent.contains (src, seq) then
    { s with sup := { s.sup with sent := s.sup.sent ++ [(src, seq)] } }.supSend 0 (src * 65536 + seq) src seq (s.otherRing p)
  else s

/-- The service's own supervision frame on every HSR and PRP port, numbered by its own generator (R169). -/
def State.lifeCheck (s : State) : State :=
  if s.sup.lastLife + s.sup.interval * 1000000 * nsT ≤ s.lNow then
    let ps := (List.range 128).filter fun p => s.on .MEND_PORT_CFG_HSR_RING p || s.on .MEND_PORT_CFG_PRP_PORT p
    { s with sup := { s.sup with lastLife := s.lNow, number := (s.sup.number + 1) % 65536 } }.supSend 1 s.sup.number 0 s.sup.number ps
  else s

/-- A node not heard within the forget time on a LAN is forgotten there (R169). -/
def State.forget (s : State) (src : Nat) : State :=
  let old (t : Option Nat) : Option Nat :=
    match t with
    | some x => if x + forgetT ≤ s.lNow then none else some x
    | none => none
  let n := s.sup.nodes.get (none, none) src
  { s with sup := { s.sup with nodes := s.sup.nodes.set (none, none) src (old n.1, old n.2) } }.nodeStats

/-! ## The commands -/

/-- TIME_SERVICE_PTP_MESSAGE (R81). -/
def execTimeServicePtpMessage (d : Dom) (p : Port) (m : PtpMsg) (s : State) : Host.Outcome State Fault Refusal := done (s.powered fun s => s.ptpMessage d p m)
/-- GM_LISTEN_EXPIRY (R84). -/
def execGmListenExpiry (d : Dom) (s : State) : Host.Outcome State Fault Refusal := done (s.powered fun s => s.listenExpiry d)
/-- ANNOUNCE_BETTER_CLOCK (R86): the Announce of a clock better than the acting grandmaster; of another it is an Announce like any. -/
def execAnnounceBetterClock (d : Dom) (p : Port) (prio1 : BitVec 8) (quality : BitVec 32) (prio2 : BitVec 8) (src : ClockSrc) (s : State) : Host.Outcome State Fault Refusal :=
  done (s.powered fun s => s.ptpMessage d p (.announce prio1 quality prio2 src))
/-- MASTER_LOSS_TIMEOUT (R95). -/
def execMasterLossTimeout (d : Dom) (s : State) : Host.Outcome State Fault Refusal := done (s.powered fun s => s.masterLoss d)
/-- RETURN_HOLD_EXPIRY (R96). -/
def execReturnHoldExpiry (d : Dom) (s : State) : Host.Outcome State Fault Refusal := done (s.powered fun s => s.returnExpiry d)
/-- TTDP_TIMER_EXPIRY (R98). -/
def execTtdpTimerExpiry (p : Port) (t : TtdpTimer) (s : State) : Host.Outcome State Fault Refusal := done (s.powered fun s => s.ttdpTimer p t)
/-- TOPOLOGY_PUBLISH (R99). -/
def execTopologyPublish (counter position : Nat) (train : Train) (changed : List Port) (backbone : Dom) (s : State) : Host.Outcome State Fault Refusal :=
  done (s.powered fun s => s.topology counter position train (changed.map (·.val)) backbone)
/-- PTP_MESSAGE_INTERVAL_EXPIRY (R77). -/
def execPtpMessageIntervalExpiry (d : Dom) (t : PtpTimer) (s : State) : Host.Outcome State Fault Refusal := done (s.powered fun s => s.ptpInterval d t)
/-- SUPERVISION_FRAME (R169). -/
def execSupervisionFrame (p : Port) (src : BitVec 48) (seq : BitVec 16) (s : State) : Host.Outcome State Fault Refusal :=
  done (s.powered fun s => s.supFrame p src.toNat seq.toNat)
/-- LIFE_CHECK_SEND (R169). -/
def execLifeCheckSend (s : State) : Host.Outcome State Fault Refusal := done (s.powered State.lifeCheck)
/-- FORGET_TIME_EXPIRY (R169). -/
def execForgetTimeExpiry (src : BitVec 48) (s : State) : Host.Outcome State Fault Refusal := done (s.powered fun s => s.forget src.toNat)

end Sys2Proof.Machine
end

