-- ==== Sys2Proof/Machine/Ingress.lean ====
section
/-!
DEFINITION. The ingress sequence (R101): receive checks, control classification, identification and the miss path, gate, meter, Mender, destinations; and the Seam (08.7).
-/
namespace Sys2Proof.Machine

/-- The frame record of an arrival before identification. -/
def Arrival.base (a : Arrival) : FrameRec := { data := a.data, act := a.act, tsDom := a.tsDom, src := .port a.p, tIn := a.tL / nsT, chalk := a.chalk }

/-- A frame discarded before it is copied (R524). -/
def State.dropIn (s : State) (fr : FrameRec) (step reason scope : Nat) : State := s.fate fr 3 step reason scope 0xFFFF 0xFFFF

/-- The same where no counter of the tables counts the discard: it is counted against its step (R101), and REASON is free (log entries 5, 79). -/
def State.dropFree (s : State) (fr : FrameRec) (step : Nat) : State :=
  let (g, s) := s.draw
  (s.countNoWord step fr.src).dropIn fr step (g % 256) (g / 256 % 4)

/-- A discard at the ingress port under a word of Table 16-2. -/
def State.dropPort (s : State) (p : Nat) (fr : FrameRec) (step word : Nat) : State := (s.portCount p word).dropIn fr step word 0

/-- A discard counted in the device block. -/
def State.dropDev (s : State) (fr : FrameRec) (step word : Nat) : State := (s.bump (devWord word)).dropIn fr step word 2

/-- The FEC codewords of a port's lane (Table 16-2), while its FEC is aligned (R271). -/
def State.fecCount (s : State) (p : Nat) (x : RxMeet) : State :=
  if !multidrop p && s.on .MAC_LANE_STATUS_FEC_LOCK (boltOf p) (laneOf p) then (s.portCount p 52 x.fecCorrected).portCount p 53 x.fecFailed else s

/-! ## Receive checks (R280) -/

/-- The reason for which the ingress MAC discards a frame of `n` bytes with its FCS, as a word of Table 16-2, in the order of R280. -/
def State.rxReason (s : State) (p n : Nat) (fcsOk codeOk : Bool) : Option Nat :=
  if s.linkState p ≠ 6 then some 6
  else if max 64 (min 9216 (s.fld .MAC_CFG_MAX_LEN p)) < n then some 4
  else if !codeOk then some 5
  else if n < 64 then some 3
  else if !fcsOk then some 2
  else none

/-! ## PTP mapping, timestamps and the transparent clock (R48, R52, R80, R81) -/

/-- The transport of a message is enabled (Table 03-5). -/
def State.trOk (s : State) (d tr : Nat) : Bool :=
  let l2only := s.fld .TPL_DOM_MAP_INST d == 0 || s.fld .TPL_DOM_MAP_INST d == 2
  match tr with
  | 0 => s.on .TPL_DOM_MAP_TR_L2 d
  | 1 => !l2only && s.on .TPL_DOM_MAP_TR_IP4 d
  | _ => !l2only && s.on .TPL_DOM_MAP_TR_IP6 d

/-- The domain that a PTP message received at a port maps to (R80). -/
def State.ptpMap (s : State) (p : Nat) (f : List Byte) : Option Nat :=
  match ptpMsg f with
  | none => none
  | some (o, tr) => (List.range 8).find? fun d =>
      s.on .TPL_DOM_CFG_EN d && ptpDomain f o == s.fld .TPL_DOM_MAP_DOMAIN_NUMBER d && ptpSdo f o == s.fld .TPL_DOM_MAP_SDO_ID d && s.trOk d tr
        && (s.instPorts d).contains p

/-- A peer-delay message of the Common Mean Link Delay Service: majorSdoId 2 (log entry 12). -/
def cmlds (f : List Byte) : Bool :=
  match ptpMsg f with
  | some (o, _) => byteAt f o / 16 == 2 && (ptpType f o == 2 || ptpType f o == 3 || ptpType f o == 10)
  | none => false

/-- The domain of a frame's ingress timestamp (R48): of a PTP event message the domain it maps to. -/
def State.rxDom (s : State) (p : Nat) (f : List Byte) : Nat :=
  match if ptpEvent f then s.ptpMap p f else none with
  | some d => d
  | none => s.fld .TPL_PORT_TS_CFG_TS_DOM p

/-- The egress action of a forwarded frame (R52): RESIDENCE of a PTP event message under TC_MODE, in the domain it maps to, or in L time. -/
def State.rxAct (s : State) (p : Nat) (f : List Byte) (at' : Nat → Nat) : EgressAct :=
  let m := s.fld .TPL_PORT_TS_CFG_TC_MODE p
  if !ptpEvent f || (m != 1 && m != 2) then .none
  else
    let delay := if m = 2 then s.fld .TPL_PORT_TS_CFG_LINK_DLY p * 2 ^ 24 else 0
    match s.ptpMap p f with
    | some d => .residence d (at' d) (s.dom d).steps delay
    | none => .residence 8 (at' 8) 0 delay

/-! ## Control frames (R106, R107, R281 to R285) -/

/-- The pause timer of a non-scheduled class set by an obeyed control frame (R282); it binds a start later than 256 ns after the frame's last bit, or goes on binding (R283); quanta 0 ends
the pause. -/
def State.pauseClass (s : State) (p c quanta : Nat) : State :=
  if s.isSched p c then s
  else if quanta = 0 then
    (if (s.pt p).mac.pauseEnd.get 0 c = 0 then s else (s.updMac p fun m => { m with pauseEnd := m.pauseEnd.set 0 c 0 }).retagClasses p (2 ^ c))
  else s.updMac p fun m => { m with pauseEnd := m.pauseEnd.set 0 c (s.lNow + s.wireT p (64 * quanta)),
                                    pauseBind := if s.pauseRuns p c then m.pauseBind else m.pauseBind.set 0 c (s.lNow + 256 * nsT) }

/-- A PFC bit for a gate-scheduled class (R284). -/
def State.pfcIgnored (s : State) (p c : Nat) : State := if s.isSched p c then (s.portCount p 55).event .MAC_EVENT_PFC_IGNORED p else s

/-- A received MAC control frame (R281, R282, R284). -/
def State.macControl (s : State) (p : Nat) (d : List Byte) : State :=
  let o := typeOff d + 2
  let op := be16 d o
  let da := beNat (slice d 0 6)
  if multidrop p ∨ (da ≠ 0x0180C2000001 ∧ da ≠ s.fld .MAC_ADDR_ADDR p) then s.portCount p 8
  else if op = 1 ∧ s.pauseRxOk p then (List.range 8).foldl (fun a c => a.pauseClass p c (be16 d (o + 2))) (s.portCount p 7)
  else if op = 1 ∧ s.fld .MAC_CFG_FC_RX p = 2 then s.portCount p 9
  else if op = 0x0101 ∧ s.fld .MAC_CFG_FC_RX p = 2 then
    (List.range 8).foldl (fun a c => if (be16 d (o + 2)).testBit c then (a.pauseClass p c (be16 d (o + 4 + 2 * c))).pfcIgnored p c else a) (s.portCount p 7)
  else s.portCount p 8

/-- A frame of the service cores' consumers (Table 04-2); `ttdp`: a TTDP frame on an ETB port, as IEC 61375-2-5 defines it. -/
def State.toService (s : State) (p : Nat) (d : List Byte) (ttdp : Bool) : Bool :=
  let ptp := match s.ptpMap p d with
    | some m => s.fld .TPL_DOM_MAP_INST m != 3
    | none => false
  let da := beNat (slice d 0 6)
  ptp || cmlds d || ttdp || ((parse d).etype == 0x88FB && da / 256 == 0x01154E0001) || s.strm.svcAddr.contains da

/-- The TLVs of an LLDP frame from an offset on: type and value. -/
def lldpTlvs (d : List Byte) : Nat → Nat → List (Nat × List Byte)
  | 0, _ => []
  | n + 1, o =>
    let h := be16 d o
    if d.length < o + 2 ∨ h = 0 then [] else (h / 512, slice d (o + 2) (h % 512)) :: lldpTlvs d n (o + 2 + h % 512)

/-- addFragSize of an Additional Ethernet Capabilities TLV (IEEE 802.3, log entry 105). -/
def lldpFrag (d : List Byte) : Option Nat :=
  (lldpTlvs d 64 (typeOff d + 2)).findSome? fun e => if e.1 = 127 ∧ beNat (e.2.take 4) = 0x00120F07 then some (be16 e.2 4 / 8 % 4) else none

/-- What the service cores take from a frame delivered to them: a TTDP neighbour (R98), the partner's addFragSize (R263). -/
def State.heed (s : State) (p : Nat) (d : List Byte) (ttdp : Bool) : State :=
  let s := if ttdp then s.ttdpHeard p (beNat (slice d 6 6)) else s
  if (parse d).etype = 0x88CC then
    (match lldpFrag d with
     | some n => s.updPt p fun x => { x with partnerFrag := n }
     | none => s)
  else s

/-- A control frame delivered to the service cores, within CTRL_LIMIT of its window (R107). -/
def State.consume (s : State) (p : Nat) (fr : FrameRec) (ttdp : Bool) : State :=
  let x := s.pt p
  let n := if x.ctrlWin = s.ctrlWindow then x.ctrlCount else 0
  if s.fld .STRM_PORT_ID_CFG_CTRL_LIMIT p ≤ n then s.dropPort p fr 2 10
  else ((s.updPt p fun x => { x with ctrlCount := n + 1, ctrlWin := s.ctrlWindow }).heed p fr.data ttdp).fate fr 2 0 0 0 0xFFFF 0xFFFF

/-- A Polled Cycle control frame, 64 bytes long with its FCS, on a port in Polled Cycle mode (R300). -/
def State.isPc (s : State) (p : Nat) (d : List Byte) : Bool := s.polled p && d.length == 60 && beNat (slice d 0 6) == 0x03514B00000E && be16 d 12 == 0x88B5

/-! ## Destinations and admission (R114 to R117) -/

/-- A destination of one copy. -/
inductive Dest where
  | queue (q : Nat)
  | ring (off : Nat)
deriving DecidableEq, Repr

/-- The members of a destination set record (R116). -/
def setMembers (r tc : Nat) : List (Nat × Dest) :=
  (List.range 8).filterMap fun m =>
    let w := bits r (16 * m + 15) (16 * m)
    if bit w 15 then some (m, if bit w 14 then .ring (bits w 12 0) else .queue (bits w 10 4 * 128 + tc * 16 + bits w 3 0)) else none

/-- The copies of a frame, each with its member index (R114 to R116). -/
def State.destsOf (s : State) (code tc : Nat) : List (Nat × Dest) :=
  match bits code 15 14 with
  | 0 => [(0, .queue (bits code 10 4 * 128 + tc * 16 + bits code 3 0))]
  | 1 => setMembers (s.strm.dset.get 0 (bits code 11 0)) tc
  | 2 => [(0, .ring (bits code 12 0))]
  | _ => []

/-- One copy of a frame; a host copy passes the tag editor as others do (R345): no word counts one without its SEQ_OUT tag or one too long (R163, R166, log entry 79). -/
def State.copyTo (s : State) (fr : FrameRec) (tc tD : Nat) (e : Nat × Dest) : State :=
  let fr := { fr with copy := e.1 }
  match e.2 with
  | .queue q => (s.admitCopy q fr).2
  | .ring off =>
    let (d, s) := s.editHost fr
    let s := if seqMissing fr then s.countNoWord 16 fr.src else s
    if 9216 < d.length + 4 then
      (let (g, s) := s.draw
       (s.countNoWord 17 fr.src).fate fr 3 11 (g % 256) (g / 256 % 4) (2 ^ 15 + off) 0xFFFF)
    else s.rxStore (8192 + off) ⟨d, tc, fr.tsDom, tD, fr⟩

/-- A frame goes to its destinations; with none it is discarded (R114, R116). -/
def State.deliverTo (s : State) (fr : FrameRec) (code tc tD : Nat) : State :=
  match s.destsOf code tc with
  | [] => s.dropFree fr 7
  | l => l.foldl (fun a e => a.copyTo fr tc tD e) s

/-! ## Meter (R139, R140) -/

/-- DEI of the outer tag. -/
def deiOf (d : List Byte) : Bool := vlanTags d != 0 && bit (be16 d 14) 12

/-- The meter applied: the colour (3 not metered), DEI_MARK of a yellow frame, and the port counter of a discard. -/
def State.meterFrame (s : State) (en : Bool) (m : Nat) (a : Arrival) : Nat × Bool × Option Nat × State :=
  if !en then (3, false, none, s)
  else
    let r := s.meterRec m
    let (c, s) := s.meterRun m (a.data.length + 4) (a.tL / nsT) (deiOf a.data)
    let s := s.portCount a.p (14 + c)
    if c = 2 then (c, false, some 16, s)
    else if c = 1 ∧ bit r 161 then (c, false, some 17, s.portCount a.p 17)
    else (c, c == 1 && bit r 158, none, s)

/-- The drop precedence of a coloured frame (R117). -/
def dpOf (dp colour : Nat) : Nat := if colour = 1 then min (dp + 1) 3 else dp

/-! ## The traffic class that a port gives an untagged or tagged frame (R111) -/

def State.defaultTc (s : State) (p : Nat) (d : List Byte) : Nat :=
  let pcp := if vlanTags d = 0 then s.fld .STRM_PORT_ID_CFG_DEF_PCP p else be16 d 14 / 8192
  s.fld .STRM_PORT_ID_CFG_PCP_MAP p / 8 ^ pcp % 8

/-! ## The Mender stage (R147 to R178) -/

/-- The Mender stage at a port, before recovery: frames of an HSR ring's own node, and the counts of tags (R165, R167, R168). -/
def State.mendPort (s : State) (a : Arrival) (fr : FrameRec) (k : State → State) : State :=
  if s.hsrOwn a.p a.data then s.dropPort a.p fr 6 23 else k (s.tagCounts a.p a.data)

/-- An unmatched frame (R111): no gate, no recovery. -/
def State.unmatched (s : State) (a : Arrival) : State :=
  let s := s.portCount a.p 12
  let (c, mark, drop, s) := s.meterFrame (s.on .STRM_PORT_DEFAULT_METER_EN a.p) (s.fld .STRM_PORT_DEFAULT_METER a.p) a
  let fr := { a.base with colour := c, dp := dpOf (s.fld .STRM_PORT_DEFAULT_DP a.p) c, edit := { deiMark := mark }, seq := receivedNumber 0 a.data }
  match drop with
  | some w => s.dropIn fr 5 w 0
  | none => s.mendPort a fr fun s => s.deliverTo fr (s.fld .STRM_PORT_DEFAULT_DEST a.p) (s.defaultTc a.p a.data) a.tD

/-- The tag operations of a Stream Table entry (Table 04-4). -/
def entEdit (e : Nat) (mark : Bool) (num : Option Nat) : Edit :=
  { seqIn := bits e 406 405, seqOut := bits e 404 403, actDest := if bit e 407 then some (bits e 319 272) else none, popVlan := bit e 410, pushVlan := bit e 409,
    setPcp := bit e 408, newPcp := bits e 402 400, newVid := bits e 399 388, deiMark := mark, num := num }

/-- The device word under which a function counts its discard of a number (Table 16-5, Table 16-7). -/
def State.rcvWord (s : State) (i : Nat) (num : Option Nat) : Nat :=
  match num with
  | none => 21
  | some n =>
    match ((s.rcvTimeout i).rcv i).judge n with
    | (.duplicate, _) => 17
    | _ => 19

/-- Recovery of a frame whose entry has RCV_EN = 1: true where it goes on (R150, R152 to R157, R172). -/
def State.recover (s : State) (e : Nat) (fr : FrameRec) (err : MendErr) : Bool × State :=
  let i := bits e 465 448
  if !bit e 504 then (true, s)
  else if err = .function then (false, (s.rcvEcc i).dropFree fr 6)
  else if !(s.rcv i).en then (true, s.bump (devWord 24))
  else
    let w := s.rcvWord i fr.seq
    match s.rcvEval i fr.seq with
    | (true, s) => (true, match fr.seq with
      | some n => if bit e 506 then s.mirrorSend 2 i n else s
      | none => s)
    | (false, s) => (false, s.dropIn fr 6 w 2)

/-- The generator of a frame whose entry has GEN_EN = 1: the frame record with its number, or none where it is discarded (R157, R161, R172). -/
def State.generate (s : State) (e : Nat) (fr : FrameRec) (err : MendErr) : Option FrameRec × State :=
  let i := bits e 447 430
  if !bit e 503 then (some { fr with edit := { fr.edit with num := fr.seq } }, s)
  else if err = .generator then (none, (s.genEcc i).dropDev fr 6 29)
  else
    match s.genNumber i fr.seq none with
    | (.inr w, s) => (none, s.dropDev fr 6 w)
    | (.inl n, s) => (some { fr with edit := { fr.edit with num := some n } }, if bit e 506 then s.mirrorSend 3 i n else s)

/-- The new Lead waits for the end-of-role marker, for at most 4 µs from the swap (R174, R496). -/
def State.awaitsMarker (s : State) : Bool := s.dev == .lead && !s.pair.endOfRole && decide (s.lNow < s.pair.lastSwapL + 4000 * nsT)

/-- The Mender evaluates an identified frame: its function, its generator, its destinations; a Lead-only frame goes on only where the device publishes such streams (R170, R171, R175).
With STRM or MEND stopped it is discarded (R146, R178). -/
def State.mendEval (s : State) (x : LeadWait) : State :=
  let fr := x.fr
  let e := x.e
  let numbered := bit e 504 || bit e 503
  if !s.on .STRM_CTRL_RUN || (numbered && !s.on .MEND_CTRL_RUN) then s.dropFree fr 6
  else if numbered && bit e 506 && s.laneFull then s.mirrorDrop.dropIn fr 6 30 2
  else
    let s := if numbered && x.err = .corrected then s.mendCorr else s
    match s.recover e fr x.err with
    | (false, s) => s
    | (true, s) =>
      if bit e 506 && !s.leadPublishes then s.dropDev fr 6 31
      else
        match s.generate e fr x.err with
        | (none, s) => s
        | (some fr, s) => s.deliverTo fr (bits e 429 414) x.tc x.a.tD

/-- The frames that waited for the marker are evaluated in order (R496). -/
def State.leadRelease (s : State) : State :=
  s.mend.waiting.foldl State.mendEval { s with mend := { s.mend with waiting := [] }, pair := { s.pair with endOfRole := true } }

/-- The Mender stage for an identified frame (R147, R171, R174, R175, R496): a Lead-only frame waits for the marker; once that wait is over, those that waited go first. -/
def State.mendStream (s : State) (a : Arrival) (e tc : Nat) (fr : FrameRec) (err : MendErr) : State :=
  let x : LeadWait := ⟨a, e, tc, fr, err⟩
  if s.awaitsMarker then
    (if bit e 506 && !((bit e 504 || bit e 503) && !s.on .MEND_CTRL_RUN) then { s with mend := { s.mend with waiting := s.mend.waiting ++ [x] } } else s.mendEval x)
  else (if s.mend.waiting.isEmpty then s else s.leadRelease).mendEval x

/-- An identified frame, from its gate on (R113, R132, R139, R115). -/
def State.matched (s : State) (a : Arrival) (idx e : Nat) (err : MendErr) : State :=
  let fr := { a.base with stream := some idx, seq := receivedNumber (bits e 406 405) a.data }
  let (g, s) := if bit e 501 then s.gateCheck (bits e 481 466) (a.data.length + 4) a.tL else (.pass none, s)
  match g with
  | .drop w => s.dropPort a.p fr 4 w
  | .pass ipv =>
    let (c, mark, drop, s) := s.meterFrame (bit e 502) (bits e 499 482) a
    let fr := { fr with colour := c, dp := dpOf (bits e 379 378) c, edit := entEdit e mark none }
    match drop with
    | some w => s.dropIn fr 5 w 0
    | none => s.mendPort a fr fun s => s.mendStream a e (ipv.getD (bits e 413 411)) fr err

/-! ## Identification and the miss path (R108 to R111, R127 to R131) -/

/-- What the lookups of a frame's keys decide. -/
inductive Ident where
  | hit (idx ent : Nat)
  | lost
  | negative
  | miss
deriving DecidableEq, Repr

/-- The keys of a frame looked up at once in a slice: a hit on the first decides, else one on the second (R110); a set that has lost an entry discards a frame without a hit in it
(R122). -/
def State.lookupKeys (s : State) (b : Nat) (keys : List (Nat × Nat)) : Ident × State :=
  keys.foldl (fun acc k =>
    match acc with
    | (.hit i e, s) => (.hit i e, s)
    | (.lost, s) => (.lost, s)
    | (r, s) =>
      match s.lookup1 b k with
      | (.found i e, s) => (.hit i e, s)
      | (.lost, s) => (.lost, s)
      | (.negative, s) => (.negative, s)
      | (.miss, s) => (r, s)) (.miss, s)

/-- A frame is admitted to Miss Wait or discarded (R130); `got`: what its lookup in the slice has found already (R128). -/
def State.missAdmit (s : State) (a : Arrival) (keys : List (Nat × Nat)) (got : List ((Nat × Nat) × Option (Nat × Nat)) := []) : State :=
  let c := cellsOf (a.data.length + 4)
  let prot := (s.fld .STRM_MISS_CFG_PROT_TC).testBit (s.defaultTc a.p a.data)
  let rsv := if prot then 0 else s.fld .STRM_MISS_CFG_RSV_CELLS
  if s.missCells + c + rsv ≤ 16384 then
    let m : Missed := { a := a, keys := keys.map fun k => (k.1, keyPart k.1 k.2), got := got }
    let s := { s with strm := { s.strm with wait := s.strm.wait ++ [m] } }
    s.setFld .STRM_MISS_STATUS_HIGH_WATER 0 0 (max (s.fld .STRM_MISS_STATUS_HIGH_WATER) s.missCells)
  else (s.dropPort a.p a.base 3 13).event .STRM_EVENT_MISS_DROP

/-- An entry is in state FILLING for a Bolt: frames of that Bolt wait on its key (R128). -/
def State.filling (s : State) (b e : Nat) : Bool := s.strm.wait.any fun m => boltOf m.a.p == b && m.keys.contains (entId e)

/-- Identification of a frame and all that follows (R101 steps 3 to 7). -/
def State.identify (s : State) (a : Arrival) (cache : CacheErr) (err : MendErr) : State :=
  if !s.on .STRM_CTRL_RUN then s.dropFree a.base 3
  else
    let keys := (s.keysOf a.p a.data).1
    let b := boltOf a.p
    if keys.isEmpty then s.unmatched a
    else
      match (s.cacheError b keys cache).lookupKeys b keys with
      | (.hit i e, s) => if s.filling b e then (s.bump (boltWord b 8)).missAdmit a [entId e] [(entId e, some (i, e))] else (s.bump (boltWord b 8)).matched a i e err
      | (.lost, s) => s.dropFree a.base 3
      | (.negative, s) => (s.bump (boltWord b 10)).unmatched a
      | (.miss, s) => if s.dramless then (s.bump (boltWord b 9)).unmatched a else (s.bump (boltWord b 9)).missAdmit a keys

/-- A negative entry for a key in a slice (R129). -/
def State.putNegative (s : State) (b : Nat) (k : Nat × Nat) : State :=
  let life := s.fld .STRM_CTRL_NEG_LIFE
  let id := (k.1, keyPart k.1 k.2)
  if life = 0 then s else s.loadWay b (s.setOf id) ⟨.negative, 0, id.1 * 2 ^ 508 + id.2, s.lNow + life * 1000 * nsT⟩

/-- What the lookup of a key finds in DRAM (R124, R112). -/
def State.missFind (s : State) (k : Nat × Nat) : Option (Nat × Nat) :=
  match s.findKey k with
  | some (i, e) => if entValid e then some (i, e) else none
  | none => none

/-- A waiting frame released with its result: the entry found is in the slice, and of the keys that found none the slice holds negative entries (R128, R129). -/
def State.missRelease (s : State) (m : Missed) (err : MendErr) : State :=
  let b := boltOf m.a.p
  if !s.on .STRM_CTRL_RUN then s.dropFree m.a.base 3
  else
    match m.result with
    | some (some (i, e)) =>
      let k := s.setOf (entId e)
      let here := (s.ways b k).any fun w => w.kind == .entry && w.idx == i
      (if here then s else s.loadWay b k { kind := .entry, idx := i, ent := e }).matched m.a i e err
    | _ =>
      (m.keys.foldl (fun a k => if (a.ways b (a.setOf k)).any (fun w => a.negLive w && decide (entId w.ent = k)) then a else a.putNegative b k) s).unmatched m.a

/-- The waiting frames that may leave, in order: those whose result is known and behind which no frame with one of their keys stays (R128). -/
def missReady : List Missed → List (Nat × Nat) → List Missed × List Missed
  | [], _ => ([], [])
  | m :: t, held =>
    if m.result.isSome && !m.keys.any held.contains then
      let (out, stay) := missReady t held
      (m :: out, stay)
    else
      let (out, stay) := missReady t (held ++ m.keys)
      (out, m :: stay)

/-- The keys of the lookup that ends: those of the frame that entered first and has no result. -/
def State.missHead (s : State) : List (Nat × Nat) :=
  match s.strm.wait.find? fun m => m.result.isNone with
  | some m => m.keys.filter fun k => !m.got.any fun g => g.1 = k
  | none => []

/-- The results of a lookup recorded for every frame that waits on one of its keys. -/
def Missed.note (m : Missed) (rs : List ((Nat × Nat) × Option (Nat × Nat))) : Missed :=
  { m with got := m.got ++ rs.filter fun r => m.keys.contains r.1 && !m.got.any fun g => g.1 = r.1 }

/-- The frames of Miss Wait that are resolved leave it in order (R128). -/
def State.missLeave (s : State) (err : MendErr) : State :=
  let (out, stay) := missReady s.strm.wait []
  out.foldl (fun a x => a.missRelease x err) { s with strm := { s.strm with wait := stay } }

/-- The lookup served first ends (R127 to R131); `fail`: the read for one of its keys met an uncorrectable error: every frame that waits on that key is discarded. -/
def State.missDone (s : State) (fail : Option Nat) (err : MendErr) : State :=
  match s.missHead with
  | [] => s
  | ks =>
    let s := s.bump (devWord 0)
    let bad := (match fail with
      | some i => ks[i]?
      | none => none).or (ks.find? fun k => s.thim.dramFailed || s.keyBeyond k)
    match bad with
    | some k =>
      let mine := s.strm.wait.filter fun x => x.keys.contains k
      let s := { s with strm := { s.strm with wait := s.strm.wait.filter fun x => !x.keys.contains k } }
      let s := ((s.bump (devWord 2)).event .STRM_EVENT_DRAM_ERR).fault 2 11 noUnit
      (mine.foldl (fun a x => a.dropDev x.a.base 3 3) s).missLeave err
    | none =>
      let rs := ks.map fun k => (k, s.missFind k)
      let s := if rs.all fun r => r.2.isNone then s.bump (devWord 1) else s
      { s with strm := { s.strm with wait := s.strm.wait.map fun (m : Missed) => m.note rs } }.missLeave err

/-! ## Reception -/

/-- A frame that passed the receive checks: a parse-limited one is counted (R103); control classification, then identification. -/
def State.ingress (s : State) (a : Arrival) (ttdp : Bool) (cache : CacheErr) (err : MendErr) : State :=
  let s := if (s.keysOf a.p a.data).2 then s.portCount a.p 11 else s
  if (parse a.data).etype = 0x8808 then (s.macControl a.p a.data).fate a.base 2 0 0 0 0xFFFF 0xFFFF
  else if s.toService a.p a.data ttdp then s.consume a.p a.base ttdp
  else s.identify a cache err

/-- The arrival of a frame with its ingress time in each timescale: timestamps, egress action, chalk draw (R48, R52, R523). -/
def State.arrive (s : State) (p : Nat) (d : List Byte) (at' : Nat → Nat) : Arrival × State :=
  let (chalk, s) := s.chalkPort p
  let s := if chalk then s.portCount p 63 else s
  let dom := s.rxDom p d
  ({ p := p, data := d, tL := at' 8, act := s.rxAct p d at', tsDom := dom, tD := at' dom, chalk := chalk }, s)

/-- A frame received whole (R101, R280, R300, R308). -/
def State.receive (s : State) (p : Nat) (d : List Byte) (at' : Nat → Nat) (fcsOk codeOk ttdp : Bool) (cache : CacheErr) (err : MendErr) : State :=
  match s.rxReason p (d.length + 4) fcsOk codeOk with
  | some w => s.portCount p w
  | none =>
    let s := (s.portCount p 0).portCount p 1 (d.length + 4)
    let (a, s) := s.arrive p d at'
    if s.isPc p d then (if s.pcValid p (d.drop 14) then s.fate a.base 2 0 0 0 0xFFFF 0xFFFF else (s.pcDiscard p).dropIn a.base 2 28 0)
    else if s.pcMode p && s.pcState p == 5 then
      (match s.pcAccept p d.length with
       | (true, s) => s.ingress a ttdp cache err
       | (false, s) => s.dropFree a.base 1)
    else s.ingress a ttdp cache err

/-- The medium of a multidrop port falls idle at the frame's end: 96 bit times (R292). -/
def State.mediumIdle (s : State) (p : Nat) : State := if multidrop p then s.updMac p fun m => { m with carrier := false, mayStart := s.lNow + 9600 * nsT } else s

/-! ## The Seam (R267, R268) -/

/-- The Seam takes a frame's first fragment. -/
def State.seamStart (s : State) (p : Nat) (bytes : List Byte) : State :=
  let x : SeamSt := ⟨bytes, 3, s.lNow, s.rxTime p 8 bytes.length, (List.range 8).map fun d => s.rxTime p d bytes.length⟩
  (s.updPt p fun y => { y with seam := some x }).setFld .SELV_PREEMPT_STATUS_SEAM_BUSY p 0 1

/-- The checks on a fragment taken into the frame under assembly (Table 08-5), and a final fragment's frame passed to ingress; `n` is the fragment's own length. -/
def State.seamCheck (s : State) (p n : Nat) (final crcOk ttdp : Bool) (cache : CacheErr) (err : MendErr) : State :=
  match (s.pt p).seam with
  | none => s
  | some x =>
    if 9216 < x.bytes.length + 4 then s.seamDrop p 29
    else if !final then
      (if !crcOk then s.seamDrop p 27 else if n + 4 < 64 then s.seamDrop p 30 else s)
    else if !crcOk then s.seamDrop p 2
    else
      let s := (s.updPt p fun y => { y with seam := none }).setFld .SELV_PREEMPT_STATUS_SEAM_BUSY p 0 0
      s.receive p x.bytes (fun d => if d = 8 then x.tsL else x.tsD.getD d 0) true true ttdp cache err

/-- A pre-emptable fragment received (R267, R268). -/
def State.seamFragment (s : State) (p : Nat) (start : Bool) (count : Nat) (bytes : List Byte) (final crcOk ttdp : Bool) (cache : CacheErr) (err : MendErr) : State :=
  if multidrop p || s.linkState p != 6 then s
  else
    let s := s.portCount p 24
    if !s.on .SELV_PREEMPT_CFG_EN p then (s.portCount p 25).event .SELV_EVENT_SEAM_ERR p
    else if start then
      let s := if (s.pt p).seam.isSome then s.seamDrop p 28 else s
      (s.seamStart p bytes).seamCheck p bytes.length final crcOk ttdp cache err
    else
      match (s.pt p).seam with
      | none => (s.portCount p 25).event .SELV_EVENT_SEAM_ERR p
      | some x =>
        if count ≠ (x.count + 1) % 4 then s.seamDrop p 26
        else
          (s.updPt p fun y => { y with seam := some { x with bytes := x.bytes ++ bytes, count := count, lastL := s.lNow } }).seamCheck p bytes.length final crcOk ttdp cache err

/-- No continuation within 1 ms (R268). -/
def State.seamExpire (s : State) (p : Nat) : State :=
  match (s.pt p).seam with
  | some x => if x.lastL + 1000000 * nsT ≤ s.lNow then s.seamDrop p 32 else s
  | none => s

/-! ## The commands -/

/-- FRAME_RECEIVED (R101): it happens at the frame's last bit; `d` runs from the destination address to the last byte before the FCS. -/
def execFrameReceived (p : Port) (d : List Byte) (fcsOk codeOk ttdp : Bool) (cache : CacheErr) (mend : MendErr) (rx : RxMeet) (s : State) :
    Host.Outcome State Fault Refusal :=
  done (if s.alive then (((s.laneSent rx.lanes).fecCount p rx).receive p d (fun x => s.rxTime p x d.length) fcsOk codeOk ttdp cache mend).mediumIdle p else s)
/-- MISS_LOOKUP_COMPLETE (R127 to R131). -/
def execMissLookupComplete (err : Option (Fin 2)) (mend : MendErr) (lanes : LaneSent) (s : State) : Host.Outcome State Fault Refusal :=
  done (if s.alive then (s.laneSent lanes).missDone (err.map Fin.val) mend else s)
/-- SEAM_FRAGMENT (R267, R268). -/
def execSeamFragment (p : Port) (start : Bool) (count : Fin 4) (bytes : List Byte) (final crcOk ttdp : Bool) (cache : CacheErr) (mend : MendErr) (lanes : LaneSent)
    (s : State) : Host.Outcome State Fault Refusal :=
  done (if s.alive then (s.laneSent lanes).seamFragment p start count bytes final crcOk ttdp cache mend else s)
/-- SEAM_TIMEOUT (R268). -/
def execSeamTimeout (p : Port) (s : State) : Host.Outcome State Fault Refusal := done (s.powered fun s => s.seamExpire p)

/-- END_OF_ROLE_APPLY (R174, R496). -/
def execEndOfRoleApply (s : State) : Host.Outcome State Fault Refusal := done (s.powered State.leadRelease)

end Sys2Proof.Machine
end

