-- ==== Sys2Proof/Machine/Publisher.lean ====
section
/-!
DEFINITION. The Cyclic Publisher (12.8): event times, building a frame, outcomes, and table operations on its entries.
-/
namespace Sys2Proof.Machine

/-! ## Entries (Table 12-5) -/

def State.pubE (s : State) (e : Nat) : PubSt := s.dma.pub.get {} e
def State.setPubE (s : State) (e : Nat) (x : PubSt) : State := { s with dma := { s.dma with pub := s.dma.pub.set {} e x } }

def pubEn (w : Nat) : Bool := bit w 511
def pubDom (w : Nat) : Nat := bits w 510 508
def pubAlign (w : Nat) : Bool := bit w 507
def pubPair (w : Nat) : Nat := bits w 506 505
def pubPort (w : Nat) : Nat := bits w 481 475
def pubTc (w : Nat) : Nat := bits w 474 472
def pubQueue (w : Nat) : Nat := pubPort w * 128 + pubTc w * 16 + bits w 471 468
def pubPeriod (w : Nat) : Nat := timeOf 0 (bits w 447 416) (bits w 415 400)
def pubLen (w : Nat) : Nat := bits w 303 290

/-- START; its seconds are ignored with ALIGN_SEC = 1. -/
def pubStart (w : Nat) : Nat := timeOf (if pubAlign w then 0 else bits w 399 352) (bits w 351 320) 0

/-- GATHER_LEAD in ticks (R395). -/
def pubLead (w : Nat) : Nat := bits w 319 304 * 125 * nsT

/-- The class of an entry is gate-scheduled on its port (R401). -/
def State.pubSched (s : State) (w : Nat) : Bool := s.isSched (pubPort w) (pubTc w)

/-! ## Event times (R395) -/

/-- The first event whose G lies at or after a domain time. -/
def pubFirst (w t : Nat) : Option Nat := seqFirst (pubAlign w) (pubStart w) (pubPeriod w) (t + pubLead w)

/-- The last event of a sequence at or before a time that has one. -/
def seqLast (align : Bool) (st p t : Nat) : Nat :=
  if p = 0 then st
  else if align then
    let off := t % secT
    let st := st % secT
    if st ≤ off then t / secT * secT + st + min (seqN st p - 1) ((off - st) / p) * p else t / secT * secT - secT + st + (seqN st p - 1) * p
  else st + (t - st) / p * p

/-- An entry begins, when EN is written 1, at the first event whose G is at least 64 ns in the future. -/
def State.pubBegin (s : State) (e : Nat) : State :=
  let x := s.pubE e
  s.setPubE e { x with next := if pubEn x.word then pubFirst x.word (s.voted (pubDom x.word) + 64 * nsT) else none }

/-- The publisher is started: every entry in use begins. -/
def State.pubBeginAll (s : State) : State := s.dma.pub.foldl (fun a e => a.pubBegin e.1) s

/-- The states in which events are processed (R400). -/
def State.publishes (s : State) : Bool := s.dev.inService || s.dev == .test

/-! ## Outcomes (Table 12-6, R399) -/

/-- A loss: the event gave no frame that should have been built. -/
def pubLoss (outcome : Nat) : Bool := outcome == 3 || decide (5 ≤ outcome)

/-- `n` events of an entry end with an outcome, the last of them at T. -/
def State.pubEnd (s : State) (e outcome t : Nat) (n : Nat := 1) : State :=
  let x := s.pubE e
  let s := s.setPubE e { x with word := x.word / 2 ^ 192 * 2 ^ 192 + outcome * 2 ^ 188 + t / nsT % 2 ^ 48 * 2 ^ 140 }
  let s := if 2 ≤ outcome then s.bump (pubWord e outcome) n else s
  if pubLoss outcome then s.event .DMA_EVENT_PUB_LOSS else s

/-- A forward step of a domain skips every event whose G lies at or before its new time (R395). -/
def State.pubSkipOne (s : State) (e new : Nat) : State :=
  let x := s.pubE e
  let w := x.word
  match x.next with
  | none => s
  | some t =>
    let upto := new + pubLead w
    if upto < t then s
    else
      let n := seqEvents (pubAlign w) (pubStart w) (pubPeriod w) upto - seqEvents (pubAlign w) (pubStart w) (pubPeriod w) (t - 1)
      let s := if s.publishes && s.on .DMA_CTRL_PUB_RUN then s.pubEnd e 9 (seqLast (pubAlign w) (pubStart w) (pubPeriod w) upto) n else s
      s.setPubE e { s.pubE e with next := pubFirst w (new + 1) }

/-- The publisher at a forward step of domain `d` to time `new`. -/
def State.pubSkip (s : State) (d new : Nat) : State :=
  s.dma.pub.foldl (fun a e => if pubDom e.2.word = d then a.pubSkipOne e.1 new else a) s

/-! ## Memory (R396, R398) -/

/-- The publisher can read the bytes: the memory is there and has not failed (R396, R469). -/
def State.pubCan (s : State) (space a n : Nat) : Bool := s.spaceHas space a n && !(space == 1 && (s.thim.dramFailed || s.dramless)) && (space != 2 || s.localGood a n)

/-- The consistency word of an entry, where it can be read. -/
def State.pubCons (s : State) (w : Nat) : Option Nat :=
  let space := bits w 231 230
  let a := bits w 229 198 * 4
  if s.pubCan space a 4 then some (s.spaceLe space a 4) else none

/-- A gather's descriptor is malformed (R392, R396): NEXT_ADDR and CHAIN are ignored. -/
def State.gatherBad (s : State) (w : Nat) : Bool := s.descBad w || dDstSpace w != 3

/-- The bytes of an element of a gather, and the host bytes not yet used. -/
def State.gatherRead (s : State) (w k : Nat) (host : List Byte) : List Byte × List Byte :=
  let n := dElem w
  if dSrcSpace w = 0 then (padTo n (host.take n), host.drop n)
  else ((List.range n).map fun j => s.spaceByte (dSrcSpace w) (dSrc w k + j), host)

/-- The elements of a gather from the `k`-th on, into a frame of `len` bytes; nothing where a read fails or an element would write at or beyond LEN. -/
def State.gatherElems (s : State) (w len : Nat) : (n k : Nat) → (frame host : List Byte) → Option (List Byte × List Byte)
  | 0, _, frame, host => some (frame, host)
  | n + 1, k, frame, host =>
    let ok := decide (dDst w k + dElem w ≤ len) && s.pubCan (dSrcSpace w) (dSrc w k) (dElem w) && (dSrcSpace w != 0 || s.hif.link)
    if ok then
      let (bs, rest) := s.gatherRead w k host
      State.gatherElems s w len n (k + 1) (putBytes frame (dDst w k) bs) rest
    else none

/-- The read requests of a gather's elements in host memory, up to one that does not fit; the function whose requester ID they carry is not stated (log entry 5). -/
def State.gatherAsk (s : State) (w len : Nat) : State :=
  if dSrcSpace w ≠ 0 ∨ !s.hif.link then s
  else
    let (f, s) := s.draw
    ((List.range (dCount w)).takeWhile fun k => decide (dDst w k + dElem w ≤ len)).foldl
      (fun a k => a.hostGet (f % 8) (dSrc w k) (hostAttr false (bit w 441)) (dElem w)) s

/-- The result of a gather: the frame, a read error, or a malformed descriptor in service. -/
inductive Gathered where
  | frame (bytes : List Byte)
  | busError
  | malformed
deriving DecidableEq, Repr

/-- The gather descriptors at an address in order; a malformed one outside service moves nothing and sets MALFORMED (R392). -/
def State.gatherAll (s : State) (len : Nat) : (n a : Nat) → (frame host : List Byte) → Gathered × State
  | 0, _, frame, _ => (.frame frame, s)
  | n + 1, a, frame, host =>
    if !s.pubCan 2 a 64 then (.busError, s)
    else
      let w := s.localMem.readLe a 64
      if s.gatherBad w then
        (if s.dev.inService then (.malformed, s) else State.gatherAll (s.event .DMA_EVENT_MALFORMED) len n (a + 64) frame host)
      else
        let s := s.gatherAsk w len
        match s.gatherElems w len (dCount w) 0 frame host with
        | some (frame, host) => State.gatherAll s len n (a + 64) frame host
        | none => (.busError, s)

/-- The template and the zero fill (R396): LEN bytes. -/
def State.pubTemplate (s : State) (w : Nat) : Option (List Byte) :=
  let a := bits w 267 250 * 8
  let n := bits w 289 282
  if s.pubCan 2 a n then some ((padTo (pubLen w) (s.localMem.readBytes a n)).take (pubLen w)) else none

/-- The frame of a publication: template, gathers (R396). -/
def State.pubBuild (s : State) (w : Nat) (host : List Byte) : Gathered × State :=
  match s.pubTemplate w with
  | none => (.busError, s)
  | some t => s.gatherAll (pubLen w) (bits w 234 232 + 1) (bits w 249 235 * 64) t host

/-- The freshness stamp (R397). -/
def pubStamp (g : Nat) (oos torn : Bool) : List Byte :=
  beBytes 6 (secOf g) ++ beBytes 4 (nsOf g) ++ beBytes 2 (b2n oos * 2 ^ 15 + b2n torn * 2 ^ 14)

/-! ## The frame (R396, R290) -/

/-- The frame record of a publication. -/
def State.pubFrame (s : State) (e w : Nat) (data : List Byte) (num : Option Nat) (chalk : Bool) : FrameRec :=
  { data := data, edit := { seqOut := bits w 464 463, popVlan := bit w 467, pushVlan := bit w 466, setPcp := bit w 465, newPcp := bits w 462 460, newVid := bits w 459 448,
                            num := num },
    tsDom := pubDom w, src := .pub e, tIn := s.lNs, seq := receivedNumber 0 data, chalk := chalk }

/-- Admission: a frame refused is discarded with outcome REFUSED (R186, R190). -/
def State.pubAdmit (s : State) (w : Nat) (fr : FrameRec) : Bool × State :=
  let q := pubQueue w
  match s.admitTest q fr.cells 0 false with
  | (.admitted, acct) => (true, s.enqueue q fr acct)
  | (a, _) => (false, s.refuse q fr a)

/-- The frame handed to the Mender stage: true unless admission refuses it (R147, R161, R171, R175, R399). -/
def State.pubHand (s : State) (e t w : Nat) (data : List Byte) (err : MendErr) : Bool × State :=
  let (chalk, s) := s.chalkHost
  let drop (s : State) (word : Nat) : Bool × State := (true, s.fate (s.pubFrame e w data none chalk) 3 6 word 2 0xFFFF 0xFFFF)
  if !bit w 500 then s.pubAdmit w (s.pubFrame e w data (receivedNumber 0 data) chalk)
  else
    match s.stageNumber (bits w 499 482) (.pub e) (receivedNumber 0 data) (some t) err with
    | (.inl n, s) => s.pubAdmit w (s.pubFrame e w data (some n) chalk)
    | (.inr k, s) => drop s (k.getD 0)

/-- The events under way that a mover has taken, and the one that is served next: in order of G, then of entry index (R402). -/
def State.pubTaken (s : State) : Nat := s.dma.pub.countP fun e => e.2.run.any (·.taken)

def State.pubFirstWaiting (s : State) : Option (Nat × PubRun) :=
  s.dma.pub.foldl (fun best e =>
    match e.2.run, best with
    | some r, none => if r.taken then none else some (e.1, r)
    | some r, some b => if !r.taken && (decide (r.atL < b.2.atL) || (r.atL == b.2.atL && decide (e.1 < b.1))) then some (e.1, r) else best
    | none, _ => best) none

/-- A mover takes the event of an entry and makes its first consistency read; where that read fails the event ends (R396, R398, R399). -/
def State.pubTake (s : State) (e : Nat) (r : PubRun) : State :=
  let x := s.pubE e
  if !bit r.entry 503 then s.setPubE e { x with run := some { r with taken := true } }
  else
    match s.pubCons r.entry with
    | some c => s.setPubE e { x with run := some { r with taken := true, cons := c } }
    | none => (s.setPubE e { x with run := none }).pubEnd e 6 r.t

/-- The publisher's two movers take the events that wait (R402); at most one event of each entry is under way (log entry 119). -/
def State.pubServe (s : State) : (n : Nat) → State
  | 0 => s
  | n + 1 =>
    if 2 ≤ s.pubTaken then s
    else
      match s.pubFirstWaiting with
      | some (e, r) => State.pubServe (s.pubTake e r) n
      | none => s

/-- An event ends: nothing is under way, and a mover it held goes to the next. -/
def State.pubStop (s : State) (e outcome t : Nat) : State := ((s.setPubE e { s.pubE e with run := none }).pubEnd e outcome t).pubServe 1024

/-- A complete gather: the stamp, the frame, its outcome (R397 to R399). -/
def State.pubPublish (s : State) (e : Nat) (r : PubRun) (data : List Byte) (torn : Bool) (err : MendErr) : State :=
  let w := r.entry
  if torn && bit w 501 then (s.event .DMA_EVENT_PUB_TORN).pubStop e 5 r.t
  else
    let data := if bit w 504 then (putBytes data (bits w 281 268) (pubStamp r.g r.oos torn)).take (pubLen w) else data
    match s.pubHand e r.t w data err with
    | (true, s) => s.pubStop e (if torn then 2 else 1) r.t
    | (false, s) => s.pubStop e 8 r.t

/-- A gather has ended and its consistency word is read again (R398). -/
def State.pubCheck (s : State) (e : Nat) (r : PubRun) (data : List Byte) (err : MendErr) : State :=
  if !bit r.entry 503 then s.pubPublish e r data false err
  else
    match s.pubCons r.entry with
    | none => s.pubStop e 6 r.t
    | some c =>
      if c = r.cons ∧ c % 2 = 0 then s.pubPublish e r data false err
      else if bit r.entry 502 && !r.again then s.setPubE e { s.pubE e with run := some { r with cons := c, again := true } }
      else s.pubPublish e r data true err

/-- A gather is late: the entry's next G has come, or T for a gate-scheduled entry (R403). -/
def State.pubLate (s : State) (e : Nat) (r : PubRun) : Bool :=
  let x := s.pubE e
  (match x.next with
   | some t => decide (t ≤ s.voted (pubDom x.word) + pubLead x.word)
   | none => false)
    || (s.pubSched r.entry && decide (r.t ≤ s.voted (pubDom r.entry)))

/-- An event under way that is late is abandoned (R403). -/
def State.pubAbandon (s : State) (e : Nat) : State :=
  match (s.pubE e).run with
  | some r => if s.pubLate e r then s.pubStop e 7 r.t else s
  | none => s

/-- A gather that a mover has taken ends (R396, R398, R402, R403); `fail`: a template, gather or consistency read failed. -/
def State.pubComplete (s : State) (e : Nat) (host : List Byte) (fail : Bool) (err : MendErr) : State :=
  match (s.pubE e).run with
  | none => s
  | some r =>
    if s.pubLate e r then s.pubStop e 7 r.t
    else if !r.taken then s
    else if fail then s.pubStop e 6 r.t
    else
      match s.pubBuild r.entry host with
      | (.frame data, s) => s.pubCheck e r data err
      | (.busError, s) => s.pubStop e 6 r.t
      | (.malformed, s) => s.fault 3 15 noUnit

/-- The event at T of an entry begins: it is under way, and a free mover takes it (R396, R400 to R402). -/
def State.pubEvent (s : State) (e t : Nat) : State :=
  let w := (s.pubE e).word
  let g := t - pubLead w
  let oos := !s.inSync (pubDom w)
  if pubPair w = 2 ∧ s.dev = .shadow then s.pubEnd e 4 t
  else if oos && s.pubSched w then s.pubEnd e 3 t
  else
    (s.setPubE e { s.pubE e with run := some { g := g, t := t, entry := w, oos := oos, atL := s.lNow - (s.voted (pubDom w) - g) } }).pubServe 1024

/-- The gather time of an entry's pending event has come (R395, R396, R400, R403). -/
def State.pubGather (s : State) (e : Nat) : State :=
  let x := s.pubE e
  match x.next with
  | none => s
  | some t =>
    if !s.alive || !s.on .DMA_CTRL_PUB_RUN || !pubEn x.word || decide (s.voted (pubDom x.word) + pubLead x.word < t) then s
    else
      let s := s.pubAbandon e
      let s := s.setPubE e { s.pubE e with next := pubFirst x.word (t - pubLead x.word + 1) }
      if s.publishes then s.pubEvent e t else s

/-! ## Table operations (R404) -/

/-- The 512 bits of DMA.PUB_DATA, laid out as R143 states. -/
def State.pubData (s : State) : Nat := ((List.range 8).map fun i => s.fld .DMA_PUB_DATA_DATA i * 2 ^ (64 * i)).sum
def State.setPubData (s : State) (v : Nat) : State := (List.range 8).foldl (fun a i => a.setFld .DMA_PUB_DATA_DATA i 0 (v / 2 ^ (64 * i))) s

/-- The operation in progress ends with a code. -/
def State.pubCode (s : State) (code : Nat) : State := { s with dma := { s.dma with pubCode := code } }

/-- GO (R404): ignored while BUSY; an undefined OP is refused. -/
def State.pubGo (s : State) (op idx : Nat) (k : State → State) : State :=
  if s.on .DMA_PUB_STATUS_BUSY then s.event .DMA_EVENT_PUB_COLLIDE
  else
    let s := s.setFlds 0 0 [(.DMA_PUB_CMD_OP, op), (.DMA_PUB_CMD_INDEX, idx), (.DMA_PUB_STATUS_BUSY, 1)]
    if 2 ≤ op then s.pubCode 7 else k (s.pubCode 0)

/-- A value that a field of an entry cannot hold (Table 12-5). -/
def pubBad (w : Nat) : Bool :=
  pubPair w == 3 || bits w 231 230 == 0 || bits w 231 230 == 3 || bits w 319 304 == 0 || decide (pubLen w < 60) || decide (9212 < pubLen w)
    || decide (192 < bits w 289 282)

/-- Class X fields of an entry: DOM, ALIGN_SEC, PERIOD and START. -/
def pubX (w : Nat) : Nat := bits w 510 507 * 2 ^ 128 + bits w 447 320

/-- The entry with the class X fields of another. -/
def pubKeepX (old new : Nat) : Nat :=
  new / 2 ^ 511 * 2 ^ 511 + bits old 510 507 * 2 ^ 507 + bits new 506 448 * 2 ^ 448 + bits old 447 320 * 2 ^ 320 + new % 2 ^ 320

/-- WRITE of an entry: its configuration fields from `v`, its state fields cleared; class X fields are refused while EN = 1 (R16, R404). -/
def State.pubPut (s : State) (e v : Nat) : State :=
  let x := s.pubE e
  let v := v / 2 ^ 198 * 2 ^ 198
  let stuck := pubEn x.word && pubX v != pubX x.word
  let s := if stuck then s.event .DMA_EVENT_CHANGE_REFUSED else s
  let s := s.setPubE e { x with word := if stuck then pubKeepX x.word v else v }
  if pubEn x.word && pubEn v then s else s.pubBegin e

def State.pubWrite (s : State) (e : Nat) : State := if pubBad s.pubData then s.pubCode 7 else s.pubPut e s.pubData

/-- The operation ends (R404). -/
def State.pubOpDone (s : State) : State :=
  if s.on .DMA_PUB_STATUS_BUSY then ((s.setFlds 0 0 [(.DMA_PUB_STATUS_BUSY, 0), (.DMA_PUB_STATUS_CODE, s.dma.pubCode)]).event .DMA_EVENT_PUB_DONE).staleCheck
  else s

end Sys2Proof.Machine
end

