-- ==== Sys2Proof/Machine/Reads.lean ====
section
/-!
DEFINITION. What a register, a table window or a counter word reads as (R10, R506, R509, R555 to R564): fields held in the register file, and fields that show state held elsewhere.
-/
namespace Sys2Proof.Machine

/-! ## Fields that show other state -/

/-- The guardian's windows open now: of the classes that its copy of SCHED_TC marks (R209, R257, Table 08-11). -/
def State.guardOpen (s : State) (p : Nat) : Nat :=
  match (s.sched p true).spanAt (s.nowG p) with
  | some (_, x) => eGates x.ent &&& s.fld .SELV_GUARD_STATUS_SCHED_TC p
  | none => 0

/-- The head age of a queue in ns (Table 06-8). -/
def State.headAge (s : State) (q : Nat) : Nat :=
  match (s.qu q).frames with
  | [] => 0
  | f :: _ => satTo 0xFFFFFFFF ((s.lNow - f.admL) / nsT)

/-- The state of a service-core pair (R423): 0 OFF, 1 RUN, 2 REST. -/
def State.coreState (s : State) (k : Nat) : Nat := if !s.pairOn k then 0 else if (s.core k).rest then 2 else 1

/-- Classes of a port that are paused (R282). -/
def State.pausedMask (s : State) (p : Nat) : Nat := ((List.range 8).map fun c => b2n (s.pauseRuns p c) * 2 ^ c).sum

/-- MEND.LAT_LOG as it reads (Table 05-9). -/
def State.latLogNow (s : State) : Nat := s.latLogRead.1

/-- The fault record at the head of the queue (Table 15-17). -/
def State.faultHead (s : State) : Nat :=
  match s.thim.queue with
  | [] => 0
  | r :: _ => r.word

/-- Places of the staging store in use (R450). -/
def State.bastePlaces (s : State) : Nat := (s.boot.groups.map fun e => e.2.writes.length).sum

/-- A group's staged writes. -/
def State.grp (s : State) (g : Nat) : GroupSt := s.boot.groups.get {} g

/-- What a field reads as: most are held in the register file; the others show state that the specification gives elsewhere. A WO field reads 0 (Table 00-3). -/
def State.fieldNow (s : State) (f : Fl) (i j : Nat) : Nat :=
  if f.info.acc = .wo then 0
  else
    match f with
    | .TPL_CAP_SEC_VALID => bits (s.capSec i) 63 63
    | .TPL_CAP_SEC_RISE => bits (s.capSec i) 62 62
    | .TPL_CAP_SEC_LEVEL => bits (s.capSec i) 59 56
    | .TPL_CAP_SEC_SEC => bits (s.capSec i) 47 0
    | .TPL_CAP_NS_NS => s.capNs i / 65536
    | .TPL_CAP_NS_FRAC => s.capNs i % 65536
    | .STRM_MISS_STATUS_PENDING => s.missKeys.length
    | .STRM_MISS_STATUS_OCCUPANCY => s.missCells
    | .STRM_SLICE_STATUS_PINNED => s.slicePinned i
    | .STRM_SLICE_STATUS_VALID => s.sliceValid i
    | .MEND_LAT_LOG_VALID => bits s.latLogNow 63 63
    | .MEND_LAT_LOG_OVF => bits s.latLogNow 62 62
    | .MEND_LAT_LOG_FUNC => bits s.latLogNow 49 32
    | .MEND_LAT_LOG_L_MS => bits s.latLogNow 31 0
    | .MEND_MIRROR_STATUS_LINK_OK => b2n (s.on .PAIR_STATUS_PL0_OK || s.on .PAIR_STATUS_PL1_OK)
    | .MEND_MIRROR_STATUS_STALE_COUNT => s.staleCount
    | .SHTL_BUF_STATUS_SHARED_SIZE => s.sharedSize i
    | .SHTL_BUF_STATUS_SHARED_USED => (s.bo i).sharedUsed
    | .SHTL_BUF_STATUS_RSV_USED => ((List.range 16).map fun l => (s.pt (16 * i + l)).rsvUsed).sum
    | .SHTL_BUF_STATUS_CTRL_USED => (s.bo i).ctrlUsed
    | .SHTL_PORT_BUF_RSV_USED => (s.pt i).rsvUsed
    | .SHTL_Q_STAT_DEPTH_CELLS => (s.qu (128 * i + j)).cells
    | .SHTL_Q_STAT_DEPTH_FRAMES => (s.qu (128 * i + j)).nframes
    | .SHTL_Q_STAT_HEAD_AGE => s.headAge (128 * i + j)
    | .SHTL_Q_MAX_HIGH_CELLS => (s.qu (128 * i + j)).maxCells
    | .SHTL_Q_MAX_MAX_SOJOURN => (s.qu (128 * i + j)).maxSojourn
    | .SHTL_Q_TOKENS_TOKENS => ofSigned 48 (s.qu (128 * i + j)).tok
    | .SHTL_Q_SEL_URGENT => b2n (s.qu (128 * i + j)).urgent.isSome
    | .SHTL_Q_SEL_PARKED => b2n (s.qu (128 * i + j)).park.isSome
    | .SHTL_GCL_ADMIN_ENTRY => (s.pt i).gcl.sh.get 0 (1024 * (1 - s.operBank i) + j)
    | .SHTL_GCL_OPER_ENTRY => (s.pt i).gcl.sh.get 0 (1024 * s.operBank i + j)
    | .SELV_GUARD_ENTRY_ENTRY => (s.pt i).gcl.gd.get 0 (1024 * s.operBank i + j)
    | .SELV_GUARD_STATUS_OPEN => s.guardOpen i
    | .SELV_STAGE_STATUS_BYTES => (s.storeUsed i).1
    | .SELV_STAGE_STATUS_FRAMES => (s.storeUsed i).2
    | .MAC_LINK_STATUS_PAUSE_RX_OK => b2n (s.pauseRxOk i)
    | .MAC_LINK_STATUS_PAUSE_TX_OK => b2n (s.pauseTxOk i)
    | .MAC_LINK_STATUS_PAUSED => s.pausedMask i
    | .HIF_CQ_STATUS_ARMED => b2n (s.cq i).armed
    | .HIF_CQ_STATUS_HELD => (s.cq i).held.length
    | .HIF_RX_STORE_USED => s.rxUsed
    | .INTC_SRC_CFG_TRIGGER => b2n (srcEdge i)
    | .INTC_SRC_STATUS_DSTATE => (s.src i).dstate
    | .INTC_SRC_STATUS_LEVEL => b2n (s.asserted i)
    | .INTC_SRC_STATUS_PEND => b2n ((s.fld .INTC_PENDING_PEND (i / 32)).testBit (i % 32))
    | .INTC_SRC_STATUS_HOLDER => (s.src i).holder
    | .INTC_CORE_STATUS_STATE => s.coreState i
    | .INTC_CORE_STATUS_MASK => b2n (s.core i).mask
    | .INTC_CORE_STATUS_ACTIVE => b2n (s.runPrio i).isSome
    | .INTC_CORE_STATUS_RUN_PRIO => (s.runPrio i).getD 0
    | .INTC_CORE_STATUS_DELIVERED => (s.heldBy i 1).length
    | .BOOT_STATUS_STATE => s.dev.code
    | .BOOT_REC_DATA => s.boot.record / 2 ^ (64 * i)
    | .BOOT_BASTE_STATUS_FREE => 8192 - s.bastePlaces
    | .BOOT_BASTE_GROUP_COUNT => (s.grp i).writes.length
    | .THIM_STATUS_HANDLING => s.handlingSev
    | .THIM_STATUS_QUEUED => s.thim.queue.length
    | .THIM_FAULT_LOG_RECORD => s.faultHead
    | _ => s.fld f i j

/-- What a register reads as: each field at its bits, 0 elsewhere (R7, R11). -/
def State.regNow (s : State) (r : Reg) (i j : Nat) : Nat := (r.fields.map fun f => s.fieldNow f i j % 2 ^ f.info.width * 2 ^ f.info.lo).sum

/-! ## Windows and the MSI-X structures (R561 to R563) -/

/-- The vectors that a requester sees: its function's range; a service-core pair sees all. -/
def State.vecSeen (s : State) (r : Req) (v : Nat) : Bool :=
  match r with
  | .pf f => decide ((s.pfn f).vecLo ≤ v) && decide (v < (s.pfn f).vecLo + (s.pfn f).vecN)
  | .sp _ => true

/-- The low or high 8 bytes of an MSI-X table entry in the PCI Express format. -/
def State.vecWord (s : State) (v : Nat) (hi : Bool) : Nat :=
  let x := s.vecE v
  if hi then x.data % 2 ^ 32 + b2n x.mask * 2 ^ 32 else x.addr % 2 ^ 64

/-- A vector's message is pending: it holds a source whose message has not been issued. -/
def State.vecPending (s : State) (v : Nat) : Bool := s.intc.src.any fun e => e.2.toVector && e.2.dstate == 1 && e.2.holder == v

/-- Eight bytes of a function's pending bit array. -/
def State.pbaWord (s : State) (f k : Nat) : Nat :=
  ((List.range 64).map fun n => b2n (decide (64 * k + n < (s.pfn f).vecN) && s.vecPending ((s.pfn f).vecLo + 64 * k + n)) * 2 ^ n).sum

/-- The 8 bytes at an 8-byte-aligned BAR0 offset outside the cell debug window. -/
def State.slotNow (s : State) (r : Req) (off : Nat) : Nat :=
  if 0x300_0000 ≤ off then
    if off < 0x320_0000 then s.localMem.readLe (off - 0x300_0000) 8
    else if 0x3A0_0000 ≤ off ∧ off < 0x3A0_1000 then s.boot.nvmBuf.readLe (off - 0x3A0_0000) 8
    else if 0x3A0_1000 ≤ off ∧ off < 0x3A0_2000 then s.pair.peerBuf.readLe (off - 0x3A0_1000) 8
    else 0
  else if 0x2F1_0000 ≤ off then (if off < 0x2F1_0800 then s.pbaWord ((off - 0x2F1_0000) / 0x100) ((off - 0x2F1_0000) % 0x100 / 8) else 0)
  else if 0x2F0_0000 ≤ off then
    (if off < 0x2F0_8000 ∧ s.vecSeen r ((off - 0x2F0_0000) / 16) then s.vecWord ((off - 0x2F0_0000) / 16) ((off - 0x2F0_0000) % 16 == 8) else 0)
  else
    match regAt off with
    | some x => s.regNow x.reg x.i x.j
    | none => 0

/-- The cell debug window. -/
def cellDebug (off : Nat) : Bool := decide (0x320_0000 ≤ off) && decide (off < 0x3A0_0000)

/-- Four bytes at an offset of the cell debug window: of the cells of the Bolt in DBG_SEL; a byte that nothing has written reads 0 (R194, Table 18-7, log entry 2). -/
def State.cellNow (s : State) (o : Nat) : Nat := leNat (slice ((s.bo (s.fld .DEV_DBG_SEL_BOLT)).cells.get [] (o / 256)) (o % 256) 4)

/-- A counter word at a BAR4 offset; words 176 and 177 of the device block are values of the Boot Record in use (Table 16-5). -/
def State.wordNow (s : State) (a : Nat) : Nat :=
  if a = devWord 176 then bits s.boot.record 191 160
  else if a = devWord 177 then bits s.boot.record 223 192
  else s.ctr a

end Sys2Proof.Machine
end

