-- ==== Sys2Proof/Machine/PairOps.lean ====
section
/-!
DEFINITION. The redundant pair (chapter 15): roles, the Overlock lines, the partner, takeovers and planned swaps.
-/
namespace Sys2Proof.Machine

/-! ## Roles, the token and the partner (R480 to R486) -/

/-- PAIR.STATUS.ROLE: 0 NONE, 1 JOINING, 2 LEAD, 3 SHADOW, 4 SOLO (Table 15-21). -/
def State.role (s : State) : Nat := s.fld .PAIR_STATUS_ROLE
def State.setRole (s : State) (v : Nat) : State := s.setFld .PAIR_STATUS_ROLE 0 0 v

/-- PAIR.STATUS.PEER: 0 none, 1 OK, 2 LOST, 3 UNKNOWN, 4 FAIL_SILENT. -/
def State.peer (s : State) : Nat := s.fld .PAIR_STATUS_PEER
def State.setPeer (s : State) (v : Nat) : State := s.setFld .PAIR_STATUS_PEER 0 0 v

/-- The side strap: Right (Table 15-6). -/
def State.right (s : State) : Bool := s.on .PAIR_STATUS_SIDE

/-- The Overlock pins have power (R544). -/
def State.overlockOn (s : State) : Bool := s.bankOn 4

/-- The pair logic is at work: a role, and a device in none of Off, Fail-Silent, Stay-Down (Table 15-6, R477). -/
def State.pairAlive (s : State) : Bool := s.role != 0 && s.alive

/-- The level of OVL_TOKEN as the device reads it: an unpowered VIO_CTL reads it as released (R544). -/
def State.tokenSense (s : State) (low : Bool) : State := s.setFld .PAIR_STATUS_TOKEN_IN 0 0 (b2n (low && s.overlockOn))

/-- The device drives OVL_TOKEN low. -/
def State.tokenDrive (s : State) : State :=
  { s.setFld .PAIR_STATUS_TOKEN_DRV 0 0 1 with pair := { (s.setFld .PAIR_STATUS_TOKEN_DRV 0 0 1).pair with refreshL := s.lNow } }

/-- The device releases OVL_TOKEN. -/
def State.tokenFree (s : State) : State :=
  { s.setFld .PAIR_STATUS_TOKEN_DRV 0 0 0 with pair := { (s.setFld .PAIR_STATUS_TOKEN_DRV 0 0 0).pair with claiming := false, preDriven := false } }

/-- The worst severity of the records whose handling has not ended (Table 15-8, R495). -/
def State.worstOpen (s : State) : Nat := if s.thim.fatal.isSome then 3 else (s.thim.handling ++ s.thim.waiting).foldl max 0

/-- Some mirrored state is stale (R176, R320, R495). -/
def State.mirrorStale (s : State) : Bool := !s.pair.stale.isEmpty || s.mdpLead.any fun p => s.on .MDP_PC_STATUS_STALE p

/-- Every latent-fault test has passed since the last swap (R495). -/
def State.testsPassed (s : State) : Bool := (List.range 11).all fun t => decide (s.pair.lastSwapL < s.thim.testPass.get 0 t)

/-- The domain of T_swap, and its time. -/
def State.swapDom (s : State) : Nat := s.fld .PAIR_CFG_SWAP_DOM
def State.swapNow (s : State) : Nat := s.voted s.swapDom

/-- Swap readiness of a Shadow (R495). -/
def State.swapReady (s : State) : Bool := s.dev == .shadow && !s.mirrorStale && decide (s.worstOpen < 2) && s.testsPassed && s.inSync s.swapDom

/-- The contents of a HEARTBEAT record (Table 15-8). -/
def State.heartbeat (s : State) : List Nat :=
  [s.role, s.dev.code, s.worstOpen, b2n s.swapReady, s.devId, s.lUs, s.fld .PAIR_SWAP_STATUS_DRILLS]

/-- A HEARTBEAT record on each lane, and the beat's two edges in 500 ns (R480, R488); in Boot and later, in every role but NONE. -/
def State.beatSend (s : State) : State :=
  if !s.pairAlive then s
  else
    let s := s.emit (.pair 1 s.heartbeat)
    if s.overlockOn then (s.emit (.beat !s.pair.beatLevel)).emit (.beat s.pair.beatLevel) else s

/-- TOKEN_REFRESH (R481). -/
def State.tokenRefresh (s : State) : State := if s.on .PAIR_STATUS_TOKEN_DRV && s.alive then { s with pair := { s.pair with refreshL := s.lNow } } else s

/-- TOKEN_DRIVER_TIMEOUT (R481). -/
def State.tokenTimeout (s : State) : State := if s.on .PAIR_STATUS_TOKEN_DRV && decide (s.pair.refreshL + 2000 * nsT ≤ s.lNow) then s.tokenFree else s

/-- The driven token reads high for 200 ns (R481, R492, Table 15-7): a claiming Shadow and the Right side in JOINING release it. -/
def State.tokenFault (s : State) : State :=
  if !s.on .PAIR_STATUS_TOKEN_DRV then s
  else
    let s := ((s.tokenSense false).event .PAIR_EVENT_TOKEN_FAULT).fault 2 19 noUnit
    if s.pair.claiming || (s.role == 1 && s.right) then s.tokenFree else s

/-- Heartbeats are silent on all three paths for 4 µs (R485, R486, R492). -/
def State.allSilent (s : State) : Bool :=
  let old (t : Nat) : Bool := decide (t + 4000 * nsT ≤ s.lNow)
  old s.pair.lastBeat && old s.pair.lastPl0 && old s.pair.lastPl1

/-- A Lead declares its partner lost (R485). -/
def State.peerLost (s : State) : State :=
  if s.peer = 2 then s
  else (({ s.setPeer 2 with pair := { (s.setPeer 2).pair with discarding := true } }).event .PAIR_EVENT_PEER_LOST).fault 2 18 noUnit

/-- The device may claim the token: a Shadow that is not in Test, Recovery, Fail-Silent or Stay-Down (R480, R484, R492). -/
def State.mayClaim (s : State) : Bool :=
  s.role == 3 && !s.pair.claiming && !s.on .PAIR_STATUS_TOKEN_DRV && (s.dev == .shadow || s.dev == .acquire || s.dev == .boot)

/-- A Shadow drives the token; the passage awaits the readback (R492). -/
def State.claimToken (s : State) : State :=
  if !s.mayClaim then s
  else { s.tokenDrive with pair := { s.tokenDrive.pair with claiming := true, claimL := some s.lNow } }

/-- HEARTBEAT_SILENCE (R485, R486, R492). -/
def State.silence (s : State) (low : Bool) : State :=
  if !s.pairAlive || !s.allSilent then s
  else
    let s := (s.tokenSense low).setFld .PAIR_STATUS_BEAT_OK 0 0 0
    match s.role with
    | 2 => s.peerLost
    | 3 =>
      if s.on .PAIR_STATUS_TOKEN_IN then
        (if s.peer = 3 then s else { s.setPeer 3 with pair := { (s.setPeer 3).pair with silentSince := some s.lNow } })
      else (s.setPeer 2).claimToken
    | _ => s

/-- OVL_FS asserted for 50 ns while the device itself does not assert it (R480, R485, R492). -/
def State.fsAsserted (s : State) (low : Bool) : State :=
  if s.pair.fsDrive || !s.overlockOn then s
  else
    let s := ({ s with pair := { s.pair with fsIn := true } }.setFld .PAIR_STATUS_FS_IN 0 0 1).tokenSense low
    if !s.pairAlive then s
    else
      match s.role with
      | 2 => s.peerLost
      | 3 => if s.on .PAIR_STATUS_TOKEN_IN then s.setPeer 4 else (s.setPeer 4).claimToken
      | _ => s.setPeer 4

/-- OVL_TOKEN released for 100 ns (R492). -/
def State.tokenReleased (s : State) : State :=
  let s := s.tokenSense false
  if s.pairAlive && (s.pair.fsIn || s.allSilent) then s.claimToken else s

/-- PEER_UNKNOWN_TIMEOUT (R486). -/
def State.peerUnknown (s : State) : State :=
  match s.pair.silentSince with
  | some t =>
    if s.role = 3 ∧ s.peer = 3 ∧ t + 10000000 * nsT ≤ s.lNow then
      (({ s with pair := { s.pair with silentSince := none } }.event .PAIR_EVENT_PEER_UNKNOWN).fault 2 18 noUnit).staleAll
    else s
  | none => s

/-- PAIR_LANE_DOWN (R487, R176). -/
def State.laneDown (s : State) (k : Nat) : State :=
  let f : Fl := if k = 0 then .PAIR_STATUS_PL0_OK else .PAIR_STATUS_PL1_OK
  let last := if k = 0 then s.pair.lastPl0 else s.pair.lastPl1
  if !s.on f || decide (s.lNow < last + 10000 * nsT) then s
  else
    let s := ((s.setFld f 0 0 0).event .PAIR_EVENT_LANE_DOWN).fault 2 20 k
    let s := { s with pair := if k = 0 then { s.pair with laneQ0 := [] } else { s.pair with laneQ1 := [] } }
    if s.role == 3 && !s.on .PAIR_STATUS_PL0_OK && !s.on .PAIR_STATUS_PL1_OK then s.staleAll else s

/-! ## Heartbeats (R483, R485, R487 to R489) -/

/-- A device in JOINING joins as Shadow: every mirrored state is stale until the snapshot is complete (R482, R489). -/
def State.join (s : State) : State :=
  let s := ((s.setRole 3).setPeer 1).staleAll
  let s := s.mdpLead.foldl (fun a p => a.setFld .MDP_PC_STATUS_STALE p 0 1) s
  s.setFld .MEND_MIRROR_STATUS_SNAP_BUSY 0 0 (b2n (decide (0 < s.staleCount)))

/-- The partner's join request reaches a Lead or Solo device (R482, R489): a Solo device leads from now on; the snapshot follows. -/
def State.joined (s : State) : State :=
  let s := if s.role = 4 then { s.setRole 2 with dev := if s.dev = .solo then .lead else s.dev } else s
  ({ s.setPeer 1 with pair := { (s.setPeer 1).pair with discarding := false } }).snapshotSend

/-- What a lane's record says of the partner (Table 15-8). -/
def State.peerNote (s : State) (role st worst : Nat) (ready : Bool) (id : Nat) : State :=
  let s := s.setFlds 0 0 [(.PAIR_STATUS_PEER_ID, id), (.PAIR_STATUS_PEER_STATE, st), (.PAIR_STATUS_PEER_WORST, worst)]
  let s := { s with pair := { s.pair with peerRole := role, peerReady := ready } }
  if st = 8 ∨ st = 9 then s else { s with pair := { s.pair with fsIn := false } }.setFld .PAIR_STATUS_FS_IN 0 0 0

/-- A claim of this device collides with one of the partner: within 10 µs of it the partner carries LEAD (R483). -/
def State.collides (s : State) (role : Nat) : Bool :=
  role == 2 && (s.role == 1 || s.role == 2) && s.pair.claimL.any fun t => decide (s.lNow ≤ t + 10000 * nsT)

/-- The partner's role and state act on this device (Table 15-7, R483, R485). `wasDown`: both lanes were down before this record. -/
def State.peerActs (s : State) (role st : Nat) (wasDown : Bool) : State :=
  if s.collides role then (if s.right then (s.tokenFree).join else s)
  else if st = 8 then (if s.role = 2 then s.peerLost else s.setPeer 4)
  else
    match s.role with
    | 1 => if (role = 2 ∨ role = 4) ∧ s.on .PAIR_STATUS_TOKEN_IN = true then s.join else s.setPeer 1
    | 2 => if role = 3 ∧ (s.peer ≠ 1 ∨ wasDown = true) then s.joined else s
    | 3 =>
      let s := { s.setPeer 1 with pair := { (s.setPeer 1).pair with silentSince := none } }
      if role = 2 ∧ wasDown = true then s.setFld .MEND_MIRROR_STATUS_SNAP_BUSY 0 0 (b2n (decide (0 < s.staleCount))) else s
    | 4 => if role = 3 then s.joined else s
    | _ => s

/-- A heartbeat record of a lane (0 PL0, 1 PL1), or an edge of OVL_BEAT_IN (2) (R485, R487, R488). -/
def State.beatIn (s : State) (path : Nat) (crcOk : Bool) (role st worst : Nat) (ready : Bool) (id : Nat) (low : Bool) : State :=
  if s.dev = .off then s
  else if path = 2 then
    (if s.overlockOn then { s with pair := { s.pair with lastBeat := s.lNow } }.setFld .PAIR_STATUS_BEAT_OK 0 0 1 else s)
  else if !crcOk then s.bump (devWord (171 + path))
  else
    let wasDown := !s.on .PAIR_STATUS_PL0_OK && !s.on .PAIR_STATUS_PL1_OK
    let s := if path = 0 then { s with pair := { s.pair with lastPl0 := s.lNow } }.setFld .PAIR_STATUS_PL0_OK 0 0 1
      else { s with pair := { s.pair with lastPl1 := s.lNow } }.setFld .PAIR_STATUS_PL1_OK 0 0 1
    if !s.pairAlive then s
    else (((s.tokenSense low).peerNote role st worst ready id)).peerActs role st wasDown

/-! ## Grandmaster and Polled Cycle duties (R491, R493, R496) -/

/-- The domains of PAIR.CFG.GM_DOMAINS. -/
def State.gmDomains (s : State) : List Nat := (List.range 8).filter fun d => (s.fld .PAIR_CFG_GM_DOMAINS).testBit d

/-- The new Lead becomes grandmaster of a domain: RATE and the holdover rate of the last SERVO record, GM = 1 (R493). -/
def State.gmTake (s : State) (d : Nat) : State :=
  let r := s.pair.servo.get {} d
  let s := if r.state = 0 then s
    else (s.setRate d (toSigned 32 r.rate)).setDom d { (s.setRate d (toSigned 32 r.rate)).dom d with integ := r.integ, hold := r.hold }
  (s.writeGm d true).setInst d { (s.writeGm d true).inst d with actingGm := true, declaring := false, best := none, returning := none }

/-- The old Lead of a swap follows its partner as a slave. -/
def State.gmYield (s : State) (d : Nat) : State :=
  let s := s.writeGm d false
  s.setInst d { s.inst d with actingGm := false, best := bestForeign (s.offers d), lastSync := s.lNow }

/-- The first start of a port's gate cycle at or after a domain time. -/
def State.cycleAtOrAfter (s : State) (p t : Nat) : Nat :=
  match (s.sched p).cycleAt t with
  | some c => if c.start = (t : Int) then t else c.stop.toNat
  | none => t

/-! ## Takeover (R493) -/

/-- The multidrop ports. -/
def mdPorts : List Nat := (List.range 128).filter multidrop

/-- The passage of a Shadow whose claim the readback confirms within 200 ns (R492, R493). -/
def State.passage (s : State) : State :=
  if !s.pair.claiming || s.role != 3 || !(s.pair.claimL.any fun t => decide (s.lNow ≤ t + 200 * nsT)) then s
  else
    let s := s.holdPins
    let stale := !s.pair.stale.isEmpty
    let s := { (s.tokenSense true).setRole 2 with
      pair := { s.pair with claiming := false, endOfRole := true, discarding := true, silentSince := none, swapAt := none }, dev := if s.dev = DevState.shadow then DevState.lead else s.dev }
    let s := s.setFld .PAIR_SWAP_STATUS_PENDING 0 0 0
    let s := s.gmDomains.foldl State.gmTake s
    let s := mdPorts.foldl (fun a p => a.pcTakeover p (a.nowD p + a.lead p)) s
    let s := ((s.event .PAIR_EVENT_TAKEOVER).bump (devWord 168)).fault 1 0 noUnit
    if stale then s.fault 2 0 noUnit else s

/-! ## Planned swaps (R495 to R498) -/

/-- A swap is postponed by 1 h (R495). -/
def State.postpone (s : State) : State :=
  let n := satTo 15 (s.fld .PAIR_SWAP_STATUS_POSTPONED + 1)
  let s := { s.setFlds 0 0 [(.PAIR_SWAP_STATUS_PENDING, 0), (.PAIR_SWAP_STATUS_RESULT, 2), (.PAIR_SWAP_STATUS_POSTPONED, n)] with
    pair := { s.pair with swapAt := none, postponedL := some s.lNow } }
  let s := ((s.event .PAIR_EVENT_SWAP_POSTPONED).bump (devWord 170)).fault 1 0 noUnit
  if n = 3 then s.fault 2 0 noUnit else s

/-- A swap requested on the Lead: T_swap is the first whole millisecond of SWAP_DOM at least LEAD_MS ahead (R495). -/
def State.swapRequest (s : State) : State :=
  if s.dev ≠ .lead ∨ s.role ≠ 2 ∨ s.pair.swapAt.isSome then s
  else if s.peer ≠ 1 ∨ !s.inSync s.swapDom then s.postpone
  else
    let ms := 1000000 * nsT
    let t := (s.swapNow + max 10 (s.fld .PAIR_DRILL_CFG_LEAD_MS) * ms + ms - 1) / ms
    ({ s with pair := { s.pair with swapAt := some (t * ms), postponedL := none } }.setFld .PAIR_SWAP_STATUS_T_MS 0 0 t).emit (.pair 9 [t])

/-- DRILL_TIMER (R498). -/
def State.drillDue (s : State) : State :=
  let h := s.fld .PAIR_DRILL_CFG_PERIOD
  if h ≠ 0 ∧ s.pair.lastSwapL + h * 3600 * secT ≤ s.lNow ∧ s.pair.postponedL.isNone then s.swapRequest else s

/-- SWAP_POSTPONE_EXPIRY (R495). -/
def State.postponeOver (s : State) : State :=
  match s.pair.postponedL with
  | some t => if t + 3600 * secT ≤ s.lNow then { s with pair := { s.pair with postponedL := none } }.swapRequest else s
  | none => s

/-- A SWAP_REQ at the Shadow: accepted where it is ready, refused with a reason otherwise (R495); the reason's code is not stated. -/
def State.swapAsked (s : State) (t : Nat) : State :=
  if !s.pairAlive then s
  else if s.swapReady then
    { s.setFlds 0 0 [(.PAIR_SWAP_STATUS_PENDING, 1), (.PAIR_SWAP_STATUS_T_MS, t)] with pair := { s.pair with swapAt := some (t * 1000000 * nsT) } }.emit (.pair 10 [1, 0])
  else
    let (why, s) := s.draw
    (s.setFld .PAIR_SWAP_STATUS_RESULT 0 0 3).emit (.pair 10 [0, why])

/-- A SWAP_ACK at the Lead (R495). -/
def State.swapAnswered (s : State) (accept : Bool) : State :=
  if s.role ≠ 2 ∨ s.pair.swapAt.isNone ∨ s.on .PAIR_SWAP_STATUS_PENDING = true then s
  else if accept then s.setFld .PAIR_SWAP_STATUS_PENDING 0 0 1
  else s.postpone

/-- The arranged T_swap, once it is within `ahead` ticks. -/
def State.swapDue (s : State) (ahead : Nat) : Option Nat :=
  if s.on .PAIR_SWAP_STATUS_PENDING then s.pair.swapAt.filter fun t => decide (t ≤ s.swapNow + ahead) else none

/-- T_swap − 1 µs on the new Lead (R497). -/
def State.swapToken (s : State) : State :=
  if s.role = 3 ∧ s.alive = true ∧ (s.swapDue (1000 * nsT)).isSome then
    { s.tokenDrive with pair := { s.tokenDrive.pair with preDriven := true } }
  else s

/-- A swap is done (R497, R498). -/
def State.swapDone (s : State) : State :=
  let s := s.setFlds 0 0 [(.PAIR_SWAP_STATUS_PENDING, 0), (.PAIR_SWAP_STATUS_RESULT, 1), (.PAIR_SWAP_STATUS_POSTPONED, 0),
    (.PAIR_SWAP_STATUS_DRILLS, satTo 0xFFFFFF (s.fld .PAIR_SWAP_STATUS_DRILLS + 1))]
  ({ s with pair := { s.pair with swapAt := none, postponedL := none, lastSwapL := s.lNow } }.event .PAIR_EVENT_SWAP_DONE).bump (devWord 169)

/-- The old Lead at T_swap: Shadow from now on; END_OF_ROLE; its masters hand over at the next cycle start, with no BEACON staged for it, and its other multidrop ports are in
STANDBY (R320, R324, R496). -/
def State.swapOut (s : State) (t : Nat) : State :=
  let s := s.holdPins
  let s := s.mdpLead.foldl (fun a p =>
    if a.pcState p = 5 then
      let e := a.cycleAtOrAfter p (a.nowD p + t - a.swapNow)
      a.updMdp p fun m => { m with handEnd := some e, staged := m.staged.filter fun b => decide (b.1 < e) }
    else a) s
  let s := s.gmDomains.foldl State.gmYield s
  (((({ s.setRole 3 with dev := .shadow }).pcRole).staleCheck).emit (.pair 4 [s.mend.sent])).swapDone

/-- The new Lead at T_swap (R177, R496). -/
def State.swapIn (s : State) (t : Nat) : State :=
  let s := s.tokenDrive
  let s := { s.setRole 2 with dev := .lead, pair := { s.pair with preDriven := false, claiming := false, endOfRole := false, discarding := false } }
  let s := s.gmDomains.foldl State.gmTake s
  let s := if s.pair.stale.isEmpty then s else s.fault 2 0 noUnit
  (mdPorts.foldl (fun a p => a.pcTakeover p (a.cycleAtOrAfter p (a.nowD p + t - a.swapNow))) s).swapDone

/-- SWAP_EXECUTE (R496); a swap that the partner has not answered by T_swap is postponed (log entry 69). -/
def State.swapExecute (s : State) : State :=
  match s.swapDue 0 with
  | some t => if s.dev = .lead ∧ s.role = 2 then s.swapOut t else if s.dev = .shadow ∧ s.role = 3 then s.swapIn t else s
  | none =>
    if s.dev = .lead ∧ s.role = 2 ∧ !s.on .PAIR_SWAP_STATUS_PENDING ∧ (s.pair.swapAt.any fun t => decide (t ≤ s.swapNow)) then s.postpone else s

/-- T_swap + 1 µs on the old Lead (R497). -/
def State.swapFree (s : State) : State :=
  if s.role = 3 ∧ s.on .PAIR_STATUS_TOKEN_DRV = true ∧ !s.pair.preDriven ∧ !s.pair.claiming ∧ s.pair.lastSwapL + 1000 * nsT ≤ s.lNow then s.tokenFree else s

/-! ## Mirrored records at the Shadow (R490, R491) -/

/-- A SERVO record is kept (R491). -/
def State.servoKeep (s : State) (d rate : Nat) (integ hold : Int) (st : Nat) : State :=
  if s.role = 3 ∧ (s.fld .PAIR_CFG_GM_DOMAINS).testBit d = true then
    { s with pair := { s.pair with servo := s.pair.servo.set {} d ⟨rate, Frac.ofInt integ, Frac.ofInt hold, st⟩ } }
  else s

/-- An admin slot written to both copies, or refused while a switch is pending (R304). -/
def State.slotAdminWrite (s : State) (p i v : Nat) : State :=
  if s.switchPending p then s.event .MDP_EVENT_CHANGE_REFUSED p
  else (s.setFld .MDP_PC_SLOT_ADMIN_ENTRY p i v).updMdp p fun m => { m with gdAdmin := m.gdAdmin.set 0 i (s.setFld .MDP_PC_SLOT_ADMIN_ENTRY p i v |>.adminSlot p i) }

/-- A GCL record written into the admin banks of a mirrored port, and its COMMIT performed (R490). -/
def State.gclMirror (s : State) (p : Nat) (ents : List Nat) (base cycle ext tid : Nat) (slots : List Nat) : State :=
  if s.role ≠ 3 ∨ !s.mdpLead.contains p then s
  else
    let ents := ents.take 1024
    let slots := slots.take 64
    let s := (ents.zipIdx).foldl (fun a e => a.gclAdminWrite p e.2 e.1) s
    let s := s.setFlds p 0 [(.SHTL_GCL_CFG_ADMIN_LEN, ents.length), (.SHTL_GCL_ADMIN_BASE_SEC_SEC, secOf base), (.SHTL_GCL_ADMIN_BASE_NS_NS, nsOf base),
      (.SHTL_GCL_ADMIN_BASE_NS_FRAC, fracOf base), (.SHTL_GCL_ADMIN_CYCLE_NS, cycle / nsT), (.SHTL_GCL_ADMIN_CYCLE_FRAC, fracOf cycle), (.SHTL_GCL_ADMIN_EXT_EXT, ext),
      (.MDP_PC_TABLE_CFG_ADMIN_TABLE_ID, tid), (.MDP_PC_TABLE_CFG_ADMIN_LEN, slots.length)]
    ((slots.zipIdx).foldl (fun a e => a.slotAdminWrite p e.2 e.1) s).gclCommit p

/-- The partners' oper banks of a port differ (R490). -/
def State.mirrorDiffer (s : State) (p : Nat) : State :=
  if !s.pairAlive || !s.mdpLead.contains p then s
  else
    let s := s.event .PAIR_EVENT_MIRROR_MISMATCH
    match s.role with
    | 3 => s.fault 2 0 p
    | 2 => s.emit (.pair 7 (s.operRecord p))
    | _ => s

/-! ## Reads of the partner (R504) -/

/-- A PEER_CMD with GO. -/
def State.peerCmd (s : State) (r : Req) (op page : Nat) : State :=
  if s.on .PAIR_PEER_STATUS_BUSY then s
  else
    let p0 : Bool := match r with
      | .pf f => f.val == 0
      | .sp _ => true
    let s := if p0 then s.setFlds 0 0 [(.PAIR_PEER_CMD_OP, op), (.PAIR_PEER_CMD_PAGE, page)] else s
    if !p0 || decide (2 ≤ op) then (s.setFld .PAIR_PEER_STATUS_CODE 0 0 2).event .PAIR_EVENT_BAD_CFG
    else if !s.on .PAIR_STATUS_PL0_OK && !s.on .PAIR_STATUS_PL1_OK then s.setFld .PAIR_PEER_STATUS_CODE 0 0 1
    else
      ({ s with pair := { s.pair with peerL := s.lNow, peerAt := 0 } }.setFld .PAIR_PEER_STATUS_BUSY 0 0 1).emit (.pair 11 [page, op])

/-- The register page of R504: DEV.PACE_EVENT, then the THIM, PAIR and BOOT registers; the layout is the model's. -/
def State.registerPage (s : State) : List Byte :=
  let image (a n : Nat) : List Byte := ((List.range (n / 8)).map fun k => leBytes 8 (s.slotNow (.pf 0) (a + 8 * k))).flatten
  let d := image 8 8 ++ image 0x7_0000 0x100 ++ image 0x8_0000 0x100 ++ image 0x6_0000 0x400
  d ++ List.replicate (4096 - d.length) 0#8

/-- A page of the Fatal Dump area: zeros where no area is named. -/
def State.dumpPage (s : State) (page : Nat) : List Byte :=
  let space := s.fld .THIM_DUMP_BASE_SPACE
  if space = 0 then List.replicate 4096 0#8
  else (List.range 4096).map fun k => s.spaceByte space (s.fld .THIM_DUMP_BASE_ADDR * 65536 + page * 4096 + k)

/-- A page in pieces of 24 bytes. -/
def pieces : Nat → List Byte → List (List Byte)
  | 0, _ => []
  | n + 1, d => if d.isEmpty then [] else d.take 24 :: pieces n (d.drop 24)

/-- The answer to a PEER_READ, in every state but Off (R504). -/
def State.peerAnswer (s : State) (regs : Bool) (page : Nat) : State :=
  if s.dev = .off then s
  else (pieces 171 (if regs then s.registerPage else s.dumpPage page)).foldl (fun a d => a.emit (.peerData d)) s

/-- 24 bytes of the page arrive (R504). -/
def State.peerData (s : State) (d : List Byte) : State :=
  if !s.on .PAIR_PEER_STATUS_BUSY then s
  else
    let n := s.pair.peerAt
    let d := (d.take 24).take (4096 - n)
    let s := { s with pair := { s.pair with peerBuf := s.pair.peerBuf.writeBytes n d, peerAt := n + d.length } }
    if 4096 ≤ n + d.length then s.setFlds 0 0 [(.PAIR_PEER_STATUS_BUSY, 0), (.PAIR_PEER_STATUS_CODE, 0)] else s

/-- PEER_READ_TIMEOUT (R504). -/
def State.peerTimeout (s : State) : State :=
  if s.on .PAIR_PEER_STATUS_BUSY && decide (s.pair.peerL + 100000 * nsT ≤ s.lNow) then
    s.setFlds 0 0 [(.PAIR_PEER_STATUS_BUSY, 0), (.PAIR_PEER_STATUS_CODE, 3)]
  else s

end Sys2Proof.Machine
end

