-- ==== Sys2Proof/Machine/ResetOps.lean ====
section
/-!
DEFINITION. Resets (R438, R445, R479, R535 to R538), Stay-Down (R447, R448) and the Boot Record (R444, Table 14-5).
-/
namespace Sys2Proof.Machine

/-! ## What a reset keeps -/

/-- The RWS fields (R10). -/
def Regs.kept (l : Regs) : Regs := l.filter fun e => e.1.f.info.acc == Acc.rws

/-- The counter words that are RWS: boot resets by step and what else the device block keeps over a reset (Table 16-5). -/
def rwsWord (a : Nat) : Bool := decide (devWord 178 ≤ a) && decide (a ≤ devWord 191)

/-- The size of a Fatal Dump area by its space (R501). -/
def dumpSize (space : Nat) : Nat := if space = 1 then 0x40_0000 else 0x1_0000

/-- The bytes of the last Fatal Dump area in a memory: it keeps its contents until the device writes it again (R503). -/
def State.keptDump (s : State) (space : Nat) (m : Memory) : Memory :=
  match s.thim.dumpKept with
  | some (sp, a) => if sp = space then m.filter fun e => decide (a ≤ e.1) && decide (e.1 < a + dumpSize sp) else []
  | none => []

/-- The device as a reset with PWRGOOD high leaves it in Off: RWS fields, the NVM, the fuses, the pins, the measured TIMEOSC frequency and the last dump area are kept,
everything else is at its reset value (R10, R438, R503, R535). No clock counts as lost: a reset returns to TIMEOSC and REFCLK_A (R43). -/
def State.resetTo (s : State) (cause : Nat) : State :=
  { State.reset with
    pending := s.pending, out := s.out, free := s.free + 1, dev := .off,
    regs := s.regs.kept,
    time := { measuring := s.time.measuring, ratioKey := s.free },
    boot := { nvm := s.boot.nvm, otpKey := s.boot.otpKey, otpRevoked := s.boot.otpRevoked, otpCount := s.boot.otpCount, cause := cause },
    thim := { dumpKept := s.thim.dumpKept },
    tape := { ctr := s.tape.ctr.filter fun e => rwsWord e.1 },
    localMem := s.keptDump 2 s.localMem, dram := s.keptDump 1 s.dram, pins := s.pins }
  |>.setFld .TPL_OSC_STATUS_FREQ 0 0 (s.fld .TPL_OSC_STATUS_FREQ)

/-- Every transmission under way ends at once. -/
def State.cutAll (s : State) : State := (List.range 128).foldl (fun a p => if (a.pt p).tx.isSome then a.abortTx p else a) s

/-- The device enters Off with a cause of reset: outputs are undriven, transmissions end truncated (R535, R538). -/
def State.goOff (s : State) (cause : Nat) : State := (s.holdPins.cutAll).resetTo cause

/-- A power loss: what RWS fields and words hold is lost as well (R536, R538). -/
def State.losePower (s : State) : State :=
  let s := s.goOff 0
  { s with regs := s.regs.filter fun e => e.1.f.info.acc != Acc.rws, tape := {}, thim := {}, localMem := [], dram := [], time := { s.time with measuring := false } }
    |>.setFld .TPL_OSC_STATUS_FREQ 0 0 0

/-- Boot begins at BS01 with L time 0 (R39, R438); the side is the strap's (R480). -/
def State.bootStart (s : State) (right : Bool) : State := ({ s with dev := .boot }).setFld .PAIR_STATUS_SIDE 0 0 (b2n right)

/-- A reset from within, which acts as RESET_N: the straps stand as they were (R438, R445, R479). -/
def State.reboot (s : State) (cause : Nat) : State := (s.goOff cause).bootStart s.right

/-! ## Stay-Down (R447) -/

/-- Stay-Down: every port DISABLED, no output driven, the Overlock outputs as in Fail-Silent, PF0 with the default identity alone, the pairs but SP0 OFF. -/
def State.enterStayDown (s : State) : State :=
  let s := s.holdPins
  let s := (List.range 128).foldl (fun a p => if a.linkState p = 0 then a else a.linkTo p 0) s
  let s := (s.cutAll).tokenFree
  let s := (List.range 7).foldl (fun a k => a.stopPair (k + 1)) s
  { s with dev := .stayDown, pair := { s.pair with fsDrive := true, beatLevel := false }, boot := { s.boot with pcieReady := false }, thim := { s.thim with serviceSince := none } }

/-! ## The Boot Record (Table 14-5) -/

/-- A field of `n` bytes at a byte offset of a record. -/
def recGet (r off n : Nat) : Nat := bits r (8 * (off + n) - 1) (8 * off)
def recPut (r off n v : Nat) : Nat := r / 2 ^ (8 * (off + n)) * 2 ^ (8 * (off + n)) + v % 2 ^ (8 * n) * 2 ^ (8 * off) + r % 2 ^ (8 * off)

/-- A field of the Boot Record in use, and the record with a field changed. -/
def State.recF (s : State) (off n : Nat) : Nat := recGet s.boot.record off n
def State.setRec (s : State) (off n v : Nat) : State := { s with boot := { s.boot with record := recPut s.boot.record off n v } }

/-- CRC-32C of the first bytes of a structure (R430, R444). -/
def crcOf (n w : Nat) : Nat := crc32c (leBytes n w)

/-- A byte of the NVM: an unlisted byte is erased. -/
def State.nvmByte (s : State) (a : Nat) : Byte := s.boot.nvm.get 0xFF#8 a
def State.nvmBytes (s : State) (a n : Nat) : List Byte := (List.range n).map fun k => s.nvmByte (a + k)
def State.nvmLe (s : State) (a n : Nat) : Nat := leNat (s.nvmBytes a n)

/-- Bytes written to the NVM. -/
def State.nvmPut (s : State) (a : Nat) (bs : List Byte) : State :=
  { s with boot := { s.boot with nvm := (bs.foldl (fun (x : Tbl Byte × Nat) b => (x.1.set 0xFF#8 x.2 b, x.2 + 1)) (s.boot.nvm, a)).1 } }

/-- A range of the NVM erased. -/
def State.nvmErase (s : State) (a n : Nat) : State :=
  { s with boot := { s.boot with nvm := s.boot.nvm.filter fun e => !(decide (a ≤ e.1) && decide (e.1 < a + n)) } }

/-- MAGIC of a Boot Record: "QKBR". -/
abbrev recMagic : Nat := 0x52424B51

/-- The record that a sector of the Boot Record area holds, where it is valid. -/
def State.sectorRec (s : State) (k : Nat) : Option Nat :=
  let w := s.nvmLe (0x1_0000 + 4096 * k) 64
  if recGet w 0 4 = recMagic ∧ recGet w 60 4 = crcOf 60 w then some w else none

/-- GENERATION of one record is above that of another, compared as signed 32-bit differences (R444). -/
def newer (a b : Nat) : Bool := decide (0 < toSigned 32 ((recGet a 4 4 + 2 ^ 32 - recGet b 4 4) % 2 ^ 32))

/-- The valid record with the highest GENERATION and its sector (R444). -/
def State.recFind (s : State) : Option (Nat × Nat) :=
  (List.range 16).foldl (fun best k =>
    match s.sectorRec k, best with
    | some w, some (_, v) => if newer w v then some (k, w) else best
    | some w, none => some (k, w)
    | none, _ => best) none

/-- The record in use as it is written next: GENERATION + 1, MAGIC and CRC (R444). -/
def recSeal (r : Nat) : Nat :=
  let r := recPut (recPut r 0 4 recMagic) 4 4 (recGet r 4 4 + 1)
  recPut r 60 4 (crcOf 60 r)

/-- The failure of a write of the Boot Record: REC_FAIL, BLOCKED held in BOOT.STATUS alone, and Stay-Down (R448). -/
def State.recFailed (s : State) : State :=
  (s.setFlds 0 0 [(.BOOT_STATUS_REC_FAIL, 1), (.BOOT_STATUS_BLOCKED, 1)]).enterStayDown

/-- A write of the Boot Record with its fields changed: to the next sector, erased in advance; in service the sector after it is erased (R444). A record that cannot be written or does not
verify leaves 64 bytes that are not stated, and puts the device into Stay-Down (R448). -/
def State.recWrite (s : State) (ok : Bool) (f : Nat → Nat) : State :=
  let k := (s.boot.recSector + 1) % 16
  let a := 0x1_0000 + 4096 * k
  let s := s.nvmErase a 4096
  if ok then
    let r := recSeal (f s.boot.record)
    let s := { s with boot := { s.boot with record := r, recSector := k } }.nvmPut a (leBytes 64 r)
    if s.dev.inService then s.nvmErase (0x1_0000 + 4096 * ((k + 1) % 16)) 4096 else s
  else
    let (d, s) := s.draw
    ({ s with boot := { s.boot with recSector := k } }.nvmPut a (leBytes 64 (d % 2 ^ 512))).recFailed

end Sys2Proof.Machine
end

