-- ==== Sys2Proof/Machine/ProtectOps.lean ====
section
/-!
DEFINITION. Protection and BOOT.CTRL: the Access Window Table, PF_PRIV and PROT_GEN (14.7), and the Boot Record's marks (R446 to R448).
-/
namespace Sys2Proof.Machine

/-- An access made at privilege P0: through PF0 or by a service-core pair (R456). -/
def atP0 : Req → Bool
  | .pf f => f.val == 0
  | .sp _ => true

/-- PROT_GEN advances, modulo 2^32 (R460). -/
def State.protStep (s : State) : State := s.setFld .BOOT_PROT_GEN_GEN 0 0 (s.fld .BOOT_PROT_GEN_GEN + 1)

/-- The command registers of an AWT operation, which ends within the access with a code (Table 14-12). -/
def State.awtCmd (s : State) (op idx code : Nat) : State := s.setFlds 0 0 [(.BOOT_AWT_CMD_OP, op), (.BOOT_AWT_CMD_INDEX, idx), (.BOOT_AWT_STATUS_CODE, code)]

/-- AWT_CMD READ: the entry in AWT_DATA. -/
def State.awtRead (s : State) (idx : Nat) : State :=
  let e := s.awtEntry idx
  ((s.setFld .BOOT_AWT_DATA_DATA 0 0 e).setFld .BOOT_AWT_DATA_DATA 1 0 (e / 2 ^ 64)).awtCmd 0 idx 0

/-- A value that an entry cannot hold (Table 14-7). -/
def awtBad (e : Nat) : Bool := bits e 126 125 == 3 || bits e 112 58 != 0 || bits e 31 26 != 0 || decide (bits e 57 32 < bits e 25 0)

/-- An entry written, and PROT_GEN advanced (R460). -/
def State.awtPut (s : State) (idx e : Nat) : State := { s with boot := { s.boot with awt := s.boot.awt.set 0 idx (e % 2 ^ 128) } }.protStep

/-- AWT_CMD WRITE, at P0 only (R458). -/
def State.awtWrite (s : State) (r : Req) (idx : Nat) : State :=
  let e := s.fld .BOOT_AWT_DATA_DATA 0 + s.fld .BOOT_AWT_DATA_DATA 1 * 2 ^ 64
  if !atP0 r then s
  else if awtBad e then s.awtCmd 1 idx 7
  else (s.awtPut idx e).awtCmd 1 idx 0

/-- A value of PF_PRIV that gives each of PF1 to PF7 the level P1 or P2 (R457, Table 14-12). -/
def privOk (v : Nat) : Bool := (List.range 7).all fun k => let l := v / 4 ^ (k + 1) % 4; l == 1 || l == 2

/-- A write of PF_PRIV, at P0 only; a value that assigns P0 is refused. BOOT has no BAD_CFG flag for it to set (R457, Table 14-14). -/
def State.privWrite (s : State) (r : Req) (v : Nat) : State :=
  if !atP0 r || !privOk v then s else (s.setFld .BOOT_PF_PRIV_LEVEL 0 0 (v / 4 * 4)).protStep

/-- The read of AWT_DENY_LOG clears the latched denial (R557). -/
def State.denyClear (s : State) : State :=
  s.setFlds 0 0 [(.BOOT_AWT_DENY_LOG_VALID, 0), (.BOOT_AWT_DENY_LOG_PF, 0), (.BOOT_AWT_DENY_LOG_WRITE, 0), (.BOOT_AWT_DENY_LOG_BAR, 0), (.BOOT_AWT_DENY_LOG_OFFSET, 0)]

/-! ## BOOT.CTRL -/

/-- SKIP and ALT of a record cleared (R446). -/
def recNoMarks (r : Nat) : Nat := recPut (recPut r 12 2 0) 14 2 0

/-- CLEAR_MARKS. -/
def State.clearMarks (s : State) (ok : Bool) : State := s.recWrite ok recNoMarks

/-- CLEAR_FAILS, through PF0 only (R447, R448). -/
def State.clearFails (s : State) (r : Req) (ok : Bool) : State :=
  match r with
  | .sp _ => s
  | .pf f =>
    if f.val = 0 then
      (s.setFlds 0 0 [(.BOOT_STATUS_REC_FAIL, 0), (.BOOT_STATUS_BLOCKED, 0)]).recWrite ok fun x => recPut (recPut (recPut x 18 1 0) 9 1 0) 10 1 0
    else s

/-- A write of PREF_SLOT (R446). -/
def State.prefSlot (s : State) (slotB ok : Bool) : State :=
  (s.setFld .BOOT_CTRL_PREF_SLOT 0 0 (b2n slotB)).recWrite ok fun x => recPut (recNoMarks x) 16 1 (b2n slotB)

/-- RESET with its key (R438, Table 14-8). -/
def State.ctrlReset (s : State) (key : Nat) : State := if key = 0x0B07 then s.reboot 3 else s

end Sys2Proof.Machine
end

