-- ==== Sys2Proof/Machine/Protect.lean ====
section
/-!
DEFINITION. The commands of the Access Window Table, PF_PRIV, the denial log and BOOT.CTRL (14.5, 14.7, 14.8).
-/
namespace Sys2Proof.Machine

/-- BOOT_CTRL_RESET (R438). -/
def execBootCtrlReset (r : Req) (key : BitVec 16) (s : State) : Host.Outcome State Fault Refusal := done (s.writing r .BOOT_CTRL 0 0 fun s => s.ctrlReset key.toNat)
/-- CLEAR_MARKS (R446). -/
def execClearMarks (r : Req) (recOk : Bool) (s : State) : Host.Outcome State Fault Refusal := done (s.writing r .BOOT_CTRL 0 0 fun s => s.clearMarks recOk)
/-- CLEAR_FAILS (R447, R448). -/
def execClearFails (r : Req) (recOk : Bool) (s : State) : Host.Outcome State Fault Refusal := done (s.writing r .BOOT_CTRL 0 0 fun s => s.clearFails r recOk)
/-- PREF_SLOT_WRITE (R446). -/
def execPrefSlotWrite (r : Req) (slotB recOk : Bool) (s : State) : Host.Outcome State Fault Refusal := done (s.writing r .BOOT_CTRL 0 0 fun s => s.prefSlot slotB recOk)
/-- AWT_READ (R458). -/
def execAwtRead (r : Req) (idx : Fin 1024) (s : State) : Host.Outcome State Fault Refusal := done (s.writing r .BOOT_AWT_CMD 0 0 fun s => s.awtRead idx)
/-- AWT_WRITE (R458, R460). -/
def execAwtWrite (r : Req) (idx : Fin 1024) (s : State) : Host.Outcome State Fault Refusal := done (s.writing r .BOOT_AWT_CMD 0 0 fun s => s.awtWrite r idx)
/-- PF_PRIV_WRITE (R457). -/
def execPfPrivWrite (r : Req) (v : BitVec 16) (s : State) : Host.Outcome State Fault Refusal := done (s.writing r .BOOT_PF_PRIV 0 0 fun s => s.privWrite r v.toNat)
/-- AWT_DENY_LOG_READ (R557). -/
def execAwtDenyLogRead (r : Req) (s : State) : Host.Outcome State Fault Refusal :=
  done (s.reading r .BOOT_AWT_DENY_LOG 0 0 fun s => (s.emit (.reply r.num (s.regNow .BOOT_AWT_DENY_LOG 0 0))).denyClear)

end Sys2Proof.Machine
end

