-- ==== Sys2Proof/Machine/BasteOps.lean ====
section
/-!
DEFINITION. BASTE_CMD (14.6): STAGE, COMMIT, ABORT and PEEK, and the pending slots of class B fields (R449).
-/
namespace Sys2Proof.Machine

/-- A staging group given a value. -/
def State.setGrp (s : State) (g : Nat) (x : GroupSt) : State := { s with boot := { s.boot with groups := s.boot.groups.set {} g x } }

/-- The state code of a group (Table 14-11): 0 EMPTY, 1 OPEN, 2 ARMED, 3 RELEASING, 4 FAILED. -/
def State.grpState (s : State) (g : Nat) : Nat := s.fld .BOOT_BASTE_GROUP_STATE g
def State.setGrpState (s : State) (g v : Nat) : State := s.setFld .BOOT_BASTE_GROUP_STATE g 0 v

/-- An operation of BASTE_CMD ends with a code; a refusal sets BASTE_REFUSED (R450, R455). -/
def State.basteCode (s : State) (code : Nat) : State := s.setFld .BOOT_BASTE_STATUS_CODE 0 0 code
def State.basteRefuse (s : State) (code : Nat) : State := (s.basteCode code).event .BOOT_EVENT_BASTE_REFUSED

/-- A register of a table engine (R450, R452): 1 STRM, 2 MEND, 3 DMA publisher. -/
def engineOf (g : Reg) : Nat :=
  match g with
  | .STRM_TBL_CMD => 1
  | .MEND_TBL_CMD => 2
  | .DMA_PUB_CMD => 3
  | _ => 0

/-- The contents of an engine's data registers. -/
def State.engineData (s : State) (e : Nat) : Nat := if e = 1 then s.tblData else if e = 2 then s.mTblData else s.pubData

/-- The register that holds a byte offset. -/
def regOver (off : Nat) : Option RegRef := regAt (off / 8 * 8)

/-- A register with a class X field (R450). -/
def Reg.hasX (g : Reg) : Bool := g.fields.any fun f => decide (f.info.cls = Cls.x)

/-- What a staged write captures: the data registers, for a table operation (R450). -/
def State.stagedWrite (s : State) (addr : Nat) (wide : Bool) (v : Nat) : Staged1 :=
  let e := match regAt addr with
    | some x => if wide && bit v 63 then engineOf x.reg else 0
    | none => 0
  { addr := addr, wide := wide, v := if wide then v else v % 2 ^ 32, data := if e = 0 then none else some (s.engineData e) }

/-- A STAGE is refused and counted (R450, Table 16-5). -/
def State.stageRefuse (s : State) (code : Nat) : State := (s.basteRefuse code).bump (devWord 193)

/-- STAGE (R450). -/
def State.basteStage (s : State) (r : Req) (g addr : Nat) (wide : Bool) : State :=
  let x := s.grp g
  let held : Bool := match regOver addr with
    | some y => y.reg.hasX
    | none => false
  if held then s.stageRefuse 1
  else if s.allowed r true 0 addr (if wide then 8 else 4) = false then s.stageRefuse 2
  else if s.bastePlaces ≥ 8192 then s.stageRefuse 3
  else if s.grpState g = 2 ∨ s.grpState g = 3 then s.stageRefuse 4
  else
    let s := if s.grpState g = 0 then s.setGrpState g 1 else s
    (s.setGrp g { x with writes := x.writes ++ [s.stagedWrite addr wide (s.fld .BOOT_BASTE_DATA_DATA)] }).basteCode 0

/-- The time T of a COMMIT. -/
def State.basteTime (s : State) : Nat := timeOf (s.fld .BOOT_BASTE_TIME_SEC_SEC) (s.fld .BOOT_BASTE_TIME_NS_NS) 0

/-- T lies less than 2 ms after the domain's time (R454). -/
def State.basteLate (s : State) (d t : Nat) : Bool := decide (t < s.voted d + 2000000 * nsT)

/-- COMMIT: the group is armed with T, or released at once (R451, R454). -/
def State.basteCommit (s : State) (g d : Nat) : State :=
  let t := s.basteTime
  if s.grpState g ≠ 1 then s.basteRefuse 4
  else
    let late := s.basteLate d t
    let s := s.setGrp g { s.grp g with dom := d, t := t, gclDone := false, late := late }
    if late then
      ((((s.setGrpState g 3).setFld .BOOT_BASTE_STATUS_BUSY 0 0 1).basteCode 0).event .BOOT_EVENT_LATE_COMMIT).bump (devWord 192)
    else (s.setGrpState g 2).basteCode 0

/-- A group back in EMPTY. -/
def State.grpEmpty (s : State) (g : Nat) : State := (s.setGrp g {}).setGrpState g 0

/-- ABORT (R453, R455). -/
def State.basteAbort (s : State) (g : Nat) : State :=
  match s.grpState g with
  | 0 => s.basteRefuse 4
  | 3 => s.basteRefuse 5
  | _ => (s.grpEmpty g).basteCode 0

/-- A register as its pending values would make it: each class B field with a pending value shows it, every other field reads as it stands. -/
def State.pendingReg (s : State) (x : RegRef) : Nat :=
  (x.reg.fields.map fun f => ((s.pendingB x f).getD (s.fieldNow f x.i x.j)) % 2 ^ f.info.width * 2 ^ f.info.lo).sum

/-- PEEK (R449). -/
def State.bastePeek (s : State) (addr : Nat) : State :=
  match regOver addr with
  | none => (s.setFld .BOOT_BASTE_STATUS_PEEK_VALID 0 0 0).basteCode 0
  | some x =>
    if x.reg.fields.any fun f => (s.pendingB x f).isSome then
      ((s.setFld .BOOT_BASTE_DATA_DATA 0 0 (s.pendingReg x)).setFld .BOOT_BASTE_STATUS_PEEK_VALID 0 0 1).basteCode 0
    else (s.setFld .BOOT_BASTE_STATUS_PEEK_VALID 0 0 0).basteCode 0

/-- GO (R455): ignored while BUSY, with BASTE_COLLIDE. -/
def State.basteGo (s : State) (op g d : Nat) (wide : Bool) (addr : Nat) (k : State → State) : State :=
  if s.on .BOOT_BASTE_STATUS_BUSY then s.event .BOOT_EVENT_BASTE_COLLIDE
  else
    k (s.setFlds 0 0 [(.BOOT_BASTE_CMD_OP, op), (.BOOT_BASTE_CMD_GROUP, g), (.BOOT_BASTE_CMD_DOM, d), (.BOOT_BASTE_CMD_WIDTH, b2n wide), (.BOOT_BASTE_CMD_ADDR, addr)])

/-- An OP of BASTE_CMD by its code; an undefined one is refused, with a code that is not stated (Table 14-10, log entry 5). -/
def State.basteOp (s : State) (r : Req) (op g d : Nat) (wide : Bool) (addr : Nat) : State :=
  s.basteGo op g d wide addr fun s =>
    match op with
    | 0 => s.basteStage r g addr wide
    | 1 => s.basteCommit g d
    | 2 => s.basteAbort g
    | 3 => s.bastePeek addr
    | _ => let (c, s) := s.draw; s.basteRefuse c

end Sys2Proof.Machine
end

