-- ==== Sys2Proof/Machine/Dma.lean ====
section
/-!
DEFINITION. The commands of the DMA channels and the Cyclic Publisher (chapter 12), and the resets of functions (R370, R393).
-/
namespace Sys2Proof.Machine

/-- FUNCTION_LEVEL_RESET (R370, R393, R421). -/
def execFunctionLevelReset (pf : Fin 8) (s : State) : Host.Outcome State Fault Refusal := done (s.functionReset pf)
/-- PCIE_LINK_LOSS (R370). -/
def execPcieLinkLoss (s : State) : Host.Outcome State Fault Refusal := done s.linkLoss
/-- DMA_CH_START (R386). -/
def execDmaChStart (r : Req) (ch : Fin 256) (s : State) : Host.Outcome State Fault Refusal :=
  done (s.writing r .DMA_CH_CTRL ch 0 fun s => s.chStart ch)
/-- DMA_CH_STOP (R386). -/
def execDmaChStop (r : Req) (ch : Fin 256) (s : State) : Host.Outcome State Fault Refusal :=
  done (s.writing r .DMA_CH_CTRL ch 0 fun s => s.chStop ch)
/-- DMA_CH_RESET (R386). -/
def execDmaChReset (r : Req) (ch : Fin 256) (s : State) : Host.Outcome State Fault Refusal :=
  done (s.writing r .DMA_CH_CTRL ch 0 fun s => s.chReset ch)
/-- DMA_DESCRIPTOR_FETCH (R378, R390, R392); `host` is what host memory returns. -/
def execDmaDescriptorFetch (ch : Fin 256) (host : BitVec 512) (s : State) : Host.Outcome State Fault Refusal := done (s.chGet ch host.toNat)
/-- DMA_DESCRIPTOR_COMPLETE (R376, R387); `host` is what host memory returns for the elements, in order. -/
def execDmaDescriptorComplete (ch : Fin 256) (host : List Byte) (s : State) : Host.Outcome State Fault Refusal := done (s.chComplete ch host)
/-- DMA_READ_FAIL (R391): a descriptor read, or the source read of element `elems`; `host` as for DMA_DESCRIPTOR_COMPLETE. -/
def execDmaReadFail (ch : Fin 256) (elems : Nat) (host : List Byte) (s : State) : Host.Outcome State Fault Refusal := done (s.chFail ch elems host)
/-- DMA_READ_RETRY (R391). -/
def execDmaReadRetry (ch : Fin 256) (s : State) : Host.Outcome State Fault Refusal := done (s.chRetry ch)
/-- CH_RATE_WRITE (R384). -/
def execChRateWrite (r : Req) (ch : Fin 256) (v : BitVec 64) (s : State) : Host.Outcome State Fault Refusal :=
  done (s.writing r .DMA_CH_RATE ch 0 fun s => s.chRateWrite ch v.toNat)
/-- PUB_GATHER_START (R396). -/
def execPubGatherStart (e : Fin 1024) (s : State) : Host.Outcome State Fault Refusal := done (s.pubGather e)
/-- PUB_GATHER_COMPLETE (R396, R398, R399); `host` is what host memory returns for the gathers, in order. -/
def execPubGatherComplete (e : Fin 1024) (host : List Byte) (fail : Bool) (mend : MendMeet) (s : State) : Host.Outcome State Fault Refusal :=
  done (if s.alive then (s.laneSent mend.lanes).pubComplete e host fail mend.err else s)
/-- PUB_ABANDON (R403). -/
def execPubAbandon (e : Fin 1024) (s : State) : Host.Outcome State Fault Refusal := done (if s.alive then s.pubAbandon e else s)
/-- PUB_READ (R404). -/
def execPubRead (r : Req) (idx : Fin 1024) (s : State) : Host.Outcome State Fault Refusal :=
  done (s.writing r .DMA_PUB_CMD 0 0 fun s => s.pubGo 0 idx fun s => s.setPubData (s.pubE idx).word)
/-- PUB_WRITE (R404). -/
def execPubWrite (r : Req) (idx : Fin 1024) (s : State) : Host.Outcome State Fault Refusal :=
  done (s.writing r .DMA_PUB_CMD 0 0 fun s => s.pubGo 1 idx fun s => s.pubWrite idx)
/-- PUB_OP_COMPLETE (R404). -/
def execPubOpComplete (s : State) : Host.Outcome State Fault Refusal := done (s.powered fun s => s.pubOpDone)

end Sys2Proof.Machine
end

