-- ==== Sys2Proof/Machine/NvmOps.lean ====
section
/-!
DEFINITION. NVM_CMD (R461): what is refused, the moves between a sector and the NVM buffer window, and the OTP operations.
-/
namespace Sys2Proof.Machine

/-- Recovery or Stay-Down: the states of maintenance. -/
def DevState.maintenance : DevState → Bool
  | .recovery | .stayDown => true
  | _ => false

/-- The states in which the slot that was booted is not written. -/
def DevState.slotHeld : DevState → Bool
  | .acquire | .test | .solo | .lead | .shadow => true
  | _ => false

/-- The first byte of Pattern slot k (R429). -/
def State.slotBase (s : State) (k : Nat) : Nat := 0x10_0000 + k * s.boot.slotMb * 0x10_0000

/-- A PROGRAM or ERASE of a sector is refused (R461). -/
def State.sectorKept (s : State) (sector : Nat) : Bool :=
  let a := sector * 4096
  let used := s.slotBase (s.recF 17 1)
  (decide (0x1_0000 ≤ a) && decide (a < 0xA_0000)) || (decide (a < 0x3000) && !s.dev.maintenance)
    || (s.dev.slotHeld && decide (used ≤ a) && decide (a < used + s.boot.slotMb * 0x10_0000))

/-- The command in progress ends with a code. -/
def State.nvmCode (s : State) (code : Nat) : State := { s with boot := { s.boot with nvmCode := code } }

/-- GO (R461, Table 14-13): ignored while BUSY; in Fail-Silent, and for an undefined OP, the operation is refused. -/
def State.nvmGo (s : State) (op slot sector : Nat) (k : State → State) : State :=
  if s.on .BOOT_NVM_STATUS_BUSY then s
  else
    let s := s.setFlds 0 0 [(.BOOT_NVM_CMD_OP, op), (.BOOT_NVM_CMD_KEY_SLOT, slot), (.BOOT_NVM_CMD_SECTOR, sector), (.BOOT_NVM_STATUS_BUSY, 1)]
    if s.dev = .failSilent ∨ 5 ≤ op then s.nvmCode 1 else k s

/-- READ: a sector copied into the buffer; with an error of the NVM nothing is copied. -/
def State.nvmRead (s : State) (sector : Nat) (err : Bool) : State :=
  if err then s.nvmCode 3
  else { s with boot := { s.boot with nvmBuf := Memory.writeBytes [] 0 (s.nvmBytes (sector * 4096) 4096) } }.nvmCode 0

/-- A sector given new contents. -/
def State.sectorPut (s : State) (sector : Nat) (bs : List Byte) : State := (s.nvmErase (sector * 4096) 4096).nvmPut (sector * 4096) (bs.take 4096)

/-- PROGRAM: the sector written from the buffer and read back. -/
def State.nvmProgram (s : State) (sector : Nat) (res : NvmRes) : State :=
  if s.sectorKept sector then s.nvmCode 1
  else
    match res with
    | .ok => (s.sectorPut sector (s.boot.nvmBuf.readBytes 0 4096)).nvmCode 0
    | .error got => (s.sectorPut sector got).nvmCode 3
    | .mismatch got => (s.sectorPut sector got).nvmCode 4

/-- ERASE. -/
def State.nvmEraseCmd (s : State) (sector : Nat) (res : NvmRes) : State :=
  if s.sectorKept sector then s.nvmCode 1
  else
    match res with
    | .ok => (s.sectorPut sector []).nvmCode 0
    | .error got => (s.sectorPut sector got).nvmCode 3
    | .mismatch got => (s.sectorPut sector got).nvmCode 3

/-- OTP_KEY: the first 48 bytes of the buffer become the digest of a slot that holds none, in Recovery only. -/
def State.otpKey (s : State) (slot : Nat) : State :=
  if s.dev ≠ .recovery ∨ (s.boot.otpKey.get none slot).isSome then s.nvmCode 1
  else { s with boot := { s.boot with otpKey := s.boot.otpKey.set none slot (some (beNat (s.boot.nvmBuf.readBytes 0 48))) } }.nvmCode 0

/-- OTP_REVOKE: the revoke bit of a slot is blown, in Recovery only. -/
def State.otpRevoke (s : State) (slot : Nat) : State :=
  if s.dev ≠ .recovery then s.nvmCode 1 else { s with boot := { s.boot with otpRevoked := setBit s.boot.otpRevoked slot } }.nvmCode 0

/-- The command ends and reports its code (Tables 14-13 and 14-14). -/
def State.nvmDone (s : State) : State :=
  if s.on .BOOT_NVM_STATUS_BUSY then
    let c := s.boot.nvmCode
    let s := (s.setFlds 0 0 [(.BOOT_NVM_STATUS_BUSY, 0), (.BOOT_NVM_STATUS_CODE, c)]).event .BOOT_EVENT_NVM_DONE
    if c = 0 then s else s.event .BOOT_EVENT_NVM_ERR
  else s

end Sys2Proof.Machine
end

