-- ==== Sys2Proof/Machine/Nvm.lean ====
section
/-!
DEFINITION. The commands of the NVM and of the OTP fuses (14.8).
-/
namespace Sys2Proof.Machine

/-- NVM_READ (R461). -/
def execNvmRead (r : Req) (sector : BitVec 17) (err : Bool) (s : State) : Host.Outcome State Fault Refusal :=
  done (s.writing r .BOOT_NVM_CMD 0 0 fun s => s.nvmGo 0 (s.fld .BOOT_NVM_CMD_KEY_SLOT) sector.toNat fun s => s.nvmRead sector.toNat err)
/-- NVM_PROGRAM (R461). -/
def execNvmProgram (r : Req) (sector : BitVec 17) (res : NvmRes) (s : State) : Host.Outcome State Fault Refusal :=
  done (s.writing r .BOOT_NVM_CMD 0 0 fun s => s.nvmGo 1 (s.fld .BOOT_NVM_CMD_KEY_SLOT) sector.toNat fun s => s.nvmProgram sector.toNat res)
/-- NVM_ERASE (R461). -/
def execNvmErase (r : Req) (sector : BitVec 17) (res : NvmRes) (s : State) : Host.Outcome State Fault Refusal :=
  done (s.writing r .BOOT_NVM_CMD 0 0 fun s => s.nvmGo 2 (s.fld .BOOT_NVM_CMD_KEY_SLOT) sector.toNat fun s => s.nvmEraseCmd sector.toNat res)
/-- OTP_KEY (R436, R461). -/
def execOtpKey (r : Req) (slot : Fin 4) (s : State) : Host.Outcome State Fault Refusal :=
  done (s.writing r .BOOT_NVM_CMD 0 0 fun s => s.nvmGo 3 slot (s.fld .BOOT_NVM_CMD_SECTOR) fun s => s.otpKey slot)
/-- OTP_REVOKE (R436, R461). -/
def execOtpRevoke (r : Req) (slot : Fin 4) (s : State) : Host.Outcome State Fault Refusal :=
  done (s.writing r .BOOT_NVM_CMD 0 0 fun s => s.nvmGo 4 slot (s.fld .BOOT_NVM_CMD_SECTOR) fun s => s.otpRevoke slot)
/-- NVM_CMD_COMPLETE (R461). -/
def execNvmCmdComplete (s : State) : Host.Outcome State Fault Refusal := done (s.powered State.nvmDone)

end Sys2Proof.Machine
end

