-- ==== Sys2Proof/Machine/Pair.lean ====
section
/-!
DEFINITION. The commands of the redundant pair (chapter 15).
-/
namespace Sys2Proof.Machine

/-- TOKEN_REFRESH (R481). -/
def execTokenRefresh (s : State) : Host.Outcome State Fault Refusal := done s.tokenRefresh
/-- TOKEN_DRIVER_TIMEOUT (R481). -/
def execTokenDriverTimeout (s : State) : Host.Outcome State Fault Refusal := done s.tokenTimeout
/-- TOKEN_READBACK_FAULT (R481, R492). -/
def execTokenReadbackFault (s : State) : Host.Outcome State Fault Refusal := done s.tokenFault
/-- HEARTBEAT_SEND (R488, R480). -/
def execHeartbeatSend (s : State) : Host.Outcome State Fault Refusal := done s.beatSend
/-- HEARTBEAT_RECEIVED (R487, R488): a record of PL0 (0) or PL1 (1), or an edge of OVL_BEAT_IN (2); `tokenLow` is the level of OVL_TOKEN. -/
def execHeartbeatReceived (path : Fin 3) (crcOk : Bool) (role : Fin 5) (st : Fin 10) (worst : Fin 4) (ready : Bool) (id : BitVec 12) (tokenLow : Bool) (s : State) :
    Host.Outcome State Fault Refusal := done (s.beatIn path crcOk role st worst ready id.toNat tokenLow)
/-- HEARTBEAT_SILENCE (R485, R486, R492). -/
def execHeartbeatSilence (tokenLow : Bool) (s : State) : Host.Outcome State Fault Refusal := done (s.silence tokenLow)
/-- OVL_FS_ASSERTED (R485, R492). -/
def execOvlFsAsserted (tokenLow : Bool) (s : State) : Host.Outcome State Fault Refusal := done (s.powered fun s => s.fsAsserted tokenLow)
/-- OVL_TOKEN_RELEASED (R492). -/
def execOvlTokenReleased (s : State) : Host.Outcome State Fault Refusal := done (s.powered State.tokenReleased)
/-- PEER_UNKNOWN_TIMEOUT (R486). -/
def execPeerUnknownTimeout (s : State) : Host.Outcome State Fault Refusal := done (s.powered State.peerUnknown)
/-- PAIR_LANE_DOWN (R487). -/
def execPairLaneDown (lane : Fin 2) (s : State) : Host.Outcome State Fault Refusal := done (s.powered fun s => s.laneDown lane)
/-- TAKEOVER_PASSAGE (R493). -/
def execTakeoverPassage (s : State) : Host.Outcome State Fault Refusal := done (s.powered State.passage)
/-- SERVO_RECORD_APPLY (R491). -/
def execServoRecordApply (d : Dom) (rate : BitVec 32) (integ hold : Int) (st : Fin 5) (s : State) : Host.Outcome State Fault Refusal :=
  done (s.powered fun s => s.servoKeep d rate.toNat integ hold st)
/-- GCL_RECORD_APPLY (R490): times in 2^-40 ns. -/
def execGclRecordApply (p : Port) (ents : List (BitVec 64)) (base cycle : Nat) (ext tid : BitVec 32) (slots : List (BitVec 64)) (s : State) :
    Host.Outcome State Fault Refusal :=
  done (s.powered fun s => s.gclMirror p (ents.map BitVec.toNat) base cycle ext.toNat tid.toNat (slots.map BitVec.toNat))
/-- MIRROR_CRC_COMPARE (R490). -/
def execMirrorCrcCompare (p : Port) (same : Bool) (s : State) : Host.Outcome State Fault Refusal := done (if same then s else s.mirrorDiffer p)
/-- SWAP_REQUEST (R495): a write of PAIR.SWAP_CMD with GO. -/
def execSwapRequest (r : Req) (s : State) : Host.Outcome State Fault Refusal := done (s.writing r .PAIR_SWAP_CMD 0 0 State.swapRequest)
/-- DRILL_TIMER (R498). -/
def execDrillTimer (s : State) : Host.Outcome State Fault Refusal := done s.drillDue
/-- SWAP_REQ_RECEIVED (R495): T_swap in ms. -/
def execSwapReqReceived (t : Nat) (s : State) : Host.Outcome State Fault Refusal := done (s.swapAsked t)
/-- SWAP_ACK_RECEIVED (R495). -/
def execSwapAckReceived (accept : Bool) (s : State) : Host.Outcome State Fault Refusal := done (if s.alive then s.swapAnswered accept else s)
/-- SWAP_POSTPONE_EXPIRY (R495). -/
def execSwapPostponeExpiry (s : State) : Host.Outcome State Fault Refusal := done s.postponeOver
/-- SWAP_TOKEN_DRIVE (R497). -/
def execSwapTokenDrive (s : State) : Host.Outcome State Fault Refusal := done s.swapToken
/-- SWAP_EXECUTE (R496). -/
def execSwapExecute (s : State) : Host.Outcome State Fault Refusal := done s.swapExecute
/-- SWAP_TOKEN_RELEASE (R497). -/
def execSwapTokenRelease (s : State) : Host.Outcome State Fault Refusal := done s.swapFree
/-- PEER_CMD_READ (R504). -/
def execPeerCmdRead (r : Req) (op : Fin 8) (page : BitVec 10) (s : State) : Host.Outcome State Fault Refusal :=
  done (s.writing r .PAIR_PEER_CMD 0 0 fun s => s.peerCmd r op page.toNat)
/-- PEER_READ_RECEIVED (R504). -/
def execPeerReadReceived (regs : Bool) (page : BitVec 10) (s : State) : Host.Outcome State Fault Refusal := done (s.peerAnswer regs page.toNat)
/-- PEER_DATA_RECEIVED (R504). -/
def execPeerDataReceived (d : List Byte) (s : State) : Host.Outcome State Fault Refusal := done (s.powered fun s => s.peerData d)
/-- PEER_READ_TIMEOUT (R504). -/
def execPeerReadTimeout (s : State) : Host.Outcome State Fault Refusal := done (s.powered State.peerTimeout)

end Sys2Proof.Machine
end

