-- ==== Sys2Proof/Machine/TapeOps.lean ====
section
/-!
DEFINITION. Tape (chapter 16): slot accounting, output areas, periodic dumps, Chalk records, counter commands.
-/
namespace Sys2Proof.Machine

/-! ## Slot accounting and level events (R514 to R516) -/

/-- The port has a frame queued, held in a path or staged, a BEACON among them (R302, R516). -/
def State.frameWaits (s : State) (p : Nat) : Bool :=
  let x := s.pt p
  x.express.isSome || x.preempt.isSome || x.retry.isSome || !x.staged.isEmpty || x.mdp.staged.isSome || (List.range 128).any fun n => !(s.qu (128 * p + n)).frames.isEmpty

/-- A frame held in a path is kept off the wire by the Hem, a hold or EXPRESS_ONLY: its local queue (Table 16-8, code 11). -/
def State.hemHeld (s : State) (p : Nat) : List Nat :=
  let x := s.pt p
  let t : Int := s.nowD p
  if x.tx.isSome then []
  else
    (match x.express with
      | some f => if s.expressFits p t (s.wholeT p (s.editFrame p f.fr).length + s.gapT p) then [] else [qLocal f.fr.q]
      | none => []) ++
    (match x.preempt with
      | some f =>
        if x.holdApplied || s.expressOnly p t false || s.inTrain p t || (s.fragPlan p t (f.bytes.length - f.sent)).isNone then [qLocal f.fr.q] else []
      | none => [])

/-- Local queues of a port for which the condition of a level event of a queue holds (Table 16-8). -/
def State.levelQueues (s : State) (p code : Nat) : List Nat :=
  match code with
  | 8 => (List.range 128).filter fun n => !(s.qu (128 * p + n)).frames.isEmpty && (s.qu (128 * p + n)).park.isSome
  | 9 => (List.range 128).filter fun n => !(s.qu (128 * p + n)).frames.isEmpty && s.paused p (n / 16)
  | 10 => (List.range 128).filter fun n => !(s.qu (128 * p + n)).frames.isEmpty && !s.gateOpen p (n / 16)
  | 11 => s.hemHeld p
  | 12 => (s.pt p).staged.map fun f => qLocal f.fr.q
  | 13 => (List.range 128).filter fun n => (s.qu (128 * p + n)).urgent.isSome
  | _ => []

/-- Deferral or back-off on a multidrop port (Table 16-8, code 17). -/
def State.defers (s : State) (p : Nat) : Bool :=
  multidrop p && s.frameWaits p && ((s.pt p).mac.carrier || decide (s.lNow < (s.pt p).mac.mayStart) || (s.pt p).mac.backoffEnd.any fun b => decide (s.lNow < b))

/-- The condition of a level event holds at a port for a class mask and a qualifier; `word` is the word of an idle slot. -/
def State.levelHolds (s : State) (p code mask : Nat) (qual : Option Nat) (word : Option Nat) : Bool :=
  if code = 17 then qual.isNone && s.defers p
  else if code = 18 then qual.isNone && word == some 62
  else if code = 19 then qual.isNone && word == some 61
  else (s.levelQueues p code).any fun n => mask.testBit (n / 16) && qual.all fun v => v == n

/-- The counters in level mode at the midpoint of a slot (R514). -/
def State.levelCount (s : State) (p : Nat) (word : Option Nat) : State :=
  (List.range 8).foldl (fun a i =>
    let m := s.fld .TAPE_PEC_CFG_TC_MASK p i
    let qual := if s.on .TAPE_PEC_CFG_QUAL_EN p i then some (s.fld .TAPE_PEC_CFG_QUAL p i) else none
    if s.on .TAPE_PEC_CFG_EN p i && s.on .TAPE_PEC_CFG_MODE p i && s.levelHolds p (s.fld .TAPE_PEC_CFG_EVENT p i) (if m = 0 then 255 else m) qual word then
      a.portCount p (64 + i)
    else a) s

/-- The idle slot classified is at its end: it is counted (R516). -/
def State.slotClose (s : State) (p : Nat) : State :=
  let x := s.slotAcct p
  match x.idle with
  | some w => if x.upAt + x.n * s.slotT p ≤ s.lNow then (s.setSlotAcct p { x with idle := none }).portCount p w else s
  | none => s

/-- What the wire carries at a slot's midpoint: `none` no transmission, `some none` one that has not ended, `some (some good)` the gap after one that ended. -/
def State.onWire (s : State) (p : Nat) : Option (Option Bool) :=
  match (s.pt p).tx with
  | some t =>
    if t.startL ≤ s.lNow then some none
    else if s.lNow < (s.pt p).lastEnd + s.gapT p then some (some (s.slotAcct p).lastGood) else none
  | none => if s.lNow < (s.pt p).lastEnd + s.gapT p then some (some (s.slotAcct p).lastGood) else none

/-- The slot at its midpoint (R516): transmitting, back-starved or front-starved. -/
def State.slotMid (s : State) (p : Nat) : State :=
  let x := { s.slotAcct p with n := (s.slotAcct p).n + 1 }
  match s.onWire p with
  | some none => (s.setSlotAcct p { x with tx := x.tx + 1 }).levelCount p none
  | some (some good) => ((s.setSlotAcct p x).portCount p (if good then 59 else 60)).levelCount p none
  | none =>
    let w := if s.frameWaits p then 62 else 61
    (s.setSlotAcct p { x with idle := some w }).levelCount p (some w)

/-- A slot's midpoint or end, when it is due (R515, R516). -/
def State.slotClassify (s : State) (p : Nat) : State :=
  if !s.alive ∨ s.linkState p ≠ 6 ∨ s.slotT p = 0 then s
  else
    let s := s.slotClose p
    let x := s.slotAcct p
    if x.upAt + x.n * s.slotT p + s.slotT p / 2 ≤ s.lNow ∧ x.idle.isNone then s.slotMid p else s

/-! ## Output areas (R517, R518) -/

/-- Lines of an area. -/
def State.areaSize (s : State) (a : Nat) : Nat := 2 ^ s.fld .TAPE_OUT_CFG_SIZE_LOG2 a

/-- A record of `n` lines fits an area (R518). -/
def State.areaFits (s : State) (a n : Nat) : Bool :=
  s.on .TAPE_OUT_CFG_WRAP a || decide (n + diff32 (s.fld .TAPE_OUT_PI_PI a) (s.fld .TAPE_OUT_CI_CI a) ≤ s.areaSize a)

/-- Bytes written to a space at rising addresses: host writes with a function's requester ID; bytes outside the installed memory are lost (R517, R548). -/
def State.areaPut (s : State) (space pf addr : Nat) (noSnoop : Bool) (bytes : List Byte) : State :=
  match space with
  | 0 => s.hostPut pf addr (hostAttr false noSnoop) bytes
  | 1 => if s.spaceHas 1 addr bytes.length && !s.thim.dramFailed then { s with dram := s.dram.writeBytes addr bytes } else s
  | 2 => if s.spaceHas 2 addr bytes.length then s.localPut addr bytes else s
  | _ => s

/-- The writes of an area can be issued: to host space while the link is up and the function's Bus Master Enable is 1 (R330). -/
def State.areaGoes (s : State) (a : Nat) : Bool :=
  s.fld .TAPE_OUT_CFG_SPACE a != 0 || (s.hif.link && (s.pfn (s.fld .TAPE_OUT_CFG_PF a)).busMaster)

/-- One line of 64 bytes written to an area; OUT_PI advances after it (R517). -/
def State.areaLine (s : State) (a : Nat) (bytes : List Byte) : State :=
  let i := s.fld .TAPE_OUT_PI_PI a
  let s := s.areaPut (s.fld .TAPE_OUT_CFG_SPACE a) (s.fld .TAPE_OUT_CFG_PF a) (s.fld .TAPE_OUT_BASE_BASE a * 4096 + i % s.areaSize a * 64)
    (s.on .TAPE_OUT_CFG_NO_SNOOP a) bytes
  s.setFld .TAPE_OUT_PI_PI a 0 (i + 1)

/-- A record that does not fit is lost whole and its lines counted (R518). -/
def State.areaLost (s : State) (a n : Nat) : State := (s.bump (devWord (248 + a)) n).event .TAPE_EVENT_OUT_LOST

/-- 64-bit words cut into lines of 64 bytes. -/
def wordLines : List Nat → List (List Byte)
  | a :: b :: c :: d :: e :: f :: g :: h :: t => ([a, b, c, d, e, f, g, h].map (leBytes 8)).flatten :: wordLines t
  | _ => []

/-! ## Periodic dumps (R519 to R522) -/

def State.dumpOf (s : State) (j : Nat) : DumpSt := s.tape.dump.get {} j
def State.setDump (s : State) (j : Nat) (x : DumpSt) : State := { s with tape := { s.tape with dump := s.tape.dump.set {} j x } }

/-- The domain and the period of a program; a time of that domain (8 for L). -/
def State.dumpDom (s : State) (j : Nat) : Nat := s.fld .TAPE_DUMP_CFG_DOM j
def State.dumpPeriod (s : State) (j : Nat) : Nat := s.fld .TAPE_DUMP_CFG_PERIOD j * nsT

/-- The first instant of a program after a time (R519). -/
def dumpAfter (period t : Nat) : Nat := if period = 0 then t + 1 else (t / period + 1) * period

/-- The program starts: its next instant. -/
def State.dumpStart (s : State) (j : Nat) : State :=
  s.setDump j { s.dumpOf j with next := some (dumpAfter (s.dumpPeriod j) (s.voted (s.dumpDom j))) }

/-- The bolts of a program. -/
def State.dumpBolts (s : State) (j : Nat) : List Nat := (List.range 8).filter fun b => (s.fld .TAPE_DUMP_CFG_BOLT_MASK j).testBit b

/-- `n` counter words from a word on. -/
def State.ctrWords (s : State) (a n : Nat) : List Nat := (List.range n).map fun k => s.wordNow (a + k)

/-- The words of one SEL bit, in order (R521). -/
def State.dumpPart (s : State) (bolts : List Nat) (k : Nat) : List Nat :=
  match k with
  | 0 => (bolts.map fun b => ((List.range 16).map fun l => s.ctrWords (portWord (16 * b + l) 0) 72).flatten).flatten
  | 1 => (bolts.map fun b => s.ctrWords (queueWord (2048 * b) 0) 8192).flatten
  | 2 => (bolts.map fun b => (List.range 2048).map fun n => s.regNow .SHTL_Q_STAT (16 * b + n / 128) (n % 128)).flatten
  | 3 => (bolts.map fun b => s.ctrWords (boltWord b 0) 512).flatten
  | 4 => s.ctrWords (devWord 0) 4096
  | 5 => s.ctrWords (chanWord 0 0) 2048
  | 6 => s.ctrWords (pubWord 0 2) 8192
  | _ => s.ctrWords (ringWord 0 0) 131072

/-- The payload of a dump (R521). -/
def State.dumpPayload (s : State) (j : Nat) : List Nat :=
  ((List.range 8).map fun k => if (s.fld .TAPE_DUMP_CFG_SEL j).testBit k then s.dumpPart (s.dumpBolts j) k else []).flatten

/-- The header line (Table 16-9). -/
def State.dumpHeader (s : State) (j t lines : Nat) : List Nat :=
  let x := s.dumpOf j
  let d := s.dumpDom j
  let oos := decide (d < 8) && !s.inSync d
  let bs := [0xD1#8] ++ leBytes 1 j ++ leBytes 2 lines ++ leBytes 4 x.seq ++ leBytes 6 (secOf t) ++ leBytes 4 (nsOf t) ++ leBytes 1 d ++ leBytes 1 (b2n oos)
    ++ leBytes 4 x.skipped ++ leBytes 8 s.lNs ++ leBytes 8 s.lNs ++ leBytes 1 (s.fld .TAPE_DUMP_CFG_SEL j) ++ leBytes 1 (s.fld .TAPE_DUMP_CFG_BOLT_MASK j)
  (List.range 8).map fun k => leNat ((bs.drop (8 * k)).take 8)

/-- `n` instants of a program are skipped (R520, R522). -/
def State.dumpSkip (s : State) (j n : Nat) : State :=
  if n = 0 then s
  else ((s.setDump j { s.dumpOf j with skipped := ((s.dumpOf j).skipped + n) % 2 ^ 32 }).bump (devWord (244 + j)) n).event .TAPE_EVENT_DUMP_SKIP

/-- A dump instant, when it is due (R519, R522). -/
def State.dumpInstant (s : State) (j : Nat) : State :=
  match (s.dumpOf j).next with
  | none => s
  | some t =>
    if !s.alive ∨ !s.on .TAPE_DUMP_CFG_EN j ∨ s.voted (s.dumpDom j) < t then s
    else
      let s := s.setDump j { s.dumpOf j with next := some (dumpAfter (s.dumpPeriod j) t) }
      if (s.dumpOf j).captured.isSome then s.dumpSkip j 1
      else
        let w := s.dumpPayload j
        s.setDump j { s.dumpOf j with captured := some (s.dumpHeader j t (w.length / 8) ++ w) }

/-- A captured dump is written to its area whole, or dropped (R518, R521); it waits while the area's writes cannot be issued. -/
def State.dumpWritten (s : State) (j : Nat) : State :=
  match (s.dumpOf j).captured with
  | none => s
  | some w =>
    if !s.alive || !s.areaGoes j then s
    else
      let lines := wordLines w
      let s := s.setDump j { s.dumpOf j with captured := none }
      if s.areaFits j lines.length then
        let s := lines.foldl (fun a l => a.areaLine j l) s
        let told := w.getD 2 0 / 2 ^ 32
        (s.setDump j { s.dumpOf j with seq := ((s.dumpOf j).seq + 1) % 2 ^ 32, skipped := (s.dumpOf j).skipped - told }).bump (devWord (240 + j))
      else s.areaLost j lines.length

/-- A forward step of a domain skips the instants at or before its new time (R520). -/
def State.dumpStepOne (s : State) (d new j : Nat) : State :=
  match (s.dumpOf j).next with
  | none => s
  | some t =>
    let period := s.dumpPeriod j
    if s.dumpDom j ≠ d ∨ !s.on .TAPE_DUMP_CFG_EN j ∨ new < t ∨ period = 0 then s
    else (s.setDump j { s.dumpOf j with next := some (dumpAfter period new) }).dumpSkip j ((new - t) / period + 1)

def State.dumpStep (s : State) (d new : Nat) : State := (List.range 4).foldl (fun a j => a.dumpStepOne d new j) s

/-! ## Chalk (R523 to R525) -/

/-- The tokens of the Chalk bucket now, in units of a nanosecond of a record's 1,000 ns. -/
def State.chalkTokens (s : State) : Nat := min 256000 (s.tape.chalkTok + (s.lNs - s.tape.chalkL))

/-- The next final fate is recorded in area 4, or lost (R525); it waits while the area's writes cannot be issued. -/
def State.chalkNext (s : State) : State :=
  match s.tape.fates with
  | [] => s
  | rec :: rest =>
    let tok := s.chalkTokens
    if !s.alive then s
    else if !s.on .TAPE_CTRL_CHALK_RUN then { s with tape := { s.tape with fates := rest } }
    else if !s.areaGoes 4 then s
    else
      let s := { s with tape := { s.tape with fates := rest, chalkTok := if tok < 1000 then tok else tok - 1000, chalkL := s.lNs } }
      if tok < 1000 then (s.bump (devWord 253)).event .TAPE_EVENT_CHALK_LOST
      else if s.areaFits 4 1 then (s.areaLine 4 rec).bump (devWord 252)
      else (s.bump (devWord 254)).event .TAPE_EVENT_OUT_LOST

/-- The seed of an LFSR as R293 states it, for a port, or 128 for the device (R523). -/
def State.lfsrSeedOf (s : State) (p : Nat) : Nat := Config.lfsrSeed (s.lNs % 65536) (s.fld .BOOT_STATUS_DEV_ID) p

/-- CHALK_CFG.EN written 1 (R523). -/
def State.chalkOn (s : State) (p : Nat) : State := { s with tape := { s.tape with lfsr := s.tape.lfsr.set 0 p (s.lfsrSeedOf p) } }

/-! ## Programmable counters (R514) -/

/-- A write of PEC_CFG[i] clears its counter. -/
def State.pecWrite (s : State) (p i v : Nat) : State :=
  let s := s.setFlds p i [(.TAPE_PEC_CFG_EN, bits v 31 31), (.TAPE_PEC_CFG_MODE, bits v 30 30), (.TAPE_PEC_CFG_EVENT, bits v 29 24),
    (.TAPE_PEC_CFG_TC_MASK, bits v 23 16), (.TAPE_PEC_CFG_QUAL, bits v 15 8), (.TAPE_PEC_CFG_QUAL_EN, bits v 7 7)]
  { s with tape := { s.tape with ctr := s.tape.ctr.set 0 (portWord p (64 + i)) 0 } }

/-! ## Counter commands (R507, R513, R527) -/

/-- First word, words of a block and blocks of a group (Table 16-1). -/
def groupOf (g : Nat) : Nat × Nat × Nat :=
  match g with
  | 0 => (portWord 0 0, 0x80, 128)
  | 1 => (queueWord 0 0, 4, 16384)
  | 2 => (boltWord 0 0, 0x200, 8)
  | 3 => (devWord 0, 4096, 1)
  | 4 => (chanWord 0 0, 8, 256)
  | 5 => (pubWord 0 2, 8, 1024)
  | 6 => (ringWord 0 0, 8, 16384)
  | _ => (0, 8, 262144)

/-- Recovery function counters are kept (R513). -/
def State.tcntKept (s : State) : Bool := s.on .TAPE_TCNT_BASE_EN && !s.dramless

/-- Words of the device block that are values and no counters (Table 16-5). -/
def valueWord (a : Nat) : Bool := (decide (devWord 32 ≤ a) && decide (a ≤ devWord 34)) || a == devWord 176 || a == devWord 177

/-- A table with the values at the keys from `a` up to `a + n` changed. -/
def mapRange (t : Tbl Nat) (a n : Nat) (f : Nat → Nat) : Tbl Nat :=
  t.filterMap fun e =>
    if a ≤ e.1 ∧ e.1 < a + n ∧ !valueWord e.1 then (if f e.2 = 0 then none else some (e.1, f e.2)) else some e

/-- The counters of blocks are cleared, or their OVF bits: for function counters in their own table, marked for the next write-back. -/
def State.ctrClear (s : State) (g first blocks : Nat) (f : Nat → Nat) : State :=
  let (base, n, _) := groupOf g
  if g = 7 then
    let func := s.tape.func.filterMap fun e =>
      if first * 8 ≤ e.1 ∧ e.1 < (first + blocks) * 8 then (if f e.2 = 0 then none else some (e.1, f e.2)) else some e
    let touched := ((s.tape.func.map fun e => e.1 / 8).filter fun i => decide (first ≤ i) && decide (i < first + blocks)).eraseDups
    { s with tape := { s.tape with func := func, dirty := s.tape.dirty ++ touched.filter fun i => !s.tape.dirty.contains i } }
  else { s with tape := { s.tape with ctr := mapRange s.tape.ctr (base + first * n) (blocks * n) f } }

/-- A completion code of the counter command under way. -/
def State.cntCode (s : State) (code : Nat) : State := { s with tape := { s.tape with cmdCode := code } }

/-- CNT_CMD with GO: ignored while BUSY (R527); an undefined OP is refused (Table 16-12). -/
def State.cntGo (s : State) (op group : Nat) (all : Bool) (idx : Nat) (k : State → State) : State :=
  if s.on .TAPE_CNT_STATUS_BUSY then s
  else
    let s := s.setFlds 0 0 [(.TAPE_CNT_CMD_OP, op), (.TAPE_CNT_CMD_GROUP, group), (.TAPE_CNT_CMD_ALL, b2n all), (.TAPE_CNT_CMD_INDEX, idx)]
    if 3 ≤ op then s.event .TAPE_EVENT_BAD_CFG else k (s.setFld .TAPE_CNT_STATUS_BUSY 0 0 1)

/-- CLEAR and CLEAR_OVF of a block or a group. -/
def State.cntClear (s : State) (group : Nat) (all : Bool) (idx : Nat) (f : Nat → Nat) : State :=
  if 8 ≤ group then s.cntCode 7
  else if group = 7 ∧ !s.tcntKept then s.cntCode 1
  else if all then (s.ctrClear group 0 (groupOf group).2.2 f).cntCode 0
  else if (groupOf group).2.2 ≤ idx then s.cntCode 6
  else (s.ctrClear group idx 1 f).cntCode 0

/-- The block of a function met an uncorrectable error: COUNT 0 with OVF = 1 in its words (R513). -/
def State.funcLost (s : State) (i : Nat) : State :=
  { s with tape := { s.tape with func := (List.range 8).foldl (fun t w => t.set 0 (8 * i + w) (2 ^ 63)) s.tape.func } }

/-- READ_FUNC (R513). -/
def State.cntReadFunc (s : State) (idx : Nat) (err : Bool) : State :=
  if !s.tcntKept then s.cntCode 1
  else if 262144 ≤ idx then s.cntCode 6
  else
    let s := if err then s.funcLost idx else s
    (List.range 8).foldl (fun a w => a.setFld .TAPE_CNT_DATA_WORD w 0 (s.tape.func.get 0 (8 * idx + w))) (s.cntCode 0)

/-- The command ends (R527). -/
def State.cntDone (s : State) : State :=
  if s.on .TAPE_CNT_STATUS_BUSY then
    (s.setFlds 0 0 [(.TAPE_CNT_STATUS_BUSY, 0), (.TAPE_CNT_STATUS_CODE, s.tape.cmdCode)]).event .TAPE_EVENT_CNT_DONE
  else s

/-- The changed blocks are written back to DRAM; `bad` are blocks that met an uncorrectable error there (R513). -/
def State.tcntWriteback (s : State) (bad : List Nat) : State :=
  if !s.tcntKept ∨ s.thim.dramFailed then s
  else
    let s := bad.foldl State.funcLost s
    let base := s.fld .TAPE_TCNT_BASE_BASE * 2 ^ 24
    let s := (s.tape.dirty ++ bad).foldl (fun a i =>
      a.areaPut 1 0 (base + 64 * i) false ((List.range 8).map fun w => leBytes 8 (a.tape.func.get 0 (8 * i + w))).flatten) s
    { s with tape := { s.tape with dirty := [] } }

end Sys2Proof.Machine
end

