-- ==== Sys2Proof/Machine/Tape.lean ====
section
/-!
DEFINITION. The commands of Tape (chapter 16).
-/
namespace Sys2Proof.Machine

/-- DUMP_INSTANT (R519). -/
def execDumpInstant (j : Fin 4) (s : State) : Host.Outcome State Fault Refusal := done (s.dumpInstant j)
/-- DUMP_WRITTEN (R518). -/
def execDumpWritten (j : Fin 4) (s : State) : Host.Outcome State Fault Refusal := done (s.dumpWritten j)
/-- CHALK_RECORD (R524, R525). -/
def execChalkRecord (s : State) : Host.Outcome State Fault Refusal := done s.chalkNext
/-- SLOT_CLASSIFY (R515, R516). -/
def execSlotClassify (p : Port) (s : State) : Host.Outcome State Fault Refusal := done (s.slotClassify p)
/-- CNT_CLEAR (R507). -/
def execCntClear (r : Req) (group : Fin 16) (all : Bool) (idx : BitVec 24) (s : State) : Host.Outcome State Fault Refusal :=
  done (s.writing r .TAPE_CNT_CMD 0 0 fun s => s.cntGo 0 group all idx.toNat fun s => s.cntClear group all idx.toNat fun _ => 0)
/-- CNT_CLEAR_OVF (R527). -/
def execCntClearOvf (r : Req) (group : Fin 16) (all : Bool) (idx : BitVec 24) (s : State) : Host.Outcome State Fault Refusal :=
  done (s.writing r .TAPE_CNT_CMD 0 0 fun s => s.cntGo 1 group all idx.toNat fun s => s.cntClear group all idx.toNat fun w => clearBit w 63)
/-- CNT_READ_FUNC (R513). -/
def execCntReadFunc (r : Req) (idx : BitVec 24) (err : Bool) (s : State) : Host.Outcome State Fault Refusal :=
  done (s.writing r .TAPE_CNT_CMD 0 0 fun s => s.cntGo 2 7 false idx.toNat fun s => s.cntReadFunc idx.toNat err)
/-- CNT_CMD_COMPLETE (R527). -/
def execCntCmdComplete (s : State) : Host.Outcome State Fault Refusal := done s.cntDone
/-- TCNT_WRITEBACK (R513). -/
def execTcntWriteback (bad : List (BitVec 18)) (s : State) : Host.Outcome State Fault Refusal := done (s.powered fun s => s.tcntWriteback (bad.map BitVec.toNat))
/-- PEC_CFG_WRITE (R514). -/
def execPecCfgWrite (r : Req) (p : Port) (i : Fin 8) (v : BitVec 32) (s : State) : Host.Outcome State Fault Refusal :=
  done (s.writing r .TAPE_PEC_CFG p i fun s => s.pecWrite p i v.toNat)
/-- CHALK_ENABLE (R523): CHALK_CFG written with EN = 1. -/
def execChalkEnable (r : Req) (p : Port) (k : BitVec 5) (s : State) : Host.Outcome State Fault Refusal :=
  done (s.writing r .TAPE_CHALK_CFG p 0 fun s => (s.setFlds p 0 [(.TAPE_CHALK_CFG_EN, 1), (.TAPE_CHALK_CFG_K, k.toNat)]).chalkOn p)

end Sys2Proof.Machine
end

