-- ==== Sys2Proof/Machine/ThimOps.lean ====
section
/-!
DEFINITION. Thimble's commands (15.2 to 15.4, 15.10, 15.11): the handling of records, the monitors, the scrubber's reactions, the latent-fault tests, the Fatal Dump and the restart.
-/
namespace Sys2Proof.Machine

/-! ## Handling (R475, R476) -/

/-- The highest severity among records that wait is handled next where it is above the handling that was interrupted. -/
def State.handleNext (s : State) : State :=
  let top := s.thim.waiting.foldl max 0
  if s.fatalHandling ∨ top ≤ s.thim.handling.headD 0 then s
  else { s with thim := { s.thim with handling := top :: s.thim.handling, waiting := s.thim.waiting.erase top } }

/-- THIM.ACK: the handling of a record of that severity ends; the supervisor has asked for a role swap before, where a Degraded fault does (R475, R476). -/
def State.thimAck (s : State) (sev : Nat) : State :=
  if s.fatalHandling ∨ sev = 0 ∨ s.thim.handling.head? ≠ some sev then s
  else
    let s := if sev = 2 ∧ s.dev = .lead ∧ s.on .THIM_CTRL_SWAP_ON_DEGRADED then s.swapRequest else s
    { s with thim := { s.thim with handling := s.thim.handling.tail } }.handleNext

/-- A read of THIM.FAULT_LOG removes the head record (R474, R557). -/
def State.logPop (s : State) : State := { s with thim := { s.thim with queue := s.thim.queue.tail } }

/-- The severity of a test fault of a mechanism (Table 15-3): where the table gives more than one, or none of its own, the severity is not stated (log entry 5). -/
def injectSev (sm draw : Nat) : Nat :=
  if [6, 7, 13, 14, 15, 16, 17].contains sm then 3
  else if [18, 19, 20, 22].contains sm then 2
  else if sm = 21 then 1 + draw % 3
  else 2 + draw % 2

/-- THIM.INJECT with GO (Table 15-18): a test fault in Test only; a number that names no mechanism raises nothing. -/
def State.inject (s : State) (sm : Nat) : State :=
  if s.dev ≠ .test then s.event .THIM_EVENT_BAD_CFG
  else if sm = 0 ∨ 23 ≤ sm then s
  else
    let (d, s) := s.draw
    s.fault (injectSev sm d) sm noUnit

/-! ## Monitors -/

/-- 10 ms without a refresh of the watchdog (R472). -/
def State.wdogExpire (s : State) : State :=
  if s.thim.wdogL + 10000000 * nsT ≤ s.lNow then ({ s with thim := { s.thim with wdogL := s.lNow } }).fault 3 17 noUnit else s

/-- A supply has stayed outside its window for 1 µs (R467). -/
def State.supplyOut (s : State) (u : Supply) : State :=
  match u with
  | .vddq => { s with thim := { s.thim with dramFailed := true } }.fault 2 8 noUnit
  | .vdd2 => { s with thim := { s.thim with dramFailed := true } }.fault 2 8 noUnit
  | _ => s.fault 3 8 noUnit

/-- A limit of SM-09 in 0.125 °C: 0 the grade maximum, 1 that plus 10 °C (R467, Table 00-1). -/
def tempLimit (k : Nat) : Int := (if Config.hotGrade then 1000 else 880) + 80 * (k : Int)

/-- The middle one of an odd number of readings. -/
def middle (l : List Int) : Int :=
  (l.find? fun x => decide ((l.filter fun y => decide (y < x)).length ≤ l.length / 2) && decide ((l.filter fun y => decide (x < y)).length ≤ l.length / 2)).getD 0

/-- A sensor's reading is above a limit or not: since when (R467). -/
def State.tempNote (s : State) (u k : Nat) (hot : Bool) : State :=
  let now := s.thim.hot.get 0 (2 * u + k)
  let v := if !hot then 0 else if now = 0 then s.lNow + 2 else now
  { s with thim := { s.thim with hot := s.thim.hot.set 0 (2 * u + k) v } }

/-- One reading: TEMP_STATUS, the disagreement with the median of the other seven, and the limits (R467, R552). -/
def State.tempOne (s : State) (l : List (BitVec 12)) (u : Nat) : State :=
  match l[u]? with
  | none => s
  | some t =>
    let x := toSigned 12 t.toNat
    let m := middle ((l.map fun y => toSigned 12 y.toNat).eraseIdx u)
    let s := s.setFlds u 0 [(.DEV_TEMP_STATUS_VALID, 1), (.DEV_TEMP_STATUS_TEMP, t.toNat)]
    if s.on .DEV_TEMP_STATUS_IGNORED u then s
    else if 120 < x - m ∨ 120 < m - x then (((s.setFld .DEV_TEMP_STATUS_IGNORED u 0 1).tempNote u 0 false).tempNote u 1 false).fault 2 9 u
    else (s.tempNote u 0 (decide (tempLimit 0 < x))).tempNote u 1 (decide (tempLimit 1 < x))

/-- The eight sensors are converted (R552). -/
def State.tempConvert (s : State) (l : List (BitVec 12)) : State := if l.length = 8 then (List.range 8).foldl (fun a u => a.tempOne l u) s else s

/-- A reading has stayed above a limit for 1 ms (R467). -/
def State.tempOver (s : State) (u k : Nat) : State :=
  let v := s.thim.hot.get 0 (2 * u + k)
  if 2 ≤ v ∧ v - 2 + 1000000 * nsT ≤ s.lNow then
    ({ s with thim := { s.thim with hot := s.thim.hot.set 0 (2 * u + k) 1 } }).fault (2 + k) 9 u
  else s

/-- A lockstep mismatch, or an uncorrectable error in a pair's SRAM (R468). -/
def State.lockstep (s : State) (k : Nat) : State :=
  if !s.pairOn k then s else if k < 5 then s.fault 3 10 k else (s.stopPair k).fault 2 10 k

/-- A Bolt sends a probe around each of its four Spools and through both crossbar Spools; the ones that a fault loses are still out (R471). -/
def State.probeSend (s : State) (b : Nat) (lost : List Nat) : State :=
  s.updBo b fun x => { x with probes := x.probes ++ lost.map fun k => (k, s.lNow) }

/-- A probe has not returned 75 µs after it was sent (R471). -/
def State.probeTimeout (s : State) (b : Nat) : State :=
  let late (e : Nat × Nat) : Bool := decide (e.2 + 75000 * nsT ≤ s.lNow)
  if (s.bo b).probes.any late then (s.updBo b fun x => { x with probes := x.probes.filter fun e => !late e }).fault 3 13 b else s

/-- The cells of a Bolt counted against 32,768; `d` is what a hardware fault has added or taken since the last check (R471). -/
def State.cellCheck (s : State) (b : Nat) (d : Int) : State :=
  let s := s.updBo b fun x => { x with lost := x.lost + d }
  if (s.bo b).lost = 0 then s else s.fault 3 14 b

/-! ## The scrubber (R469) -/

/-- A frame whose cell has an uncorrectable error, where the Selvedge has not begun to take it: in its queue, in a path, or staged and not fully staged; it is discarded and its cells are
freed (R198). -/
def State.loseCells (s : State) (fr : FrameRec) : State :=
  let p := qPort fr.q
  let other (x : Option PathFrame) : Option PathFrame := x.filter fun f => f.fr != fr
  let s := s.updPt p fun x => { x with express := other x.express, preempt := other x.preempt, retry := other x.retry, staged := x.staged.filter fun f => f.fr != fr }
  (s.updQu fr.q fun x => { x with frames := x.frames.filter fun f => f != fr }).discardHeld fr 8 6 1 8

/-- The frames of a port that hold cells: held in a path, staged and not fully staged, then those of its queues. -/
def State.cellFrames (s : State) (p : Nat) : List FrameRec :=
  let x := s.pt p
  ([x.express, x.retry, x.preempt].filterMap fun f => f.map (·.fr)) ++ ((x.staged.filter (·.held)).map (·.fr)) ++
    ((s.queue.filter fun e => qPort e.1 == p).map fun e => e.2.frames).flatten

/-- The transmission under way of a port carries a frame from its cells. -/
def PortSt.sends (x : PortSt) (fr : FrameRec) : Bool :=
  match x.tx with
  | some t => t.path.fr == fr && (t.kind == .express || t.kind == .preempt)
  | none => false

/-- An uncorrectable error in a frame's cell: under transmission it ends with an inverted FCS, otherwise it is discarded (R198). -/
def State.cellError (s : State) (fr : FrameRec) : State :=
  let p := qPort fr.q
  if (s.pt p).sends fr then s.updPt p fun x => { x with tx := x.tx.map fun t => { t with good := false } } else s.loseCells fr

/-- The frame at a place of a queue, those that the paths hold first (R185, R198). -/
def State.scrubFrame (s : State) (q n : Nat) : State :=
  match ((s.cellFrames (qPort q)).filter fun f => f.q == q)[n]? with
  | some fr => s.cellError fr
  | none => s

/-- An uncorrectable error in a cell that a window read meets: the frame that holds the cell, if one does (R198, R563). -/
def State.cellRead (s : State) (b c : Nat) : State :=
  match (((List.range 16).map fun l => s.cellFrames (16 * b + l)).flatten).find? fun f => f.cellNos.contains c with
  | some fr => s.cellError fr
  | none => s

/-- An uncorrectable error in local memory: the word's address in DETAIL and UNIT (R469). -/
def State.localError (s : State) (a : Nat) : State :=
  ({ s with localBad := if s.localBad.contains (a / 8) then s.localBad else a / 8 :: s.localBad }).record 2 11 (a / 8 / 4096) (a / 8 % 4096)

/-- The reaction to one error that the scrubber finds. -/
def State.scrubOne (s : State) (e : ScrubErr) : State :=
  match e with
  | .way b k w => s.loseWay b k w
  | .function i => s.rcvEcc i.toNat
  | .generator i => s.genEcc i.toNat
  | .cell b none => s.bufErr b .cell
  | .cell b (some (q, n)) => (s.bufErr b .cell).scrubFrame q n
  | .link b => s.bufErr b .record
  | .localWord a => s.localError a.toNat
  | .corrected none _ mender => if mender then s.mendCorr else s
  | .corrected (some b) cache _ => if cache then s.cacheCorr b else s.bufErr b .corrected

/-! ## Latent-fault tests (R500) -/

/-- LATENT_INT in minutes: 0 acts as 1, values above 120 as 120 (Table 15-16). -/
def State.latentMin (s : State) : Nat := max 1 (min 120 (s.fld .THIM_CTRL_LATENT_INT))

/-- A test has passed or failed. -/
def State.latentOne (s : State) (failed t : Nat) : State :=
  if failed.testBit t then (s.bump (devWord 174)).fault 2 22 noUnit
  else { s with thim := { s.thim with testPass := s.thim.testPass.set 0 t s.lNow, overdue := clearBit s.thim.overdue t } }

/-- A round of the self-test service on SP7. -/
def State.latentRound (s : State) (failed : Nat) : State :=
  let sec := s.lNow / secT % 2 ^ 32
  let due := decide (s.latentMin * 60 ≤ (sec + 2 ^ 32 - s.fld .THIM_LATENT_STATUS_LAST_S) % 2 ^ 32)
  if !s.pairOn 7 || !s.alive || !due then s
  else
    let s := (s.setFlds 0 0 [(.THIM_LATENT_STATUS_LAST_S, sec), (.THIM_LATENT_STATUS_FAILED, failed)]).bump (devWord 173)
    let s := if failed = 0 then s else s.event .THIM_EVENT_LATENT_FAIL
    (List.range 11).foldl (fun a t => a.latentOne failed t) s

/-- A test has not passed for 2 h; reported once. -/
def State.latentOverdue (s : State) (t : Nat) : State :=
  if s.thim.overdue.testBit t ∨ s.lNow < s.thim.testPass.get 0 t + 7200 * secT then s
  else { s with thim := { s.thim with overdue := setBit s.thim.overdue t } }.fault 2 22 noUnit

/-! ## The Fatal Dump (15.11, R564) -/

/-- The bytes of a BAR0 range, as the supervisor's copy reads them: without any effect (R557). -/
def State.image (s : State) (a n : Nat) : List Byte := ((List.range (n / 8)).map fun k => leBytes 8 (s.slotNow (.pf 0) (a + 8 * k))).flatten

/-- Bytes followed by zeros up to a length. -/
def fill (n : Nat) (d : List Byte) : List Byte := d ++ List.replicate (n - d.length) 0#8

/-- The device register image (R564). -/
def State.devImage (s : State) : List Byte :=
  s.image 0x7_0000 0x100 ++ s.image 0x8_0000 0x100 ++ s.image 0x6_0000 0x400 ++ s.image 0 0x100 ++ s.image 0x1_0000 0x3000 ++ s.image 0x2_0000 0x200
    ++ s.image 0x3_0000 0x200 ++ s.image 0x4_0000 0x1000 ++ s.image 0x4_8000 0x1_0000 ++ s.image 0x20A_0800 0x100 ++ s.image 0x210_0000 0x4100

/-- The image of a Bolt: its common part, then each port block's two ranges (R564). -/
def State.boltImage (s : State) (b : Nat) : List Byte :=
  let base := 0x100_0000 + b * 0x20_0000
  s.image base 0x200
    ++ ((List.range 16).map fun l => s.image (base + 0x10_0000 + l * 0x1_0000) 0x1000 ++ s.image (base + 0x10_0000 + l * 0x1_0000 + 0x1400) 0x800).flatten

/-- The fault records in order of arrival, the Fatal record last (Table 15-14). -/
def State.dumpRecords (s : State) : List FaultRec :=
  match s.thim.fatal with
  | some f => s.thim.queue.erase f ++ [f]
  | none => s.thim.queue

/-- The header up to its CRC, with a value of COMPLETE (Table 15-15). -/
def State.fatalHeader (s : State) (complete : Nat) : List Byte :=
  let t := s.thim
  let dom (x : Nat) : List Byte := leBytes 6 (secOf x) ++ leBytes 4 (nsOf x) ++ leBytes 2 0
  fill 4092 (leBytes 4 0x44464B51 ++ leBytes 2 1 ++ leBytes 1 complete ++ leBytes 1 t.before ++ leBytes 2 (s.fld .BOOT_STATUS_DEV_ID) ++ leBytes 2 s.dumpRecords.length
    ++ leBytes 4 (s.recF 20 4) ++ leBytes 8 s.boot.pattern.systemId ++ leBytes 8 s.boot.pattern.patternId
    ++ leBytes 8 ((t.fatal.map FaultRec.word).getD 0) ++ leBytes 8 (t.fatalL / nsT) ++ (t.fatalDoms.map dom).flatten ++ leBytes 4 t.fatalPace)

/-- The first three parts: the header with COMPLETE 0 and the CRC that it has once complete, the records, and the device register image, which fills `n` bytes. -/
def State.dumpHead (s : State) (n : Nat) : List Byte :=
  s.fatalHeader 0 ++ leBytes 4 (crc32c (s.fatalHeader 1)) ++ fill 4096 (s.dumpRecords.map fun r => leBytes 8 r.word).flatten ++ (fill n s.devImage).take n

/-- The address of the Fatal Dump area. -/
def State.dumpArea (s : State) : Nat := s.fld .THIM_DUMP_BASE_ADDR * 65536

/-- SP0 writes the Fatal Dump (R501): after a Fatal fault, unless its handling was abandoned or no area is named. The pairs' own registers are not part of the
model: free bytes; the top 120 KiB of each pair's SRAM follow them. -/
def State.dumpWrite (s : State) : State :=
  let space := s.fld .THIM_DUMP_BASE_SPACE
  if s.dev ≠ .failSilent ∨ s.thim.fatal.isNone ∨ s.fld .THIM_STATUS_DUMP ≠ 0 ∨ space = 0 ∨ s.pairOn 0 = false then s
  else
    let a := s.dumpArea
    let (d, s) := s.draw
    let cores := ((List.range 8).map fun k => slice (leBytes 0x1_0000 d) (0x2000 * k) 0x2000 ++ (s.core k).sram.readBytes 0x6_2000 0x1_E000).flatten
    let bytes := if space = 2 then s.dumpHead 0xE000
      else s.dumpHead 0x1_E000 ++ ((List.range 8).map fun b => fill 0x2_0000 (s.boltImage b)).flatten ++ cores ++ (wordLines (s.ctrWords 0 0x3_C000)).flatten
    let s := (s.setFld .THIM_STATUS_DUMP 0 0 1).areaPut space 0 a false bytes
    { s with thim := { s.thim with dumpKept := some (space, a) } }

/-- BOOTS of the header of an NVM summary, where it is valid (R502). -/
def State.summaryBoots (s : State) (k : Nat) : Option Nat :=
  let w := s.nvmBytes (0x2_0000 + 0x1_0000 * k) 4096
  if leNat (w.take 4) = 0x44464B51 ∧ leNat (slice w 4092 4) = crc32c (w.take 4092) then some (leNat (slice w 12 4)) else none

/-- The area after the one whose valid header has the highest BOOTS, or area 0 (R502). -/
def State.summaryArea (s : State) : Nat :=
  match (List.range 8).foldl (fun (best : Option (Nat × Nat)) k =>
    match s.summaryBoots k, best with
    | some n, some (_, m) => if m < n then some (k, n) else best
    | some n, none => some (k, n)
    | none, _ => best) none with
  | some (k, _) => (k + 1) % 8
  | none => 0

/-- The dump is complete: COMPLETE is set last, DUMP 2, DUMP_DONE, and the NVM summary is written from the first 64 KiB (R501, R502). -/
def State.dumpDone (s : State) : State :=
  if s.dev ≠ .failSilent ∨ s.fld .THIM_STATUS_DUMP ≠ 1 then s
  else
    let space := s.fld .THIM_DUMP_BASE_SPACE
    let s := s.areaPut space 0 (s.dumpArea + 6) false [1#8]
    let s := ((s.setFld .THIM_STATUS_DUMP 0 0 2).event .THIM_EVENT_DUMP_DONE)
    let s := { s with thim := { s.thim with dumpEnd := some s.lNow } }
    let k := s.summaryArea
    let bytes := (List.range 0x1_0000).map fun n => s.spaceByte space (s.dumpArea + n)
    ((s.nvmErase (0x2_0000 + 0x1_0000 * k) 0x1_0000).nvmPut (0x2_0000 + 0x1_0000 * k) bytes).handleNext

/-! ## The restart (R479) -/

/-- The L time at which RESTART_DELAY begins: the dump's end, or 1 s after the detection. -/
def State.restartFrom (s : State) : Nat :=
  match s.thim.dumpEnd with
  | some t => min t (s.thim.fatalL + secT)
  | none => s.thim.fatalL + secT

/-- Thimble resets a Fail-Silent device. -/
def State.thimRestart (s : State) : State :=
  let n := s.fld .THIM_STATUS_RESTART_CNT
  if s.dev = .failSilent ∧ s.on .THIM_CTRL_RESTART ∧ s.restartFrom + max 1 (s.fld .THIM_CTRL_RESTART_DELAY) * secT ≤ s.lNow ∧ n < max 1 (s.fld .THIM_CTRL_RESTART_MAX) then
    (s.setFld .THIM_STATUS_RESTART_CNT 0 0 (n + 1)).reboot 4
  else s

/-- 1 h continuously in service clears RESTART_CNT. -/
def State.restartClear (s : State) : State :=
  match s.thim.serviceSince with
  | some t => if s.dev.inService ∧ t + 3600 * secT ≤ s.lNow then s.setFld .THIM_STATUS_RESTART_CNT 0 0 0 else s
  | none => s

end Sys2Proof.Machine
end

