-- ==== Sys2Proof/Machine/RegWrite.lean ====
section
/-!
DEFINITION. What a write of a register does: the change classes (R16 to R19), and for each register whose write is an operation, that operation.
-/
namespace Sys2Proof.Machine

/-! ## When a block counts as stopped (R16) -/

/-- Admission of a Bolt runs, or cells are in use (R191, R202). -/
def State.bufBusy (s : State) (b : Nat) : Bool :=
  s.on .SHTL_BUF_RSV_RUN b || (s.bo b).sharedUsed != 0 || (s.bo b).ctrlUsed != 0 || (List.range 16).any fun l => (s.pt (16 * b + l)).rsvUsed != 0

/-- A running ring names a Ledger (R371). -/
def State.ledgerNamed (s : State) (l : Nat) : Bool :=
  s.anyRing fun q => s.fld .HIF_RING_CFG_COMP q == 2 && s.fld .HIF_RING_CFG_LEDGER q == l

/-- An output area of Tape runs (R526). -/
def State.areaRuns (s : State) (a : Nat) : Bool := if a = 4 then s.on .TAPE_CTRL_CHALK_RUN else s.on .TAPE_DUMP_CFG_EN a

/-- The unit that owns a register instance runs: each block's chapter says when it counts as stopped. Where none does it is the model's choice (log entry 41): PORT_TS with the port's MAC,
PORT_SEL.OVH and Q_SEL.WEIGHT with the Bolt's buffer in use. -/
def State.unitRuns (s : State) (g : Reg) (i : Nat) : Bool :=
  match g with
  | .TPL_DOM_CFG | .TPL_DOM_MAP => s.domState i != 0
  | .TPL_DOM_SET_SEC | .TPL_DOM_SET_NS => decide (2 ≤ s.domState i)
  | .TPL_OUT_CFG | .TPL_OUT_START_SEC | .TPL_OUT_START_NS | .TPL_OUT_PERIOD => s.on .TPL_OUT_CFG_ARM i
  | .TPL_CAP_CFG => s.on .TPL_CAP_CFG_EN i
  | .TPL_PORT_TS | .TPL_PORT_TS_CFG | .MAC_CFG | .MAC_FC_TX_CFG | .MAC_TAG_CFG | .MAC_MD_CFG | .MAC_PLCA_CFG => s.on .MAC_CFG_EN i
  | .STRM_TBL_BASE | .STRM_DIR_BASE | .STRM_PORT_ID_CFG | .STRM_PORT_DEFAULT => s.on .STRM_CTRL_RUN
  | .MEND_PORT_CFG => s.on .MEND_CTRL_RUN
  | .SHTL_BUF_CTRL_RSV => s.bufBusy i
  | .SHTL_PORT_BUF | .SHTL_PORT_SEL | .SHTL_Q_SEL => s.bufBusy (boltOf i)
  | .SHTL_GCL_CFG => s.running i || s.switchPending i
  | .SELV_STAGE_CFG | .SELV_PREEMPT_CFG => s.on .SELV_CTRL_RUN i || (s.storeUsed i).2 != 0
  | .SELV_HEM_CFG | .SELV_HOLD_CFG => s.running i
  | .MDP_PC_CFG | .MDP_PC_TIMING => s.on .MDP_PC_CFG_EN i
  | .HIF_RING_BASE | .HIF_RING_CFG => ringActive (s.ringState i)
  | .HIF_CQ_BASE | .HIF_CQ_CFG => s.on .HIF_CQ_CFG_EN i
  | .HIF_LEDGER_ADDR => s.ledgerNamed i
  | .DMA_CH_CFG | .DMA_CH_WIN | .DMA_CH_DESC => ringActive (s.chState i)
  | .PAIR_CFG => s.role != 0
  | .TAPE_TCNT_BASE => s.on .TAPE_TCNT_BASE_EN
  | .TAPE_DUMP_CFG => s.on .TAPE_DUMP_CFG_EN i
  | .TAPE_OUT_BASE | .TAPE_OUT_CFG => s.areaRuns i
  | _ => false

/-- The event flag that a block sets on a refused change, and the one on a bad value, for a register instance (R16). -/
def flagsOf (g : Reg) (i : Nat) : List (Fl × Nat) :=
  match g.blk with
  | .TPL => [(.TPL_EVENT_CHANGE_REFUSED, 0), (.TPL_EVENT_BAD_CFG, 0)]
  | .STRM => [(.STRM_EVENT_CHANGE_REFUSED, 0)]
  | .MEND => [(.MEND_EVENT_CHANGE_REFUSED, 0)]
  | .SHTL =>
    match g with
    | .SHTL_BUF_RSV | .SHTL_BUF_CTRL_RSV | .SHTL_BUF_EVENT => [(.SHTL_BUF_EVENT_CHANGE_REFUSED, i), (.SHTL_BUF_EVENT_BAD_CFG, i)]
    | .SHTL_PORT_BUF | .SHTL_PORT_SEL | .SHTL_Q_SEL | .SHTL_Q_CMD | .SHTL_Q_CFG | .SHTL_Q_SHAPE =>
      [(.SHTL_BUF_EVENT_CHANGE_REFUSED, boltOf i), (.SHTL_BUF_EVENT_BAD_CFG, boltOf i), (.SHTL_BUF_EVENT_CMD_COLLIDE, boltOf i)]
    | _ => [(.SHTL_GCL_EVENT_CHANGE_REFUSED, i), (.SHTL_GCL_EVENT_BAD_CFG, i), (.SHTL_GCL_EVENT_CANCEL_REFUSED, i)]
  | .SELV => [(.SELV_EVENT_CHANGE_REFUSED, i)]
  | .MAC => [(.MAC_EVENT_CHANGE_REFUSED, i), (.MAC_EVENT_BAD_CFG, i)]
  | .MDP => [(.MDP_EVENT_CHANGE_REFUSED, i)]
  | .HIF => [(.HIF_EVENT_CHANGE_REFUSED, 0), (.HIF_EVENT_BAD_CFG, 0)]
  | .DMA => [(.DMA_EVENT_CHANGE_REFUSED, 0), (.DMA_EVENT_BAD_CFG, 0)]
  | .INTC => [(.INTC_EVENT_BAD_CFG, 0)]
  | .THIM => [(.THIM_EVENT_BAD_CFG, 0)]
  | .PAIR => [(.PAIR_EVENT_CHANGE_REFUSED, 0), (.PAIR_EVENT_BAD_CFG, 0)]
  | .TAPE => [(.TAPE_EVENT_CHANGE_REFUSED, 0), (.TAPE_EVENT_BAD_CFG, 0)]
  | .DEV | .BOOT => []

/-- The flags of a register instance's block; a LANE_CFG write sets those of the lane's first local port (R270). -/
def refuseFlags (x : RegRef) : List (Fl × Nat) :=
  if x.reg = .MAC_LANE_CFG then flagsOf .MAC_LANE_CFG (16 * x.i + laneFirst x.j) else flagsOf x.reg x.i

/-- A change refused: the block's CHANGE_REFUSED flag (R16). -/
def State.changeRefused (s : State) (x : RegRef) : State :=
  match refuseFlags x with
  | e :: _ => s.event e.1 e.2
  | [] => s

/-! ## Plain fields -/

/-- Bits of a W1C field cleared: a level source that no bit of its register asserts any more is withdrawn (R407). -/
def State.clearW1c (s : State) (f : Fl) (i j x : Nat) : State :=
  let old := s.fld f i j
  let s := s.setFld f i j (old - (old &&& x))
  (List.range f.info.width).foldl (fun a b =>
    match levelSrc f i b with
    | some n => if x.testBit b && !a.asserted n then a.pendClear n else a
    | none => a) s

/-- A configuration field written by its change class: a class B field of a running unit goes to its pending slot, a class X field of one keeps its value, and a change of it is refused
(R16 to R19, R449). `run`: the unit ran when the write came. -/
def State.writeCfg (s : State) (x : RegRef) (run : Bool) (f : Fl) (v : Nat) : State :=
  match f.info.cls with
  | .x =>
    if !run then s.setFld f x.i x.j v
    else if s.fld f x.i x.j = v then s
    else s.changeRefused x
  | .b => if run then s.setPendingB x f (some v) else (s.setFld f x.i x.j v).setPendingB x f none
  | _ => s.setFld f x.i x.j v

/-- A field written with its bits of a register value (Table 00-3). -/
def State.writeField (s : State) (x : RegRef) (run : Bool) (f : Fl) (w : Nat) : State :=
  let v := bits w f.info.hi f.info.lo
  match f.info.acc with
  | .ro | .wo => s
  | .w1c => if v = 0 then s else s.clearW1c f x.i x.j v
  | .rw | .rws => s.writeCfg x run f v

/-- A register written field by field, but for fields whose write is an operation. Whether its unit runs is asked once, of the state that the write meets; where the write stops the unit,
the values that wait take effect. -/
def State.plain (s : State) (x : RegRef) (w : Nat) (skip : List Fl := []) : State :=
  let run := s.unitRuns x.reg x.i
  let t := x.reg.fields.foldl (fun a f => if skip.contains f then a else a.writeField x run f w) s
  if run && !t.unitRuns x.reg x.i then t.takeReg x else t

/-- The bit of a one-bit field in a register value. -/
def setIn (w : Nat) (f : Fl) : Bool := bit w f.info.lo

/-- The value of a field in a register value. -/
def inReg (w : Nat) (f : Fl) : Nat := bits w f.info.hi f.info.lo

/-- A write checked as a whole: where its result is a bad value, the old state stays and a flag is set. -/
def State.unlessBad (s : State) (bad : State → Bool) (f : Fl) (i : Nat) (k : State → State) : State := if bad (k s) then s.event f i else k s

/-! ## Registers whose write is an operation -/

/-- A domain's control register (R56). -/
def State.domCfgWrite (s : State) (x : RegRef) (w : Nat) : State :=
  let s := s.plain x w [.TPL_DOM_CFG_EN]
  let s := if setIn w .TPL_DOM_CFG_EN = s.on .TPL_DOM_CFG_EN x.i then s else s.domEnable x.i (setIn w .TPL_DOM_CFG_EN)
  if setIn w .TPL_DOM_CFG_UNLOCK then s.domUnlock x.i else s

/-- SYNC_CFG: an UNLOCKED domain with GM = 0 unlocks its grids (R242). -/
def State.syncCfgWrite (s : State) (x : RegRef) (w : Nat) : State :=
  let gm := s.on .TPL_SYNC_CFG_GM x.i
  let s := s.plain x w
  if gm && !s.on .TPL_SYNC_CFG_GM x.i && s.domState x.i == 1 then s.gridUnlockDom x.i else s

/-- An output unit with a width and a period that R66 refuses, the width as its pending slot would make it. -/
def State.outBad (s : State) (u : Nat) : Bool :=
  let width := ((s.pendingB ⟨.TPL_OUT_CFG, u, 0⟩ .TPL_OUT_CFG_WIDTH).getD (s.fld .TPL_OUT_CFG_WIDTH u)) * nsT
  let p := s.outPeriod u
  decide (width < 8 * nsT) || (p != 0 && decide (p < 16 * nsT)) || (p != 0 && s.fld .TPL_OUT_CFG_MODE u == 1 && decide (p ≤ width))

/-- OUT_CFG: its fields, then MODE, then ARM; a write that R66 refuses changes nothing (R66, R69, R70). -/
def State.outCfgWrite (s : State) (x : RegRef) (w : Nat) : State :=
  let u := x.i
  let mode := inReg w .TPL_OUT_CFG_MODE
  let old := s.fld .TPL_OUT_CFG_MODE u
  let off := mode % 3 == 0 && old % 3 != 0
  let t := s.holdPins.plain x w (if off then [.TPL_OUT_CFG_ARM, .TPL_OUT_CFG_MODE] else [.TPL_OUT_CFG_ARM])
  let ends := off && !s.on .TPL_OUT_CFG_ARM u
  if (if ends then t.setFld .TPL_OUT_CFG_MODE u 0 mode else t).outBad u then s.event .TPL_EVENT_BAD_CFG
  else
    let t := if off then t.outModeOff u
      else if t.fld .TPL_OUT_CFG_MODE u = old then t else (t.setOutU u {}).outActive u
    if setIn w .TPL_OUT_CFG_ARM then (if s.on .TPL_OUT_CFG_ARM u then t else t.outArm u) else if s.on .TPL_OUT_CFG_ARM u then t.outDisarm u else t

/-- An operation of the Stream Table engine by its code (R143, Table 04-12). -/
def State.strmOp (s : State) (table op idx : Nat) (err : Bool) : State :=
  s.tblGo table op idx fun s =>
    let keyed (k : State → State) : State := s.onDram (err || s.keyBeyond (entId s.tblData)) k
    match op with
    | 0 => s.tblRead table idx err
    | 1 => s.tblWrite table idx
    | 2 => s.onDram (err || s.entBeyond idx || s.keyBeyond (entId s.tblData)) fun s => s.tblInsert idx
    | 3 => keyed fun s => s.tblChange fun old => updated old s.tblData
    | 4 => keyed fun s => s.tblDelete
    | 5 => keyed fun s => s.tblLookup
    | 6 => keyed fun s => s.tblChange fun old => pinned old s.tblData
    | 7 => keyed fun s => s.tblChange unpinned
    | _ => s.tblEnd 7

/-- An operation of the Mender's table engine by its code (R179, Table 05-6). -/
def State.mendOp (s : State) (table op idx : Nat) : State :=
  s.mTblGo table op idx fun s =>
    match op with
    | 0 => s.mTblRead table idx
    | 1 => s.mTblWrite table idx
    | _ => s.rcvReset idx (s.rcv idx).cfg

/-- An operation on a publication entry by its code (R404). -/
def State.pubOp (s : State) (op idx : Nat) : State :=
  s.pubGo op idx fun s => if op = 0 then s.setPubData (s.pubE idx).word else s.pubWrite idx

/-- The write of an engine's command register with GO (R143, R179, R404). -/
def State.engineGo (s : State) (e w : Nat) (err : Bool) : State :=
  match e with
  | 1 => s.strmOp (inReg w .STRM_TBL_CMD_TABLE) (inReg w .STRM_TBL_CMD_OP) (inReg w .STRM_TBL_CMD_INDEX) err
  | 2 => s.mendOp (inReg w .MEND_TBL_CMD_TABLE) (inReg w .MEND_TBL_CMD_OP) (inReg w .MEND_TBL_CMD_INDEX)
  | _ => s.pubOp (inReg w .DMA_PUB_CMD_OP) (inReg w .DMA_PUB_CMD_INDEX)

/-- Q_CMD (R200, R201): an undefined OP is ignored and sets CMD_COLLIDE (Table 06-6). -/
def State.qCmdWrite (s : State) (p w : Nat) : State :=
  let all := setIn w .SHTL_Q_CMD_ALL
  let n := inReg w .SHTL_Q_CMD_QUEUE
  let op := inReg w .SHTL_Q_CMD_OP
  s.qCmd p op all n fun s => if op = 0 then s.flush p all n else if op = 1 then s.clearMax p all n else s.event .SHTL_BUF_EVENT_CMD_COLLIDE (boltOf p)

/-- The pool left to a Bolt is below 8,192 cells (R191). -/
def State.poolBad (s : State) (b : Nat) : Bool := decide (s.sharedSize b < 8192)

/-- GCL_CFG (R204, R205, R216, R241): ADMIN_LEN is refused while a switch is pending, the guardian's copies of DOM and SCHED_TC follow, and a change of DOM unlocks the grids.
A class added while the port's scheduled classes are suspended loses its frames (R92). -/
def State.gclCfgWrite (s : State) (x : RegRef) (w : Nat) : State :=
  let p := x.i
  let d := s.schedDom p
  let held := s.switchPending p && s.fld .SHTL_GCL_CFG_ADMIN_LEN p != inReg w .SHTL_GCL_CFG_ADMIN_LEN
  let s := s.plain x w (if s.switchPending p then [.SHTL_GCL_CFG_ADMIN_LEN] else [])
  let s := if held then s.changeRefused x else s
  let s := s.setFlds p 0 [(.SELV_GUARD_STATUS_DOM, s.schedDom p), (.SELV_GUARD_STATUS_SCHED_TC, s.fld .SHTL_GCL_CFG_SCHED_TC p)]
  let s := if s.schedUp p then s else s.dropSched p
  if s.schedDom p = d then s else (List.range 128).foldl (fun a q => if q = p ∨ gridPort q = p then a.gridUnlock q else a) s

/-- An admin register of a gate list or of a slot table: refused while a switch is pending (R216, R304). -/
def State.adminWrite (s : State) (x : RegRef) (w : Nat) : State := if s.switchPending x.i then s.changeRefused x else s.plain x w

/-- GCL_CTRL (R213, R214, R218). -/
def State.gclCtrlWrite (s : State) (p w : Nat) : State :=
  let s := if setIn w .SHTL_GCL_CTRL_CANCEL then s.gclCancel p else s
  let s := if setIn w .SHTL_GCL_CTRL_STOP then s.gclStop p else s
  if setIn w .SHTL_GCL_CTRL_COMMIT then s.gclCommit p else s

/-- SELV.CTRL (R250). -/
def State.selvCtrlWrite (s : State) (x : RegRef) (w : Nat) : State :=
  if s.on .SELV_CTRL_RUN x.i && !setIn w .SELV_CTRL_RUN then s.selvStop x.i else s.plain x w

/-- PREEMPT_CFG: a write that reaches EN, which is class X, begins the handshake anew, whatever EN was (R264, Table 08-4); a running Selvedge takes no write of EN. -/
def State.preemptWrite (s : State) (x : RegRef) (w : Nat) : State :=
  if s.unitRuns x.reg x.i then s.plain x w else (s.plain x w).verifyRest x.i

/-- MAC.CFG (R275, R278). -/
def State.macCfgWrite (s : State) (x : RegRef) (w : Nat) : State :=
  let s := s.plain x w [.MAC_CFG_EN]
  if setIn w .MAC_CFG_EN = s.on .MAC_CFG_EN x.i then s else s.macEnable x.i (setIn w .MAC_CFG_EN)

/-- RING_CTRL: STOP, RESET and START of one write in that order (R368, R369). -/
def State.ringCtrlWrite (s : State) (i w : Nat) : State :=
  let s := if setIn w .HIF_RING_CTRL_STOP then s.ringStop i else s
  let s := if setIn w .HIF_RING_CTRL_RESET then s.ringReset i else s
  if setIn w .HIF_RING_CTRL_START then s.ringStart i else s

/-- CQ_CFG (R350, R371). -/
def State.cqCfgWrite (s : State) (x : RegRef) (w : Nat) : State :=
  let s := s.plain x w [.HIF_CQ_CFG_EN]
  if setIn w .HIF_CQ_CFG_EN = s.on .HIF_CQ_CFG_EN x.i then s else s.cqEnable x.i (setIn w .HIF_CQ_CFG_EN)

/-- CH_CTRL: STOP, RESET and START of one write in that order (R386). -/
def State.chCtrlWrite (s : State) (i w : Nat) : State :=
  let s := if setIn w .DMA_CH_CTRL_STOP then s.chStop i else s
  let s := if setIn w .DMA_CH_CTRL_RESET then s.chReset i else s
  if setIn w .DMA_CH_CTRL_START then s.chStart i else s

/-- DMA.CTRL: RUN 0 stops every channel, PUB_RUN 1 begins the entries, and the buckets of both caps start at 0 (R384, R386, R393). -/
def State.dmaCtrlWrite (s : State) (x : RegRef) (w : Nat) : State :=
  let pub := s.on .DMA_CTRL_PUB_RUN
  let run := s.on .DMA_CTRL_RUN
  let s := s.plain x w
  let s := { s with dma := { s.dma with pcieTok := 0, pcieL := s.lNs, dramTok := 0, dramL := s.lNs } }
  let s := if run && !s.on .DMA_CTRL_RUN then s.chStopAll else s
  if !pub && s.on .DMA_CTRL_PUB_RUN then s.pubBeginAll else s

/-- The sources of an ENABLE word whose bit a write changes. -/
def State.enableDiff (s : State) (w v : Nat) : List Nat :=
  ((List.range 32).filter fun b => (s.fld .INTC_ENABLE_EN w).testBit b != v.testBit b).map fun b => 32 * w + b

/-- A write of SRC_CFG or ENABLE is noted for DRAIN, and what the sources were before it is kept for 64 ns (R414, R415). -/
def State.cfgNoted (s : State) (l : List Nat) : State :=
  let put (t : Tbl (Option SrcOld)) (n : Nat) : Tbl (Option SrcOld) :=
    t.set none n (some ⟨s.lNow + 64 * nsT, s.srcOn n, s.fld .INTC_SRC_CFG_TKIND n, s.fld .INTC_SRC_CFG_TARGET n⟩)
  { s with intc := { s.intc with lastCfg := s.lNow, old := l.foldl put s.intc.old } }

/-- CORE_CFG, reached by the service cores only (R421, R427). -/
def State.coreCfgWrite (s : State) (r : Req) (x : RegRef) (w : Nat) : State :=
  s.coreOnly r fun s => if s.on .INTC_CORE_CFG_EN x.i && !setIn w .INTC_CORE_CFG_EN then (s.plain x w).pairDisable x.i else s.plain x w

/-- BOOT.CTRL: the Boot Record's changes, then RESET with its key (R438, R446 to R448). PREF_SLOT counts as written where the write changes it or asks for nothing else. -/
def State.bootCtrlWrite (s : State) (r : Req) (w : Nat) (ok : Bool) : State :=
  let asks := setIn w .BOOT_CTRL_RESET || setIn w .BOOT_CTRL_CLEAR_MARKS || setIn w .BOOT_CTRL_CLEAR_FAILS
  let pref := setIn w .BOOT_CTRL_PREF_SLOT
  let s := if setIn w .BOOT_CTRL_CLEAR_MARKS then s.clearMarks ok else s
  let s := if setIn w .BOOT_CTRL_CLEAR_FAILS then s.clearFails r ok else s
  let s := if pref != s.on .BOOT_CTRL_PREF_SLOT || !asks then s.prefSlot pref ok else s
  if setIn w .BOOT_CTRL_RESET then s.ctrlReset (inReg w .BOOT_CTRL_KEY) else s

/-- NVM_CMD with GO (R461); an operation that fails leaves bytes that are not stated in its sector (log entry 5). -/
def State.nvmWrite (s : State) (w : Nat) (fails : Bool) : State :=
  let op := inReg w .BOOT_NVM_CMD_OP
  let slot := inReg w .BOOT_NVM_CMD_KEY_SLOT
  let sector := inReg w .BOOT_NVM_CMD_SECTOR
  let (d, s) := if fails then s.draw else (0, s)
  let res : NvmRes := if fails then .error (leBytes 4096 d) else .ok
  s.nvmGo op slot sector fun s =>
    match op with
    | 0 => s.nvmRead sector fails
    | 1 => s.nvmProgram sector res
    | 2 => s.nvmEraseCmd sector res
    | 3 => s.otpKey slot
    | _ => s.otpRevoke slot

/-- A value of DUMP_BASE that is refused (Table 15-18). -/
def dumpBaseBad (w : Nat) : Bool :=
  inReg w .THIM_DUMP_BASE_SPACE == 3 || (inReg w .THIM_DUMP_BASE_SPACE == 1 && inReg w .THIM_DUMP_BASE_ADDR % 64 != 0)

/-- THIM.EVENT: LOST starts again when LOG_OVF is cleared (Table 15-16). -/
def State.thimEventWrite (s : State) (x : RegRef) (w : Nat) : State :=
  let s := s.plain x w
  if setIn w .THIM_EVENT_LOG_OVF then s.setFld .THIM_STATUS_LOST 0 0 0 else s

/-- CNT_CMD with GO (R527). -/
def State.cntWrite (s : State) (w : Nat) (err : Bool) : State :=
  let op := inReg w .TAPE_CNT_CMD_OP
  let group := inReg w .TAPE_CNT_CMD_GROUP
  let all := setIn w .TAPE_CNT_CMD_ALL
  let idx := inReg w .TAPE_CNT_CMD_INDEX
  s.cntGo op group all idx fun s =>
    match op with
    | 0 => s.cntClear group all idx fun _ => 0
    | 1 => s.cntClear group all idx fun v => clearBit v 63
    | _ => s.cntReadFunc idx err

/-- An area of Tape starts: PI and CI are 0 (R517). -/
def State.areaStart (s : State) (a : Nat) : State := s.setFlds a 0 [(.TAPE_OUT_PI_PI, 0), (.TAPE_OUT_CI_CI, 0)]

/-- A PERIOD that a dump program cannot have (R519). -/
def periodBad (p : Nat) : Bool := decide (p < 1000) || decide (1000000000 < p) || 1000000000 % p != 0

/-- DUMP_CFG: a bad PERIOD or DOM is refused; the program and its area start with EN (R519, R521). -/
def State.dumpCfgWrite (s : State) (x : RegRef) (w : Nat) : State :=
  let j := x.i
  let was := s.on .TAPE_DUMP_CFG_EN j
  let badP := periodBad (inReg w .TAPE_DUMP_CFG_PERIOD)
  let badD := decide (8 < inReg w .TAPE_DUMP_CFG_DOM)
  let s := s.plain x w ((if badP then [.TAPE_DUMP_CFG_PERIOD] else []) ++ (if badD then [.TAPE_DUMP_CFG_DOM] else []))
  let s := if badP || badD then s.event .TAPE_EVENT_BAD_CFG else s
  if !was && s.on .TAPE_DUMP_CFG_EN j then (s.areaStart j).dumpStart j else s

/-- A value of OUT_CFG that is refused (R526, Table 16-16). -/
def State.areaBad (s : State) (w : Nat) : Bool :=
  decide (inReg w .TAPE_OUT_CFG_SIZE_LOG2 < 10) || decide (24 < inReg w .TAPE_OUT_CFG_SIZE_LOG2)
    || inReg w .TAPE_OUT_CFG_SPACE == 3 || (inReg w .TAPE_OUT_CFG_SPACE == 1 && s.dramless)

/-- TAPE.CTRL: the host generator is seeded when HOST_CHALK_EN is written 1, and area 4 starts with CHALK_RUN (R517, R523). -/
def State.tapeCtrlWrite (s : State) (x : RegRef) (w : Nat) : State :=
  let was := s.on .TAPE_CTRL_CHALK_RUN
  let s := s.plain x w
  let s := if setIn w .TAPE_CTRL_HOST_CHALK_EN then s.chalkOn 128 else s
  if !was && s.on .TAPE_CTRL_CHALK_RUN then s.areaStart 4 else s

/-! ## A register write -/

/-- A write of a register instance by a requester at a privilege that R459 admits. `aux`: the memory behind an operation that the write starts fails (DRAM, NVM or the Boot Record). -/
def State.regWrite (s : State) (r : Req) (x : RegRef) (w : Nat) (aux : Bool) : State :=
  let i := x.i
  let j := x.j
  let p0 := atP0 r
  match x.reg with
  | .DEV_PACE_CTRL => let s := s.plain x w; if setIn w .DEV_PACE_CTRL_CLR_LOWEST then s.clrLowest else s
  | .TPL_SNAP_CTRL => if setIn w .TPL_SNAP_CTRL_TRIGGER then s.snapTrigger else s
  | .TPL_DOM_CFG => s.domCfgWrite x w
  | .TPL_DOM_SAMPLE_OFS => s.sampleWrite i (toSigned 64 w)
  | .TPL_DOM_SET_SEC => s.domSetWrite i (inReg w .TPL_DOM_SET_SEC_SEC)
  | .TPL_DOM_SET_NS => if 999999999 < inReg w .TPL_DOM_SET_NS_NS then s.event .TPL_EVENT_BAD_CFG else s.plain x w
  | .TPL_SYNC_CFG => s.syncCfgWrite x w
  | .TPL_OUT_CFG => s.outCfgWrite x w
  | .TPL_OUT_PERIOD => s.unlessBad (fun a => a.outBad i) .TPL_EVENT_BAD_CFG 0 fun s => s.plain x w
  | .STRM_HASH_SEED => s.seedWrite w
  | .STRM_TBL_CMD => if setIn w .STRM_TBL_CMD_GO then s.engineGo 1 w aux else s.plain x w
  | .MEND_CTRL =>
    let was := s.on .MEND_CTRL_MIRROR_EN
    let s := s.plain x w
    if was && !s.on .MEND_CTRL_MIRROR_EN then s.markStale else s
  | .MEND_TBL_CMD => if setIn w .MEND_TBL_CMD_GO then s.engineGo 2 w aux else s.plain x w
  | .SHTL_BUF_CTRL_RSV => s.unlessBad (fun a => a.poolBad i) .SHTL_BUF_EVENT_BAD_CFG i fun s => s.plain x w
  | .SHTL_PORT_BUF => s.unlessBad (fun a => a.poolBad (boltOf i)) .SHTL_BUF_EVENT_BAD_CFG (boltOf i) fun s => s.plain x w
  | .SHTL_Q_CMD => if setIn w .SHTL_Q_CMD_GO then s.qCmdWrite i w else s.plain x w
  | .SHTL_Q_SHAPE => s.shapeWrite i j w
  | .SHTL_GCL_CFG => s.gclCfgWrite x w
  | .SHTL_GCL_CTRL => s.gclCtrlWrite i w
  | .SHTL_GCL_ADMIN_BASE_SEC | .SHTL_GCL_ADMIN_BASE_NS | .SHTL_GCL_ADMIN_CYCLE | .SHTL_GCL_ADMIN_EXT | .MDP_PC_TABLE_CFG => s.adminWrite x w
  | .SHTL_GCL_ADMIN => s.gclAdminWrite i j w
  | .SELV_CTRL => s.selvCtrlWrite x w
  | .SELV_PREEMPT_CFG => s.preemptWrite x w
  | .MAC_LANE_CFG => s.laneCfg i j w
  | .MAC_CFG => s.macCfgWrite x w
  | .MAC_FC_TX_CFG => if inReg w .MAC_FC_TX_CFG_XOFF_FRAC ≤ inReg w .MAC_FC_TX_CFG_XON_FRAC then s.event .MAC_EVENT_BAD_CFG i else (s.plain x w).fcPort i
  | .MAC_FC_TX_CMD => s.fcSend i w
  | .MAC_MD_CFG | .MDP_PC_CFG => ((s.plain x w).lineReady i).pcEnable i
  | .MDP_PC_SLOT_ADMIN => s.slotAdminWrite i j w
  | .HIF_RING_CTRL => s.ringCtrlWrite i w
  | .HIF_CQ_CFG => s.cqCfgWrite x w
  | .HIF_CQ_DB => s.cqDoorbell i (inReg w .HIF_CQ_DB_CI) (setIn w .HIF_CQ_DB_ARM)
  | .HIF_DOORBELL => s.doorbell r i (w % 2 ^ 32)
  | .DMA_CH_CTRL => s.chCtrlWrite i w
  | .DMA_CH_RATE => s.chRateWrite i w
  | .DMA_CH_WIN => if p0 then s.plain x w else s
  | .DMA_CTRL => s.dmaCtrlWrite x w
  | .DMA_PUB_CMD => if setIn w .DMA_PUB_CMD_GO then s.engineGo 3 w aux else s.plain x w
  | .INTC_SRC_CFG => if srcUsed i then (s.cfgNoted [i]).plain x w else s
  | .INTC_ENABLE => (s.cfgNoted (s.enableDiff i (usedBits i w))).plain x (usedBits i w)
  | .INTC_PENDING => s.pendWrite i w
  | .INTC_SW_SET => s.swSet (inReg w .INTC_SW_SET_SOURCE)
  | .INTC_HOST_EOI => s.hostEoi r (inReg w .INTC_HOST_EOI_ID)
  | .INTC_CORE_EOI => s.writeEoi r i (inReg w .INTC_CORE_EOI_ID)
  | .INTC_CORE_CFG => s.coreCfgWrite r x w
  | .BOOT_CTRL => s.bootCtrlWrite r w !aux
  | .BOOT_BASTE_CMD =>
    if setIn w .BOOT_BASTE_CMD_GO then
      s.basteOp r (inReg w .BOOT_BASTE_CMD_OP) (inReg w .BOOT_BASTE_CMD_GROUP) (inReg w .BOOT_BASTE_CMD_DOM) (setIn w .BOOT_BASTE_CMD_WIDTH) (inReg w .BOOT_BASTE_CMD_ADDR)
    else s.plain x w
  | .BOOT_AWT_CMD =>
    if setIn w .BOOT_AWT_CMD_GO then (if setIn w .BOOT_AWT_CMD_OP then s.awtWrite r (inReg w .BOOT_AWT_CMD_INDEX) else s.awtRead (inReg w .BOOT_AWT_CMD_INDEX))
    else s.plain x w
  | .BOOT_PF_PRIV => s.privWrite r w
  | .BOOT_NVM_CMD => if setIn w .BOOT_NVM_CMD_GO then s.nvmWrite w aux else s.plain x w
  | .THIM_ACK => s.coreOnly r fun s => s.thimAck (inReg w .THIM_ACK_SEV)
  | .THIM_WDOG => s.coreOnly r fun s => if inReg w .THIM_WDOG_KEY = 0x5A5A then { s with thim := { s.thim with wdogL := s.lNow } } else s
  | .THIM_INJECT => if setIn w .THIM_INJECT_GO then s.inject (inReg w .THIM_INJECT_SM) else s
  | .THIM_DUMP_BASE => if dumpBaseBad w then s.event .THIM_EVENT_BAD_CFG else s.plain x w
  | .THIM_EVENT => s.thimEventWrite x w
  | .PAIR_SWAP_CMD => if setIn w .PAIR_SWAP_CMD_GO then s.swapRequest else s
  | .PAIR_PEER_CMD => if setIn w .PAIR_PEER_CMD_GO then s.peerCmd r (inReg w .PAIR_PEER_CMD_OP) (inReg w .PAIR_PEER_CMD_PAGE) else s.plain x w
  | .TAPE_CTRL => s.tapeCtrlWrite x w
  | .TAPE_CNT_CMD => if setIn w .TAPE_CNT_CMD_GO then s.cntWrite w aux else s.plain x w
  | .TAPE_PEC_CFG => s.pecWrite i j w
  | .TAPE_CHALK_CFG => let s := s.plain x w; if setIn w .TAPE_CHALK_CFG_EN then s.chalkOn i else s
  | .TAPE_DUMP_CFG => s.dumpCfgWrite x w
  | .TAPE_OUT_CFG => if s.areaBad w then s.event .TAPE_EVENT_BAD_CFG else s.plain x w
  | _ => s.plain x w

/-- A write made as a watched one: whether it set one of its block's flags of refusal (R451, R453, and BS10 of R441). -/
def State.watched (s : State) (x : RegRef) (k : State → State) : Bool × State :=
  let l := refuseFlags x
  let t := k (l.foldl (fun a e => a.setFld e.1 e.2 0 0) s)
  (l.any fun e => t.on e.1 e.2, l.foldl (fun a e => if s.on e.1 e.2 then a.setFld e.1 e.2 0 1 else a) t)

/-- Class B fields whose boundary the block reaches by itself: an event, a cycle, a descriptor or a tag update of its unit (R65, R230, R251, R255, R308, R381). They wait for it while the unit
runs. -/
def Fl.ownBoundary : Fl → Bool
  | .TPL_OUT_CFG_WIDTH | .SHTL_Q_SEL_WEIGHT | .SELV_HEM_CFG_HEM | .SELV_HOLD_CFG_HOLD_ADV | .SELV_HOLD_CFG_RELEASE_ADV | .MDP_PC_CFG_ACC_WIN | .MDP_PC_CFG_RESP_WIN
  | .MDP_PC_TIMING_MAX_PROP | .DMA_CH_CFG_PRIO => true
  | _ => false

/-- CLASS_B_COMMIT: the pending value of a class B field takes effect at its boundary (R449). -/
def State.commitB (s : State) (off lo : Nat) : State :=
  match regAt off with
  | none => s
  | some x =>
    match x.reg.fields.find? fun f => decide (f.info.lo = lo) && decide (f.info.cls = Cls.b) with
    | none => s
    | some f => if f.ownBoundary && s.unitRuns x.reg x.i then s else s.takeB x f

end Sys2Proof.Machine
end

