-- ==== Sys2Proof/Machine/Access.lean ====
section
/-!
DEFINITION. Accesses to the BARs (chapter 18, R12): whole registers, halves, the table windows, the MSI-X table, and the effects of reads.
-/
namespace Sys2Proof.Machine

/-! ## Writes -/

/-- A requester's staged low half (R12). -/
def State.lowStaged (s : State) (q : Nat) : Option (Nat × Nat) := s.boot.stagedLow.get none q
def State.stageLow (s : State) (q : Nat) (v : Option (Nat × Nat)) : State := { s with boot := { s.boot with stagedLow := s.boot.stagedLow.set none q v } }

/-- The present low half of a register, W1C and WO fields taken as 0 (R12). -/
def State.lowPresent (s : State) (x : RegRef) : Nat :=
  (x.reg.fields.map fun f => match f.info.acc with
    | .w1c | .wo => 0
    | _ => s.fieldNow f x.i x.j % 2 ^ f.info.width * 2 ^ f.info.lo).sum % 2 ^ 32

/-- A high-half write: both halves are committed together (R12). -/
def State.highWrite (s : State) (q : Nat) (r : Req) (x : RegRef) (slot v : Nat) (aux : Bool) : State :=
  let hi := v % 2 ^ 32 * 2 ^ 32
  match s.lowStaged q with
  | some (a, low) =>
    if a = slot then (s.stageLow q none).regWrite r x (hi + low) aux else s.regWrite r x (hi + s.lowPresent x) aux
  | none => s.regWrite r x (hi + s.lowPresent x) aux

/-- Four bytes of an MSI-X table entry in the PCI Express format: address, upper address, data, vector control (R561). -/
def State.vecPut (s : State) (n k v : Nat) : State :=
  let x := s.vecE n
  let v := v % 2 ^ 32
  s.setVecE n (match k with
    | 0 => { x with addr := x.addr / 2 ^ 32 * 2 ^ 32 + v }
    | 1 => { x with addr := x.addr % 2 ^ 32 + v * 2 ^ 32 }
    | 2 => { x with data := v }
    | _ => { x with mask := bit v 0 })

/-- A write to the MSI-X table: entries outside the requester's range ignore it (R561). -/
def State.vecWrite (s : State) (r : Req) (off len v : Nat) : State :=
  let n := off / 16
  let k := off % 16 / 4
  if s.vecSeen r n then (let s := s.vecPut n k v; if len = 8 then s.vecPut n (k + 1) (v / 2 ^ 32) else s) else s

/-- A write at a BAR0 offset that R459 has admitted; `q` numbers the requester for staged halves (R12, R556, R561, R562). -/
def State.writeAt (s : State) (q : Nat) (r : Req) (off len v : Nat) (aux : Bool) : State :=
  if 0x300_0000 ≤ off then
    if off + len ≤ 0x320_0000 then s.localPut (off - 0x300_0000) (leBytes len v)
    else if 0x3A0_0000 ≤ off ∧ off + len ≤ 0x3A0_1000 then { s with boot := { s.boot with nvmBuf := s.boot.nvmBuf.writeLe (off - 0x3A0_0000) len v } }
    else s
  else if 0x2F0_0000 ≤ off ∧ off < 0x2F0_8000 then s.vecWrite r (off - 0x2F0_0000) len v
  else
    match regOver off with
    | none => s
    | some x =>
      if off % 8 = 0 then
        (if len = 8 then s.regWrite r x (if x.reg.wide then v % 2 ^ 64 else v % 2 ^ 32) aux
         else if x.reg.wide then s.stageLow q (some (off, v % 2 ^ 32))
         else s.regWrite r x (v % 2 ^ 32) aux)
      else if x.reg.wide then s.highWrite q r x (off - 4) v aux
      else s

/-- An access that R556 handles as a denial: outside the table windows, not 4 or 8 bytes long or not naturally aligned. -/
def malformed (bar off len : Nat) : Bool :=
  !(bar == 0 && decide (0x300_0000 ≤ off)) && !((len == 4 || len == 8) && off % len == 0)

/-- A denied access of a service-core pair: no function's count moves and the function latched is not stated (R556, log entry 5). -/
def State.denyPair (s : State) (r : Req) (write : Bool) (bar off : Nat) : State :=
  let s := s.event .BOOT_EVENT_AWT_DENY
  let (f, s) := s.draw
  let s := if s.on .BOOT_AWT_DENY_LOG_VALID then s
    else s.setFlds 0 0 [(.BOOT_AWT_DENY_LOG_VALID, 1), (.BOOT_AWT_DENY_LOG_PF, f), (.BOOT_AWT_DENY_LOG_WRITE, b2n write),
      (.BOOT_AWT_DENY_LOG_BAR, bar), (.BOOT_AWT_DENY_LOG_OFFSET, off)]
  if write then s else s.emit (.unsupported r.num)

/-- An access with its form checked, then its privilege (R456, R459, R556). -/
def State.accessed (s : State) (r : Req) (write : Bool) (bar off len : Nat) (k : State → State) : State :=
  if s.dev = .off ∨ s.present r = false then s
  else if malformed bar off len then
    match r with
    | .pf _ => s.deny r write bar off
    | .sp _ => s.denyPair r write bar off
  else s.checked r write bar off len k

/-! ## Configuration requests (R328, R330, R412) -/

/-- Configuration requests are answered: with the Pattern identity, with the default identity in Recovery and Stay-Down, and where BS11 was skipped (R438, R442, R447). -/
def State.configOpen (s : State) (f : Nat) : Bool :=
  s.dev != .off && (s.boot.pcieReady || (f == 0 && (s.dev == .recovery || s.dev == .stayDown || (s.fld .BOOT_STATUS_SKIP).testBit 10)))

/-- A configuration request arrives over a link that is up: training has found a speed of 2.5 to 32 GT/s and a width of 1, 2, 4 or 8 lanes (R326). -/
def State.linkTrained (s : State) : State :=
  if s.hif.link then s
  else
    let (g, s) := s.draw
    { s with hif := { s.hif with link := true, speed := 1 + g % 5, width := 2 ^ (g / 5 % 4) } }

/-- A configuration request of a function that is there: answered with Request Retry Status until the configuration space is open (R442). -/
def State.configured (s : State) (r : Req) (k : Nat → State → State) : State :=
  match r with
  | .sp _ => s
  | .pf f => if s.dev = .off ∨ s.present r = false then s else if s.configOpen f then k f s.linkTrained else s.linkTrained.emit (.retry r.num)

/-- A write of a function's configuration space; the places of registers and bits are those of PCI Express, numbered by the model (log entry 16): 1 Command with Bus Master Enable, 2 MSI-X
Message Control, 3 Device Control with Max_Payload_Size, Max_Read_Request_Size and Function Level Reset, 4 Device Control 2 with 10-Bit Tag Requester Enable, 6 the W1C Uncorrectable Error
Status of AER. -/
def State.configWrite (s : State) (r : Req) (reg v : Nat) : State :=
  s.configured r fun f s =>
    match reg with
    | 1 => if bit v 2 then s.busMasterOn f else s.setPfn f { s.pfn f with busMaster := false }
    | 2 => s.setPfn f { s.pfn f with msixEn := bit v 15, fnMask := bit v 14 }
    | 3 =>
      let s := s.setPfn f { s.pfn f with maxPayload := bits v 7 5, maxRead := bits v 14 12 }
      if bit v 15 then s.functionReset f else s
    | 4 => s.setPfn f { s.pfn f with tenBit := bit v 12 }
    | 6 => s.setPfn f { s.pfn f with aer := (s.pfn f).aer - ((s.pfn f).aer &&& v) }
    | _ => s

/-- A word of a function's configuration space (R326, R328, log entry 16): 0 device and vendor ID, 1 to 4 and 6 as they are written, 5 Link Status, 7 class code and revision ID,
8 the subsystem identifiers, of the Pattern once BS11 has put them in force. -/
def State.configWord (s : State) (f reg : Nat) : Nat :=
  let x := s.pfn f
  match reg with
  | 0 => (if f = 0 then 0x8128 else 0x8129) * 65536 + Config.pciId 0 % 65536
  | 1 => b2n x.busMaster * 4
  | 2 => b2n x.msixEn * 2 ^ 15 + b2n x.fnMask * 2 ^ 14
  | 3 => x.maxRead * 2 ^ 12 + x.maxPayload * 32
  | 4 => b2n x.tenBit * 2 ^ 12
  | 5 => s.hif.width * 16 + s.hif.speed
  | 6 => x.aer
  | 7 => 0x028000 * 256 + 0xA1
  | 8 => if s.boot.pcieReady then s.boot.pattern.subsys else Config.pciId 1
  | _ => 0

/-- A read of a function's configuration space. -/
def State.configRead (s : State) (r : Req) (reg : Nat) : State := s.configured r fun f s => s.emit (.reply r.num (s.configWord f reg))

/-- The ring whose doorbell holds a BAR2 offset (R337). -/
def doorbellAt (off : Nat) : Option Nat := if off % 0x40 = 0 ∧ off / 0x40 < 16384 then some (off / 0x40) else none

/-- A write: BAR0, BAR2, BAR4, or the function's configuration space as BAR number 3. -/
def State.writeAccess (s : State) (r : Req) (bar off len v : Nat) (aux : Bool) : State :=
  match bar with
  | 3 => s.configWrite r off v
  | _ => s.accessed r true bar off len fun s =>
    match bar with
    | 0 => s.writeAt r.num r off len v aux
    | 1 =>
      match doorbellAt off with
      | some ring => s.doorbell r ring (v % 2 ^ 32)
      | none => s
    | _ => s

/-! ## Reads -/

/-- The high-water marks start again from what is stored now (R557). -/
def State.restartMiss (s : State) : State := s.setFld .STRM_MISS_STATUS_HIGH_WATER 0 0 s.missCells
def State.restartRx (s : State) : State := s.setFld .HIF_RX_STORE_HIGH 0 0 s.rxUsed

/-- The effect of a read of a register, beside its value (Table 18-2). -/
def State.readEffect (s : State) (x : RegRef) : State :=
  match x.reg with
  | .TPL_CAP_NS => s.capPop x.i
  | .MEND_LAT_LOG => s.latLogRead.2
  | .THIM_FAULT_LOG => s.logPop
  | .BOOT_AWT_DENY_LOG => s.denyClear
  | .STRM_MISS_STATUS => s.restartMiss
  | .HIF_RX_STORE => s.restartRx
  | _ => s

/-- The 8 bytes of a slot of a BAR. -/
def State.slotAt8 (s : State) (r : Req) (bar off : Nat) : Nat :=
  match bar with
  | 0 => s.slotNow r off
  | 1 =>
    match doorbellAt off with
    | some ring => s.ringPi ring
    | none => 0
  | _ => s.wordNow (off / 8)

/-- A BAR4 counter word, or a BAR0 register of 64 bits: reading its low half latches its high half (R12). -/
def latches (bar off : Nat) : Bool :=
  match bar with
  | 0 =>
    match regAt off with
    | some x => decide (off < 0x2F0_0000) && x.reg.wide
    | none => false
  | 1 => false
  | _ => true

/-- A requester's latch (R12). -/
def State.latched (s : State) (q : Nat) : Option (Nat × Nat) := s.boot.latch.get none q
def State.setLatch (s : State) (q : Nat) (v : Option (Nat × Nat)) : State := { s with boot := { s.boot with latch := s.boot.latch.set none q v } }

/-- The slot of a latch. -/
def latchKey (bar off : Nat) : Nat := bar * 2 ^ 32 + off

/-- A read completes with Completer Abort (R563). -/
def State.aborted (s : State) (r : Req) : State :=
  (match r with
    | .pf f => s.aerNote f 15
    | .sp _ => s).emit (.abort r.num)

/-- The slot lies in the local memory window, on a word known to have an uncorrectable error (R469, R563). -/
def State.windowBad (s : State) (off : Nat) : Bool := decide (0x300_0000 ≤ off) && decide (off < 0x320_0000) && !s.localGood (off - 0x300_0000) 8

/-- A read of the low 4 bytes of a slot (R12, R557): of a 64-bit register, its high half is latched; the register's read effect follows. -/
def State.readLow (s : State) (r : Req) (bar off : Nat) : State :=
  if bar = 0 ∧ s.windowBad off then s.aborted r
  else if bar = 0 ∧ cellDebug off then s.emit (.reply r.num (s.cellNow (off - 0x320_0000)))
  else
    let w := s.slotAt8 r bar off
    match if bar = 0 then regAt off else none with
    | some x =>
      match x.reg with
      | .INTC_CORE_CLAIM => s.readClaim r x.i
      | .INTC_DRAIN => if s.intc.lastCfg = 0 ∨ s.intc.lastCfg + 64 * nsT ≤ s.lNow then s.emit (.reply r.num 0) else s
      | _ =>
        let s := if latches bar off then s.setLatch r.num (some (latchKey bar off, w / 2 ^ 32)) else s
        (s.emit (.reply r.num (w % 2 ^ 32))).readEffect x
    | none =>
      let s := if latches bar off then s.setLatch r.num (some (latchKey bar off, w / 2 ^ 32)) else s
      s.emit (.reply r.num (w % 2 ^ 32))

/-- A read of the high 4 bytes of a slot: the latched half where the requester's latch belongs to that register (R12). The latch is used up. -/
def State.readHigh (s : State) (r : Req) (bar off : Nat) : State :=
  if bar = 0 ∧ s.windowBad off then s.aborted r
  else if bar = 0 ∧ cellDebug off then s.emit (.reply r.num (s.cellNow (off - 0x320_0000 + 4)))
  else
    match s.latched r.num with
    | some (k, v) =>
      if k = latchKey bar off ∧ latches bar off then (s.setLatch r.num none).emit (.reply r.num v)
      else s.emit (.reply r.num (s.slotAt8 r bar off / 2 ^ 32))
    | none => s.emit (.reply r.num (s.slotAt8 r bar off / 2 ^ 32))

/-! ## The commands -/

/-- REGISTER_WRITE (R16): a write that has no command of its own, to any BAR, or to the configuration space as BAR number 3. -/
def execRegisterWrite (r : Req) (bar : Fin 4) (off len v : Nat) (aux : Bool) (s : State) : Host.Outcome State Fault Refusal :=
  done (s.writeAccess r bar off len v aux)
/-- LOW_HALF_READ (R12): `slot` is the register's offset; of the configuration space as BAR number 3, a word by its number. -/
def execLowHalfRead (r : Req) (bar : Fin 4) (slot : BitVec 26) (s : State) : Host.Outcome State Fault Refusal :=
  done (if bar = 3 then s.configRead r slot.toNat else s.accessed r false bar (slot.toNat / 8 * 8) 4 fun s => s.readLow r bar (slot.toNat / 8 * 8))
/-- HIGH_HALF_READ (R12). -/
def execHighHalfRead (r : Req) (bar : Fin 3) (slot : BitVec 26) (s : State) : Host.Outcome State Fault Refusal :=
  done (s.accessed r false bar (slot.toNat / 8 * 8 + 4) 4 fun s => s.readHigh r bar (slot.toNat / 8 * 8))
/-- LOW_HALF_WRITE (R12). -/
def execLowHalfWrite (r : Req) (slot : BitVec 26) (v : BitVec 32) (s : State) : Host.Outcome State Fault Refusal :=
  done (s.writeAccess r 0 (slot.toNat / 8 * 8) 4 v.toNat false)
/-- HIGH_HALF_WRITE (R12). -/
def execHighHalfWrite (r : Req) (slot : BitVec 26) (v : BitVec 32) (aux : Bool) (s : State) : Host.Outcome State Fault Refusal :=
  done (s.writeAccess r 0 (slot.toNat / 8 * 8 + 4) 4 v.toNat aux)
/-- CLASS_B_COMMIT (R449). -/
def execClassBCommit (off : BitVec 26) (lo : Fin 64) (s : State) : Host.Outcome State Fault Refusal := done (s.powered fun s => s.commitB off.toNat lo)
/-- HIGH_WATER_READ (R557): of STRM.MISS_STATUS, or of HIF.RX_STORE. -/
def execHighWaterRead (r : Req) (rx : Bool) (s : State) : Host.Outcome State Fault Refusal :=
  done (if rx then s.reading r .HIF_RX_STORE 0 0 fun s => (s.emit (.reply r.num (s.regNow .HIF_RX_STORE 0 0))).restartRx
    else s.reading r .STRM_MISS_STATUS 0 0 fun s => (s.emit (.reply r.num (s.regNow .STRM_MISS_STATUS 0 0))).restartMiss)
/-- TABLE_WINDOW_READ (R563): a word of local memory, or of a frame buffer cell, with an uncorrectable error. -/
def execTableWindowRead (r : Req) (cell : Bool) (word : BitVec 20) (s : State) : Host.Outcome State Fault Refusal :=
  done (if cell then s.accessed r false 0 (0x320_0000 + 8 * word.toNat) 8 fun s => ((s.aborted r).bufErr (s.fld .DEV_DBG_SEL_BOLT) .cell).cellRead (s.fld .DEV_DBG_SEL_BOLT) (word.toNat / 32)
    else s.accessed r false 0 (0x300_0000 + 8 * (word.toNat % 2 ^ 18)) 8 fun s => (s.aborted r).localError (8 * (word.toNat % 2 ^ 18)))

end Sys2Proof.Machine
end

