-- ==== Sys2Proof/Machine/Baste.lean ====
section
/-!
DEFINITION. Basting (14.6): the commands of BASTE_CMD and the release of a group (R451 to R454).
-/
namespace Sys2Proof.Machine

/-! ## Part 1: the gate list COMMITs -/

/-- The port whose gate list a staged write commits. -/
def Staged1.commitPort (w : Staged1) : Option Nat :=
  match regAt w.addr with
  | some x => if x.reg = .SHTL_GCL_CTRL ∧ setIn w.v .SHTL_GCL_CTRL_COMMIT then some x.i else none
  | none => none

/-- A pending switch is withdrawn: the cancel of R453 always succeeds. -/
def State.gclWithdraw (s : State) (p : Nat) : State :=
  ((s.setFld .SHTL_GCL_STATUS_PENDING p 0 0).setChange p (s.pt p).gcl.tPrev).event .SHTL_GCL_EVENT_CANCEL_DONE p

/-- A group fails at a refused COMMIT: the accepted ones are cancelled and the rest is discarded (R453). -/
def State.grpFail (s : State) (g addr : Nat) (accepted : List Nat) : State :=
  let late := (s.grp g).late
  let s := accepted.foldl (fun a p => a.gclWithdraw p) s
  let s := (((s.setGrp g {}).setGrpState g 4).setFld .BOOT_BASTE_GROUP_FAIL_ADDR g 0 addr).event .BOOT_EVENT_GROUP_FAIL
  if late then s.setFld .BOOT_BASTE_STATUS_BUSY 0 0 0 else s

/-- The COMMITs of a group performed in staging order, with their checks (R214, R451). -/
def State.commitAll (g : Nat) : List (Staged1 × Nat) → List Nat → State → State
  | [], _, s => s.setGrp g { s.grp g with gclDone := true, writes := (s.grp g).writes.filter fun w => w.commitPort.isNone }
  | (w, p) :: rest, acc, s =>
    let free := !s.switchPending p
    let s := (s.writeAt 16 (.pf 0) w.addr (if w.wide then 8 else 4) w.v false).gclChecked p
    if free && s.switchPending p then State.commitAll g rest (p :: acc) s else s.grpFail g w.addr acc

/-- Part 1 is due: 1 ms before T on DOM's counters, or at once for a late COMMIT (R451, R454). -/
def State.gclDue (s : State) (g : Nat) : Bool :=
  let x := s.grp g
  !x.gclDone && ((s.grpState g == 2 && decide (x.t ≤ s.voted x.dom + 1000000 * nsT)) || (s.grpState g == 3 && x.late))

/-- BASTE_RELEASE_GCL: part 1 of a release (R451). -/
def State.releaseGcl (s : State) (g : Nat) : State :=
  if s.gclDue g then
    State.commitAll g ((s.grp g).writes.filterMap fun w => w.commitPort.map fun p => (w, p)) [] (s.setGrpState g 3)
  else s

/-! ## Part 2: every other write -/

/-- An engine is running an operation. -/
def State.engineBusy (s : State) (e : Nat) : Bool :=
  if e = 1 then s.on .STRM_TBL_STATUS_BUSY else if e = 2 then s.on .MEND_TBL_STATUS_BUSY else s.on .DMA_PUB_STATUS_BUSY

/-- An engine's data registers given a value. -/
def State.setEngineData (s : State) (e v : Nat) : State := if e = 1 then s.setTblData v else if e = 2 then s.setMTblData v else s.setPubData v

/-- An engine's operation ends, and the code it ended with. -/
def State.engineEnd (s : State) (e : Nat) : Nat × State :=
  if e = 1 then (s.strm.tblCode, s.tblDone) else if e = 2 then (s.mend.tblCode, s.mTblDone) else (s.dma.pubCode, s.pubOpDone)

/-- A staged table operation runs to its end with the contents captured at STAGE; the data registers keep what software wrote (R452). -/
def State.engineRun (s : State) (e : Nat) (w : Staged1) (data : Nat) (err : Bool) : Bool × State :=
  let kept := s.engineData e
  let (code, s) := ((s.setEngineData e data).engineGo e w.v err).engineEnd e
  (code != 0, s.setEngineData e kept)

/-- A staged write performed at P0, and whether it was refused. -/
def State.performOne (s : State) (w : Staged1) (err : Bool) : Bool × State :=
  match regOver w.addr with
  | none => (false, s.writeAt 16 (.pf 0) w.addr (if w.wide then 8 else 4) w.v false)
  | some x =>
    match w.data with
    | some d => s.engineRun (engineOf x.reg) w d err
    | none => s.watched x fun s => s.writeAt 16 (.pf 0) w.addr (if w.wide then 8 else 4) w.v err

/-- A staged write waits: its engine runs an operation that software started (R452). -/
def State.stagedWaits (s : State) (w : Staged1) : Bool :=
  w.data.isSome && (match regOver w.addr with
    | some x => s.engineBusy (engineOf x.reg)
    | none => false)

/-- The end of a release: the group is EMPTY again (R451). -/
def State.grpDone (s : State) (g : Nat) : State :=
  let late := (s.grp g).late
  let s := (s.grpEmpty g).event .BOOT_EVENT_GROUP_DONE
  if late then s.setFld .BOOT_BASTE_STATUS_BUSY 0 0 0 else s

/-- The writes of a group performed in staging order, up to one that waits; a refusal sets GROUP_WARN and FAIL_ADDR, and the group continues (R453). A write
that resets the device ends the release with it. -/
def State.performAll (g : Nat) (err : Bool) : List Staged1 → State → State
  | [], s => if s.grpState g = 3 then s.grpDone g else s
  | w :: rest, s =>
    if s.grpState g ≠ 3 then s
    else if s.stagedWaits w then s.setGrp g { s.grp g with writes := w :: rest }
    else
      let (refused, s) := s.performOne w err
      let s := if refused then (s.setFld .BOOT_BASTE_GROUP_FAIL_ADDR g 0 w.addr).event .BOOT_EVENT_GROUP_WARN else s
      State.performAll g err rest s

/-- Part 2 is due: at T on DOM's counters, or at once for a late COMMIT, or after a wait (R451, R452, R454). -/
def State.releaseDue (s : State) (g : Nat) : Bool :=
  let x := s.grp g
  s.grpState g == 3 && x.gclDone && (x.late || decide (x.t ≤ s.voted x.dom))

/-- BASTE_RELEASE: part 2 of a release (R451). -/
def State.release (s : State) (g : Nat) (err : Bool) : State :=
  if s.releaseDue g then State.performAll g err (s.grp g).writes s else s

/-- A forward step of a domain past a release instant performs that release (R454). -/
def State.releaseStep (s : State) (d : Nat) : State :=
  (List.range 16).foldl (fun a g => if (a.grp g).dom = d ∧ (a.grpState g = 2 ∨ a.grpState g = 3) then (a.releaseGcl g).release g false else a) s

/-! ## The commands -/

/-- The fields of BASTE_CMD as an operation that its write starts carries them. -/
def State.basteWith (s : State) (r : Req) (op g d addr : Nat) (wide : Bool) : State := s.writing r .BOOT_BASTE_CMD 0 0 fun s => s.basteOp r op g d wide addr

/-- BASTE_STAGE (R450): the value is in BASTE_DATA. -/
def execBasteStage (r : Req) (g : Fin 16) (wide : Bool) (addr : BitVec 26) (s : State) : Host.Outcome State Fault Refusal :=
  done (s.basteWith r 0 g (s.fld .BOOT_BASTE_CMD_DOM) addr.toNat wide)
/-- BASTE_COMMIT (R451): T is in BASTE_TIME_SEC and BASTE_TIME_NS. -/
def execBasteCommit (r : Req) (g : Fin 16) (d : Dom) (s : State) : Host.Outcome State Fault Refusal :=
  done (s.basteWith r 1 g d (s.fld .BOOT_BASTE_CMD_ADDR) (s.on .BOOT_BASTE_CMD_WIDTH))
/-- BASTE_ABORT (R455). -/
def execBasteAbort (r : Req) (g : Fin 16) (s : State) : Host.Outcome State Fault Refusal :=
  done (s.basteWith r 2 g (s.fld .BOOT_BASTE_CMD_DOM) (s.fld .BOOT_BASTE_CMD_ADDR) (s.on .BOOT_BASTE_CMD_WIDTH))
/-- BASTE_PEEK (R449). -/
def execBastePeek (r : Req) (addr : BitVec 26) (s : State) : Host.Outcome State Fault Refusal :=
  done (s.basteWith r 3 (s.fld .BOOT_BASTE_CMD_GROUP) (s.fld .BOOT_BASTE_CMD_DOM) addr.toNat (s.on .BOOT_BASTE_CMD_WIDTH))
/-- BASTE_RELEASE_GCL (R451). -/
def execBasteReleaseGcl (g : Fin 16) (s : State) : Host.Outcome State Fault Refusal := done (s.powered fun s => s.releaseGcl g)
/-- BASTE_RELEASE (R451): `err`, the DRAM behind a staged table operation fails. -/
def execBasteRelease (g : Fin 16) (err : Bool) (s : State) : Host.Outcome State Fault Refusal := done (s.powered fun s => s.release g err)

end Sys2Proof.Machine
end

