-- ==== Sys2Proof/Machine/DomainStep.lean ====
section
/-!
DEFINITION. The vote of the counters (R44), and what a step of a domain does to everything that follows it (R56, R59 and the rules they name).
-/
namespace Sys2Proof.Machine

/-- What follows a domain goes to its new time: outputs (R71), ingress gate lists (R134), gate lists (R219), grids (R242), staging groups (R454), publications (R395) and dumps
(R520). -/
def State.followStep (s : State) (d : Nat) (forward : Bool) : State :=
  let new := s.voted d
  let s := (s.outStep d new forward).iglStep d new
  let s := (List.range 128).foldl (fun a p => if a.schedDom p = d then a.gclReposition p else a) s
  let s := s.gridUnlockDom d
  if forward then ((s.releaseStep d).pubSkip d new).dumpStep d new else s

/-- A step of a domain is noted: its L time, the new time and the steps before it (R52, R72). -/
def State.noteStep (s : State) (d : Nat) (delta : Int) : State :=
  let x := s.dom d
  s.setDom d { x with steps := x.steps + delta, stepLog := (s.lNow, s.voted d, x.steps) :: x.stepLog }

/-- A step of a domain on all three counters at once. -/
def State.stepDom (s : State) (d : Nat) (delta : Int) : State := ((s.stepCnts d delta).noteStep d delta).followStep d (decide (0 < delta))

/-- The suspension of an out-of-sync domain has reached every port that follows it (R91). -/
def State.suspended (s : State) (d : Nat) : Bool := (List.range 128).all fun p => s.schedDom p != d || !(s.pt p).inSync

/-- RATE on the entry to LOCKED from STEPPING: the ratio of the sample in Step-Rate mode, −integ in Servo mode, within RATE_LIMIT (R60, R61). -/
def State.entryRate (s : State) (d : Nat) : Int :=
  let lim := s.rateLimit d
  let want := if s.on .TPL_DOM_CFG_MODE d then (s.dom d).integ.neg else Frac.ofInt (s.dom d).stepRatio
  (want.clamp lim.neg lim).toWord

/-- DOM_STEP_APPLY: the pending step is applied where it is due and suspension has reached every port that follows the domain, and the domain enters LOCKED (R56, R91). -/
def State.stepApply (s : State) (d : Nat) : State :=
  match (s.dom d).step with
  | none => s
  | some (delta, at') =>
    if s.lNow < at' || !s.suspended d then s
    else
      let s := s.setDom d { s.dom d with step := none, lastStep := s.lNow }
      let s := (s.setFld .TPL_DOM_STATUS_STATE d 0 3).setRate d (s.entryRate d)
      s.stepDom d delta

/-- DOM_SET_APPLY: the load that waits is applied where it is due, and counts as a step (R59). -/
def State.loadApply (s : State) (d : Nat) : State :=
  match (s.dom d).load with
  | none => s
  | some (v, at') =>
    if s.lNow < at' then s
    else
      let old := s.voted d
      let s := ((s.setDom d { s.dom d with load := none }).loadCnts d v).noteStep d ((v : Int) - old)
      s.followStep d (decide (old < v))

/-- COUNTER_VOTE (R44, R91): `upsets` disturb counters before the vote. -/
def execCounterVote (upsets : List (Fin 9 × Fin 3 × Int)) (s : State) : Host.Outcome State Fault Refusal := done (s.powered fun s => s.voteAll upsets)
/-- DOM_STEP_APPLY (R56). -/
def execDomStepApply (d : Dom) (s : State) : Host.Outcome State Fault Refusal := done (s.powered fun s => s.stepApply d)
/-- DOM_SET_APPLY (R59, R85). -/
def execDomSetApply (d : Dom) (s : State) : Host.Outcome State Fault Refusal := done (s.powered fun s => (s.loadApply d).loadedGm d)

end Sys2Proof.Machine
end

