-- ==== Sys2Proof/Machine/BootImage.lean ====
section
/-!
DEFINITION. What the boot reads from the NVM (14.1, 14.2): the Locator, the Pattern's header and directory, the Identity Record and the REGISTERS sections.
-/
namespace Sys2Proof.Machine

/-! ## Locator (R430) -/

abbrev locatorMagic : Nat := 0x434C4B51

/-- A Locator is valid: MAGIC, FORMAT and CRC are correct, and both slots lie in the NVM. -/
def locatorOk (w : Nat) : Bool :=
  recGet w 0 4 == locatorMagic && recGet w 4 2 == 1 && recGet w 60 4 == crcOf 60 w
    && decide (0x10_0000 + 2 * recGet w 6 2 * 0x10_0000 ≤ recGet w 8 4 * 0x10_0000) && decide (4 ≤ recGet w 6 2) && decide (recGet w 6 2 ≤ 255)

/-- The Locator in use: copy 0 if valid, otherwise copy 1. -/
def State.locator (s : State) : Option Nat := ([0, 0x1000].map fun a => s.nvmLe a 64).find? locatorOk

/-! ## Header and directory (R432, R433) -/

/-- A field of `n` bytes at a byte offset of the Pattern header. -/
def State.hdr (s : State) (base off n : Nat) : Nat := s.nvmLe (base + off) n

/-- A directory entry: type, flags, bytes 4 to 7, offset, length, variant mask. -/
structure Sect where
  type : Nat
  flags : Nat
  zero : Nat
  off : Nat
  len : Nat
  mask : Nat
deriving DecidableEq, Repr

/-- The section directory of an image. -/
def State.sections (s : State) (base : Nat) : List Sect :=
  (List.range (s.hdr base 6 2)).map fun k =>
    let a := base + 256 + 32 * k
    ⟨s.nvmLe a 2, s.nvmLe (a + 2) 2, s.nvmLe (a + 4) 4, s.nvmLe (a + 8) 8, s.nvmLe (a + 16) 8, s.nvmLe (a + 24) 8⟩

/-- Two sections share no byte. -/
def Sect.apart (x y : Sect) : Bool := x.len == 0 || y.len == 0 || decide (x.off + x.len ≤ y.off) || decide (y.off + y.len ≤ x.off)

/-- No two sections of a directory overlap. -/
def allApart : List Sect → Bool
  | [] => true
  | x :: t => t.all x.apart && allApart t

/-- A directory entry passes BS04: aligned, a mask that is not 0, a type that is known unless it is not critical, and its bytes between the directory and the signature. -/
def Sect.ok (x : Sect) (dirEnd sig : Nat) : Bool :=
  x.off % 64 == 0 && x.mask != 0 && x.zero == 0 && ((1 ≤ x.type && decide (x.type ≤ 12)) || !x.flags.testBit 0)
    && decide (dirEnd ≤ x.off) && decide (x.off + x.len ≤ sig)

/-- Header and directory pass the checks of BS04 (R432, R433, R437). -/
def State.imageOk (s : State) (base : Nat) : Bool :=
  let n := s.hdr base 6 2
  let len := s.hdr base 8 8
  let dirEnd := 256 + 32 * n
  s.hdr base 0 4 == 0x54504B51 && s.hdr base 4 2 == 1 && decide (1 ≤ n) && decide (n ≤ 1024)
    && decide (dirEnd + 96 ≤ len) && decide (len ≤ s.boot.slotMb * 0x10_0000)
    && decide (s.hdr base 24 4 ≤ 63) && decide (s.boot.otpCount ≤ s.hdr base 24 4)
    && decide (s.hdr base 28 4 < 8) && decide (s.hdr base 28 4 / 2 ≠ 3)
    && (s.nvmBytes (base + 144) 112).all (· == 0#8)
    && (let l := s.sections base; l.all (fun x => x.ok dirEnd (len - 96)) && allApart l)

/-! ## Authentication (R436) -/

/-- The key digest slot that holds the digest of a public key and is not revoked. -/
def State.keySlotOf (s : State) (key : List Byte) : Option Nat :=
  (List.range 4).find? fun k => decide (s.boot.otpKey.get none k = some (Config.sha384 key)) && !s.boot.otpRevoked.testBit k

/-- The public key of an image. -/
def State.imageKey (s : State) (base : Nat) : List Byte := s.nvmBytes (base + 48) 96

/-- The image is authentic: its key is a programmed one, and its signature verifies. -/
def State.authentic (s : State) (base : Nat) : Bool :=
  let len := s.hdr base 8 8
  let key := s.imageKey base
  (s.keySlotOf key).isSome && Config.ecdsaOk key (Config.sha384 (s.nvmBytes base (len - 96))) (s.nvmBytes (base + len - 96) 96)

/-- What the header says of an image that has passed BS04, with its POLICY section. -/
def State.patternOf (s : State) (base timeout reqUp reqAcq : Nat) : PatternSt :=
  { base := base, patternId := s.hdr base 16 8, systemId := s.hdr base 32 8, secVersion := s.hdr base 24 4, advance := (s.hdr base 28 4).testBit 0,
    dramPolicy := bits (s.hdr base 28 4) 2 1, keySlot := (s.keySlotOf (s.imageKey base)).getD 0, acqTimeoutS := max 1 (min 600 timeout), reqUp := reqUp,
    reqAcq := reqAcq, imageLen := s.hdr base 8 8 }

/-! ## Identity Record (R431) -/

/-- The Identity Record passes BS05 against the Pattern that runs. -/
def State.identityOk (s : State) : Bool :=
  let a := 0x2000
  s.nvmLe a 4 == 0x44494B51 && s.nvmLe (a + 4) 8 == s.boot.pattern.systemId && decide (s.nvmLe (a + 12) 2 ≤ 4095) && decide (s.nvmLe (a + 14) 1 ≤ 63)
    && (s.nvmBytes (a + 15) 97).all (· == 0#8)
    && Config.ecdsaOk (s.imageKey s.boot.pattern.base) (Config.sha384 (s.nvmBytes a 112)) (s.nvmBytes (a + 112) 96)

/-! ## REGISTERS sections (R435) -/

/-- The 16-byte records of the REGISTERS sections that apply to the device, in directory order. -/
def State.registerRecords (s : State) : List Nat :=
  let base := s.boot.pattern.base
  let l := (s.sections base).filter fun x => x.type == 8 && x.mask.testBit s.boot.pattern.variant
  (l.map fun x => (List.range (x.len / 16)).map fun k => s.nvmLe (base + x.off + 16 * k) 16).flatten

/-- A record has the form of R435. -/
def recordForm (w : Nat) : Bool :=
  let n := recGet w 4 1
  (n == 4 || n == 8) && recGet w 0 4 % 4 == 0 && recGet w 0 4 % n == 0 && recGet w 5 3 == 0

/-- One write of a REGISTERS section, performed by the supervisor at P0; true where it is refused or sets a flag of refusal. -/
def State.recordWrite (s : State) (w : Nat) : Bool × State :=
  let off := recGet w 0 4
  let n := recGet w 4 1
  let r : Req := .sp 0
  if !recordForm w then (true, s)
  else
    match regOver off with
    | none => (false, s.writeAt r.num r off n (recGet w 8 n) false)
    | some x => s.watched x fun s => s.writeAt r.num r off n (recGet w 8 n) false

/-- The writes in order; none of them refused, or `none`. -/
def State.recordWrites : List Nat → State → Option State
  | [], s => some s
  | w :: t, s =>
    match s.recordWrite w with
    | (true, _) => none
    | (false, s) => State.recordWrites t s

end Sys2Proof.Machine
end

