-- ==== Sys2Proof/Machine/BootOps.lean ====
section
/-!
DEFINITION. The boot steps (14.4, 14.5): what each step does when it completes, how the next one begins, failures, Acquire and the entry to service.
-/
namespace Sys2Proof.Machine

/-- The boot step under way, or the last one completed. -/
def State.stepNo (s : State) : Nat := s.fld .BOOT_STATUS_STEP

/-- SKIP and ALT of the Boot Record in use name a step (Table 14-5). -/
def State.skips (s : State) (n : Nat) : Bool := (s.recF 12 2).testBit (n - 1)
def State.alts (s : State) (n : Nat) : Bool := (s.recF 14 2).testBit (n - 1)

/-- A step uses its alternative: shown in BOOT.STATUS, with a Degraded notice (R441). -/
def State.altUsed (s : State) (n : Nat) : State := (s.setFld .BOOT_STATUS_ALT 0 0 (setBit (s.fld .BOOT_STATUS_ALT) (n - 1))).fault 2 0 noUnit

/-- A step is skipped: shown in BOOT.STATUS, with a Degraded notice (R441). -/
def State.skipShown (s : State) (n : Nat) : State := (s.setFld .BOOT_STATUS_SKIP 0 0 (setBit (s.fld .BOOT_STATUS_SKIP) (n - 1))).fault 2 0 noUnit

/-- A DRAM-less build (R125, R441). -/
def State.noDram (s : State) : State := { s.setFld .STRM_CTRL_DRAMLESS 0 0 1 with dma := { (s.setFld .STRM_CTRL_DRAMLESS 0 0 1).dma with dramSize := 0 } }

/-! ## The pair at BS12 (R441, R482) -/

/-- BS12 begins: the PAIR section is applied, and a device with EN = 1 is in JOINING (R434, Table 15-7). -/
def State.joinBegin (s : State) : State :=
  if s.on .PAIR_CFG_EN then { s.setRole 1 with pair := { (s.setRole 1).pair with joinSince := s.lNow } } else s

/-- BS12 skipped or failed: SOLO with the token driven where it reads released, else SHADOW with the partner unknown and every Lead-only state STALE (R482). -/
def State.joinSkip (s : State) (low : Bool) : State :=
  if !s.on .PAIR_CFG_EN then s
  else
    let s := s.tokenSense low
    if s.on .PAIR_STATUS_TOKEN_IN then
      let s := ((s.setRole 3).setPeer 3).staleAll
      s.mdpLead.foldl (fun a p => a.setFld .MDP_PC_STATUS_STALE p 0 1) s
    else (s.tokenDrive.setRole 4).setFld .PAIR_STATUS_TOKEN_IN 0 0 1

/-! ## How a step begins -/

/-- Acquire is entered at the start of BS13 (R438); the grandmaster candidates wait from now on (R84). -/
def State.enterAcquire (s : State) : State :=
  let s := { s with dev := .acquire }
  { s with ptp := s.ptp.map fun e => (e.1, { e.2 with listenSince := s.lNow }) }

/-- What a skipped step leaves (R441). -/
def State.stepSkipped (s : State) (n : Nat) (low : Bool) : State :=
  let s := s.skipShown n
  if n = 7 then s.noDram else if n = 12 then s.joinSkip low else s

/-- A step begins: one that is skipped gives way to the next; BS07 is not run with policy NONE; in Test mode BS11 is the last (R438, R441). -/
def State.stepBegin : Nat → Nat → Bool → State → State
  | 0, _, _, s => s
  | fuel + 1, n, low, s =>
    if n = 12 ∧ s.pins.mode = 1 then { s with dev := .test }
    else
      let s := { s.setFld .BOOT_STATUS_STEP 0 0 n with boot := { (s.setFld .BOOT_STATUS_STEP 0 0 n).boot with stepL := s.lNow } }
      if n = 7 ∧ s.boot.pattern.dramPolicy = 0 then State.stepBegin fuel 8 low s.noDram
      else if n = 13 then s.enterAcquire
      else
        let s := if n = 12 then s.plain ⟨.PAIR_CFG, 0, 0⟩ s.boot.pattern.pairCfg else s
        if s.skips n then State.stepBegin fuel (n + 1) low (s.stepSkipped n low)
        else
          let s := if s.alts n ∧ (n = 4 ∨ n = 9 ∨ (n = 7 ∧ s.boot.pattern.dramPolicy = 2)) then s.altUsed n else s
          if n = 12 then s.joinBegin else s

/-- A step is complete: LAST_STEP of the record, and the next step begins (R441, Table 14-5). -/
def State.stepDone (s : State) (low : Bool) : State :=
  let n := s.stepNo
  State.stepBegin 14 (n + 1) low (s.setRec 8 1 n)

/-! ## What the steps do -/

/-- BS03: the Locator, the size of the NVM and the Boot Record (R428, R430, R444, R448); Recovery ends the boot here (R438). -/
def State.bootRecordIn (s : State) : State :=
  let (k, rec) := match s.recFind with
    | some (k, w) => (k, w)
    | none => (15, 0)
  let s := { s with boot := { s.boot with record := rec, recSector := k } }
  let s := (s.setRec 20 4 (s.recF 20 4 + 1)).setRec 19 1 s.boot.cause
  s.setFld .BOOT_CTRL_PREF_SLOT 0 0 (s.recF 16 1)

/-- The alternatives of BS01 to BS03 that the record shows (Table 14-4: BS03 alone has one). -/
def State.altEarly (s : State) : State := if s.alts 3 then s.altUsed 3 else s

/-- BS03 with the Locator in use. -/
def State.step3With (s : State) (w : Nat) (low : Bool) : State :=
  let s := ({ s with boot := { s.boot with slotMb := recGet w 6 2 } }.bootRecordIn).altEarly
  if s.recF 18 1 == 1 || s.on .BOOT_STATUS_BLOCKED then s.enterStayDown
  else if s.pins.mode == 2 then { s.setRec 8 1 3 with dev := .recovery }
  else s.stepDone low

/-- BS03: a valid Locator, and an NVM of at least the size it gives. -/
def State.step3 (s : State) (sizeMb : Nat) (low : Bool) : State :=
  match s.locator with
  | none => s
  | some w => if sizeMb < recGet w 8 4 then s else s.step3With w low

/-- BS04: the slot is PREF_SLOT, or the other one with the alternative in effect (R445); header, directory, POLICY and authentication (R432 to R437). -/
def State.step4 (s : State) (timeout reqUp reqAcq : Nat) (low : Bool) : State :=
  let slot := (s.recF 16 1 + b2n (s.alts 4)) % 2
  let base := s.slotBase slot
  if s.imageOk base && s.authentic base then
    let s := { s with boot := { s.boot with pattern := s.patternOf base timeout reqUp reqAcq } }
    let s := (s.setRec 32 8 s.boot.pattern.patternId).setRec 17 1 slot
    let s := (List.range 8).foldl (fun a d => a.setFld .TPL_SYNC_CFG_REQ_ACQ d 0 (b2n (reqAcq.testBit d))) s
    (s.setFld .BOOT_STATUS_SLOT 0 0 slot).stepDone low
  else s

/-- BS05: the Identity Record, the DEVICE and ACCESS sections; protection is in force (R431, R434, R457, R458). -/
def State.step5 (s : State) (pre subsys : Nat) (vecs : List (Nat × Nat)) (priv : Nat) (windows : List Nat) (low : Bool) : State :=
  if s.identityOk && privOk priv && decide (windows.length ≤ 1024) && windows.all (fun e => !awtBad e) then
    let s := (s.setFld .BOOT_STATUS_DEV_ID 0 0 (s.nvmLe 0x200C 2)).setFld .BOOT_PF_PRIV_LEVEL 0 0 (priv / 4 * 4)
    let s := { s with
      time := { s.time with identPrefix := pre },
      boot := { s.boot with
        awt := (windows.zipIdx).foldl (fun (t : Tbl Nat) (e : Nat × Nat) => Tbl.set 0 t e.2 (e.1 % 2 ^ 128)) s.boot.awt,
        pattern := { s.boot.pattern with subsys := subsys, variant := s.nvmLe 0x200E 1 } } }
    let s := ((vecs.take 8).zipIdx).foldl (fun a e => a.setPfn e.2 { a.pfn e.2 with vecLo := e.1.1, vecN := e.1.2 }) s
    s.stepDone low
  else s

/-- BS06: the pairs SP1 to SP7 are enabled (R426). -/
def State.step6 (s : State) (low : Bool) : State := ((List.range 7).foldl (fun a k => a.setFld .INTC_CORE_CFG_EN (k + 1) 0 1) s).stepDone low

/-- BS07: the installed DRAM is seven eighths of what is trained: both channels, or one as the alternative of REQUIRED (R441, R547, R548). -/
def State.step7 (s : State) (b0 b1 : Nat) (t0 t1 : Bool) (low : Bool) : State :=
  let one := s.alts 7 && s.boot.pattern.dramPolicy == 2
  let size := if one then (if t0 then b0 else if t1 then b1 else 0) else if t0 ∧ (t1 = true ∨ b1 = 0) then b0 + b1 else 0
  if size = 0 then s else { s with dma := { s.dma with dramSize := size / 8 * 7 } }.stepDone low

/-- One item of BS08, loaded as a table operation of the supervisor; true where it is refused. -/
def State.loadItem (s : State) (x : LoadItem) : Bool × State :=
  let ended (e : Nat) (s : State) : Bool × State := let (c, s) := s.engineEnd e; (c != 0, s)
  match x with
  | .bases t d => (false, (s.plain ⟨.STRM_TBL_BASE, 0, 0⟩ t.toNat).plain ⟨.STRM_DIR_BASE, 0, 0⟩ d.toNat)
  | .seeds v => s.watched ⟨.STRM_HASH_SEED, 0, 0⟩ fun s => s.seedWrite v.toNat
  | .entry i v => ended 1 ((s.setTblData v.toNat).strmOp 0 2 i.toNat false)
  | .strm t i v => ended 1 ((s.setTblData v.toNat).strmOp t 1 i.toNat false)
  | .mend t i v => ended 2 ((s.setMTblData v.toNat).mendOp t 1 i.toNat)
  | .pub i v => ended 3 ((s.setPubData v.toNat).pubOp 1 i)
  | .image a bytes =>
    if 0x20_0000 < a.toNat + bytes.length then (true, s) else (false, s.localPut a.toNat bytes)

/-- The items of BS08 in order; none of them refused, or `none`. -/
def State.loadItems : List LoadItem → State → Option State
  | [], s => some s
  | x :: t, s =>
    match s.loadItem x with
    | (true, _) => none
    | (false, s) => State.loadItems t s

/-- BS09: the lanes come up; without the alternative no lane may fail, with it their ports stay DISABLED (R441). The latencies of the ports are calibrated (R50). -/
def State.step9 (s : State) (failed : List Nat) (lat : List (Nat × Nat × Nat)) (low : Bool) : State :=
  if failed.isEmpty || s.alts 9 then
    (lat.foldl (fun (a : State) e => a.updPt e.1 fun x => { x with latTx := psT e.2.1, latRx := psT e.2.2 }) { s with boot := { s.boot with deadLanes := failed } }).stepDone low
  else s

/-- The parameters of a TIME section in an instance (Table 03-2). -/
def State.timeParams (s : State) (d : Nat) (x : TimeParams) : State :=
  s.setInst d { s.inst d with
    ports := x.ports.map Fin.val, gmCapable := x.gmCapable, priority1 := x.priority1.toNat, priority2 := x.priority2.toNat, bmca := x.bmca,
    logSyncInit := x.logSyncInit, logSyncOper := x.logSyncOper, logPdelayInit := x.logPdelayInit, logPdelayOper := x.logPdelayOper,
    roles := x.roles.map fun e => (e.1.val, e.2.val), logMinDelayReq := x.logMinDelayReq, propThresh := x.propThresh, allowedLost := x.allowedLost, cmlds := x.cmlds,
    logAnnounce := x.logAnnounce, announceTimeout := x.announceTimeout, syncTimeout := x.syncTimeout, initialS := x.initialS,
    listenExtra := x.listenExtra, idSlot := x.idSlot, returnHold := x.returnHold }

/-- BS10: the time parameters and the SAFETY section, then the REGISTERS sections by which blocks are set running (R434, R435). -/
def State.step10 (s : State) (times : List (Nat × TimeParams)) (v : Services) (thim pair : Nat) (low : Bool) : State :=
  let t := times.foldl (fun a e => a.timeParams e.1 e.2) s
  let t := { t with sup := { t.sup with interval := v.lifeCheckMs }, strm := { t.strm with svcAddr := v.addrs.map BitVec.toNat },
                    ttdp := { t.ttdp with lines := v.ttdp.lines.map (fun (e : Fin 128 × Fin 128) => (e.1.val, e.2.val)), helloNs := v.ttdp.helloNs, topologyNs := v.ttdp.topologyNs,
                                          timeoutNs := v.ttdp.timeoutNs, inhibitNs := v.ttdp.inhibitNs },
                    boot := { t.boot with pattern := { t.boot.pattern with pairCfg := pair, svcQ := v.queues.mapIdx (fun i (e : BitVec 3 × BitVec 4) => (i, 16 * e.1.toNat + e.2.toNat)) } } }
  match State.recordWrites t.registerRecords (t.plain ⟨.THIM_CTRL, 0, 0⟩ thim) with
  | some t => t.stepDone low
  | none => s

/-- An item of BS08 that counts as a record (Table 14-4). -/
def LoadItem.isRecord : LoadItem → Bool
  | .entry _ _ | .strm _ _ _ | .mend _ _ _ | .pub _ _ => true
  | .bases _ _ | .seeds _ | .image _ _ => false

/-- The limit of a boot step in ns of L time from its start (Table 14-4); `k` is the number of records that BS08 loads, and BS04 reads the image of its slot, at
1S-1S-1S where BS03 uses its alternative. -/
def State.stepLimitNs (s : State) (n k : Nat) : Nat :=
  match n with
  | 1 => 2000000
  | 2 => 5000000
  | 4 => 100000000 + (if s.alts 3 then 400 else 4) * s.hdr (s.slotBase ((s.recF 16 1 + b2n (s.alts 4)) % 2)) 8 8
  | 6 => 50000000
  | 7 => 200000000
  | 8 => 200000000 + 100 * k
  | 9 => 60000000
  | 10 | 11 => 100000000
  | 12 => 500000000
  | _ => 10000000

/-- The step under way is still within its limit (R441). -/
def State.stepInTime (s : State) (w : BootWork) : Bool :=
  let k := match w with
    | .load items => items.countP LoadItem.isRecord
    | _ => 0
  decide (s.lNow ≤ s.boot.stepL + s.stepLimitNs s.stepNo k * nsT)

/-- BOOT_STEP_COMPLETE: the step under way completes with what it has found, where that meets the step's conditions and comes within its limit (R441). -/
def State.stepComplete (s : State) (w : BootWork) (low : Bool) : State :=
  if s.dev ≠ .boot ∨ s.stepInTime w = false then s
  else
    match s.stepNo, w with
    | 1, .plain => if s.pins.strapOpen || !(s.time.refAOk || s.time.refBOk) then s else s.stepDone low
    | 2, .plain => if s.time.locked && s.fld .TPL_OSC_STATUS_FREQ != 0 then s.stepDone low else s
    | 3, .nvm size => if s.xspiReady then s.step3 size low else s
    | 4, .policy t up acq => s.step4 t up.toNat acq.toNat low
    | 5, .identity pre sub vecs priv wins =>
      s.step5 pre.toNat sub.toNat (vecs.map fun e => (e.1.toNat, e.2.toNat)) priv.toNat (wins.map BitVec.toNat) low
    | 6, .plain => s.step6 low
    | 7, .dram b0 b1 t0 t1 => s.step7 b0 b1 t0 t1 low
    | 8, .load items =>
      match State.loadItems items s with
      | some t => t.stepDone low
      | none => s
    | 9, .lanes failed lat => s.step9 (failed.map fun e => 5 * e.1.val + e.2.val) (lat.map fun e => (e.1.val, e.2)) low
    | 10, .config times svc thim pair => s.step10 (times.map fun e => (e.1.val, e.2)) svc thim.toNat pair.toNat low
    | 11, .plain => { s with boot := { s.boot with pcieReady := true } }.stepDone low
    | 12, .plain => if s.role = 1 then s else s.stepDone low
    | _, _ => s

/-! ## Failures (R445) -/

/-- A step is optional: BS11, BS12, and BS07 under policy OPTIONAL (Table 14-4). -/
def State.optional (s : State) (n : Nat) : Bool := n == 11 || n == 12 || (n == 7 && s.boot.pattern.dramPolicy == 1)

/-- A step has an alternative after a failure (Table 14-4). -/
def hasAlt (n : Nat) : Bool := n == 3 || n == 4 || n == 7 || n == 9

/-- The record after the failure of mandatory step n (R445). -/
def recMandatory (n code ms r : Nat) : Nat :=
  let again := recGet r 9 1 == n
  let r := recPut (recPut (recPut (recPut r 10 1 (if again then recGet r 10 1 + 1 else 1)) 9 1 n) 11 1 code) 28 4 ms
  let r := if hasAlt n then recPut r 14 2 (setBit (recGet r 14 2) (n - 1)) else r
  if recGet r 10 1 = 3 then recPut r 18 1 1 else r

/-- The failure of a step: a mandatory one leads to a boot reset or to Stay-Down, an optional one is skipped (R445); a record that cannot be written leads to Stay-Down (R448). -/
def State.stepFail (s : State) (n code : Nat) (recOk low : Bool) : State :=
  let s := (if n ≤ 3 then s.bootRecordIn else s).bump (devWord (177 + n))
  if s.optional n then
    let s := s.recWrite recOk fun r => recPut r 12 2 (setBit (recGet r 12 2) (n - 1))
    if s.dev = .boot then State.stepBegin 14 (n + 1) low (s.stepSkipped n low) else s
  else
    let s := s.recWrite recOk (recMandatory n code (s.lNow / (1000000 * nsT)))
    if s.dev ≠ .boot then s else if s.recF 18 1 = 1 then s.enterStayDown else s.reboot 2

/-- BOOT_STEP_TIMEOUT: the step under way fails or exceeds its limit; a device in JOINING waits for the limit of BS12 (Table 14-4, Table 15-7). -/
def State.stepTimeout (s : State) (code : Nat) (recOk low : Bool) : State :=
  let n := s.stepNo
  if s.dev ≠ .boot ∨ 13 ≤ n ∨ (n = 12 ∧ s.lNow < s.boot.stepL + 500000000 * nsT) then s
  else s.stepFail n code recOk low

/-! ## Claims in JOINING (Table 15-7) -/

/-- A partner heartbeat has been seen since BS12 began. -/
def State.heardPartner (s : State) : Bool :=
  decide (s.pair.joinSince < s.pair.lastPl0) || decide (s.pair.joinSince < s.pair.lastPl1)

/-- A claim of the token is due: on the Left side after 20 ms, on the Right side after 60 ms without a heartbeat, or after 400 ms. -/
def State.claimDue (s : State) : Bool :=
  let ms (k : Nat) : Bool := decide (s.pair.joinSince + k * 1000000 * nsT ≤ s.lNow)
  if s.right then (!s.heardPartner && ms 60) || ms 400 else ms 20

/-- PAIR_CLAIM_TIMEOUT: a claim, confirmed by the readback within 200 ns or not; at 500 ms BS12 fails (R482). -/
def State.pairClaim (s : State) (low confirmed recOk : Bool) : State :=
  if s.role ≠ 1 ∨ s.dev ≠ .boot then s
  else if s.pair.joinSince + 500000000 * nsT ≤ s.lNow then s.stepFail 12 0 recOk low
  else if !s.claimDue then s
  else
    let s := s.tokenSense low
    if s.on .PAIR_STATUS_TOKEN_IN && !s.on .PAIR_STATUS_TOKEN_DRV then s
    else
      let s := { s.tokenDrive with pair := { s.tokenDrive.pair with claimL := some s.lNow } }
      if confirmed then (s.setFld .PAIR_STATUS_TOKEN_IN 0 0 1).setRole 2
      else if s.right then s.tokenFree else s

/-! ## Acquire and the entry to service (R443, R445, R437) -/

/-- The conditions of R443. -/
def State.acquired (s : State) : Bool :=
  ((List.range 8).all fun d => !s.on .TPL_SYNC_CFG_REQ_ACQ d || s.inSync d)
    && ((List.range 128).all fun p => !s.boot.pattern.reqUp.testBit p || s.portHeld p || s.linkState p == 6)
    && s.role != 1

/-- The service state of a role (R482). -/
def State.serviceState (s : State) : DevState := match s.role with
  | 2 => .lead
  | 3 => .shadow
  | _ => .solo

/-- The record at the entry to service (R445, Table 14-5). -/
def recService (r : Nat) : Nat :=
  let r := recPut (recPut (recPut r 9 1 0) 10 1 0) 12 2 (clearBit (recGet r 12 2) 11)
  recPut (recPut r 24 4 (recGet r 24 4 + 1)) 8 1 14

/-- BS14: the service state is entered, and the Boot Record is written (R441, R445); fuses advance with ADVANCE = 1 (R437); a device whose drills are disabled has a Degraded fault
(R498). -/
def State.serviceEntry (s : State) (recOk : Bool) : State :=
  let s := s.holdPins
  let s := { s.setFld .BOOT_STATUS_STEP 0 0 14 with dev := s.serviceState }
  let x := s.boot.pattern
  let s := { s with
    thim := { s.thim with serviceSince := some s.lNow },
    boot := { s.boot with stepL := s.lNow, otpCount := if x.advance then max s.boot.otpCount x.secVersion else s.boot.otpCount } }
  let s := s.recWrite recOk recService
  if !s.dev.inService then s
  else
    let s := s.pcRole
    let s := if s.dev = .lead ∧ s.peer = 1 then s.snapshotSend else s
    if s.fld .PAIR_DRILL_CFG_PERIOD == 0 then s.fault 2 0 noUnit else s

/-- ACQUIRE_COMPLETE (R443). -/
def State.acquireComplete (s : State) (recOk : Bool) : State := if s.dev = .acquire ∧ s.acquired = true then s.serviceEntry recOk else s

/-- ACQ_TIMEOUT_EXPIRY (R443). -/
def State.acquireTimeout (s : State) (recOk : Bool) : State :=
  if s.dev ≠ .acquire ∨ s.lNow < s.boot.stepL + s.boot.pattern.acqTimeoutS * secT then s
  else
    let s := if s.acquired then s else (s.setFld .BOOT_STATUS_ACQ_SHORT 0 0 1).fault 2 0 noUnit
    s.serviceEntry recOk

end Sys2Proof.Machine
end

