-- ==== Sys2Proof/Machine/Boot.lean ====
section
/-!
DEFINITION. The commands of starting (14.4, 14.5, 15.6): boot steps, the claim of the token, the end of Acquire.
-/
namespace Sys2Proof.Machine

/-- BOOT_STEP_COMPLETE (R441): what the step has found or read; `tokenLow` is the level of OVL_TOKEN. -/
def execBootStepComplete (w : BootWork) (tokenLow : Bool) (s : State) : Host.Outcome State Fault Refusal := done (s.stepComplete w tokenLow)
/-- BOOT_STEP_TIMEOUT (R441, R445): FAIL_CODE, and whether the Boot Record can be written. -/
def execBootStepTimeout (code : BitVec 8) (recOk tokenLow : Bool) (s : State) : Host.Outcome State Fault Refusal := done (s.stepTimeout code.toNat recOk tokenLow)
/-- ACQUIRE_COMPLETE (R443). -/
def execAcquireComplete (recOk : Bool) (s : State) : Host.Outcome State Fault Refusal := done (s.acquireComplete recOk)
/-- ACQ_TIMEOUT_EXPIRY (R443). -/
def execAcqTimeoutExpiry (recOk : Bool) (s : State) : Host.Outcome State Fault Refusal := done (s.acquireTimeout recOk)
/-- PAIR_CLAIM_TIMEOUT (R482). -/
def execPairClaimTimeout (tokenLow confirmed recOk : Bool) (s : State) : Host.Outcome State Fault Refusal := done (s.pairClaim tokenLow confirmed recOk)

end Sys2Proof.Machine
end

