-- ==== Sys2Proof/Machine/Pins.lean ====
section
/-!
DEFINITION. The commands of power, reset, straps and the test port (chapter 17).
-/
namespace Sys2Proof.Machine

/-- PWRGOOD rises: the measurement of TIMEOSC starts (R41, R534); the device stays in Off until RESET_N is released. -/
def State.powerGood (s : State) : State :=
  if s.pins.pwrgood then s else { s with pins := { s.pins with pwrgood := true }, time := { s.time with measuring := true } }

/-- PWRGOOD has been low for 1 µs (R535, R536, R538). -/
def State.powerFall (s : State) : State := let s := s.losePower; { s with pins := { s.pins with pwrgood := false } }

/-- RESET_N has been low for 1 µs (R535, R536): the cause is RESET_N, unless the device was in Off already. -/
def State.resetAssert (s : State) : State :=
  let s := if s.dev = .off then s else s.goOff 1
  { s with pins := { s.pins with resetN := false } }

/-- RESET_N is released: the straps are sampled, and Boot begins at BS01 with L time 0, where power is good and the power-on detector does not hold the device (R438, R537, R539). -/
def State.resetRelease (s : State) (mode : Nat) (right strapOpen : Bool) : State :=
  let s := { s with pins := { s.pins with resetN := true, jtag := 0 } }
  if s.dev = .off ∧ s.pins.pwrgood ∧ !s.pins.porHold then
    { s with pins := { s.pins with mode := mode, strapOpen := strapOpen } }.bootStart right
  else s

/-- The power-on detector (R537). -/
def State.porDetect (s : State) (below : Bool) : State :=
  let s := if below ∧ s.dev ≠ .off then s.goOff 0 else s
  { s with pins := { s.pins with porHold := below } }

/-- A bank loses or regains power (R544): an unpowered VIO_CTL makes the pair logic read the partner as absent and the token as released. -/
def State.bankPower (s : State) (k : Nat) (on : Bool) : State :=
  let s := s.holdPins
  let s := { s with pins := { s.pins with bankOff := putBit s.pins.bankOff k !on } }
  if k = 4 ∧ on = false ∧ s.dev ≠ .off then
    { s with pair := { s.pair with fsIn := false } }.setFlds 0 0 [(.PAIR_STATUS_PEER, 0), (.PAIR_STATUS_TOKEN_IN, 0), (.PAIR_STATUS_FS_IN, 0), (.PAIR_STATUS_BEAT_OK, 0)]
  else s

/-- An instruction is loaded through the TAP (R550): one that takes control of pins acts only while RESET_N is low. -/
def State.jtagLoad (s : State) (i : Nat) : State := { s with pins := { s.pins with jtag := if s.pins.resetN then 0 else i } }

/-- POWER_GOOD (R534). -/
def execPowerGood (s : State) : Host.Outcome State Fault Refusal := done s.powerGood
/-- PWRGOOD_FALL (R538). -/
def execPwrgoodFall (s : State) : Host.Outcome State Fault Refusal := done s.powerFall
/-- RESET_N_ASSERT (R535). -/
def execResetNAssert (s : State) : Host.Outcome State Fault Refusal := done s.resetAssert
/-- RESET_RELEASE (R438): BOOT_MODE, OVL_SIDE and whether a strap is found open (R539). -/
def execResetRelease (mode : Fin 4) (right strapOpen : Bool) (s : State) : Host.Outcome State Fault Refusal := done (s.resetRelease mode right strapOpen)
/-- SUPPLY_POR_DETECT (R537). -/
def execSupplyPorDetect (below : Bool) (s : State) : Host.Outcome State Fault Refusal := done (s.porDetect below)
/-- VIO_BANK_POWER_CHANGE (R544). -/
def execVioBankPowerChange (k : Fin 5) (on : Bool) (s : State) : Host.Outcome State Fault Refusal := done (s.bankPower k on)
/-- JTAG_INSTRUCTION_LOAD (R550). -/
def execJtagInstructionLoad (i : Fin 4) (s : State) : Host.Outcome State Fault Refusal := done (s.jtagLoad i)

end Sys2Proof.Machine
end

