-- ==== Sys2Proof/Machine/Thimble.lean ====
section
/-!
DEFINITION. The commands and events of Thimble and of the safety mechanisms (15.2 to 15.4, 15.10 to 15.12).
-/
namespace Sys2Proof.Machine

/-- SCRUB_PASS (R469). -/
def execScrubPass (errs : List ScrubErr) (s : State) : Host.Outcome State Fault Refusal := done (s.powered fun s => errs.foldl State.scrubOne s)
/-- FAULT_RECORD (R474 to R477). -/
def execFaultRecord (sev : Fin 3) (sm : Fin 23) (unit : Fin 512) (detail : BitVec 12) (s : State) : Host.Outcome State Fault Refusal :=
  done (s.powered fun s => s.record (sev + 1) sm unit detail.toNat)
/-- THIM_ACK (R476, R505). -/
def execThimAck (r : Req) (sev : Fin 4) (s : State) : Host.Outcome State Fault Refusal :=
  done (s.writing r .THIM_ACK 0 0 fun s => s.coreOnly r fun s => s.thimAck sev)
/-- FAULT_LOG_READ (R474, R557). -/
def execFaultLogRead (r : Req) (s : State) : Host.Outcome State Fault Refusal :=
  done (s.reading r .THIM_FAULT_LOG 0 0 fun s => (s.emit (.reply r.num s.faultHead)).logPop)
/-- THIM_INJECT (R505, Table 15-18). -/
def execThimInject (r : Req) (sm : BitVec 8) (s : State) : Host.Outcome State Fault Refusal := done (s.writing r .THIM_INJECT 0 0 fun s => s.inject sm.toNat)
/-- WDOG_REFRESH (R472, R505). -/
def execWdogRefresh (r : Req) (key : BitVec 16) (s : State) : Host.Outcome State Fault Refusal :=
  done (s.writing r .THIM_WDOG 0 0 fun s => s.coreOnly r fun s => if key = 0x5A5A then { s with thim := { s.thim with wdogL := s.lNow } } else s)
/-- WDOG_EXPIRY (R472). -/
def execWdogExpiry (s : State) : Host.Outcome State Fault Refusal := done (s.powered State.wdogExpire)
/-- SUPPLY_OUT_OF_WINDOW (R467). -/
def execSupplyOutOfWindow (u : Supply) (s : State) : Host.Outcome State Fault Refusal := done (s.powered fun s => s.supplyOut u)
/-- TEMP_CONVERSION (R467, R552). -/
def execTempConversion (temps : List (BitVec 12)) (s : State) : Host.Outcome State Fault Refusal := done (s.powered fun s => s.tempConvert temps)
/-- TEMP_OVER (R467). -/
def execTempOver (u : Fin 8) (fatal : Bool) (s : State) : Host.Outcome State Fault Refusal := done (s.powered fun s => s.tempOver u (b2n fatal))
/-- LOCKSTEP_MISMATCH (R468). -/
def execLockstepMismatch (k : Fin 8) (s : State) : Host.Outcome State Fault Refusal := done (s.powered fun s => s.lockstep k)
/-- FABRIC_PROBE_SEND (R471). -/
def execFabricProbeSend (b : Bolt) (lost : List (Fin 6)) (s : State) : Host.Outcome State Fault Refusal :=
  done (s.powered fun s => s.probeSend b (lost.map fun k => k.val))
/-- PROBE_TIMEOUT (R471). -/
def execProbeTimeout (b : Bolt) (s : State) : Host.Outcome State Fault Refusal := done (s.powered fun s => s.probeTimeout b)
/-- CELL_ACCOUNT_CHECK (R471). -/
def execCellAccountCheck (b : Bolt) (d : Int) (s : State) : Host.Outcome State Fault Refusal := done (s.powered fun s => s.cellCheck b d)
/-- CONFIG_PARITY_CHECK (R472). -/
def execConfigParityCheck (bad : Bool) (s : State) : Host.Outcome State Fault Refusal := done (s.powered fun s => if bad then s.fault 3 16 noUnit else s)
/-- THIMBLE_RESTART (R479). -/
def execThimbleRestart (s : State) : Host.Outcome State Fault Refusal := done s.thimRestart
/-- RESTART_CNT_CLEAR (R479). -/
def execRestartCntClear (s : State) : Host.Outcome State Fault Refusal := done s.restartClear
/-- FATAL_DUMP_WRITE (R501, R564). -/
def execFatalDumpWrite (s : State) : Host.Outcome State Fault Refusal := done s.dumpWrite
/-- FATAL_DUMP_COMPLETE (R501, R502). -/
def execFatalDumpComplete (s : State) : Host.Outcome State Fault Refusal := done s.dumpDone
/-- LATENT_TEST_ROUND (R500). -/
def execLatentTestRound (failed : BitVec 11) (s : State) : Host.Outcome State Fault Refusal := done (s.latentRound failed.toNat)
/-- LATENT_TEST_OVERDUE (R500). -/
def execLatentTestOverdue (t : Fin 11) (s : State) : Host.Outcome State Fault Refusal := done (s.powered fun s => s.latentOverdue t)

end Sys2Proof.Machine
end

