-- ==== Sys2Proof/Machine/Dispatch.lean ====
section
/-!
DEFINITION. The effect of a command: one arm for each row of the table, each a direct call of that row's meaning.
-/
namespace Sys2Proof.Machine

/-- The effect of a command on everything but the queue of waiting commands. -/
def exec (i : Instr) (s : State) : Host.Outcome State Fault Refusal :=
  match i with
  | .registerWrite x1 x2 x3 x4 x5 x6 => Sys2Proof.Machine.execRegisterWrite x1 x2 x3 x4 x5 x6 s
  | .lowHalfRead x1 x2 x3 => Sys2Proof.Machine.execLowHalfRead x1 x2 x3 s
  | .highHalfRead x1 x2 x3 => Sys2Proof.Machine.execHighHalfRead x1 x2 x3 s
  | .lowHalfWrite x1 x2 x3 => Sys2Proof.Machine.execLowHalfWrite x1 x2 x3 s
  | .highHalfWrite x1 x2 x3 x4 => Sys2Proof.Machine.execHighHalfWrite x1 x2 x3 x4 s
  | .classBCommit x1 x2 => Sys2Proof.Machine.execClassBCommit x1 x2 s
  | .paceWindowEnd x1 x2 => Sys2Proof.Machine.execPaceWindowEnd x1 x2 s
  | .paceMicrosecondEnd x1 => Sys2Proof.Machine.execPaceMicrosecondEnd x1 s
  | .clrLowest x1 => Sys2Proof.Machine.execClrLowest x1 s
  | .vcoreLowDetect => Sys2Proof.Machine.execVcoreLowDetect s
  | .frameReceived x1 x2 x3 x4 x5 x6 x7 x8 => Sys2Proof.Machine.execFrameReceived x1 x2 x3 x4 x5 x6 x7 x8 s
  | .ctrlLimitWindowEnd => Sys2Proof.Machine.execCtrlLimitWindowEnd s
  | .missLookupComplete x1 x2 x3 => Sys2Proof.Machine.execMissLookupComplete x1 x2 x3 s
  | .negEntryExpiry => Sys2Proof.Machine.execNegEntryExpiry s
  | .cacheEntryReload x1 x2 => Sys2Proof.Machine.execCacheEntryReload x1 x2 s
  | .hashSeedWrite x1 x2 => Sys2Proof.Machine.execHashSeedWrite x1 x2 s
  | .strmTblRead x1 x2 x3 x4 => Sys2Proof.Machine.execStrmTblRead x1 x2 x3 x4 s
  | .strmTblWrite x1 x2 x3 => Sys2Proof.Machine.execStrmTblWrite x1 x2 x3 s
  | .strmTblInsert x1 x2 x3 x4 => Sys2Proof.Machine.execStrmTblInsert x1 x2 x3 x4 s
  | .strmTblUpdate x1 x2 x3 x4 => Sys2Proof.Machine.execStrmTblUpdate x1 x2 x3 x4 s
  | .strmTblDelete x1 x2 x3 x4 => Sys2Proof.Machine.execStrmTblDelete x1 x2 x3 x4 s
  | .strmTblLookup x1 x2 x3 x4 => Sys2Proof.Machine.execStrmTblLookup x1 x2 x3 x4 s
  | .strmTblPin x1 x2 x3 x4 => Sys2Proof.Machine.execStrmTblPin x1 x2 x3 x4 s
  | .strmTblUnpin x1 x2 x3 x4 => Sys2Proof.Machine.execStrmTblUnpin x1 x2 x3 x4 s
  | .strmTblComplete => Sys2Proof.Machine.execStrmTblComplete s
  | .ingressGateCommit x1 x2 => Sys2Proof.Machine.execIngressGateCommit x1 x2 s
  | .ingressGateStop x1 x2 => Sys2Proof.Machine.execIngressGateStop x1 x2 s
  | .ingressGateSwitch x1 => Sys2Proof.Machine.execIngressGateSwitch x1 s
  | .ingressGateInterval x1 => Sys2Proof.Machine.execIngressGateInterval x1 s
  | .meterSweep => Sys2Proof.Machine.execMeterSweep s
  | .scrubPass x1 => Sys2Proof.Machine.execScrubPass x1 s
  | .timeoscMeasureDone x1 => Sys2Proof.Machine.execTimeoscMeasureDone x1 s
  | .tpllLock x1 => Sys2Proof.Machine.execTpllLock x1 s
  | .timeoscLost => Sys2Proof.Machine.execTimeoscLost s
  | .refclkALost => Sys2Proof.Machine.execRefclkALost s
  | .counterVote x1 => Sys2Proof.Machine.execCounterVote x1 s
  | .portTimeUpdate x1 x2 => Sys2Proof.Machine.execPortTimeUpdate x1 x2 s
  | .domEnable x1 x2 x3 => Sys2Proof.Machine.execDomEnable x1 x2 x3 s
  | .domUnlock x1 x2 => Sys2Proof.Machine.execDomUnlock x1 x2 s
  | .domSampleWrite x1 x2 x3 => Sys2Proof.Machine.execDomSampleWrite x1 x2 x3 s
  | .domSampleProcess x1 => Sys2Proof.Machine.execDomSampleProcess x1 s
  | .domStepApply x1 => Sys2Proof.Machine.execDomStepApply x1 s
  | .domSetWrite x1 x2 x3 => Sys2Proof.Machine.execDomSetWrite x1 x2 x3 s
  | .domSetApply x1 => Sys2Proof.Machine.execDomSetApply x1 s
  | .holdTimeoutExpiry x1 => Sys2Proof.Machine.execHoldTimeoutExpiry x1 s
  | .holdEstUpdate x1 => Sys2Proof.Machine.execHoldEstUpdate x1 s
  | .snapshotTrigger x1 => Sys2Proof.Machine.execSnapshotTrigger x1 s
  | .snapshotComplete => Sys2Proof.Machine.execSnapshotComplete s
  | .outArm x1 x2 => Sys2Proof.Machine.execOutArm x1 x2 s
  | .outDisarm x1 x2 => Sys2Proof.Machine.execOutDisarm x1 x2 s
  | .outModeOff x1 x2 => Sys2Proof.Machine.execOutModeOff x1 x2 s
  | .outEvent x1 => Sys2Proof.Machine.execOutEvent x1 s
  | .outPulseEnd x1 => Sys2Proof.Machine.execOutPulseEnd x1 s
  | .captureEdge x1 x2 x3 => Sys2Proof.Machine.execCaptureEdge x1 x2 x3 s
  | .capNsRead x1 x2 => Sys2Proof.Machine.execCapNsRead x1 x2 s
  | .timeServicePtpMessage x1 x2 x3 => Sys2Proof.Machine.execTimeServicePtpMessage x1 x2 x3 s
  | .gmListenExpiry x1 => Sys2Proof.Machine.execGmListenExpiry x1 s
  | .announceBetterClock x1 x2 x3 x4 x5 x6 => Sys2Proof.Machine.execAnnounceBetterClock x1 x2 x3 x4 x5 x6 s
  | .masterLossTimeout x1 => Sys2Proof.Machine.execMasterLossTimeout x1 s
  | .returnHoldExpiry x1 => Sys2Proof.Machine.execReturnHoldExpiry x1 s
  | .ttdpTimerExpiry x1 x2 => Sys2Proof.Machine.execTtdpTimerExpiry x1 x2 s
  | .topologyPublish x1 x2 x3 x4 x5 => Sys2Proof.Machine.execTopologyPublish x1 x2 x3 x4 x5 s
  | .supervisionFrame x1 x2 x3 => Sys2Proof.Machine.execSupervisionFrame x1 x2 x3 s
  | .lifeCheckSend => Sys2Proof.Machine.execLifeCheckSend s
  | .recoveryResetTimeout x1 => Sys2Proof.Machine.execRecoveryResetTimeout x1 s
  | .menderSweep => Sys2Proof.Machine.execMenderSweep s
  | .latentTest x1 => Sys2Proof.Machine.execLatentTest x1 s
  | .latentReset x1 => Sys2Proof.Machine.execLatentReset x1 s
  | .mendTblRead x1 x2 x3 => Sys2Proof.Machine.execMendTblRead x1 x2 x3 s
  | .mendTblWrite x1 x2 x3 => Sys2Proof.Machine.execMendTblWrite x1 x2 x3 s
  | .mendTblReset x1 x2 x3 => Sys2Proof.Machine.execMendTblReset x1 x2 x3 s
  | .mendTblComplete => Sys2Proof.Machine.execMendTblComplete s
  | .latLogRead x1 => Sys2Proof.Machine.execLatLogRead x1 s
  | .mirrorRecordApply x1 x2 x3 x4 => Sys2Proof.Machine.execMirrorRecordApply x1 x2 x3 x4 s
  | .endOfRoleApply => Sys2Proof.Machine.execEndOfRoleApply s
  | .mirrorSnapshot => Sys2Proof.Machine.execMirrorSnapshot s
  | .snapshotApply x1 => Sys2Proof.Machine.execSnapshotApply x1 s
  | .hostFrameAdmitRetry x1 => Sys2Proof.Machine.execHostFrameAdmitRetry x1 s
  | .queueFlush x1 x2 x3 x4 => Sys2Proof.Machine.execQueueFlush x1 x2 x3 x4 s
  | .queueFlushDone x1 => Sys2Proof.Machine.execQueueFlushDone x1 s
  | .queueClearMax x1 x2 x3 x4 => Sys2Proof.Machine.execQueueClearMax x1 x2 x3 x4 s
  | .stagingPoint x1 x2 => Sys2Proof.Machine.execStagingPoint x1 x2 s
  | .stageFrame x1 x2 x3 => Sys2Proof.Machine.execStageFrame x1 x2 x3 s
  | .storeFullWindow x1 x2 => Sys2Proof.Machine.execStoreFullWindow x1 x2 s
  | .shuttleSelect x1 x2 => Sys2Proof.Machine.execShuttleSelect x1 x2 s
  | .calendarCoarseVisit x1 => Sys2Proof.Machine.execCalendarCoarseVisit x1 s
  | .calendarFineDue x1 => Sys2Proof.Machine.execCalendarFineDue x1 s
  | .qShapeWrite x1 x2 x3 x4 => Sys2Proof.Machine.execQShapeWrite x1 x2 x3 x4 s
  | .rescueEvaluate x1 => Sys2Proof.Machine.execRescueEvaluate x1 s
  | .gclAdminWrite x1 x2 x3 x4 => Sys2Proof.Machine.execGclAdminWrite x1 x2 x3 x4 s
  | .gclCommit x1 x2 => Sys2Proof.Machine.execGclCommit x1 x2 s
  | .gclCommitChecked x1 => Sys2Proof.Machine.execGclCommitChecked x1 s
  | .gclCancel x1 x2 => Sys2Proof.Machine.execGclCancel x1 x2 s
  | .gclStop x1 x2 => Sys2Proof.Machine.execGclStop x1 x2 s
  | .gclSwitch x1 => Sys2Proof.Machine.execGclSwitch x1 s
  | .gclIntervalStart x1 => Sys2Proof.Machine.execGclIntervalStart x1 s
  | .gclCopyCheck x1 => Sys2Proof.Machine.execGclCopyCheck x1 s
  | .gridLock x1 => Sys2Proof.Machine.execGridLock x1 s
  | .frameLaunch x1 x2 => Sys2Proof.Machine.execFrameLaunch x1 x2 s
  | .transmitStart x1 x2 x3 x4 => Sys2Proof.Machine.execTransmitStart x1 x2 x3 x4 s
  | .transmitComplete x1 => Sys2Proof.Machine.execTransmitComplete x1 s
  | .hemCut x1 => Sys2Proof.Machine.execHemCut x1 s
  | .holdApply x1 => Sys2Proof.Machine.execHoldApply x1 s
  | .holdRelease x1 => Sys2Proof.Machine.execHoldRelease x1 s
  | .fragmentCut x1 => Sys2Proof.Machine.execFragmentCut x1 s
  | .fragmentResume x1 => Sys2Proof.Machine.execFragmentResume x1 s
  | .selvedgeStop x1 x2 => Sys2Proof.Machine.execSelvedgeStop x1 x2 s
  | .verifyStart x1 => Sys2Proof.Machine.execVerifyStart x1 s
  | .verifyTimeout x1 => Sys2Proof.Machine.execVerifyTimeout x1 s
  | .respondReceived x1 => Sys2Proof.Machine.execRespondReceived x1 s
  | .verifyReceived x1 => Sys2Proof.Machine.execVerifyReceived x1 s
  | .seamFragment x1 x2 x3 x4 x5 x6 x7 x8 x9 x10 => Sys2Proof.Machine.execSeamFragment x1 x2 x3 x4 x5 x6 x7 x8 x9 x10 s
  | .seamTimeout x1 => Sys2Proof.Machine.execSeamTimeout x1 s
  | .laneCfgWrite x1 x2 x3 x4 => Sys2Proof.Machine.execLaneCfgWrite x1 x2 x3 x4 s
  | .macEnable x1 x2 x3 => Sys2Proof.Machine.execMacEnable x1 x2 x3 s
  | .signalDetect x1 => Sys2Proof.Machine.execSignalDetect x1 s
  | .lockAchieved x1 => Sys2Proof.Machine.execLockAchieved x1 s
  | .anComplete x1 x2 => Sys2Proof.Machine.execAnComplete x1 x2 s
  | .faultOrderedSet x1 x2 => Sys2Proof.Machine.execFaultOrderedSet x1 x2 s
  | .upHoldExpiry x1 => Sys2Proof.Machine.execUpHoldExpiry x1 s
  | .downFilterExpiry x1 x2 x3 => Sys2Proof.Machine.execDownFilterExpiry x1 x2 x3 s
  | .pauseTimerExpiry x1 x2 => Sys2Proof.Machine.execPauseTimerExpiry x1 x2 s
  | .xoffRefresh x1 => Sys2Proof.Machine.execXoffRefresh x1 s
  | .fcTxSend x1 x2 x3 => Sys2Proof.Machine.execFcTxSend x1 x2 x3 s
  | .carrierDeferEnd x1 => Sys2Proof.Machine.execCarrierDeferEnd x1 s
  | .collisionDetect x1 => Sys2Proof.Machine.execCollisionDetect x1 s
  | .backoffExpiry x1 => Sys2Proof.Machine.execBackoffExpiry x1 s
  | .plcaBeaconReceived x1 => Sys2Proof.Machine.execPlcaBeaconReceived x1 s
  | .plcaOpportunity x1 => Sys2Proof.Machine.execPlcaOpportunity x1 s
  | .plcaBeaconLoss x1 => Sys2Proof.Machine.execPlcaBeaconLoss x1 s
  | .lineMonitorFault x1 => Sys2Proof.Machine.execLineMonitorFault x1 s
  | .pcEnable x1 => Sys2Proof.Machine.execPcEnable x1 s
  | .pcListenExpiry x1 => Sys2Proof.Machine.execPcListenExpiry x1 s
  | .pcClaimWaitExpiry x1 x2 => Sys2Proof.Machine.execPcClaimWaitExpiry x1 x2 s
  | .pcClaimSent x1 => Sys2Proof.Machine.execPcClaimSent x1 s
  | .pcClaimReceived x1 x2 => Sys2Proof.Machine.execPcClaimReceived x1 x2 s
  | .pcBeaconReceived x1 x2 => Sys2Proof.Machine.execPcBeaconReceived x1 x2 s
  | .pcBeaconMiss x1 => Sys2Proof.Machine.execPcBeaconMiss x1 s
  | .pcSlotStart x1 => Sys2Proof.Machine.execPcSlotStart x1 s
  | .pcPollReceived x1 x2 => Sys2Proof.Machine.execPcPollReceived x1 x2 s
  | .pcSlotEnd x1 => Sys2Proof.Machine.execPcSlotEnd x1 s
  | .pcMasterRecordSend x1 => Sys2Proof.Machine.execPcMasterRecordSend x1 s
  | .pcMasterRecordApply x1 x2 x3 x4 x5 => Sys2Proof.Machine.execPcMasterRecordApply x1 x2 x3 x4 x5 s
  | .pcMasterStale x1 => Sys2Proof.Machine.execPcMasterStale x1 s
  | .doorbellWrite x1 x2 x3 x4 => Sys2Proof.Machine.execDoorbellWrite x1 x2 x3 x4 s
  | .txDescriptorFetch x1 x2 x3 => Sys2Proof.Machine.execTxDescriptorFetch x1 x2 x3 s
  | .txFrameOffer x1 => Sys2Proof.Machine.execTxFrameOffer x1 s
  | .hostReadError x1 => Sys2Proof.Machine.execHostReadError x1 s
  | .hostRxWrite x1 x2 x3 => Sys2Proof.Machine.execHostRxWrite x1 x2 x3 s
  | .rxWaitExpiry x1 => Sys2Proof.Machine.execRxWaitExpiry x1 s
  | .cqDoorbell x1 x2 x3 x4 => Sys2Proof.Machine.execCqDoorbell x1 x2 x3 x4 s
  | .cqEnable x1 x2 x3 => Sys2Proof.Machine.execCqEnable x1 x2 x3 s
  | .cqModerationExpiry x1 => Sys2Proof.Machine.execCqModerationExpiry x1 s
  | .ledgerHoldoffExpiry x1 => Sys2Proof.Machine.execLedgerHoldoffExpiry x1 s
  | .ringStart x1 x2 => Sys2Proof.Machine.execRingStart x1 x2 s
  | .ringStop x1 x2 => Sys2Proof.Machine.execRingStop x1 x2 s
  | .ringStopComplete x1 => Sys2Proof.Machine.execRingStopComplete x1 s
  | .ringReset x1 x2 => Sys2Proof.Machine.execRingReset x1 x2 s
  | .functionLevelReset x1 => Sys2Proof.Machine.execFunctionLevelReset x1 s
  | .pcieLinkLoss => Sys2Proof.Machine.execPcieLinkLoss s
  | .dmaChStart x1 x2 => Sys2Proof.Machine.execDmaChStart x1 x2 s
  | .dmaChStop x1 x2 => Sys2Proof.Machine.execDmaChStop x1 x2 s
  | .dmaChReset x1 x2 => Sys2Proof.Machine.execDmaChReset x1 x2 s
  | .dmaDescriptorFetch x1 x2 => Sys2Proof.Machine.execDmaDescriptorFetch x1 x2 s
  | .dmaDescriptorComplete x1 x2 => Sys2Proof.Machine.execDmaDescriptorComplete x1 x2 s
  | .dmaReadFail x1 x2 x3 => Sys2Proof.Machine.execDmaReadFail x1 x2 x3 s
  | .dmaReadRetry x1 => Sys2Proof.Machine.execDmaReadRetry x1 s
  | .chRateWrite x1 x2 x3 => Sys2Proof.Machine.execChRateWrite x1 x2 x3 s
  | .pubGatherStart x1 => Sys2Proof.Machine.execPubGatherStart x1 s
  | .pubGatherComplete x1 x2 x3 x4 => Sys2Proof.Machine.execPubGatherComplete x1 x2 x3 x4 s
  | .pubAbandon x1 => Sys2Proof.Machine.execPubAbandon x1 s
  | .pubRead x1 x2 => Sys2Proof.Machine.execPubRead x1 x2 s
  | .pubWrite x1 x2 => Sys2Proof.Machine.execPubWrite x1 x2 s
  | .pubOpComplete => Sys2Proof.Machine.execPubOpComplete s
  | .interruptDelivery x1 => Sys2Proof.Machine.execInterruptDelivery x1 s
  | .coreClaim x1 x2 => Sys2Proof.Machine.execCoreClaim x1 x2 s
  | .coreEoi x1 x2 x3 => Sys2Proof.Machine.execCoreEoi x1 x2 x3 s
  | .msixIssue => Sys2Proof.Machine.execMsixIssue s
  | .hostEoi x1 x2 => Sys2Proof.Machine.execHostEoi x1 x2 s
  | .swSet x1 x2 => Sys2Proof.Machine.execSwSet x1 x2 s
  | .pendingWrite x1 x2 x3 => Sys2Proof.Machine.execPendingWrite x1 x2 x3 s
  | .drainRead x1 => Sys2Proof.Machine.execDrainRead x1 s
  | .corePairDisable x1 x2 => Sys2Proof.Machine.execCorePairDisable x1 x2 s
  | .powerGood => Sys2Proof.Machine.execPowerGood s
  | .pwrgoodFall => Sys2Proof.Machine.execPwrgoodFall s
  | .resetNAssert => Sys2Proof.Machine.execResetNAssert s
  | .resetRelease x1 x2 x3 => Sys2Proof.Machine.execResetRelease x1 x2 x3 s
  | .supplyPorDetect x1 => Sys2Proof.Machine.execSupplyPorDetect x1 s
  | .bootStepComplete x1 x2 => Sys2Proof.Machine.execBootStepComplete x1 x2 s
  | .bootStepTimeout x1 x2 x3 => Sys2Proof.Machine.execBootStepTimeout x1 x2 x3 s
  | .acquireComplete x1 => Sys2Proof.Machine.execAcquireComplete x1 s
  | .acqTimeoutExpiry x1 => Sys2Proof.Machine.execAcqTimeoutExpiry x1 s
  | .bootCtrlReset x1 x2 => Sys2Proof.Machine.execBootCtrlReset x1 x2 s
  | .clearMarks x1 x2 => Sys2Proof.Machine.execClearMarks x1 x2 s
  | .clearFails x1 x2 => Sys2Proof.Machine.execClearFails x1 x2 s
  | .prefSlotWrite x1 x2 x3 => Sys2Proof.Machine.execPrefSlotWrite x1 x2 x3 s
  | .basteStage x1 x2 x3 x4 => Sys2Proof.Machine.execBasteStage x1 x2 x3 x4 s
  | .basteCommit x1 x2 x3 => Sys2Proof.Machine.execBasteCommit x1 x2 x3 s
  | .basteAbort x1 x2 => Sys2Proof.Machine.execBasteAbort x1 x2 s
  | .bastePeek x1 x2 => Sys2Proof.Machine.execBastePeek x1 x2 s
  | .basteReleaseGcl x1 => Sys2Proof.Machine.execBasteReleaseGcl x1 s
  | .basteRelease x1 x2 => Sys2Proof.Machine.execBasteRelease x1 x2 s
  | .awtRead x1 x2 => Sys2Proof.Machine.execAwtRead x1 x2 s
  | .awtWrite x1 x2 => Sys2Proof.Machine.execAwtWrite x1 x2 s
  | .pfPrivWrite x1 x2 => Sys2Proof.Machine.execPfPrivWrite x1 x2 s
  | .awtDenyLogRead x1 => Sys2Proof.Machine.execAwtDenyLogRead x1 s
  | .nvmRead x1 x2 x3 => Sys2Proof.Machine.execNvmRead x1 x2 x3 s
  | .nvmProgram x1 x2 x3 => Sys2Proof.Machine.execNvmProgram x1 x2 x3 s
  | .nvmErase x1 x2 x3 => Sys2Proof.Machine.execNvmErase x1 x2 x3 s
  | .otpKey x1 x2 => Sys2Proof.Machine.execOtpKey x1 x2 s
  | .otpRevoke x1 x2 => Sys2Proof.Machine.execOtpRevoke x1 x2 s
  | .nvmCmdComplete => Sys2Proof.Machine.execNvmCmdComplete s
  | .faultRecord x1 x2 x3 x4 => Sys2Proof.Machine.execFaultRecord x1 x2 x3 x4 s
  | .thimAck x1 x2 => Sys2Proof.Machine.execThimAck x1 x2 s
  | .faultLogRead x1 => Sys2Proof.Machine.execFaultLogRead x1 s
  | .thimInject x1 x2 => Sys2Proof.Machine.execThimInject x1 x2 s
  | .wdogRefresh x1 x2 => Sys2Proof.Machine.execWdogRefresh x1 x2 s
  | .wdogExpiry => Sys2Proof.Machine.execWdogExpiry s
  | .supplyOutOfWindow x1 => Sys2Proof.Machine.execSupplyOutOfWindow x1 s
  | .tempConversion x1 => Sys2Proof.Machine.execTempConversion x1 s
  | .tempOver x1 x2 => Sys2Proof.Machine.execTempOver x1 x2 s
  | .lockstepMismatch x1 => Sys2Proof.Machine.execLockstepMismatch x1 s
  | .fabricProbeSend x1 x2 => Sys2Proof.Machine.execFabricProbeSend x1 x2 s
  | .probeTimeout x1 => Sys2Proof.Machine.execProbeTimeout x1 s
  | .cellAccountCheck x1 x2 => Sys2Proof.Machine.execCellAccountCheck x1 x2 s
  | .configParityCheck x1 => Sys2Proof.Machine.execConfigParityCheck x1 s
  | .thimbleRestart => Sys2Proof.Machine.execThimbleRestart s
  | .restartCntClear => Sys2Proof.Machine.execRestartCntClear s
  | .fatalDumpWrite => Sys2Proof.Machine.execFatalDumpWrite s
  | .fatalDumpComplete => Sys2Proof.Machine.execFatalDumpComplete s
  | .tokenRefresh => Sys2Proof.Machine.execTokenRefresh s
  | .tokenDriverTimeout => Sys2Proof.Machine.execTokenDriverTimeout s
  | .tokenReadbackFault => Sys2Proof.Machine.execTokenReadbackFault s
  | .heartbeatSend => Sys2Proof.Machine.execHeartbeatSend s
  | .heartbeatReceived x1 x2 x3 x4 x5 x6 x7 x8 => Sys2Proof.Machine.execHeartbeatReceived x1 x2 x3 x4 x5 x6 x7 x8 s
  | .heartbeatSilence x1 => Sys2Proof.Machine.execHeartbeatSilence x1 s
  | .ovlFsAsserted x1 => Sys2Proof.Machine.execOvlFsAsserted x1 s
  | .peerUnknownTimeout => Sys2Proof.Machine.execPeerUnknownTimeout s
  | .pairLaneDown x1 => Sys2Proof.Machine.execPairLaneDown x1 s
  | .pairClaimTimeout x1 x2 x3 => Sys2Proof.Machine.execPairClaimTimeout x1 x2 x3 s
  | .takeoverPassage => Sys2Proof.Machine.execTakeoverPassage s
  | .servoRecordApply x1 x2 x3 x4 x5 => Sys2Proof.Machine.execServoRecordApply x1 x2 x3 x4 x5 s
  | .gclRecordApply x1 x2 x3 x4 x5 x6 x7 => Sys2Proof.Machine.execGclRecordApply x1 x2 x3 x4 x5 x6 x7 s
  | .mirrorCrcCompare x1 x2 => Sys2Proof.Machine.execMirrorCrcCompare x1 x2 s
  | .swapRequest x1 => Sys2Proof.Machine.execSwapRequest x1 s
  | .drillTimer => Sys2Proof.Machine.execDrillTimer s
  | .swapReqReceived x1 => Sys2Proof.Machine.execSwapReqReceived x1 s
  | .swapAckReceived x1 => Sys2Proof.Machine.execSwapAckReceived x1 s
  | .swapPostponeExpiry => Sys2Proof.Machine.execSwapPostponeExpiry s
  | .swapTokenDrive => Sys2Proof.Machine.execSwapTokenDrive s
  | .swapExecute => Sys2Proof.Machine.execSwapExecute s
  | .swapTokenRelease => Sys2Proof.Machine.execSwapTokenRelease s
  | .latentTestRound x1 => Sys2Proof.Machine.execLatentTestRound x1 s
  | .latentTestOverdue x1 => Sys2Proof.Machine.execLatentTestOverdue x1 s
  | .peerCmdRead x1 x2 x3 => Sys2Proof.Machine.execPeerCmdRead x1 x2 x3 s
  | .peerReadReceived x1 x2 => Sys2Proof.Machine.execPeerReadReceived x1 x2 s
  | .peerDataReceived x1 => Sys2Proof.Machine.execPeerDataReceived x1 s
  | .peerReadTimeout => Sys2Proof.Machine.execPeerReadTimeout s
  | .dumpInstant x1 => Sys2Proof.Machine.execDumpInstant x1 s
  | .dumpWritten x1 => Sys2Proof.Machine.execDumpWritten x1 s
  | .chalkRecord => Sys2Proof.Machine.execChalkRecord s
  | .slotClassify x1 => Sys2Proof.Machine.execSlotClassify x1 s
  | .cntClear x1 x2 x3 x4 => Sys2Proof.Machine.execCntClear x1 x2 x3 x4 s
  | .cntClearOvf x1 x2 x3 x4 => Sys2Proof.Machine.execCntClearOvf x1 x2 x3 x4 s
  | .cntReadFunc x1 x2 x3 => Sys2Proof.Machine.execCntReadFunc x1 x2 x3 s
  | .cntCmdComplete => Sys2Proof.Machine.execCntCmdComplete s
  | .tcntWriteback x1 => Sys2Proof.Machine.execTcntWriteback x1 s
  | .pecCfgWrite x1 x2 x3 x4 => Sys2Proof.Machine.execPecCfgWrite x1 x2 x3 x4 s
  | .chalkEnable x1 x2 x3 => Sys2Proof.Machine.execChalkEnable x1 x2 x3 s
  | .refclkBLost => Sys2Proof.Machine.execRefclkBLost s
  | .lockLost x1 => Sys2Proof.Machine.execLockLost x1 s
  | .faultCleared x1 => Sys2Proof.Machine.execFaultCleared x1 s
  | .lineFaultCleared x1 => Sys2Proof.Machine.execLineFaultCleared x1 s
  | .ovlTokenReleased => Sys2Proof.Machine.execOvlTokenReleased s
  | .vioBankPowerChange x1 x2 => Sys2Proof.Machine.execVioBankPowerChange x1 x2 s
  | .ptpMessageIntervalExpiry x1 x2 => Sys2Proof.Machine.execPtpMessageIntervalExpiry x1 x2 s
  | .forgetTimeExpiry x1 => Sys2Proof.Machine.execForgetTimeExpiry x1 s
  | .highWaterRead x1 x2 => Sys2Proof.Machine.execHighWaterRead x1 x2 s
  | .tableWindowRead x1 x2 x3 => Sys2Proof.Machine.execTableWindowRead x1 x2 x3 s
  | .jtagInstructionLoad x1 => Sys2Proof.Machine.execJtagInstructionLoad x1 s

end Sys2Proof.Machine
end

