-- ==== Sys2Proof/Machine/Tick.lean ====
section
/-!
DEFINITION. What the device's clocks do while no command waits (R38 to R42): one cycle of TPCLK, or one reference cycle before lock (log entry 1).
-/
namespace Sys2Proof.Machine

/-- Ticks that `n` reference cycles of 6.4 ns are in all, rounded down (R39, log entry 9). -/
def refT (n : Nat) : Nat := n * 32 * 2 ^ 40 / 5

/-- All three counters of a timescale advanced on one clock edge (R38). -/
def State.addCnts (s : State) (x n : Nat) : State := s.stepCnts x n

/-- TPCLK runs: the reference that the TPLLs use is there (R43). -/
def State.tpclkRuns (s : State) : Bool :=
  match s.fld .TPL_OSC_STATUS_REF_SRC with
  | 0 => s.time.timeoscOk
  | 1 => s.time.refAOk
  | _ => s.time.refBOk

/-- Before lock: L advances by one reference cycle, while a reference runs (R39). -/
def State.refCycle (s : State) : State :=
  if s.time.refAOk || s.time.refBOk then
    let n := s.time.refTicks
    let s := { s with time := { s.time with refTicks := n + 1 } }
    s.addCnts 8 (refT (n + 1) - refT n)
  else s

/-- One TPCLK cycle of a domain: 1 ns × (1 + RATE) while it is enabled and FREQ is not 0 (R38, R40, R41). -/
def State.domCycle (s : State) (d : Nat) : State :=
  if s.on .TPL_DOM_CFG_EN d && s.fld .TPL_OSC_STATUS_FREQ != 0 then s.stepCnts d ((2 ^ 40 : Nat) + s.rate d) else s

/-- Samples of a ratio that the mean of R42 covers: one in each microsecond of the last second of L time. -/
abbrev ratioWindow : Nat := 1000000

/-- A new microsecond of L time: while TIMEOSC is valid the running ratios take in its sample and leave out the one of a second ago (R42, log entry 110). -/
def State.ratioStep (s : State) (us : Nat) : State :=
  let t := s.time
  if !t.timeoscOk then s
  else
    let out (ref : Nat) : Nat := if t.ratioN < ratioWindow then 0 else Config.oscRatio t.ratioKey ref (us - ratioWindow)
    { s with time := { t with ratioA := t.ratioA + Config.oscRatio t.ratioKey 0 us - out 0, ratioB := t.ratioB + Config.oscRatio t.ratioKey 1 us - out 1,
                              ratioN := min ratioWindow (t.ratioN + 1) } }

/-- The ratios after a cycle that began in microsecond `us` of L time; where the mean has drifted from the one recorded at lock, TIMEOSC is declared lost (R43). -/
def State.ratioAfter (s : State) (us : Nat) : State :=
  if us < s.lUs then
    let s := s.ratioStep s.lUs
    if s.time.timeoscOk && s.oscDrifted then s.timeoscLost else s
  else s

/-- The clocks of one cycle: the counters, and the ratios of R42 (R38, R39). -/
def State.clocks (s : State) : State :=
  if !s.time.locked then s.refCycle.ratioAfter s.lUs
  else if s.tpclkRuns then ((List.range 8).foldl (fun a d => a.domCycle d) (s.addCnts 8 (2 ^ 40))).ratioAfter s.lUs
  else s

/-- One cycle of the device's clock: nothing counts in Off. Frames that become fully staged leave the buffer (R185). -/
def State.tick (s : State) : State := if s.dev = .off then s else s.clocks.stagedDue

end Sys2Proof.Machine
end

