-- ==== Sys2Proof/Safety.lean ====
section
/-!
DEFINITION. What claims are stated in: runs that go on, what a command leaves alone, the Overlock invariant.
-/
namespace Sys2Proof.Machine

/-- An outcome that carries on. -/
def runsOn (o : Host.Outcome State Fault Refusal) : Prop := ∃ s, o = .next s

/-- The fields that any event or count may touch beside its own: pending bits, their count, and the flag that a counter word has wrapped (R407, R506). -/
def Fl.shared (f : Fl) : Prop := f = .INTC_PENDING_PEND ∨ f = .INTC_PEND_CNT_COUNT ∨ f = .TAPE_EVENT_OVF

/-- Every register field keeps its value but the listed fields of the listed instances and the shared ones. -/
def State.SameFlds (s t : State) (l : List (Fl × Nat)) : Prop := ∀ f i j, (f, i) ∉ l → ¬f.shared → t.fld f i j = s.fld f i j

/-- The fields of Thimble that a fault of any severity below Fatal may change. -/
abbrev faultFlds : List (Fl × Nat) :=
  [(.THIM_STATUS_LOST, 0), (.THIM_EVENT_LOG_OVF, 0), (.THIM_STATUS_WORST, 0), (.THIM_EVENT_NOTICE, 0), (.THIM_EVENT_DEGRADED, 0)]

/-- The data words of the Stream Table's window and of the Mender's. -/
abbrev tblDataFlds : List (Fl × Nat) := (List.range 8).map fun i => (.STRM_TBL_DATA_DATA, i)
abbrev mTblDataFlds : List (Fl × Nat) := (List.range 8).map fun i => (.MEND_TBL_DATA_DATA, i)

/-- The flag that a frame refused by its drop precedence sets in its Bolt (R189). -/
abbrev dropFlds : List (Fl × Nat) := (List.range 8).map fun b => (.SHTL_BUF_EVENT_PRECEDENCE_DROP, b)

/-- What the start of a table operation writes (R145, R179): the command's own fields and BUSY. -/
abbrev tblCmdFlds : List (Fl × Nat) := [(.STRM_TBL_CMD_TABLE, 0), (.STRM_TBL_CMD_OP, 0), (.STRM_TBL_CMD_INDEX, 0), (.STRM_TBL_STATUS_BUSY, 0)]
abbrev mTblCmdFlds : List (Fl × Nat) := [(.MEND_TBL_CMD_TABLE, 0), (.MEND_TBL_CMD_OP, 0), (.MEND_TBL_CMD_INDEX, 0), (.MEND_TBL_STATUS_BUSY, 0)]

/-- Every byte of the local memories, the attached DRAM and the NVM keeps its value. -/
def State.SameMem (s t : State) : Prop :=
  ∀ a, t.localMem.byte a = s.localMem.byte a ∧ t.dram.byte a = s.dram.byte a ∧ Memory.byte t.boot.nvm a = Memory.byte s.boot.nvm a

/-- The admin configuration that a WRITE of a configuration record leaves in an ingress gate list (Table 04-9). -/
abbrev iglOf (x : IglSt) (v : Nat) : IglSt :=
  { x with baseSec := bits v 175 128, baseNs := bits v 127 96, cycle := bits v 95 64, dom := bits v 61 59, oosOpen := bit v 58, adminLen := bits v 56 48 }

/-- An access to a register instance is carried out: the device is not in Off, the requester exists, and R447, R456, R459 and R478 let the access pass. -/
abbrev State.Grants (s : State) (r : Req) (write : Bool) (reg : Reg) (i j : Nat) : Prop :=
  s.dev ≠ .off ∧ s.present r = true ∧ s.allowed r write 0 (addrOf reg i j) (regLen reg) = true

/-- An access through a function has been denied: counted for the function, AWT_DENY set, latched as the first since the last read of the log, and nothing else (R459). -/
abbrev State.DeniedAs (s t : State) (f : Fin 8) (write : Bool) (bar off : Nat) : Prop :=
  t.fld .BOOT_EVENT_AWT_DENY = 1 ∧ t.ctr (devWord (196 + f)) = ctrAdd (s.ctr (devWord (196 + f))) 1 ∧ t.on .BOOT_AWT_DENY_LOG_VALID = true ∧
  (s.on .BOOT_AWT_DENY_LOG_VALID = true → s.SameFlds t [(.BOOT_EVENT_AWT_DENY, 0)]) ∧
  (s.on .BOOT_AWT_DENY_LOG_VALID = false → t.fld .BOOT_AWT_DENY_LOG_PF = f ∧ t.fld .BOOT_AWT_DENY_LOG_WRITE = b2n write ∧
    t.fld .BOOT_AWT_DENY_LOG_BAR = bar ∧ t.fld .BOOT_AWT_DENY_LOG_OFFSET = off ∧
    s.SameFlds t [(.BOOT_EVENT_AWT_DENY, 0), (.BOOT_AWT_DENY_LOG_VALID, 0), (.BOOT_AWT_DENY_LOG_PF, 0), (.BOOT_AWT_DENY_LOG_WRITE, 0),
      (.BOOT_AWT_DENY_LOG_BAR, 0), (.BOOT_AWT_DENY_LOG_OFFSET, 0)]) ∧
  s.SameMem t ∧ t.dev = s.dev

/-- Role, OVL_TOKEN, OVL_FS and the beat as R482 and Table 15-6 have them in every device state: no role while the pair is off or in Test and Recovery; the token driven only with a
role and in a state that may drive it; OVL_FS driven in Fail-Silent and Stay-Down and in no other; no beat without a role or in a failed device. -/
abbrev State.Overlock (s : State) : Prop :=
  (s.on .PAIR_CFG_EN = false ∨ s.dev = .test ∨ s.dev = .recovery → s.fld .PAIR_STATUS_ROLE = 0) ∧
  (s.mayDriveToken = false → s.fld .PAIR_STATUS_TOKEN_DRV = 0) ∧
  s.pair.fsDrive = s.dev.failed ∧
  (s.pair.beatLevel = true → s.on .PAIR_STATUS_ROLE = true ∧ s.dev.failed = false)

end Sys2Proof.Machine
end

