-- ==== Sys2Proof/Certificates/Slice0/Obligations.lean ====
section
/-!
DEFINITION. The statements for the provers, from the specification's rules: what each command does and where it completes, what it leaves alone, and what every step keeps.
-/
set_option maxRecDepth 20000
open Sys2Proof Sys2Proof.Machine

/-! ## The machine as a whole -/

/-- A step with a command at the front of the queue is that command's effect on the state with the queue's rest: the queue is first in, first out (model's form of a block, log entry 18; the chapter 95 lists the commands). -/
def Obligations.StepRunsFrontCommand : Prop := ∀ (c : Instr) (l : List Instr) (s : State),
  step { s with pending := c :: l } = exec c { s with pending := l }

/-- A step with no command is one cycle of the device's clock, the model's choice of log entry 1, by the rules of the counters (R38, R39, R40, R41): nothing counts in Off; before lock all three counters of L advance by a reference
cycle of 6.4 ns while a reference runs; after lock, while TPCLK runs, L advances by 1 ns and each enabled domain by 1 ns × (1 + RATE), on all three counters; a disabled domain, and every domain while FREQ is 0, stands still.
Registers and memories keep their values, where no frame becomes fully staged and TIMEOSC is not declared lost in the cycle; where the mean ratio of TIMEOSC to REFCLK_A has left 100 ppm of the one recorded at lock when a
microsecond begins, TIMEOSC is declared lost (R43). -/
def Obligations.EmptyQueueTick : Prop := ∀ s : State, s.Overlock → s.pending = [] → (∀ p, ∀ x ∈ (s.pt p).staged, x.held = false) →
  (s.dev ≠ .off → s.time.locked = true → s.tpclkRuns = true → s.time.timeoscOk = true → s.excl 8 = 0 → (∀ c : Fin 3, s.cnt 8 c = 1000000 * nsT - nsT) →
    (let m := s.ratioStep 1000; m.oscDrifted = true) → s.time.refAOk = true → s.fld .TPL_OSC_STATUS_REF_SRC = 0 →
    ∃ t, step s = .next t ∧ t.time.timeoscOk = false) ∧
  (s.clocks.time.timeoscOk = s.time.timeoscOk → ∃ t, step s = .next t ∧ t.pending = [] ∧
  (s.dev = .off → ∀ x c, t.cnt x c = s.cnt x c) ∧
  (s.dev ≠ .off → s.time.locked = false → s.time.refAOk = true ∨ s.time.refBOk = true →
    (∀ c : Fin 3, t.cnt 8 c = s.cnt 8 c + (refT (s.time.refTicks + 1) - refT s.time.refTicks)) ∧ t.time.refTicks = s.time.refTicks + 1 ∧
    ∀ (d : Dom) (c : Fin 3), t.cnt d c = s.cnt d c) ∧
  (s.dev ≠ .off → s.time.locked = false → s.time.refAOk = false → s.time.refBOk = false → ∀ x c, t.cnt x c = s.cnt x c) ∧
  (s.dev ≠ .off → s.time.locked = true → s.tpclkRuns = true → (∀ c : Fin 3, t.cnt 8 c = s.cnt 8 c + 2 ^ 40) ∧
    ∀ (d : Dom) (c : Fin 3),
      (s.on .TPL_DOM_CFG_EN d = true → s.fld .TPL_OSC_STATUS_FREQ ≠ 0 → (t.cnt d c : Int) = s.cnt d c + 2 ^ 40 + s.rate d) ∧
      (s.on .TPL_DOM_CFG_EN d = false ∨ s.fld .TPL_OSC_STATUS_FREQ = 0 → t.cnt d c = s.cnt d c)) ∧
  (s.dev ≠ .off → s.time.locked = true → s.tpclkRuns = false → ∀ x c, t.cnt x c = s.cnt x c) ∧
  (∀ f i j, t.fld f i j = s.fld f i j) ∧ s.SameMem t ∧ t.dev = s.dev)

/-- After RESET_N the device is in Boot at BS01 and L starts at 0 (R39, R438). Further the model's choices of log entries 1 to 3: every register field holds the reset value of its table, no command waits, memory lists nothing, no
reservation, role or output is held. -/
def Obligations.ResetState : Prop := State.reset.dev = .boot ∧ State.reset.fld .BOOT_STATUS_STEP = 1 ∧ (∀ c : Fin 3, State.reset.cnt 8 c = 0) ∧
  (∀ f i j, State.reset.fld f i j = fldReset f i) ∧ State.reset.pending = [] ∧
  State.reset.localMem.wf = true ∧ State.reset.dram.wf = true ∧ (∀ a, State.reset.localMem.byte a = 0#8 ∧ State.reset.dram.byte a = 0#8) ∧
  State.reset.Overlock

/-- Whatever the queue holds and whatever the state, the machine runs on, and after every step role, OVL_TOKEN, OVL_FS and the beat are what R482 and Table 15-6 allow in the device state that the step leaves: no role while the pair is
off or in Test and Recovery, the token driven with a role and in no failed state, OVL_FS driven in Fail-Silent and Stay-Down alone, a beat with a role only (R482, Table 15-6). -/
def Obligations.StepKeepsOverlock : Prop := ∀ s : State, s.Overlock → ∃ t, step s = .next t ∧ t.Overlock

/-- Who may access what (R456, R458, R459, R447, R478): a service-core pair always; PF0 everything in a device that has not failed; PF1 to PF7 what the lowest-numbered of the valid entries for the BAR, the function and every byte of
the access admits at the level of PF_PRIV; in Fail-Silent no write, and of reads those of the readable blocks of BAR0; in Stay-Down the BOOT registers and the NVM buffer window. A denied access (R459, R556): a write is discarded
and a read completes with Unsupported Request; the denial is counted for the function and sets AWT_DENY, and the log latches the first since its last read. An access to a BAR that is not 4 or 8 bytes or not naturally aligned ends
the same way. The Unsupported Request stands in the function's AER status (bit 20 by log entry 16). -/
def Obligations.AccessChecks : Prop :=
  (∀ (s : State) (write : Bool) (bar off len : Nat),
  (∀ p, s.allowed (.sp p) write bar off len = true) ∧
  (s.dev.failed = false → s.allowed (.pf 0) write bar off len = true) ∧
  (∀ f : Fin 8, s.dev.failed = false → f ≠ 0 → (s.allowed (.pf f) write bar off len = true ↔
    ∃ n < 1024, awtCovers (s.awtEntry n) bar f off len = true ∧ (∀ m < n, awtCovers (s.awtEntry m) bar f off len = false) ∧
      (let code := if write then bits (s.awtEntry n) 114 113 else bits (s.awtEntry n) 116 115
       s.pfLevel f = 1 ∧ (code = 1 ∨ code = 2) ∨ s.pfLevel f = 2 ∧ code = 2))) ∧
  (∀ f : Fin 8, s.dev = .failSilent → write = true ∨ bar ≠ 0 ∨ 0x1_0000 ≤ off ∧ off < 0x6_0000 ∨ 0x9_0000 ≤ off → s.allowed (.pf f) write bar off len = false) ∧
  (s.dev = .failSilent → off < 0x1_0000 ∨ 0x6_0000 ≤ off ∧ off < 0x9_0000 → s.allowed (.pf 0) false 0 off len = true) ∧
  (∀ f : Fin 8, s.dev = .stayDown → bar ≠ 0 ∨ stayDownReaches off = false → s.allowed (.pf f) write bar off len = false) ∧
  (s.dev = .stayDown → stayDownReaches off = true → s.allowed (.pf 0) write 0 off len = true)) ∧
  (∀ (s : State) (f : Fin 8), s.Overlock → s.dev ≠ .off → s.present (.pf f) = true →
  (∀ (bar : Fin 3) (off len v : Nat) (aux : Bool), off < 2 ^ 26 → malformed bar off len = true ∨ s.allowed (.pf f) true bar off len = false →
    ∃ t, exec (.registerWrite (.pf f) bar.castSucc off len v aux) s = .next t ∧ s.DeniedAs t f true bar off ∧ t.out = s.out) ∧
  (∀ (bar : Fin 3) (slot : BitVec 26), s.allowed (.pf f) false bar (slot.toNat / 8 * 8) 4 = false →
    ∃ t, exec (.lowHalfRead (.pf f) bar.castSucc slot) s = .next t ∧ s.DeniedAs t f false bar (slot.toNat / 8 * 8) ∧ t.out = s.out ++ [.unsupported f] ∧
      (t.pfn f).aer.testBit 20 = true) ∧
  (∀ (bar : Fin 3) (slot : BitVec 26), s.allowed (.pf f) false bar (slot.toNat / 8 * 8 + 4) 4 = false →
    ∃ t, exec (.highHalfRead (.pf f) bar slot) s = .next t ∧ s.DeniedAs t f false bar (slot.toNat / 8 * 8 + 4) ∧ t.out = s.out ++ [.unsupported f] ∧
      (t.pfn f).aer.testBit 20 = true))

/-! ## Register accesses (chapters 00, 14, 18) -/

/-- REGISTER_WRITE and CLASS_B_COMMIT (R16 to R19, R449), at one register of each class: a class I write takes effect at once; a class X write that would change a field of a running domain is refused with the block's CHANGE_REFUSED,
and the same write takes effect while the domain is stopped; a class B write of a running port goes to the field's own pending slot, while the field keeps its committed value, and at the boundary the pending value of any class B
field becomes the field's value. A field whose boundary its unit reaches by itself while it runs keeps both values at CLASS_B_COMMIT (log entry 23). -/
def Obligations.RegisterWriteByChangeClass : Prop := ∀ (s : State) (r : Req), s.Overlock →
  (∀ (d : Dom) (v : Nat) (aux : Bool), s.Grants r true .TPL_DOM_HOLD d 0 →
    ∃ t, exec (.registerWrite r 0 (addrOf .TPL_DOM_HOLD d 0) 4 v aux) s = .next t ∧
      t.fld .TPL_DOM_HOLD_RATE_UNC d = bits v 31 16 ∧ t.fld .TPL_DOM_HOLD_DRIFT d = bits v 15 0 ∧
      s.SameFlds t [(.TPL_DOM_HOLD_RATE_UNC, d), (.TPL_DOM_HOLD_DRIFT, d)] ∧ s.SameMem t) ∧
  (∀ (d : Dom) (v : Nat) (aux : Bool), s.Grants r true .TPL_DOM_MAP d 0 → s.domState d ≠ 0 →
    (∃ f ∈ Reg.fields .TPL_DOM_MAP, s.fld f d ≠ bits v f.info.hi f.info.lo) →
    ∃ t, exec (.registerWrite r 0 (addrOf .TPL_DOM_MAP d 0) 4 v aux) s = .next t ∧ t.fld .TPL_EVENT_CHANGE_REFUSED = 1 ∧
      s.SameFlds t [(.TPL_EVENT_CHANGE_REFUSED, 0)] ∧ s.SameMem t) ∧
  (∀ (d : Dom) (v : Nat) (aux : Bool), s.Grants r true .TPL_DOM_MAP d 0 → s.domState d = 0 →
    ∃ t, exec (.registerWrite r 0 (addrOf .TPL_DOM_MAP d 0) 4 v aux) s = .next t ∧
      (∀ f ∈ Reg.fields .TPL_DOM_MAP, t.fld f d = bits v f.info.hi f.info.lo) ∧
      s.SameFlds t ((Reg.fields .TPL_DOM_MAP).map fun f => (f, d.val)) ∧ s.SameMem t) ∧
  (∀ (p : Port) (v : Nat) (aux : Bool), s.Grants r true .TPL_PORT_TS p 0 → s.on .MAC_CFG_EN p = true →
    ∃ t, exec (.registerWrite r 0 (addrOf .TPL_PORT_TS p 0) 8 v aux) s = .next t ∧
      t.pendingB ⟨.TPL_PORT_TS, p, 0⟩ .TPL_PORT_TS_RX_LAT = some (bits v 31 0) ∧
      t.pendingB ⟨.TPL_PORT_TS, p, 0⟩ .TPL_PORT_TS_TX_LAT = some (bits v 63 32) ∧ s.SameFlds t [] ∧ s.SameMem t) ∧
  (∀ (off : BitVec 26) (lo : Fin 64) (x : RegRef) (f : Fl) (v : Nat), s.dev ≠ .off → regAt off.toNat = some x →
    (x.reg.fields.find? fun g => decide (g.info.lo = lo.val) && decide (g.info.cls = Cls.b)) = some f → s.pendingB x f = some v → v < 2 ^ f.info.width →
    (f.ownBoundary = true → s.unitRuns x.reg x.i = false) →
    ∃ t, exec (.classBCommit off lo) s = .next t ∧ t.fld f x.i x.j = v ∧ t.pendingB x f = none ∧ s.SameFlds t [(f, x.i)] ∧ s.SameMem t) ∧
  (∀ (q : Fin 16384) (v : Nat), s.dev ≠ .off → s.bufBusy (boltOf (q / 128)) = true → s.pendingB ⟨.SHTL_Q_SEL, q / 128, q % 128⟩ .SHTL_Q_SEL_WEIGHT = some v →
    ∃ t, exec (.classBCommit (BitVec.ofNat 26 (addrOf .SHTL_Q_SEL (q / 128) (q % 128))) 16) s = .next t ∧
      t.pendingB ⟨.SHTL_Q_SEL, q / 128, q % 128⟩ .SHTL_Q_SEL_WEIGHT = some v ∧ s.SameFlds t [] ∧ s.SameMem t)

/-- The halves of 64-bit registers (R12): a read of the low half of a counter word answers it and latches the high half for its requester alone; the next read of the high half answers the latched half, whatever the word holds by then.
A write of a low half is staged and writes no register; a write of the high half commits both halves together. No latch and no staged half of another requester moves. Reads with an effect of their own (R557, R563): a high-water
mark starts again from what is stored at the read; a read of a word of local memory, or of a frame buffer cell, with an uncorrectable error completes with Completer Abort, and a Degraded fault is raised; the word is known for it
from then on, and every later read of it through the window is aborted; the frame that holds such a cell ends with an inverted FCS where it is under transmission (R198), and leaves its queue otherwise. Memory keeps its bytes. -/
def Obligations.HalvesAndReads : Prop :=
  (∀ (s : State) (r : Req), s.Overlock → s.dev ≠ .off → s.present r = true →
  (∀ slot : BitVec 26, s.allowed r false 2 (slot.toNat / 8 * 8) 4 = true →
    ∃ t, exec (.lowHalfRead r 2 slot) s = .next t ∧ t.out = s.out ++ [.reply r.num (s.wordNow (slot.toNat / 8) % 2 ^ 32)] ∧
      t.latched r.num = some (latchKey 2 (slot.toNat / 8 * 8), s.wordNow (slot.toNat / 8) / 2 ^ 32) ∧
      (∀ q, q ≠ r.num → t.latched q = s.latched q) ∧ (∀ q, t.lowStaged q = s.lowStaged q) ∧ s.SameFlds t [] ∧ s.SameMem t) ∧
  (∀ (slot : BitVec 26) (v : Nat), s.allowed r false 2 (slot.toNat / 8 * 8 + 4) 4 = true → s.latched r.num = some (latchKey 2 (slot.toNat / 8 * 8), v) →
    ∃ t, exec (.highHalfRead r 2 slot) s = .next t ∧ t.out = s.out ++ [.reply r.num v] ∧
      (∀ q, q ≠ r.num → t.latched q = s.latched q) ∧ (∀ q, t.lowStaged q = s.lowStaged q) ∧ s.SameFlds t [] ∧ s.SameMem t) ∧
  (∀ (slot : BitVec 26) (v : BitVec 32) (x : RegRef), s.allowed r true 0 (slot.toNat / 8 * 8) 4 = true →
    slot.toNat / 8 * 8 < 0x2F0_0000 → regOver (slot.toNat / 8 * 8) = some x → x.reg.wide = true →
    ∃ t, exec (.lowHalfWrite r slot v) s = .next t ∧ t.lowStaged r.num = some (slot.toNat / 8 * 8, v.toNat) ∧
      (∀ q, q ≠ r.num → t.lowStaged q = s.lowStaged q) ∧ (∀ q, t.latched q = s.latched q) ∧ s.SameFlds t [] ∧ s.SameMem t) ∧
  (∀ (v : BitVec 32) (aux : Bool) (low : Nat), s.Grants r true .BOOT_BASTE_DATA 0 0 → s.allowed r true 0 0x6001C 4 = true → low < 2 ^ 32 →
    s.lowStaged r.num = some (0x60018, low) →
    ∃ t, exec (.highHalfWrite r 0x60018 v aux) s = .next t ∧ t.fld .BOOT_BASTE_DATA_DATA = v.toNat * 2 ^ 32 + low ∧
      (∀ q, q ≠ r.num → t.lowStaged q = s.lowStaged q) ∧ (∀ q, t.latched q = s.latched q) ∧ s.SameFlds t [(.BOOT_BASTE_DATA_DATA, 0)] ∧ s.SameMem t)) ∧
  (∀ (s : State) (r : Req), s.Overlock →
  (s.Grants r false .STRM_MISS_STATUS 0 0 → ∃ t, exec (.highWaterRead r false) s = .next t ∧ t.out = s.out ++ [.reply r.num (s.regNow .STRM_MISS_STATUS 0 0)] ∧
    t.fld .STRM_MISS_STATUS_HIGH_WATER = s.missCells % 2 ^ 15 ∧ s.SameFlds t [(.STRM_MISS_STATUS_HIGH_WATER, 0)] ∧ s.SameMem t) ∧
  (s.Grants r false .HIF_RX_STORE 0 0 → ∃ t, exec (.highWaterRead r true) s = .next t ∧ t.out = s.out ++ [.reply r.num (s.regNow .HIF_RX_STORE 0 0)] ∧
    t.fld .HIF_RX_STORE_HIGH = s.rxUsed % 2 ^ 14 ∧ s.SameFlds t [(.HIF_RX_STORE_HIGH, 0)] ∧ s.SameMem t) ∧
  (∀ word : BitVec 20, s.dev ≠ .off → s.present r = true → s.allowed r false 0 (0x300_0000 + 8 * (word.toNat % 2 ^ 18)) 8 = true →
    ∃ t, exec (.tableWindowRead r false word) s = .next t ∧ t.out = s.out ++ [.abort r.num] ∧ t.on .THIM_EVENT_DEGRADED = true ∧
      word.toNat % 2 ^ 18 ∈ t.localBad ∧ s.SameFlds t faultFlds ∧ s.SameMem t) ∧
  (∀ slot : BitVec 26, s.dev ≠ .off → s.present r = true → s.allowed r false 0 (slot.toNat / 8 * 8) 4 = true → 0x300_0000 ≤ slot.toNat / 8 * 8 → slot.toNat / 8 * 8 < 0x320_0000 →
    (slot.toNat - 0x300_0000) / 8 ∈ s.localBad →
    ∃ t, exec (.lowHalfRead r 0 slot) s = .next t ∧ t.out = s.out ++ [.abort r.num] ∧ s.SameFlds t [] ∧ s.SameMem t) ∧
  (∀ word : BitVec 20, s.dev ≠ .off → s.present r = true → s.allowed r false 0 (0x320_0000 + 8 * word.toNat) 8 = true →
    (let fr := (((List.range 16).map fun l => s.cellFrames (16 * s.fld .DEV_DBG_SEL_BOLT + l)).flatten).find? fun f => f.cellNos.contains (word.toNat / 32)
    (fr = none → ∃ t, exec (.tableWindowRead r true word) s = .next t ∧ t.out = s.out ++ [.abort r.num] ∧ t.on .THIM_EVENT_DEGRADED = true ∧
      s.SameFlds t ((.SHTL_BUF_EVENT_ECC_UNCORR, s.fld .DEV_DBG_SEL_BOLT) :: faultFlds) ∧ s.SameMem t) ∧
    (∀ f, fr = some f → (s.pt (qPort f.q)).sends f = true →
      ∃ t, exec (.tableWindowRead r true word) s = .next t ∧ (t.pt (qPort f.q)).tx = (s.pt (qPort f.q)).tx.map (fun x => { x with good := false }) ∧
        (t.qu f.q).frames = (s.qu f.q).frames ∧ s.SameFlds t ((.SHTL_BUF_EVENT_ECC_UNCORR, s.fld .DEV_DBG_SEL_BOLT) :: faultFlds) ∧ s.SameMem t) ∧
    (∀ f, fr = some f → (s.pt (qPort f.q)).sends f = false → ∃ t, exec (.tableWindowRead r true word) s = .next t ∧ f ∉ (t.qu f.q).frames))))

/-! ## The time plane (chapters 01, 02, 03) -/

/-- The pace monitors (R26, R35): the end of window j, where L time has reached 128 × (j + 1) ns, keeps it for its microsecond, and a window below 400 M words/s sets its bit of PACE_EVENT.FLOOR and is Fatal; the end of a microsecond
takes the mean, the lowest window and the lowest mean of the windows that end in it, one that ends on a whole microsecond among them; neither comes before its L time; a pace above 0xFFF shows as 0xFFF (the model's choice of log
entry 108); a write of CLR_LOWEST gives LOWEST the mean of the last microsecond in every Bolt; a core voltage below its limit is Fatal. -/
def Obligations.PaceMonitors : Prop := ∀ s : State, s.Overlock →
  (∀ (b : Bolt) (laps : Nat), s.dev ≠ .off → 128 * ((s.time.pace.get {} b).win + 1) ≤ s.lNs → ∃ t, exec (.paceWindowEnd b laps) s = .next t ∧
    (t.time.pace.get {} b).windows = (s.time.pace.get {} b).windows ++ [((s.time.pace.get {} b).win, laps, Config.paceOf laps 128)] ∧
    (t.time.pace.get {} b).win = (s.time.pace.get {} b).win + 1 ∧
    (Config.paceOf laps 128 < 400 → t.dev = .failSilent ∧ t.pair.fsDrive = true ∧ t.fld .THIM_STATUS_WORST = 3 ∧ (t.fld .DEV_PACE_EVENT_FLOOR).testBit b = true) ∧
    (400 ≤ Config.paceOf laps 128 → t.dev = s.dev ∧ s.SameFlds t [] ∧ s.SameMem t)) ∧
  (∀ (b : Bolt) (laps : Nat), s.dev ≠ .off → s.lNs < 128 * ((s.time.pace.get {} b).win + 1) → ∃ t, exec (.paceWindowEnd b laps) s = .next t ∧ t.time = s.time ∧ s.SameFlds t []) ∧
  (∀ b : Bolt, s.dev ≠ .off → s.lNs < 1000 * ((s.time.pace.get {} b).us + 1) → ∃ t, exec (.paceMicrosecondEnd b) s = .next t ∧ t.time = s.time ∧ s.SameFlds t []) ∧
  (∀ (b : Bolt) (w : Nat × Nat) (ws : List (Nat × Nat)), s.dev ≠ .off → 1000 * ((s.time.pace.get {} b).us + 1) ≤ s.lNs →
    (s.time.pace.get {} b).us * 1000 + 1000 < 128 * ((s.time.pace.get {} b).win + 1) →
    ((s.time.pace.get {} b).windows.filter (fun e => (128 * (e.1 + 1) - 1) / 1000 == (s.time.pace.get {} b).us)).map (·.2) = w :: ws →
    ∃ t, exec (.paceMicrosecondEnd b) s = .next t ∧ (t.time.pace.get {} b).us = (s.time.pace.get {} b).us + 1 ∧
      (∀ e ∈ (t.time.pace.get {} b).windows, (128 * (e.1 + 1) - 1) / 1000 ≠ (s.time.pace.get {} b).us) ∧
      t.fld .DEV_PACE_STATUS_AVG_1US b = min 0xFFF (Config.paceOf ((w :: ws).map (·.1)).sum (128 * (ws.length + 1))) ∧
      t.fld .DEV_PACE_STATUS_MIN_1US b = min 0xFFF (ws.foldl (fun m e => min m e.2) w.2) ∧
      t.fld .DEV_PACE_STATUS_LOWEST b = min (s.fld .DEV_PACE_STATUS_LOWEST b) (Config.paceOf ((w :: ws).map (·.1)).sum (128 * (ws.length + 1))) ∧
      s.SameFlds t ((.DEV_PACE_STATUS_AVG_1US, b.val) :: (.DEV_PACE_STATUS_MIN_1US, b.val) :: (.DEV_PACE_STATUS_LOWEST, b.val) :: (.DEV_PACE_EVENT_LOW, 0) :: faultFlds) ∧ s.SameMem t) ∧
  (∀ r : Req, s.Grants r true .DEV_PACE_CTRL 0 0 → ∃ t, exec (.clrLowest r) s = .next t ∧
    (∀ b : Bolt, t.fld .DEV_PACE_STATUS_LOWEST b = s.fld .DEV_PACE_STATUS_AVG_1US b % 2 ^ 12) ∧
    s.SameFlds t ((List.range 8).map fun b => (.DEV_PACE_STATUS_LOWEST, b)) ∧ s.SameMem t) ∧
  (s.dev ≠ .off → ∃ t, exec .vcoreLowDetect s = .next t ∧ t.dev = .failSilent ∧ t.pair.fsDrive = true ∧ t.fld .THIM_STATUS_WORST = 3)

/-- The oscillator and the TPLL references (R39, R41, R43): the measurement selects the nominal frequency within 200 ppm, or none; the lock sets both lock bits and records the mean ratio to REFCLK_A, and the counters of L go on as
they are until the next vote; the loss of TIMEOSC switches the TPLLs to REFCLK_A where it is there and moves every LOCKED domain to HOLDOVER, with OSC_SWITCH and a Degraded fault, the reference scaled by its last mean ratio; the
loss of a reference in use switches to the next one; with no reference left the loss is Fatal; the loss of a reference that is not in use moves nothing. The vote (R39, R44, R45): the first one after lock passes the counters of L
to TPCLK with one phase step on all three (forward, log entry 109); a timescale whose counters all agree keeps them; one counter of a timescale that differs from two that agree takes the voted value, with VOTE_REPAIR and a
Degraded fault, while no timescale but this one is disturbed. -/
def Obligations.TimeReferencesAndRepairs : Prop :=
  (∀ s : State, s.Overlock → s.dev ≠ .off →
  (∀ hz : Nat, s.time.measuring = true → ∃ t, exec (.timeoscMeasureDone hz) s = .next t ∧ t.time.measuring = false ∧
    (9998000 ≤ hz ∧ hz ≤ 10002000 → t.fld .TPL_OSC_STATUS_FREQ = 1) ∧ (19996000 ≤ hz ∧ hz ≤ 20004000 → t.fld .TPL_OSC_STATUS_FREQ = 2) ∧
    (24995000 ≤ hz ∧ hz ≤ 25005000 → t.fld .TPL_OSC_STATUS_FREQ = 3) ∧
    (hz < 9998000 ∨ 10002000 < hz ∧ hz < 19996000 ∨ 20004000 < hz ∧ hz < 24995000 ∨ 25005000 < hz → t.fld .TPL_OSC_STATUS_FREQ = 0) ∧
    s.SameFlds t [(.TPL_OSC_STATUS_FREQ, 0)] ∧ s.SameMem t) ∧
  (∀ phase : Fin 6401, s.time.locked = false → s.time.passing = none → s.fld .TPL_OSC_STATUS_FREQ ≠ 0 → s.time.timeoscOk = true →
    ∃ t, exec (.tpllLock phase) s = .next t ∧ t.time.locked = false ∧ t.time.passing = some phase.val ∧
      t.time.ratioLock = some (s.time.ratioA, s.time.ratioN) ∧ t.fld .TPL_OSC_STATUS_TPLL0_LOCK = 1 ∧ t.fld .TPL_OSC_STATUS_TPLL1_LOCK = 1 ∧
      (∀ c : Fin 3, t.cnt 8 c = s.cnt 8 c) ∧ s.SameFlds t [(.TPL_OSC_STATUS_TPLL0_LOCK, 0), (.TPL_OSC_STATUS_TPLL1_LOCK, 0)] ∧ s.SameMem t) ∧
  (s.time.timeoscOk = true → s.fld .TPL_OSC_STATUS_REF_SRC = 0 → s.time.refAOk = true → ∃ t, exec .timeoscLost s = .next t ∧ t.fld .TPL_OSC_STATUS_REF_SRC = 1 ∧
    t.fld .TPL_EVENT_OSC_SWITCH = 1 ∧ t.on .THIM_EVENT_DEGRADED = true ∧ t.dev = s.dev ∧ (∀ d : Dom, s.domState d = 3 → t.domState d = 4) ∧
    (∀ d : Dom, s.domState d ≠ 3 → t.domState d = s.domState d) ∧ (∀ x c, t.cnt x c = s.cnt x c) ∧
    t.time.scale = some (s.time.ratioA, s.time.ratioN)) ∧
  (s.time.timeoscOk = true → s.fld .TPL_OSC_STATUS_REF_SRC = 0 → s.time.refAOk = false → s.time.refBOk = false → ∃ t, exec .timeoscLost s = .next t ∧ t.time.timeoscOk = false ∧
    t.dev = .failSilent ∧ t.fld .THIM_STATUS_WORST = 3 ∧ (∀ d : Dom, s.domState d = 3 → t.domState d = 4)) ∧
  (s.time.refAOk = true → s.fld .TPL_OSC_STATUS_REF_SRC = 1 → s.time.refBOk = true → ∃ t, exec .refclkALost s = .next t ∧ t.fld .TPL_OSC_STATUS_REF_SRC = 2 ∧
    t.fld .TPL_EVENT_OSC_SWITCH = 1 ∧ t.on .THIM_EVENT_DEGRADED = true ∧ t.dev = s.dev ∧ (∀ d, t.domState d = s.domState d) ∧ (∀ x c, t.cnt x c = s.cnt x c) ∧
    t.time.scale = some (s.time.ratioB, s.time.ratioN)) ∧
  (s.time.refAOk = true → s.fld .TPL_OSC_STATUS_REF_SRC = 0 → ∃ t, exec .refclkALost s = .next t ∧ t.time.refAOk = false ∧ t.dev = s.dev ∧ s.SameFlds t [] ∧ s.SameMem t) ∧
  (s.time.refBOk = true → s.fld .TPL_OSC_STATUS_REF_SRC = 2 → ∃ t, exec .refclkBLost s = .next t ∧ t.time.refBOk = false ∧ t.dev = .failSilent ∧ t.fld .THIM_STATUS_WORST = 3)) ∧
  (∀ (s : State) (x : Fin 9) (e : Int), s.Overlock → s.dev ≠ .off →
  (∀ ps : Nat, (∀ y : Nat, y < 9 → s.excl y = 0 ∧ s.cnt y 0 = s.cnt y 1 ∧ s.cnt y 1 = s.cnt y 2) → s.time.passing = some ps →
    ∃ t, exec (.counterVote []) s = .next t ∧ t.time.locked = true ∧ t.time.passing = none ∧ (∀ c : Nat, c < 3 → t.cnt 8 c = s.cnt 8 c + psT ps) ∧
      (∀ y c : Nat, y < 8 → c < 3 → t.cnt y c = s.cnt y c)) ∧ (s.time.passing = none →
  (∀ y : Nat, y < 9 → s.excl y = 0 ∧ s.cnt y 0 = s.cnt y 1 ∧ s.cnt y 1 = s.cnt y 2) → (2 ^ 39 : Int) < e →
  (∃ t, exec (.counterVote []) s = .next t ∧ (∀ y c : Nat, y < 9 → c < 3 → t.cnt y c = s.cnt y c)) ∧
  (∀ c : Fin 3, ∃ t, exec (.counterVote [(x, c, e)]) s = .next t ∧ (∀ y k : Nat, y < 9 → k < 3 → t.cnt y k = s.cnt y k) ∧
    t.fld .TPL_EVENT_VOTE_REPAIR = 1 ∧ t.on .THIM_EVENT_DEGRADED = true)))

/-- The states of a domain as commands move it (R56, R58, Table 02-3): enabled it is UNLOCKED with rate 0, its counters as they are; disabled it is OFF; UNLOCK takes an enabled domain back to UNLOCKED; a first sample takes it to
STEPPING; samples are processed in the order in which they were written, so that one of another domain written before it makes it wait (R57); a LOCKED domain that no accepted sample has reached for HOLD_TIMEOUT goes to HOLDOVER
with its holdover rate. The other domains keep their state, their rate and their time. -/
def Obligations.DomainStates : Prop := ∀ (s : State) (d : Dom), s.Overlock →
  (∀ r : Req, s.Grants r true .TPL_DOM_CFG d 0 → s.on .TPL_DOM_CFG_EN d = false → ∃ t, exec (.domEnable r d true) s = .next t ∧ t.on .TPL_DOM_CFG_EN d = true ∧ t.domState d = 1 ∧
    t.rate d = 0 ∧ (∀ c, t.cnt d c = s.cnt d c) ∧ (∀ e : Dom, e ≠ d → t.domState e = s.domState e ∧ t.rate e = s.rate e ∧ ∀ c, t.cnt e c = s.cnt e c)) ∧
  (∀ r : Req, s.Grants r true .TPL_DOM_CFG d 0 → ∃ t, exec (.domEnable r d false) s = .next t ∧ t.on .TPL_DOM_CFG_EN d = false ∧ t.domState d = 0 ∧
    (∀ e : Dom, e ≠ d → t.domState e = s.domState e ∧ t.rate e = s.rate e) ∧ (∀ x c, t.cnt x c = s.cnt x c)) ∧
  (∀ r : Req, s.Grants r true .TPL_DOM_CFG d 0 → s.on .TPL_DOM_CFG_EN d = true → ∃ t, exec (.domUnlock r d) s = .next t ∧ t.domState d = 1 ∧ t.rate d = 0 ∧
    (∀ e : Dom, e ≠ d → t.domState e = s.domState e ∧ t.rate e = s.rate e) ∧ (∀ x c, t.cnt x c = s.cnt x c)) ∧
  (∀ (r : Req) (ofs : BitVec 64), s.Grants r true .TPL_DOM_SAMPLE_OFS d 0 → s.domState d ∈ [1, 3, 4] → ∃ t, exec (.domSampleWrite r d ofs) s = .next t ∧
    (t.dom d).sample = some (ofs.toInt, toSigned 32 (s.fld .TPL_DOM_SAMPLE_RATIO_RATIO d)) ∧ t.time.sampleQ = s.time.sampleQ.filter (fun e => e != d.val) ++ [d.val] ∧ s.SameFlds t [] ∧ s.SameMem t) ∧
  (∀ (r : Req) (ofs : BitVec 64), s.Grants r true .TPL_DOM_SAMPLE_OFS d 0 → s.domState d = 0 ∨ s.domState d = 2 → ∃ t, exec (.domSampleWrite r d ofs) s = .next t ∧
    t.ctr (devWord (48 + d)) = ctrAdd (s.ctr (devWord (48 + d))) 1 ∧ (t.dom d).sample = (s.dom d).sample ∧ s.SameFlds t [] ∧ s.SameMem t) ∧
  (∀ ofs ratio : Int, s.dev ≠ .off → s.domState d = 1 → (s.dom d).sample = some (ofs, ratio) → s.time.sampleQ.head? = some d.val → ∃ t, exec (.domSampleProcess d) s = .next t ∧ t.domState d = 2 ∧
    (t.dom d).step = some (-ofs * 2 ^ 24, ceilUs (s.lNow + 64 * nsT)) ∧ (t.dom d).sample = none ∧ (∀ x c, t.cnt x c = s.cnt x c) ∧
    (∀ e : Dom, e ≠ d → t.domState e = s.domState e ∧ t.rate e = s.rate e) ∧ s.SameMem t) ∧
  (∀ e : Nat, s.dev ≠ .off → s.time.sampleQ.head? = some e → e ≠ d → ∃ t, exec (.domSampleProcess d) s = .next t ∧ t.time = s.time ∧ s.SameFlds t [] ∧ s.SameMem t) ∧
  (s.dev ≠ .off → s.domState d = 3 → (s.dom d).lastAcc + max 1 (s.fld .TPL_DOM_CFG_HOLD_TIMEOUT d) * 16000000 * nsT ≤ s.lNow → ∃ t, exec (.holdTimeoutExpiry d) s = .next t ∧
    t.domState d = 4 ∧ t.rate d = toSigned 32 (ofSigned 32 (s.dom d).hold.toWord) ∧ (t.dom d).holdEntry = s.lNow ∧ (t.dom d).holdOk = s.inSync d ∧
    s.SameFlds t [(.TPL_DOM_STATUS_STATE, d), (.TPL_DOM_STATUS_HOLD_EST, d), (.TPL_DOM_RATE_RATE, d)] ∧ s.SameMem t) ∧
  (s.dev ≠ .off → s.domState d = 4 → s.fld .TPL_DOM_HOLD_DRIFT d = 0 → s.fld .TPL_DOM_HOLD_RATE_UNC d = 256 →
    (s.dom d).holdEntry ≤ s.lNow → s.lNow - (s.dom d).holdEntry = 7 * secT → ∃ t, exec (.holdEstUpdate d) s = .next t ∧
    t.fld .TPL_DOM_STATUS_HOLD_EST d = 7 ∧ s.SameFlds t [(.TPL_DOM_STATUS_HOLD_EST, d)] ∧ s.SameMem t)

/-- Steps and loads of a domain (R56, R59, Table 02-3): the pending step of a STEPPING domain is applied to its three counters at once when it is due and no port that follows the domain holds it for in sync any more (R91), and the
domain is LOCKED; a load written in OFF or UNLOCKED waits for the next whole microsecond of L time and then gives the three counters its value; in any other state the write is refused. A step that is not yet due, or that a port
still follows in sync, changes nothing. The load of a declaration makes the device grandmaster when it has been applied (R85). No other timescale moves. (A step past the instant of a staging group performs its writes too, R454;
here no group is armed.) -/
def Obligations.DomainStepsAndLoads : Prop := ∀ (s : State) (d : Dom), s.Overlock →
  (∀ (delta : Int) (at' : Nat), s.dev ≠ .off → (∀ g : Fin 16, s.grpState g < 2) → (s.dom d).step = some (delta, at') → at' ≤ s.lNow →
    (∀ p : Port, s.schedDom p = d → (s.pt p).inSync = false) → ∃ t, exec (.domStepApply d) s = .next t ∧ t.domState d = 3 ∧
    (∀ c : Fin 3, t.cnt d c = ((s.cnt d c : Int) + delta).toNat) ∧ (∀ x c : Nat, x ≠ d → c < 3 → t.cnt x c = s.cnt x c) ∧ (t.dom d).step = none) ∧
  (∀ (delta : Int) (at' : Nat), s.dev ≠ .off → (s.dom d).step = some (delta, at') →
    s.lNow < at' ∨ (∃ p : Port, s.schedDom p = d ∧ (s.pt p).inSync = true) → ∃ t, exec (.domStepApply d) s = .next t ∧ t.time = s.time ∧ s.SameFlds t [] ∧
    s.SameMem t) ∧
  (∀ (r : Req) (sec : BitVec 48), s.Grants r true .TPL_DOM_SET_SEC d 0 → s.domState d ≤ 1 → ∃ t, exec (.domSetWrite r d sec) s = .next t ∧
    (t.dom d).load = some (timeOf sec.toNat (s.fld .TPL_DOM_SET_NS_NS d) (s.fld .TPL_DOM_SET_NS_FRAC d), (s.lNow / (1000 * nsT) + 1) * (1000 * nsT)) ∧
    s.SameFlds t [(.TPL_DOM_SET_SEC_SEC, d)] ∧ s.SameMem t) ∧
  (∀ (r : Req) (sec : BitVec 48), s.Grants r true .TPL_DOM_SET_SEC d 0 → 2 ≤ s.domState d → ∃ t, exec (.domSetWrite r d sec) s = .next t ∧ t.fld .TPL_EVENT_CHANGE_REFUSED = 1 ∧
    (t.dom d).load = (s.dom d).load ∧ s.SameFlds t [(.TPL_EVENT_CHANGE_REFUSED, 0)] ∧ s.SameMem t) ∧
  (∀ v at' : Nat, s.dev ≠ .off → (∀ g : Fin 16, s.grpState g < 2) → (s.dom d).load = some (v, at') → at' ≤ s.lNow → (s.inst d).declaring = false → ∃ t, exec (.domSetApply d) s = .next t ∧ (∀ c : Fin 3, t.cnt d c = v) ∧
    (∀ x c : Nat, x ≠ d → c < 3 → t.cnt x c = s.cnt x c) ∧ t.domState d = s.domState d ∧ (t.dom d).load = none) ∧
  (∀ v at' : Nat, s.dev ≠ .off → (∀ g : Fin 16, s.grpState g < 2) → (s.dom d).load = some (v, at') → at' ≤ s.lNow → (s.inst d).declaring = true → ∃ t, exec (.domSetApply d) s = .next t ∧
    t.on .TPL_SYNC_CFG_GM d = true ∧ (t.inst d).actingGm = true ∧ (∀ c : Fin 3, t.cnt d c = v))

/-- Snapshots and output units (R65, R69, R70, R75): a trigger copies the voted values of all nine timescales at once, and its completion shows them; a unit armed before its START waits for it; a disarmed unit has no further event,
and a pulse in progress goes on, and a WIDTH that waited takes effect; a MODE of Off stops a unit that is not armed, and is refused for one that is; an event in pulse mode raises the level until WIDTH is over; the end of WIDTH
lowers it. Capture units (R72, R73): an accepted edge is recorded at its domain time: what the domain gained while the level was stable is taken off, and a step that the domain made in that time is undone; a ninth record is
discarded, counted, and sets OVF; a read of CAP_NS answers the head record and removes it. Nothing else of the unit moves. -/
def Obligations.OutputsSnapshotsAndCaptures : Prop :=
  (∀ (s : State) (u : Fin 36), s.Overlock →
  (∀ r : Req, s.Grants r true .TPL_SNAP_CTRL 0 0 → ∃ t, exec (.snapshotTrigger r) s = .next t ∧ t.fld .TPL_SNAP_CTRL_BUSY = 1 ∧
    t.time.snap = some ((List.range 9).map s.voted) ∧ s.SameFlds t [(.TPL_SNAP_CTRL_BUSY, 0)] ∧ s.SameMem t) ∧
  (∀ l : List Nat, s.dev ≠ .off → s.time.snap = some l → ∃ t, exec .snapshotComplete s = .next t ∧ t.fld .TPL_SNAP_CTRL_BUSY = 0 ∧ t.fld .TPL_EVENT_SNAP_DONE = 1 ∧
    (∀ x : Fin 9, t.fld .TPL_SNAP_SEC_SEC x = secOf (l.getD x 0) % 2 ^ 48 ∧ t.fld .TPL_SNAP_NS_NS x = nsOf (l.getD x 0) ∧ t.fld .TPL_SNAP_NS_FRAC x = fracOf (l.getD x 0)) ∧
    t.time.snap = none ∧ s.SameMem t) ∧
  (∀ r : Req, s.Grants r true .TPL_OUT_CFG u 0 → s.on .TPL_OUT_CFG_ALIGN_SEC u = false → s.outNow u < s.outStart u → ∃ t, exec (.outArm r u) s = .next t ∧
    t.on .TPL_OUT_CFG_ARM u = true ∧ (t.outU u).next = some (s.outStart u) ∧ t.fld .TPL_OUT_STATUS_MISSED u = 0 ∧ t.fld .TPL_OUT_STATUS_LATE u = s.fld .TPL_OUT_STATUS_LATE u ∧
    s.SameFlds t [(.TPL_OUT_CFG_ARM, u), (.TPL_OUT_STATUS_MISSED, u), (.TPL_OUT_STATUS_ACTIVE, u)] ∧ s.SameMem t) ∧
  (∀ r : Req, s.Grants r true .TPL_OUT_CFG u 0 → (∀ f ∈ Reg.fields .TPL_OUT_CFG, f ≠ .TPL_OUT_CFG_WIDTH → s.pendingB ⟨.TPL_OUT_CFG, u, 0⟩ f = none) → ∃ t, exec (.outDisarm r u) s = .next t ∧ t.on .TPL_OUT_CFG_ARM u = false ∧ (t.outU u).next = none ∧
    (t.outU u).level = (s.outU u).level ∧ (t.outU u).pulseEnd = (s.outU u).pulseEnd ∧
    (∀ w < 2 ^ 32, s.pendingB ⟨.TPL_OUT_CFG, u, 0⟩ .TPL_OUT_CFG_WIDTH = some w → t.fld .TPL_OUT_CFG_WIDTH u = w) ∧
    (s.pendingB ⟨.TPL_OUT_CFG, u, 0⟩ .TPL_OUT_CFG_WIDTH = none → t.fld .TPL_OUT_CFG_WIDTH u = s.fld .TPL_OUT_CFG_WIDTH u) ∧
    s.SameFlds t [(.TPL_OUT_CFG_ARM, u), (.TPL_OUT_CFG_WIDTH, u), (.TPL_OUT_STATUS_ACTIVE, u)] ∧ s.SameMem t) ∧
  (∀ r : Req, s.Grants r true .TPL_OUT_CFG u 0 → s.on .TPL_OUT_CFG_ARM u = false → ∃ t, exec (.outModeOff r u) s = .next t ∧ t.fld .TPL_OUT_CFG_MODE u = 0 ∧
    s.SameFlds t [(.TPL_OUT_CFG_MODE, u), (.TPL_OUT_STATUS_ACTIVE, u)] ∧ s.SameMem t) ∧
  (∀ r : Req, s.Grants r true .TPL_OUT_CFG u 0 → s.on .TPL_OUT_CFG_ARM u = true → s.fld .TPL_OUT_CFG_MODE u % 3 ≠ 0 → ∃ t, exec (.outModeOff r u) s = .next t ∧
    t.fld .TPL_OUT_CFG_MODE u = s.fld .TPL_OUT_CFG_MODE u ∧ t.fld .TPL_EVENT_CHANGE_REFUSED = 1 ∧ s.SameFlds t [(.TPL_EVENT_CHANGE_REFUSED, 0)] ∧ s.SameMem t) ∧
  (∀ n : Nat, s.dev ≠ .off → (s.outU u).next = some n → outPlace n ≤ s.outNow u → s.fld .TPL_OUT_CFG_MODE u = 1 →
    (∀ w, s.pendingB ⟨.TPL_OUT_CFG, u, 0⟩ .TPL_OUT_CFG_WIDTH = some w → w < 2 ^ 32) → ∃ t, exec (.outEvent u) s = .next t ∧ (t.outU u).level = true ∧
    (t.outU u).pulseEnd = some (outPlace n + (s.pendingB ⟨.TPL_OUT_CFG, u, 0⟩ .TPL_OUT_CFG_WIDTH).getD (s.fld .TPL_OUT_CFG_WIDTH u) * nsT) ∧ (t.outU u).issued = (s.outU u).issued + 1 ∧
    (s.outPeriod u = 0 → (t.outU u).next = none) ∧ s.SameFlds t [(.TPL_OUT_CFG_WIDTH, u), (.TPL_OUT_STATUS_ACTIVE, u)] ∧ s.SameMem t) ∧
  (∀ e : Nat, s.dev ≠ .off → (s.outU u).pulseEnd = some e → e ≤ s.outNow u → ∃ t, exec (.outPulseEnd u) s = .next t ∧ (t.outU u).level = false ∧ (t.outU u).pulseEnd = none ∧
    (t.outU u).next = (s.outU u).next ∧ s.SameFlds t [(.TPL_OUT_STATUS_ACTIVE, u)] ∧ s.SameMem t)) ∧
  (∀ (s : State) (u : Fin 34), s.Overlock →
  (∀ age : Nat, s.dev ≠ .off → s.on .TPL_CAP_CFG_EN u = true → s.bankOn (bankOf u) = true → s.fld .TPL_CAP_CFG_EDGE u = 3 → s.fld .TPL_CAP_CFG_FILTER u ≤ age →
    s.time.capLast.get 0 u = 0 → (s.capQ u).length < 8 → u.val < 32 → ∀ rise : Bool, ∃ t, exec (.captureEdge u rise age) s = .next t ∧
      t.capQ u = s.capQ u ++ [⟨s.timeAgo (s.fld .TPL_CAP_CFG_DOM u) age, rise⟩] ∧
      ((s.dom (s.fld .TPL_CAP_CFG_DOM u)).stepLog = [] → s.timeAgo (s.fld .TPL_CAP_CFG_DOM u) age =
        ((s.voted (s.fld .TPL_CAP_CFG_DOM u) : Int) - s.inc (s.fld .TPL_CAP_CFG_DOM u) * age).toNat) ∧
      (∀ (l new : Nat) (old : Int), s.fld .TPL_CAP_CFG_DOM u < 8 → (s.dom (s.fld .TPL_CAP_CFG_DOM u)).stepLog = [(l, new, old)] → s.lNow - age * nsT < l →
        s.timeAgo (s.fld .TPL_CAP_CFG_DOM u) age =
          ((s.voted (s.fld .TPL_CAP_CFG_DOM u) : Int) - s.inc (s.fld .TPL_CAP_CFG_DOM u) * age - ((s.dom (s.fld .TPL_CAP_CFG_DOM u)).steps - old)).toNat) ∧ (∀ v, v ≠ u.val → t.capQ v = s.capQ v) ∧ s.SameFlds t [] ∧ s.SameMem t) ∧
  (∀ age : Nat, s.dev ≠ .off → s.on .TPL_CAP_CFG_EN u = true → s.bankOn (bankOf u) = true → s.fld .TPL_CAP_CFG_EDGE u = 3 → s.fld .TPL_CAP_CFG_FILTER u ≤ age →
    s.time.capLast.get 0 u = 0 → 8 ≤ (s.capQ u).length → ∀ rise : Bool, ∃ t, exec (.captureEdge u rise age) s = .next t ∧ t.capQ u = s.capQ u ∧ t.fld .TPL_CAP_CFG_OVF u = 1 ∧
      t.ctr (devWord (56 + u)) = ctrAdd (s.ctr (devWord (56 + u))) 1 ∧ s.SameFlds t [(.TPL_CAP_CFG_OVF, u)] ∧ s.SameMem t) ∧
  (∀ (r : Req) (c : CapRec) (l : List CapRec), s.Grants r false .TPL_CAP_NS u 0 → s.capQ u = c :: l → ∃ t, exec (.capNsRead r u) s = .next t ∧
    t.out = s.out ++ [.reply r.num (nsOf c.time * 65536 + fracOf c.time)] ∧ t.capQ u = l ∧ (∀ v, v ≠ u.val → t.capQ v = s.capQ v) ∧ s.SameFlds t [] ∧ s.SameMem t))

/-- The time service (R52, R55, R76, R77, R79, R81, R84 to R86, R95, R96): a Sync on the slave port submits the offset of its times, and a TAS instance relays it on its other master ports; the wait for an Announce ends in a
declaration, which first loads an UNLOCKED domain without external reference with L time and otherwise makes the device grandmaster at once, with GM, an Announce and a Sync on every master port; a better clock ends the role at
once where RETURN_HOLD is 0, and otherwise begins its hold; the loss of the only master leaves a slave-only instance without one, and makes a capable instance of a LOCKED domain grandmaster; before announceReceiptTimeout and
syncReceiptTimeout it changes nothing; RETURN_HOLD of unbroken Announces moves the choice, and a gap ends it; an acting grandmaster announces on each master port whose interval has passed; the time at which a two-step message left
goes out in its follow-up; a TC instance originates nothing. -/
def Obligations.TimeService : Prop := ∀ (s : State) (d : Dom), s.Overlock → s.dev ≠ .off →
  (∀ (p : Port) (tIn origin : Nat) (corr : Int) (ratio : BitVec 32) (f : Foreign), s.on .TPL_DOM_CFG_EN d = true → p.val ∈ s.instPorts d → (s.inst d).best = some f → f.port = p.val →
    s.instType d ∈ [1, 2] → s.domState d ∈ [1, 3, 4] → ∃ t, exec (.timeServicePtpMessage d p (.sync tIn origin corr ratio)) s = .next t ∧
      (t.dom d).sample = some ((tIn : Int) - ((origin : Int) + corr + ((s.inst d).linkDelay.get 0 p : Nat)), ratio.toInt) ∧ (t.inst d).lastSync = s.lNow ∧ t.out = s.out ∧
      s.SameFlds t [(.TPL_DOM_SAMPLE_RATIO_RATIO, d)] ∧ s.SameMem t) ∧
  (∀ (p : Port) (tIn origin : Nat) (corr : Int) (ratio : BitVec 32) (f : Foreign), s.on .TPL_DOM_CFG_EN d = true → p.val ∈ s.instPorts d → (s.inst d).best = some f → f.port = p.val →
    s.instType d = 0 → s.domState d ∈ [1, 3, 4] → ∃ t, exec (.timeServicePtpMessage d p (.sync tIn origin corr ratio)) s = .next t ∧
      (t.dom d).sample = some ((tIn : Int) - ((origin : Int) + corr + ((s.inst d).linkDelay.get 0 p : Nat)), ratio.toInt) ∧
      (∀ q ∈ s.masters d, q ≠ p.val → .service d q 0 origin ∈ t.out) ∧ s.SameFlds t ((.TPL_DOM_SAMPLE_RATIO_RATIO, d.val) :: dropFlds) ∧ s.SameMem t) ∧
  ((s.inst d).gmCapable = true → (s.inst d).heard = false → (s.inst d).actingGm = false → (s.inst d).declaring = false → s.domState d = 1 → s.instType d ≠ 3 →
    (s.inst d).listenSince + s.listenT d ≤ s.lNow →
    (s.ppsFed d = false → ∃ t, exec (.gmListenExpiry d) s = .next t ∧ (t.inst d).declaring = true ∧ (t.inst d).actingGm = false ∧ t.out = s.out ∧
      (t.dom d).load = some (timeOf (secOf s.lNow) (nsOf s.lNow) (fracOf s.lNow), (s.lNow / (1000 * nsT) + 1) * (1000 * nsT)) ∧
      s.SameFlds t [(.TPL_DOM_SET_SEC_SEC, d), (.TPL_DOM_SET_NS_NS, d), (.TPL_DOM_SET_NS_FRAC, d)] ∧ s.SameMem t) ∧
    (s.ppsFed d = true → ∃ t, exec (.gmListenExpiry d) s = .next t ∧ t.on .TPL_SYNC_CFG_GM d = true ∧ (t.inst d).actingGm = true ∧ t.dom d = s.dom d ∧
      (∀ p ∈ s.instPorts d, s.instType d ≠ 0 ∨ p ∈ (s.inst d).capable → (s.inst d).bmca ≠ 2 → .service d p 2 (s.ownRank d) ∈ t.out ∧ .service d p 0 (s.voted d) ∈ t.out) ∧
      s.SameFlds t ((.TPL_SYNC_CFG_GM, d.val) :: dropFlds) ∧ s.SameMem t)) ∧
  (∀ (p : Port) (a : BitVec 8) (q : BitVec 32) (b : BitVec 8) (src : ClockSrc), s.on .TPL_DOM_CFG_EN d = true → p.val ∈ s.instPorts d → s.instType d = 0 → (s.inst d).actingGm = true →
    (s.inst d).bmca ≠ 2 → (s.inst d).foreign = [] → 0 < (s.inst d).announceTimeoutT → src.ident.toNat ≠ s.ownIdent → s.ownIdent ∉ src.path.map BitVec.toNat →
    better (dsRank a.toNat q.toNat b.toNat) src.ident.toNat (s.ownRank d) s.ownIdent = true →
    (let f : Foreign := { rank := dsRank a.toNat q.toNat b.toNat, ident := src.ident.toNat, port := p, steps := src.steps.toNat, path := src.path.map BitVec.toNat, atL := s.lNow, qual := true }
    ((s.inst d).returnHold = 0 ∨ s.dev = .acquire → s.domState d ≠ 1 → ∃ t, exec (.announceBetterClock d p a q b src) s = .next t ∧
      t.on .TPL_SYNC_CFG_GM d = false ∧ (t.inst d).actingGm = false ∧ (t.inst d).best = some f ∧ s.SameFlds t [(.TPL_SYNC_CFG_GM, d)] ∧ s.SameMem t) ∧
    ((s.inst d).returnHold ≠ 0 → s.dev ≠ .acquire → (s.inst d).returning = none → ∃ t, exec (.announceBetterClock d p a q b src) s = .next t ∧
      (t.inst d).actingGm = true ∧ (t.inst d).returning = some (f, s.lNow, s.lNow) ∧ s.SameFlds t [] ∧ s.SameMem t))) ∧
  (∀ g : Foreign, (s.inst d).best = some g → (s.inst d).foreign = [g] → s.masterLate d g = true → (s.inst d).gmCapable = false → ∃ t, exec (.masterLossTimeout d) s = .next t ∧
    (t.inst d).best = none ∧ t.dom d = s.dom d ∧ s.SameFlds t [] ∧ s.SameMem t) ∧
  (∀ g : Foreign, (s.inst d).best = some g → (s.inst d).foreign = [g] → s.masterLate d g = true → (s.inst d).gmCapable = true → (s.inst d).bmca ≠ 2 → s.instType d ≠ 3 → s.domState d = 3 →
    ∃ t, exec (.masterLossTimeout d) s = .next t ∧
    t.on .TPL_SYNC_CFG_GM d = true ∧ (t.inst d).actingGm = true ∧ t.dom d = s.dom d ∧ s.SameFlds t ((.TPL_SYNC_CFG_GM, d.val) :: dropFlds) ∧ s.SameMem t) ∧
  (∀ g : Foreign, (s.inst d).best = some g → (s.inst d).foreign = [g] → s.lNow < (s.inst d).lastSync + (s.inst d).syncTimeoutT → s.lNow < g.atL + (s.inst d).announceTimeoutT →
    ∃ t, exec (.masterLossTimeout d) s = .next t ∧ t.inst d = s.inst d ∧ s.SameFlds t [] ∧ s.SameMem t) ∧
  (∀ (f : Foreign) (since last : Nat), (s.inst d).returning = some (f, since, last) →
    (s.lNow ≤ last + (s.inst d).announceTimeoutT → since + (s.inst d).returnHold * nsT ≤ s.lNow → (s.inst d).actingGm = false →
      ∃ t, exec (.returnHoldExpiry d) s = .next t ∧ (t.inst d).best = some f ∧ (t.inst d).returning = none ∧ s.SameFlds t [] ∧ s.SameMem t) ∧
    (last + (s.inst d).announceTimeoutT < s.lNow →
      ∃ t, exec (.returnHoldExpiry d) s = .next t ∧ (t.inst d).best = (s.inst d).best ∧ (t.inst d).returning = none ∧ s.SameFlds t [] ∧ s.SameMem t)) ∧
  (s.on .TPL_DOM_CFG_EN d = true → s.instType d ≠ 3 → (s.inst d).actingGm = true → (∀ p, ∀ e ∈ (s.pt p).tsq, e.dom ≠ d.val) →
    ∃ t, exec (.ptpMessageIntervalExpiry d .announce) s = .next t ∧
    t.out = s.out ++ (s.duePorts d 1 (fun _ => (s.inst d).announceT) (s.masters d)).map (fun p => .service d p 2 (s.ownRank d)) ∧ s.SameFlds t dropFlds ∧ s.SameMem t) ∧
  (∀ (p : Nat) (e : EgressStamp), s.on .TPL_DOM_CFG_EN d = true → s.instType d ≠ 3 → (s.inst d).actingGm = true → p ∈ s.instPorts d → e ∈ (s.pt p).tsq → e.dom = d.val → e.msg = 0 →
    ∃ t, exec (.ptpMessageIntervalExpiry d .initialEnd) s = .next t ∧ .service d p 1 (e.time / 2 ^ 24) ∈ t.out ∧ (∀ x ∈ (t.pt p).tsq, x.dom ≠ d.val) ∧ s.SameFlds t dropFlds ∧ s.SameMem t) ∧
  (∀ k : PtpTimer, s.instType d = 3 → ∃ t, exec (.ptpMessageIntervalExpiry d k) s = .next t ∧ t.out = s.out ∧ s.SameFlds t [] ∧ s.SameMem t)

/-- The topology and supervision services and the port copies (R46, R98, R99, R169, R180, R262): HELLO and TOPOLOGY leave an ETB port once their period has passed, each as a frame in the queue of the Pattern's service entry where it
is admitted; a neighbour not heard for the timeout is dropped, which begins an inauguration or, while the inhibit runs, is kept back; a new topology counter is taken with position and role, RANKED instances recompute priority2,
and the grandmaster of the backbone announces the commit second and a schedule set for each car; a supervision frame is noted for its LAN, and forwarded on the other port of an HSR ring alone; the life-check message goes to every
HSR and PRP port; a node not heard for 60 s on any LAN is forgotten; an update gives a port both copies, of which the guardian's is counter C as the second path carries it; copies that agree clear the count of differences, and
copies more than 1.0 ns apart set PORT_COPY and block the port. -/
def Obligations.TopologySupervisionAndCopies : Prop := ∀ (s : State) (p : Port), s.Overlock → s.dev ≠ .off →
  (∀ (k : TtdpTimer) (n : Nat), k = .hello ∧ n = 0 ∧ s.ttdp.sentL.get 0 (2 * p) + s.ttdp.helloNs * nsT ≤ s.lNow ∨
      k = .topology ∧ n = 1 ∧ s.ttdp.sentL.get 0 (2 * p + 1) + s.ttdp.topologyNs * nsT ≤ s.lNow → p.val ∈ s.ttdp.ports →
    ∃ t, exec (.ttdpTimerExpiry p k) s = .next t ∧ t.out = s.out ++ [.service 8 p n s.ttdp.counter] ∧ t.ttdp.sentL.get 0 (2 * p + n) = s.lNow ∧
      (∀ a, s.admitTest (128 * p + s.boot.pattern.svcQ.get 0 1 % 128) 1 0 true = (.admitted, a) →
        ∃ fr, (t.qu (128 * p + s.boot.pattern.svcQ.get 0 1 % 128)).frames = (s.qu (128 * p + s.boot.pattern.svcQ.get 0 1 % 128)).frames ++ [fr] ∧ fr.service = true ∧ fr.data.length = 60) ∧
      s.SameFlds t dropFlds ∧ s.SameMem t) ∧
  (∀ k : TtdpTimer, k = .hello ∨ k = .topology → p.val ∉ s.ttdp.ports → ∃ t, exec (.ttdpTimerExpiry p k) s = .next t ∧ t.out = s.out ∧ t.ttdp = s.ttdp ∧ s.SameFlds t [] ∧ s.SameMem t) ∧
  (∀ src l : Nat, s.ttdp.heard.get none p = some (src, l) → l + s.ttdp.timeoutNs * nsT ≤ s.lNow → ∃ t, exec (.ttdpTimerExpiry p .helloTimeout) s = .next t ∧
    t.ttdp.heard.get none p = none ∧ (∀ q, q ≠ p.val → t.ttdp.heard.get none q = s.ttdp.heard.get none q) ∧
    (if s.ttdp.inhibit then t.ttdp.kept = true else t.ttdp.inaugurating = true) ∧ s.SameFlds t [] ∧ s.SameMem t) ∧
  (s.ttdp.inhibit = true → s.ttdp.inhibitL + s.ttdp.inhibitNs * nsT ≤ s.lNow → ∃ t, exec (.ttdpTimerExpiry p .inhibitEnd) s = .next t ∧ t.ttdp.inhibit = false ∧
    (s.ttdp.kept = true → t.ttdp.inaugurating = true) ∧ s.SameFlds t [] ∧ s.SameMem t) ∧
  (∀ (counter position : Nat) (train : Train) (changed : List Port) (backbone : Dom), counter ≠ s.ttdp.counter → s.on .TPL_SYNC_CFG_GM backbone = true →
    ∃ t, exec (.topologyPublish counter position train changed backbone) s = .next t ∧ t.ttdp.counter = counter ∧ t.ttdp.position = position ∧ t.ttdp.isEtbn = train.isEtbn ∧
      t.ttdp.inhibit = true ∧ t.ttdp.inhibitL = s.lNow ∧ t.ttdp.inaugurating = false ∧
      (∀ d : Dom, (s.inst d).bmca = 1 → (t.inst d).priority2 = if train.isEtbn then 64 + position else 255) ∧ (∀ d : Dom, (s.inst d).bmca ≠ 1 → (t.inst d).priority2 = (s.inst d).priority2) ∧
      .service 8 0 2 ((s.voted backbone + secT + secT - 1) / secT) ∈ t.out ∧ (∀ k < train.cars, .service 8 (k + 1) 3 ((s.voted backbone + secT + secT - 1) / secT) ∈ t.out) ∧
      s.SameFlds t dropFlds ∧ s.SameMem t) ∧
  (∀ (src : BitVec 48) (seq : BitVec 16), s.on .MEND_PORT_CFG_HSR_RING p = false → ∃ t, exec (.supervisionFrame p src seq) s = .next t ∧
    t.sup.nodes.get (none, none) src.toNat = (if s.on .MEND_PORT_CFG_LAN p then ((s.sup.nodes.get (none, none) src.toNat).1, some s.lNow)
      else (some s.lNow, (s.sup.nodes.get (none, none) src.toNat).2)) ∧ t.out = s.out ∧ s.SameFlds t [] ∧ s.SameMem t) ∧
  (∀ (src : BitVec 48) (seq : BitVec 16), s.on .MEND_PORT_CFG_HSR_RING p = true → s.ownAddr src.toNat = false → (src.toNat, seq.toNat) ∉ s.sup.sent →
    ∃ t, exec (.supervisionFrame p src seq) s = .next t ∧ (∀ q ∈ s.otherRing p, .service 9 q 0 (src.toNat * 65536 + seq.toNat) ∈ t.out) ∧ (src.toNat, seq.toNat) ∈ t.sup.sent ∧
      s.SameFlds t dropFlds ∧ s.SameMem t) ∧
  (s.sup.lastLife + s.sup.interval * 1000000 * nsT ≤ s.lNow → ∃ t, exec .lifeCheckSend s = .next t ∧ t.sup.lastLife = s.lNow ∧ t.sup.number = (s.sup.number + 1) % 65536 ∧
    (s.on .MEND_PORT_CFG_HSR_RING p = true ∨ s.on .MEND_PORT_CFG_PRP_PORT p = true → .service 9 p 1 s.sup.number ∈ t.out) ∧ s.SameFlds t dropFlds ∧ s.SameMem t) ∧
  (∀ (src : BitVec 48) (x y : Nat), s.sup.nodes.get (none, none) src.toNat = (some x, some y) → x + forgetT ≤ s.lNow → y + forgetT ≤ s.lNow →
    ∃ t, exec (.forgetTimeExpiry src) s = .next t ∧ t.sup.nodes.get (none, none) src.toNat = (none, none) ∧ s.SameFlds t [] ∧ s.SameMem t) ∧
  (s.schedDom p < 9 → s.fld .SELV_GUARD_STATUS_DOM p = s.schedDom p → ∀ skew : Int,
    (let v := s.voted (s.schedDom p)
    let g := ((s.cnt (s.schedDom p) 2 : Int) + skew * 2 ^ 40 / 1000).toNat
    ((v - g) + (g - v) ≤ nsT → ∃ t, exec (.portTimeUpdate p skew) s = .next t ∧ (t.pt p).copy = some (s.timeCopy p skew) ∧ (t.pt p).guard.badRun = 0 ∧
      (t.pt p).inSync = s.inSync (s.schedDom p) ∧
      ((s.pt p).inSync = s.inSync (s.schedDom p) → s.SameFlds t [(.SELV_GUARD_STATUS_COPY_HOLD, p)] ∧ s.SameMem t)) ∧
    (nsT < (v - g) + (g - v) → (s.pt p).guard.badRun = 0 → ∃ t, exec (.portTimeUpdate p skew) s = .next t ∧ (t.pt p).guard.badRun = 1 ∧ t.fld .TPL_EVENT_PORT_COPY = 1 ∧
      t.on .SELV_GUARD_STATUS_COPY_HOLD p = true ∧
      ((s.pt p).inSync = s.inSync (s.schedDom p) →
        s.SameFlds t ((.SELV_GUARD_STATUS_COPY_HOLD, p.val) :: (.TPL_EVENT_PORT_COPY, 0) :: (.SELV_EVENT_COPY_BLOCK, p.val) :: faultFlds) ∧ s.SameMem t))))

/-! ## Gate lists and grids (chapters 07, 08) -/

/-- Writes and COMMITs of a gate list (R210, R211, R214 to R216): an admin entry goes to both copies, or is refused while a switch is pending; an accepted COMMIT waits for its checks with its switch time; checks that pass leave the
switch pending with that time in CHANGE, and checks that fail leave nothing pending. -/
def Obligations.GateListCommits : Prop := ∀ (s : State) (p : Port), s.Overlock →
  (∀ (r : Req) (i : Fin 1024) (v : BitVec 64), s.Grants r true .SHTL_GCL_ADMIN p i → s.switchPending p = false → ∃ t, exec (.gclAdminWrite r p i v) s = .next t ∧
    (t.pt p).gcl.sh.get 0 (1024 * (1 - s.operBank p) + i) = v.toNat ∧ (t.pt p).gcl.gd.get 0 (1024 * (1 - s.operBank p) + i) = v.toNat ∧
    (∀ k, k ≠ 1024 * (1 - s.operBank p) + i → (t.pt p).gcl.sh.get 0 k = (s.pt p).gcl.sh.get 0 k ∧ (t.pt p).gcl.gd.get 0 k = (s.pt p).gcl.gd.get 0 k) ∧ s.SameFlds t [] ∧ s.SameMem t) ∧
  (∀ (r : Req) (i : Fin 1024) (v : BitVec 64), s.Grants r true .SHTL_GCL_ADMIN p i → s.switchPending p = true → ∃ t, exec (.gclAdminWrite r p i v) s = .next t ∧
    t.fld .SHTL_GCL_EVENT_CHANGE_REFUSED p = 1 ∧ (t.pt p).gcl = (s.pt p).gcl ∧ s.SameFlds t [(.SHTL_GCL_EVENT_CHANGE_REFUSED, p)] ∧ s.SameMem t) ∧
  (∀ r : Req, s.Grants r true .SHTL_GCL_CTRL p 0 → s.switchPending p = false → ∃ t, exec (.gclCommit r p) s = .next t ∧
    (t.pt p).gcl.checking = some (switchTime (s.nowD p) (s.adminBase p) (s.adminCycle p)) ∧ s.SameFlds t [] ∧ s.SameMem t) ∧
  (∀ r : Req, s.Grants r true .SHTL_GCL_CTRL p 0 → s.switchPending p = true → ∃ t, exec (.gclCommit r p) s = .next t ∧ t.fld .SHTL_GCL_EVENT_CHANGE_REFUSED p = 1 ∧
    (t.pt p).gcl = (s.pt p).gcl ∧ s.SameFlds t [(.SHTL_GCL_EVENT_CHANGE_REFUSED, p)] ∧ s.SameMem t) ∧
  (∀ n : Nat, s.dev ≠ .off → (s.pt p).gcl.checking = some n → multidrop p = false → (s.gclRefuse p).adminDiffer p = false → (s.gclRefuse p).adminBad p = false →
    ∃ t, exec (.gclCommitChecked p) s = .next t ∧ t.switchPending p = true ∧ t.fld .SHTL_GCL_CHANGE_SEC_SEC p = secOf n % 2 ^ 48 ∧ t.fld .SHTL_GCL_CHANGE_NS_NS p = nsOf n ∧
      t.fld .SHTL_GCL_CHANGE_NS_FRAC p = fracOf n ∧ (t.pt p).gcl.checking = none ∧
      s.SameFlds t [(.SHTL_GCL_STATUS_PENDING, p), (.SHTL_GCL_CHANGE_SEC_SEC, p), (.SHTL_GCL_CHANGE_NS_NS, p), (.SHTL_GCL_CHANGE_NS_FRAC, p)] ∧ s.SameMem t) ∧
  (∀ n : Nat, s.dev ≠ .off → (s.pt p).gcl.checking = some n → multidrop p = false → (s.gclRefuse p).adminDiffer p = false → (s.gclRefuse p).adminBad p = true →
    ∃ t, exec (.gclCommitChecked p) s = .next t ∧ t.switchPending p = s.switchPending p ∧ t.fld .SHTL_GCL_EVENT_BAD_CFG p = 1 ∧ (t.pt p).gcl.checking = none ∧
      s.SameFlds t [(.SHTL_GCL_EVENT_BAD_CFG, p)] ∧ s.SameMem t)

/-- CANCEL of a pending switch (R218): 64 µs or more before t_sw the switch is cancelled, PENDING becomes 0, CANCEL_DONE is set and the oper list runs on unchanged, no other port is touched; later the write is ignored but for
CANCEL_REFUSED, and the switch stays due at t_sw. -/
def Obligations.CancelOfAPendingSwitch : Prop := ∀ (s : State) (p : Port) (r : Req), s.Overlock → s.Grants r true .SHTL_GCL_CTRL p 0 → s.switchPending p = true →
  (s.nowD p + 64000 * nsT ≤ s.tSw p → ∃ t, exec (.gclCancel r p) s = .next t ∧ t.switchPending p = false ∧ t.fld .SHTL_GCL_EVENT_CANCEL_DONE p = 1 ∧
    (t.pt p).gcl = (s.pt p).gcl ∧ (t.pt p).staged.map (·.fr) = (s.pt p).staged.map (·.fr) ∧ (∀ q, q ≠ p.val → t.pt q = s.pt q) ∧
    s.SameFlds t [(.SHTL_GCL_STATUS_PENDING, p), (.SHTL_GCL_CHANGE_SEC_SEC, p), (.SHTL_GCL_CHANGE_NS_NS, p), (.SHTL_GCL_CHANGE_NS_FRAC, p), (.SHTL_GCL_EVENT_CANCEL_DONE, p)] ∧ s.SameMem t) ∧
  (s.tSw p < s.nowD p + 64000 * nsT → ∃ t, exec (.gclCancel r p) s = .next t ∧ t.switchPending p = true ∧ t.tSw p = s.tSw p ∧ t.fld .SHTL_GCL_EVENT_CANCEL_REFUSED p = 1 ∧
    t.port = s.port ∧ s.SameFlds t [(.SHTL_GCL_EVENT_CANCEL_REFUSED, p)] ∧ s.SameMem t)

/-- The switch time of a COMMIT (R215): the first admin base time plus a whole number of admin cycle times that lies at least 128 µs after the COMMIT's acceptance. -/
def Obligations.SwitchTimeIsTheFirst : Prop := ∀ tc base cycle : Nat, 0 < cycle →
  tc + 128000 * nsT ≤ switchTime tc base cycle ∧ (∃ k, switchTime tc base cycle = base + k * cycle) ∧
  ∀ k, tc + 128000 * nsT ≤ base + k * cycle → switchTime tc base cycle ≤ base + k * cycle

/-- A gate list as it runs (R207, R208, R211, R213, R216, R239): the switch at its time exchanges the banks and takes the admin configuration over; an interval sets its gates, and after a resumption scheduled windows are served from
the first cycle start on (R93); the values of class B (cycle) fields that wait take effect as a cycle begins (R251); a STOP is remembered while a list runs, and ends the list at the next cycle start; copies that differ while the
list runs are Fatal, and copies that agree change nothing; the grid of a port that can lock locks. -/
def Obligations.GateListRuns : Prop := ∀ (s : State) (p : Port), s.Overlock →
  (s.dev ≠ .off → s.switchPending p = true → s.tSw p ≤ s.nowD p → (s.pt p).gcl.stopReq = false → ∃ t, exec (.gclSwitch p) s = .next t ∧ t.running p = true ∧ t.switchPending p = false ∧
    t.operBank p = 1 - s.operBank p ∧ t.operBase p = s.adminBase p ∧ t.operCycle p = s.adminCycle p ∧ t.fld .SHTL_GCL_STATUS_OPER_LEN p = s.fld .SHTL_GCL_CFG_ADMIN_LEN p ∧
    t.fld .SHTL_GCL_EVENT_SWITCH_DONE p = 1) ∧
  (∀ r : Req, s.Grants r true .SHTL_GCL_CTRL p 0 → s.running p = true → ∃ t, exec (.gclStop r p) s = .next t ∧ (t.pt p).gcl.stopReq = true ∧ t.running p = true ∧ s.SameFlds t [] ∧
    s.SameMem t) ∧
  (∀ (c : Cyc) (x : Span), s.dev ≠ .off → s.running p = true → (s.switchPending p = false ∨ s.nowD p < s.tSw p) → (s.sched p).spanAt (s.nowD p) = some (c, x) →
    (s.pt p).gcl.performed ≠ some x.start → (s.pt p).gcl.cycleStart = some c.start → ∃ t, exec (.gclIntervalStart p) s = .next t ∧
      t.fld .SHTL_GCL_STATUS_GATES p = eGates x.ent ∧ (t.pt p).gcl.performed = some x.start ∧ (eOp x.ent = 1 → t.on .SHTL_GCL_STATUS_HOLD p = true) ∧
      (eOp x.ent = 2 → t.on .SHTL_GCL_STATUS_HOLD p = false) ∧ (∀ u : Int, (s.pt p).resumeAt = some u → u ≤ c.start → (t.pt p).serving = true) ∧
      (∀ u : Int, (s.pt p).resumeAt = some u → c.start < u → (t.pt p).serving = (s.pt p).serving) ∧
      s.SameFlds t [(.SHTL_GCL_STATUS_GATES, p), (.SHTL_GCL_STATUS_ENTRY, p), (.SHTL_GCL_STATUS_HOLD, p)] ∧ s.SameMem t) ∧
  (∀ (c : Cyc) (x : Span) (v : Nat), s.dev ≠ .off → s.running p = true → s.switchPending p = false → (s.sched p).spanAt (s.nowD p) = some (c, x) → (s.pt p).gcl.stopReq = false →
    (s.pt p).gcl.performed ≠ some x.start → (s.pt p).gcl.cycleStart = none → s.pendingB ⟨.SELV_HEM_CFG, p, 0⟩ .SELV_HEM_CFG_HEM = some v → v < 2 ^ 16 →
    ∃ t, exec (.gclIntervalStart p) s = .next t ∧ t.fld .SELV_HEM_CFG_HEM p = v ∧ t.fld .SHTL_GCL_STATUS_GATES p = eGates x.ent ∧ (t.pt p).gcl.cycleStart = some c.start) ∧
  (∀ (c : Cyc) (x : Span), s.dev ≠ .off → s.running p = true → s.switchPending p = false → (s.sched p).spanAt (s.nowD p) = some (c, x) → (s.pt p).gcl.stopReq = true →
    (s.pt p).gcl.performed ≠ some x.start → (s.pt p).gcl.cycleStart = none → ∃ t, exec (.gclIntervalStart p) s = .next t ∧ t.running p = false ∧ t.on .SHTL_GCL_STATUS_HOLD p = false) ∧
  (s.dev ≠ .off → s.running p = true → s.operDiffer p = true → ∃ t, exec (.gclCopyCheck p) s = .next t ∧ t.dev = .failSilent ∧ t.fld .SHTL_GCL_EVENT_COPY_MISMATCH p = 1) ∧
  (s.dev ≠ .off → s.operDiffer p = false → ∃ t, exec (.gclCopyCheck p) s = .next t ∧ t.dev = s.dev ∧ s.SameFlds t [] ∧ s.SameMem t) ∧
  (s.dev ≠ .off → s.gridCanLock p = true → ∃ t, exec (.gridLock p) s = .next t ∧ t.on .SELV_GRID_STATUS_LOCKED p = true ∧ t.on .SELV_GRID_STATUS_SLEWING p = false ∧
    s.SameFlds t [(.SELV_GRID_STATUS_LOCKED, p), (.SELV_GRID_STATUS_SLEWING, p)] ∧ s.SameMem t)

/-! ## Queues, staging and selection (chapters 06, 07, 08) -/

/-- Q_CMD, shaping and rescue (R200, R201, R225, R227, R229, R233): a flush empties its queue alone, with the frames of it that a path holds and has not begun to send, and keeps BUSY until its cells have returned; a command while one
is in progress is ignored with CMD_COLLIDE; CLEAR_MAX starts the largest depth and sojourn again; a write of Q_SHAPE starts its queue with no tokens, out of the calendar; a coarse slot passes its queues on to the fine calendar,
and a fine slot that is due makes its queues eligible; a queue whose head has waited longer than RESCUE_AGE becomes Urgent. -/
def Obligations.QueueCommandsAndCalendar : Prop := ∀ (s : State) (p : Port) (n : Fin 128), s.Overlock →
  (∀ r : Req, s.Grants r true .SHTL_Q_CMD p 0 → s.on .SHTL_Q_CMD_BUSY p = false → ∃ t, exec (.queueFlush r p false n) s = .next t ∧ t.on .SHTL_Q_CMD_BUSY p = true ∧
    (t.qu (128 * p + n)).frames = [] ∧ (t.pt p).pathWaits (128 * p + n) = [] ∧ (∀ q, q ≠ 128 * p.val + n → (t.qu q).frames = (s.qu q).frames)) ∧
  (∀ r : Req, s.Grants r true .SHTL_Q_CMD p 0 → s.on .SHTL_Q_CMD_BUSY p = true → ∀ all : Bool, ∃ t, exec (.queueFlush r p all n) s = .next t ∧
    t.on .SHTL_BUF_EVENT_CMD_COLLIDE (boltOf p) = true ∧ t.queue = s.queue ∧
    s.SameFlds t [(.SHTL_BUF_EVENT_CMD_COLLIDE, boltOf p), (.SHTL_Q_CMD_OP, p), (.SHTL_Q_CMD_ALL, p), (.SHTL_Q_CMD_QUEUE, p)] ∧ s.SameMem t) ∧
  (s.dev ≠ .off → s.on .SHTL_Q_CMD_BUSY p = true → ∃ t, exec (.queueFlushDone p) s = .next t ∧ t.on .SHTL_Q_CMD_BUSY p = false ∧ t.on .SHTL_BUF_EVENT_FLUSH_DONE (boltOf p) = true ∧
    (t.pt p).flushed = [] ∧ s.SameFlds t [(.SHTL_BUF_EVENT_FLUSH_DONE, boltOf p), (.SHTL_Q_CMD_BUSY, p)] ∧ s.SameMem t) ∧
  (∀ r : Req, s.Grants r true .SHTL_Q_CMD p 0 → s.on .SHTL_Q_CMD_BUSY p = false → ∃ t, exec (.queueClearMax r p false n) s = .next t ∧
    (t.qu (128 * p + n)).maxCells = (s.qu (128 * p + n)).cells ∧ (t.qu (128 * p + n)).maxSojourn = 0 ∧ (t.qu (128 * p + n)).frames = (s.qu (128 * p + n)).frames ∧
    (∀ q, q ≠ 128 * p.val + n → t.qu q = s.qu q) ∧ s.SameFlds t [(.SHTL_Q_CMD_OP, p), (.SHTL_Q_CMD_ALL, p), (.SHTL_Q_CMD_QUEUE, p)] ∧ s.SameMem t) ∧
  (∀ (r : Req) (v : BitVec 64), s.Grants r true .SHTL_Q_SHAPE p n → ∃ t, exec (.qShapeWrite r p n v) s = .next t ∧ t.fld .SHTL_Q_SHAPE_EN p n = bits v.toNat 63 63 ∧
    t.fld .SHTL_Q_SHAPE_RATE p n = bits v.toNat 53 32 ∧ t.fld .SHTL_Q_SHAPE_BURST p n = bits v.toNat 23 0 ∧ (t.qu (128 * p + n)).tok = 0 ∧ (t.qu (128 * p + n)).last = s.lNow ∧
    (t.qu (128 * p + n)).park = none ∧ s.SameFlds t [(.SHTL_Q_SHAPE_EN, p), (.SHTL_Q_SHAPE_RATE, p), (.SHTL_Q_SHAPE_BURST, p)] ∧ s.SameMem t) ∧
  (∀ (q : Nat) (y : Park) (b : Bolt), s.dev ≠ .off → (s.bo b).coarse ≠ some (s.lNs / 32768) → boltOf (qPort q) = b → (s.qu q).park = some y → y.fine = false →
    y.slot = s.lNs / 32768 % 4096 → y.laps = 0 → ∃ t, exec (.calendarCoarseVisit b) s = .next t ∧ (t.qu q).park = some { y with fine := true, slot := y.elig / 8 % 4096 } ∧
      (t.bo b).coarse = some (s.lNs / 32768) ∧ s.SameFlds t [] ∧ s.SameMem t) ∧
  (∀ (q : Nat) (y : Park) (b : Bolt), s.dev ≠ .off → boltOf (qPort q) = b → (s.qu q).park = some y → y.fine = true → y.elig * nsT ≤ s.lNow →
    ∃ t, exec (.calendarFineDue b) s = .next t ∧ (t.qu q).park = none ∧ (t.qu q).frames = (s.qu q).frames ∧ s.SameFlds t [] ∧ s.SameMem t) ∧
  (s.dev ≠ .off → s.rescueDue p n = true → ∃ t, exec (.rescueEvaluate p) s = .next t ∧ (t.qu (128 * p + n)).urgent = some s.lNow ∧
    (t.qu (128 * p + n)).frames = (s.qu (128 * p + n)).frames ∧ s.SameFlds t [] ∧ s.SameMem t)

/-- Staging and selection (R185, R220 to R222, R230, R243, R244, R249): a window whose staging point has come is recorded; the head frame of a window's first queue, where it fits the window and the store, leaves its queue and is
staged for that window, and holds its cells until it is fully staged; a window that ended with a frame that found no room is counted once; a selection moves the head frame of the chosen queue into the free path, and its start tag
becomes the virtual time of its class and advances by the frame's bytes × 256 over the WEIGHT, a WEIGHT that waits included from this update on. Staging touches no register field, and selection none but that WEIGHT. Releases and
starts (R55, R243, R245, R253, R254, R287): the frame of a train whose release point has come, that is fully staged, fits its window, finds the wire free and outside the trains and Hems of other windows, and that the guardian lets
pass, leaves the staging store and begins at that point; with action RECORD, the egress timestamp of a service core's frame enters the port's queue; the control frame that waits begins at the first start position where an express
transmission fits. Neither touches a register field or memory. -/
def Obligations.StagingSelectionAndStarts : Prop :=
  (∀ (s : State) (p : Port), s.Overlock → s.dev ≠ .off →
  (∀ (c : Fin 8) (w : Win), s.portTakes p = true → s.schedUp p = true → s.isSched p c = true → (s.pruneWins p).dueWindow p c = some w →
    ∃ t, exec (.stagingPoint p (some c)) s = .next t ∧
      (t.pt p).wins = ((s.pruneWins p).pt p).wins ++ [{ cls := c, openT := w.openT.toNat, closeT := w.closeT.toNat, noHem := w.noHem }] ∧ t.queue = s.queue ∧ s.SameFlds t [] ∧ s.SameMem t) ∧
  (∀ (w : StgWin) (fr : FrameRec) (tl : List FrameRec) (delay : Nat), s.portTakes p = true → s.schedUp p = true → (s.pt p).wins = [w] → s.nowD p < w.closeT → w.noFit = [] →
    (s.qu (128 * p + 16 * w.cls)).frames = fr :: tl → w.used + s.wireT p (s.charged p fr) ≤ w.closeT - w.openT → s.storeFits p fr = true → (s.editFrame p fr).length ≤ 9212 →
    (∀ x ∈ (s.pt p).staged, x.held = false) → fr.q = 128 * p + 16 * w.cls →
    ∃ t, exec (.stageFrame p delay .none) s = .next t ∧ (t.qu (128 * p + 16 * w.cls)).frames = tl ∧
      (t.pt p).staged = (s.pt p).staged ++
        [{ fr := fr, bytes := s.editFrame p fr, cls := w.cls, openT := w.openT, closeT := w.closeT, fullAt := s.lNow + psT delay, held := decide (0 < delay) }] ∧
      (t.qu (128 * p + 16 * w.cls)).cells = (s.qu (128 * p + 16 * w.cls)).cells - (if delay = 0 then fr.cells else 0)) ∧
  (∀ (c : Fin 8) (w : StgWin), ((s.pt p).wins.find? fun w => w.cls == c.val && w.storeFull && decide (w.closeT ≤ s.nowD p)) = some w → ∃ t, exec (.storeFullWindow p c) s = .next t ∧
    t.ctr (portWord p 43) = ctrAdd (s.ctr (portWord p 43)) 1 ∧ t.on .SELV_EVENT_STORE_FULL p = true ∧ s.SameFlds t [(.SELV_EVENT_STORE_FULL, p)] ∧ s.SameMem t) ∧
  (∀ (n : Nat) (fr : FrameRec) (tl : List FrameRec), s.portTakes p = true → (s.pt p).express = none → s.urgentReady p false = [] → s.selectPick p false = some (n, false) →
    (s.qu (128 * p + n)).frames = fr :: tl → (∀ f, (s.pt p).preempt = some f → s.paused p (qTc f.fr.q) = true → f.started = true) →
    (∀ v, s.pendingB ⟨.SHTL_Q_SEL, p, n⟩ .SHTL_Q_SEL_WEIGHT = some v → v < 256) → ∃ t, exec (.shuttleSelect p false) s = .next t ∧ (t.pt p).express = some { fr := fr, bytes := fr.data } ∧
      (t.qu (128 * p + n)).frames = tl ∧ (t.pt p).preempt = (s.pt p).preempt ∧ (t.pt p).vt.get 0 (n / 16) = (s.qu (128 * p + n)).tag ∧
      (∀ k : Nat, s.charged p fr * 256 = k * max 1 ((s.pendingB ⟨.SHTL_Q_SEL, p, n⟩ .SHTL_Q_SEL_WEIGHT).getD (s.fld .SHTL_Q_SEL_WEIGHT p n)) →
        (t.qu (128 * p + n)).tag = ((s.qu (128 * p + n)).tag + k) % 2 ^ 48) ∧ s.SameFlds t [(.SHTL_Q_SEL_WEIGHT, p)] ∧ s.SameMem t)) ∧
  (∀ (s : State) (p : Port), s.Overlock → s.dev ≠ .off → s.alive = true → multidrop p = false →
  (∀ (w : StgWin) (f : Staged) (b : Bool), (∀ g ∈ (s.pt p).staged, g.doomed = false ∧ (g.held = true → s.lNow < g.fullAt)) → (s.pt p).mdp.staged = none → (s.pt p).tx = none →
    s.launchPick p = some (w, f) → f.fr.act = .none ∨ f.fr.act = .record ∧ f.fr.src = .service →
    s.planned p w ≤ s.nowR p → s.point p w ≤ s.nowR p → s.wireFree p ≤ s.point p w → f.fullAt ≤ s.toL p (s.point p w) → s.point p w + s.wholeT p f.bytes.length ≤ w.closeT →
    s.otherTrain p w (s.point p w) = false → s.on .SELV_GUARD_STATUS_COPY_HOLD p = false →
    s.guardPass p w.cls (s.point p w) (s.point p w + s.wholeT p f.bytes.length) = true →
    s.guardSlotOk p (s.point p w) (s.point p w + s.wholeT p f.bytes.length) = true → ∃ (t : State) (x : Tx), exec (.frameLaunch p b) s = .next t ∧ (t.pt p).tx = some x ∧
      x.kind = .staged w.cls w.openT w.closeT ∧ x.path.bytes = f.bytes ∧ x.startL = s.toL p (s.point p w) ∧ (t.pt p).staged = (s.pt p).staged.erase f ∧ t.queue = s.queue ∧
      (f.fr.act = .none → (t.pt p).tsq = (s.pt p).tsq) ∧
      (f.fr.act = .record → x.ts = some (s.egressStamp p f.fr.tsDom x.startL) ∧
        ((t.pt p).tsq.map fun e => (e.dom, e.time)) = ((s.pt p).tsq.map fun e => (e.dom, e.time)) ++ [(f.fr.tsDom, (s.egressStamp p f.fr.tsDom x.startL).2)]) ∧
      s.SameFlds t [] ∧ s.SameMem t) ∧
  (∀ (d : List Byte) (e : BufErr) (b : Bool), (s.pt p).tx = none → s.linkState p = 6 → s.on .SELV_CTRL_RUN p = true → (s.pt p).mac.ctrl = some d →
    s.expressFits p (s.nextStart p (s.nowR p)) (s.wholeT p d.length + s.gapT p) = true →
    s.guardSlotOk p (s.nextStart p (s.nowR p)) (s.nextStart p (s.nowR p) + s.wholeT p d.length) = true → ∃ (t : State) (x : Tx), exec (.transmitStart p .control b e) s = .next t ∧
      (t.pt p).tx = some x ∧ x.kind = .control ∧ x.path.bytes = d ∧ x.startL = s.toL p (s.nextStart p (s.nowR p)) ∧ (t.pt p).mac.ctrl = none ∧ s.SameFlds t [] ∧ s.SameMem t))

/-! ## The Selvedge (chapter 08) -/

/-- Ends and cuts (R185, R250, R255, R260, R261, R263): a control frame that has been sent leaves the port idle and is counted; a transmission of another kind in the cut time of a window is cut and the cut is reported; a hold that
applies is taken on and released; a planned cut that is reached keeps the rest of the frame; a held frame resumes with its next fragment; RUN written 0 empties the staging store and the paths. -/
def Obligations.EndsCutsAndHolds : Prop := ∀ (s : State) (p : Port), s.Overlock →
  (∀ x : Tx, s.dev ≠ .off → (s.pt p).tx = some x → x.kind = .control → x.final = true → x.endL ≤ s.lNow → (s.pt p).mac.disabling = false → ∃ t, exec (.transmitComplete p) s = .next t ∧
    (t.pt p).tx = none ∧ (t.pt p).lastEnd = x.endL ∧ t.ctr (portWord p 38) = ctrAdd (s.ctr (portWord p 38)) 1 ∧ s.SameFlds t [] ∧ s.SameMem t) ∧
  (∀ x : Tx, s.dev ≠ .off → (s.pt p).tx = some x → x.kind = .control → s.hemHit p x = true → (s.pt p).guard.blocks.length < 15 →
    ∃ t, exec (.hemCut p) s = .next t ∧ (t.pt p).tx = none ∧ t.on .SELV_EVENT_GUARD_CUT p = true ∧ t.ctr (portWord p 48) = ctrAdd (s.ctr (portWord p 48)) 1 ∧ t.dev = s.dev ∧ s.SameMem t) ∧
  (s.dev ≠ .off → s.holdNow p = true → ∃ t, exec (.holdApply p) s = .next t ∧ (t.pt p).holdApplied = true ∧ s.SameFlds t [] ∧ s.SameMem t) ∧
  (s.dev ≠ .off → s.holdNow p = false → ∃ t, exec (.holdRelease p) s = .next t ∧ (t.pt p).holdApplied = false ∧ s.SameFlds t [] ∧ s.SameMem t) ∧
  (∀ x : Tx, s.dev ≠ .off → (s.pt p).tx = some x → x.kind = .preempt → x.final = false → x.endL ≤ s.lNow → s.on .SELV_CTRL_RUN p = true → (s.pt p).mac.disabling = false →
    ∃ t, exec (.fragmentCut p) s = .next t ∧ (t.pt p).tx = none ∧ (t.pt p).preempt = some { x.path with sent := x.upto, frags := x.path.frags + 1 } ∧
      t.ctr (portWord p 36) = ctrAdd (s.ctr (portWord p 36)) 1 ∧ s.SameFlds t [] ∧ s.SameMem t) ∧
  (∀ (f : PathFrame) (n : Nat) (last : Bool), s.dev ≠ .off → s.alive = true → (s.pt p).preempt = some f → f.started = true → (s.pt p).tx = none → s.on .SELV_CTRL_RUN p = true →
    s.linkState p = 6 → (s.pt p).mac.ctrl = none → (s.pt p).holdApplied = false → s.expressOnly p (s.nextStart p (s.nowR p)) false = false →
    s.inTrain p (s.nextStart p (s.nowR p)) = false → s.fragPlan p (s.nextStart p (s.nowR p)) (f.bytes.length - f.sent) = some (n, last) →
    s.expressOnly p (s.nextStart p (s.nowR p)) true = false → ∃ (t : State) (x : Tx), exec (.fragmentResume p) s = .next t ∧ (t.pt p).tx = some x ∧ x.kind = .preempt ∧
      x.path.sent = f.sent ∧ x.upto = f.sent + n ∧ x.final = last ∧ s.SameFlds t [] ∧ s.SameMem t) ∧
  (∀ r : Req, s.Grants r true .SELV_CTRL p 0 → ∃ t, exec (.selvedgeStop r p) s = .next t ∧ t.on .SELV_CTRL_RUN p = false ∧ (t.pt p).staged = [] ∧ (t.pt p).express = none ∧
    (t.pt p).retry = none ∧ (t.pt p).mdp.staged = none)

/-- Verification of pre-emption (R264, R265, R267): INIT with the link up sends a Verify and passes to VERIFYING; VERIFY_TIME without a Respond sends the next, and after the third attempt the state is FAILED; a valid Respond passes
VERIFYING to SUCCEEDED with pre-emption active; a received Verify is answered. -/
def Obligations.PreemptionVerification : Prop := ∀ (s : State) (p : Port), s.Overlock → s.dev ≠ .off → multidrop p = false → s.on .SELV_PREEMPT_CFG_EN p = true →
  (s.on .SELV_PREEMPT_CFG_VERIFY_DIS p = false → s.linkState p = 6 → s.fld .SELV_PREEMPT_STATUS_VERIFY_STATE p = 1 → ∃ t, exec (.verifyStart p) s = .next t ∧
    t.fld .SELV_PREEMPT_STATUS_VERIFY_STATE p = 2 ∧ t.fld .SELV_PREEMPT_STATUS_ATTEMPTS p = 1 ∧ (t.pt p).verify = true ∧ (t.pt p).verifyDue = s.lNow + s.verifyTime p ∧
    s.SameFlds t [(.SELV_PREEMPT_STATUS_VERIFY_STATE, p), (.SELV_PREEMPT_STATUS_ACTIVE, p), (.SELV_PREEMPT_STATUS_ATTEMPTS, p)] ∧ s.SameMem t) ∧
  (s.fld .SELV_PREEMPT_STATUS_VERIFY_STATE p = 2 → (s.pt p).verifyDue ≤ s.lNow → s.fld .SELV_PREEMPT_STATUS_ATTEMPTS p < 3 → ∃ t, exec (.verifyTimeout p) s = .next t ∧
    t.fld .SELV_PREEMPT_STATUS_VERIFY_STATE p = 2 ∧ t.fld .SELV_PREEMPT_STATUS_ATTEMPTS p = s.fld .SELV_PREEMPT_STATUS_ATTEMPTS p + 1 ∧ (t.pt p).verify = true ∧
    s.SameFlds t [(.SELV_PREEMPT_STATUS_ATTEMPTS, p)] ∧ s.SameMem t) ∧
  (s.fld .SELV_PREEMPT_STATUS_VERIFY_STATE p = 2 → (s.pt p).verifyDue ≤ s.lNow → s.fld .SELV_PREEMPT_STATUS_ATTEMPTS p = 3 → ∃ t, exec (.verifyTimeout p) s = .next t ∧
    t.fld .SELV_PREEMPT_STATUS_VERIFY_STATE p = 4 ∧ t.on .SELV_EVENT_VERIFY_FAIL p = true ∧ t.on .SELV_PREEMPT_STATUS_ACTIVE p = false ∧ t.dev = s.dev) ∧
  (s.fld .SELV_PREEMPT_STATUS_VERIFY_STATE p = 2 → s.linkState p = 6 → ∃ t, exec (.respondReceived p) s = .next t ∧ t.fld .SELV_PREEMPT_STATUS_VERIFY_STATE p = 3 ∧
    t.on .SELV_PREEMPT_STATUS_ACTIVE p = true ∧ t.on .SELV_EVENT_VERIFY_OK p = true ∧
    s.SameFlds t [(.SELV_PREEMPT_STATUS_VERIFY_STATE, p), (.SELV_PREEMPT_STATUS_ACTIVE, p), (.SELV_EVENT_VERIFY_OK, p)] ∧ s.SameMem t) ∧
  (s.linkState p = 6 → ∃ t, exec (.verifyReceived p) s = .next t ∧ (t.pt p).respond = true ∧ s.SameFlds t [] ∧ s.SameMem t)

/-! ## Links, flow control and the multidrop MAC (chapter 09) -/

/-- The way up (R270, R272, R275, R276, R277, R279, R298, Table 09-5): a stopped lane takes its configuration, and a lane that is not stopped refuses a change; EN = 1 on a carried port begins at NO_SIGNAL, or at HOLD on a multidrop
port whose PHY is on and reports no fault; a signal passes to NO_LOCK; lock passes to FAULT, NEGOTIATING or HOLD, FEC_LOCK with FEC in use; a completed negotiation shows the partner's page and passes to HOLD; a fault on a locked
link that is not UP passes to FAULT, and its end to HOLD, or to NEGOTIATING where that is not complete; UP_HOLD without interruption passes to UP at the lane's rate. That one fault at a time is shown is the model's reading (log
entry 116). -/
def Obligations.LinkWayUp : Prop := ∀ (s : State) (p : Port), s.Overlock →
  (∀ (r : Req) (b : Bolt) (k : Fin 5) (v : BitVec 32), s.Grants r true .MAC_LANE_CFG b k → s.laneStopped b k = true → laneAccepts k (bits v.toNat 31 29) = true →
    bits v.toNat 17 12 + bits v.toNat 11 6 + bits v.toNat 5 0 ≤ 64 → (∀ q ∈ lanePorts b k, s.on .MAC_CFG_EN q = false) → ∃ t, exec (.laneCfgWrite r b k v) s = .next t ∧
      t.fld .MAC_LANE_CFG_MODE b k = bits v.toNat 31 29 ∧ t.fld .MAC_LANE_CFG_FEC b k = bits v.toNat 28 27 ∧ t.fld .MAC_LANE_CFG_TX_POL b k = bits v.toNat 26 26 ∧
      t.fld .MAC_LANE_CFG_RX_POL b k = bits v.toNat 25 25 ∧ t.fld .MAC_LANE_CFG_LOOP b k = bits v.toNat 24 23 ∧ t.fld .MAC_LANE_CFG_TX_MAIN b k = bits v.toNat 17 12 ∧
      t.fld .MAC_LANE_CFG_TX_PRE b k = bits v.toNat 11 6 ∧ t.fld .MAC_LANE_CFG_TX_POST b k = bits v.toNat 5 0 ∧
      (∀ (f : Fl) (i j : Nat), f.reg ≠ .MAC_LANE_CFG ∨ (i, j) ≠ (b.val, k.val) → t.fld f i j = s.fld f i j) ∧ s.SameMem t) ∧
  (∀ (r : Req) (b : Bolt) (k : Fin 5) (v : BitVec 32), s.Grants r true .MAC_LANE_CFG b k → s.laneStopped b k = false → laneAccepts k (bits v.toNat 31 29) = true →
    s.fld .MAC_LANE_CFG_MODE b k ≠ bits v.toNat 31 29 → ∃ t, exec (.laneCfgWrite r b k v) s = .next t ∧ t.fld .MAC_LANE_CFG_MODE b k = s.fld .MAC_LANE_CFG_MODE b k ∧
      t.on .MAC_EVENT_CHANGE_REFUSED (16 * b + laneFirst k) = true) ∧
  (∀ r : Req, s.Grants r true .MAC_CFG p 0 → s.carried p = true → s.portHeld p = false → s.linkState p = 0 → ∃ t, exec (.macEnable r p true) s = .next t ∧ t.on .MAC_CFG_EN p = true ∧
    t.linkState p = (if multidrop p && s.on .MAC_MD_CFG_PHY_EN p && !s.on .MAC_MD_STATUS_LINE_FAULT p then 5 else 1) ∧
    s.SameFlds t [(.MAC_CFG_EN, p), (.MAC_LINK_STATUS_STATE, p), (.MAC_LINK_STATUS_LF, p), (.MAC_LINK_STATUS_RF, p)] ∧ s.SameMem t) ∧
  (∀ r : Req, s.Grants r true .MAC_CFG p 0 → (s.pt p).tx = none → s.linkState p ≠ 6 → ∃ t, exec (.macEnable r p false) s = .next t ∧ t.on .MAC_CFG_EN p = false ∧ t.linkState p = 0 ∧
    s.SameFlds t [(.MAC_CFG_EN, p), (.MAC_LINK_STATUS_STATE, p), (.MAC_LINK_STATUS_LF, p), (.MAC_LINK_STATUS_RF, p)] ∧ s.SameMem t) ∧
  (s.dev ≠ .off → multidrop p = false → s.linkState p = 1 → ∃ t, exec (.signalDetect p) s = .next t ∧ t.linkState p = 2 ∧ t.on .MAC_LANE_STATUS_SIGNAL (boltOf p) (laneOf p) = true ∧
    s.SameFlds t [(.MAC_LANE_STATUS_SIGNAL, boltOf p), (.MAC_LINK_STATUS_STATE, p), (.MAC_LINK_STATUS_LF, p), (.MAC_LINK_STATUS_RF, p)] ∧ s.SameMem t) ∧
  (s.dev ≠ .off → multidrop p = false → s.linkState p = 2 → s.laneRef p = true → ∃ t, exec (.lockAchieved p) s = .next t ∧
    t.linkState p = (if s.linkFault p then 4 else if s.negotiates p then 3 else 5) ∧ (s.negotiates p = false → s.linkFault p = false → (t.pt p).mac.holdSince = s.lNow) ∧
    t.on .MAC_LANE_STATUS_CDR_LOCK (boltOf p) (laneOf p) = true ∧ t.on .MAC_LANE_STATUS_BLOCK_LOCK (boltOf p) (laneOf p) = true ∧
    t.on .MAC_LANE_STATUS_HI_BER (boltOf p) (laneOf p) = false ∧ t.on .MAC_LANE_STATUS_FEC_LOCK (boltOf p) (laneOf p) = s.fecUsed (boltOf p) (laneOf p) ∧
    s.SameFlds t [(.MAC_LANE_STATUS_CDR_LOCK, boltOf p), (.MAC_LANE_STATUS_BLOCK_LOCK, boltOf p), (.MAC_LANE_STATUS_HI_BER, boltOf p), (.MAC_LANE_STATUS_FEC_LOCK, boltOf p),
      (.MAC_LINK_STATUS_STATE, p)] ∧ s.SameMem t) ∧
  (∀ page : BitVec 16, s.dev ≠ .off → s.linkState p = 3 → s.laneMode (boltOf p) (laneOf p) = 3 → page.getLsbD 5 = true → s.linkFault p = false →
    ∃ t, exec (.anComplete p page) s = .next t ∧ t.linkState p = 5 ∧ t.fld .MAC_LINK_STATUS_PARTNER p = page.toNat ∧ (t.pt p).mac.holdSince = s.lNow ∧
      s.SameFlds t [(.MAC_LINK_STATUS_PARTNER, p), (.MAC_LINK_STATUS_STATE, p)] ∧ s.SameMem t) ∧
  (∀ page : BitVec 16, s.dev ≠ .off → s.linkState p = 3 → s.laneMode (boltOf p) (laneOf p) = 3 → page.getLsbD 5 = false →
    ∃ t, exec (.anComplete p page) s = .next t ∧ t.linkState p = 3 ∧ t.fld .MAC_LINK_STATUS_PARTNER p = page.toNat ∧ t.on .MAC_EVENT_AN_REFUSED p = true ∧
      s.SameFlds t [(.MAC_LINK_STATUS_PARTNER, p), (.MAC_EVENT_AN_REFUSED, p)] ∧ s.SameMem t) ∧
  (s.dev ≠ .off → multidrop p = false → s.linkState p = 5 → ∃ t, exec (.faultOrderedSet p true) s = .next t ∧ t.linkState p = 4 ∧ t.on .MAC_LINK_STATUS_RF p = true ∧ t.out = s.out ++ [.line p (if t.on .MAC_LINK_STATUS_LF p then 2 else 1)] ∧
    t.on .MAC_EVENT_REMOTE_FAULT p = true ∧ s.SameFlds t [(.MAC_LINK_STATUS_LF, p), (.MAC_LINK_STATUS_RF, p), (.MAC_EVENT_REMOTE_FAULT, p), (.MAC_LINK_STATUS_STATE, p)] ∧ s.SameMem t) ∧
  (s.dev ≠ .off → multidrop p = false → s.linkState p = 6 → ∃ t, exec (.faultOrderedSet p false) s = .next t ∧ t.linkState p = 6 ∧ t.on .MAC_LINK_STATUS_LF p = true ∧
    s.SameFlds t [(.MAC_LINK_STATUS_LF, p), (.MAC_LINK_STATUS_RF, p)] ∧ s.SameMem t) ∧
  (s.dev ≠ .off → s.linkState p = 4 → ∃ t, exec (.faultCleared p) s = .next t ∧ t.linkState p = (if s.negotiates p && !(s.pt p).mac.negDone then 3 else 5) ∧ t.linkFault p = false ∧
    (t.linkState p = 5 → (t.pt p).mac.holdSince = s.lNow) ∧
    s.SameFlds t [(.MAC_LINK_STATUS_LF, p), (.MAC_LINK_STATUS_RF, p), (.MAC_LINK_STATUS_STATE, p)] ∧ s.SameMem t) ∧
  (s.dev ≠ .off → s.linkState p = 5 → (s.pt p).mac.holdSince + s.fld .MAC_CFG_UP_HOLD p * 1000000 * nsT ≤ s.lNow → s.schedUp p = false → ∃ t, exec (.upHoldExpiry p) s = .next t ∧
    t.linkState p = 6 ∧ t.fld .MAC_LINK_STATUS_SPEED p = s.portSpeed p ∧ t.on .MAC_EVENT_LINK_UP p = true ∧ t.dev = s.dev ∧ s.SameMem t)

/-- The way down (R275, R276, R278): loss of lock ends HOLD at once, and a link that is UP waits for DOWN_FILTER; a cause that has lasted DOWN_FILTER takes a locked link to NO_SIGNAL, and an idle link that was UP raises LINK_DOWN and
shows no rate; a cause that has not lasted DOWN_FILTER leaves the link as it is; the line monitor of a multidrop port takes HOLD to NO_SIGNAL, and its all-clear begins HOLD. -/
def Obligations.LinkWayDown : Prop := ∀ (s : State) (p : Port), s.Overlock → s.dev ≠ .off →
  (multidrop p = false → s.linkState p = 5 → ∃ t, exec (.lockLost p) s = .next t ∧ t.linkState p = 1 ∧ t.on .MAC_LANE_STATUS_CDR_LOCK (boltOf p) (laneOf p) = false ∧
    s.SameFlds t [(.MAC_LANE_STATUS_BLOCK_LOCK, boltOf p), (.MAC_LANE_STATUS_CDR_LOCK, boltOf p), (.MAC_LANE_STATUS_FEC_LOCK, boltOf p), (.MAC_LINK_STATUS_STATE, p), (.MAC_LINK_STATUS_LF, p), (.MAC_LINK_STATUS_RF, p)] ∧ s.SameMem t) ∧
  (multidrop p = false → s.linkState p = 6 → ∃ t, exec (.lockLost p) s = .next t ∧ t.linkState p = 6 ∧ t.on .MAC_LANE_STATUS_CDR_LOCK (boltOf p) (laneOf p) = false ∧
    s.SameFlds t [(.MAC_LANE_STATUS_BLOCK_LOCK, boltOf p), (.MAC_LANE_STATUS_CDR_LOCK, boltOf p), (.MAC_LANE_STATUS_FEC_LOCK, boltOf p)] ∧ s.SameMem t) ∧
  (∀ us : Nat, multidrop p = false → s.linkState p = 4 → max 1 (s.fld .MAC_CFG_DOWN_FILTER p) ≤ us → ∃ t, exec (.downFilterExpiry p .lock us) s = .next t ∧ t.linkState p = 1 ∧
    s.SameFlds t [(.MAC_LINK_STATUS_STATE, p), (.MAC_LINK_STATUS_LF, p), (.MAC_LINK_STATUS_RF, p)] ∧ s.SameMem t) ∧
  (∀ us : Nat, multidrop p = false → s.linkState p = 6 → max 1 (s.fld .MAC_CFG_DOWN_FILTER p) ≤ us → (s.pt p).tx = none → (s.pt p).staged = [] → (s.pt p).express = none →
    (s.pt p).preempt = none → (s.pt p).retry = none → s.schedUp p = false → s.on .MAC_CFG_DOWN_ACT p = false → ∃ t, exec (.downFilterExpiry p .lock us) s = .next t ∧ t.linkState p = 1 ∧
      t.fld .MAC_LINK_STATUS_SPEED p = 0 ∧ t.fld .MAC_MD_STATUS_ATTEMPTS p = 0 ∧ t.on .MAC_MD_STATUS_PLCA_OK p = false ∧ t.on .MAC_EVENT_LINK_DOWN p = true ∧ t.on .SELV_GRID_STATUS_LOCKED p = false ∧ t.dev = s.dev) ∧
  (∀ (c : LossCause) (us : Nat), us < max 1 (s.fld .MAC_CFG_DOWN_FILTER p) → ∃ t, exec (.downFilterExpiry p c us) s = .next t ∧
    t.linkState p = s.linkState p ∧ s.SameFlds t [(.MAC_LANE_STATUS_SIGNAL, boltOf p), (.MAC_LANE_STATUS_HI_BER, boltOf p)] ∧ t.port = s.port ∧ s.SameMem t) ∧
  (multidrop p = true → s.linkState p = 5 → ∃ t, exec (.lineMonitorFault p) s = .next t ∧ t.linkState p = 1 ∧ t.on .MAC_MD_STATUS_LINE_FAULT p = true ∧
    t.on .MAC_EVENT_LINE_FAULT p = true ∧ s.SameFlds t [(.MAC_MD_STATUS_LINE_FAULT, p), (.MAC_EVENT_LINE_FAULT, p), (.MAC_LINK_STATUS_STATE, p), (.MAC_LINK_STATUS_LF, p), (.MAC_LINK_STATUS_RF, p)] ∧ s.SameMem t) ∧
  (multidrop p = true → s.linkState p = 1 → s.on .MAC_MD_CFG_PHY_EN p = true → ∃ t, exec (.lineFaultCleared p) s = .next t ∧ t.linkState p = 5 ∧
    t.on .MAC_MD_STATUS_LINE_FAULT p = false ∧ (t.pt p).mac.holdSince = s.lNow ∧ s.SameFlds t [(.MAC_MD_STATUS_LINE_FAULT, p), (.MAC_LINK_STATUS_STATE, p)] ∧ s.SameMem t)

/-- Flow control and multidrop access (R282, R286, R292, R293, R295, R296): a pause that has run out ends; an XOFF whose condition holds is sent again after half of QUANTA; FC_TX_CMD sends a frame where the port sends such frames; the
deferral ends; a back-off ends; a collision in the first 64 bytes of an express frame jams it and keeps it for another attempt; a BEACON starts a PLCA cycle; opportunities that end pass in turn and the coordinator begins again
after the last with a BEACON; one that has not ended stays; the loss of BEACONs ends PLCA. -/
def Obligations.FlowControlAndMultidrop : Prop := ∀ (s : State) (p : Port), s.Overlock →
  (∀ c : Fin 8, s.dev ≠ .off → (s.pt p).mac.pauseEnd.get 0 c ≠ 0 → (s.pt p).mac.pauseEnd.get 0 c ≤ s.lNow → ∃ t, exec (.pauseTimerExpiry p c) s = .next t ∧
    (t.pt p).mac.pauseEnd.get 0 c = 0 ∧ (∀ d, d ≠ c.val → (t.pt p).mac.pauseEnd.get 0 d = (s.pt p).mac.pauseEnd.get 0 d) ∧ s.SameFlds t [] ∧ s.SameMem t) ∧
  (s.dev ≠ .off → s.fcMode p = true → (s.pt p).mac.xoff = true → (s.pt p).mac.xoffNext ≤ s.lNow → s.poolAbove (s.fld .MAC_FC_TX_CFG_XOFF_FRAC p) = true →
    ∃ t, exec (.xoffRefresh p) s = .next t ∧ (t.pt p).mac.ctrl = some (s.ctrlFrame p (s.fld .MAC_FC_TX_CFG_MODE p == 2) (s.fld .MAC_FC_TX_CFG_CLASSES p) (s.fld .MAC_FC_TX_CFG_QUANTA p)) ∧
      (t.pt p).mac.xoffNext = s.lNow + s.halfQuanta p ∧ s.SameFlds t [] ∧ s.SameMem t) ∧
  (∀ (r : Req) (v : BitVec 32), s.Grants r true .MAC_FC_TX_CMD p 0 → s.fcMode p = true → v.getLsbD 31 = true → ∃ t, exec (.fcTxSend r p v) s = .next t ∧
    (t.pt p).mac.ctrl = some (s.ctrlFrame p (s.fld .MAC_FC_TX_CFG_MODE p == 2) (bits v.toNat 23 16) (if v.getLsbD 30 then 0 else bits v.toNat 15 0)) ∧ s.SameFlds t [] ∧ s.SameMem t) ∧
  (∀ (r : Req) (v : BitVec 32), s.Grants r true .MAC_FC_TX_CMD p 0 → s.fcMode p = false → ∃ t, exec (.fcTxSend r p v) s = .next t ∧ t.port = s.port ∧ s.SameFlds t [] ∧ s.SameMem t) ∧
  (s.dev ≠ .off → multidrop p = true → (s.pt p).mac.mayStart ≤ s.lNow → ∃ t, exec (.carrierDeferEnd p) s = .next t ∧ (t.pt p).mac.carrier = false ∧ (t.pt p).mac.mayStart = s.lNow ∧
    s.SameFlds t [] ∧ s.SameMem t) ∧
  (∀ x : Tx, s.dev ≠ .off → multidrop p = true → s.fld .MAC_MD_CFG_MODE p = 0 → (s.pt p).tx = some x → s.pcState p ≠ 5 → x.kind = .express → s.sentBytes p x ≤ 64 → s.fld .MAC_MD_STATUS_ATTEMPTS p < 15 →
    ∃ t, exec (.collisionDetect p) s = .next t ∧ (t.pt p).tx = none ∧ (t.pt p).retry = some x.path ∧ (t.pt p).lastEnd = s.lNow + 3200 * nsT ∧
      t.fld .MAC_MD_STATUS_ATTEMPTS p = s.fld .MAC_MD_STATUS_ATTEMPTS p + 1 ∧
      (∃ k, k < 2 ^ min (s.fld .MAC_MD_STATUS_ATTEMPTS p + 1) 10 ∧ (t.pt p).mac.backoffEnd = some (s.lNow + 3200 * nsT + k * 51200 * nsT)) ∧
      t.ctr (portWord p 49) = ctrAdd (s.ctr (portWord p 49)) 1 ∧ s.SameFlds t [(.MAC_MD_STATUS_ATTEMPTS, p)] ∧ s.SameMem t) ∧
  (∀ e : Nat, s.dev ≠ .off → (s.pt p).mac.backoffEnd = some e → e ≤ s.lNow → ∃ t, exec (.backoffExpiry p) s = .next t ∧ (t.pt p).mac.backoffEnd = none ∧ s.SameFlds t [] ∧ s.SameMem t) ∧
  (s.dev ≠ .off → s.plca p = true → s.fld .MAC_PLCA_CFG_NODE_ID p ≠ 0 → ∃ t, exec (.plcaBeaconReceived p) s = .next t ∧ t.on .MAC_MD_STATUS_PLCA_OK p = true ∧
    (t.pt p).mac.lastBeacon = s.lNow ∧ (t.pt p).mac.oppNode = 0 ∧ s.SameFlds t [(.MAC_MD_STATUS_PLCA_OK, p)] ∧ s.SameMem t) ∧
  (s.dev ≠ .off → s.plca p = true → s.fld .MAC_PLCA_CFG_NODE_ID p = 0 → s.plcaEnds p = true → ∃ t, exec (.plcaOpportunity p) s = .next t ∧
    (t.pt p).mac.oppNode = (if max 1 (s.fld .MAC_PLCA_CFG_NODE_COUNT p) ≤ (s.pt p).mac.oppNode + 1 then 0 else (s.pt p).mac.oppNode + 1) ∧ (t.pt p).mac.oppFrames = 0 ∧ (t.pt p).mac.oppAt = s.lNow ∧
    t.out = s.out ++ (if max 1 (s.fld .MAC_PLCA_CFG_NODE_COUNT p) ≤ (s.pt p).mac.oppNode + 1 then [.wire p 6 [] [] true] else []) ∧ s.SameFlds t [] ∧ s.SameMem t) ∧
  (s.dev ≠ .off → s.plca p = true → s.fld .MAC_PLCA_CFG_NODE_ID p ≠ 0 → s.plcaEnds p = true → ∃ t, exec (.plcaOpportunity p) s = .next t ∧ (t.pt p).mac.oppAt = s.lNow ∧ (t.pt p).mac.oppNode = (s.pt p).mac.oppNode + 1 ∧
    t.out = s.out ∧ s.SameFlds t [] ∧ s.SameMem t) ∧
  (s.dev ≠ .off → s.plca p = true → s.fld .MAC_PLCA_CFG_NODE_ID p ≠ 0 → s.on .MAC_MD_STATUS_PLCA_OK p = true →
    (s.pt p).mac.lastBeacon + max 1 (s.fld .MAC_PLCA_CFG_BEACON_LOSS p) * 1000000 * nsT ≤ s.lNow → ∃ t, exec (.plcaBeaconLoss p) s = .next t ∧
      t.on .MAC_MD_STATUS_PLCA_OK p = false ∧ t.on .MAC_EVENT_PLCA_LOST p = true ∧ s.SameFlds t [(.MAC_MD_STATUS_PLCA_OK, p), (.MAC_EVENT_PLCA_LOST, p)] ∧ s.SameMem t) ∧
  (s.dev ≠ .off → s.plcaEnds p = false → ∃ t, exec (.plcaOpportunity p) s = .next t ∧ t.port = s.port ∧ t.out = s.out ∧ s.SameFlds t [] ∧ s.SameMem t)

/-! ## The Polled Cycle (chapter 10) -/

/-- States and claims (R299, R311 to R313, R317): where the conditions are met a port leaves OFF for LISTEN, or in Active-Shadow for STANDBY, and it returns to OFF where they fail; a LISTEN that expires passes to CLAIM with its wait
drawn below 2^CLAIM_SPREAD slots of 51.2 µs where a claim may be made, and begins again otherwise; a wait that is over starts the CLAIM; a CLAIM that has left makes the port MASTER from 200 µs after its last bit; a CLAIM received
ends a claim, and at a master it yields to the lower rank alone; a port in another mode takes no notice of a control frame. -/
def Obligations.PolledCycleClaims : Prop := ∀ (s : State) (p : Port), s.Overlock → s.dev ≠ .off →
  (s.pcMet p = true → s.pcState p = 0 → s.schedUp p = false → ∃ t, exec (.pcEnable p) s = .next t ∧ t.pcState p = (if s.dev = .shadow then 6 else 1) ∧
    (s.dev ≠ .shadow → (t.pt p).mdp.listenEnd = s.lNow + max 1 (s.fld .MDP_PC_CFG_LISTEN_CYCLES p) * s.operCycle p + s.fld .MDP_PC_CFG_RANK p * 51200 * nsT) ∧
    s.SameFlds t [(.MDP_PC_STATUS_STATE, p), (.MDP_PC_STATUS_ORIGIN, p), (.MDP_PC_TABLE_STATUS_MISSED, p)] ∧ s.SameMem t) ∧
  (s.pcMet p = false → s.schedUp p = false → ∃ t, exec (.pcEnable p) s = .next t ∧ t.pcState p = 0 ∧ s.SameFlds t [(.MDP_PC_STATUS_STATE, p), (.MDP_PC_STATUS_ORIGIN, p)] ∧ s.SameMem t) ∧
  (s.pcState p = 1 → (s.pt p).mdp.listenEnd ≤ s.lNow → s.pcMayClaim p = true → ∃ t, exec (.pcListenExpiry p) s = .next t ∧ t.pcState p = 4 ∧
    (∃ r, r < 2 ^ min 10 (s.fld .MDP_PC_CFG_CLAIM_SPREAD p) ∧ (t.pt p).mdp.claimEnd = s.lNow + r * 51200 * nsT) ∧ s.SameFlds t [(.MDP_PC_STATUS_STATE, p)] ∧ s.SameMem t) ∧
  (s.pcState p = 1 → (s.pt p).mdp.listenEnd ≤ s.lNow → s.pcMayClaim p = false → ∃ t, exec (.pcListenExpiry p) s = .next t ∧ t.pcState p = 1 ∧
    (t.pt p).mdp.listenEnd = s.lNow + max 1 (s.fld .MDP_PC_CFG_LISTEN_CYCLES p) * s.operCycle p + s.fld .MDP_PC_CFG_RANK p * 51200 * nsT ∧
    s.SameFlds t [(.MDP_PC_STATUS_STATE, p), (.MDP_PC_STATUS_ORIGIN, p), (.MDP_PC_TABLE_STATUS_MISSED, p)] ∧ s.SameMem t) ∧
  (s.pcState p = 4 → multidrop p = true → s.alive = true → (s.pt p).mdp.claiming = false → (s.pt p).mdp.claimEnd ≤ s.lNow → (s.pt p).mac.mayStart ≤ s.lNow → (s.pt p).mac.backoffEnd = none →
    (s.pt p).tx = none → ∃ (t : State) (x : Tx), exec (.pcClaimWaitExpiry p false) s = .next t ∧ (t.pt p).tx = some x ∧ x.kind = .polled ∧
      x.path.bytes = s.pcFrame p (s.nowR p) 0x53 0 0 0 0 (s.fld .MDP_PC_CFG_RANK p) 0 0 ∧ (t.pt p).mdp.claiming = true ∧
      t.ctr (portWord p 29) = ctrAdd (s.ctr (portWord p 29)) 1 ∧ s.SameFlds t [] ∧ s.SameMem t) ∧
  (∀ x : Tx, s.pcState p = 4 → (s.pt p).mdp.claiming = true → (s.pt p).tx = some x → x.kind = .polled → x.final = true → x.endL ≤ s.lNow → (s.pt p).mac.disabling = false →
    ∃ t, exec (.pcClaimSent p) s = .next t ∧ t.pcState p = 5 ∧ (t.pt p).tx = none ∧ t.on .MDP_EVENT_MASTER_UP p = true ∧
      (t.pt p).mdp.masterFrom = (s.toD p x.endL + (200000 * nsT : Nat)).toNat ∧
      s.SameFlds t [(.MDP_PC_STATUS_STATE, p), (.MDP_PC_STATUS_ORIGIN, p), (.MDP_PC_TABLE_STATUS_MISSED, p), (.MDP_EVENT_MASTER_UP, p)] ∧ s.SameMem t) ∧
  (∀ d : List Byte, s.polled p = true → s.pcState p = 4 → s.pcValid p d = true → byteAt d 0 = 0x53 → ∃ t, exec (.pcClaimReceived p d) s = .next t ∧ t.pcState p = 1 ∧
    s.SameFlds t [(.MDP_PC_STATUS_STATE, p), (.MDP_PC_STATUS_ORIGIN, p), (.MDP_PC_TABLE_STATUS_MISSED, p)] ∧ s.SameMem t) ∧
  (∀ d : List Byte, s.polled p = true → s.pcState p = 5 → s.pcValid p d = true → byteAt d 0 = 0x53 → pcOrig d ≠ s.pcOrigin p → s.schedUp p = false → ∃ t, exec (.pcClaimReceived p d) s = .next t ∧
    t.pcState p = (if pcRank d < s.fld .MDP_PC_CFG_RANK p ∨ (pcRank d = s.fld .MDP_PC_CFG_RANK p ∧ pcOrig d < s.pcOrigin p) then 1 else 5) ∧ t.on .MDP_EVENT_DUAL_MASTER p = true ∧
    s.SameFlds t [(.MDP_PC_STATUS_STATE, p), (.MDP_PC_STATUS_ORIGIN, p), (.MDP_PC_TABLE_STATUS_MISSED, p), (.MDP_EVENT_DUAL_MASTER, p)] ∧ s.SameMem t) ∧
  (∀ d : List Byte, s.polled p = true → s.pcValid p d = false → ∃ t, exec (.pcClaimReceived p d) s = .next t ∧ t.ctr (portWord p 28) = ctrAdd (s.ctr (portWord p 28)) 1 ∧ t.port = s.port ∧
    s.SameFlds t [] ∧ s.SameMem t) ∧
  (∀ d : List Byte, s.polled p = false → ∃ t, exec (.pcClaimReceived p d) s = .next t ∧ t.port = s.port ∧ s.SameFlds t [] ∧ s.SameMem t)

/-- Beacons, slots and the master record (R305, R306, R308, R309, R314, R316, R320): a valid BEACON takes LISTEN to INTEGRATE and, where the second beacon meets the conditions of R314, INTEGRATE to FOLLOW; a beacon that has not come
in its time counts in MISSED, and at MISS_LIMIT the port returns to LISTEN; a slot that starts opens for its owner; a POLL opens its owner's answer from 12 bytes after its last bit on; a slot in which its owner was accepted shows,
ACC_WIN and MAX_PROP after its end, the owner present, and one that it missed for the DRIFT_LIMIT-th time flags a drift; the Lead sends the master record, and a STANDBY port applies it and shows it stale after two cycles. -/
def Obligations.PolledCycleRuns : Prop := ∀ (s : State) (p : Port), s.Overlock → s.dev ≠ .off →
  (∀ d : List Byte, s.polled p = true → s.pcState p = 1 → s.pcValid p d = true → byteAt d 0 = 0x51 → s.on .MDP_PC_CFG_TIME_FEED p = false → ∃ (t : State) (b : Beacon), exec (.pcBeaconReceived p d) s = .next t ∧
    t.pcState p = 2 ∧ (t.pt p).mdp.beacon = some b ∧ b.origin = pcOrig d ∧ b.cycle = pcCyc d ∧ b.table = pcTable d ∧ b.cycleNs = pcNs d ∧ b.atL = s.rxTime p 8 60 ∧
    t.fld .MDP_PC_TABLE_STATUS_MISSED p = 0 ∧ t.ctr (portWord p 25) = ctrAdd (s.ctr (portWord p 25)) 1 ∧
    s.SameFlds t [(.MDP_PC_STATUS_STATE, p), (.MDP_PC_STATUS_CYCLE, p), (.MDP_PC_STATUS_RX_IN_SYNC, p), (.MDP_PC_STATUS_ORIGIN, p), (.MDP_PC_TABLE_STATUS_MISSED, p), (.MDP_EVENT_MISMATCH, p)] ∧
    s.SameMem t) ∧
  (∀ (d : List Byte) (b : Beacon), s.polled p = true → s.pcState p = 2 → s.pcValid p d = true → byteAt d 0 = 0x51 → s.on .MDP_PC_CFG_TIME_FEED p = false → (s.pt p).mdp.beacon = some b →
    s.pcSecond p b d (s.rxTime p 8 60) = true → ∃ t, exec (.pcBeaconReceived p d) s = .next t ∧ t.pcState p = 3 ∧
    s.SameFlds t [(.MDP_PC_STATUS_STATE, p), (.MDP_PC_STATUS_CYCLE, p), (.MDP_PC_STATUS_RX_IN_SYNC, p), (.MDP_PC_STATUS_ORIGIN, p), (.MDP_PC_TABLE_STATUS_MISSED, p), (.MDP_EVENT_MISMATCH, p)] ∧
    s.SameMem t) ∧
  (∀ b : Beacon, s.pcState p = 3 → (s.pt p).mdp.beacon = some b → b.atL + (s.fld .MDP_PC_TABLE_STATUS_MISSED p + 1) * b.cycleNs * nsT + 2 * s.accWin p < s.lNow →
    s.fld .MDP_PC_TABLE_STATUS_MISSED p + 1 < max 1 (s.fld .MDP_PC_CFG_MISS_LIMIT p) → ∃ t, exec (.pcBeaconMiss p) s = .next t ∧ t.pcState p = 3 ∧
      t.fld .MDP_PC_TABLE_STATUS_MISSED p = s.fld .MDP_PC_TABLE_STATUS_MISSED p + 1 ∧ t.ctr (portWord p 26) = ctrAdd (s.ctr (portWord p 26)) 1 ∧
      s.SameFlds t [(.MDP_PC_TABLE_STATUS_MISSED, p)] ∧ s.SameMem t) ∧
  (∀ b : Beacon, s.pcState p = 3 → (s.pt p).mdp.beacon = some b → b.atL + (s.fld .MDP_PC_TABLE_STATUS_MISSED p + 1) * b.cycleNs * nsT + 2 * s.accWin p < s.lNow →
    max 1 (s.fld .MDP_PC_CFG_MISS_LIMIT p) ≤ s.fld .MDP_PC_TABLE_STATUS_MISSED p + 1 → s.schedUp p = false → ∃ t, exec (.pcBeaconMiss p) s = .next t ∧ t.pcState p = 1 ∧
      t.on .MDP_EVENT_MASTER_LOST p = true ∧
      s.SameFlds t [(.MDP_PC_STATUS_STATE, p), (.MDP_PC_STATUS_ORIGIN, p), (.MDP_PC_TABLE_STATUS_MISSED, p), (.MDP_EVENT_MASTER_LOST, p)] ∧ s.SameMem t) ∧
  (∀ (i e : Nat) (c : Cyc), (s.pt p).mdp.handEnd = none → s.slotRun p (s.nowR p) = some (i, e, c) → (s.pt p).mdp.slotStart ≠ some (slotTimes c.start e).1.toNat →
    ((s.pcState p = 5 ∧ slotKind e = 1 ∧ (s.pt p).mdp.masterFrom ≤ (slotTimes c.start e).1.toNat) ∨ (s.pcState p = 3 ∧ slotKind e = 2 ∧ s.slotOwned p e = true ∧ s.pcTimedOk p = true)) →
    ∃ t, exec (.pcSlotStart p) s = .next t ∧ (t.pt p).mdp.own = some ((slotTimes c.start e).1.toNat, (slotTimes c.start e).2.toNat) ∧
      (t.pt p).mdp.slotOpen = some (i, (slotTimes c.start e).2.toNat) ∧ s.SameFlds t [] ∧ s.SameMem t) ∧
  (∀ (d : List Byte) (c : Cyc) (e i : Nat), s.polled p = true → s.pcState p = 3 → s.pcValid p d = true → byteAt d 0 = 0x52 → pcNode d = s.fld .MDP_PC_CFG_NODE_ID p → pcNode d ≠ 0 → pcNode d ≠ 255 →
    (s.sched p).cycleAt (s.nowR p) = some c →
    ((s.slotTable p false).zipIdx.find? fun e => e.2 == pcSlot d && slotKind e.1 == 3 && s.slotOwned p e.1) = some (e, i) → ∃ t, exec (.pcPollReceived p d) s = .next t ∧
      (t.pt p).mdp.own = some (s.nowR p + 9600 * nsT, (slotTimes c.start e).2.toNat) ∧ s.SameFlds t [] ∧ s.SameMem t) ∧
  (∀ i z : Nat, s.pcState p = 5 → (s.pt p).mdp.slotOpen = some (i, z) → z + s.slotTail p < s.nowG p → slotKind (s.fld .MDP_PC_SLOT_OPER_ENTRY p i) ≠ 1 → ((s.pt p).mdp.slots.get {} i).accepted = true →
    ∃ t, exec (.pcSlotEnd p) s = .next t ∧
      (t.fld .MDP_PC_PRESENT_NODES p (slotOwner (s.fld .MDP_PC_SLOT_OPER_ENTRY p i) / 64)).testBit (slotOwner (s.fld .MDP_PC_SLOT_OPER_ENTRY p i) % 64) = true ∧
      (t.pt p).mdp.slotOpen = none ∧ (t.pt p).mdp.misses.get 0 (slotOwner (s.fld .MDP_PC_SLOT_OPER_ENTRY p i)) = 0 ∧ s.SameFlds t [(.MDP_PC_PRESENT_NODES, p)] ∧ s.SameMem t) ∧
  (∀ i z : Nat, s.pcState p = 5 → (s.pt p).mdp.slotOpen = some (i, z) → z + s.slotTail p < s.nowG p → slotKind (s.fld .MDP_PC_SLOT_OPER_ENTRY p i) ≠ 1 → ((s.pt p).mdp.slots.get {} i).accepted = false →
    ((s.pt p).mdp.slots.get {} i).missed = true → max 1 (s.fld .MDP_PC_TIMING_DRIFT_LIMIT p) ≤ (s.pt p).mdp.misses.get 0 (slotOwner (s.fld .MDP_PC_SLOT_OPER_ENTRY p i)) + 1 →
    ∃ t, exec (.pcSlotEnd p) s = .next t ∧
      (t.fld .MDP_PC_PRESENT_NODES p (slotOwner (s.fld .MDP_PC_SLOT_OPER_ENTRY p i) / 64)).testBit (slotOwner (s.fld .MDP_PC_SLOT_OPER_ENTRY p i) % 64) = false ∧
      (t.fld .MDP_PC_DRIFT_NODES p (slotOwner (s.fld .MDP_PC_SLOT_OPER_ENTRY p i) / 64)).testBit (slotOwner (s.fld .MDP_PC_SLOT_OPER_ENTRY p i) % 64) = true ∧
      t.on .MDP_EVENT_DRIFT p = true ∧ s.SameFlds t [(.MDP_PC_PRESENT_NODES, p), (.MDP_PC_DRIFT_NODES, p), (.MDP_EVENT_DRIFT, p)] ∧ s.SameMem t) ∧
  (s.dev = .lead → s.pcState p = 5 → (s.pt p).mdp.handEnd = none → ∃ t, exec (.pcMasterRecordSend p) s = .next t ∧ t.out = s.out ++ [.pair 5 (s.pcRecord p)] ∧ s.SameFlds t [] ∧ s.SameMem t) ∧
  (∀ (st : Fin 7) (cycle : BitVec 32) (present drift : BitVec 256), s.pcState p = 6 → ∃ t, exec (.pcMasterRecordApply p st cycle present drift) s = .next t ∧
    t.fld .MDP_PC_STATUS_CYCLE p = cycle.toNat ∧ t.on .MDP_PC_STATUS_STALE p = false ∧ (t.pt p).mdp.record = some (st == 5, s.lNow) ∧
    (∀ j : Fin 4, t.fld .MDP_PC_PRESENT_NODES p j = present.toNat / 2 ^ (64 * j.val) % 2 ^ 64 ∧ t.fld .MDP_PC_DRIFT_NODES p j = drift.toNat / 2 ^ (64 * j.val) % 2 ^ 64) ∧
    s.SameFlds t [(.MDP_PC_PRESENT_NODES, p), (.MDP_PC_DRIFT_NODES, p), (.MDP_PC_STATUS_STALE, p), (.MDP_PC_STATUS_CYCLE, p)] ∧ s.SameMem t) ∧
  (∀ (m : Bool) (at' : Nat), s.pcState p = 6 → (s.pt p).mdp.record = some (m, at') → at' + 2 * s.operCycle p < s.lNow → ∃ t, exec (.pcMasterStale p) s = .next t ∧
    t.on .MDP_PC_STATUS_STALE p = true ∧ s.SameFlds t [(.MDP_PC_STATUS_STALE, p)] ∧ s.SameMem t)

/-! ## Streams, gates and meters (chapter 04) -/

/-- Stream table operations (R113, R120, R124, R143 to R145): a command while one is in progress is ignored with TBL_COLLIDE; READ and WRITE move a record between a table and TBL_DATA; INSERT stores a new entry with a directory slot,
or is refused where its index holds a valid entry; UPDATE, PIN and UNPIN change the entry that the key finds; DELETE makes it invalid and clears its slot; LOOKUP answers it with its index; completion clears BUSY and shows the
code. An unstated operation ends with code 7. -/
def Obligations.StreamTableOperations : Prop := ∀ (s : State) (r : Req), s.Overlock →
  (∀ (tb : Fin 8) (i : BitVec 24) (e : Bool), s.Grants r true .STRM_TBL_CMD 0 0 → s.on .STRM_TBL_STATUS_BUSY = true → ∃ t, exec (.strmTblRead r tb i e) s = .next t ∧
    t.on .STRM_EVENT_TBL_COLLIDE = true ∧ t.strm = s.strm ∧ s.SameFlds t [(.STRM_EVENT_TBL_COLLIDE, 0)] ∧ s.SameMem t) ∧
  (∀ (i : BitVec 24) (e : Bool), s.Grants r true .STRM_TBL_CMD 0 0 → s.on .STRM_TBL_STATUS_BUSY = false → i.toNat < 65536 → ∃ t, exec (.strmTblRead r 2 i e) s = .next t ∧
    t.tblData = s.strm.gate.get 0 i.toNat % 2 ^ 512 ∧ t.strm = { s.strm with tblCode := 0, tblIdx := 0 } ∧ t.on .STRM_TBL_STATUS_BUSY = true ∧
    s.SameFlds t (tblCmdFlds ++ tblDataFlds) ∧ s.SameMem t) ∧
  (∀ (i : BitVec 24) (e : Bool), s.Grants r true .STRM_TBL_CMD 0 0 → s.on .STRM_TBL_STATUS_BUSY = false → s.dramless = false → e = false → s.thim.dramFailed = false →
    s.entBeyond i.toNat = false → ∃ t, exec (.strmTblRead r 0 i e) s = .next t ∧ t.tblData = s.dramEnt i.toNat ∧ t.strm.tblCode = 0 ∧ s.SameFlds t (tblCmdFlds ++ tblDataFlds) ∧ s.SameMem t) ∧
  (∀ i : BitVec 24, s.Grants r true .STRM_TBL_CMD 0 0 → s.on .STRM_TBL_STATUS_BUSY = false → i.toNat < 65536 → ∃ t, exec (.strmTblWrite r 2 i) s = .next t ∧
    t.strm.gate.get 0 i.toNat = s.tblData % 2 ^ 64 ∧ (∀ g, g ≠ i.toNat → t.strm.gate.get 0 g = s.strm.gate.get 0 g) ∧ t.strm.tblCode = 0 ∧ s.SameFlds t tblCmdFlds ∧ s.SameMem t) ∧
  (∀ i : BitVec 24, s.Grants r true .STRM_TBL_CMD 0 0 → s.on .STRM_TBL_STATUS_BUSY = false → i.toNat < 262144 → bits s.tblData 255 234 ≤ 3125000 → bits s.tblData 233 212 ≤ 3125000 →
    ∃ t, exec (.strmTblWrite r 1 i) s = .next t ∧
      t.meterRec i.toNat = meterPut (s.tblData % 2 ^ 256) (bits s.tblData 211 188 * 65536) (bits s.tblData 187 164 * 65536) s.lNs ∧ t.strm.tblCode = 0 ∧ s.SameFlds t tblCmdFlds ∧ s.SameMem t) ∧
  (∀ i : BitVec 24, s.Grants r true .STRM_TBL_CMD 0 0 → s.on .STRM_TBL_STATUS_BUSY = false → s.dramless = false → s.thim.dramFailed = false → s.entBeyond i.toNat = false →
    s.keyBeyond (entId s.tblData) = false → entMethod s.tblData < 5 → entValid (s.dramEnt i.toNat) = false → s.tagSlot (entId s.tblData) = none → s.pinFull i.toNat s.tblData = false →
    (∃ n : Fin 8, bit (s.slotWord (s.bucket1 (entId s.tblData)) n) 63 = false) → (∃ n : Fin 8, bit (s.slotWord (s.bucket2 (entId s.tblData)) n) 63 = false) →
    ∃ t, exec (.strmTblInsert r 0 i false) s = .next t ∧ t.dramEnt i.toNat = s.tblData ∧ t.strm.tblCode = 0 ∧ s.SameFlds t tblCmdFlds) ∧
  (∀ i : BitVec 24, s.Grants r true .STRM_TBL_CMD 0 0 → s.on .STRM_TBL_STATUS_BUSY = false → s.dramless = false → s.thim.dramFailed = false → s.entBeyond i.toNat = false →
    s.keyBeyond (entId s.tblData) = false → entMethod s.tblData < 5 → entValid (s.dramEnt i.toNat) = true → ∃ t, exec (.strmTblInsert r 0 i false) s = .next t ∧
      t.strm = { s.strm with tblCode := 2, tblIdx := 0 } ∧ s.SameFlds t tblCmdFlds ∧ s.SameMem t) ∧
  (∀ (i : BitVec 24) (k old : Nat), s.Grants r true .STRM_TBL_CMD 0 0 → s.on .STRM_TBL_STATUS_BUSY = false → s.dramless = false → s.thim.dramFailed = false →
    s.keyBeyond (entId s.tblData) = false → entMethod s.tblData < 5 → s.findKey (entId s.tblData) = some (k, old) →
    (s.pinFull k (updated old s.tblData) = false → ∃ t, exec (.strmTblUpdate r 0 i false) s = .next t ∧ t.dramEnt k = updated old s.tblData ∧ t.strm.tblCode = 0 ∧ s.SameFlds t tblCmdFlds) ∧
    (s.pinFull k (pinned old s.tblData) = false → ∃ t, exec (.strmTblPin r 0 i false) s = .next t ∧ t.dramEnt k = pinned old s.tblData ∧ t.strm.tblCode = 0 ∧ s.SameFlds t tblCmdFlds) ∧
    (s.pinFull k (unpinned old) = false → ∃ t, exec (.strmTblUnpin r 0 i false) s = .next t ∧ t.dramEnt k = unpinned old ∧ t.strm.tblCode = 0 ∧ s.SameFlds t tblCmdFlds) ∧
    (∃ t, exec (.strmTblDelete r 0 i false) s = .next t ∧ entValid (t.dramEnt k) = false ∧ t.strm.tblCode = 0 ∧
      (∀ b n, s.tagSlot (entId s.tblData) = some (b, n) → s.slotAddr b n + 8 ≤ s.entAddr k ∨ s.entAddr k + 64 ≤ s.slotAddr b n → t.slotWord b n = 0) ∧ s.SameFlds t tblCmdFlds) ∧
    (∃ t, exec (.strmTblLookup r 0 i false) s = .next t ∧ t.tblData = old ∧ t.strm.tblIdx = k ∧ t.strm.tblCode = 0 ∧ s.SameFlds t (tblCmdFlds ++ tblDataFlds) ∧ s.SameMem t)) ∧
  (∀ i : BitVec 24, s.Grants r true .STRM_TBL_CMD 0 0 → s.on .STRM_TBL_STATUS_BUSY = false → s.dramless = false → s.thim.dramFailed = false → s.keyBeyond (entId s.tblData) = false →
    entMethod s.tblData < 5 → s.findKey (entId s.tblData) = none → ∃ t, exec (.strmTblLookup r 0 i false) s = .next t ∧ t.strm.tblCode = 1 ∧ s.SameFlds t tblCmdFlds ∧ s.SameMem t) ∧
  (∀ (tb : Fin 8) (i : BitVec 24), s.Grants r true .STRM_TBL_CMD 0 0 → s.on .STRM_TBL_STATUS_BUSY = false → tb ≠ 0 → ∃ t, exec (.strmTblLookup r tb i false) s = .next t ∧
    t.strm.tblCode = 7 ∧ s.SameFlds t tblCmdFlds ∧ s.SameMem t) ∧
  (s.dev ≠ .off → s.on .STRM_TBL_STATUS_BUSY = true → ∃ t, exec .strmTblComplete s = .next t ∧ t.on .STRM_TBL_STATUS_BUSY = false ∧ t.fld .STRM_TBL_STATUS_CODE = s.strm.tblCode % 16 ∧
    t.fld .STRM_TBL_STATUS_INDEX = s.strm.tblIdx % 2 ^ 24 ∧ t.on .STRM_EVENT_TBL_DONE = true ∧
    (s.dev ≠ .shadow → t.pair = s.pair) ∧
    s.SameFlds t [(.STRM_TBL_STATUS_BUSY, 0), (.STRM_TBL_STATUS_CODE, 0), (.STRM_TBL_STATUS_INDEX, 0), (.STRM_EVENT_TBL_DONE, 0), (.MEND_EVENT_MIRROR_STALE, 0)] ∧ s.SameMem t)

/-- The Stream Cache's upkeep (R107, R122, R129, R565): HASH_SEED takes a value while STRM is stopped and no stream is configured, and every copy leaves the slices; otherwise it is refused; negative entries whose life has ended are
gone and no other way is; a lost entry is reloaded from the Stream Table; the windows of CTRL_LIMIT that have ended begin again. Ingress gate lists and the meter sweep (R133 to R135, R141): a COMMIT that passes its checks makes
its switch pending at the first cycle start at least 128 µs later, and one while a switch is pending is refused with CHANGE_REFUSED and code 9; a STOP lets a running list end at its next cycle start; the switch at its time
exchanges the banks; an interval start drops the octet counts that no waiting frame can meet of the gates that follow the list; with a STOP pending, a new switch moves it to the cycle start that the list then has next; the sweep
brings every meter record up to the present time. -/
def Obligations.CacheGatesAndMeters : Prop :=
  (∀ s : State, s.Overlock →
  (∀ (r : Req) (v : BitVec 64), s.Grants r true .STRM_HASH_SEED 0 0 → s.on .STRM_CTRL_RUN = false → s.tableEmpty = true → ∃ t, exec (.hashSeedWrite r v) s = .next t ∧
    t.fld .STRM_HASH_SEED_SEED1 = v.toNat % 2 ^ 32 ∧ t.fld .STRM_HASH_SEED_SEED2 = v.toNat / 2 ^ 32 ∧ t.strm.slice = [] ∧
    s.SameFlds t [(.STRM_HASH_SEED_SEED1, 0), (.STRM_HASH_SEED_SEED2, 0)] ∧ s.SameMem t) ∧
  (∀ (r : Req) (v : BitVec 64), s.Grants r true .STRM_HASH_SEED 0 0 → s.on .STRM_CTRL_RUN = true ∨ s.tableEmpty = false → ∃ t, exec (.hashSeedWrite r v) s = .next t ∧
    t.on .STRM_EVENT_CHANGE_REFUSED = true ∧ t.strm = s.strm ∧ s.SameFlds t [(.STRM_EVENT_CHANGE_REFUSED, 0)] ∧ s.SameMem t) ∧
  (s.dev ≠ .off → ∃ t, exec .negEntryExpiry s = .next t ∧ (∀ e ∈ t.strm.slice, ∀ w ∈ e.2, w.kind = .negative → s.lNow < w.ends) ∧
    (∀ e ∈ s.strm.slice, ∀ w ∈ e.2, w.kind ≠ .negative ∨ s.lNow < w.ends → ∃ l, (e.1, l) ∈ t.strm.slice ∧ w ∈ l) ∧ s.SameFlds t [] ∧ s.SameMem t) ∧
  (∀ (b : Bolt) (k : Fin 4096), s.dev ≠ .off → s.dramless = false → ∃ t, exec (.cacheEntryReload b k) s = .next t ∧ (∀ w ∈ t.ways b k, w.kind ≠ .lost) ∧
    (∀ w ∈ s.ways b k, w.kind = .lost → ∃ x ∈ t.ways b k, x.kind = .entry ∧ x.idx = w.idx ∧ x.ent = s.dramEnt w.idx) ∧ (∀ w ∈ s.ways b k, w.kind ≠ .lost → w ∈ t.ways b k) ∧
    s.SameFlds t [] ∧ s.SameMem t) ∧
  (s.dev ≠ .off → ∃ t, exec .ctrlLimitWindowEnd s = .next t ∧ (∀ p : Port, (t.pt p).ctrlWin = s.ctrlWindow ∧
    (t.pt p).ctrlCount = if (s.pt p).ctrlWin = s.ctrlWindow then (s.pt p).ctrlCount else 0) ∧ s.SameFlds t [] ∧ s.SameMem t)) ∧
  (∀ (s : State) (l : Fin 4096), s.Overlock →
  (∀ r : Req, s.Grants r true .STRM_TBL_CMD 0 0 → s.on .STRM_TBL_STATUS_BUSY = false → (s.igl l).tsw = none → (s.igl l).stopAt = none → bits s.tblData 127 96 ≤ 999999999 → bit s.tblData 47 = false →
    ((s.igl l).running = false ∨ bits s.tblData 61 59 = (s.igl l).dom) → s.iglBad (iglOf (s.igl l) s.tblData) = false → ∃ t, exec (.ingressGateCommit r l) s = .next t ∧
      t.igl l = { iglOf (s.igl l) s.tblData with
        tsw := some (switchTime (s.voted (bits s.tblData 61 59)) (timeOf (bits s.tblData 175 128) (bits s.tblData 127 96) 0) (bits s.tblData 95 64 * nsT)) } ∧
      t.strm.tblCode = 0 ∧ (∀ k, k ≠ l.val → t.igl k = s.igl k) ∧ s.SameFlds t tblCmdFlds ∧ s.SameMem t) ∧
  (∀ r : Req, s.Grants r true .STRM_TBL_CMD 0 0 → s.on .STRM_TBL_STATUS_BUSY = false → (s.igl l).tsw.isSome = true → bits s.tblData 127 96 ≤ 999999999 →
    ∃ t, exec (.ingressGateCommit r l) s = .next t ∧ t.strm = { s.strm with tblCode := 9, tblIdx := 0 } ∧ t.on .STRM_EVENT_CHANGE_REFUSED = true ∧
      s.SameFlds t (tblCmdFlds ++ [(.STRM_EVENT_CHANGE_REFUSED, 0)]) ∧ s.SameMem t) ∧
  (∀ (r : Req) (c : Cyc), s.Grants r true .STRM_TBL_CMD 0 0 → s.on .STRM_TBL_STATUS_BUSY = false → (s.igl l).tsw = none → (s.igl l).stopAt = none → (s.igl l).running = true →
    bits s.tblData 127 96 ≤ 999999999 → bit s.tblData 63 = false → bits s.tblData 61 59 = (s.igl l).dom → (iglOf (s.igl l) s.tblData).sched.cycleAt (s.voted (s.igl l).dom) = some c →
    ∃ t, exec (.ingressGateStop r l) s = .next t ∧ (t.igl l).running = true ∧ (t.igl l).stopAt = some c.stop ∧ t.strm.tblCode = 0 ∧ s.SameFlds t tblCmdFlds ∧ s.SameMem t) ∧
  (∀ n : Nat, s.dev ≠ .off → (s.igl l).tsw = some n → n ≤ s.voted (s.igl l).dom → (s.igl l).stopAt = none → ∃ t, exec (.ingressGateSwitch l) s = .next t ∧ (t.igl l).running = true ∧
    (t.igl l).bank = 1 - (s.igl l).bank ∧ (t.igl l).tsw = none ∧ (t.igl l).operLen = (s.igl l).adminLen ∧ (t.igl l).operBase = timeOf (s.igl l).baseSec (s.igl l).baseNs 0 ∧
    (t.igl l).operCycle = (s.igl l).cycle * nsT ∧ s.SameFlds t [] ∧ s.SameMem t) ∧
  (∀ (c : Cyc) (x : Span), s.dev ≠ .off → (s.igl l).tsw = none → (s.igl l).stopAt = none → (s.igl l).spanAt (s.voted (s.igl l).dom) = some (c, x) →
    ∃ t, exec (.ingressGateInterval l) s = .next t ∧ (∀ e ∈ t.strm.oct, bits (s.strm.gate.get 0 e.1) 63 52 = l.val →
        ∀ n ∈ e.2, x.start ≤ n.1 + (1000000 * nsT : Nat)) ∧ (∀ e ∈ s.strm.oct, e.2 ≠ [] → bits (s.strm.gate.get 0 e.1) 63 52 ≠ l.val → e ∈ t.strm.oct) ∧ s.SameFlds t [] ∧ s.SameMem t) ∧
  (s.dev ≠ .off → ∃ t, exec .meterSweep s = .next t ∧ t.strm.swept = s.lNs ∧
    (∀ (m v : Nat), s.strm.meter.get none m = some v →
      t.strm.meter.get none m = some (meterPut v (meterFill v s.lNs).1 (meterFill v s.lNs).2.1 (meterFill v s.lNs).2.2)) ∧ s.SameFlds t [] ∧ s.SameMem t) ∧
  (∀ (r : Req) (u : Nat) (y : IglSt), s.Grants r true .STRM_TBL_CMD 0 0 → s.on .STRM_TBL_STATUS_BUSY = false → (s.igl l).tsw = none → (s.igl l).stopAt = some u → s.voted (bits s.tblData 61 59) < u →
    bits s.tblData 127 96 ≤ 999999999 → bit s.tblData 47 = false → ((s.igl l).running = false ∨ bits s.tblData 61 59 = (s.igl l).dom) → s.iglBad (iglOf (s.igl l) s.tblData) = false →
    y = { iglOf (s.igl l) s.tblData with
      tsw := some (switchTime (s.voted (bits s.tblData 61 59)) (timeOf (bits s.tblData 175 128) (bits s.tblData 127 96) 0) (bits s.tblData 95 64 * nsT)) } →
    ∃ t, exec (.ingressGateCommit r l) s = .next t ∧ t.igl l = { y with stopAt := (y.sched.cycleAt (s.voted (bits s.tblData 61 59))).map (·.stop) } ∧
      t.strm.tblCode = 0 ∧ s.SameFlds t tblCmdFlds ∧ s.SameMem t))

/-- Reception (R101, R111, R114, R117, R182, R186, R280, R282): a frame at a port that is not UP is counted as such and goes no further; a valid frame is counted, and where no key is formed and no meter set it goes unmatched to the
port's default queue, which takes it where R186 admits it; an obeyed PAUSE frame sets the pause of every class that is not gate-scheduled for its quanta, and binds starts from 256 ns on; a control frame beyond CTRL_LIMIT is
discarded and counted; with STRM stopped a frame is discarded and counted against step 3. -/
def Obligations.Reception : Prop := ∀ (s : State) (p : Port) (d : List Byte) (cache : CacheErr) (mend : MendErr) (rx : RxMeet), s.Overlock → s.alive = true → multidrop p = false →
  (∀ fcs code ttdp : Bool, s.linkState p ≠ 6 → ∃ t, exec (.frameReceived p d fcs code ttdp cache mend rx) s = .next t ∧ t.ctr (portWord p 6) = ctrAdd (s.ctr (portWord p 6)) 1 ∧
    t.queue = s.queue ∧ t.strm = s.strm ∧ s.SameFlds t [] ∧ s.SameMem t) ∧
  (∀ ttdp : Bool, s.linkState p = 6 → 60 ≤ d.length → d.length + 4 ≤ max 64 (min 9216 (s.fld .MAC_CFG_MAX_LEN p)) → ∃ t,
    exec (.frameReceived p d false true ttdp cache mend rx) s = .next t ∧ t.ctr (portWord p 2) = ctrAdd (s.ctr (portWord p 2)) 1 ∧ t.queue = s.queue ∧ t.strm = s.strm ∧
    s.SameFlds t [] ∧ s.SameMem t) ∧
  (∀ (a : Acct) (q : Nat), s.linkState p = 6 → 60 ≤ d.length → d.length + 4 ≤ max 64 (min 9216 (s.fld .MAC_CFG_MAX_LEN p)) → (parse d).etype ≠ 0x8808 →
    s.toService p d false = false → s.on .STRM_CTRL_RUN = true → s.on .STRM_PORT_ID_CFG_A_EN p = false → s.on .STRM_PORT_ID_CFG_B_EN p = false →
    s.on .STRM_PORT_DEFAULT_METER_EN p = false → s.hsrOwn p d = false → bits (s.fld .STRM_PORT_DEFAULT_DEST p) 15 14 = 0 →
    q = bits (s.fld .STRM_PORT_DEFAULT_DEST p) 10 4 * 128 + s.defaultTc p d * 16 + bits (s.fld .STRM_PORT_DEFAULT_DEST p) 3 0 →
    s.admitTest q (cellsOf (d.length + 4)) (s.fld .STRM_PORT_DEFAULT_DP p) false = (.admitted, a) → ∃ (t : State) (fr : FrameRec),
      exec (.frameReceived p d true true false cache mend rx) s = .next t ∧ (t.qu q).frames = (s.qu q).frames ++ [fr] ∧ fr.data = d ∧ fr.q = q ∧ fr.acct = a ∧
      fr.dp = s.fld .STRM_PORT_DEFAULT_DP p ∧ (t.qu q).cells = (s.qu q).cells + cellsOf (d.length + 4) ∧ (∀ k, k ≠ q → t.qu k = s.qu k) ∧
      t.ctr (portWord p 0) = ctrAdd (s.ctr (portWord p 0)) 1 ∧ t.ctr (portWord p 12) = ctrAdd (s.ctr (portWord p 12)) 1 ∧ s.SameFlds t [] ∧ s.SameMem t) ∧
  (∀ c : Fin 8, s.linkState p = 6 → 60 ≤ d.length → d.length + 4 ≤ max 64 (min 9216 (s.fld .MAC_CFG_MAX_LEN p)) → (parse d).etype = 0x8808 → beNat (slice d 0 6) = 0x0180C2000001 →
    be16 d (typeOff d + 2) = 1 → s.pauseRxOk p = true → 0 < be16 d (typeOff d + 4) → s.isSched p c = false → s.isPc p d = false → ∃ t,
      exec (.frameReceived p d true true false cache mend rx) s = .next t ∧ (t.pt p).mac.pauseEnd.get 0 c = s.lNow + s.wireT p (64 * be16 d (typeOff d + 4)) ∧
      (s.pauseRuns p c = false → (t.pt p).mac.pauseBind.get 0 c = s.lNow + 256 * nsT) ∧
      t.ctr (portWord p 7) = ctrAdd (s.ctr (portWord p 7)) 1 ∧ s.SameFlds t [] ∧ s.SameMem t) ∧
  (s.linkState p = 6 → 60 ≤ d.length → d.length + 4 ≤ max 64 (min 9216 (s.fld .MAC_CFG_MAX_LEN p)) → (parse d).etype ≠ 0x8808 → s.toService p d false = true →
    s.fld .STRM_PORT_ID_CFG_CTRL_LIMIT p ≤ (if (s.pt p).ctrlWin = s.ctrlWindow then (s.pt p).ctrlCount else 0) → ∃ t,
      exec (.frameReceived p d true true false cache mend rx) s = .next t ∧ t.ctr (portWord p 10) = ctrAdd (s.ctr (portWord p 10)) 1 ∧ (t.pt p).ctrlCount = (s.pt p).ctrlCount ∧
      t.queue = s.queue ∧ t.strm = s.strm ∧ s.SameFlds t [] ∧ s.SameMem t) ∧
  (s.linkState p = 6 → 60 ≤ d.length → d.length + 4 ≤ max 64 (min 9216 (s.fld .MAC_CFG_MAX_LEN p)) → (parse d).etype ≠ 0x8808 → s.toService p d false = false →
    s.on .STRM_CTRL_RUN = false → ∃ t, exec (.frameReceived p d true true false cache mend rx) s = .next t ∧ t.ctr (portWord p 0) = ctrAdd (s.ctr (portWord p 0)) 1 ∧
      t.tape.noWord.get 0 (256 * 3 + (FrameSrc.port p).code) = s.tape.noWord.get 0 (256 * 3 + (FrameSrc.port p).code) + 1 ∧ t.queue = s.queue ∧ t.strm = s.strm ∧
      s.SameFlds t [] ∧ s.SameMem t)

/-- Identified frames and misses (R110, R112, R114, R117, R127, R128, R131, R132, R136): a frame whose key hits in its Bolt's slice, with no gate, meter, function or generator, goes to its entry's queue with the entry's class, and one
whose gate is closed for good is discarded and counted; one whose entry is being filled in joins Miss Wait behind the frames that wait on its key; a lookup that ends with an entry releases the frame with it in the same way; a
lookup that fails discards the frames that wait for it, counted, with DRAM_ERR and a Degraded fault. -/
def Obligations.IdentifiedAndMissedFrames : Prop := ∀ (s : State) (p : Port) (lanes : LaneSent) (rx : RxMeet), s.Overlock → s.alive = true → multidrop p = false → s.on .STRM_CTRL_RUN = true →
  (∀ (d : List Byte) (k : Nat × Nat) (i e : Nat) (a : Acct) (q : Nat), s.linkState p = 6 → 60 ≤ d.length → d.length + 4 ≤ max 64 (min 9216 (s.fld .MAC_CFG_MAX_LEN p)) →
    (parse d).etype ≠ 0x8808 → s.toService p d false = false → s.keysOf p d = ([k], false) → (s.lookup1 (boltOf p) k).1 = .found i e → s.filling (boltOf p) e = false → s.hsrOwn p d = false →
    bit e 501 = false → bit e 502 = false → bit e 503 = false → bit e 504 = false → bit e 506 = false → bits e 429 428 = 0 → s.mend.waiting = [] →
    q = bits e 424 418 * 128 + bits e 413 411 * 16 + bits e 417 414 → s.admitTest q (cellsOf (d.length + 4)) (bits e 379 378) false = (.admitted, a) → ∃ (t : State) (fr : FrameRec),
      exec (.frameReceived p d true true false .none .none rx) s = .next t ∧ (t.qu q).frames = (s.qu q).frames ++ [fr] ∧ fr.data = d ∧ fr.stream = some i ∧ fr.acct = a ∧
      fr.dp = bits e 379 378 ∧ (∀ k, k ≠ q → t.qu k = s.qu k) ∧ t.ctr (boltWord (boltOf p) 8) = ctrAdd (s.ctr (boltWord (boltOf p) 8)) 1 ∧ s.SameFlds t [] ∧ s.SameMem t) ∧
  (∀ (d : List Byte) (k : Nat × Nat) (i e : Nat), s.linkState p = 6 → 60 ≤ d.length → d.length + 4 ≤ max 64 (min 9216 (s.fld .MAC_CFG_MAX_LEN p)) →
    (parse d).etype ≠ 0x8808 → s.toService p d false = false → s.keysOf p d = ([k], false) → (s.lookup1 (boltOf p) k).1 = .found i e → s.filling (boltOf p) e = false → bit e 501 = true →
    bits (s.strm.gate.get 0 (bits e 481 466)) 51 36 = 0 → bit (s.strm.gate.get 0 (bits e 481 466)) 34 = false → bit (s.strm.gate.get 0 (bits e 481 466)) 32 = true →
    ∃ t, exec (.frameReceived p d true true false .none .none rx) s = .next t ∧ t.ctr (portWord p 18) = ctrAdd (s.ctr (portWord p 18)) 1 ∧ t.queue = s.queue ∧ t.hif = s.hif ∧
      s.SameFlds t [] ∧ s.SameMem t) ∧
  (∀ (m : Missed) (i e : Nat) (a : Acct) (q : Nat), s.strm.wait = [m] → m.got = [] → m.a.p = p.val → s.thim.dramFailed = false → (∀ k ∈ m.keys, s.keyBeyond k = false) →
    (m.keys.findSome? fun k => s.missFind k) = some (i, e) → s.hsrOwn p m.a.data = false → bit e 501 = false → bit e 502 = false → bit e 503 = false → bit e 504 = false → bit e 506 = false →
    bits e 429 428 = 0 → s.mend.waiting = [] → q = bits e 424 418 * 128 + bits e 413 411 * 16 + bits e 417 414 →
    s.admitTest q (cellsOf (m.a.data.length + 4)) (bits e 379 378) false = (.admitted, a) → ∃ (t : State) (fr : FrameRec), exec (.missLookupComplete none .none lanes) s = .next t ∧
      t.strm.wait = [] ∧ (t.qu q).frames = (s.qu q).frames ++ [fr] ∧ fr.data = m.a.data ∧ fr.stream = some i ∧ t.ctr (devWord 0) = ctrAdd (s.ctr (devWord 0)) 1 ∧
      s.SameFlds t [] ∧ s.SameMem t) ∧
  (∀ (m : Missed) (j : Fin 2) (k : Nat × Nat), s.strm.wait = [m] → m.got = [] → m.keys[j.val]? = some k → ∃ t, exec (.missLookupComplete (some j) .none lanes) s = .next t ∧ t.strm.wait = [] ∧ t.queue = s.queue ∧ t.on .STRM_EVENT_DRAM_ERR = true ∧
    t.ctr (devWord 2) = ctrAdd (s.ctr (devWord 2)) 1 ∧ t.ctr (devWord 3) = ctrAdd (s.ctr (devWord 3)) 1 ∧ t.dev = s.dev ∧
    s.SameFlds t ((.STRM_EVENT_DRAM_ERR, 0) :: faultFlds) ∧ s.SameMem t) ∧
  (∀ (d : List Byte) (k : Nat × Nat) (i e : Nat), s.linkState p = 6 → 60 ≤ d.length → d.length + 4 ≤ max 64 (min 9216 (s.fld .MAC_CFG_MAX_LEN p)) →
    (parse d).etype ≠ 0x8808 → s.toService p d false = false → s.keysOf p d = ([k], false) → (s.lookup1 (boltOf p) k).1 = .found i e → s.filling (boltOf p) e = true →
    s.missCells + cellsOf (d.length + 4) + s.fld .STRM_MISS_CFG_RSV_CELLS ≤ 16384 → ∃ (t : State) (m : Missed), exec (.frameReceived p d true true false .none .none rx) s = .next t ∧
      t.strm.wait = s.strm.wait ++ [m] ∧ m.a.data = d ∧ m.a.p = p.val ∧ m.result = some (some (i, e)) ∧ t.queue = s.queue ∧ s.SameFlds t [(.STRM_MISS_STATUS_HIGH_WATER, 0)] ∧ s.SameMem t)

/-- The Seam (R267, R268): a first fragment begins an assembly; a continuation in order with a good mCRC and enough bytes is added to it, and one out of order ends it, counted; with pre-emption disabled an SMD is discarded; an
assembly without a continuation for 1 ms is discarded. -/
def Obligations.SeamAssembly : Prop := ∀ (s : State) (p : Port) (bytes : List Byte) (ttdp : Bool) (lanes : LaneSent) (cache : CacheErr) (mend : MendErr), s.Overlock → s.alive = true → multidrop p = false →
  (s.linkState p = 6 → s.on .SELV_PREEMPT_CFG_EN p = true → (s.pt p).seam = none → 60 ≤ bytes.length → bytes.length ≤ 9212 → ∃ (t : State) (x : SeamSt),
    exec (.seamFragment p true 0 bytes false true ttdp cache mend lanes) s = .next t ∧ (t.pt p).seam = some x ∧ x.bytes = bytes ∧ x.lastL = s.lNow ∧
    t.on .SELV_PREEMPT_STATUS_SEAM_BUSY p = true ∧ t.ctr (portWord p 24) = ctrAdd (s.ctr (portWord p 24)) 1 ∧ s.SameFlds t [(.SELV_PREEMPT_STATUS_SEAM_BUSY, p)] ∧ s.SameMem t) ∧
  (∀ (x : SeamSt) (n : Fin 4), s.linkState p = 6 → s.on .SELV_PREEMPT_CFG_EN p = true → (s.pt p).seam = some x → n.val = (x.count + 1) % 4 → 60 ≤ bytes.length →
    x.bytes.length + bytes.length ≤ 9212 → ∃ t, exec (.seamFragment p false n bytes false true ttdp cache mend lanes) s = .next t ∧
      (t.pt p).seam = some { x with bytes := x.bytes ++ bytes, count := n, lastL := s.lNow } ∧ s.SameFlds t [] ∧ s.SameMem t) ∧
  (∀ (x : SeamSt) (n : Fin 4) (last crc : Bool), s.linkState p = 6 → s.on .SELV_PREEMPT_CFG_EN p = true → (s.pt p).seam = some x → n.val ≠ (x.count + 1) % 4 →
    ∃ t, exec (.seamFragment p false n bytes last crc ttdp cache mend lanes) s = .next t ∧ (t.pt p).seam = none ∧ t.on .SELV_EVENT_SEAM_ERR p = true ∧
      t.ctr (portWord p 26) = ctrAdd (s.ctr (portWord p 26)) 1 ∧ s.SameFlds t [(.SELV_PREEMPT_STATUS_SEAM_BUSY, p), (.SELV_EVENT_SEAM_ERR, p)] ∧ s.SameMem t) ∧
  (∀ (start last crc : Bool) (n : Fin 4), s.linkState p = 6 → s.on .SELV_PREEMPT_CFG_EN p = false → ∃ t, exec (.seamFragment p start n bytes last crc ttdp cache mend lanes) s = .next t ∧
    t.port = s.port ∧ t.on .SELV_EVENT_SEAM_ERR p = true ∧ t.ctr (portWord p 25) = ctrAdd (s.ctr (portWord p 25)) 1 ∧ s.SameFlds t [(.SELV_EVENT_SEAM_ERR, p)] ∧ s.SameMem t) ∧
  (∀ x : SeamSt, (s.pt p).seam = some x → x.lastL + 1000000 * nsT ≤ s.lNow → ∃ t, exec (.seamTimeout p) s = .next t ∧ (t.pt p).seam = none ∧
    t.on .SELV_PREEMPT_STATUS_SEAM_BUSY p = false ∧ t.on .SELV_EVENT_SEAM_ERR p = true ∧ t.ctr (portWord p 32) = ctrAdd (s.ctr (portWord p 32)) 1 ∧
    s.SameFlds t [(.SELV_PREEMPT_STATUS_SEAM_BUSY, p), (.SELV_EVENT_SEAM_ERR, p)] ∧ s.SameMem t)

/-! ## The Mender (chapter 05) -/

/-- No recovery function passes a number a second time in a row (R152, R153): whatever its state, a number that it has just let pass it finds a duplicate when it comes again. -/
def Obligations.NoNumberPassesTwice : Prop := ∀ (x : Rcv) (n lost : Nat) (ooo : Bool) (y : Rcv), n < 2 ^ 16 → x.recov < 2 ^ 16 → x.judge n = (.pass lost ooo, y) →
  y.judge n = (.duplicate, y)

/-- Mender table operations (R151, R158, R160, R179, R557): a command while one is in progress is ignored with TBL_COLLIDE; READ shows the record; a WRITE of a function resets it to the configuration written, is refused with code 7
where its latent-error fields are not consistent, and leaves the function as it was; a WRITE of a generator stores the record, its reserved bits as 0, unless its mode is reserved; RESET keeps the configuration and lets the next
number pass; completion shows the code; a read of LAT_LOG answers and removes the oldest report and clears OVF. -/
def Obligations.MenderTableOperations : Prop := ∀ (s : State) (r : Req) (i : BitVec 18), s.Overlock →
  (∀ tb : Fin 8, s.Grants r true .MEND_TBL_CMD 0 0 → s.on .MEND_TBL_STATUS_BUSY = true → ∃ t, exec (.mendTblRead r tb i) s = .next t ∧ t.on .MEND_EVENT_TBL_COLLIDE = true ∧
    t.mend = s.mend ∧ s.SameFlds t [(.MEND_EVENT_TBL_COLLIDE, 0)] ∧ s.SameMem t) ∧
  (s.Grants r true .MEND_TBL_CMD 0 0 → s.on .MEND_TBL_STATUS_BUSY = false → ∃ t, exec (.mendTblRead r 0 i) s = .next t ∧ t.mTblData = s.rcvRecord i.toNat % 2 ^ 512 ∧
    t.mend = { s.mend with tblCode := 0 } ∧ s.SameFlds t (mTblCmdFlds ++ mTblDataFlds) ∧ s.SameMem t) ∧
  (s.Grants r true .MEND_TBL_CMD 0 0 → s.on .MEND_TBL_STATUS_BUSY = false → rcvBad (bits s.mTblData 511 436) = false → ∃ t, exec (.mendTblWrite r 0 i) s = .next t ∧
    (t.rcv i.toNat).cfg = bits s.mTblData 511 436 ∧ (t.rcv i.toNat).takeAny = true ∧ (t.rcv i.toNat).hist = 0 ∧ (t.rcv i.toNat).latPass = 0 ∧ (t.rcv i.toNat).latDisc = 0 ∧
    t.isStale 0 i.toNat = false ∧ (∀ k, k ≠ i.toNat → t.rcv k = s.rcv k) ∧ t.mend.gen = s.mend.gen ∧ t.mend.tblCode = 0 ∧ s.SameFlds t mTblCmdFlds ∧ s.SameMem t) ∧
  (s.Grants r true .MEND_TBL_CMD 0 0 → s.on .MEND_TBL_STATUS_BUSY = false → rcvBad (bits s.mTblData 511 436) = true → ∃ t, exec (.mendTblWrite r 0 i) s = .next t ∧
    t.mend = { s.mend with tblCode := 7 } ∧ s.SameFlds t mTblCmdFlds ∧ s.SameMem t) ∧
  (s.Grants r true .MEND_TBL_CMD 0 0 → s.on .MEND_TBL_STATUS_BUSY = false → bits s.mTblData 126 125 ≠ 3 → ∃ t, exec (.mendTblWrite r 1 i) s = .next t ∧
    (t.gen i.toNat).word = bits s.mTblData 127 106 * 2 ^ 106 + s.mTblData % 2 ^ 48 ∧ (∀ k, k ≠ i.toNat → t.gen k = s.gen k) ∧ t.mend.rcv = s.mend.rcv ∧ t.mend.tblCode = 0 ∧ s.SameFlds t mTblCmdFlds ∧ s.SameMem t) ∧
  (s.Grants r true .MEND_TBL_CMD 0 0 → s.on .MEND_TBL_STATUS_BUSY = false → ∃ t, exec (.mendTblReset r 0 i) s = .next t ∧ (t.rcv i.toNat).cfg = (s.rcv i.toNat).cfg ∧
    (t.rcv i.toNat).takeAny = true ∧ (t.rcv i.toNat).hist = 0 ∧ (∀ k, k ≠ i.toNat → t.rcv k = s.rcv k) ∧ s.SameFlds t mTblCmdFlds ∧ s.SameMem t) ∧
  (s.Grants r true .MEND_TBL_CMD 0 0 → s.on .MEND_TBL_STATUS_BUSY = false → ∃ t, exec (.mendTblReset r 1 i) s = .next t ∧ t.mend = { s.mend with tblCode := 7 } ∧ s.SameFlds t mTblCmdFlds ∧
    s.SameMem t) ∧
  (s.dev ≠ .off → s.on .MEND_TBL_STATUS_BUSY = true → ∃ t, exec .mendTblComplete s = .next t ∧ t.on .MEND_TBL_STATUS_BUSY = false ∧ t.fld .MEND_TBL_STATUS_CODE = s.mend.tblCode % 16 ∧
    t.on .MEND_EVENT_TBL_DONE = true ∧ s.SameFlds t [(.MEND_TBL_STATUS_BUSY, 0), (.MEND_TBL_STATUS_CODE, 0), (.MEND_EVENT_TBL_DONE, 0)] ∧ s.SameMem t) ∧
  (s.Grants r false .MEND_LAT_LOG 0 0 → ∃ t, exec (.latLogRead r) s = .next t ∧ t.mend = { s.mend with latLog := s.mend.latLog.tail, latOvf := false } ∧
    t.out = s.out ++ [.reply r.num s.latLogRead.1] ∧ s.SameFlds t [] ∧ s.SameMem t)

/-- Timeouts, latent errors and mirroring (R155, R158, R159, R173, R174, R176): a function whose RESET_MS has passed takes any number, when its timeout comes or the sweep visits it; a test that finds more than LAT_DIFF reports, one
that does not reports nothing, and a reset takes the present difference as its base; a mirror record is applied by the Shadow once; the Lead sends the state of every Lead-only function and generator and the list of every mirrored
port; a snapshot entry is taken over and is stale no more; the end of role lets waiting frames go. -/
def Obligations.MenderTimesAndMirrors : Prop := ∀ (s : State) (i : BitVec 18), s.Overlock → s.dev ≠ .off →
  (s.rcvDue (s.rcv i.toNat) = true → ∃ t, exec (.recoveryResetTimeout i) s = .next t ∧ t.rcv i.toNat = { s.rcv i.toNat with takeAny := true, hist := 0 } ∧
    t.ctr (devWord 22) = ctrAdd (s.ctr (devWord 22)) 1 ∧ (∀ k, k ≠ i.toNat → t.rcv k = s.rcv k) ∧ s.SameFlds t [] ∧ s.SameMem t) ∧
  (s.rcvDue (s.rcv i.toNat) = false → ∃ t, exec (.recoveryResetTimeout i) s = .next t ∧ t.mend = s.mend ∧ t.tape = s.tape ∧ s.SameFlds t [] ∧ s.SameMem t) ∧
  (∃ t, exec .menderSweep s = .next t ∧ (∀ k, s.rcvDue (s.rcv k) = true → (t.rcv k).takeAny = true ∧ (t.rcv k).hist = 0) ∧
    (∀ k, s.rcvDue (s.rcv k) = false → (s.rcv k).latEn = false → t.rcv k = s.rcv k) ∧ t.dev = s.dev ∧ s.SameFlds t ((.MEND_EVENT_LATENT, 0) :: faultFlds) ∧ s.SameMem t) ∧
  ((s.rcv i.toNat).latEn = true → s.latR (s.rcv i.toNat) < (s.rcv i.toNat).latReset → (s.rcv i.toNat).latPeriod ≤ s.latT (s.rcv i.toNat) →
    (s.rcv i.toNat).latDiff < (toSigned 32 (ofSigned 32 (((s.rcv i.toNat).latBase : Int) - (s.rcv i.toNat).latNow))).natAbs → s.mend.latLog.length < 16 →
    ∃ t, exec (.latentTest i) s = .next t ∧ t.on .MEND_EVENT_LATENT = true ∧ t.mend.latLog = s.mend.latLog ++ [(i.toNat, s.lMs % 2 ^ 32)] ∧ (t.rcv i.toNat).latT0 = s.lMs ∧
      t.ctr (devWord 23) = ctrAdd (s.ctr (devWord 23)) 1 ∧ t.dev = s.dev ∧ s.SameFlds t ((.MEND_EVENT_LATENT, 0) :: faultFlds) ∧ s.SameMem t) ∧
  ((s.rcv i.toNat).latEn = true → s.latR (s.rcv i.toNat) < (s.rcv i.toNat).latReset → (s.rcv i.toNat).latPeriod ≤ s.latT (s.rcv i.toNat) →
    (toSigned 32 (ofSigned 32 (((s.rcv i.toNat).latBase : Int) - (s.rcv i.toNat).latNow))).natAbs ≤ (s.rcv i.toNat).latDiff → ∃ t, exec (.latentTest i) s = .next t ∧
      t.rcv i.toNat = { s.rcv i.toNat with latT0 := s.lMs } ∧ t.mend.latLog = s.mend.latLog ∧ s.SameFlds t [] ∧ s.SameMem t) ∧
  ((s.rcv i.toNat).latEn = true → (s.rcv i.toNat).latReset ≤ s.latR (s.rcv i.toNat) → ∃ t, exec (.latentReset i) s = .next t ∧
    t.rcv i.toNat = { s.rcv i.toNat with latBase := (s.rcv i.toNat).latNow, latR0 := s.lMs } ∧ (∀ k, k ≠ i.toNat → t.rcv k = s.rcv k) ∧ s.SameFlds t [] ∧ s.SameMem t) ∧
  (∀ (num : BitVec 16) (seq : BitVec 24), s.mirrored = true → seq.toNat ∉ s.mend.seen → ∃ t, exec (.mirrorRecordApply true i num seq) s = .next t ∧
    (t.gen i.toNat).seq = (num.toNat + 1) % 2 ^ 16 ∧ seq.toNat ∈ t.mend.seen ∧ t.mend.rcv = s.mend.rcv ∧ s.SameFlds t [] ∧ s.SameMem t) ∧
  (∀ (num : BitVec 16) (seq : BitVec 24), s.mirrored = true → seq.toNat ∉ s.mend.seen → ∃ t, exec (.mirrorRecordApply false i num seq) s = .next t ∧
    t.rcv i.toNat = (s.rcv i.toNat).merge num.toNat (s.lUs % 2 ^ 32) ∧ t.mend.gen = s.mend.gen ∧ s.SameFlds t [] ∧ s.SameMem t) ∧
  (∀ (g : Bool) (num : BitVec 16) (seq : BitVec 24), seq.toNat ∈ s.mend.seen → ∃ t, exec (.mirrorRecordApply g i num seq) s = .next t ∧ t.mend = s.mend ∧ s.SameFlds t [] ∧ s.SameMem t) ∧
  (s.mirrors = true → ∃ t, exec .mirrorSnapshot s = .next t ∧ (∀ k, (0, k) ∈ s.leadOnly → .pair 8 [0, k, s.rcvState k] ∈ t.out) ∧
    (∀ k, (1, k) ∈ s.leadOnly → .pair 8 [1, k, (s.gen k).seq] ∈ t.out) ∧
    (∀ p ∈ s.mdpLead, .pair 7 (s.operRecord p) ∈ t.out) ∧ s.SameFlds t [] ∧ s.SameMem t) ∧
  (∀ n : BitVec 16, s.mirrored = true → ∃ t, exec (.snapshotApply (.gen i n)) s = .next t ∧ (t.gen i.toNat).seq = n.toNat ∧ t.isStale 1 i.toNat = false ∧
    s.SameFlds t [(.MEND_MIRROR_STATUS_SNAP_BUSY, 0)] ∧ s.SameMem t) ∧
  (∀ v : BitVec 434, s.mirrored = true → ∃ t, exec (.snapshotApply (.func i v)) s = .next t ∧ (t.rcv i.toNat).takeAny = v.getLsbD 433 ∧ (t.rcv i.toNat).recov = bits v.toNat 431 416 ∧
    (t.rcv i.toNat).hist = bits v.toNat 255 0 ∧ (t.rcv i.toNat).cfg = (s.rcv i.toNat).cfg ∧ t.isStale 0 i.toNat = false ∧ s.SameFlds t [(.MEND_MIRROR_STATUS_SNAP_BUSY, 0)] ∧ s.SameMem t) ∧
  (s.mend.waiting = [] → ∃ t, exec .endOfRoleApply s = .next t ∧ t.pair.endOfRole = true ∧ t.mend = s.mend ∧ s.SameFlds t [] ∧ s.SameMem t) ∧
  (∀ (x : LeadWait) (a : Acct) (q : Nat), s.mend.waiting = [x] → s.dev = .lead → s.on .STRM_CTRL_RUN = true → bit x.e 504 = false → bit x.e 503 = false → bits x.e 429 428 = 0 →
    q = bits x.e 424 418 * 128 + x.tc * 16 + bits x.e 417 414 → s.admitTest q x.fr.cells x.fr.dp x.fr.service = (.admitted, a) → ∃ (t : State) (fr : FrameRec),
      exec .endOfRoleApply s = .next t ∧ t.pair.endOfRole = true ∧ t.mend.waiting = [] ∧ (t.qu q).frames = (s.qu q).frames ++ [fr] ∧ fr.data = x.fr.data ∧ s.SameFlds t [] ∧ s.SameMem t) ∧
  (∀ (p : Port) (st : Fin 7) (cycle : BitVec 32) (present drift : BitVec 256), s.dev = .shadow → s.pcState p = 6 → ∃ t, exec (.snapshotApply (.port p st cycle present drift)) s = .next t ∧
    t.fld .MDP_PC_STATUS_CYCLE p = cycle.toNat ∧ t.on .MDP_PC_STATUS_STALE p = false ∧ (t.pt p).mdp.record = some (st == 5, s.lNow) ∧
    s.SameFlds t [(.MDP_PC_PRESENT_NODES, p), (.MDP_PC_DRIFT_NODES, p), (.MDP_PC_STATUS_STALE, p), (.MDP_PC_STATUS_CYCLE, p)] ∧ s.SameMem t)

/-! ## The host interface (chapter 11) -/

/-- Rings (R337, R338, R359, R366, R368, R369): a doorbell of the owner within the ring moves PI; one of another function is ignored and counted; one outside the ring is Fatal in service and latched otherwise; START checks the
configuration; STOP of an idle ring, its end, and RESET of a stopped one; a bus error on a transmit ring completes its descriptor with BUS_ERROR and leaves the ring in ERROR. -/
def Obligations.HostRings : Prop := ∀ (s : State) (r : Req) (ring : Fin 16384), s.Overlock →
  (∀ (pi : BitVec 32) (w : Bool), s.dev ≠ .off → s.present r = true → s.allowed r true 1 (ring.val * 0x40) (if w then 8 else 4) = true → s.foreignPf r ring = false →
    pi.toNat ≠ s.ringPi ring → s.piOk ring pi.toNat = true → ∃ t, exec (.doorbellWrite r ring pi w) s = .next t ∧ t.ringPi ring = pi.toNat ∧
      t.ring ring = { s.ring ring with waitFrom := none } ∧ s.SameFlds t [(.HIF_DOORBELL_PI, ring)] ∧ s.SameMem t) ∧
  (∀ (pi : BitVec 32) (w : Bool), s.dev ≠ .off → s.present r = true → s.allowed r true 1 (ring.val * 0x40) (if w then 8 else 4) = true → s.foreignPf r ring = true →
    ∃ t, exec (.doorbellWrite r ring pi w) s = .next t ∧ t.on .HIF_EVENT_DB_IGNORED = true ∧ t.ctr (devWord (232 + r.num % 8)) = ctrAdd (s.ctr (devWord (232 + r.num % 8))) 1 ∧
      t.hif = s.hif ∧ s.SameFlds t [(.HIF_EVENT_DB_IGNORED, 0)] ∧ s.SameMem t) ∧
  (∀ (pi : BitVec 32) (w : Bool), s.dev ≠ .off → s.present r = true → s.allowed r true 1 (ring.val * 0x40) (if w then 8 else 4) = true → s.foreignPf r ring = false →
    pi.toNat ≠ s.ringPi ring → s.piOk ring pi.toNat = false → s.dev.inService = false → ∃ t, exec (.doorbellWrite r ring pi w) s = .next t ∧ t.on .HIF_EVENT_MALFORMED = true ∧
      t.fld .HIF_RING_STATUS_ERR ring = 2 ∧ t.hif = s.hif ∧
      s.SameFlds t [(.HIF_EVENT_MALFORMED, 0), (.HIF_RING_STATUS_ERR, ring), (.HIF_RING_STATUS_ERR_SEEN, ring), (.HIF_RING_STATUS_ERR_IDX, ring)] ∧ s.SameMem t) ∧
  (∀ (pi : BitVec 32) (w : Bool), s.present r = true → s.allowed r true 1 (ring.val * 0x40) (if w then 8 else 4) = true → s.foreignPf r ring = false →
    pi.toNat ≠ s.ringPi ring → s.piOk ring pi.toNat = false → s.dev.inService = true → ∃ t, exec (.doorbellWrite r ring pi w) s = .next t ∧ t.dev = .failSilent) ∧
  (s.Grants r true .HIF_RING_CTRL ring 0 → s.ringState ring = 0 ∨ s.ringState ring = 3 → s.startBad ring = false → ∃ t, exec (.ringStart r ring) s = .next t ∧ t.ringState ring = 1 ∧
    s.SameFlds t [(.HIF_RING_STATUS_STATE, ring)] ∧ s.SameMem t) ∧
  (s.Grants r true .HIF_RING_CTRL ring 0 → s.ringState ring = 0 ∨ s.ringState ring = 3 → s.startBad ring = true → ∃ t, exec (.ringStart r ring) s = .next t ∧
    t.on .HIF_EVENT_BAD_CFG = true ∧ s.SameFlds t [(.HIF_EVENT_BAD_CFG, 0)] ∧ s.SameMem t) ∧
  (s.Grants r true .HIF_RING_CTRL ring 0 → s.ringState ring = 1 → (s.ring ring).ready = [] → (s.ring ring).building = none → (s.ring ring).store = [] → ∃ t,
    exec (.ringStop r ring) s = .next t ∧ t.ringState ring = 2 ∧ s.SameFlds t [(.HIF_RING_STATUS_STATE, ring)] ∧ s.SameMem t) ∧
  (s.dev ≠ .off → s.ringState ring = 2 → (s.ring ring).flying = [] → (s.ring ring).ready = [] → (s.ring ring).building = none → (s.ring ring).cur = none → ∃ t,
    exec (.ringStopComplete ring) s = .next t ∧ t.ringState ring = 3 ∧ t.hif = s.hif ∧ s.SameFlds t [(.HIF_RING_STATUS_STATE, ring)] ∧ s.SameMem t) ∧
  (s.Grants r true .HIF_RING_CTRL ring 0 → ringActive (s.ringState ring) = false → ∃ t, exec (.ringReset r ring) s = .next t ∧ t.ringState ring = 0 ∧ t.ringPi ring = 0 ∧
    t.fld .HIF_RING_STATUS_CI ring = 0 ∧ t.ring ring = { store := (s.ring ring).store } ∧
    s.SameFlds t [(.HIF_RING_STATUS_STATE, ring), (.HIF_DOORBELL_PI, ring), (.HIF_RING_STATUS_CI, ring)] ∧ s.SameMem t) ∧
  (s.Grants r true .HIF_RING_CTRL ring 0 → ringActive (s.ringState ring) = true → ∃ t, exec (.ringReset r ring) s = .next t ∧ t.on .HIF_EVENT_CHANGE_REFUSED = true ∧ t.hif = s.hif ∧
    s.SameFlds t [(.HIF_EVENT_CHANGE_REFUSED, 0)] ∧ s.SameMem t) ∧
  (ring.val < 8192 → s.txMay ring = true → (s.ring ring).building = none → s.fld .HIF_RING_CFG_COMP ring = 0 → s.on .HIF_RING_CFG_NOTIFY ring = false → ∃ t,
    exec (.hostReadError ring) s = .next t ∧ t.ringState ring = 4 ∧ t.fld .HIF_RING_STATUS_ERR ring = 6 ∧ t.on .HIF_EVENT_RING_ERR = true ∧
    (t.ring ring).fetch = idx32 ((s.ring ring).fetch + 1) ∧ t.ctr (ringWord ring 5) = ctrAdd (s.ctr (ringWord ring 5)) 1 ∧ t.dev = s.dev ∧
    s.SameFlds t ([(.HIF_RING_STATUS_STATE, ring.val), (.HIF_RING_STATUS_ERR, ring.val), (.HIF_RING_STATUS_ERR_SEEN, ring.val), (.HIF_RING_STATUS_ERR_IDX, ring.val),
      (.HIF_RING_STATUS_CI, ring.val), (.HIF_EVENT_RING_ERR, 0)] ++ faultFlds) ∧ s.SameMem t)

/-- Transmit rings (R190, R339 to R341): a fetched descriptor that ends its frame makes the frame ready with its buffer's bytes, and one that does not keeps it open; the first frame of a ring goes to its queue where R186 admits it and
is held where the queue or the pool is full; a held frame is tried again and goes when it is admitted; a frame that names a generator takes its next number. -/
def Obligations.HostTransmitFrames : Prop := ∀ (s : State) (ring : Fin 8192), s.Overlock →
  (∀ (d : BitVec 256) (data : List Byte), s.txMay ring = true → (s.ring ring).building = none → s.txBad ring (s.ring ring).fetch d.toNat none = false → d.getLsbD 110 = true → ∃ t,
    exec (.txDescriptorFetch ring d data) s = .next t ∧ (t.ring ring).fetch = idx32 ((s.ring ring).fetch + 1) ∧ (t.ring ring).building = none ∧
    (t.ring ring).ready = (s.ring ring).ready ++ [⟨(s.ring ring).fetch, d.toNat, padTo (descLen d.toNat) (data.take (descLen d.toNat)), [(true, true)], barrierAt none d.toNat⟩] ∧
    .hostRead (s.ringPf ring) (s.descAddr ring (s.ring ring).fetch) (s.ringAttr ring) 32 ∈ t.out ∧ t.ctr (ringWord ring 7) = ctrAdd (s.ctr (ringWord ring 7)) (descLen d.toNat) ∧ s.SameFlds t [] ∧ s.SameMem t) ∧
  (∀ (d : BitVec 256) (data : List Byte), s.txMay ring = true → (s.ring ring).building = none → s.txBad ring (s.ring ring).fetch d.toNat none = false → d.getLsbD 110 = false → ∃ t,
    exec (.txDescriptorFetch ring d data) s = .next t ∧ (t.ring ring).fetch = idx32 ((s.ring ring).fetch + 1) ∧ (t.ring ring).ready = (s.ring ring).ready ∧
    (t.ring ring).building = some ⟨(s.ring ring).fetch, d.toNat, padTo (descLen d.toNat) (data.take (descLen d.toNat)), [(true, false)], barrierAt none d.toNat⟩ ∧
    .hostRead (s.ringPf ring) (s.descAddr ring (s.ring ring).fetch) (s.ringAttr ring) 32 ∈ t.out ∧ s.SameFlds t [] ∧ s.SameMem t) ∧
  (∀ (x : TxFrame) (tl : List TxFrame) (a : Acct) (m : MendMeet), s.txOffers ring = true → (s.ring ring).held = none → (s.ring ring).ready = x :: tl → bit x.desc 157 = false →
    s.admitTest (txQueue x.desc) (cellsOf (x.data.length + 4)) 0 false = (.admitted, a) → ∃ (t : State) (fr : FrameRec), exec (.txFrameOffer ⟨ring, m⟩) s = .next t ∧
      (t.qu (txQueue x.desc)).frames = (s.qu (txQueue x.desc)).frames ++ [fr] ∧ fr.data = x.data ∧ fr.src = .ring ring x.first ∧ (∀ q, q ≠ txQueue x.desc → t.qu q = s.qu q) ∧
      (t.ring ring).ready = tl ∧ (t.ring ring).flying = (s.ring ring).flying ++ [⟨x.first, x.marks.length, bits x.desc 138 137, bits x.desc 136 134, x.barrier⟩] ∧ s.SameFlds t [] ∧ s.SameMem t) ∧
  (∀ (x : TxFrame) (tl : List TxFrame) (a : Acct) (why : Adm) (m : MendMeet), s.txOffers ring = true → (s.ring ring).held = none → (s.ring ring).ready = x :: tl → bit x.desc 157 = false →
    why ∈ [.queueLimit, .threshold, .precedence] → s.admitTest (txQueue x.desc) (cellsOf (x.data.length + 4)) 0 false = (why, a) → ∃ (t : State) (fr : FrameRec),
      exec (.txFrameOffer ⟨ring, m⟩) s = .next t ∧ (t.ring ring).held = some fr ∧ fr.data = x.data ∧ (t.ring ring).ready = x :: tl ∧ t.queue = s.queue ∧ s.SameFlds t [] ∧ s.SameMem t) ∧
  (∀ (x : TxFrame) (tl : List TxFrame) (f : FrameRec) (a : Acct), s.txOffers ring = true → (s.ring ring).held = some f → (s.ring ring).ready = x :: tl →
    s.admitTest (txQueue x.desc) f.cells 0 false = (.admitted, a) → ∃ (t : State) (fr : FrameRec), exec (.hostFrameAdmitRetry ring) s = .next t ∧
      (t.qu (txQueue x.desc)).frames = (s.qu (txQueue x.desc)).frames ++ [fr] ∧ fr.data = f.data ∧ (t.ring ring).held = none ∧ (t.ring ring).ready = tl ∧ s.SameFlds t [] ∧ s.SameMem t) ∧
  (∀ (x : TxFrame) (tl : List TxFrame) (a : Acct) (lanes : LaneSent), s.txOffers ring = true → (s.ring ring).held = none → (s.ring ring).ready = x :: tl → bit x.desc 157 = true →
    s.on .MEND_CTRL_RUN = true → (1, bits x.desc 156 139) ∉ s.leadOnly → (s.gen (bits x.desc 156 139)).bad = false → (s.gen (bits x.desc 156 139)).en = true →
    (s.gen (bits x.desc 156 139)).mode = 0 → s.admitTest (txQueue x.desc) (cellsOf (x.data.length + 4)) 0 false = (.admitted, a) → ∃ (t : State) (fr : FrameRec),
      exec (.txFrameOffer ⟨ring, ⟨.none, lanes⟩⟩) s = .next t ∧ (t.qu (txQueue x.desc)).frames = (s.qu (txQueue x.desc)).frames ++ [fr] ∧ fr.data = x.data ∧
      fr.edit.num = some (s.gen (bits x.desc 156 139)).seq ∧ (t.gen (bits x.desc 156 139)).seq = ((s.gen (bits x.desc 156 139)).seq + 1) % 2 ^ 16 ∧
      (t.ring ring).ready = tl ∧ s.SameFlds t [] ∧ s.SameMem t)

/-- Receive rings, completion queues and Ledgers (R345, R346, R349, R350, R353 to R356, R371): a frame that fits the posted descriptor is written to its buffer and leaves the store, counted; a frame without a descriptor begins its
wait, and at RX_WAIT it is discarded whole; CQ_DB moves CI within the queue and arms it, and outside service a write beyond the queue changes nothing but MALFORMED; a queue is enabled empty, and one that a running ring names is
not disabled; a queue whose age is reached raises its source; a Ledger word that was held off is written, or its request waits for Bus Master Enable. -/
def Obligations.HostReceiveAndQueues : Prop := ∀ s : State, s.Overlock →
  (∀ (ring : Fin 8192) (d : BitVec 256) (x : RxFrame) (rest : List RxFrame), s.rxMay (8192 + ring) = true → s.ringPosted (8192 + ring) = true → (s.ring (8192 + ring)).store = x :: rest →
    (s.ring (8192 + ring)).cur = none → s.rxBad (8192 + ring) (s.ring (8192 + ring)).fetch d.toNat = false → (s.rxBytes (8192 + ring) x).length ≤ descLen d.toNat →
    s.fld .HIF_RING_CFG_COMP (8192 + ring) = 0 → s.on .HIF_RING_CFG_NOTIFY (8192 + ring) = false → ∃ t, exec (.hostRxWrite ring [d] .none) s = .next t ∧
      (t.ring (8192 + ring)).store = rest ∧ (t.ring (8192 + ring)).cur = none ∧ (t.ring (8192 + ring)).fetch = idx32 ((s.ring (8192 + ring)).fetch + 1) ∧
      (∀ e ∈ hostPieces (s.payloadSize (s.ringPf (8192 + ring))) (s.rxBytes (8192 + ring) x).length (bits d.toNat 63 0) (s.rxBytes (8192 + ring) x).length,
        .hostWrite (s.ringPf (8192 + ring)) e.1 (hostAttr (s.on .HIF_CFG_RO_EN) (d.getLsbD 108 || s.on .HIF_RING_CFG_NO_SNOOP (8192 + ring)))
          (((s.rxBytes (8192 + ring) x).drop (e.1 - bits d.toNat 63 0)).take e.2) ∈ t.out) ∧
      t.ctr (ringWord (8192 + ring) 0) = ctrAdd (s.ctr (ringWord (8192 + ring) 0)) 1 ∧ s.SameFlds t [(.HIF_RING_STATUS_CI, 8192 + ring)] ∧ s.SameMem t) ∧
  (∀ (ring : Fin 8192) (l : List (BitVec 256)) (e : BufErr), s.rxMay (8192 + ring) = true → s.ringPosted (8192 + ring) = false → (s.ring (8192 + ring)).waitFrom = none → ∃ t,
    exec (.hostRxWrite ring l e) s = .next t ∧ t.ring (8192 + ring) = { s.ring (8192 + ring) with waitFrom := some s.lNow } ∧ s.SameFlds t [] ∧ s.SameMem t) ∧
  (∀ (ring : Fin 8192) (x : RxFrame) (rest : List RxFrame) (n : Nat), s.hifUp = true → (s.ring (8192 + ring)).waitFrom = some n → n + s.rxWaitT (8192 + ring) ≤ s.lNow →
    s.ringPosted (8192 + ring) = false → (s.ring (8192 + ring)).cur = none → (s.ring (8192 + ring)).store = x :: rest → ∃ t, exec (.rxWaitExpiry ring) s = .next t ∧
      (t.ring (8192 + ring)).store = rest ∧ (t.ring (8192 + ring)).waitFrom = none ∧ t.ctr (ringWord (8192 + ring) 2) = ctrAdd (s.ctr (ringWord (8192 + ring) 2)) 1 ∧
      t.on .HIF_EVENT_RX_DROP = true ∧ s.SameFlds t [(.HIF_EVENT_RX_DROP, 0)] ∧ s.SameMem t) ∧
  (∀ (r : Req) (c : Fin 4096) (ci : BitVec 32) (arm : Bool), s.Grants r true .HIF_CQ_DB c 0 → s.ciOk c ci.toNat = true → (s.cq c).held = [] → (s.cq c).pend = 0 → ∃ t,
    exec (.cqDoorbell r c ci arm) s = .next t ∧ t.fld .HIF_CQ_DB_CI c = ci.toNat ∧ (arm = true → (t.cq c).armed = true) ∧
    s.SameFlds t [(.HIF_CQ_DB_CI, c), (.HIF_CQ_STATUS_FULL, c)] ∧ s.SameMem t) ∧
  (∀ (r : Req) (c : Fin 4096) (ci : BitVec 32) (arm : Bool), s.Grants r true .HIF_CQ_DB c 0 → s.ciOk c ci.toNat = false → s.dev.inService = false → ∃ t,
    exec (.cqDoorbell r c ci arm) s = .next t ∧ t.on .HIF_EVENT_MALFORMED = true ∧ t.hif = s.hif ∧ s.SameFlds t [(.HIF_EVENT_MALFORMED, 0)] ∧ s.SameMem t) ∧
  (∀ (r : Req) (c : Fin 4096), s.Grants r true .HIF_CQ_CFG c 0 → s.on .HIF_CQ_CFG_EN c = false → 6 ≤ s.fld .HIF_CQ_CFG_SIZE_LOG2 c → ∃ t, exec (.cqEnable r c true) s = .next t ∧
    t.on .HIF_CQ_CFG_EN c = true ∧ t.fld .HIF_CQ_STATUS_PI c = 0 ∧ t.fld .HIF_CQ_DB_CI c = 0 ∧ t.cq c = {} ∧
    s.SameFlds t [(.HIF_CQ_CFG_EN, c), (.HIF_CQ_STATUS_PI, c), (.HIF_CQ_DB_CI, c), (.HIF_CQ_STATUS_FULL, c)] ∧ s.SameMem t) ∧
  (∀ (r : Req) (c : Fin 4096), s.Grants r true .HIF_CQ_CFG c 0 → s.cqNamed c = true → ∃ t, exec (.cqEnable r c false) s = .next t ∧ t.on .HIF_EVENT_CHANGE_REFUSED = true ∧
    s.SameFlds t [(.HIF_EVENT_CHANGE_REFUSED, 0)] ∧ s.SameMem t) ∧
  (∀ (r : Req) (c : Fin 4096), s.Grants r true .HIF_CQ_CFG c 0 → s.cqNamed c = false → ∃ t, exec (.cqEnable r c false) s = .next t ∧ t.on .HIF_CQ_CFG_EN c = false ∧
    s.SameFlds t [(.HIF_CQ_CFG_EN, c)] ∧ s.SameMem t) ∧
  (∀ c : Fin 4096, s.hifUp = true → (s.cq c).armed = true → 0 < (s.cq c).pend → (s.cq c).oldest + s.fld .HIF_CQ_CFG_MOD_TIME c * 1000 * nsT ≤ s.lNow → ∃ t,
    exec (.cqModerationExpiry c) s = .next t ∧ (t.fld .INTC_PENDING_PEND (s.fld .HIF_CQ_CFG_SRC c / 32)).testBit (s.fld .HIF_CQ_CFG_SRC c % 32) = true ∧ (t.cq c).armed = false ∧
    (t.cq c).pend = 0 ∧ s.SameFlds t [] ∧ s.SameMem t) ∧
  (∀ ring : Fin 8192, s.hifUp = true → (s.ring ring).ledgerDirty = true → s.ledgerDue ring = true → (s.pfn (s.ringPf ring)).busMaster = true → ∃ t,
    exec (.ledgerHoldoffExpiry ring) s = .next t ∧ t.ring ring = { s.ring ring with ledgerDirty := false, ledgerL := some s.lNow } ∧
    t.out = s.out ++ [.hostWrite (s.ringPf ring) (s.fld .HIF_LEDGER_ADDR_ADDR (s.fld .HIF_RING_CFG_LEDGER ring) * 4) (s.ringAttr ring)
      (leBytes 4 (s.fld .HIF_RING_STATUS_CI ring))] ∧ s.SameFlds t [] ∧ s.SameMem t) ∧
  (∀ ring : Fin 8192, s.hifUp = true → (s.ring ring).ledgerDirty = true → s.ledgerDue ring = true → (s.pfn (s.ringPf ring)).busMaster = false → ∃ t,
    exec (.ledgerHoldoffExpiry ring) s = .next t ∧ t.ring ring = { s.ring ring with ledgerDirty := false, ledgerL := some s.lNow } ∧ t.out = s.out ∧
    t.hif.stalled = s.hif.stalled ++ [(s.ringPf ring, .hostWrite (s.ringPf ring) (s.fld .HIF_LEDGER_ADDR_ADDR (s.fld .HIF_RING_CFG_LEDGER ring) * 4) (s.ringAttr ring)
      (leBytes 4 (s.fld .HIF_RING_STATUS_CI ring)))] ∧ s.SameFlds t [] ∧ s.SameMem t)

/-! ## DMA channels and the Cyclic Publisher (chapter 12) -/

/-- Control of DMA channels (R382, R384, R386): START of a stopped channel whose queue is enabled makes it RUNNING with HOPS 0 and is refused otherwise; STOP acts at a descriptor boundary; RESET clears a channel that does not run and
is refused on one that does; a write of CH_RATE empties the bucket. The loss of a function (R370, R393): a Function Level Reset halts its running channels with ABORTED, disables its rings with PI and CI 0, disables its completion
queues, and leaves the other functions' rings as they were; the loss of the link resets every function and stops every request to the host. -/
def Obligations.DmaControlAndFunctionLoss : Prop :=
  (∀ (s : State) (r : Req) (ch : Fin 256), s.Overlock →
  (s.Grants r true .DMA_CH_CTRL ch 0 → s.chState ch = 0 ∨ s.chState ch = 3 → s.chNextSpace ch ≠ 3 → s.on .HIF_CQ_CFG_EN (s.chCq ch) = true → s.on .DMA_CTRL_RUN = true → ∃ t,
    exec (.dmaChStart r ch) s = .next t ∧ t.chState ch = 1 ∧ t.fld .DMA_CH_STATUS_HOPS ch = 0 ∧
    s.SameFlds t [(.DMA_CH_STATUS_STATE, ch), (.DMA_CH_STATUS_HOPS, ch)] ∧ s.SameMem t) ∧
  (s.Grants r true .DMA_CH_CTRL ch 0 → s.chState ch = 0 ∨ s.chState ch = 3 → s.chNextSpace ch = 3 ∨ s.on .HIF_CQ_CFG_EN (s.chCq ch) = false → ∃ t,
    exec (.dmaChStart r ch) s = .next t ∧ t.on .DMA_EVENT_BAD_CFG = true ∧ t.dma = s.dma ∧ s.SameFlds t [(.DMA_EVENT_BAD_CFG, 0)] ∧ s.SameMem t) ∧
  (s.Grants r true .DMA_CH_CTRL ch 0 → s.chState ch = 1 → (s.chan ch).desc = none → ∃ t, exec (.dmaChStop r ch) s = .next t ∧ t.chState ch = 3 ∧
    (t.chan ch).reserved = false ∧ (t.chan ch).retryAt = none ∧ ((s.chan ch).reserved = false → t.hif = s.hif) ∧
    s.SameFlds t [(.DMA_CH_STATUS_STATE, ch), (.DMA_CH_STATUS_WAIT_CQ, ch), (.DMA_CH_CFG_PRIO, ch)] ∧ s.SameMem t) ∧
  (s.Grants r true .DMA_CH_CTRL ch 0 → s.chState ch = 1 → (s.chan ch).desc ≠ none → ∃ t, exec (.dmaChStop r ch) s = .next t ∧ t.chState ch = 2 ∧ t.dma = s.dma ∧
    s.SameFlds t [(.DMA_CH_STATUS_STATE, ch)] ∧ s.SameMem t) ∧
  (s.Grants r true .DMA_CH_CTRL ch 0 → ringActive (s.chState ch) = false → ∃ t, exec (.dmaChReset r ch) s = .next t ∧ t.chState ch = 0 ∧ t.fld .DMA_CH_STATUS_HOPS ch = 0 ∧
    t.fld .DMA_CH_POS_I0 ch = 0 ∧ t.fld .DMA_CH_POS_I1 ch = 0 ∧ t.fld .DMA_CH_POS_I2 ch = 0 ∧ t.dma = s.dma ∧
    s.SameFlds t [(.DMA_CH_STATUS_STATE, ch), (.DMA_CH_STATUS_HOPS, ch), (.DMA_CH_POS_I0, ch), (.DMA_CH_POS_I1, ch), (.DMA_CH_POS_I2, ch)] ∧ s.SameMem t) ∧
  (s.Grants r true .DMA_CH_CTRL ch 0 → ringActive (s.chState ch) = true → ∃ t, exec (.dmaChReset r ch) s = .next t ∧ t.on .DMA_EVENT_CHANGE_REFUSED = true ∧ t.dma = s.dma ∧
    s.SameFlds t [(.DMA_EVENT_CHANGE_REFUSED, 0)] ∧ s.SameMem t) ∧
  (∀ v : BitVec 64, s.Grants r true .DMA_CH_RATE ch 0 → ∃ t, exec (.chRateWrite r ch v) s = .next t ∧ t.fld .DMA_CH_RATE_RATE ch = v.toNat / 2 ^ 48 ∧
    t.fld .DMA_CH_RATE_BURST ch = v.toNat / 2 ^ 16 % 2 ^ 16 ∧ t.chTokens ch = 0 ∧ s.SameFlds t [(.DMA_CH_RATE_RATE, ch), (.DMA_CH_RATE_BURST, ch)] ∧ s.SameMem t)) ∧
  (∀ s : State, s.Overlock →
  (∀ pf : Fin 8, s.hifUp = true → ∃ t, exec (.functionLevelReset pf) s = .next t ∧ t.on .HIF_EVENT_FLR = true ∧ t.dev = s.dev ∧
    (∀ ch, ch < 256 → s.chPf ch = pf → ringActive (s.chState ch) = true → t.chState ch = 4 ∧ t.fld .DMA_CH_STATUS_HALT ch = 7 ∧ (t.chan ch).desc = none) ∧
    (∀ n, n < 16384 → s.ringPf n = pf → t.ringState n = 0 ∧ t.ringPi n = 0 ∧ t.fld .HIF_RING_STATUS_CI n = 0) ∧
    (∀ n, s.ringPf n ≠ pf → t.ring n = s.ring n ∧ t.ringState n = s.ringState n) ∧
    (∀ c, c < 4096 → s.fld .HIF_CQ_CFG_PF c = pf → t.on .HIF_CQ_CFG_EN c = false ∧ t.cq c = {}) ∧ (∀ f, f ≠ pf.val → t.pfn f = s.pfn f) ∧ s.SameMem t) ∧
  (s.hif.link = true → ∃ t, exec .pcieLinkLoss s = .next t ∧ t.hif.link = false ∧ t.hif.speed = 0 ∧ t.hif.width = 0 ∧ t.on .HIF_EVENT_LINK_DOWN = true ∧ t.dev = s.dev ∧ (∀ f : Fin 8, (t.pfn f).busMaster = false) ∧
    (∀ n, n < 16384 → t.ringState n = 0 ∧ t.ringPi n = 0 ∧ t.fld .HIF_RING_STATUS_CI n = 0) ∧ (∀ c, c < 4096 → t.on .HIF_CQ_CFG_EN c = false ∧ t.cq c = {}) ∧ s.SameMem t))

/-- Descriptors of a DMA channel (R376, R378, R379, R388, R390, R391): with a place in its queue a running channel fetches its next descriptor, counts it and takes a free mover; without room it waits; at CHAIN_LIMIT it halts with
LOOP; a descriptor of one element in local memory without errors copies exactly its bytes and ends the channel where its chain ends; a read that fails is issued again after 1 µs, and after the last retry the channel halts with
BUS_ERROR. -/
def Obligations.DmaDescriptors : Prop := ∀ (s : State) (ch : Fin 256), s.Overlock →
  (∀ host : BitVec 512, s.chMayFetch ch = true → (s.chan ch).reserved = false → s.cqRoom (s.chCq ch) = true → s.fld .DMA_CH_STATUS_HOPS ch < max 1 (s.fld .DMA_CH_CFG_CHAIN_LIMIT ch) →
    s.chReach ch (s.chNextSpace ch) (s.chNext ch) 64 = true → s.thim.dramFailed = false → s.localBad = [] → s.chDescBad (s.chRead ch host.toNat) = false → s.dma.movers.length < 8 →
    s.dma.movers.contains ch.val = false → ∃ t, exec (.dmaDescriptorFetch ch host) s = .next t ∧
      (t.chan ch).desc = some (s.chNext ch, s.chNextSpace ch, s.chRead ch host.toNat) ∧ t.fld .DMA_CH_STATUS_HOPS ch = s.fld .DMA_CH_STATUS_HOPS ch + 1 ∧
      (t.cq (s.chCq ch)).reserved = (s.cq (s.chCq ch)).reserved + 1 ∧ t.dma.movers = s.dma.movers ++ [ch.val] ∧
      t.fld .DMA_CH_POS_I0 ch = 0 ∧ t.fld .DMA_CH_POS_I1 ch = 0 ∧ t.fld .DMA_CH_POS_I2 ch = 0 ∧ t.fld .DMA_CH_STATUS_WAIT_CQ ch = 0 ∧
      s.SameFlds t [(.DMA_CH_STATUS_HOPS, ch), (.DMA_CH_STATUS_WAIT_CQ, ch), (.DMA_CH_STATUS_PREEMPTED, ch), (.DMA_CH_POS_I0, ch), (.DMA_CH_POS_I1, ch), (.DMA_CH_POS_I2, ch),
        (.DMA_CH_CFG_PRIO, ch)] ∧ s.SameMem t) ∧
  (∀ host : BitVec 512, s.chMayFetch ch = true → (s.chan ch).reserved = false → s.cqRoom (s.chCq ch) = false → ∃ t, exec (.dmaDescriptorFetch ch host) s = .next t ∧
    t.on .DMA_CH_STATUS_WAIT_CQ ch = true ∧ t.dma = s.dma ∧ t.hif = s.hif ∧ s.SameFlds t [(.DMA_CH_STATUS_WAIT_CQ, ch)] ∧ s.SameMem t) ∧
  (∀ host : BitVec 512, s.chMayFetch ch = true → (s.chan ch).reserved = true ∨ s.cqRoom (s.chCq ch) = true → max 1 (s.fld .DMA_CH_CFG_CHAIN_LIMIT ch) ≤ s.fld .DMA_CH_STATUS_HOPS ch →
    s.dma.movers.contains ch.val = false → ∃ t, exec (.dmaDescriptorFetch ch host) s = .next t ∧ t.chState ch = 4 ∧ t.fld .DMA_CH_STATUS_HALT ch = 9 ∧ t.on .DMA_EVENT_LOOP = true ∧
      t.ctr (chanWord ch 4) = ctrAdd (s.ctr (chanWord ch 4)) 1 ∧
      (s.on .HIF_CQ_CFG_EN (s.chCq ch) = true → s.cqUsed (s.chCq ch) ≠ s.cqSize (s.chCq ch) → (s.cq (s.chCq ch)).held = [] →
        t.fld .HIF_CQ_STATUS_PI (s.chCq ch) = idx32 (s.fld .HIF_CQ_STATUS_PI (s.chCq ch) + 1)) ∧
      s.SameFlds t [(.DMA_CH_STATUS_STATE, ch), (.DMA_CH_STATUS_HALT, ch), (.DMA_CH_STATUS_WAIT_CQ, ch), (.DMA_CH_STATUS_WAIT_TOK, ch), (.DMA_CH_STATUS_PREEMPTED, ch), (.DMA_EVENT_LOOP, 0),
        (.HIF_CQ_STATUS_PI, s.chCq ch), (.HIF_CQ_STATUS_FULL, s.chCq ch), (.HIF_EVENT_CQ_FULL, 0), (.DMA_CH_CFG_PRIO, ch)] ∧ s.SameMem t) ∧
  (∀ (host : List Byte) (addr space w : Nat), (s.chan ch).desc = some (addr, space, w) → dCount w = 1 → dSrcSpace w = 2 → dDstSpace w = 2 → dComp w = false → (s.chan ch).wrote = [] →
    s.chMayMove ch w = true → s.chCan ch (dElem w) = true → s.dma.movers.contains ch.val = true → s.chPos ch w = 0 → s.elemOk ch w 0 = true → s.localBad = [] →
    (∀ c, c < 256 → s.on .DMA_CH_STATUS_PREEMPTED c = false) → ∃ t, exec (.dmaDescriptorComplete ch host) s = .next t ∧
      (∀ a, t.localMem.byte a = if dDst w 0 ≤ a ∧ a < dDst w 0 + dElem w then s.localMem.byte (dSrc w 0 + (a - dDst w 0)) else s.localMem.byte a) ∧
      t.dram = s.dram ∧ t.boot.nvm = s.boot.nvm ∧ (t.chan ch).desc = none ∧ t.chState ch = (if s.chState ch = 2 then 3 else if dChain w then 1 else 0) ∧
      t.chNext ch = dNextAddr w / 64 * 64 ∧ t.chNextSpace ch = dNextSpace w ∧ t.dma.movers = s.dma.movers.erase ch.val ∧
      t.ctr (chanWord ch 0) = ctrAdd (s.ctr (chanWord ch 0)) 1 ∧ t.ctr (chanWord ch 1) = ctrAdd (s.ctr (chanWord ch 1)) (dElem w) ∧
      s.SameFlds t [(.DMA_CH_STATUS_STATE, ch), (.DMA_CH_STATUS_WAIT_TOK, ch), (.DMA_CH_STATUS_PREEMPTED, ch), (.DMA_CH_DESC_ADDR, ch), (.DMA_CH_DESC_SPACE, ch),
        (.DMA_CH_POS_I0, ch), (.DMA_CH_POS_I1, ch), (.DMA_CH_POS_I2, ch), (.DMA_CH_CFG_PRIO, ch)]) ∧
  (∀ (n : Nat) (host : List Byte), s.chMayFetch ch = true → (s.chan ch).reserved = true → s.fld .DMA_CH_STATUS_HOPS ch < max 1 (s.fld .DMA_CH_CFG_CHAIN_LIMIT ch) →
    s.chReach ch (s.chNextSpace ch) (s.chNext ch) 64 = true → (s.chan ch).retries < s.fld .DMA_CH_CFG_RETRY_COUNT ch → ∃ t, exec (.dmaReadFail ch n host) s = .next t ∧
      t.chan ch = { s.chan ch with retries := (s.chan ch).retries + 1, retryAt := some (s.lNow + 1000 * nsT) } ∧ s.SameFlds t [(.DMA_CH_STATUS_WAIT_CQ, ch)] ∧ s.SameMem t) ∧
  (∀ (n : Nat) (host : List Byte), s.chMayFetch ch = true → (s.chan ch).reserved = true → s.fld .DMA_CH_STATUS_HOPS ch < max 1 (s.fld .DMA_CH_CFG_CHAIN_LIMIT ch) →
    s.chReach ch (s.chNextSpace ch) (s.chNext ch) 64 = true → s.fld .DMA_CH_CFG_RETRY_COUNT ch ≤ (s.chan ch).retries → s.dma.movers.contains ch.val = false → ∃ t,
    exec (.dmaReadFail ch n host) s = .next t ∧ t.chState ch = 4 ∧ t.fld .DMA_CH_STATUS_HALT ch = 6 ∧ t.on .DMA_EVENT_BUS_ERR = true ∧ t.dev = s.dev ∧
      t.ctr (chanWord ch 5) = ctrAdd (s.ctr (chanWord ch 5)) 1 ∧
      s.SameFlds t ([(.DMA_CH_STATUS_STATE, ch.val), (.DMA_CH_STATUS_HALT, ch.val), (.DMA_CH_STATUS_WAIT_CQ, ch.val), (.DMA_CH_STATUS_WAIT_TOK, ch.val), (.DMA_CH_STATUS_PREEMPTED, ch.val),
        (.DMA_EVENT_BUS_ERR, 0), (.HIF_CQ_STATUS_PI, s.chCq ch), (.HIF_CQ_STATUS_FULL, s.chCq ch), (.HIF_EVENT_CQ_FULL, 0), (.DMA_CH_CFG_PRIO, ch.val)] ++ faultFlds) ∧ s.SameMem t) ∧
  (∀ x, (s.chan ch).retryAt = some x → s.alive = true → x ≤ s.lNow → ∃ t, exec (.dmaReadRetry ch) s = .next t ∧ t.chan ch = { s.chan ch with retryAt := none } ∧
    t.ctr (chanWord ch 2) = ctrAdd (s.ctr (chanWord ch 2)) 1 ∧ s.SameFlds t [] ∧ s.SameMem t)

/-- Publication events (R395 to R403): the event whose gather time has come begins with the entry as read then, taken by a mover where one is free and waiting where both are taken; its follower is the next event of the sequence, and a
Lead-only entry in Active-Shadow and a gate-scheduled one out of sync build nothing; a complete gather without a consistency word puts its frame into the entry's queue; a failed read ends the event with BUS_ERROR, and a late
gather with ABANDONED. Table operations on publication entries (R404): READ copies the entry into the data words; WRITE of an entry that is off replaces its configuration, clears its state fields and begins it; a value that a
field cannot hold is refused; an operation ends with BUSY 0, its code and PUB_DONE; GO while BUSY only sets PUB_COLLIDE. -/
def Obligations.Publications : Prop :=
  (∀ (s : State) (e : Fin 1024), s.Overlock →
  (∀ g, (s.pubE e).next = some g → (s.pubE e).run = none → s.alive = true → s.on .DMA_CTRL_PUB_RUN = true → s.publishes = true → pubEn (s.pubE e).word = true →
    g ≤ s.voted (pubDom (s.pubE e).word) + pubLead (s.pubE e).word → ¬(pubPair (s.pubE e).word = 2 ∧ s.dev = .shadow) → s.inSync (pubDom (s.pubE e).word) = true →
    bit (s.pubE e).word 503 = false → (∀ x ∈ s.dma.pub, x.2.run = none) → ∃ t, exec (.pubGatherStart e) s = .next t ∧
      t.pubE e = { s.pubE e with next := pubFirst (s.pubE e).word (g - pubLead (s.pubE e).word + 1),
                                 run := some ⟨g - pubLead (s.pubE e).word, g, (s.pubE e).word, false, s.lNow - (s.voted (pubDom (s.pubE e).word) - (g - pubLead (s.pubE e).word)), true, 0, false⟩ } ∧
      (∀ e', e' ≠ e.val → t.pubE e' = s.pubE e') ∧ s.SameFlds t [] ∧ s.SameMem t) ∧
  (∀ g, (s.pubE e).next = some g → (s.pubE e).run = none → s.on .DMA_CTRL_PUB_RUN = true → pubEn (s.pubE e).word = true →
    g ≤ s.voted (pubDom (s.pubE e).word) + pubLead (s.pubE e).word → pubPair (s.pubE e).word = 2 → s.dev = .shadow → ∃ t, exec (.pubGatherStart e) s = .next t ∧
      (t.pubE e).run = none ∧ bits (t.pubE e).word 191 188 = 4 ∧ (t.pubE e).next = pubFirst (s.pubE e).word (g - pubLead (s.pubE e).word + 1) ∧
      t.ctr (pubWord e 4) = ctrAdd (s.ctr (pubWord e 4)) 1 ∧ s.SameFlds t [] ∧ s.SameMem t) ∧
  (∀ g, (s.pubE e).next = some g → (s.pubE e).run = none → s.alive = true → s.on .DMA_CTRL_PUB_RUN = true → s.publishes = true → pubEn (s.pubE e).word = true →
    g ≤ s.voted (pubDom (s.pubE e).word) + pubLead (s.pubE e).word → ¬(pubPair (s.pubE e).word = 2 ∧ s.dev = .shadow) → s.inSync (pubDom (s.pubE e).word) = false →
    s.pubSched (s.pubE e).word = true → ∃ t, exec (.pubGatherStart e) s = .next t ∧ (t.pubE e).run = none ∧ bits (t.pubE e).word 191 188 = 3 ∧ t.on .DMA_EVENT_PUB_LOSS = true ∧
      t.ctr (pubWord e 3) = ctrAdd (s.ctr (pubWord e 3)) 1 ∧ s.SameFlds t [(.DMA_EVENT_PUB_LOSS, 0)] ∧ s.SameMem t) ∧
  (∀ (r : PubRun) (host data : List Byte) (m : MendMeet) (a : Acct) (u : State), s.alive = true → (s.pubE e).run = some r → r.taken = true → (∀ x ∈ s.dma.pub, x.2.run.all (·.taken) = true) →
    s.pubLate e r = false → s.pubBuild r.entry host = (.frame data, u) →
    bit r.entry 503 = false → bit r.entry 504 = false → bit r.entry 500 = false → s.admitTest (pubQueue r.entry) (cellsOf (data.length + 4)) 0 false = (.admitted, a) →
    ∃ (t : State) (fr : FrameRec), exec (.pubGatherComplete e host false m) s = .next t ∧ (t.qu (pubQueue r.entry)).frames = (s.qu (pubQueue r.entry)).frames ++ [fr] ∧ fr.data = data ∧
      fr.src = .pub e ∧ (∀ q, q ≠ pubQueue r.entry → t.qu q = s.qu q) ∧ (t.pubE e).run = none ∧ bits (t.pubE e).word 191 188 = 1 ∧ s.SameFlds t [(.DMA_EVENT_MALFORMED, 0)] ∧ s.SameMem t) ∧
  (∀ (r : PubRun) (host : List Byte) (m : MendMeet), s.alive = true → (s.pubE e).run = some r → r.taken = true → (∀ x ∈ s.dma.pub, x.2.run.all (·.taken) = true) →
    s.pubLate e r = false → ∃ t, exec (.pubGatherComplete e host true m) s = .next t ∧
    (t.pubE e).run = none ∧ bits (t.pubE e).word 191 188 = 6 ∧ t.queue = s.queue ∧ t.on .DMA_EVENT_PUB_LOSS = true ∧ t.ctr (pubWord e 6) = ctrAdd (s.ctr (pubWord e 6)) 1 ∧
    s.SameFlds t [(.DMA_EVENT_PUB_LOSS, 0)] ∧ s.SameMem t) ∧
  (∀ r : PubRun, s.alive = true → (s.pubE e).run = some r → (r.taken = true ∧ ∀ x ∈ s.dma.pub, x.2.run.all (·.taken) = true) ∨ (r.taken = false ∧ 2 ≤ s.pubTaken) →
    s.pubLate e r = true → ∃ t, exec (.pubAbandon e) s = .next t ∧ (t.pubE e).run = none ∧
    bits (t.pubE e).word 191 188 = 7 ∧ t.queue = s.queue ∧ t.mend = s.mend ∧ t.on .DMA_EVENT_PUB_LOSS = true ∧ t.ctr (pubWord e 7) = ctrAdd (s.ctr (pubWord e 7)) 1 ∧
    s.SameFlds t [(.DMA_EVENT_PUB_LOSS, 0)] ∧ s.SameMem t) ∧
  (∀ g, (s.pubE e).next = some g → (s.pubE e).run = none → s.alive = true → s.on .DMA_CTRL_PUB_RUN = true → s.publishes = true → pubEn (s.pubE e).word = true →
    g ≤ s.voted (pubDom (s.pubE e).word) + pubLead (s.pubE e).word → ¬(pubPair (s.pubE e).word = 2 ∧ s.dev = .shadow) → s.inSync (pubDom (s.pubE e).word) = true →
    2 ≤ s.pubTaken → ∃ t, exec (.pubGatherStart e) s = .next t ∧
      t.pubE e = { s.pubE e with next := pubFirst (s.pubE e).word (g - pubLead (s.pubE e).word + 1),
                                 run := some ⟨g - pubLead (s.pubE e).word, g, (s.pubE e).word, false, s.lNow - (s.voted (pubDom (s.pubE e).word) - (g - pubLead (s.pubE e).word)), false, 0, false⟩ } ∧
      (∀ e', e' ≠ e.val → t.pubE e' = s.pubE e') ∧ s.SameFlds t [] ∧ s.SameMem t)) ∧
  (∀ (s : State) (r : Req) (i : Fin 1024), s.Overlock →
  (s.Grants r true .DMA_PUB_CMD 0 0 → s.on .DMA_PUB_STATUS_BUSY = false → ∃ t, exec (.pubRead r i) s = .next t ∧
    (∀ k : Fin 8, t.fld .DMA_PUB_DATA_DATA k = (s.pubE i).word / 2 ^ (64 * k.val) % 2 ^ 64) ∧ t.on .DMA_PUB_STATUS_BUSY = true ∧ t.dma = { s.dma with pubCode := 0 } ∧
    s.SameFlds t ([(.DMA_PUB_CMD_OP, 0), (.DMA_PUB_CMD_INDEX, 0), (.DMA_PUB_STATUS_BUSY, 0)] ++ (List.range 8).map fun k => (.DMA_PUB_DATA_DATA, k)) ∧ s.SameMem t) ∧
  (s.Grants r true .DMA_PUB_CMD 0 0 → s.on .DMA_PUB_STATUS_BUSY = false → pubBad s.pubData = false → pubEn (s.pubE i).word = false → ∃ t, exec (.pubWrite r i) s = .next t ∧
    (t.pubE i).word = s.pubData / 2 ^ 198 * 2 ^ 198 ∧ (pubEn s.pubData = false → (t.pubE i).next = none) ∧ (∀ k, k ≠ i.val → t.pubE k = s.pubE k) ∧ t.on .DMA_PUB_STATUS_BUSY = true ∧ t.dma.pubCode = 0 ∧
    s.SameFlds t [(.DMA_PUB_CMD_OP, 0), (.DMA_PUB_CMD_INDEX, 0), (.DMA_PUB_STATUS_BUSY, 0)] ∧ s.SameMem t) ∧
  (s.Grants r true .DMA_PUB_CMD 0 0 → s.on .DMA_PUB_STATUS_BUSY = false → pubBad s.pubData = true → ∃ t, exec (.pubWrite r i) s = .next t ∧ t.dma = { s.dma with pubCode := 7 } ∧
    s.SameFlds t [(.DMA_PUB_CMD_OP, 0), (.DMA_PUB_CMD_INDEX, 0), (.DMA_PUB_STATUS_BUSY, 0)] ∧ s.SameMem t) ∧
  (s.dev ≠ .off → s.on .DMA_PUB_STATUS_BUSY = true → ∃ t, exec .pubOpComplete s = .next t ∧ t.on .DMA_PUB_STATUS_BUSY = false ∧
    t.fld .DMA_PUB_STATUS_CODE = s.dma.pubCode % 16 ∧ t.on .DMA_EVENT_PUB_DONE = true ∧ t.dma = s.dma ∧
    s.SameFlds t [(.DMA_PUB_STATUS_BUSY, 0), (.DMA_PUB_STATUS_CODE, 0), (.DMA_EVENT_PUB_DONE, 0), (.MEND_EVENT_MIRROR_STALE, 0)] ∧ s.SameMem t) ∧
  (∀ c ∈ [Instr.pubRead r i, .pubWrite r i], s.Grants r true .DMA_PUB_CMD 0 0 → s.on .DMA_PUB_STATUS_BUSY = true → ∃ t, exec c s = .next t ∧ t.on .DMA_EVENT_PUB_COLLIDE = true ∧ t.dma = s.dma ∧
    s.SameFlds t [(.DMA_EVENT_PUB_COLLIDE, 0)] ∧ s.SameMem t))

/-! ## Interrupts and service cores (chapter 13) -/

/-- Delivery (R408, R410, R420, R421): a pending, enabled source goes to the pair or the vector that its target names when it is delivered and is pending no more; with its pair disabled it goes to the fallback pair and FALLBACK is
set, and with no pair enabled it stays pending and NO_TARGET is set; within 64 ns of a write of its configuration it goes by the old one or the new. -/
def Obligations.InterruptDelivery : Prop := ∀ (s : State) (n : Fin 4095), s.Overlock → s.dev ≠ .off → s.deliverable n = true →
  (s.lateCfg n = none → s.fld .INTC_SRC_CFG_TKIND n = 1 → s.pairOn (s.fld .INTC_SRC_CFG_TARGET n % 16 / 2) = true → ∃ t, exec (.interruptDelivery n) s = .next t ∧
    t.src n = ⟨1, 2 * (s.fld .INTC_SRC_CFG_TARGET n % 16 / 2), false⟩ ∧ (t.fld .INTC_PENDING_PEND (n / 32)).testBit (n % 32) = false ∧
    (t.core (s.fld .INTC_SRC_CFG_TARGET n % 16 / 2)).rest = false ∧ (∀ m, m ≠ n.val → t.src m = s.src m) ∧ s.SameFlds t [] ∧ s.SameMem t) ∧
  (s.lateCfg n = none → s.fld .INTC_SRC_CFG_TKIND n = 2 → ∃ t, exec (.interruptDelivery n) s = .next t ∧ t.src n = ⟨1, s.fld .INTC_SRC_CFG_TARGET n, true⟩ ∧
    (t.fld .INTC_PENDING_PEND (n / 32)).testBit (n % 32) = false ∧ (∀ m, m ≠ n.val → t.src m = s.src m) ∧ s.SameFlds t [] ∧ s.SameMem t) ∧
  (s.lateCfg n = none → s.fld .INTC_SRC_CFG_TKIND n = 1 → s.pairOn (s.fld .INTC_SRC_CFG_TARGET n % 16 / 2) = false → s.pairOn (s.fld .INTC_CTRL_FALLBACK / 2) = true → ∃ t,
    exec (.interruptDelivery n) s = .next t ∧ t.src n = ⟨1, 2 * (s.fld .INTC_CTRL_FALLBACK / 2), false⟩ ∧ t.on .INTC_EVENT_FALLBACK = true ∧
    (∀ m, m ≠ n.val → t.src m = s.src m) ∧ s.SameFlds t [(.INTC_EVENT_FALLBACK, 0)] ∧ s.SameMem t) ∧
  (s.lateCfg n = none → s.fld .INTC_SRC_CFG_TKIND n = 1 → s.pairOn (s.fld .INTC_SRC_CFG_TARGET n % 16 / 2) = false → s.pairOn (s.fld .INTC_CTRL_FALLBACK / 2) = false → ∃ t,
    exec (.interruptDelivery n) s = .next t ∧ t.on .INTC_EVENT_NO_TARGET = true ∧ (t.fld .INTC_PENDING_PEND (n / 32)).testBit (n % 32) = true ∧ t.intc = s.intc ∧
    s.SameFlds t [(.INTC_EVENT_NO_TARGET, 0)] ∧ s.SameMem t) ∧
  (∀ o : SrcOld, s.lateCfg n = some o → o.enabled = true → o.tkind = 2 → s.fld .INTC_SRC_CFG_TKIND n = 2 → s.dev ≠ .failSilent → ∃ t, exec (.interruptDelivery n) s = .next t ∧
    (t.src n = ⟨1, s.fld .INTC_SRC_CFG_TARGET n, true⟩ ∨ t.src n = ⟨1, o.target, true⟩) ∧ (t.fld .INTC_PENDING_PEND (n / 32)).testBit (n % 32) = false ∧
    (∀ m, m ≠ n.val → t.src m = s.src m) ∧ s.SameFlds t [] ∧ s.SameMem t)

/-- Claims and ends of service by a pair (R410, R411, R413, R421): a claim returns the source of the highest priority above the running priority that the pair holds in DELIVERED, the lowest number on a tie, and puts it in service; a
level source no longer asserted is not returned; any other agent reads 4095; an EOI returns the source to NONE, where an asserted level source pends again, and one that the pair does not hold sets BAD_EOI; disabling a pair returns
all it holds. -/
def Obligations.CoreClaims : Prop := ∀ (s : State) (r : Req) (k : Fin 8), s.Overlock →
  (∀ n, s.Grants r false .INTC_CORE_CLAIM k 0 → r = .sp k → n ∈ s.heldBy k 1 → (∀ p, s.runPrio k = some p → p < s.prio n) →
    (∀ m ∈ s.heldBy k 1, m ≠ n → s.prio m < s.prio n ∨ (s.prio m = s.prio n ∧ n < m)) → srcEdge n = true ∨ s.asserted n = true → ∃ t, exec (.coreClaim r k) s = .next t ∧
      t.out = s.out ++ [.reply r.num n] ∧ t.src n = { s.src n with dstate := 2 } ∧ (∀ m, m ≠ n → t.src m = s.src m) ∧ s.SameFlds t [] ∧ s.SameMem t) ∧
  (∀ n, s.Grants r false .INTC_CORE_CLAIM k 0 → r = .sp k → n ∈ s.heldBy k 1 → (∀ p, s.runPrio k = some p → p < s.prio n) →
    (∀ m ∈ s.heldBy k 1, m ≠ n → s.prio m < s.prio n ∨ (s.prio m = s.prio n ∧ n < m)) → srcEdge n = false → s.asserted n = false → ∃ t, exec (.coreClaim r k) s = .next t ∧
      t.out = s.out ++ [.reply r.num 4095] ∧ t.src n = {} ∧ (∀ m, m ≠ n → t.src m = s.src m) ∧ s.SameFlds t [] ∧ s.SameMem t) ∧
  (s.Grants r false .INTC_CORE_CLAIM k 0 → r ≠ .sp k → ∃ t, exec (.coreClaim r k) s = .next t ∧ t.out = s.out ++ [.reply r.num 4095] ∧ t.intc = s.intc ∧ s.SameFlds t [] ∧ s.SameMem t) ∧
  (∀ id : BitVec 12, s.Grants r true .INTC_CORE_EOI k 0 → r = .sp k → (s.src id.toNat).dstate = 2 → (s.src id.toNat).toVector = false → (s.src id.toNat).holder / 2 = k → ∃ t,
    exec (.coreEoi r k id) s = .next t ∧ t.src id.toNat = {} ∧
    (srcEdge id.toNat = false → s.asserted id.toNat = true → (t.fld .INTC_PENDING_PEND (id.toNat / 32)).testBit (id.toNat % 32) = true) ∧
    (∀ m, m ≠ id.toNat → t.src m = s.src m) ∧ s.SameFlds t [] ∧ s.SameMem t) ∧
  (∀ id : BitVec 12, s.Grants r true .INTC_CORE_EOI k 0 → r = .sp k → (s.src id.toNat).dstate ≠ 2 ∨ (s.src id.toNat).toVector = true ∨ (s.src id.toNat).holder / 2 ≠ k → ∃ t,
    exec (.coreEoi r k id) s = .next t ∧ t.on .INTC_EVENT_BAD_EOI = true ∧ t.intc = s.intc ∧ s.SameFlds t [(.INTC_EVENT_BAD_EOI, 0)] ∧ s.SameMem t) ∧
  (∀ j : Fin 8, s.Grants r true .INTC_CORE_CFG k 0 → r = .sp j → ∃ t, exec (.corePairDisable r k) s = .next t ∧ t.on .INTC_CORE_CFG_EN k = false ∧
    (∀ n, n ∈ s.heldBy k 1 ∨ n ∈ s.heldBy k 2 → t.src n = {} ∧ (srcEdge n = true ∨ s.asserted n = true → (t.fld .INTC_PENDING_PEND (n / 32)).testBit (n % 32) = true)) ∧
    (∀ n, n ∉ s.heldBy k 1 → n ∉ s.heldBy k 2 → t.src n = s.src n) ∧ s.SameFlds t [(.INTC_CORE_CFG_EN, k)] ∧ s.SameMem t)

/-- Messages, host EOIs and pending words (R406, R410, R412, R415, R418): of the sources delivered to vectors that can send, the most urgent has its message issued and is in service; a function ends the service of its own vectors'
sources only; a PENDING word takes what is written to the bits of sources that exist, and asserted level sources in NONE pend again; DRAIN answers 64 ns after the last write of ENABLE or SRC_CFG. -/
def Obligations.MessagesAndPending : Prop := ∀ (s : State) (r : Req), s.Overlock →
  (∀ n, s.alive = true → s.msixPick = some n → ∃ t, exec .msixIssue s = .next t ∧ t.src n = { s.src n with dstate := 2 } ∧
    t.out = s.out ++ [.msix (s.src n).holder (s.vecE (s.src n).holder).addr (s.vecE (s.src n).holder).data] ∧ (∀ m, m ≠ n → t.src m = s.src m) ∧ s.SameFlds t [] ∧ s.SameMem t) ∧
  (∀ (f : Fin 8) (id : BitVec 12), s.Grants r true .INTC_HOST_EOI 0 0 → r = .pf f → (s.src id.toNat).dstate = 2 → (s.src id.toNat).toVector = true →
    s.vecPf (s.src id.toNat).holder = some f.val → ∃ t, exec (.hostEoi r id) s = .next t ∧ t.src id.toNat = {} ∧
      (srcEdge id.toNat = false → s.asserted id.toNat = true → (t.fld .INTC_PENDING_PEND (id.toNat / 32)).testBit (id.toNat % 32) = true) ∧
      (∀ m, m ≠ id.toNat → t.src m = s.src m) ∧ s.SameFlds t [] ∧ s.SameMem t) ∧
  (∀ (f : Fin 8) (id : BitVec 12), s.Grants r true .INTC_HOST_EOI 0 0 → r = .pf f →
    (s.src id.toNat).dstate ≠ 2 ∨ (s.src id.toNat).toVector = false ∨ s.vecPf (s.src id.toNat).holder ≠ some f.val → ∃ t, exec (.hostEoi r id) s = .next t ∧
      t.on .INTC_EVENT_BAD_EOI = true ∧ t.intc = s.intc ∧ s.SameFlds t [(.INTC_EVENT_BAD_EOI, 0)] ∧ s.SameMem t) ∧
  (∀ (w : Fin 128) (v : BitVec 32), s.Grants r true .INTC_PENDING w 0 → ∃ t, exec (.pendingWrite r w v) s = .next t ∧
    (∀ b, b < 32 → (t.fld .INTC_PENDING_PEND w).testBit b =
      ((v.getLsbD b && srcUsed (32 * w + b)) || (!srcEdge (32 * w + b) && s.asserted (32 * w + b) && (s.src (32 * w + b)).dstate == 0))) ∧
    (∀ w', w' ≠ w.val → t.fld .INTC_PENDING_PEND w' = s.fld .INTC_PENDING_PEND w') ∧ t.intc = s.intc ∧ s.SameFlds t [] ∧ s.SameMem t) ∧
  (s.Grants r false .INTC_DRAIN 0 0 → s.intc.lastCfg + 64 * nsT ≤ s.lNow → ∃ t, exec (.drainRead r) s = .next t ∧ t.out = s.out ++ [.reply r.num 0] ∧ t.intc = s.intc ∧
    s.SameFlds t [] ∧ s.SameMem t)

/-- SW_SET (R419, R417): a source number from 1200 to 1455 sets that source's PENDING, and no other bit; a bit that was 0 counts in PEND_CNT as a hardware change does; any other number is ignored and sets BAD_CFG. -/
def Obligations.SoftwareSources : Prop := ∀ (s : State) (r : Req) (n : BitVec 12), s.Overlock → s.Grants r true .INTC_SW_SET 0 0 →
  (1200 ≤ n.toNat → n.toNat < 1456 → ∃ t, exec (.swSet r n) s = .next t ∧
    (∀ m, (t.fld .INTC_PENDING_PEND (m / 32)).testBit (m % 32) = (decide (m = n.toNat) || (s.fld .INTC_PENDING_PEND (m / 32)).testBit (m % 32))) ∧
    t.fld .INTC_PEND_CNT_COUNT (n.toNat / 32) = (s.fld .INTC_PEND_CNT_COUNT (n.toNat / 32) +
      (if (s.fld .INTC_PENDING_PEND (n.toNat / 32)).testBit (n.toNat % 32) then 0 else 1)) % 2 ^ 32 ∧
    (∀ w, w ≠ n.toNat / 32 → t.fld .INTC_PEND_CNT_COUNT w = s.fld .INTC_PEND_CNT_COUNT w) ∧ t.intc = s.intc ∧ s.SameFlds t [] ∧ s.SameMem t) ∧
  (n.toNat < 1200 ∨ 1456 ≤ n.toNat → ∃ t, exec (.swSet r n) s = .next t ∧ t.on .INTC_EVENT_BAD_CFG = true ∧ t.intc = s.intc ∧
    s.SameFlds t [(.INTC_EVENT_BAD_CFG, 0)] ∧ s.SameMem t)

/-! ## Power, reset, starting, protection and the NVM (chapters 14 and 17) -/

/-- Power and resets (R10, R41, R438, R503, R535 to R538, R543): a loss of PWRGOOD puts every register field at its reset value and keeps the NVM and the fuses; RESET_N and the power-on detector put the device into Off and keep the
RWS fields; in Off every output's net stays at its level; the release of RESET_N with power good starts Boot with the straps as sampled. Pins and the test port (R543, R544, R550): a bank that loses power leaves its outputs' nets
at their levels; without VIO_CTL the partner reads as absent and the token as released; a TAP instruction takes the pins only while RESET_N is low. -/
def Obligations.PowerResetAndPins : Prop :=
  (∀ s : State, s.Overlock →
  (s.pins.pwrgood = false → ∃ t, exec .powerGood s = .next t ∧ t.pins = { s.pins with pwrgood := true } ∧ t.time.measuring = true ∧ t.dev = s.dev ∧ s.SameFlds t [] ∧ s.SameMem t) ∧
  (∃ t, exec .pwrgoodFall s = .next t ∧ t.dev = .off ∧ t.pins.pwrgood = false ∧ (∀ f i j, t.fld f i j = f.info.reset) ∧ (∀ u, u < 36 → t.pinLevel u = s.pinLevel u) ∧
    t.boot.nvm = s.boot.nvm ∧ t.boot.otpKey = s.boot.otpKey ∧ t.boot.otpRevoked = s.boot.otpRevoked ∧ t.boot.otpCount = s.boot.otpCount) ∧
  (s.dev ≠ .off → ∃ t, exec .resetNAssert s = .next t ∧ t.dev = .off ∧ t.pins.resetN = false ∧ t.boot.cause = 1 ∧
    (∀ f i j, f.info.acc = .rws → t.fld f i j = s.fld f i j) ∧ (∀ f i j, f.info.acc ≠ .rws → f ≠ .TPL_OSC_STATUS_FREQ → t.fld f i j = f.info.reset) ∧
    (∀ u, u < 36 → t.pinLevel u = s.pinLevel u) ∧ t.boot.nvm = s.boot.nvm ∧ t.boot.otpKey = s.boot.otpKey ∧ t.lNow = 0 ∧ t.xspiReset = true ∧ t.clkreqLow = false) ∧
  (s.dev ≠ .off → ∃ t, exec (.supplyPorDetect true) s = .next t ∧ t.dev = .off ∧ t.pins.porHold = true ∧ t.boot.cause = 0 ∧
    (∀ f i j, f.info.acc ≠ .rws → f ≠ .TPL_OSC_STATUS_FREQ → t.fld f i j = f.info.reset) ∧ (∀ u, u < 36 → t.pinLevel u = s.pinLevel u) ∧ t.boot.nvm = s.boot.nvm) ∧
  (∃ t, exec (.supplyPorDetect false) s = .next t ∧ t.dev = s.dev ∧ t.pins = { s.pins with porHold := false } ∧ s.SameFlds t [] ∧ s.SameMem t) ∧
  (∀ (mode : Fin 4) (right o : Bool), s.dev = .off → s.pins.pwrgood = true → s.pins.porHold = false → ∃ t, exec (.resetRelease mode right o) s = .next t ∧ t.dev = .boot ∧
    t.pins = { s.pins with resetN := true, jtag := 0, mode := mode, strapOpen := o } ∧ t.fld .PAIR_STATUS_SIDE = b2n right ∧ t.boot = s.boot ∧ t.clkreqLow = true ∧
    s.SameFlds t [(.PAIR_STATUS_SIDE, 0)] ∧ s.SameMem t) ∧
  (∀ (mode : Fin 4) (right o : Bool), s.dev = .off → s.pins.pwrgood = false ∨ s.pins.porHold = true → ∃ t, exec (.resetRelease mode right o) s = .next t ∧ t.dev = .off ∧
    s.SameFlds t [] ∧ s.SameMem t)) ∧
  (∀ s : State, s.Overlock →
  (∀ k : Fin 5, k.val ≠ 4 → ∃ t, exec (.vioBankPowerChange k false) s = .next t ∧ t.bankOn k = false ∧ (∀ u, u < 36 → t.pinLevel u = s.pinLevel u) ∧
    (∀ m, m ≠ k.val → t.bankOn m = s.bankOn m) ∧ s.SameFlds t [] ∧ s.SameMem t) ∧
  (∀ k : Fin 5, ∃ t, exec (.vioBankPowerChange k true) s = .next t ∧ t.bankOn k = true ∧ (∀ u, u < 36 → bankOf u ≠ k → t.pinLevel u = s.pinLevel u) ∧
    (∀ u, u < 36 → bankOf u = k → t.drives u = true → t.pinLevel u = ((s.outU u).level != s.on .TPL_OUT_CFG_INVERT u)) ∧ s.SameFlds t [] ∧ s.SameMem t) ∧
  (s.dev ≠ .off → ∃ t, exec (.vioBankPowerChange 4 false) s = .next t ∧ t.fld .PAIR_STATUS_PEER = 0 ∧ t.on .PAIR_STATUS_TOKEN_IN = false ∧ t.on .PAIR_STATUS_FS_IN = false ∧
    s.SameFlds t [(.PAIR_STATUS_PEER, 0), (.PAIR_STATUS_TOKEN_IN, 0), (.PAIR_STATUS_FS_IN, 0), (.PAIR_STATUS_BEAT_OK, 0)] ∧ s.SameMem t) ∧
  (∀ i : Fin 4, s.pins.resetN = false → ∃ t, exec (.jtagInstructionLoad i) s = .next t ∧ t.pins = { s.pins with jtag := i } ∧ s.SameFlds t [] ∧ s.SameMem t) ∧
  (∀ i : Fin 4, s.pins.resetN = true → ∃ t, exec (.jtagInstructionLoad i) s = .next t ∧ t.pins = { s.pins with jtag := 0 } ∧ s.SameFlds t [] ∧ s.SameMem t))

/-- Boot steps (R426, R438, R441, R445): a step whose conditions hold within its limit completes and the next begins, and one past its limit does not; BS03 waits 60 µs from the release of RESET_N for the NVM; with a strap open BS01
does not complete; BS06 enables SP1 to SP7; a mandatory step that fails is counted, recorded as the failure in a valid Boot Record, and resets the device with cause 2. The entry to service (R437, R443, R445, R482): a device
without a pair that has acquired, or whose Acquire has taken its time, enters Active-Solo at BS14 with the start of service recorded; after a short Acquire ACQ_SHORT is set and a Degraded fault recorded; before the limit, and
without what it needs, it stays in Acquire. -/
def Obligations.StartingTheDevice : Prop :=
  (∀ (s : State) (low : Bool), s.Overlock → s.dev = .boot →
  (s.stepNo = 1 → s.pins.strapOpen = false → s.time.refAOk = true ∨ s.time.refBOk = true → s.skips 2 = false → s.stepInTime .plain = true → ∃ t, exec (.bootStepComplete .plain low) s = .next t ∧ t.stepNo = 2 ∧
    t.boot.stepL = s.lNow ∧ t.dev = .boot ∧ s.SameFlds t [(.BOOT_STATUS_STEP, 0)] ∧ s.SameMem t) ∧
  (s.stepNo = 1 → s.pins.strapOpen = true → ∃ t, exec (.bootStepComplete .plain low) s = .next t ∧ t.boot = s.boot ∧ t.dev = .boot ∧ s.SameFlds t [] ∧ s.SameMem t) ∧
  (s.stepNo = 2 → s.time.locked = true → s.on .TPL_OSC_STATUS_FREQ = true → s.skips 3 = false → s.stepInTime .plain = true → ∃ t, exec (.bootStepComplete .plain low) s = .next t ∧ t.stepNo = 3 ∧
    s.SameFlds t [(.BOOT_STATUS_STEP, 0)] ∧ s.SameMem t) ∧
  (s.stepNo = 6 → s.boot.pattern.dramPolicy ≠ 0 → s.skips 7 = false → s.alts 7 = false → s.stepInTime .plain = true → ∃ t, exec (.bootStepComplete .plain low) s = .next t ∧ t.stepNo = 7 ∧
    (∀ k, 1 ≤ k → k ≤ 7 → t.on .INTC_CORE_CFG_EN k = true) ∧ s.SameFlds t ((.BOOT_STATUS_STEP, 0) :: (List.range 7).map fun k => (.INTC_CORE_CFG_EN, k + 1)) ∧ s.SameMem t) ∧
  (∀ b0 b1 : Nat, s.stepNo = 7 → s.alts 7 = false → s.skips 8 = false → 8 ≤ b0 + b1 → s.stepInTime (.dram b0 b1 true true) = true → ∃ t, exec (.bootStepComplete (.dram b0 b1 true true) low) s = .next t ∧ t.stepNo = 8 ∧
    t.dma.dramSize = (b0 + b1) / 8 * 7 ∧ s.SameFlds t [(.BOOT_STATUS_STEP, 0)] ∧ s.SameMem t) ∧
  (s.stepNo = 11 → s.pins.mode = 1 → s.stepInTime .plain = true → ∃ t, exec (.bootStepComplete .plain low) s = .next t ∧ t.dev = .test ∧ t.boot.pcieReady = true) ∧
  (∀ (n : Nat) (code : BitVec 8), s.stepNo = n → 4 ≤ n → n ≤ 10 → s.optional n = false →
    recGet (recMandatory n code.toNat (s.lNow / (1000000 * nsT)) s.boot.record) 18 1 ≠ 1 → ∃ t, exec (.bootStepTimeout code true low) s = .next t ∧ t.dev = .boot ∧ t.stepNo = 1 ∧
      t.boot.cause = 2 ∧ t.lNow = 0 ∧ t.ctr (devWord (177 + n)) = ctrAdd (s.ctr (devWord (177 + n))) 1 ∧
      (∃ w, t.sectorRec ((s.boot.recSector + 1) % 16) = some w ∧ recGet w 9 1 = n ∧ recGet w 11 1 = code.toNat ∧ recGet w 4 4 = (recGet s.boot.record 4 4 + 1) % 2 ^ 32)) ∧
  (∀ w : BootWork, s.stepInTime w = false → ∃ t, exec (.bootStepComplete w low) s = .next t ∧ t.boot = s.boot ∧ t.dev = .boot ∧ s.SameFlds t [] ∧ s.SameMem t) ∧
  (∀ size : Nat, s.stepNo = 3 → s.lNow < 60000 * nsT → ∃ t, exec (.bootStepComplete (.nvm size) low) s = .next t ∧ t.boot = s.boot ∧ t.dev = .boot ∧ s.SameFlds t [] ∧ s.SameMem t)) ∧
  (∀ s : State, s.Overlock → s.dev = .acquire → s.role = 0 →
  (s.acquired = true → ∃ t, exec (.acquireComplete true) s = .next t ∧ t.dev = .solo ∧ t.stepNo = 14 ∧ t.thim.serviceSince = some s.lNow ∧
    t.boot.otpCount = (if s.boot.pattern.advance then max s.boot.otpCount s.boot.pattern.secVersion else s.boot.otpCount) ∧
    (∃ w, t.sectorRec t.boot.recSector = some w ∧ recGet w 9 1 = 0 ∧ recGet w 10 1 = 0 ∧ recGet w 24 4 = (recGet s.boot.record 24 4 + 1) % 2 ^ 32 ∧
      recGet w 4 4 = (recGet s.boot.record 4 4 + 1) % 2 ^ 32)) ∧
  (s.acquired = false → ∃ t, exec (.acquireComplete true) s = .next t ∧ t.dev = .acquire ∧ t.boot = s.boot ∧ s.SameFlds t [] ∧ s.SameMem t) ∧
  (s.acquired = false → s.boot.stepL + s.boot.pattern.acqTimeoutS * secT ≤ s.lNow → ∃ t, exec (.acqTimeoutExpiry true) s = .next t ∧ t.dev = .solo ∧ t.stepNo = 14 ∧
    t.on .BOOT_STATUS_ACQ_SHORT = true ∧ t.on .THIM_EVENT_DEGRADED = true) ∧
  (s.lNow < s.boot.stepL + s.boot.pattern.acqTimeoutS * secT → ∃ t, exec (.acqTimeoutExpiry true) s = .next t ∧ t.dev = .acquire ∧ t.boot = s.boot ∧ s.SameFlds t [] ∧ s.SameMem t))

/-- BOOT.CTRL (R438, R444, R446 to R448): RESET with its key restarts the device with cause 3 and keeps the RWS fields; CLEAR_MARKS, PREF_SLOT and CLEAR_FAILS write a valid record of the next generation; a record that cannot be
written leads to Stay-Down with REC_FAIL and BLOCKED. -/
def Obligations.BootControl : Prop := ∀ (s : State) (r : Req), s.Overlock → s.Grants r true .BOOT_CTRL 0 0 →
  (∃ t, exec (.bootCtrlReset r 0x0B07) s = .next t ∧ t.dev = .boot ∧ t.stepNo = 1 ∧ t.boot.cause = 3 ∧ t.lNow = 0 ∧ (∀ f i j, f.info.acc = .rws → t.fld f i j = s.fld f i j) ∧
    t.boot.nvm = s.boot.nvm) ∧
  (∀ key, key ≠ 0x0B07 → ∃ t, exec (.bootCtrlReset r key) s = .next t ∧ t.dev = s.dev ∧ t.boot = s.boot ∧ s.SameFlds t [] ∧ s.SameMem t) ∧
  (∃ t w, exec (.clearMarks r true) s = .next t ∧ t.dev = s.dev ∧ t.sectorRec t.boot.recSector = some w ∧ t.boot.recSector = (s.boot.recSector + 1) % 16 ∧ recGet w 12 2 = 0 ∧ recGet w 14 2 = 0 ∧
    recGet w 4 4 = (recGet s.boot.record 4 4 + 1) % 2 ^ 32 ∧ s.SameFlds t []) ∧
  (∀ b : Bool, ∃ t w, exec (.prefSlotWrite r b true) s = .next t ∧ t.sectorRec t.boot.recSector = some w ∧ recGet w 16 1 = b2n b ∧ recGet w 12 2 = 0 ∧ recGet w 14 2 = 0 ∧
    t.fld .BOOT_CTRL_PREF_SLOT = b2n b ∧ s.SameFlds t [(.BOOT_CTRL_PREF_SLOT, 0)]) ∧
  (r = .pf 0 → ∃ t w, exec (.clearFails r true) s = .next t ∧ t.sectorRec t.boot.recSector = some w ∧ recGet w 18 1 = 0 ∧ recGet w 9 1 = 0 ∧ recGet w 10 1 = 0 ∧
    t.on .BOOT_STATUS_BLOCKED = false ∧ t.on .BOOT_STATUS_REC_FAIL = false ∧ s.SameFlds t [(.BOOT_STATUS_BLOCKED, 0), (.BOOT_STATUS_REC_FAIL, 0)]) ∧
  (∃ t, exec (.clearMarks r false) s = .next t ∧ t.dev = .stayDown ∧ t.on .BOOT_STATUS_REC_FAIL = true ∧ t.on .BOOT_STATUS_BLOCKED = true ∧ (∀ p, p < 128 → t.linkState p = 0))

/-- Protection (R456 to R460, R557): AWT_CMD moves entries at P0, refuses what an entry cannot hold, and with PF_PRIV advances PROT_GEN; a requester below P0 changes nothing; reading the denial log clears it. -/
def Obligations.ProtectionTable : Prop := ∀ (s : State) (r : Req) (i : Fin 1024), s.Overlock →
  (s.Grants r true .BOOT_AWT_CMD 0 0 → ∃ t, exec (.awtRead r i) s = .next t ∧ t.fld .BOOT_AWT_DATA_DATA 0 = s.awtEntry i % 2 ^ 64 ∧ t.fld .BOOT_AWT_DATA_DATA 1 = s.awtEntry i / 2 ^ 64 % 2 ^ 64 ∧
    t.fld .BOOT_AWT_STATUS_CODE = 0 ∧ t.boot = s.boot ∧
    s.SameFlds t [(.BOOT_AWT_DATA_DATA, 0), (.BOOT_AWT_DATA_DATA, 1), (.BOOT_AWT_CMD_OP, 0), (.BOOT_AWT_CMD_INDEX, 0), (.BOOT_AWT_STATUS_CODE, 0)] ∧ s.SameMem t) ∧
  (s.Grants r true .BOOT_AWT_CMD 0 0 → atP0 r = true → awtBad (s.fld .BOOT_AWT_DATA_DATA 0 + s.fld .BOOT_AWT_DATA_DATA 1 * 2 ^ 64) = false → ∃ t, exec (.awtWrite r i) s = .next t ∧
    t.awtEntry i = s.fld .BOOT_AWT_DATA_DATA 0 + s.fld .BOOT_AWT_DATA_DATA 1 * 2 ^ 64 ∧ (∀ k, k ≠ i.val → t.awtEntry k = s.awtEntry k) ∧ t.fld .BOOT_AWT_STATUS_CODE = 0 ∧
    t.fld .BOOT_PROT_GEN_GEN = (s.fld .BOOT_PROT_GEN_GEN + 1) % 2 ^ 32 ∧
    s.SameFlds t [(.BOOT_AWT_CMD_OP, 0), (.BOOT_AWT_CMD_INDEX, 0), (.BOOT_AWT_STATUS_CODE, 0), (.BOOT_PROT_GEN_GEN, 0)] ∧ s.SameMem t) ∧
  (s.Grants r true .BOOT_AWT_CMD 0 0 → atP0 r = true → awtBad (s.fld .BOOT_AWT_DATA_DATA 0 + s.fld .BOOT_AWT_DATA_DATA 1 * 2 ^ 64) = true → ∃ t, exec (.awtWrite r i) s = .next t ∧
    t.boot = s.boot ∧ t.fld .BOOT_AWT_STATUS_CODE = 7 ∧ s.SameFlds t [(.BOOT_AWT_CMD_OP, 0), (.BOOT_AWT_CMD_INDEX, 0), (.BOOT_AWT_STATUS_CODE, 0)] ∧ s.SameMem t) ∧
  (∀ v : BitVec 16, s.Grants r true .BOOT_PF_PRIV 0 0 → atP0 r = true → privOk v.toNat = true → ∃ t, exec (.pfPrivWrite r v) s = .next t ∧ t.fld .BOOT_PF_PRIV_LEVEL = v.toNat / 4 * 4 ∧
    t.fld .BOOT_PROT_GEN_GEN = (s.fld .BOOT_PROT_GEN_GEN + 1) % 2 ^ 32 ∧ s.SameFlds t [(.BOOT_PF_PRIV_LEVEL, 0), (.BOOT_PROT_GEN_GEN, 0)] ∧ s.SameMem t) ∧
  (∀ v : BitVec 16, s.Grants r true .BOOT_PF_PRIV 0 0 → atP0 r = false ∨ privOk v.toNat = false → ∃ t, exec (.pfPrivWrite r v) s = .next t ∧ s.SameFlds t [] ∧ s.SameMem t) ∧
  (s.Grants r true .BOOT_AWT_CMD 0 0 → atP0 r = false → ∃ t, exec (.awtWrite r i) s = .next t ∧ t.boot = s.boot ∧ s.SameFlds t [] ∧ s.SameMem t) ∧
  (s.Grants r false .BOOT_AWT_DENY_LOG 0 0 → ∃ t, exec (.awtDenyLogRead r) s = .next t ∧ t.out = s.out ++ [.reply r.num (s.regNow .BOOT_AWT_DENY_LOG 0 0)] ∧
    t.on .BOOT_AWT_DENY_LOG_VALID = false ∧ s.SameFlds t [(.BOOT_AWT_DENY_LOG_VALID, 0), (.BOOT_AWT_DENY_LOG_PF, 0), (.BOOT_AWT_DENY_LOG_WRITE, 0), (.BOOT_AWT_DENY_LOG_BAR, 0),
      (.BOOT_AWT_DENY_LOG_OFFSET, 0)] ∧ s.SameMem t)

/-- The NVM and the fuses (R436, R461): READ copies a sector into the buffer; PROGRAM writes the buffer to a sector and ERASE empties one, every other byte as before, and both are refused on a sector that is kept; a key digest and a
revoke bit are blown in Recovery only; a command ends with BUSY 0, its code and NVM_DONE. That an erased byte reads 0xFF is the model's (log entry 17). -/
def Obligations.NvmAndFuses : Prop := ∀ (s : State) (r : Req) (n : BitVec 17) (k : Fin 4), s.Overlock → s.Grants r true .BOOT_NVM_CMD 0 0 → s.dev ≠ .failSilent →
  (s.on .BOOT_NVM_STATUS_BUSY = false → ∃ t, exec (.nvmRead r n false) s = .next t ∧ (∀ i, i < 4096 → t.boot.nvmBuf.byte i = s.nvmByte (n.toNat * 4096 + i)) ∧ t.boot.nvmCode = 0 ∧
    t.on .BOOT_NVM_STATUS_BUSY = true ∧ s.SameFlds t [(.BOOT_NVM_CMD_OP, 0), (.BOOT_NVM_CMD_KEY_SLOT, 0), (.BOOT_NVM_CMD_SECTOR, 0), (.BOOT_NVM_STATUS_BUSY, 0)] ∧ s.SameMem t) ∧
  (s.on .BOOT_NVM_STATUS_BUSY = false → s.sectorKept n.toNat = false → ∃ t, exec (.nvmProgram r n .ok) s = .next t ∧
    (∀ a, t.nvmByte a = if n.toNat * 4096 ≤ a ∧ a < n.toNat * 4096 + 4096 then s.boot.nvmBuf.byte (a - n.toNat * 4096) else s.nvmByte a) ∧ t.boot.nvmCode = 0 ∧
    t.localMem = s.localMem ∧ t.dram = s.dram ∧ t.on .BOOT_NVM_STATUS_BUSY = true ∧
    s.SameFlds t [(.BOOT_NVM_CMD_OP, 0), (.BOOT_NVM_CMD_KEY_SLOT, 0), (.BOOT_NVM_CMD_SECTOR, 0), (.BOOT_NVM_STATUS_BUSY, 0)]) ∧
  (s.on .BOOT_NVM_STATUS_BUSY = false → s.sectorKept n.toNat = false → ∃ t, exec (.nvmErase r n .ok) s = .next t ∧
    (∀ a, t.nvmByte a = if n.toNat * 4096 ≤ a ∧ a < n.toNat * 4096 + 4096 then 0xFF#8 else s.nvmByte a) ∧ t.boot.nvmCode = 0 ∧ t.localMem = s.localMem ∧ t.dram = s.dram ∧
    s.SameFlds t [(.BOOT_NVM_CMD_OP, 0), (.BOOT_NVM_CMD_KEY_SLOT, 0), (.BOOT_NVM_CMD_SECTOR, 0), (.BOOT_NVM_STATUS_BUSY, 0)]) ∧
  (∀ (c : Instr) (res : NvmRes), c ∈ [Instr.nvmProgram r n res, .nvmErase r n res] → s.on .BOOT_NVM_STATUS_BUSY = false → s.sectorKept n.toNat = true → ∃ t, exec c s = .next t ∧ t.boot.nvmCode = 1 ∧
    s.SameFlds t [(.BOOT_NVM_CMD_OP, 0), (.BOOT_NVM_CMD_KEY_SLOT, 0), (.BOOT_NVM_CMD_SECTOR, 0), (.BOOT_NVM_STATUS_BUSY, 0)] ∧ s.SameMem t) ∧
  (s.on .BOOT_NVM_STATUS_BUSY = false → s.dev = .recovery → s.boot.otpKey.get none k = none → ∃ t, exec (.otpKey r k) s = .next t ∧
    t.boot.otpKey.get none k = some (beNat (s.boot.nvmBuf.readBytes 0 48)) ∧ (∀ m, m ≠ k.val → t.boot.otpKey.get none m = s.boot.otpKey.get none m) ∧ t.boot.nvmCode = 0 ∧ s.SameMem t) ∧
  (s.on .BOOT_NVM_STATUS_BUSY = false → s.dev = .recovery → ∃ t, exec (.otpRevoke r k) s = .next t ∧ t.boot.otpRevoked.testBit k = true ∧
    (∀ m, m ≠ k.val → t.boot.otpRevoked.testBit m = s.boot.otpRevoked.testBit m) ∧ t.boot.nvmCode = 0 ∧ s.SameMem t) ∧
  (∀ c ∈ [Instr.otpKey r k, .otpRevoke r k], s.on .BOOT_NVM_STATUS_BUSY = false → s.dev ≠ .recovery → ∃ t, exec c s = .next t ∧ t.boot.nvmCode = 1 ∧ t.boot.otpKey = s.boot.otpKey ∧
    t.boot.otpRevoked = s.boot.otpRevoked ∧ s.SameMem t) ∧
  (s.on .BOOT_NVM_STATUS_BUSY = true → ∃ t, exec .nvmCmdComplete s = .next t ∧ t.on .BOOT_NVM_STATUS_BUSY = false ∧ t.fld .BOOT_NVM_STATUS_CODE = s.boot.nvmCode % 16 ∧
    t.on .BOOT_EVENT_NVM_DONE = true ∧ (s.boot.nvmCode ≠ 0 → t.on .BOOT_EVENT_NVM_ERR = true) ∧ t.boot = s.boot ∧
    s.SameFlds t [(.BOOT_NVM_STATUS_BUSY, 0), (.BOOT_NVM_STATUS_CODE, 0), (.BOOT_EVENT_NVM_DONE, 0), (.BOOT_EVENT_NVM_ERR, 0)] ∧ s.SameMem t)

/-! ## Basting (14.6) -/

/-- Staging groups (R449, R450, R453 to R455): STAGE appends a write to an EMPTY or OPEN group and refuses a register of class X; COMMIT arms the group with its domain and time, or releases it at once where the time is less than 2 ms
away; ABORT empties a group; PEEK shows a pending value; GO while BUSY only sets BASTE_COLLIDE. The release of a group (R451, R453): part 1 makes it RELEASING, and a gate list COMMIT refused for a switch that is already pending
makes it FAILED with its address and discards its writes; part 2 performs its writes and leaves it EMPTY with GROUP_DONE; before its time a release does nothing. -/
def Obligations.Basting : Prop :=
  (∀ (s : State) (r : Req) (g : Fin 16), s.Overlock → s.Grants r true .BOOT_BASTE_CMD 0 0 →
  (∀ (wide : Bool) (addr : BitVec 26), s.on .BOOT_BASTE_STATUS_BUSY = false → (∀ y, regOver addr.toNat = some y → y.reg.hasX = false) →
    s.allowed r true 0 addr.toNat (if wide then 8 else 4) = true → s.bastePlaces < 8192 → s.grpState g = 0 ∨ s.grpState g = 1 → ∃ t, exec (.basteStage r g wide addr) s = .next t ∧
      t.grp g = { s.grp g with writes := (s.grp g).writes ++ [s.stagedWrite addr.toNat wide (s.fld .BOOT_BASTE_DATA_DATA)] } ∧ t.grpState g = 1 ∧ t.fld .BOOT_BASTE_STATUS_CODE = 0 ∧
      (∀ g', g' ≠ g.val → t.grp g' = s.grp g') ∧ s.SameFlds t [(.BOOT_BASTE_CMD_OP, 0), (.BOOT_BASTE_CMD_GROUP, 0), (.BOOT_BASTE_CMD_DOM, 0), (.BOOT_BASTE_CMD_WIDTH, 0),
        (.BOOT_BASTE_CMD_ADDR, 0), (.BOOT_BASTE_GROUP_STATE, g), (.BOOT_BASTE_STATUS_CODE, 0)] ∧ s.SameMem t) ∧
  (∀ (wide : Bool) (addr : BitVec 26) (y : RegRef), s.on .BOOT_BASTE_STATUS_BUSY = false → regOver addr.toNat = some y → y.reg.hasX = true → ∃ t, exec (.basteStage r g wide addr) s = .next t ∧
    t.fld .BOOT_BASTE_STATUS_CODE = 1 ∧ t.on .BOOT_EVENT_BASTE_REFUSED = true ∧ t.boot = s.boot ∧
    s.SameFlds t [(.BOOT_BASTE_CMD_OP, 0), (.BOOT_BASTE_CMD_GROUP, 0), (.BOOT_BASTE_CMD_DOM, 0), (.BOOT_BASTE_CMD_WIDTH, 0), (.BOOT_BASTE_CMD_ADDR, 0), (.BOOT_BASTE_STATUS_CODE, 0),
      (.BOOT_EVENT_BASTE_REFUSED, 0)] ∧ s.SameMem t) ∧
  (∀ d : Dom, s.on .BOOT_BASTE_STATUS_BUSY = false → s.grpState g = 1 → s.voted d + 2000000 * nsT ≤ s.basteTime → ∃ t, exec (.basteCommit r g d) s = .next t ∧ t.grpState g = 2 ∧
    (t.grp g).dom = d ∧ (t.grp g).t = s.basteTime ∧ (t.grp g).writes = (s.grp g).writes ∧ t.fld .BOOT_BASTE_STATUS_CODE = 0 ∧
    s.SameFlds t [(.BOOT_BASTE_CMD_OP, 0), (.BOOT_BASTE_CMD_GROUP, 0), (.BOOT_BASTE_CMD_DOM, 0), (.BOOT_BASTE_CMD_WIDTH, 0), (.BOOT_BASTE_CMD_ADDR, 0), (.BOOT_BASTE_GROUP_STATE, g),
      (.BOOT_BASTE_STATUS_CODE, 0)] ∧ s.SameMem t) ∧
  (∀ d : Dom, s.on .BOOT_BASTE_STATUS_BUSY = false → s.grpState g = 1 → s.basteTime < s.voted d + 2000000 * nsT → ∃ t, exec (.basteCommit r g d) s = .next t ∧ t.grpState g = 3 ∧
    t.on .BOOT_BASTE_STATUS_BUSY = true ∧ t.on .BOOT_EVENT_LATE_COMMIT = true ∧ (t.grp g).writes = (s.grp g).writes ∧ t.ctr (devWord 192) = ctrAdd (s.ctr (devWord 192)) 1 ∧
    s.SameFlds t [(.BOOT_BASTE_CMD_OP, 0), (.BOOT_BASTE_CMD_GROUP, 0), (.BOOT_BASTE_CMD_DOM, 0), (.BOOT_BASTE_CMD_WIDTH, 0), (.BOOT_BASTE_CMD_ADDR, 0), (.BOOT_BASTE_GROUP_STATE, g),
      (.BOOT_BASTE_STATUS_CODE, 0), (.BOOT_BASTE_STATUS_BUSY, 0), (.BOOT_EVENT_LATE_COMMIT, 0)] ∧ s.SameMem t) ∧
  (s.on .BOOT_BASTE_STATUS_BUSY = false → s.grpState g = 1 ∨ s.grpState g = 2 ∨ s.grpState g = 4 → ∃ t, exec (.basteAbort r g) s = .next t ∧ t.grpState g = 0 ∧ t.grp g = {} ∧
    (∀ g', g' ≠ g.val → t.grp g' = s.grp g') ∧ s.SameFlds t [(.BOOT_BASTE_CMD_OP, 0), (.BOOT_BASTE_CMD_GROUP, 0), (.BOOT_BASTE_CMD_DOM, 0), (.BOOT_BASTE_CMD_WIDTH, 0),
      (.BOOT_BASTE_CMD_ADDR, 0), (.BOOT_BASTE_GROUP_STATE, g), (.BOOT_BASTE_STATUS_CODE, 0)] ∧ s.SameMem t) ∧
  (s.on .BOOT_BASTE_STATUS_BUSY = false → s.grpState g = 3 → ∃ t, exec (.basteAbort r g) s = .next t ∧ t.fld .BOOT_BASTE_STATUS_CODE = 5 ∧ t.on .BOOT_EVENT_BASTE_REFUSED = true ∧
    t.boot = s.boot ∧ t.grpState g = 3 ∧ s.SameMem t) ∧
  (∀ (addr : BitVec 26) (x : RegRef), s.on .BOOT_BASTE_STATUS_BUSY = false → regOver addr.toNat = some x → x.reg ≠ .BOOT_BASTE_CMD →
    (∃ f ∈ x.reg.fields, (s.pendingB x f).isSome = true) → ∃ t, exec (.bastePeek r addr) s = .next t ∧ t.on .BOOT_BASTE_STATUS_PEEK_VALID = true ∧
      t.fld .BOOT_BASTE_DATA_DATA = s.pendingReg x % 2 ^ 64 ∧ t.boot = s.boot ∧ s.SameMem t) ∧
  (∀ addr : BitVec 26, s.on .BOOT_BASTE_STATUS_BUSY = false → (∀ x, regOver addr.toNat = some x → ∀ f ∈ x.reg.fields, s.pendingB x f = none) → ∃ t, exec (.bastePeek r addr) s = .next t ∧
    t.on .BOOT_BASTE_STATUS_PEEK_VALID = false ∧ t.fld .BOOT_BASTE_DATA_DATA = s.fld .BOOT_BASTE_DATA_DATA ∧ t.boot = s.boot ∧ s.SameMem t) ∧
  (∀ (c : Instr) (wide : Bool) (d : Dom) (addr : BitVec 26), c ∈ [Instr.basteStage r g wide addr, .basteCommit r g d, .basteAbort r g, .bastePeek r addr] → s.on .BOOT_BASTE_STATUS_BUSY = true → ∃ t,
    exec c s = .next t ∧ t.on .BOOT_EVENT_BASTE_COLLIDE = true ∧ t.boot = s.boot ∧ s.SameFlds t [(.BOOT_EVENT_BASTE_COLLIDE, 0)] ∧ s.SameMem t)) ∧
  (∀ (s : State) (g : Fin 16), s.Overlock → s.dev ≠ .off →
  (s.gclDue g = true → (∀ w ∈ (s.grp g).writes, w.commitPort = none) → ∃ t, exec (.basteReleaseGcl g) s = .next t ∧ t.grpState g = 3 ∧ t.grp g = { s.grp g with gclDone := true } ∧
    s.SameFlds t [(.BOOT_BASTE_GROUP_STATE, g)] ∧ s.SameMem t) ∧
  (∀ (w : Staged1) (p : Nat), s.gclDue g = true → (s.grp g).writes = [w] → w.commitPort = some p → s.switchPending p = true → (s.grp g).late = false → ∃ t,
    exec (.basteReleaseGcl g) s = .next t ∧ t.grpState g = 4 ∧ (t.grp g).writes = [] ∧ t.fld .BOOT_BASTE_GROUP_FAIL_ADDR g = w.addr % 2 ^ (Fl.info .BOOT_BASTE_GROUP_FAIL_ADDR).width ∧
    t.on .BOOT_EVENT_GROUP_FAIL = true) ∧
  (s.gclDue g = false → ∃ t, exec (.basteReleaseGcl g) s = .next t ∧ t.boot = s.boot ∧ s.SameFlds t [] ∧ s.SameMem t) ∧
  (∀ (i : Fin 128) (v : BitVec 32) (err : Bool), s.releaseDue g = true → (s.grp g).writes = [⟨addrOf .INTC_ENABLE i 0, false, v.toNat, none⟩] → ∃ t, exec (.basteRelease g err) s = .next t ∧
    t.fld .INTC_ENABLE_EN i = usedBits i v.toNat ∧ t.grpState g = 0 ∧ t.grp g = {} ∧ t.on .BOOT_EVENT_GROUP_DONE = true ∧
    s.SameFlds t [(.INTC_ENABLE_EN, i), (.BOOT_BASTE_GROUP_STATE, g), (.BOOT_EVENT_GROUP_DONE, 0), (.BOOT_BASTE_STATUS_BUSY, 0)] ∧ s.SameMem t) ∧
  (∀ err : Bool, s.releaseDue g = false → ∃ t, exec (.basteRelease g err) s = .next t ∧ t.boot = s.boot ∧ s.SameFlds t [] ∧ s.SameMem t))

/-! ## Thimble and the safety mechanisms (15.2 to 15.4, 15.10 to 15.12) -/

/-- Fault records (R474 to R477): a Notice or Degraded fault is queued, raises WORST and its event and begins its handling; with the queue full it is lost and counted, and its handling does not begin; a Fatal fault puts the device
into Fail-Silent with OVL_FS asserted, OVL_TOKEN released, the beat low, every transmission ended and every net held; ACK ends the handling of its severity; reading the log removes the head. -/
def Obligations.FaultRecords : Prop := ∀ s : State, s.Overlock → s.dev ≠ .off →
  (∀ (sev : Fin 2) (sm : Fin 23) (unit : Fin 512) (det : BitVec 12), s.thim.queue.length < 64 → s.thim.handling = [] → s.fatalHandling = false → ∃ t,
    exec (.faultRecord ⟨sev, by omega⟩ sm unit det) s = .next t ∧ t.thim = { s.thim with queue := s.thim.queue ++ [⟨sev + 1, sm, unit, det.toNat, s.lUs % 2 ^ 32⟩], handling := [sev.val + 1] } ∧
      t.fld .THIM_STATUS_WORST = max (s.fld .THIM_STATUS_WORST) (sev + 1) ∧ t.on (if sev = 0 then .THIM_EVENT_NOTICE else .THIM_EVENT_DEGRADED) = true ∧ t.dev = s.dev ∧
      t.ctr (faultWord sm (sev + 1)) = ctrAdd (s.ctr (faultWord sm (sev + 1))) 1 ∧
      s.SameFlds t [(.THIM_STATUS_WORST, 0), (.THIM_EVENT_NOTICE, 0), (.THIM_EVENT_DEGRADED, 0)] ∧ s.SameMem t) ∧
  (∀ (sev : Fin 2) (sm : Fin 23) (unit : Fin 512) (det : BitVec 12), 64 ≤ s.thim.queue.length → ∃ t, exec (.faultRecord ⟨sev, by omega⟩ sm unit det) s = .next t ∧
    t.thim = s.thim ∧ t.fld .THIM_STATUS_LOST = min 127 (s.fld .THIM_STATUS_LOST + 1) ∧ t.on .THIM_EVENT_LOG_OVF = true ∧ t.dev = s.dev ∧ s.SameFlds t faultFlds ∧ s.SameMem t) ∧
  (∀ (sm : Fin 23) (unit : Fin 512) (det : BitVec 12), s.dev ≠ .failSilent → ∃ t, exec (.faultRecord 2 sm unit det) s = .next t ∧ t.dev = .failSilent ∧
    t.pair.fsDrive = true ∧ t.on .PAIR_STATUS_TOKEN_DRV = false ∧ t.pair.beatLevel = false ∧ (∀ p, p < 128 → (t.pt p).tx = none) ∧ (∀ u, u < 36 → t.pinLevel u = s.pinLevel u) ∧
    (s.fatalHandling = false → noDump sm unit = false → t.thim.fatal = some ⟨3, sm, unit, det.toNat, s.lUs % 2 ^ 32⟩ ∧ t.thim.before = s.dev.code ∧ t.thim.fatalL = s.lNow) ∧
    (⟨3, sm, unit, det.toNat, s.lUs % 2 ^ 32⟩ : FaultRec) ∈ t.thim.queue ∧ s.SameMem t) ∧
  (∀ (r : Req) (k : Fin 8) (sev : Fin 4), s.Grants r true .THIM_ACK 0 0 → r = .sp k → s.fatalHandling = false → sev ≠ 0 → s.thim.handling.head? = some sev.val → s.thim.waiting = [] →
    ¬(sev = 2 ∧ s.dev = .lead ∧ s.on .THIM_CTRL_SWAP_ON_DEGRADED = true) → ∃ t, exec (.thimAck r sev) s = .next t ∧ t.thim = { s.thim with handling := s.thim.handling.tail } ∧
      s.SameFlds t [] ∧ s.SameMem t) ∧
  (∀ (r : Req) (sev : Fin 4), s.Grants r true .THIM_ACK 0 0 → s.fatalHandling = true ∨ s.thim.handling.head? ≠ some sev.val → ∃ t, exec (.thimAck r sev) s = .next t ∧ t.thim = s.thim ∧
    s.SameFlds t [] ∧ s.SameMem t) ∧
  (∀ r : Req, s.Grants r false .THIM_FAULT_LOG 0 0 → ∃ t, exec (.faultLogRead r) s = .next t ∧ t.out = s.out ++ [.reply r.num s.faultHead] ∧
    t.thim = { s.thim with queue := s.thim.queue.tail } ∧ s.SameFlds t [] ∧ s.SameMem t) ∧
  (∀ (r : Req) (sm : BitVec 8), s.Grants r true .THIM_INJECT 0 0 → s.dev ≠ .test → ∃ t, exec (.thimInject r sm) s = .next t ∧ t.on .THIM_EVENT_BAD_CFG = true ∧ t.thim = s.thim ∧
    s.SameFlds t [(.THIM_EVENT_BAD_CFG, 0)] ∧ s.SameMem t) ∧
  (∀ (r : Req) (sm : BitVec 8), s.Grants r true .THIM_INJECT 0 0 → s.dev = .test → sm.toNat ∈ [18, 19, 20, 22] → ∃ t, exec (.thimInject r sm) s = .next t ∧
    t.on .THIM_EVENT_DEGRADED = true ∧ t.dev = .test ∧ t.ctr (faultWord sm.toNat 2) = ctrAdd (s.ctr (faultWord sm.toNat 2)) 1 ∧ s.SameFlds t faultFlds ∧ s.SameMem t) ∧
  (∀ (r : Req) (sm : BitVec 8), s.Grants r true .THIM_INJECT 0 0 → s.dev = .test → sm.toNat ∈ [6, 7, 13, 14, 15, 16, 17] → ∃ t, exec (.thimInject r sm) s = .next t ∧ t.dev = .failSilent)

/-- The monitors (R467, R468, R471, R472, R552): the watchdog is refreshed by its key and is Fatal after 10 ms; VDDQ or VDD2 out of its window is Degraded and the DRAM treated as failed, any other supply Fatal; the sensors show their
readings, and one that departs from the median of the others by more than 15 °C is ignored; a reading above its limit for 1 ms is Degraded or Fatal; a lockstep mismatch is Fatal on SP0 to SP4 and stops the pair on SP5 to SP7; a
lost probe, a missing cell and a configuration parity error are Fatal. -/
def Obligations.Monitors : Prop := ∀ s : State, s.Overlock → s.dev ≠ .off →
  (∀ (r : Req) (k : Fin 8), s.Grants r true .THIM_WDOG 0 0 → r = .sp k → ∃ t, exec (.wdogRefresh r 0x5A5A) s = .next t ∧ t.thim = { s.thim with wdogL := s.lNow } ∧ s.SameFlds t [] ∧ s.SameMem t) ∧
  (∀ (r : Req) (key : BitVec 16), s.Grants r true .THIM_WDOG 0 0 → key ≠ 0x5A5A → ∃ t, exec (.wdogRefresh r key) s = .next t ∧ t.thim = s.thim ∧ s.SameFlds t [] ∧ s.SameMem t) ∧
  (s.thim.wdogL + 10000000 * nsT ≤ s.lNow → ∃ t, exec .wdogExpiry s = .next t ∧ t.dev = .failSilent) ∧
  (s.lNow < s.thim.wdogL + 10000000 * nsT → ∃ t, exec .wdogExpiry s = .next t ∧ t.thim = s.thim ∧ t.dev = s.dev ∧ s.SameFlds t [] ∧ s.SameMem t) ∧
  (∀ u : Supply, u = .vddq ∨ u = .vdd2 → ∃ t, exec (.supplyOutOfWindow u) s = .next t ∧ t.thim.dramFailed = true ∧ t.on .THIM_EVENT_DEGRADED = true ∧ t.dev = s.dev ∧
    s.SameFlds t faultFlds ∧ s.SameMem t) ∧
  (∀ u : Supply, u ≠ .vddq → u ≠ .vdd2 → ∃ t, exec (.supplyOutOfWindow u) s = .next t ∧ t.dev = .failSilent) ∧
  (∀ l : List (BitVec 12), l.length = 8 → ∃ t, exec (.tempConversion l) s = .next t ∧ (∀ u, u < 8 → t.on .DEV_TEMP_STATUS_VALID u = true ∧ some (t.fld .DEV_TEMP_STATUS_TEMP u) = l[u]?.map BitVec.toNat) ∧
    (∀ u, u < 8 → ∀ x, l[u]? = some x → 120 < toSigned 12 x.toNat - middle ((l.map fun y => toSigned 12 y.toNat).eraseIdx u) → t.on .DEV_TEMP_STATUS_IGNORED u = true) ∧ t.dev = s.dev ∧
    s.SameFlds t (faultFlds ++ (List.range 8).flatMap fun u => [(.DEV_TEMP_STATUS_VALID, u), (.DEV_TEMP_STATUS_TEMP, u), (.DEV_TEMP_STATUS_IGNORED, u)]) ∧ s.SameMem t) ∧
  (∀ u : Fin 8, 2 ≤ s.thim.hot.get 0 (2 * u) → s.thim.hot.get 0 (2 * u) - 2 + 1000000 * nsT ≤ s.lNow → ∃ t, exec (.tempOver u false) s = .next t ∧ t.on .THIM_EVENT_DEGRADED = true ∧
    t.thim.hot.get 0 (2 * u) = 1 ∧ t.dev = s.dev ∧ s.SameFlds t faultFlds ∧ s.SameMem t) ∧
  (∀ u : Fin 8, 2 ≤ s.thim.hot.get 0 (2 * u + 1) → s.thim.hot.get 0 (2 * u + 1) - 2 + 1000000 * nsT ≤ s.lNow → ∃ t, exec (.tempOver u true) s = .next t ∧ t.dev = .failSilent) ∧
  (∀ k : Fin 8, s.pairOn k = true → k.val < 5 → ∃ t, exec (.lockstepMismatch k) s = .next t ∧ t.dev = .failSilent) ∧
  (∀ k : Fin 8, s.pairOn k = true → 5 ≤ k.val → ∃ t, exec (.lockstepMismatch k) s = .next t ∧ (t.core k).stopped = true ∧ t.pairOn k = false ∧ t.on .THIM_EVENT_DEGRADED = true ∧ t.dev = s.dev ∧
    (∀ n, n ∈ s.heldBy k 1 ∨ n ∈ s.heldBy k 2 → t.src n = {}) ∧ s.SameFlds t faultFlds ∧ s.SameMem t) ∧
  (∀ (b : Bolt) (l : List (Fin 6)), ∃ t, exec (.fabricProbeSend b l) s = .next t ∧ (t.bo b).probes = (s.bo b).probes ++ l.map (fun k => (k.val, s.lNow)) ∧
    (∀ b', b' ≠ b.val → t.bo b' = s.bo b') ∧ s.SameFlds t [] ∧ s.SameMem t) ∧
  (∀ b : Bolt, (∃ e ∈ (s.bo b).probes, e.2 + 75000 * nsT ≤ s.lNow) → ∃ t, exec (.probeTimeout b) s = .next t ∧ t.dev = .failSilent) ∧
  (∀ b : Bolt, (∀ e ∈ (s.bo b).probes, s.lNow < e.2 + 75000 * nsT) → ∃ t, exec (.probeTimeout b) s = .next t ∧ t.bolt = s.bolt ∧ t.dev = s.dev ∧ s.SameFlds t [] ∧ s.SameMem t) ∧
  (∀ (b : Bolt) (d : Int), (s.bo b).lost + d = 0 → ∃ t, exec (.cellAccountCheck b d) s = .next t ∧ t.dev = s.dev ∧ t.thim = s.thim ∧ s.SameFlds t [] ∧ s.SameMem t) ∧
  (∀ (b : Bolt) (d : Int), (s.bo b).lost + d ≠ 0 → ∃ t, exec (.cellAccountCheck b d) s = .next t ∧ t.dev = .failSilent) ∧
  (∃ t, exec (.configParityCheck true) s = .next t ∧ t.dev = .failSilent) ∧
  (∃ t, exec (.configParityCheck false) s = .next t ∧ t.dev = s.dev ∧ t.thim = s.thim ∧ s.SameFlds t [] ∧ s.SameMem t)

/-- The scrubber and the latent-fault tests (R469, R500): a pass that finds nothing changes nothing; an uncorrectable word of local memory is a Degraded fault that names its address; a round that is due shows its results, and where
all pass their times are kept and none is overdue; a failed test is Degraded; a test that has not passed for 2 h is reported once. The Fatal Dump and the restart (R479, R501 to R503): in Fail-Silent SP0 writes the dump to its area
and sets COMPLETE last; RESTART_DELAY after the dump, and below RESTART_MAX, Thimble resets the device with cause 4 and counts the restart; an hour in service clears the count. -/
def Obligations.ScrubberTestsDumpAndRestart : Prop :=
  (∀ s : State, s.Overlock → s.dev ≠ .off →
  (∃ t, exec (.scrubPass []) s = .next t ∧ t.thim = s.thim ∧ s.SameFlds t [] ∧ s.SameMem t) ∧
  (∀ a : BitVec 21, s.thim.queue.length < 64 → ∃ t, exec (.scrubPass [.localWord a]) s = .next t ∧
    t.thim.queue = s.thim.queue ++ [⟨2, 11, a.toNat / 8 / 4096, a.toNat / 8 % 4096, s.lUs % 2 ^ 32⟩] ∧ t.localBad.contains (a.toNat / 8) = true ∧ t.on .THIM_EVENT_DEGRADED = true ∧ t.dev = s.dev ∧ s.SameFlds t faultFlds ∧ s.SameMem t) ∧
  (s.pairOn 7 = true → s.alive = true → s.latentMin * 60 ≤ (s.lNow / secT % 2 ^ 32 + 2 ^ 32 - s.fld .THIM_LATENT_STATUS_LAST_S) % 2 ^ 32 → ∃ t, exec (.latentTestRound 0) s = .next t ∧
    t.fld .THIM_LATENT_STATUS_LAST_S = s.lNow / secT % 2 ^ 32 ∧ t.fld .THIM_LATENT_STATUS_FAILED = 0 ∧ (∀ k, k < 11 → t.thim.testPass.get 0 k = s.lNow ∧ t.thim.overdue.testBit k = false) ∧
    t.ctr (devWord 173) = ctrAdd (s.ctr (devWord 173)) 1 ∧ s.SameFlds t [(.THIM_LATENT_STATUS_LAST_S, 0), (.THIM_LATENT_STATUS_FAILED, 0)] ∧ s.SameMem t) ∧
  (∀ f : BitVec 11, f ≠ 0 → s.pairOn 7 = true → s.alive = true → s.latentMin * 60 ≤ (s.lNow / secT % 2 ^ 32 + 2 ^ 32 - s.fld .THIM_LATENT_STATUS_LAST_S) % 2 ^ 32 → ∃ t,
    exec (.latentTestRound f) s = .next t ∧ t.fld .THIM_LATENT_STATUS_FAILED = f.toNat ∧ t.on .THIM_EVENT_LATENT_FAIL = true ∧ t.on .THIM_EVENT_DEGRADED = true ∧ t.dev = s.dev ∧
    (∀ k, k < 11 → f.getLsbD k = false → t.thim.testPass.get 0 k = s.lNow) ∧ (∀ k, k < 11 → f.getLsbD k = true → t.thim.testPass.get 0 k = s.thim.testPass.get 0 k) ∧ s.SameMem t) ∧
  (∀ k : Fin 11, s.thim.overdue.testBit k = false → s.thim.testPass.get 0 k + 7200 * secT ≤ s.lNow → ∃ t, exec (.latentTestOverdue k) s = .next t ∧ t.thim.overdue.testBit k = true ∧
    t.on .THIM_EVENT_DEGRADED = true ∧ t.dev = s.dev ∧ s.SameFlds t faultFlds ∧ s.SameMem t) ∧
  (∀ k : Fin 11, s.thim.overdue.testBit k = true → ∃ t, exec (.latentTestOverdue k) s = .next t ∧ t.thim = s.thim ∧ s.SameFlds t [] ∧ s.SameMem t)) ∧
  (∀ s : State, s.Overlock →
  (s.dev = .failSilent → s.thim.fatal.isSome = true → s.fld .THIM_STATUS_DUMP = 0 → s.fld .THIM_DUMP_BASE_SPACE = 2 → s.pairOn 0 = true → s.dumpArea + 0x1_0000 ≤ 0x20_0000 →
    s.thim.queue.length ≤ 64 → s.thim.fatalDoms.length = 8 → ∃ t, exec .fatalDumpWrite s = .next t ∧ t.fld .THIM_STATUS_DUMP = 1 ∧ t.localMem.readLe s.dumpArea 4 = 0x44464B51 ∧
      t.localMem.byte (s.dumpArea + 6) = 0 ∧ (∀ a, a < s.dumpArea ∨ s.dumpArea + 0x1_0000 ≤ a → t.localMem.byte a = s.localMem.byte a) ∧ t.dram = s.dram ∧ t.boot = s.boot ∧
      s.SameFlds t [(.THIM_STATUS_DUMP, 0)]) ∧
  (s.dev = .failSilent → s.fld .THIM_STATUS_DUMP = 1 → s.fld .THIM_DUMP_BASE_SPACE = 2 → s.dumpArea + 7 ≤ 0x20_0000 → ∃ t, exec .fatalDumpComplete s = .next t ∧ t.fld .THIM_STATUS_DUMP = 2 ∧
    t.on .THIM_EVENT_DUMP_DONE = true ∧ t.localMem.byte (s.dumpArea + 6) = 1 ∧ (∀ a, a ≠ s.dumpArea + 6 → t.localMem.byte a = s.localMem.byte a) ∧ t.thim.dumpEnd = some s.lNow ∧ t.dram = s.dram ∧
    (∀ a, a < 0x2_0000 ∨ 0xA_0000 ≤ a → t.nvmByte a = s.nvmByte a) ∧ s.SameFlds t [(.THIM_STATUS_DUMP, 0), (.THIM_EVENT_DUMP_DONE, 0)]) ∧
  (s.dev ≠ .failSilent → ∀ c ∈ [Instr.fatalDumpWrite, .fatalDumpComplete, .thimbleRestart], ∃ t, exec c s = .next t ∧ t.dev = s.dev ∧ s.SameFlds t [] ∧ s.SameMem t) ∧
  (s.dev = .failSilent → s.on .THIM_CTRL_RESTART = true → s.restartFrom + max 1 (s.fld .THIM_CTRL_RESTART_DELAY) * secT ≤ s.lNow →
    s.fld .THIM_STATUS_RESTART_CNT < max 1 (s.fld .THIM_CTRL_RESTART_MAX) → ∃ t, exec .thimbleRestart s = .next t ∧ t.dev = .boot ∧ t.stepNo = 1 ∧ t.boot.cause = 4 ∧ t.lNow = 0 ∧
      t.fld .THIM_STATUS_RESTART_CNT = (s.fld .THIM_STATUS_RESTART_CNT + 1) % 16 ∧ t.boot.nvm = s.boot.nvm) ∧
  (s.dev = .failSilent → s.on .THIM_CTRL_RESTART = false ∨ max 1 (s.fld .THIM_CTRL_RESTART_MAX) ≤ s.fld .THIM_STATUS_RESTART_CNT → ∃ t, exec .thimbleRestart s = .next t ∧ t.dev = .failSilent ∧
    s.SameFlds t [] ∧ s.SameMem t) ∧
  (∀ x, s.thim.serviceSince = some x → s.dev.inService = true → x + 3600 * secT ≤ s.lNow → ∃ t, exec .restartCntClear s = .next t ∧ t.fld .THIM_STATUS_RESTART_CNT = 0 ∧
    s.SameFlds t [(.THIM_STATUS_RESTART_CNT, 0)] ∧ s.SameMem t) ∧
  (∀ x, s.thim.serviceSince = some x → s.lNow < x + 3600 * secT → ∃ t, exec .restartCntClear s = .next t ∧ s.SameFlds t [] ∧ s.SameMem t))

/-! ## The redundant pair (chapter 15) -/

/-- OVL_TOKEN (R481, R482, R492, R497): a refresh restarts the driver's 2 µs, after which it releases; a driven token that reads high is Degraded and a claiming Shadow releases it; a Shadow claims a token released while its partner is
in Fail-Silent or silent; a device in JOINING whose claim is due and confirmed leads, and one that reads the token driven does not claim; at a swap the new Lead drives the token 1 µs before T_swap and the old one releases it 1 µs
after. -/
def Obligations.OverlockToken : Prop := ∀ s : State, s.Overlock →
  (s.on .PAIR_STATUS_TOKEN_DRV = true → s.alive = true → ∃ t, exec .tokenRefresh s = .next t ∧ t.pair = { s.pair with refreshL := s.lNow } ∧ s.SameFlds t [] ∧ s.SameMem t) ∧
  (s.on .PAIR_STATUS_TOKEN_DRV = true → s.pair.refreshL + 2000 * nsT ≤ s.lNow → ∃ t, exec .tokenDriverTimeout s = .next t ∧ t.on .PAIR_STATUS_TOKEN_DRV = false ∧ t.dev = s.dev ∧
    s.SameFlds t [(.PAIR_STATUS_TOKEN_DRV, 0)] ∧ s.SameMem t) ∧
  (s.lNow < s.pair.refreshL + 2000 * nsT → ∃ t, exec .tokenDriverTimeout s = .next t ∧ t.pair = s.pair ∧ s.SameFlds t [] ∧ s.SameMem t) ∧
  (s.on .PAIR_STATUS_TOKEN_DRV = true → s.pair.claiming = true → ∃ t, exec .tokenReadbackFault s = .next t ∧ t.on .PAIR_STATUS_TOKEN_DRV = false ∧ t.pair.claiming = false ∧
    t.on .PAIR_EVENT_TOKEN_FAULT = true ∧ t.on .THIM_EVENT_DEGRADED = true ∧ t.dev = s.dev ∧
    s.SameFlds t ([(.PAIR_STATUS_TOKEN_DRV, 0), (.PAIR_STATUS_TOKEN_IN, 0), (.PAIR_EVENT_TOKEN_FAULT, 0)] ++ faultFlds) ∧ s.SameMem t) ∧
  (s.on .PAIR_STATUS_TOKEN_DRV = true → s.pair.claiming = false → ¬(s.role = 1 ∧ s.right = true) → ∃ t, exec .tokenReadbackFault s = .next t ∧ t.on .PAIR_STATUS_TOKEN_DRV = true ∧
    t.on .PAIR_EVENT_TOKEN_FAULT = true ∧ t.on .THIM_EVENT_DEGRADED = true ∧ t.dev = s.dev ∧
    s.SameFlds t ([(.PAIR_STATUS_TOKEN_IN, 0), (.PAIR_EVENT_TOKEN_FAULT, 0)] ++ faultFlds) ∧ s.SameMem t) ∧
  (s.dev = .shadow → s.role = 3 → s.pair.claiming = false → s.on .PAIR_STATUS_TOKEN_DRV = false → s.pair.fsIn = true ∨ s.allSilent = true → ∃ t, exec .ovlTokenReleased s = .next t ∧
    t.pair.claiming = true ∧ t.pair.claimL = some s.lNow ∧ t.on .PAIR_STATUS_TOKEN_DRV = true ∧ t.on .PAIR_STATUS_TOKEN_IN = false ∧ t.role = 3 ∧
    s.SameFlds t [(.PAIR_STATUS_TOKEN_DRV, 0), (.PAIR_STATUS_TOKEN_IN, 0)] ∧ s.SameMem t) ∧
  (s.dev ≠ .off → s.pair.fsIn = false → s.allSilent = false → ∃ t, exec .ovlTokenReleased s = .next t ∧ t.pair = s.pair ∧ t.on .PAIR_STATUS_TOKEN_IN = false ∧
    s.SameFlds t [(.PAIR_STATUS_TOKEN_IN, 0)] ∧ s.SameMem t) ∧
  (s.dev = .boot → s.role = 1 → s.on .PAIR_STATUS_TOKEN_DRV = false → s.claimDue = true → s.lNow < s.pair.joinSince + 500000000 * nsT → ∃ t, exec (.pairClaimTimeout false true true) s = .next t ∧
    t.role = 2 ∧ t.on .PAIR_STATUS_TOKEN_DRV = true ∧ t.on .PAIR_STATUS_TOKEN_IN = true ∧ t.pair.claimL = some s.lNow ∧
    s.SameFlds t [(.PAIR_STATUS_ROLE, 0), (.PAIR_STATUS_TOKEN_DRV, 0), (.PAIR_STATUS_TOKEN_IN, 0)] ∧ s.SameMem t) ∧
  (∀ c o : Bool, s.dev = .boot → s.role = 1 → s.on .PAIR_STATUS_TOKEN_DRV = false → s.overlockOn = true → s.lNow < s.pair.joinSince + 500000000 * nsT → s.claimDue = true → ∃ t,
    exec (.pairClaimTimeout true c o) s = .next t ∧ t.role = 1 ∧ t.on .PAIR_STATUS_TOKEN_DRV = false ∧ t.on .PAIR_STATUS_TOKEN_IN = true ∧ t.pair = s.pair ∧
    s.SameFlds t [(.PAIR_STATUS_TOKEN_IN, 0)] ∧ s.SameMem t) ∧
  (∀ x, s.dev = .shadow → s.role = 3 → s.on .PAIR_SWAP_STATUS_PENDING = true → s.pair.swapAt = some x → x ≤ s.swapNow + 1000 * nsT → ∃ t, exec .swapTokenDrive s = .next t ∧
    t.on .PAIR_STATUS_TOKEN_DRV = true ∧ t.pair.preDriven = true ∧ s.SameFlds t [(.PAIR_STATUS_TOKEN_DRV, 0)] ∧ s.SameMem t) ∧
  (s.role = 3 → s.on .PAIR_STATUS_TOKEN_DRV = true → s.pair.preDriven = false → s.pair.claiming = false → s.pair.lastSwapL + 1000 * nsT ≤ s.lNow → ∃ t, exec .swapTokenRelease s = .next t ∧
    t.on .PAIR_STATUS_TOKEN_DRV = false ∧ t.role = 3 ∧ s.SameFlds t [(.PAIR_STATUS_TOKEN_DRV, 0)] ∧ s.SameMem t)

/-- The partner (R480, R482, R483, R485 to R488, R492): heartbeats are sent on the lanes and the beat; one received is noted, a record with a bad CRC only counted; a JOINING device joins a leading partner as Shadow, and the Right side
yields in a collision; 4 µs of silence, or OVL_FS, make a Lead declare its partner lost, and a Shadow claim the token where it is released and wait where it is driven; 10 ms later the partner is unknown; a lane without records is
down. -/
def Obligations.PartnerSupervision : Prop := ∀ s : State, s.Overlock →
  (s.pairAlive = true → s.overlockOn = true → ∃ t, exec .heartbeatSend s = .next t ∧ t.out = s.out ++ [.pair 1 s.heartbeat, .beat !s.pair.beatLevel, .beat s.pair.beatLevel] ∧
    s.SameFlds t [] ∧ s.SameMem t) ∧
  (s.pairAlive = false → ∃ t, exec .heartbeatSend s = .next t ∧ t.out = s.out ∧ s.SameFlds t [] ∧ s.SameMem t) ∧
  (∀ (crc ready low : Bool) (role : Fin 5) (st : Fin 10) (worst : Fin 4) (id : BitVec 12), s.dev ≠ .off → s.overlockOn = true → ∃ t,
    exec (.heartbeatReceived 2 crc role st worst ready id low) s = .next t ∧ t.pair = { s.pair with lastBeat := s.lNow } ∧ t.on .PAIR_STATUS_BEAT_OK = true ∧
    s.SameFlds t [(.PAIR_STATUS_BEAT_OK, 0)] ∧ s.SameMem t) ∧
  (∀ (path : Fin 3) (ready low : Bool) (role : Fin 5) (st : Fin 10) (worst : Fin 4) (id : BitVec 12), s.dev ≠ .off → path ≠ 2 → ∃ t,
    exec (.heartbeatReceived path false role st worst ready id low) s = .next t ∧ t.pair = s.pair ∧ t.ctr (devWord (171 + path)) = ctrAdd (s.ctr (devWord (171 + path))) 1 ∧
    s.SameFlds t [] ∧ s.SameMem t) ∧
  (∀ (ready low : Bool) (role : Fin 5) (st : Fin 10) (worst : Fin 4) (id : BitVec 12), s.pairAlive = true → s.role = 3 → st.val < 8 → ∃ t,
    exec (.heartbeatReceived 0 true role st worst ready id low) s = .next t ∧ t.peer = 1 ∧ t.on .PAIR_STATUS_PL0_OK = true ∧ t.fld .PAIR_STATUS_PEER_ID = id.toNat ∧ t.fld .PAIR_STATUS_PEER_STATE = st ∧
    t.fld .PAIR_STATUS_PEER_WORST = worst ∧ t.pair.lastPl0 = s.lNow ∧ t.pair.silentSince = none ∧ t.role = 3 ∧
    s.SameFlds t [(.PAIR_STATUS_PEER, 0), (.PAIR_STATUS_PL0_OK, 0), (.PAIR_STATUS_TOKEN_IN, 0), (.PAIR_STATUS_FS_IN, 0), (.PAIR_STATUS_PEER_ID, 0), (.PAIR_STATUS_PEER_STATE, 0),
      (.PAIR_STATUS_PEER_WORST, 0), (.MEND_MIRROR_STATUS_SNAP_BUSY, 0)] ∧ s.SameMem t) ∧
  (∀ (ready : Bool) (st : Fin 10) (worst : Fin 4) (id : BitVec 12), s.alive = true → s.role = 1 → s.pair.claimL = none → s.overlockOn = true → st.val < 8 → ∃ t,
    exec (.heartbeatReceived 1 true 2 st worst ready id true) s = .next t ∧ t.role = 3 ∧ t.peer = 1 ∧ t.on .PAIR_STATUS_PL1_OK = true ∧ t.dev = s.dev ∧ s.SameMem t) ∧
  (∀ (ready low : Bool) (st : Fin 10) (worst : Fin 4) (id : BitVec 12) (x : Nat), s.alive = true → s.role = 2 → s.right = true → s.pair.claimL = some x → s.lNow ≤ x + 10000 * nsT → ∃ t,
    exec (.heartbeatReceived 0 true 2 st worst ready id low) s = .next t ∧ t.role = 3 ∧ t.on .PAIR_STATUS_TOKEN_DRV = false ∧ t.dev = s.dev ∧ s.SameMem t) ∧
  (∀ low : Bool, s.pairAlive = true → s.allSilent = true → s.role = 2 → s.peer ≠ 2 → ∃ t, exec (.heartbeatSilence low) s = .next t ∧ t.peer = 2 ∧ t.on .PAIR_EVENT_PEER_LOST = true ∧
    t.on .THIM_EVENT_DEGRADED = true ∧ t.dev = s.dev ∧ t.on .PAIR_STATUS_BEAT_OK = false ∧
    s.SameFlds t ([(.PAIR_STATUS_PEER, 0), (.PAIR_STATUS_BEAT_OK, 0), (.PAIR_STATUS_TOKEN_IN, 0), (.PAIR_EVENT_PEER_LOST, 0)] ++ faultFlds) ∧ s.SameMem t) ∧
  (s.dev = .shadow → s.role = 3 → s.allSilent = true → s.pair.claiming = false → s.on .PAIR_STATUS_TOKEN_DRV = false → ∃ t, exec (.heartbeatSilence false) s = .next t ∧ t.peer = 2 ∧
    t.pair.claiming = true ∧ t.on .PAIR_STATUS_TOKEN_DRV = true ∧
    s.SameFlds t [(.PAIR_STATUS_PEER, 0), (.PAIR_STATUS_BEAT_OK, 0), (.PAIR_STATUS_TOKEN_IN, 0), (.PAIR_STATUS_TOKEN_DRV, 0)] ∧ s.SameMem t) ∧
  (s.dev = .shadow → s.role = 3 → s.allSilent = true → s.overlockOn = true → s.peer ≠ 3 → ∃ t, exec (.heartbeatSilence true) s = .next t ∧ t.peer = 3 ∧ t.pair.silentSince = some s.lNow ∧
    t.pair.claiming = s.pair.claiming ∧ s.SameFlds t [(.PAIR_STATUS_PEER, 0), (.PAIR_STATUS_BEAT_OK, 0), (.PAIR_STATUS_TOKEN_IN, 0)] ∧ s.SameMem t) ∧
  (s.dev = .shadow → s.role = 3 → s.overlockOn = true → s.pair.claiming = false → s.on .PAIR_STATUS_TOKEN_DRV = false → ∃ t, exec (.ovlFsAsserted false) s = .next t ∧ t.peer = 4 ∧
    t.on .PAIR_STATUS_FS_IN = true ∧ t.pair.claiming = true ∧ t.on .PAIR_STATUS_TOKEN_DRV = true ∧
    s.SameFlds t [(.PAIR_STATUS_PEER, 0), (.PAIR_STATUS_FS_IN, 0), (.PAIR_STATUS_TOKEN_IN, 0), (.PAIR_STATUS_TOKEN_DRV, 0)] ∧ s.SameMem t) ∧
  (∀ (low : Bool), s.dev = .lead → s.role = 2 → s.overlockOn = true → s.peer ≠ 2 → ∃ t, exec (.ovlFsAsserted low) s = .next t ∧ t.peer = 2 ∧ t.on .PAIR_EVENT_PEER_LOST = true ∧ t.dev = .lead ∧
    s.SameFlds t ([(.PAIR_STATUS_PEER, 0), (.PAIR_STATUS_FS_IN, 0), (.PAIR_STATUS_TOKEN_IN, 0), (.PAIR_EVENT_PEER_LOST, 0)] ++ faultFlds) ∧ s.SameMem t) ∧
  (∀ x, s.dev ≠ .off → s.role = 3 → s.peer = 3 → s.pair.silentSince = some x → x + 10000000 * nsT ≤ s.lNow → ∃ t, exec .peerUnknownTimeout s = .next t ∧ t.on .PAIR_EVENT_PEER_UNKNOWN = true ∧
    t.on .THIM_EVENT_DEGRADED = true ∧ t.pair.silentSince = none ∧ t.dev = s.dev ∧ s.SameFlds t ([(.PAIR_EVENT_PEER_UNKNOWN, 0), (.MEND_EVENT_MIRROR_STALE, 0)] ++ faultFlds) ∧ s.SameMem t) ∧
  (s.dev ≠ .off → s.on .PAIR_STATUS_PL0_OK = true → s.pair.lastPl0 + 10000 * nsT ≤ s.lNow → ∃ t, exec (.pairLaneDown 0) s = .next t ∧ t.on .PAIR_STATUS_PL0_OK = false ∧
    t.pair.laneQ0 = [] ∧ t.pair.laneQ1 = s.pair.laneQ1 ∧ t.on .PAIR_EVENT_LANE_DOWN = true ∧ t.on .THIM_EVENT_DEGRADED = true ∧ t.dev = s.dev ∧
    s.SameFlds t ([(.PAIR_STATUS_PL0_OK, 0), (.PAIR_EVENT_LANE_DOWN, 0), (.MEND_EVENT_MIRROR_STALE, 0)] ++ faultFlds) ∧ s.SameMem t)

/-- Takeovers and planned swaps (R493, R495 to R498): the passage of a claiming Shadow that its readback confirms within 200 ns makes it the Lead, and a later one does nothing; a swap requested of a Lead in order is arranged for the
first whole millisecond at least LEAD_MS ahead, and postponed otherwise; the Shadow accepts where it is ready; at T_swap the Lead becomes the Shadow and the Shadow the Lead, and both count the drill. -/
def Obligations.TakeoversAndSwaps : Prop := ∀ s : State, s.Overlock →
  (∀ x, s.dev = .shadow → s.role = 3 → s.pair.claiming = true → s.pair.claimL = some x → s.lNow ≤ x + 200 * nsT → s.overlockOn = true → ∃ t, exec .takeoverPassage s = .next t ∧ t.dev = .lead ∧ t.role = 2 ∧ t.pair.claiming = false ∧
    t.pair.endOfRole = true ∧ t.on .PAIR_EVENT_TAKEOVER = true ∧ t.on .PAIR_STATUS_TOKEN_IN = true ∧ t.on .THIM_EVENT_NOTICE = true ∧ s.SameMem t) ∧
  (s.pair.claiming = false → s.dev ≠ .off → ∃ t, exec .takeoverPassage s = .next t ∧ t.dev = s.dev ∧ t.pair = s.pair ∧ s.SameFlds t [] ∧ s.SameMem t) ∧
  (∀ (c : Instr) (r : Req) (x : Nat), (c = .swapRequest r ∧ s.Grants r true .PAIR_SWAP_CMD 0 0) ∨
      (c = .drillTimer ∧ s.fld .PAIR_DRILL_CFG_PERIOD ≠ 0 ∧ s.pair.lastSwapL + s.fld .PAIR_DRILL_CFG_PERIOD * 3600 * secT ≤ s.lNow ∧ s.pair.postponedL = none) ∨
      (c = .swapPostponeExpiry ∧ s.pair.postponedL = some x ∧ x + 3600 * secT ≤ s.lNow) →
    s.dev = .lead → s.role = 2 → s.pair.swapAt = none → s.peer = 1 → s.inSync s.swapDom = true → ∃ (t : State) (n : Nat), exec c s = .next t ∧ t.pair.swapAt = some (n * (1000000 * nsT)) ∧
      s.swapNow + max 10 (s.fld .PAIR_DRILL_CFG_LEAD_MS) * (1000000 * nsT) ≤ n * (1000000 * nsT) ∧
      n * (1000000 * nsT) < s.swapNow + max 10 (s.fld .PAIR_DRILL_CFG_LEAD_MS) * (1000000 * nsT) + 1000000 * nsT ∧ t.fld .PAIR_SWAP_STATUS_T_MS = n % 2 ^ 32 ∧
      t.out = s.out ++ [.pair 9 [n]] ∧ t.pair.postponedL = none ∧ s.SameFlds t [(.PAIR_SWAP_STATUS_T_MS, 0)] ∧ s.SameMem t) ∧
  (∀ r : Req, s.Grants r true .PAIR_SWAP_CMD 0 0 → s.dev = .lead → s.role = 2 → s.pair.swapAt = none → s.peer ≠ 1 ∨ s.inSync s.swapDom = false → ∃ t, exec (.swapRequest r) s = .next t ∧
    t.fld .PAIR_SWAP_STATUS_RESULT = 2 ∧ t.fld .PAIR_SWAP_STATUS_POSTPONED = min 15 (s.fld .PAIR_SWAP_STATUS_POSTPONED + 1) ∧ t.on .PAIR_EVENT_SWAP_POSTPONED = true ∧
    t.pair.postponedL = some s.lNow ∧ t.dev = .lead ∧ t.role = 2 ∧ s.SameFlds t ([(.PAIR_SWAP_STATUS_PENDING, 0), (.PAIR_SWAP_STATUS_RESULT, 0), (.PAIR_SWAP_STATUS_POSTPONED, 0),
      (.PAIR_EVENT_SWAP_POSTPONED, 0)] ++ faultFlds) ∧ s.SameMem t) ∧
  (s.lNow < s.pair.lastSwapL + s.fld .PAIR_DRILL_CFG_PERIOD * 3600 * secT → ∃ t, exec .drillTimer s = .next t ∧ t.pair = s.pair ∧ t.out = s.out ∧ s.SameFlds t [] ∧ s.SameMem t) ∧
  (∀ n : Nat, s.role = 3 → s.swapReady = true → ∃ t, exec (.swapReqReceived n) s = .next t ∧ t.on .PAIR_SWAP_STATUS_PENDING = true ∧ t.fld .PAIR_SWAP_STATUS_T_MS = n % 2 ^ 32 ∧
    t.pair = { s.pair with swapAt := some (n * 1000000 * nsT) } ∧ t.out = s.out ++ [.pair 10 [1, 0]] ∧ s.SameFlds t [(.PAIR_SWAP_STATUS_PENDING, 0), (.PAIR_SWAP_STATUS_T_MS, 0)] ∧ s.SameMem t) ∧
  (∀ n : Nat, s.pairAlive = true → s.swapReady = false → ∃ (t : State) (why : Nat), exec (.swapReqReceived n) s = .next t ∧ t.fld .PAIR_SWAP_STATUS_RESULT = 3 ∧ t.pair = s.pair ∧
    t.out = s.out ++ [.pair 10 [0, why]] ∧ s.SameFlds t [(.PAIR_SWAP_STATUS_RESULT, 0)] ∧ s.SameMem t) ∧
  (s.alive = true → s.role = 2 → s.pair.swapAt ≠ none → s.on .PAIR_SWAP_STATUS_PENDING = false → ∃ t, exec (.swapAckReceived true) s = .next t ∧ t.on .PAIR_SWAP_STATUS_PENDING = true ∧
    t.pair = s.pair ∧ s.SameFlds t [(.PAIR_SWAP_STATUS_PENDING, 0)] ∧ s.SameMem t) ∧
  (s.alive = true → s.role = 2 → s.pair.swapAt ≠ none → s.on .PAIR_SWAP_STATUS_PENDING = false → ∃ t, exec (.swapAckReceived false) s = .next t ∧ t.fld .PAIR_SWAP_STATUS_RESULT = 2 ∧
    t.pair.swapAt = none ∧ t.pair.postponedL = some s.lNow ∧ t.on .PAIR_EVENT_SWAP_POSTPONED = true ∧ t.dev = s.dev ∧ s.SameMem t) ∧
  (∀ x, s.dev = .lead → s.role = 2 → s.on .PAIR_SWAP_STATUS_PENDING = true → s.pair.swapAt = some x → x ≤ s.swapNow → ∃ t, exec .swapExecute s = .next t ∧ t.dev = .shadow ∧ t.role = 3 ∧
    t.on .PAIR_SWAP_STATUS_PENDING = false ∧ t.fld .PAIR_SWAP_STATUS_RESULT = 1 ∧ t.on .PAIR_EVENT_SWAP_DONE = true ∧ t.pair.swapAt = none ∧ t.pair.lastSwapL = s.lNow ∧
    t.fld .PAIR_SWAP_STATUS_DRILLS = min 0xFFFFFF (s.fld .PAIR_SWAP_STATUS_DRILLS + 1) ∧ s.SameMem t) ∧
  (∀ x, s.dev = .shadow → s.role = 3 → s.on .PAIR_SWAP_STATUS_PENDING = true → s.pair.swapAt = some x → x ≤ s.swapNow → ∃ t, exec .swapExecute s = .next t ∧ t.dev = .lead ∧ t.role = 2 ∧
    t.on .PAIR_STATUS_TOKEN_DRV = true ∧ t.on .PAIR_SWAP_STATUS_PENDING = false ∧ t.fld .PAIR_SWAP_STATUS_RESULT = 1 ∧ t.on .PAIR_EVENT_SWAP_DONE = true ∧ t.pair.swapAt = none ∧ s.SameMem t) ∧
  (∀ x, s.pair.swapAt = some x → s.swapNow < x → ∃ t, exec .swapExecute s = .next t ∧ t.dev = s.dev ∧ t.pair = s.pair ∧ s.SameFlds t [] ∧ s.SameMem t) ∧
  (∀ x, s.dev ≠ .off → s.pair.claimL = some x → x + 200 * nsT < s.lNow → ∃ t, exec .takeoverPassage s = .next t ∧ t.dev = s.dev ∧ t.pair = s.pair ∧ s.SameFlds t [] ∧ s.SameMem t)

/-- Mirrored records and reads of the partner (R490, R491, R504): a Shadow keeps the SERVO record of a grandmaster domain and writes a GCL record into the admin registers of a mirrored port; banks that differ are a mismatch; PEER_CMD
sends its request, the partner answers it in every state but Off, the page fills 24 bytes at a time, and 100 µs without an end close it with code 3. -/
def Obligations.MirrorsAndPeerReads : Prop := ∀ s : State, s.Overlock → s.dev ≠ .off →
  (∀ (d : Dom) (rate : BitVec 32) (i h : Int) (st : Fin 5), s.role = 3 → (s.fld .PAIR_CFG_GM_DOMAINS).testBit d = true → ∃ t, exec (.servoRecordApply d rate i h st) s = .next t ∧
    t.pair.servo.get {} d = ⟨rate.toNat, Frac.ofInt i, Frac.ofInt h, st⟩ ∧ (∀ d', d' ≠ d.val → t.pair.servo.get {} d' = s.pair.servo.get {} d') ∧ s.SameFlds t [] ∧ s.SameMem t) ∧
  (∀ (d : Dom) (rate : BitVec 32) (i h : Int) (st : Fin 5), s.role ≠ 3 ∨ (s.fld .PAIR_CFG_GM_DOMAINS).testBit d = false → ∃ t, exec (.servoRecordApply d rate i h st) s = .next t ∧
    t.pair = s.pair ∧ s.SameFlds t [] ∧ s.SameMem t) ∧
  (∀ (p : Port) (e : List (BitVec 64)) (base cycle : Nat) (ext tid : BitVec 32), s.role = 3 → s.mdpLead.contains p.val = true → s.switchPending p = false → e.length ≤ 1024 → ∃ t,
    exec (.gclRecordApply p e base cycle ext tid []) s = .next t ∧ t.fld .SHTL_GCL_CFG_ADMIN_LEN p = e.length ∧ t.fld .SHTL_GCL_ADMIN_EXT_EXT p = ext.toNat ∧
    t.fld .SHTL_GCL_ADMIN_BASE_NS_NS p = nsOf base % 2 ^ 32 ∧ t.fld .SHTL_GCL_ADMIN_CYCLE_NS p = cycle / nsT % 2 ^ 32 ∧ t.dev = s.dev ∧ s.SameMem t) ∧
  (∀ (p : Port) (e : List (BitVec 64)) (base cycle : Nat) (ext tid : BitVec 32) (l : List (BitVec 64)), s.role ≠ 3 ∨ s.mdpLead.contains p.val = false → ∃ t,
    exec (.gclRecordApply p e base cycle ext tid l) s = .next t ∧ t.port = s.port ∧ s.SameFlds t [] ∧ s.SameMem t) ∧
  (∀ p : Port, ∃ t, exec (.mirrorCrcCompare p true) s = .next t ∧ t.thim = s.thim ∧ t.out = s.out ∧ s.SameFlds t [] ∧ s.SameMem t) ∧
  (∀ p : Port, s.pairAlive = true → s.mdpLead.contains p.val = true → s.role = 3 → ∃ t, exec (.mirrorCrcCompare p false) s = .next t ∧ t.on .PAIR_EVENT_MIRROR_MISMATCH = true ∧
    t.on .THIM_EVENT_DEGRADED = true ∧ t.dev = s.dev ∧ s.SameFlds t ((.PAIR_EVENT_MIRROR_MISMATCH, 0) :: faultFlds) ∧ s.SameMem t) ∧
  (∀ p : Port, s.pairAlive = true → s.mdpLead.contains p.val = true → s.role = 2 → ∃ t, exec (.mirrorCrcCompare p false) s = .next t ∧ t.on .PAIR_EVENT_MIRROR_MISMATCH = true ∧
    t.out = s.out ++ [.pair 7 (s.operRecord p)] ∧ s.SameFlds t [(.PAIR_EVENT_MIRROR_MISMATCH, 0)] ∧ s.SameMem t) ∧
  (∀ (k : Fin 8) (op : Fin 8) (page : BitVec 10), s.Grants (.sp k) true .PAIR_PEER_CMD 0 0 → s.on .PAIR_PEER_STATUS_BUSY = false → op.val < 2 →
    s.on .PAIR_STATUS_PL0_OK = true ∨ s.on .PAIR_STATUS_PL1_OK = true → ∃ t, exec (.peerCmdRead (.sp k) op page) s = .next t ∧ t.on .PAIR_PEER_STATUS_BUSY = true ∧
      t.out = s.out ++ [.pair 11 [page.toNat, op]] ∧ t.pair = { s.pair with peerL := s.lNow, peerAt := 0 } ∧
      s.SameFlds t [(.PAIR_PEER_CMD_OP, 0), (.PAIR_PEER_CMD_PAGE, 0), (.PAIR_PEER_STATUS_BUSY, 0)] ∧ s.SameMem t) ∧
  (∀ (k : Fin 8) (op : Fin 8) (page : BitVec 10), s.Grants (.sp k) true .PAIR_PEER_CMD 0 0 → s.on .PAIR_PEER_STATUS_BUSY = false → op.val < 2 →
    s.on .PAIR_STATUS_PL0_OK = false → s.on .PAIR_STATUS_PL1_OK = false → ∃ t, exec (.peerCmdRead (.sp k) op page) s = .next t ∧ t.on .PAIR_PEER_STATUS_BUSY = false ∧
      t.fld .PAIR_PEER_STATUS_CODE = 1 ∧ t.out = s.out ∧ t.pair = s.pair ∧ s.SameMem t) ∧
  (∀ (regs : Bool) (page : BitVec 10), ∃ t, exec (.peerReadReceived regs page) s = .next t ∧
    t.out = s.out ++ (pieces 171 (if regs then s.registerPage else s.dumpPage page.toNat)).map .peerData ∧ t.pair = s.pair ∧ s.SameFlds t [] ∧ s.SameMem t) ∧
  (∀ l : List Byte, s.on .PAIR_PEER_STATUS_BUSY = true → l.length = 24 → s.pair.peerAt + 24 < 4096 → ∃ t, exec (.peerDataReceived l) s = .next t ∧
    (∀ k (h : k < l.length), t.pair.peerBuf.byte (s.pair.peerAt + k) = l[k]) ∧ t.pair.peerAt = s.pair.peerAt + 24 ∧ t.on .PAIR_PEER_STATUS_BUSY = true ∧ s.SameFlds t [] ∧ s.SameMem t) ∧
  (∀ l : List Byte, s.on .PAIR_PEER_STATUS_BUSY = true → s.pair.peerAt ≤ 4096 → 4096 ≤ s.pair.peerAt + (l.take 24).length → ∃ t, exec (.peerDataReceived l) s = .next t ∧ t.on .PAIR_PEER_STATUS_BUSY = false ∧
    t.fld .PAIR_PEER_STATUS_CODE = 0 ∧ t.pair.peerAt = 4096 ∧ s.SameFlds t [(.PAIR_PEER_STATUS_BUSY, 0), (.PAIR_PEER_STATUS_CODE, 0)] ∧ s.SameMem t) ∧
  (s.on .PAIR_PEER_STATUS_BUSY = true → s.pair.peerL + 100000 * nsT ≤ s.lNow → ∃ t, exec .peerReadTimeout s = .next t ∧ t.on .PAIR_PEER_STATUS_BUSY = false ∧ t.fld .PAIR_PEER_STATUS_CODE = 3 ∧
    t.pair = s.pair ∧ s.SameFlds t [(.PAIR_PEER_STATUS_BUSY, 0), (.PAIR_PEER_STATUS_CODE, 0)] ∧ s.SameMem t)

/-! ## Tape (chapter 16) -/

/-- Dumps and Chalk (R518, R519, R521 to R525): a dump instant captures the header and the selected words, or skips where one is still captured; a captured dump of one line is written whole to its area and OUT_PI advances, or it is
lost whole and its lines counted; a Chalk record costs a token and goes to area 4, or is lost without one; CHALK_CFG.EN seeds the port's generator. -/
def Obligations.DumpsAndChalk : Prop := ∀ s : State, s.Overlock →
  (∀ (j : Fin 4) (x : Nat), (s.dumpOf j).next = some x → s.alive = true → s.on .TAPE_DUMP_CFG_EN j = true → x ≤ s.voted (s.dumpDom j) → (s.dumpOf j).captured = none → ∃ t,
    exec (.dumpInstant j) s = .next t ∧ t.dumpOf j = { s.dumpOf j with next := some (dumpAfter (s.dumpPeriod j) x),
                                                                       captured := some (s.dumpHeader j x ((s.dumpPayload j).length / 8) ++ s.dumpPayload j) } ∧
      (∀ k, k ≠ j.val → t.dumpOf k = s.dumpOf k) ∧ s.SameFlds t [] ∧ s.SameMem t) ∧
  (∀ (j : Fin 4) (x : Nat), (s.dumpOf j).next = some x → s.alive = true → s.on .TAPE_DUMP_CFG_EN j = true → x ≤ s.voted (s.dumpDom j) → (s.dumpOf j).captured ≠ none → ∃ t,
    exec (.dumpInstant j) s = .next t ∧ (t.dumpOf j).captured = (s.dumpOf j).captured ∧ (t.dumpOf j).skipped = ((s.dumpOf j).skipped + 1) % 2 ^ 32 ∧ t.on .TAPE_EVENT_DUMP_SKIP = true ∧
      t.ctr (devWord (244 + j)) = ctrAdd (s.ctr (devWord (244 + j))) 1 ∧ s.SameFlds t [(.TAPE_EVENT_DUMP_SKIP, 0)] ∧ s.SameMem t) ∧
  (∀ (j : Fin 4) (a b c d e f g h : Nat), (s.dumpOf j).captured = some [a, b, c, d, e, f, g, h] → s.alive = true → s.areaFits j 1 = true → s.fld .TAPE_OUT_CFG_SPACE j = 2 →
    s.fld .TAPE_OUT_BASE_BASE j * 4096 + s.fld .TAPE_OUT_PI_PI j % s.areaSize j * 64 + 64 ≤ 0x20_0000 → ∃ t, exec (.dumpWritten j) s = .next t ∧
      t.localMem.readBytes (s.fld .TAPE_OUT_BASE_BASE j * 4096 + s.fld .TAPE_OUT_PI_PI j % s.areaSize j * 64) 64 = ([a, b, c, d, e, f, g, h].map (leBytes 8)).flatten ∧
      (∀ n, n < s.fld .TAPE_OUT_BASE_BASE j * 4096 + s.fld .TAPE_OUT_PI_PI j % s.areaSize j * 64 ∨
        s.fld .TAPE_OUT_BASE_BASE j * 4096 + s.fld .TAPE_OUT_PI_PI j % s.areaSize j * 64 + 64 ≤ n → t.localMem.byte n = s.localMem.byte n) ∧ t.dram = s.dram ∧ t.boot = s.boot ∧
      (t.dumpOf j).captured = none ∧ (t.dumpOf j).seq = ((s.dumpOf j).seq + 1) % 2 ^ 32 ∧ t.fld .TAPE_OUT_PI_PI j = (s.fld .TAPE_OUT_PI_PI j + 1) % 2 ^ 32 ∧
      t.ctr (devWord (240 + j)) = ctrAdd (s.ctr (devWord (240 + j))) 1 ∧ s.SameFlds t [(.TAPE_OUT_PI_PI, j)]) ∧
  (∀ (j : Fin 4) (w : List Nat), (s.dumpOf j).captured = some w → s.alive = true → s.areaFits j (wordLines w).length = false → ∃ t, exec (.dumpWritten j) s = .next t ∧
    (t.dumpOf j).captured = none ∧ (t.dumpOf j).seq = (s.dumpOf j).seq ∧ t.on .TAPE_EVENT_OUT_LOST = true ∧
    t.ctr (devWord (248 + j)) = ctrAdd (s.ctr (devWord (248 + j))) (wordLines w).length ∧ s.SameFlds t [(.TAPE_EVENT_OUT_LOST, 0)] ∧ s.SameMem t) ∧
  (∀ (x : List Byte) (rest : List (List Byte)), s.tape.fates = x :: rest → s.alive = true → s.on .TAPE_CTRL_CHALK_RUN = true → 1000 ≤ s.chalkTokens → s.areaFits 4 1 = true →
    s.fld .TAPE_OUT_CFG_SPACE 4 = 0 → (s.pfn (s.fld .TAPE_OUT_CFG_PF 4)).busMaster = true → ∃ t, exec .chalkRecord s = .next t ∧ t.tape.fates = rest ∧ t.tape.chalkTok = s.chalkTokens - 1000 ∧
      t.out = s.out ++ [.hostWrite (s.fld .TAPE_OUT_CFG_PF 4) (s.fld .TAPE_OUT_BASE_BASE 4 * 4096 + s.fld .TAPE_OUT_PI_PI 4 % s.areaSize 4 * 64)
        (hostAttr false (s.on .TAPE_OUT_CFG_NO_SNOOP 4)) x] ∧
      t.fld .TAPE_OUT_PI_PI 4 = (s.fld .TAPE_OUT_PI_PI 4 + 1) % 2 ^ 32 ∧ t.ctr (devWord 252) = ctrAdd (s.ctr (devWord 252)) 1 ∧ s.SameFlds t [(.TAPE_OUT_PI_PI, 4)] ∧ s.SameMem t) ∧
  (∀ (x : List Byte) (rest : List (List Byte)), s.tape.fates = x :: rest → s.alive = true → s.on .TAPE_CTRL_CHALK_RUN = true → s.chalkTokens < 1000 → ∃ t, exec .chalkRecord s = .next t ∧
    t.tape.fates = rest ∧ t.on .TAPE_EVENT_CHALK_LOST = true ∧ t.ctr (devWord 253) = ctrAdd (s.ctr (devWord 253)) 1 ∧ s.SameFlds t [(.TAPE_EVENT_CHALK_LOST, 0)] ∧ s.SameMem t) ∧
  (∀ (r : Req) (p : Port) (k : BitVec 5), s.Grants r true .TAPE_CHALK_CFG p 0 → ∃ t, exec (.chalkEnable r p k) s = .next t ∧ t.on .TAPE_CHALK_CFG_EN p = true ∧
    t.fld .TAPE_CHALK_CFG_K p = k.toNat ∧ t.tape.lfsr.get 0 p = s.lfsrSeedOf p ∧ s.SameFlds t [(.TAPE_CHALK_CFG_EN, p), (.TAPE_CHALK_CFG_K, p)] ∧ s.SameMem t)

/-- Slots and counters (R507, R513 to R516, R527): a slot at its midpoint is classified as transmitting or idle, and an idle one is counted at its end; a write of PEC_CFG clears its counter; CLEAR and CLEAR_OVF act on the words of one
block and on no other, a group or block that does not exist is refused, READ_FUNC shows a function's counters, and a command ends with its code and CNT_DONE; a changed block is written back to DRAM. -/
def Obligations.SlotsAndCounters : Prop := ∀ s : State, s.Overlock →
  (∀ p : Port, s.alive = true → s.linkState p = 6 → s.slotT p ≠ 0 → (s.slotAcct p).idle = none →
    (s.slotAcct p).upAt + (s.slotAcct p).n * s.slotT p + s.slotT p / 2 ≤ s.lNow → s.onWire p = some none → ∃ t, exec (.slotClassify p) s = .next t ∧
      t.slotAcct p = { s.slotAcct p with n := (s.slotAcct p).n + 1, tx := (s.slotAcct p).tx + 1 } ∧ s.SameFlds t [] ∧ s.SameMem t) ∧
  (∀ p : Port, s.alive = true → s.linkState p = 6 → s.slotT p ≠ 0 → (s.slotAcct p).idle = none →
    (s.slotAcct p).upAt + (s.slotAcct p).n * s.slotT p + s.slotT p / 2 ≤ s.lNow → s.onWire p = none → ∃ t, exec (.slotClassify p) s = .next t ∧
      t.slotAcct p = { s.slotAcct p with n := (s.slotAcct p).n + 1, idle := some (if s.frameWaits p then 62 else 61) } ∧ s.SameFlds t [] ∧ s.SameMem t) ∧
  (∀ (p : Port) (w : Nat), s.alive = true → s.linkState p = 6 → s.slotT p ≠ 0 → (s.slotAcct p).idle = some w → (s.slotAcct p).upAt + (s.slotAcct p).n * s.slotT p ≤ s.lNow →
    s.lNow < (s.slotAcct p).upAt + (s.slotAcct p).n * s.slotT p + s.slotT p / 2 → ∃ t, exec (.slotClassify p) s = .next t ∧ t.slotAcct p = { s.slotAcct p with idle := none } ∧
      t.ctr (portWord p w) = ctrAdd (s.ctr (portWord p w)) 1 ∧ s.SameFlds t [] ∧ s.SameMem t) ∧
  (∀ (r : Req) (p : Port) (i : Fin 8) (v : BitVec 32), s.Grants r true .TAPE_PEC_CFG p i → ∃ t, exec (.pecCfgWrite r p i v) s = .next t ∧ t.ctr (portWord p (64 + i)) = 0 ∧
    (∀ a, a ≠ portWord p (64 + i) → t.ctr a = s.ctr a) ∧ t.fld .TAPE_PEC_CFG_EVENT p i = v.toNat / 2 ^ 24 % 64 ∧ t.fld .TAPE_PEC_CFG_EN p i = v.toNat / 2 ^ 31 ∧
    s.SameFlds t [(.TAPE_PEC_CFG_EN, p), (.TAPE_PEC_CFG_MODE, p), (.TAPE_PEC_CFG_EVENT, p), (.TAPE_PEC_CFG_TC_MASK, p), (.TAPE_PEC_CFG_QUAL, p), (.TAPE_PEC_CFG_QUAL_EN, p)] ∧ s.SameMem t) ∧
  (∀ (r : Req) (g : Fin 16) (i : BitVec 24), s.Grants r true .TAPE_CNT_CMD 0 0 → s.on .TAPE_CNT_STATUS_BUSY = false → g.val < 7 → i.toNat < (groupOf g).2.2 → ∃ t,
    exec (.cntClear r g false i) s = .next t ∧ (∀ a, t.ctr a = if (groupOf g).1 + i.toNat * (groupOf g).2.1 ≤ a ∧ a < (groupOf g).1 + i.toNat * (groupOf g).2.1 + (groupOf g).2.1 ∧
      valueWord a = false then 0 else s.ctr a) ∧ t.on .TAPE_CNT_STATUS_BUSY = true ∧ t.tape.cmdCode = 0 ∧
    s.SameFlds t [(.TAPE_CNT_CMD_OP, 0), (.TAPE_CNT_CMD_GROUP, 0), (.TAPE_CNT_CMD_ALL, 0), (.TAPE_CNT_CMD_INDEX, 0), (.TAPE_CNT_STATUS_BUSY, 0)] ∧ s.SameMem t) ∧
  (∀ (r : Req) (g : Fin 16) (i : BitVec 24), s.Grants r true .TAPE_CNT_CMD 0 0 → s.on .TAPE_CNT_STATUS_BUSY = false → g.val < 7 → i.toNat < (groupOf g).2.2 →
    (s.tape.ctr.map Prod.fst).Nodup → ∃ t, exec (.cntClearOvf r g false i) s = .next t ∧ (∀ a, t.ctr a = if (groupOf g).1 + i.toNat * (groupOf g).2.1 ≤ a ∧
      a < (groupOf g).1 + i.toNat * (groupOf g).2.1 + (groupOf g).2.1 ∧ valueWord a = false then clearBit (s.ctr a) 63 else s.ctr a) ∧ t.on .TAPE_CNT_STATUS_BUSY = true ∧
    s.SameFlds t [(.TAPE_CNT_CMD_OP, 0), (.TAPE_CNT_CMD_GROUP, 0), (.TAPE_CNT_CMD_ALL, 0), (.TAPE_CNT_CMD_INDEX, 0), (.TAPE_CNT_STATUS_BUSY, 0)] ∧ s.SameMem t) ∧
  (∀ (r : Req) (c : Instr) (g : Fin 16) (i : BitVec 24), c ∈ [Instr.cntClear r g false i, .cntClearOvf r g false i] → s.Grants r true .TAPE_CNT_CMD 0 0 → s.on .TAPE_CNT_STATUS_BUSY = false →
    8 ≤ g.val ∨ (g.val < 7 ∧ (groupOf g).2.2 ≤ i.toNat) → ∃ t, exec c s = .next t ∧ t.tape = { s.tape with cmdCode := if 8 ≤ g.val then 7 else 6 } ∧ t.on .TAPE_CNT_STATUS_BUSY = true ∧
      s.SameFlds t [(.TAPE_CNT_CMD_OP, 0), (.TAPE_CNT_CMD_GROUP, 0), (.TAPE_CNT_CMD_ALL, 0), (.TAPE_CNT_CMD_INDEX, 0), (.TAPE_CNT_STATUS_BUSY, 0)] ∧ s.SameMem t) ∧
  (∀ (r : Req) (i : BitVec 24), s.Grants r true .TAPE_CNT_CMD 0 0 → s.on .TAPE_CNT_STATUS_BUSY = false → s.tcntKept = true → i.toNat < 262144 → ∃ t, exec (.cntReadFunc r i false) s = .next t ∧
    (∀ w, w < 8 → t.fld .TAPE_CNT_DATA_WORD w = s.tape.func.get 0 (8 * i.toNat + w) % 2 ^ 64) ∧ t.tape = { s.tape with cmdCode := 0 } ∧ t.on .TAPE_CNT_STATUS_BUSY = true ∧
    s.SameFlds t ([(.TAPE_CNT_CMD_OP, 0), (.TAPE_CNT_CMD_GROUP, 0), (.TAPE_CNT_CMD_ALL, 0), (.TAPE_CNT_CMD_INDEX, 0), (.TAPE_CNT_STATUS_BUSY, 0)] ++
      (List.range 8).map fun w => (.TAPE_CNT_DATA_WORD, w)) ∧ s.SameMem t) ∧
  (s.on .TAPE_CNT_STATUS_BUSY = true → ∃ t, exec .cntCmdComplete s = .next t ∧ t.on .TAPE_CNT_STATUS_BUSY = false ∧ t.fld .TAPE_CNT_STATUS_CODE = s.tape.cmdCode % 16 ∧
    t.on .TAPE_EVENT_CNT_DONE = true ∧ t.tape = s.tape ∧ s.SameFlds t [(.TAPE_CNT_STATUS_BUSY, 0), (.TAPE_CNT_STATUS_CODE, 0), (.TAPE_EVENT_CNT_DONE, 0)] ∧ s.SameMem t) ∧
  (∀ (r : Req) (c : Instr) (g : Fin 16) (i : BitVec 24) (all err : Bool), c ∈ [Instr.cntClear r g all i, .cntClearOvf r g all i, .cntReadFunc r i err] → s.Grants r true .TAPE_CNT_CMD 0 0 →
    s.on .TAPE_CNT_STATUS_BUSY = true → ∃ t, exec c s = .next t ∧ t.tape = s.tape ∧ s.SameFlds t [] ∧ s.SameMem t) ∧
  (∀ i : Nat, s.dev ≠ .off → s.tcntKept = true → s.thim.dramFailed = false → s.tape.dirty = [i] → s.fld .TAPE_TCNT_BASE_BASE * 2 ^ 24 + 64 * i + 64 ≤ s.dma.dramSize → ∃ t,
    exec (.tcntWriteback []) s = .next t ∧ t.dram.readBytes (s.fld .TAPE_TCNT_BASE_BASE * 2 ^ 24 + 64 * i) 64 = ((List.range 8).map fun w => leBytes 8 (s.tape.func.get 0 (8 * i + w))).flatten ∧
    (∀ a, a < s.fld .TAPE_TCNT_BASE_BASE * 2 ^ 24 + 64 * i ∨ s.fld .TAPE_TCNT_BASE_BASE * 2 ^ 24 + 64 * i + 64 ≤ a → t.dram.byte a = s.dram.byte a) ∧ t.tape.dirty = [] ∧
    t.localMem = s.localMem ∧ t.boot = s.boot ∧ s.SameFlds t [])
end

