-- ==== Sys2Proof/Decode.lean ====
section
/-!
DEFINITION. The decoder of command words. The table of operations and events gives no row any bits (its rows have no fields), so no word spells a command: commands arrive from
outside as terms of `Instr`, in the queue of the state.
-/
namespace Sys2Proof

/-- The command that a word of `nbits` bits spells by the table's bits: the table gives none (log entry 4). -/
def decodeTableWord (_nbits _w : Nat) : Option Instr := none

end Sys2Proof
end

