-- ==== Sys2Proof/Laws/State.lean ====
section
/-!
SUPPORT. What each primitive update of the state leaves alone: one lemma per field per update, true by unfolding the record update.
-/
namespace Sys2Proof.Machine

/-! ## setFld -/

@[simp] theorem State.setFld_pending (s : State) (f : Fl) (i j v : Nat) : (s.setFld f i j v).pending = s.pending := rfl
@[simp] theorem State.setFld_dev (s : State) (f : Fl) (i j v : Nat) : (s.setFld f i j v).dev = s.dev := rfl
@[simp] theorem State.setFld_time (s : State) (f : Fl) (i j v : Nat) : (s.setFld f i j v).time = s.time := rfl
@[simp] theorem State.setFld_ptp (s : State) (f : Fl) (i j v : Nat) : (s.setFld f i j v).ptp = s.ptp := rfl
@[simp] theorem State.setFld_ttdp (s : State) (f : Fl) (i j v : Nat) : (s.setFld f i j v).ttdp = s.ttdp := rfl
@[simp] theorem State.setFld_sup (s : State) (f : Fl) (i j v : Nat) : (s.setFld f i j v).sup = s.sup := rfl
@[simp] theorem State.setFld_bolt (s : State) (f : Fl) (i j v : Nat) : (s.setFld f i j v).bolt = s.bolt := rfl
@[simp] theorem State.setFld_port (s : State) (f : Fl) (i j v : Nat) : (s.setFld f i j v).port = s.port := rfl
@[simp] theorem State.setFld_queue (s : State) (f : Fl) (i j v : Nat) : (s.setFld f i j v).queue = s.queue := rfl
@[simp] theorem State.setFld_strm (s : State) (f : Fl) (i j v : Nat) : (s.setFld f i j v).strm = s.strm := rfl
@[simp] theorem State.setFld_mend (s : State) (f : Fl) (i j v : Nat) : (s.setFld f i j v).mend = s.mend := rfl
@[simp] theorem State.setFld_hif (s : State) (f : Fl) (i j v : Nat) : (s.setFld f i j v).hif = s.hif := rfl
@[simp] theorem State.setFld_dma (s : State) (f : Fl) (i j v : Nat) : (s.setFld f i j v).dma = s.dma := rfl
@[simp] theorem State.setFld_intc (s : State) (f : Fl) (i j v : Nat) : (s.setFld f i j v).intc = s.intc := rfl
@[simp] theorem State.setFld_boot (s : State) (f : Fl) (i j v : Nat) : (s.setFld f i j v).boot = s.boot := rfl
@[simp] theorem State.setFld_thim (s : State) (f : Fl) (i j v : Nat) : (s.setFld f i j v).thim = s.thim := rfl
@[simp] theorem State.setFld_pair (s : State) (f : Fl) (i j v : Nat) : (s.setFld f i j v).pair = s.pair := rfl
@[simp] theorem State.setFld_tape (s : State) (f : Fl) (i j v : Nat) : (s.setFld f i j v).tape = s.tape := rfl
@[simp] theorem State.setFld_pins (s : State) (f : Fl) (i j v : Nat) : (s.setFld f i j v).pins = s.pins := rfl
@[simp] theorem State.setFld_localMem (s : State) (f : Fl) (i j v : Nat) : (s.setFld f i j v).localMem = s.localMem := rfl
@[simp] theorem State.setFld_dram (s : State) (f : Fl) (i j v : Nat) : (s.setFld f i j v).dram = s.dram := rfl
@[simp] theorem State.setFld_out (s : State) (f : Fl) (i j v : Nat) : (s.setFld f i j v).out = s.out := rfl
@[simp] theorem State.setFld_free (s : State) (f : Fl) (i j v : Nat) : (s.setFld f i j v).free = s.free := rfl

/-! ## emit -/

@[simp] theorem State.emit_pending (s : State) (o : Out) : (s.emit o).pending = s.pending := rfl
@[simp] theorem State.emit_regs (s : State) (o : Out) : (s.emit o).regs = s.regs := rfl
@[simp] theorem State.emit_dev (s : State) (o : Out) : (s.emit o).dev = s.dev := rfl
@[simp] theorem State.emit_time (s : State) (o : Out) : (s.emit o).time = s.time := rfl
@[simp] theorem State.emit_ptp (s : State) (o : Out) : (s.emit o).ptp = s.ptp := rfl
@[simp] theorem State.emit_ttdp (s : State) (o : Out) : (s.emit o).ttdp = s.ttdp := rfl
@[simp] theorem State.emit_sup (s : State) (o : Out) : (s.emit o).sup = s.sup := rfl
@[simp] theorem State.emit_bolt (s : State) (o : Out) : (s.emit o).bolt = s.bolt := rfl
@[simp] theorem State.emit_port (s : State) (o : Out) : (s.emit o).port = s.port := rfl
@[simp] theorem State.emit_queue (s : State) (o : Out) : (s.emit o).queue = s.queue := rfl
@[simp] theorem State.emit_strm (s : State) (o : Out) : (s.emit o).strm = s.strm := rfl
@[simp] theorem State.emit_mend (s : State) (o : Out) : (s.emit o).mend = s.mend := rfl
@[simp] theorem State.emit_hif (s : State) (o : Out) : (s.emit o).hif = s.hif := rfl
@[simp] theorem State.emit_dma (s : State) (o : Out) : (s.emit o).dma = s.dma := rfl
@[simp] theorem State.emit_intc (s : State) (o : Out) : (s.emit o).intc = s.intc := rfl
@[simp] theorem State.emit_boot (s : State) (o : Out) : (s.emit o).boot = s.boot := rfl
@[simp] theorem State.emit_thim (s : State) (o : Out) : (s.emit o).thim = s.thim := rfl
@[simp] theorem State.emit_pair (s : State) (o : Out) : (s.emit o).pair = s.pair := rfl
@[simp] theorem State.emit_tape (s : State) (o : Out) : (s.emit o).tape = s.tape := rfl
@[simp] theorem State.emit_pins (s : State) (o : Out) : (s.emit o).pins = s.pins := rfl
@[simp] theorem State.emit_localMem (s : State) (o : Out) : (s.emit o).localMem = s.localMem := rfl
@[simp] theorem State.emit_dram (s : State) (o : Out) : (s.emit o).dram = s.dram := rfl
@[simp] theorem State.emit_free (s : State) (o : Out) : (s.emit o).free = s.free := rfl
@[simp] theorem State.emit_fld (s : State) (o : Out) (f' : Fl) (i' j' : Nat) : (s.emit o).fld f' i' j' = s.fld f' i' j' := rfl

/-! ## setSrc -/

@[simp] theorem State.setSrc_pending (s : State) (n : Nat) (v : SrcSt) : (s.setSrc n v).pending = s.pending := rfl
@[simp] theorem State.setSrc_regs (s : State) (n : Nat) (v : SrcSt) : (s.setSrc n v).regs = s.regs := rfl
@[simp] theorem State.setSrc_dev (s : State) (n : Nat) (v : SrcSt) : (s.setSrc n v).dev = s.dev := rfl
@[simp] theorem State.setSrc_time (s : State) (n : Nat) (v : SrcSt) : (s.setSrc n v).time = s.time := rfl
@[simp] theorem State.setSrc_ptp (s : State) (n : Nat) (v : SrcSt) : (s.setSrc n v).ptp = s.ptp := rfl
@[simp] theorem State.setSrc_ttdp (s : State) (n : Nat) (v : SrcSt) : (s.setSrc n v).ttdp = s.ttdp := rfl
@[simp] theorem State.setSrc_sup (s : State) (n : Nat) (v : SrcSt) : (s.setSrc n v).sup = s.sup := rfl
@[simp] theorem State.setSrc_bolt (s : State) (n : Nat) (v : SrcSt) : (s.setSrc n v).bolt = s.bolt := rfl
@[simp] theorem State.setSrc_port (s : State) (n : Nat) (v : SrcSt) : (s.setSrc n v).port = s.port := rfl
@[simp] theorem State.setSrc_queue (s : State) (n : Nat) (v : SrcSt) : (s.setSrc n v).queue = s.queue := rfl
@[simp] theorem State.setSrc_strm (s : State) (n : Nat) (v : SrcSt) : (s.setSrc n v).strm = s.strm := rfl
@[simp] theorem State.setSrc_mend (s : State) (n : Nat) (v : SrcSt) : (s.setSrc n v).mend = s.mend := rfl
@[simp] theorem State.setSrc_hif (s : State) (n : Nat) (v : SrcSt) : (s.setSrc n v).hif = s.hif := rfl
@[simp] theorem State.setSrc_dma (s : State) (n : Nat) (v : SrcSt) : (s.setSrc n v).dma = s.dma := rfl
@[simp] theorem State.setSrc_boot (s : State) (n : Nat) (v : SrcSt) : (s.setSrc n v).boot = s.boot := rfl
@[simp] theorem State.setSrc_thim (s : State) (n : Nat) (v : SrcSt) : (s.setSrc n v).thim = s.thim := rfl
@[simp] theorem State.setSrc_pair (s : State) (n : Nat) (v : SrcSt) : (s.setSrc n v).pair = s.pair := rfl
@[simp] theorem State.setSrc_tape (s : State) (n : Nat) (v : SrcSt) : (s.setSrc n v).tape = s.tape := rfl
@[simp] theorem State.setSrc_pins (s : State) (n : Nat) (v : SrcSt) : (s.setSrc n v).pins = s.pins := rfl
@[simp] theorem State.setSrc_localMem (s : State) (n : Nat) (v : SrcSt) : (s.setSrc n v).localMem = s.localMem := rfl
@[simp] theorem State.setSrc_dram (s : State) (n : Nat) (v : SrcSt) : (s.setSrc n v).dram = s.dram := rfl
@[simp] theorem State.setSrc_out (s : State) (n : Nat) (v : SrcSt) : (s.setSrc n v).out = s.out := rfl
@[simp] theorem State.setSrc_free (s : State) (n : Nat) (v : SrcSt) : (s.setSrc n v).free = s.free := rfl
@[simp] theorem State.setSrc_fld (s : State) (n : Nat) (v : SrcSt) (f' : Fl) (i' j' : Nat) : (s.setSrc n v).fld f' i' j' = s.fld f' i' j' := rfl

/-! ## setCnt -/

@[simp] theorem State.setCnt_pending (s : State) (x c v : Nat) : (s.setCnt x c v).pending = s.pending := rfl
@[simp] theorem State.setCnt_regs (s : State) (x c v : Nat) : (s.setCnt x c v).regs = s.regs := rfl
@[simp] theorem State.setCnt_dev (s : State) (x c v : Nat) : (s.setCnt x c v).dev = s.dev := rfl
@[simp] theorem State.setCnt_ptp (s : State) (x c v : Nat) : (s.setCnt x c v).ptp = s.ptp := rfl
@[simp] theorem State.setCnt_ttdp (s : State) (x c v : Nat) : (s.setCnt x c v).ttdp = s.ttdp := rfl
@[simp] theorem State.setCnt_sup (s : State) (x c v : Nat) : (s.setCnt x c v).sup = s.sup := rfl
@[simp] theorem State.setCnt_bolt (s : State) (x c v : Nat) : (s.setCnt x c v).bolt = s.bolt := rfl
@[simp] theorem State.setCnt_port (s : State) (x c v : Nat) : (s.setCnt x c v).port = s.port := rfl
@[simp] theorem State.setCnt_queue (s : State) (x c v : Nat) : (s.setCnt x c v).queue = s.queue := rfl
@[simp] theorem State.setCnt_strm (s : State) (x c v : Nat) : (s.setCnt x c v).strm = s.strm := rfl
@[simp] theorem State.setCnt_mend (s : State) (x c v : Nat) : (s.setCnt x c v).mend = s.mend := rfl
@[simp] theorem State.setCnt_hif (s : State) (x c v : Nat) : (s.setCnt x c v).hif = s.hif := rfl
@[simp] theorem State.setCnt_dma (s : State) (x c v : Nat) : (s.setCnt x c v).dma = s.dma := rfl
@[simp] theorem State.setCnt_intc (s : State) (x c v : Nat) : (s.setCnt x c v).intc = s.intc := rfl
@[simp] theorem State.setCnt_boot (s : State) (x c v : Nat) : (s.setCnt x c v).boot = s.boot := rfl
@[simp] theorem State.setCnt_thim (s : State) (x c v : Nat) : (s.setCnt x c v).thim = s.thim := rfl
@[simp] theorem State.setCnt_pair (s : State) (x c v : Nat) : (s.setCnt x c v).pair = s.pair := rfl
@[simp] theorem State.setCnt_tape (s : State) (x c v : Nat) : (s.setCnt x c v).tape = s.tape := rfl
@[simp] theorem State.setCnt_pins (s : State) (x c v : Nat) : (s.setCnt x c v).pins = s.pins := rfl
@[simp] theorem State.setCnt_localMem (s : State) (x c v : Nat) : (s.setCnt x c v).localMem = s.localMem := rfl
@[simp] theorem State.setCnt_dram (s : State) (x c v : Nat) : (s.setCnt x c v).dram = s.dram := rfl
@[simp] theorem State.setCnt_out (s : State) (x c v : Nat) : (s.setCnt x c v).out = s.out := rfl
@[simp] theorem State.setCnt_free (s : State) (x c v : Nat) : (s.setCnt x c v).free = s.free := rfl
@[simp] theorem State.setCnt_fld (s : State) (x c v : Nat) (f' : Fl) (i' j' : Nat) : (s.setCnt x c v).fld f' i' j' = s.fld f' i' j' := rfl

/-! ## setDom -/

@[simp] theorem State.setDom_pending (s : State) (d : Nat) (v : DomSt) : (s.setDom d v).pending = s.pending := rfl
@[simp] theorem State.setDom_regs (s : State) (d : Nat) (v : DomSt) : (s.setDom d v).regs = s.regs := rfl
@[simp] theorem State.setDom_dev (s : State) (d : Nat) (v : DomSt) : (s.setDom d v).dev = s.dev := rfl
@[simp] theorem State.setDom_ptp (s : State) (d : Nat) (v : DomSt) : (s.setDom d v).ptp = s.ptp := rfl
@[simp] theorem State.setDom_ttdp (s : State) (d : Nat) (v : DomSt) : (s.setDom d v).ttdp = s.ttdp := rfl
@[simp] theorem State.setDom_sup (s : State) (d : Nat) (v : DomSt) : (s.setDom d v).sup = s.sup := rfl
@[simp] theorem State.setDom_bolt (s : State) (d : Nat) (v : DomSt) : (s.setDom d v).bolt = s.bolt := rfl
@[simp] theorem State.setDom_port (s : State) (d : Nat) (v : DomSt) : (s.setDom d v).port = s.port := rfl
@[simp] theorem State.setDom_queue (s : State) (d : Nat) (v : DomSt) : (s.setDom d v).queue = s.queue := rfl
@[simp] theorem State.setDom_strm (s : State) (d : Nat) (v : DomSt) : (s.setDom d v).strm = s.strm := rfl
@[simp] theorem State.setDom_mend (s : State) (d : Nat) (v : DomSt) : (s.setDom d v).mend = s.mend := rfl
@[simp] theorem State.setDom_hif (s : State) (d : Nat) (v : DomSt) : (s.setDom d v).hif = s.hif := rfl
@[simp] theorem State.setDom_dma (s : State) (d : Nat) (v : DomSt) : (s.setDom d v).dma = s.dma := rfl
@[simp] theorem State.setDom_intc (s : State) (d : Nat) (v : DomSt) : (s.setDom d v).intc = s.intc := rfl
@[simp] theorem State.setDom_boot (s : State) (d : Nat) (v : DomSt) : (s.setDom d v).boot = s.boot := rfl
@[simp] theorem State.setDom_thim (s : State) (d : Nat) (v : DomSt) : (s.setDom d v).thim = s.thim := rfl
@[simp] theorem State.setDom_pair (s : State) (d : Nat) (v : DomSt) : (s.setDom d v).pair = s.pair := rfl
@[simp] theorem State.setDom_tape (s : State) (d : Nat) (v : DomSt) : (s.setDom d v).tape = s.tape := rfl
@[simp] theorem State.setDom_pins (s : State) (d : Nat) (v : DomSt) : (s.setDom d v).pins = s.pins := rfl
@[simp] theorem State.setDom_localMem (s : State) (d : Nat) (v : DomSt) : (s.setDom d v).localMem = s.localMem := rfl
@[simp] theorem State.setDom_dram (s : State) (d : Nat) (v : DomSt) : (s.setDom d v).dram = s.dram := rfl
@[simp] theorem State.setDom_out (s : State) (d : Nat) (v : DomSt) : (s.setDom d v).out = s.out := rfl
@[simp] theorem State.setDom_free (s : State) (d : Nat) (v : DomSt) : (s.setDom d v).free = s.free := rfl
@[simp] theorem State.setDom_fld (s : State) (d : Nat) (v : DomSt) (f' : Fl) (i' j' : Nat) : (s.setDom d v).fld f' i' j' = s.fld f' i' j' := rfl

/-! ## setPt -/

@[simp] theorem State.setPt_pending (s : State) (p : Nat) (v : PortSt) : (s.setPt p v).pending = s.pending := rfl
@[simp] theorem State.setPt_regs (s : State) (p : Nat) (v : PortSt) : (s.setPt p v).regs = s.regs := rfl
@[simp] theorem State.setPt_dev (s : State) (p : Nat) (v : PortSt) : (s.setPt p v).dev = s.dev := rfl
@[simp] theorem State.setPt_time (s : State) (p : Nat) (v : PortSt) : (s.setPt p v).time = s.time := rfl
@[simp] theorem State.setPt_ptp (s : State) (p : Nat) (v : PortSt) : (s.setPt p v).ptp = s.ptp := rfl
@[simp] theorem State.setPt_ttdp (s : State) (p : Nat) (v : PortSt) : (s.setPt p v).ttdp = s.ttdp := rfl
@[simp] theorem State.setPt_sup (s : State) (p : Nat) (v : PortSt) : (s.setPt p v).sup = s.sup := rfl
@[simp] theorem State.setPt_bolt (s : State) (p : Nat) (v : PortSt) : (s.setPt p v).bolt = s.bolt := rfl
@[simp] theorem State.setPt_queue (s : State) (p : Nat) (v : PortSt) : (s.setPt p v).queue = s.queue := rfl
@[simp] theorem State.setPt_strm (s : State) (p : Nat) (v : PortSt) : (s.setPt p v).strm = s.strm := rfl
@[simp] theorem State.setPt_mend (s : State) (p : Nat) (v : PortSt) : (s.setPt p v).mend = s.mend := rfl
@[simp] theorem State.setPt_hif (s : State) (p : Nat) (v : PortSt) : (s.setPt p v).hif = s.hif := rfl
@[simp] theorem State.setPt_dma (s : State) (p : Nat) (v : PortSt) : (s.setPt p v).dma = s.dma := rfl
@[simp] theorem State.setPt_intc (s : State) (p : Nat) (v : PortSt) : (s.setPt p v).intc = s.intc := rfl
@[simp] theorem State.setPt_boot (s : State) (p : Nat) (v : PortSt) : (s.setPt p v).boot = s.boot := rfl
@[simp] theorem State.setPt_thim (s : State) (p : Nat) (v : PortSt) : (s.setPt p v).thim = s.thim := rfl
@[simp] theorem State.setPt_pair (s : State) (p : Nat) (v : PortSt) : (s.setPt p v).pair = s.pair := rfl
@[simp] theorem State.setPt_tape (s : State) (p : Nat) (v : PortSt) : (s.setPt p v).tape = s.tape := rfl
@[simp] theorem State.setPt_pins (s : State) (p : Nat) (v : PortSt) : (s.setPt p v).pins = s.pins := rfl
@[simp] theorem State.setPt_localMem (s : State) (p : Nat) (v : PortSt) : (s.setPt p v).localMem = s.localMem := rfl
@[simp] theorem State.setPt_dram (s : State) (p : Nat) (v : PortSt) : (s.setPt p v).dram = s.dram := rfl
@[simp] theorem State.setPt_out (s : State) (p : Nat) (v : PortSt) : (s.setPt p v).out = s.out := rfl
@[simp] theorem State.setPt_free (s : State) (p : Nat) (v : PortSt) : (s.setPt p v).free = s.free := rfl
@[simp] theorem State.setPt_fld (s : State) (p : Nat) (v : PortSt) (f' : Fl) (i' j' : Nat) : (s.setPt p v).fld f' i' j' = s.fld f' i' j' := rfl

/-! ## updPt -/

@[simp] theorem State.updPt_pending (s : State) (p : Nat) (g : PortSt → PortSt) : (s.updPt p g).pending = s.pending := rfl
@[simp] theorem State.updPt_regs (s : State) (p : Nat) (g : PortSt → PortSt) : (s.updPt p g).regs = s.regs := rfl
@[simp] theorem State.updPt_dev (s : State) (p : Nat) (g : PortSt → PortSt) : (s.updPt p g).dev = s.dev := rfl
@[simp] theorem State.updPt_time (s : State) (p : Nat) (g : PortSt → PortSt) : (s.updPt p g).time = s.time := rfl
@[simp] theorem State.updPt_ptp (s : State) (p : Nat) (g : PortSt → PortSt) : (s.updPt p g).ptp = s.ptp := rfl
@[simp] theorem State.updPt_ttdp (s : State) (p : Nat) (g : PortSt → PortSt) : (s.updPt p g).ttdp = s.ttdp := rfl
@[simp] theorem State.updPt_sup (s : State) (p : Nat) (g : PortSt → PortSt) : (s.updPt p g).sup = s.sup := rfl
@[simp] theorem State.updPt_bolt (s : State) (p : Nat) (g : PortSt → PortSt) : (s.updPt p g).bolt = s.bolt := rfl
@[simp] theorem State.updPt_queue (s : State) (p : Nat) (g : PortSt → PortSt) : (s.updPt p g).queue = s.queue := rfl
@[simp] theorem State.updPt_strm (s : State) (p : Nat) (g : PortSt → PortSt) : (s.updPt p g).strm = s.strm := rfl
@[simp] theorem State.updPt_mend (s : State) (p : Nat) (g : PortSt → PortSt) : (s.updPt p g).mend = s.mend := rfl
@[simp] theorem State.updPt_hif (s : State) (p : Nat) (g : PortSt → PortSt) : (s.updPt p g).hif = s.hif := rfl
@[simp] theorem State.updPt_dma (s : State) (p : Nat) (g : PortSt → PortSt) : (s.updPt p g).dma = s.dma := rfl
@[simp] theorem State.updPt_intc (s : State) (p : Nat) (g : PortSt → PortSt) : (s.updPt p g).intc = s.intc := rfl
@[simp] theorem State.updPt_boot (s : State) (p : Nat) (g : PortSt → PortSt) : (s.updPt p g).boot = s.boot := rfl
@[simp] theorem State.updPt_thim (s : State) (p : Nat) (g : PortSt → PortSt) : (s.updPt p g).thim = s.thim := rfl
@[simp] theorem State.updPt_pair (s : State) (p : Nat) (g : PortSt → PortSt) : (s.updPt p g).pair = s.pair := rfl
@[simp] theorem State.updPt_tape (s : State) (p : Nat) (g : PortSt → PortSt) : (s.updPt p g).tape = s.tape := rfl
@[simp] theorem State.updPt_pins (s : State) (p : Nat) (g : PortSt → PortSt) : (s.updPt p g).pins = s.pins := rfl
@[simp] theorem State.updPt_localMem (s : State) (p : Nat) (g : PortSt → PortSt) : (s.updPt p g).localMem = s.localMem := rfl
@[simp] theorem State.updPt_dram (s : State) (p : Nat) (g : PortSt → PortSt) : (s.updPt p g).dram = s.dram := rfl
@[simp] theorem State.updPt_out (s : State) (p : Nat) (g : PortSt → PortSt) : (s.updPt p g).out = s.out := rfl
@[simp] theorem State.updPt_free (s : State) (p : Nat) (g : PortSt → PortSt) : (s.updPt p g).free = s.free := rfl
@[simp] theorem State.updPt_fld (s : State) (p : Nat) (g : PortSt → PortSt) (f' : Fl) (i' j' : Nat) : (s.updPt p g).fld f' i' j' = s.fld f' i' j' := rfl

/-! ## setQu -/

@[simp] theorem State.setQu_pending (s : State) (q : Nat) (v : QSt) : (s.setQu q v).pending = s.pending := rfl
@[simp] theorem State.setQu_regs (s : State) (q : Nat) (v : QSt) : (s.setQu q v).regs = s.regs := rfl
@[simp] theorem State.setQu_dev (s : State) (q : Nat) (v : QSt) : (s.setQu q v).dev = s.dev := rfl
@[simp] theorem State.setQu_time (s : State) (q : Nat) (v : QSt) : (s.setQu q v).time = s.time := rfl
@[simp] theorem State.setQu_ptp (s : State) (q : Nat) (v : QSt) : (s.setQu q v).ptp = s.ptp := rfl
@[simp] theorem State.setQu_ttdp (s : State) (q : Nat) (v : QSt) : (s.setQu q v).ttdp = s.ttdp := rfl
@[simp] theorem State.setQu_sup (s : State) (q : Nat) (v : QSt) : (s.setQu q v).sup = s.sup := rfl
@[simp] theorem State.setQu_bolt (s : State) (q : Nat) (v : QSt) : (s.setQu q v).bolt = s.bolt := rfl
@[simp] theorem State.setQu_port (s : State) (q : Nat) (v : QSt) : (s.setQu q v).port = s.port := rfl
@[simp] theorem State.setQu_strm (s : State) (q : Nat) (v : QSt) : (s.setQu q v).strm = s.strm := rfl
@[simp] theorem State.setQu_mend (s : State) (q : Nat) (v : QSt) : (s.setQu q v).mend = s.mend := rfl
@[simp] theorem State.setQu_hif (s : State) (q : Nat) (v : QSt) : (s.setQu q v).hif = s.hif := rfl
@[simp] theorem State.setQu_dma (s : State) (q : Nat) (v : QSt) : (s.setQu q v).dma = s.dma := rfl
@[simp] theorem State.setQu_intc (s : State) (q : Nat) (v : QSt) : (s.setQu q v).intc = s.intc := rfl
@[simp] theorem State.setQu_boot (s : State) (q : Nat) (v : QSt) : (s.setQu q v).boot = s.boot := rfl
@[simp] theorem State.setQu_thim (s : State) (q : Nat) (v : QSt) : (s.setQu q v).thim = s.thim := rfl
@[simp] theorem State.setQu_pair (s : State) (q : Nat) (v : QSt) : (s.setQu q v).pair = s.pair := rfl
@[simp] theorem State.setQu_tape (s : State) (q : Nat) (v : QSt) : (s.setQu q v).tape = s.tape := rfl
@[simp] theorem State.setQu_pins (s : State) (q : Nat) (v : QSt) : (s.setQu q v).pins = s.pins := rfl
@[simp] theorem State.setQu_localMem (s : State) (q : Nat) (v : QSt) : (s.setQu q v).localMem = s.localMem := rfl
@[simp] theorem State.setQu_dram (s : State) (q : Nat) (v : QSt) : (s.setQu q v).dram = s.dram := rfl
@[simp] theorem State.setQu_out (s : State) (q : Nat) (v : QSt) : (s.setQu q v).out = s.out := rfl
@[simp] theorem State.setQu_free (s : State) (q : Nat) (v : QSt) : (s.setQu q v).free = s.free := rfl
@[simp] theorem State.setQu_fld (s : State) (q : Nat) (v : QSt) (f' : Fl) (i' j' : Nat) : (s.setQu q v).fld f' i' j' = s.fld f' i' j' := rfl

/-! ## updQu -/

@[simp] theorem State.updQu_pending (s : State) (q : Nat) (g : QSt → QSt) : (s.updQu q g).pending = s.pending := rfl
@[simp] theorem State.updQu_regs (s : State) (q : Nat) (g : QSt → QSt) : (s.updQu q g).regs = s.regs := rfl
@[simp] theorem State.updQu_dev (s : State) (q : Nat) (g : QSt → QSt) : (s.updQu q g).dev = s.dev := rfl
@[simp] theorem State.updQu_time (s : State) (q : Nat) (g : QSt → QSt) : (s.updQu q g).time = s.time := rfl
@[simp] theorem State.updQu_ptp (s : State) (q : Nat) (g : QSt → QSt) : (s.updQu q g).ptp = s.ptp := rfl
@[simp] theorem State.updQu_ttdp (s : State) (q : Nat) (g : QSt → QSt) : (s.updQu q g).ttdp = s.ttdp := rfl
@[simp] theorem State.updQu_sup (s : State) (q : Nat) (g : QSt → QSt) : (s.updQu q g).sup = s.sup := rfl
@[simp] theorem State.updQu_bolt (s : State) (q : Nat) (g : QSt → QSt) : (s.updQu q g).bolt = s.bolt := rfl
@[simp] theorem State.updQu_port (s : State) (q : Nat) (g : QSt → QSt) : (s.updQu q g).port = s.port := rfl
@[simp] theorem State.updQu_strm (s : State) (q : Nat) (g : QSt → QSt) : (s.updQu q g).strm = s.strm := rfl
@[simp] theorem State.updQu_mend (s : State) (q : Nat) (g : QSt → QSt) : (s.updQu q g).mend = s.mend := rfl
@[simp] theorem State.updQu_hif (s : State) (q : Nat) (g : QSt → QSt) : (s.updQu q g).hif = s.hif := rfl
@[simp] theorem State.updQu_dma (s : State) (q : Nat) (g : QSt → QSt) : (s.updQu q g).dma = s.dma := rfl
@[simp] theorem State.updQu_intc (s : State) (q : Nat) (g : QSt → QSt) : (s.updQu q g).intc = s.intc := rfl
@[simp] theorem State.updQu_boot (s : State) (q : Nat) (g : QSt → QSt) : (s.updQu q g).boot = s.boot := rfl
@[simp] theorem State.updQu_thim (s : State) (q : Nat) (g : QSt → QSt) : (s.updQu q g).thim = s.thim := rfl
@[simp] theorem State.updQu_pair (s : State) (q : Nat) (g : QSt → QSt) : (s.updQu q g).pair = s.pair := rfl
@[simp] theorem State.updQu_tape (s : State) (q : Nat) (g : QSt → QSt) : (s.updQu q g).tape = s.tape := rfl
@[simp] theorem State.updQu_pins (s : State) (q : Nat) (g : QSt → QSt) : (s.updQu q g).pins = s.pins := rfl
@[simp] theorem State.updQu_localMem (s : State) (q : Nat) (g : QSt → QSt) : (s.updQu q g).localMem = s.localMem := rfl
@[simp] theorem State.updQu_dram (s : State) (q : Nat) (g : QSt → QSt) : (s.updQu q g).dram = s.dram := rfl
@[simp] theorem State.updQu_out (s : State) (q : Nat) (g : QSt → QSt) : (s.updQu q g).out = s.out := rfl
@[simp] theorem State.updQu_free (s : State) (q : Nat) (g : QSt → QSt) : (s.updQu q g).free = s.free := rfl
@[simp] theorem State.updQu_fld (s : State) (q : Nat) (g : QSt → QSt) (f' : Fl) (i' j' : Nat) : (s.updQu q g).fld f' i' j' = s.fld f' i' j' := rfl

/-! ## updBo -/

@[simp] theorem State.updBo_pending (s : State) (b : Nat) (g : BoltSt → BoltSt) : (s.updBo b g).pending = s.pending := rfl
@[simp] theorem State.updBo_regs (s : State) (b : Nat) (g : BoltSt → BoltSt) : (s.updBo b g).regs = s.regs := rfl
@[simp] theorem State.updBo_dev (s : State) (b : Nat) (g : BoltSt → BoltSt) : (s.updBo b g).dev = s.dev := rfl
@[simp] theorem State.updBo_time (s : State) (b : Nat) (g : BoltSt → BoltSt) : (s.updBo b g).time = s.time := rfl
@[simp] theorem State.updBo_ptp (s : State) (b : Nat) (g : BoltSt → BoltSt) : (s.updBo b g).ptp = s.ptp := rfl
@[simp] theorem State.updBo_ttdp (s : State) (b : Nat) (g : BoltSt → BoltSt) : (s.updBo b g).ttdp = s.ttdp := rfl
@[simp] theorem State.updBo_sup (s : State) (b : Nat) (g : BoltSt → BoltSt) : (s.updBo b g).sup = s.sup := rfl
@[simp] theorem State.updBo_port (s : State) (b : Nat) (g : BoltSt → BoltSt) : (s.updBo b g).port = s.port := rfl
@[simp] theorem State.updBo_queue (s : State) (b : Nat) (g : BoltSt → BoltSt) : (s.updBo b g).queue = s.queue := rfl
@[simp] theorem State.updBo_strm (s : State) (b : Nat) (g : BoltSt → BoltSt) : (s.updBo b g).strm = s.strm := rfl
@[simp] theorem State.updBo_mend (s : State) (b : Nat) (g : BoltSt → BoltSt) : (s.updBo b g).mend = s.mend := rfl
@[simp] theorem State.updBo_hif (s : State) (b : Nat) (g : BoltSt → BoltSt) : (s.updBo b g).hif = s.hif := rfl
@[simp] theorem State.updBo_dma (s : State) (b : Nat) (g : BoltSt → BoltSt) : (s.updBo b g).dma = s.dma := rfl
@[simp] theorem State.updBo_intc (s : State) (b : Nat) (g : BoltSt → BoltSt) : (s.updBo b g).intc = s.intc := rfl
@[simp] theorem State.updBo_boot (s : State) (b : Nat) (g : BoltSt → BoltSt) : (s.updBo b g).boot = s.boot := rfl
@[simp] theorem State.updBo_thim (s : State) (b : Nat) (g : BoltSt → BoltSt) : (s.updBo b g).thim = s.thim := rfl
@[simp] theorem State.updBo_pair (s : State) (b : Nat) (g : BoltSt → BoltSt) : (s.updBo b g).pair = s.pair := rfl
@[simp] theorem State.updBo_tape (s : State) (b : Nat) (g : BoltSt → BoltSt) : (s.updBo b g).tape = s.tape := rfl
@[simp] theorem State.updBo_pins (s : State) (b : Nat) (g : BoltSt → BoltSt) : (s.updBo b g).pins = s.pins := rfl
@[simp] theorem State.updBo_localMem (s : State) (b : Nat) (g : BoltSt → BoltSt) : (s.updBo b g).localMem = s.localMem := rfl
@[simp] theorem State.updBo_dram (s : State) (b : Nat) (g : BoltSt → BoltSt) : (s.updBo b g).dram = s.dram := rfl
@[simp] theorem State.updBo_out (s : State) (b : Nat) (g : BoltSt → BoltSt) : (s.updBo b g).out = s.out := rfl
@[simp] theorem State.updBo_free (s : State) (b : Nat) (g : BoltSt → BoltSt) : (s.updBo b g).free = s.free := rfl
@[simp] theorem State.updBo_fld (s : State) (b : Nat) (g : BoltSt → BoltSt) (f' : Fl) (i' j' : Nat) : (s.updBo b g).fld f' i' j' = s.fld f' i' j' := rfl

/-! ## setOutU -/

@[simp] theorem State.setOutU_pending (s : State) (u : Nat) (v : OutSt) : (s.setOutU u v).pending = s.pending := rfl
@[simp] theorem State.setOutU_regs (s : State) (u : Nat) (v : OutSt) : (s.setOutU u v).regs = s.regs := rfl
@[simp] theorem State.setOutU_dev (s : State) (u : Nat) (v : OutSt) : (s.setOutU u v).dev = s.dev := rfl
@[simp] theorem State.setOutU_ptp (s : State) (u : Nat) (v : OutSt) : (s.setOutU u v).ptp = s.ptp := rfl
@[simp] theorem State.setOutU_ttdp (s : State) (u : Nat) (v : OutSt) : (s.setOutU u v).ttdp = s.ttdp := rfl
@[simp] theorem State.setOutU_sup (s : State) (u : Nat) (v : OutSt) : (s.setOutU u v).sup = s.sup := rfl
@[simp] theorem State.setOutU_bolt (s : State) (u : Nat) (v : OutSt) : (s.setOutU u v).bolt = s.bolt := rfl
@[simp] theorem State.setOutU_port (s : State) (u : Nat) (v : OutSt) : (s.setOutU u v).port = s.port := rfl
@[simp] theorem State.setOutU_queue (s : State) (u : Nat) (v : OutSt) : (s.setOutU u v).queue = s.queue := rfl
@[simp] theorem State.setOutU_strm (s : State) (u : Nat) (v : OutSt) : (s.setOutU u v).strm = s.strm := rfl
@[simp] theorem State.setOutU_mend (s : State) (u : Nat) (v : OutSt) : (s.setOutU u v).mend = s.mend := rfl
@[simp] theorem State.setOutU_hif (s : State) (u : Nat) (v : OutSt) : (s.setOutU u v).hif = s.hif := rfl
@[simp] theorem State.setOutU_dma (s : State) (u : Nat) (v : OutSt) : (s.setOutU u v).dma = s.dma := rfl
@[simp] theorem State.setOutU_intc (s : State) (u : Nat) (v : OutSt) : (s.setOutU u v).intc = s.intc := rfl
@[simp] theorem State.setOutU_boot (s : State) (u : Nat) (v : OutSt) : (s.setOutU u v).boot = s.boot := rfl
@[simp] theorem State.setOutU_thim (s : State) (u : Nat) (v : OutSt) : (s.setOutU u v).thim = s.thim := rfl
@[simp] theorem State.setOutU_pair (s : State) (u : Nat) (v : OutSt) : (s.setOutU u v).pair = s.pair := rfl
@[simp] theorem State.setOutU_tape (s : State) (u : Nat) (v : OutSt) : (s.setOutU u v).tape = s.tape := rfl
@[simp] theorem State.setOutU_pins (s : State) (u : Nat) (v : OutSt) : (s.setOutU u v).pins = s.pins := rfl
@[simp] theorem State.setOutU_localMem (s : State) (u : Nat) (v : OutSt) : (s.setOutU u v).localMem = s.localMem := rfl
@[simp] theorem State.setOutU_dram (s : State) (u : Nat) (v : OutSt) : (s.setOutU u v).dram = s.dram := rfl
@[simp] theorem State.setOutU_out (s : State) (u : Nat) (v : OutSt) : (s.setOutU u v).out = s.out := rfl
@[simp] theorem State.setOutU_free (s : State) (u : Nat) (v : OutSt) : (s.setOutU u v).free = s.free := rfl
@[simp] theorem State.setOutU_fld (s : State) (u : Nat) (v : OutSt) (f' : Fl) (i' j' : Nat) : (s.setOutU u v).fld f' i' j' = s.fld f' i' j' := rfl

/-! ## draw -/

@[simp] theorem State.draw_pending (s : State) : (s.draw).2.pending = s.pending := rfl
@[simp] theorem State.draw_regs (s : State) : (s.draw).2.regs = s.regs := rfl
@[simp] theorem State.draw_dev (s : State) : (s.draw).2.dev = s.dev := rfl
@[simp] theorem State.draw_time (s : State) : (s.draw).2.time = s.time := rfl
@[simp] theorem State.draw_ptp (s : State) : (s.draw).2.ptp = s.ptp := rfl
@[simp] theorem State.draw_ttdp (s : State) : (s.draw).2.ttdp = s.ttdp := rfl
@[simp] theorem State.draw_sup (s : State) : (s.draw).2.sup = s.sup := rfl
@[simp] theorem State.draw_bolt (s : State) : (s.draw).2.bolt = s.bolt := rfl
@[simp] theorem State.draw_port (s : State) : (s.draw).2.port = s.port := rfl
@[simp] theorem State.draw_queue (s : State) : (s.draw).2.queue = s.queue := rfl
@[simp] theorem State.draw_strm (s : State) : (s.draw).2.strm = s.strm := rfl
@[simp] theorem State.draw_mend (s : State) : (s.draw).2.mend = s.mend := rfl
@[simp] theorem State.draw_hif (s : State) : (s.draw).2.hif = s.hif := rfl
@[simp] theorem State.draw_dma (s : State) : (s.draw).2.dma = s.dma := rfl
@[simp] theorem State.draw_intc (s : State) : (s.draw).2.intc = s.intc := rfl
@[simp] theorem State.draw_boot (s : State) : (s.draw).2.boot = s.boot := rfl
@[simp] theorem State.draw_thim (s : State) : (s.draw).2.thim = s.thim := rfl
@[simp] theorem State.draw_pair (s : State) : (s.draw).2.pair = s.pair := rfl
@[simp] theorem State.draw_tape (s : State) : (s.draw).2.tape = s.tape := rfl
@[simp] theorem State.draw_pins (s : State) : (s.draw).2.pins = s.pins := rfl
@[simp] theorem State.draw_localMem (s : State) : (s.draw).2.localMem = s.localMem := rfl
@[simp] theorem State.draw_dram (s : State) : (s.draw).2.dram = s.dram := rfl
@[simp] theorem State.draw_out (s : State) : (s.draw).2.out = s.out := rfl
@[simp] theorem State.draw_fld (s : State) (f : Fl) (i j : Nat) : (s.draw).2.fld f i j = s.fld f i j := rfl

end Sys2Proof.Machine
end

