-- ==== Sys2Proof/Laws/Tables.lean ====
section
/-!
SUPPORT. Sparse tables and memories: a read after a write, other keys left alone, the canonical form kept.
-/
namespace Sys2Proof.Machine

variable {α : Type}

/-! ## Reads after writes -/

theorem Tbl.get_insert_same (d : α) (t : Tbl α) (k : Nat) (v : α) : Tbl.get d (t.insert k v) k = v := by
  induction t with
  | nil => simp [Tbl.insert, Tbl.get]
  | cons e t ih =>
    obtain ⟨a, w⟩ := e
    simp only [Tbl.insert]
    split
    · simp [Tbl.get]
    · split
      · simp [Tbl.get]
      · simp [Tbl.get, *]

theorem Tbl.get_insert_ne (d : α) (t : Tbl α) {k k' : Nat} (h : k' ≠ k) (v : α) : Tbl.get d (t.insert k v) k' = Tbl.get d t k' := by
  induction t with
  | nil => simp [Tbl.insert, Tbl.get, h]
  | cons e t ih =>
    obtain ⟨a, w⟩ := e
    simp only [Tbl.insert]
    split
    · simp [Tbl.get, h]
    · split
      · subst_vars; simp [Tbl.get, h]
      · simp [Tbl.get, ih]

theorem Tbl.get_erase_same (d : α) (t : Tbl α) (k : Nat) : Tbl.get d (t.erase k) k = d := by
  induction t with
  | nil => rfl
  | cons e t ih =>
    obtain ⟨a, w⟩ := e
    simp only [Tbl.erase]
    split
    · exact ih
    · simp [Tbl.get, *]

theorem Tbl.get_erase_ne (d : α) (t : Tbl α) {k k' : Nat} (h : k' ≠ k) : Tbl.get d (t.erase k) k' = Tbl.get d t k' := by
  induction t with
  | nil => rfl
  | cons e t ih =>
    obtain ⟨a, w⟩ := e
    simp only [Tbl.erase]
    split
    · subst_vars; simp [Tbl.get, h, ih]
    · simp [Tbl.get, ih]

/-! ## Entries and their order -/

theorem Tbl.mem_insert (t : Tbl α) (k : Nat) (v : α) {e : Nat × α} (h : e ∈ t.insert k v) : e = (k, v) ∨ e ∈ t := by
  induction t with
  | nil => simpa [Tbl.insert] using h
  | cons x t ih =>
    obtain ⟨a, w⟩ := x
    simp only [Tbl.insert] at h
    split at h
    · simpa using h
    · split at h
      · rcases List.mem_cons.mp h with h | h
        · exact .inl h
        · exact .inr (by simp [h])
      · rcases List.mem_cons.mp h with h | h
        · exact .inr (by simp [h])
        · exact (ih h).imp id fun h => by simp [h]

theorem Tbl.mem_erase (t : Tbl α) (k : Nat) {e : Nat × α} (h : e ∈ t.erase k) : e ∈ t := by
  induction t with
  | nil => simp [Tbl.erase] at h
  | cons x t ih =>
    obtain ⟨a, w⟩ := x
    simp only [Tbl.erase] at h
    split at h
    · exact List.mem_cons_of_mem _ (ih h)
    · rcases List.mem_cons.mp h with h | h
      · simp [h]
      · exact List.mem_cons_of_mem _ (ih h)

theorem Tbl.rising_insert {t : Tbl α} (h : t.Pairwise fun a b => a.1 < b.1) (k : Nat) (v : α) : (t.insert k v).Pairwise fun a b => a.1 < b.1 := by
  induction t with
  | nil => simp [Tbl.insert]
  | cons x t ih =>
    obtain ⟨a, w⟩ := x
    obtain ⟨h1, h2⟩ := List.pairwise_cons.mp h
    simp only [Tbl.insert]
    split
    · refine List.pairwise_cons.mpr ⟨fun e he => ?_, h⟩
      rcases List.mem_cons.mp he with rfl | he
      · assumption
      · exact Nat.lt_trans ‹_› (h1 e he)
    · split
      · subst_vars; exact List.pairwise_cons.mpr ⟨h1, h2⟩
      · refine List.pairwise_cons.mpr ⟨fun e he => ?_, ih h2⟩
        rcases Tbl.mem_insert t k v he with rfl | he
        · simp; omega
        · exact h1 e he

theorem Tbl.rising_erase {t : Tbl α} (h : t.Pairwise fun a b => a.1 < b.1) (k : Nat) : (t.erase k).Pairwise fun a b => a.1 < b.1 := by
  induction t with
  | nil => simp [Tbl.erase]
  | cons x t ih =>
    obtain ⟨a, w⟩ := x
    obtain ⟨h1, h2⟩ := List.pairwise_cons.mp h
    simp only [Tbl.erase]
    split
    · exact ih h2
    · exact List.pairwise_cons.mpr ⟨fun e he => h1 e (Tbl.mem_erase t k he), ih h2⟩

variable [DecidableEq α]

/-- A read of a key after a write of it gives the value written. -/
@[simp] theorem Tbl.get_set_same (d : α) (t : Tbl α) (k : Nat) (v : α) : Tbl.get d (t.set d k v) k = v := by
  unfold Tbl.set
  split
  · subst_vars; exact Tbl.get_erase_same ..
  · exact Tbl.get_insert_same ..

/-- A write of a key leaves every other key alone. -/
theorem Tbl.get_set_ne (d : α) (t : Tbl α) {k k' : Nat} (h : k' ≠ k) (v : α) : Tbl.get d (t.set d k v) k' = Tbl.get d t k' := by
  unfold Tbl.set
  split
  · exact Tbl.get_erase_ne _ _ h
  · exact Tbl.get_insert_ne _ _ h _

/-! ## The canonical form -/

/-- A write keeps the canonical form. -/
theorem Tbl.wf_set (d : α) {t : Tbl α} (h : t.wf d = true) (k : Nat) (v : α) : (t.set d k v).wf d = true := by
  simp only [Tbl.wf, Bool.and_eq_true, decide_eq_true_eq, List.all_eq_true] at h ⊢
  unfold Tbl.set
  split
  · exact ⟨Tbl.rising_erase h.1 k, fun e he => h.2 e (Tbl.mem_erase t k he)⟩
  · refine ⟨Tbl.rising_insert h.1 k v, fun e he => ?_⟩
    rcases Tbl.mem_insert t k v he with rfl | he
    · assumption
    · exact h.2 e he

/-! ## Memories -/

@[simp] theorem Memory.byte_put_same (m : Memory) (a : Nat) (b : Byte) : (m.put a b).byte a = b := Tbl.get_set_same ..
theorem Memory.byte_put_ne (m : Memory) {a a' : Nat} (h : a' ≠ a) (b : Byte) : (m.put a b).byte a' = m.byte a' := Tbl.get_set_ne _ _ h _

/-- The operations on a memory keep its canonical form. -/
theorem Memory.wf_put {m : Memory} (h : m.wf = true) (a : Nat) (b : Byte) : (m.put a b).wf = true := Tbl.wf_set _ h a b
theorem Memory.wf_writeBytes {m : Memory} (h : m.wf = true) (a : Nat) (l : List Byte) : (m.writeBytes a l).wf = true := by
  induction l generalizing m a with
  | nil => exact h
  | cons b l ih => exact ih (Memory.wf_put h a b) (a + 1)
theorem Memory.wf_writeLe {m : Memory} (h : m.wf = true) (a n v : Nat) : (m.writeLe a n v).wf = true := Memory.wf_writeBytes h ..

/-- A write of bytes leaves every byte outside them alone. -/
theorem Memory.byte_writeBytes_off (m : Memory) (a : Nat) (l : List Byte) {x : Nat} (h : x < a ∨ a + l.length ≤ x) : (m.writeBytes a l).byte x = m.byte x := by
  induction l generalizing m a with
  | nil => rfl
  | cons b l ih =>
    simp only [List.length_cons] at h
    exact (ih (m.put a b) (a + 1) (by omega)).trans (m.byte_put_ne (by omega) b)

/-- A byte of a write of bytes reads as it was written. -/
theorem Memory.byte_writeBytes_in (m : Memory) (a : Nat) (l : List Byte) {k : Nat} (h : k < l.length) : (m.writeBytes a l).byte (a + k) = l[k] := by
  induction l generalizing m a k with
  | nil => simp at h
  | cons b l ih =>
    cases k with
    | zero => exact (Memory.byte_writeBytes_off (m.put a b) (a + 1) l (.inl (by omega))).trans (m.byte_put_same a b)
    | succ k =>
      have := ih (m.put a b) (a + 1) (k := k) (by simpa using h)
      simpa [Memory.writeBytes, Nat.add_assoc, Nat.add_comm 1 k] using this

@[simp] theorem leBytes_length (n v : Nat) : (leBytes n v).length = n := by
  induction n generalizing v with
  | zero => rfl
  | succ n ih => simp [leBytes, ih]

/-- The memory of the state after reset has the canonical form. -/
theorem State.reset_memories : State.reset.localMem.wf = true ∧ State.reset.dram.wf = true := by decide

end Sys2Proof.Machine
end

