-- ==== Sys2Proof/Laws/Ops.lean ====
section
/-!
SUPPORT. What the shared operations do and what they leave alone: register fields, event flags, pending bits, counter words.
-/
namespace Sys2Proof.Machine

/-- A fold keeps what each of its steps keeps. -/
theorem foldl_keeps {σ α β : Type} (g : σ → β) (f : σ → α → σ) (h : ∀ a x, g (f a x) = g a) (l : List α) (s : σ) : g (l.foldl f s) = g s := by
  induction l generalizing s with
  | nil => rfl
  | cons x l ih => exact (ih (f s x)).trans (h s x)

/-! ## Register fields -/

theorem Regs.find_drop_same (k : FlKey) (l : Regs) : (l.drop k).find k = none := by
  induction l with
  | nil => rfl
  | cons e l ih => obtain ⟨a, v⟩ := e; by_cases h : a = k <;> simp [Regs.drop, Regs.find, h, ih]

theorem Regs.find_drop_ne {k k' : FlKey} (h : k ≠ k') (l : Regs) : (Regs.drop k' l).find k = l.find k := by
  induction l with
  | nil => rfl
  | cons e l ih =>
    obtain ⟨a, v⟩ := e
    by_cases h1 : a = k'
    · have h2 : k' ≠ k := fun e => h e.symm
      simp [Regs.drop, Regs.find, h1, h2, ih]
    · by_cases h2 : a = k <;> simp [Regs.drop, Regs.find, h, h1, h2, ih]

/-- A field reads as it was written, cut to its width. -/
@[simp] theorem State.fld_setFld_same (s : State) (f : Fl) (i j v : Nat) : (s.setFld f i j v).fld f i j = v % 2 ^ f.info.width := by
  unfold State.setFld State.fld
  dsimp only
  by_cases h : v % 2 ^ f.info.width = fldReset f i
  · rw [if_pos h, Regs.find_drop_same]; exact h.symm
  · rw [if_neg h]; simp [Regs.find]

theorem Fl.reset_lt (f : Fl) : f.info.reset < 2 ^ f.info.width := by cases f <;> decide

/-- A field holds a number of its width, in every state. -/
theorem State.fld_lt (s : State) (f : Fl) (i j : Nat) : s.fld f i j < 2 ^ f.info.width := by
  unfold State.fld
  split
  · exact Nat.mod_lt _ (Nat.two_pow_pos _)
  · unfold fldReset
    split
    · subst_vars; split <;> decide
    · exact f.reset_lt

@[simp] theorem State.fld_mod (s : State) (f : Fl) (i j : Nat) : s.fld f i j % 2 ^ f.info.width = s.fld f i j := Nat.mod_eq_of_lt (s.fld_lt f i j)

/-- A write of a field leaves every other field alone. -/
theorem State.fld_setFld_ne (s : State) {f f' : Fl} {i i' j j' : Nat} (h : (⟨f', i', j'⟩ : FlKey) ≠ ⟨f, i, j⟩) (v : Nat) :
    (s.setFld f i j v).fld f' i' j' = s.fld f' i' j' := by
  unfold State.setFld State.fld
  dsimp only
  by_cases hw : v % 2 ^ f.info.width = fldReset f i
  · rw [if_pos hw, Regs.find_drop_ne h]
  · rw [if_neg hw, Regs.find, if_neg (fun e => h e.symm), Regs.find_drop_ne h]

/-- A write of a field leaves fields of another name alone. -/
@[simp] theorem State.fld_setFld_other (s : State) {f f' : Fl} (h : f' ≠ f) (i i' j j' v : Nat) : (s.setFld f i j v).fld f' i' j' = s.fld f' i' j' :=
  s.fld_setFld_ne (fun e => h (congrArg FlKey.f e)) v

/-- A write of a field leaves the fields of other instances alone. -/
@[simp] theorem State.fld_setFld_inst (s : State) (f f' : Fl) {i i' : Nat} (h : i' ≠ i) (j j' v : Nat) : (s.setFld f i j v).fld f' i' j' = s.fld f' i' j' :=
  s.fld_setFld_ne (fun e => h (congrArg FlKey.i e)) v

/-- A field given the value it has: no field changes. -/
theorem State.fld_setFld_id (s : State) {f : Fl} {i j v : Nat} (h : s.fld f i j = v % 2 ^ f.info.width) (f' : Fl) (i' j' : Nat) :
    (s.setFld f i j v).fld f' i' j' = s.fld f' i' j' := by
  by_cases e : (⟨f', i', j'⟩ : FlKey) = ⟨f, i, j⟩
  · cases e; simp [h]
  · exact s.fld_setFld_ne e v

/-- Fields that a list of writes does not name keep their values. -/
@[simp] theorem State.fld_setFlds_other (s : State) (i j i' j' : Nat) (f : Fl) (l : List (Fl × Nat)) (h : f ∉ l.map Prod.fst) :
    (s.setFlds i j l).fld f i' j' = s.fld f i' j' := by
  induction l generalizing s with
  | nil => rfl
  | cons e l ih =>
    simp only [List.map_cons, List.mem_cons, not_or] at h
    exact (ih (s.setFld e.1 i j e.2) h.2).trans (s.fld_setFld_other h.1 ..)

theorem State.setFlds_cons (s : State) (i j : Nat) (e : Fl × Nat) (l : List (Fl × Nat)) : s.setFlds i j (e :: l) = (s.setFld e.1 i j e.2).setFlds i j l := rfl
@[simp] theorem State.setFlds_nil (s : State) (i j : Nat) : s.setFlds i j [] = s := rfl


/-! ## setFlds -/

@[simp] theorem State.setFlds_pending (s : State) (i j : Nat) (l : List (Fl × Nat)) : (s.setFlds i j l).pending = s.pending := by
  induction l generalizing s with
  | nil => rfl
  | cons e l ih => exact (ih (s.setFld e.1 i j e.2)).trans rfl
@[simp] theorem State.setFlds_dev (s : State) (i j : Nat) (l : List (Fl × Nat)) : (s.setFlds i j l).dev = s.dev := by
  induction l generalizing s with
  | nil => rfl
  | cons e l ih => exact (ih (s.setFld e.1 i j e.2)).trans rfl
@[simp] theorem State.setFlds_time (s : State) (i j : Nat) (l : List (Fl × Nat)) : (s.setFlds i j l).time = s.time := by
  induction l generalizing s with
  | nil => rfl
  | cons e l ih => exact (ih (s.setFld e.1 i j e.2)).trans rfl
@[simp] theorem State.setFlds_ptp (s : State) (i j : Nat) (l : List (Fl × Nat)) : (s.setFlds i j l).ptp = s.ptp := by
  induction l generalizing s with
  | nil => rfl
  | cons e l ih => exact (ih (s.setFld e.1 i j e.2)).trans rfl
@[simp] theorem State.setFlds_ttdp (s : State) (i j : Nat) (l : List (Fl × Nat)) : (s.setFlds i j l).ttdp = s.ttdp := by
  induction l generalizing s with
  | nil => rfl
  | cons e l ih => exact (ih (s.setFld e.1 i j e.2)).trans rfl
@[simp] theorem State.setFlds_sup (s : State) (i j : Nat) (l : List (Fl × Nat)) : (s.setFlds i j l).sup = s.sup := by
  induction l generalizing s with
  | nil => rfl
  | cons e l ih => exact (ih (s.setFld e.1 i j e.2)).trans rfl
@[simp] theorem State.setFlds_bolt (s : State) (i j : Nat) (l : List (Fl × Nat)) : (s.setFlds i j l).bolt = s.bolt := by
  induction l generalizing s with
  | nil => rfl
  | cons e l ih => exact (ih (s.setFld e.1 i j e.2)).trans rfl
@[simp] theorem State.setFlds_port (s : State) (i j : Nat) (l : List (Fl × Nat)) : (s.setFlds i j l).port = s.port := by
  induction l generalizing s with
  | nil => rfl
  | cons e l ih => exact (ih (s.setFld e.1 i j e.2)).trans rfl
@[simp] theorem State.setFlds_queue (s : State) (i j : Nat) (l : List (Fl × Nat)) : (s.setFlds i j l).queue = s.queue := by
  induction l generalizing s with
  | nil => rfl
  | cons e l ih => exact (ih (s.setFld e.1 i j e.2)).trans rfl
@[simp] theorem State.setFlds_strm (s : State) (i j : Nat) (l : List (Fl × Nat)) : (s.setFlds i j l).strm = s.strm := by
  induction l generalizing s with
  | nil => rfl
  | cons e l ih => exact (ih (s.setFld e.1 i j e.2)).trans rfl
@[simp] theorem State.setFlds_mend (s : State) (i j : Nat) (l : List (Fl × Nat)) : (s.setFlds i j l).mend = s.mend := by
  induction l generalizing s with
  | nil => rfl
  | cons e l ih => exact (ih (s.setFld e.1 i j e.2)).trans rfl
@[simp] theorem State.setFlds_hif (s : State) (i j : Nat) (l : List (Fl × Nat)) : (s.setFlds i j l).hif = s.hif := by
  induction l generalizing s with
  | nil => rfl
  | cons e l ih => exact (ih (s.setFld e.1 i j e.2)).trans rfl
@[simp] theorem State.setFlds_dma (s : State) (i j : Nat) (l : List (Fl × Nat)) : (s.setFlds i j l).dma = s.dma := by
  induction l generalizing s with
  | nil => rfl
  | cons e l ih => exact (ih (s.setFld e.1 i j e.2)).trans rfl
@[simp] theorem State.setFlds_intc (s : State) (i j : Nat) (l : List (Fl × Nat)) : (s.setFlds i j l).intc = s.intc := by
  induction l generalizing s with
  | nil => rfl
  | cons e l ih => exact (ih (s.setFld e.1 i j e.2)).trans rfl
@[simp] theorem State.setFlds_boot (s : State) (i j : Nat) (l : List (Fl × Nat)) : (s.setFlds i j l).boot = s.boot := by
  induction l generalizing s with
  | nil => rfl
  | cons e l ih => exact (ih (s.setFld e.1 i j e.2)).trans rfl
@[simp] theorem State.setFlds_thim (s : State) (i j : Nat) (l : List (Fl × Nat)) : (s.setFlds i j l).thim = s.thim := by
  induction l generalizing s with
  | nil => rfl
  | cons e l ih => exact (ih (s.setFld e.1 i j e.2)).trans rfl
@[simp] theorem State.setFlds_pair (s : State) (i j : Nat) (l : List (Fl × Nat)) : (s.setFlds i j l).pair = s.pair := by
  induction l generalizing s with
  | nil => rfl
  | cons e l ih => exact (ih (s.setFld e.1 i j e.2)).trans rfl
@[simp] theorem State.setFlds_tape (s : State) (i j : Nat) (l : List (Fl × Nat)) : (s.setFlds i j l).tape = s.tape := by
  induction l generalizing s with
  | nil => rfl
  | cons e l ih => exact (ih (s.setFld e.1 i j e.2)).trans rfl
@[simp] theorem State.setFlds_pins (s : State) (i j : Nat) (l : List (Fl × Nat)) : (s.setFlds i j l).pins = s.pins := by
  induction l generalizing s with
  | nil => rfl
  | cons e l ih => exact (ih (s.setFld e.1 i j e.2)).trans rfl
@[simp] theorem State.setFlds_localMem (s : State) (i j : Nat) (l : List (Fl × Nat)) : (s.setFlds i j l).localMem = s.localMem := by
  induction l generalizing s with
  | nil => rfl
  | cons e l ih => exact (ih (s.setFld e.1 i j e.2)).trans rfl
@[simp] theorem State.setFlds_dram (s : State) (i j : Nat) (l : List (Fl × Nat)) : (s.setFlds i j l).dram = s.dram := by
  induction l generalizing s with
  | nil => rfl
  | cons e l ih => exact (ih (s.setFld e.1 i j e.2)).trans rfl
@[simp] theorem State.setFlds_out (s : State) (i j : Nat) (l : List (Fl × Nat)) : (s.setFlds i j l).out = s.out := by
  induction l generalizing s with
  | nil => rfl
  | cons e l ih => exact (ih (s.setFld e.1 i j e.2)).trans rfl
@[simp] theorem State.setFlds_free (s : State) (i j : Nat) (l : List (Fl × Nat)) : (s.setFlds i j l).free = s.free := by
  induction l generalizing s with
  | nil => rfl
  | cons e l ih => exact (ih (s.setFld e.1 i j e.2)).trans rfl

/-! ## pendSet -/

@[simp] theorem State.pendSet_pending (s : State) (n : Nat) : (s.pendSet n).pending = s.pending := by
  unfold State.pendSet; dsimp only; split <;> rfl
@[simp] theorem State.pendSet_dev (s : State) (n : Nat) : (s.pendSet n).dev = s.dev := by
  unfold State.pendSet; dsimp only; split <;> rfl
@[simp] theorem State.pendSet_time (s : State) (n : Nat) : (s.pendSet n).time = s.time := by
  unfold State.pendSet; dsimp only; split <;> rfl
@[simp] theorem State.pendSet_ptp (s : State) (n : Nat) : (s.pendSet n).ptp = s.ptp := by
  unfold State.pendSet; dsimp only; split <;> rfl
@[simp] theorem State.pendSet_ttdp (s : State) (n : Nat) : (s.pendSet n).ttdp = s.ttdp := by
  unfold State.pendSet; dsimp only; split <;> rfl
@[simp] theorem State.pendSet_sup (s : State) (n : Nat) : (s.pendSet n).sup = s.sup := by
  unfold State.pendSet; dsimp only; split <;> rfl
@[simp] theorem State.pendSet_bolt (s : State) (n : Nat) : (s.pendSet n).bolt = s.bolt := by
  unfold State.pendSet; dsimp only; split <;> rfl
@[simp] theorem State.pendSet_port (s : State) (n : Nat) : (s.pendSet n).port = s.port := by
  unfold State.pendSet; dsimp only; split <;> rfl
@[simp] theorem State.pendSet_queue (s : State) (n : Nat) : (s.pendSet n).queue = s.queue := by
  unfold State.pendSet; dsimp only; split <;> rfl
@[simp] theorem State.pendSet_strm (s : State) (n : Nat) : (s.pendSet n).strm = s.strm := by
  unfold State.pendSet; dsimp only; split <;> rfl
@[simp] theorem State.pendSet_mend (s : State) (n : Nat) : (s.pendSet n).mend = s.mend := by
  unfold State.pendSet; dsimp only; split <;> rfl
@[simp] theorem State.pendSet_hif (s : State) (n : Nat) : (s.pendSet n).hif = s.hif := by
  unfold State.pendSet; dsimp only; split <;> rfl
@[simp] theorem State.pendSet_dma (s : State) (n : Nat) : (s.pendSet n).dma = s.dma := by
  unfold State.pendSet; dsimp only; split <;> rfl
@[simp] theorem State.pendSet_intc (s : State) (n : Nat) : (s.pendSet n).intc = s.intc := by
  unfold State.pendSet; dsimp only; split <;> rfl
@[simp] theorem State.pendSet_boot (s : State) (n : Nat) : (s.pendSet n).boot = s.boot := by
  unfold State.pendSet; dsimp only; split <;> rfl
@[simp] theorem State.pendSet_thim (s : State) (n : Nat) : (s.pendSet n).thim = s.thim := by
  unfold State.pendSet; dsimp only; split <;> rfl
@[simp] theorem State.pendSet_pair (s : State) (n : Nat) : (s.pendSet n).pair = s.pair := by
  unfold State.pendSet; dsimp only; split <;> rfl
@[simp] theorem State.pendSet_tape (s : State) (n : Nat) : (s.pendSet n).tape = s.tape := by
  unfold State.pendSet; dsimp only; split <;> rfl
@[simp] theorem State.pendSet_pins (s : State) (n : Nat) : (s.pendSet n).pins = s.pins := by
  unfold State.pendSet; dsimp only; split <;> rfl
@[simp] theorem State.pendSet_localMem (s : State) (n : Nat) : (s.pendSet n).localMem = s.localMem := by
  unfold State.pendSet; dsimp only; split <;> rfl
@[simp] theorem State.pendSet_dram (s : State) (n : Nat) : (s.pendSet n).dram = s.dram := by
  unfold State.pendSet; dsimp only; split <;> rfl
@[simp] theorem State.pendSet_out (s : State) (n : Nat) : (s.pendSet n).out = s.out := by
  unfold State.pendSet; dsimp only; split <;> rfl
@[simp] theorem State.pendSet_free (s : State) (n : Nat) : (s.pendSet n).free = s.free := by
  unfold State.pendSet; dsimp only; split <;> rfl

/-! ## pendClear -/

@[simp] theorem State.pendClear_pending (s : State) (n : Nat) : (s.pendClear n).pending = s.pending := by
  unfold State.pendClear; dsimp only; split <;> rfl
@[simp] theorem State.pendClear_dev (s : State) (n : Nat) : (s.pendClear n).dev = s.dev := by
  unfold State.pendClear; dsimp only; split <;> rfl
@[simp] theorem State.pendClear_time (s : State) (n : Nat) : (s.pendClear n).time = s.time := by
  unfold State.pendClear; dsimp only; split <;> rfl
@[simp] theorem State.pendClear_ptp (s : State) (n : Nat) : (s.pendClear n).ptp = s.ptp := by
  unfold State.pendClear; dsimp only; split <;> rfl
@[simp] theorem State.pendClear_ttdp (s : State) (n : Nat) : (s.pendClear n).ttdp = s.ttdp := by
  unfold State.pendClear; dsimp only; split <;> rfl
@[simp] theorem State.pendClear_sup (s : State) (n : Nat) : (s.pendClear n).sup = s.sup := by
  unfold State.pendClear; dsimp only; split <;> rfl
@[simp] theorem State.pendClear_bolt (s : State) (n : Nat) : (s.pendClear n).bolt = s.bolt := by
  unfold State.pendClear; dsimp only; split <;> rfl
@[simp] theorem State.pendClear_port (s : State) (n : Nat) : (s.pendClear n).port = s.port := by
  unfold State.pendClear; dsimp only; split <;> rfl
@[simp] theorem State.pendClear_queue (s : State) (n : Nat) : (s.pendClear n).queue = s.queue := by
  unfold State.pendClear; dsimp only; split <;> rfl
@[simp] theorem State.pendClear_strm (s : State) (n : Nat) : (s.pendClear n).strm = s.strm := by
  unfold State.pendClear; dsimp only; split <;> rfl
@[simp] theorem State.pendClear_mend (s : State) (n : Nat) : (s.pendClear n).mend = s.mend := by
  unfold State.pendClear; dsimp only; split <;> rfl
@[simp] theorem State.pendClear_hif (s : State) (n : Nat) : (s.pendClear n).hif = s.hif := by
  unfold State.pendClear; dsimp only; split <;> rfl
@[simp] theorem State.pendClear_dma (s : State) (n : Nat) : (s.pendClear n).dma = s.dma := by
  unfold State.pendClear; dsimp only; split <;> rfl
@[simp] theorem State.pendClear_intc (s : State) (n : Nat) : (s.pendClear n).intc = s.intc := by
  unfold State.pendClear; dsimp only; split <;> rfl
@[simp] theorem State.pendClear_boot (s : State) (n : Nat) : (s.pendClear n).boot = s.boot := by
  unfold State.pendClear; dsimp only; split <;> rfl
@[simp] theorem State.pendClear_thim (s : State) (n : Nat) : (s.pendClear n).thim = s.thim := by
  unfold State.pendClear; dsimp only; split <;> rfl
@[simp] theorem State.pendClear_pair (s : State) (n : Nat) : (s.pendClear n).pair = s.pair := by
  unfold State.pendClear; dsimp only; split <;> rfl
@[simp] theorem State.pendClear_tape (s : State) (n : Nat) : (s.pendClear n).tape = s.tape := by
  unfold State.pendClear; dsimp only; split <;> rfl
@[simp] theorem State.pendClear_pins (s : State) (n : Nat) : (s.pendClear n).pins = s.pins := by
  unfold State.pendClear; dsimp only; split <;> rfl
@[simp] theorem State.pendClear_localMem (s : State) (n : Nat) : (s.pendClear n).localMem = s.localMem := by
  unfold State.pendClear; dsimp only; split <;> rfl
@[simp] theorem State.pendClear_dram (s : State) (n : Nat) : (s.pendClear n).dram = s.dram := by
  unfold State.pendClear; dsimp only; split <;> rfl
@[simp] theorem State.pendClear_out (s : State) (n : Nat) : (s.pendClear n).out = s.out := by
  unfold State.pendClear; dsimp only; split <;> rfl
@[simp] theorem State.pendClear_free (s : State) (n : Nat) : (s.pendClear n).free = s.free := by
  unfold State.pendClear; dsimp only; split <;> rfl

/-! ## assertSrc -/

@[simp] theorem State.assertSrc_pending (s : State) (n : Nat) : (s.assertSrc n).pending = s.pending := by
  unfold State.assertSrc; split <;> simp
@[simp] theorem State.assertSrc_dev (s : State) (n : Nat) : (s.assertSrc n).dev = s.dev := by
  unfold State.assertSrc; split <;> simp
@[simp] theorem State.assertSrc_time (s : State) (n : Nat) : (s.assertSrc n).time = s.time := by
  unfold State.assertSrc; split <;> simp
@[simp] theorem State.assertSrc_ptp (s : State) (n : Nat) : (s.assertSrc n).ptp = s.ptp := by
  unfold State.assertSrc; split <;> simp
@[simp] theorem State.assertSrc_ttdp (s : State) (n : Nat) : (s.assertSrc n).ttdp = s.ttdp := by
  unfold State.assertSrc; split <;> simp
@[simp] theorem State.assertSrc_sup (s : State) (n : Nat) : (s.assertSrc n).sup = s.sup := by
  unfold State.assertSrc; split <;> simp
@[simp] theorem State.assertSrc_bolt (s : State) (n : Nat) : (s.assertSrc n).bolt = s.bolt := by
  unfold State.assertSrc; split <;> simp
@[simp] theorem State.assertSrc_port (s : State) (n : Nat) : (s.assertSrc n).port = s.port := by
  unfold State.assertSrc; split <;> simp
@[simp] theorem State.assertSrc_queue (s : State) (n : Nat) : (s.assertSrc n).queue = s.queue := by
  unfold State.assertSrc; split <;> simp
@[simp] theorem State.assertSrc_strm (s : State) (n : Nat) : (s.assertSrc n).strm = s.strm := by
  unfold State.assertSrc; split <;> simp
@[simp] theorem State.assertSrc_mend (s : State) (n : Nat) : (s.assertSrc n).mend = s.mend := by
  unfold State.assertSrc; split <;> simp
@[simp] theorem State.assertSrc_hif (s : State) (n : Nat) : (s.assertSrc n).hif = s.hif := by
  unfold State.assertSrc; split <;> simp
@[simp] theorem State.assertSrc_dma (s : State) (n : Nat) : (s.assertSrc n).dma = s.dma := by
  unfold State.assertSrc; split <;> simp
@[simp] theorem State.assertSrc_intc (s : State) (n : Nat) : (s.assertSrc n).intc = s.intc := by
  unfold State.assertSrc; split <;> simp
@[simp] theorem State.assertSrc_boot (s : State) (n : Nat) : (s.assertSrc n).boot = s.boot := by
  unfold State.assertSrc; split <;> simp
@[simp] theorem State.assertSrc_thim (s : State) (n : Nat) : (s.assertSrc n).thim = s.thim := by
  unfold State.assertSrc; split <;> simp
@[simp] theorem State.assertSrc_pair (s : State) (n : Nat) : (s.assertSrc n).pair = s.pair := by
  unfold State.assertSrc; split <;> simp
@[simp] theorem State.assertSrc_tape (s : State) (n : Nat) : (s.assertSrc n).tape = s.tape := by
  unfold State.assertSrc; split <;> simp
@[simp] theorem State.assertSrc_pins (s : State) (n : Nat) : (s.assertSrc n).pins = s.pins := by
  unfold State.assertSrc; split <;> simp
@[simp] theorem State.assertSrc_localMem (s : State) (n : Nat) : (s.assertSrc n).localMem = s.localMem := by
  unfold State.assertSrc; split <;> simp
@[simp] theorem State.assertSrc_dram (s : State) (n : Nat) : (s.assertSrc n).dram = s.dram := by
  unfold State.assertSrc; split <;> simp
@[simp] theorem State.assertSrc_out (s : State) (n : Nat) : (s.assertSrc n).out = s.out := by
  unfold State.assertSrc; split <;> simp
@[simp] theorem State.assertSrc_free (s : State) (n : Nat) : (s.assertSrc n).free = s.free := by
  unfold State.assertSrc; split <;> simp

/-! ## event -/

@[simp] theorem State.event_pending (s : State) (f : Fl) (i : Nat) : (s.event f i).pending = s.pending := by
  unfold State.event; dsimp only; split <;> simp
@[simp] theorem State.event_dev (s : State) (f : Fl) (i : Nat) : (s.event f i).dev = s.dev := by
  unfold State.event; dsimp only; split <;> simp
@[simp] theorem State.event_time (s : State) (f : Fl) (i : Nat) : (s.event f i).time = s.time := by
  unfold State.event; dsimp only; split <;> simp
@[simp] theorem State.event_ptp (s : State) (f : Fl) (i : Nat) : (s.event f i).ptp = s.ptp := by
  unfold State.event; dsimp only; split <;> simp
@[simp] theorem State.event_ttdp (s : State) (f : Fl) (i : Nat) : (s.event f i).ttdp = s.ttdp := by
  unfold State.event; dsimp only; split <;> simp
@[simp] theorem State.event_sup (s : State) (f : Fl) (i : Nat) : (s.event f i).sup = s.sup := by
  unfold State.event; dsimp only; split <;> simp
@[simp] theorem State.event_bolt (s : State) (f : Fl) (i : Nat) : (s.event f i).bolt = s.bolt := by
  unfold State.event; dsimp only; split <;> simp
@[simp] theorem State.event_port (s : State) (f : Fl) (i : Nat) : (s.event f i).port = s.port := by
  unfold State.event; dsimp only; split <;> simp
@[simp] theorem State.event_queue (s : State) (f : Fl) (i : Nat) : (s.event f i).queue = s.queue := by
  unfold State.event; dsimp only; split <;> simp
@[simp] theorem State.event_strm (s : State) (f : Fl) (i : Nat) : (s.event f i).strm = s.strm := by
  unfold State.event; dsimp only; split <;> simp
@[simp] theorem State.event_mend (s : State) (f : Fl) (i : Nat) : (s.event f i).mend = s.mend := by
  unfold State.event; dsimp only; split <;> simp
@[simp] theorem State.event_hif (s : State) (f : Fl) (i : Nat) : (s.event f i).hif = s.hif := by
  unfold State.event; dsimp only; split <;> simp
@[simp] theorem State.event_dma (s : State) (f : Fl) (i : Nat) : (s.event f i).dma = s.dma := by
  unfold State.event; dsimp only; split <;> simp
@[simp] theorem State.event_intc (s : State) (f : Fl) (i : Nat) : (s.event f i).intc = s.intc := by
  unfold State.event; dsimp only; split <;> simp
@[simp] theorem State.event_boot (s : State) (f : Fl) (i : Nat) : (s.event f i).boot = s.boot := by
  unfold State.event; dsimp only; split <;> simp
@[simp] theorem State.event_thim (s : State) (f : Fl) (i : Nat) : (s.event f i).thim = s.thim := by
  unfold State.event; dsimp only; split <;> simp
@[simp] theorem State.event_pair (s : State) (f : Fl) (i : Nat) : (s.event f i).pair = s.pair := by
  unfold State.event; dsimp only; split <;> simp
@[simp] theorem State.event_tape (s : State) (f : Fl) (i : Nat) : (s.event f i).tape = s.tape := by
  unfold State.event; dsimp only; split <;> simp
@[simp] theorem State.event_pins (s : State) (f : Fl) (i : Nat) : (s.event f i).pins = s.pins := by
  unfold State.event; dsimp only; split <;> simp
@[simp] theorem State.event_localMem (s : State) (f : Fl) (i : Nat) : (s.event f i).localMem = s.localMem := by
  unfold State.event; dsimp only; split <;> simp
@[simp] theorem State.event_dram (s : State) (f : Fl) (i : Nat) : (s.event f i).dram = s.dram := by
  unfold State.event; dsimp only; split <;> simp
@[simp] theorem State.event_out (s : State) (f : Fl) (i : Nat) : (s.event f i).out = s.out := by
  unfold State.event; dsimp only; split <;> simp
@[simp] theorem State.event_free (s : State) (f : Fl) (i : Nat) : (s.event f i).free = s.free := by
  unfold State.event; dsimp only; split <;> simp

/-! ## eventBit -/

@[simp] theorem State.eventBit_pending (s : State) (f : Fl) (i b : Nat) : (s.eventBit f i b).pending = s.pending := by
  unfold State.eventBit; dsimp only; split <;> simp
@[simp] theorem State.eventBit_dev (s : State) (f : Fl) (i b : Nat) : (s.eventBit f i b).dev = s.dev := by
  unfold State.eventBit; dsimp only; split <;> simp
@[simp] theorem State.eventBit_time (s : State) (f : Fl) (i b : Nat) : (s.eventBit f i b).time = s.time := by
  unfold State.eventBit; dsimp only; split <;> simp
@[simp] theorem State.eventBit_ptp (s : State) (f : Fl) (i b : Nat) : (s.eventBit f i b).ptp = s.ptp := by
  unfold State.eventBit; dsimp only; split <;> simp
@[simp] theorem State.eventBit_ttdp (s : State) (f : Fl) (i b : Nat) : (s.eventBit f i b).ttdp = s.ttdp := by
  unfold State.eventBit; dsimp only; split <;> simp
@[simp] theorem State.eventBit_sup (s : State) (f : Fl) (i b : Nat) : (s.eventBit f i b).sup = s.sup := by
  unfold State.eventBit; dsimp only; split <;> simp
@[simp] theorem State.eventBit_bolt (s : State) (f : Fl) (i b : Nat) : (s.eventBit f i b).bolt = s.bolt := by
  unfold State.eventBit; dsimp only; split <;> simp
@[simp] theorem State.eventBit_port (s : State) (f : Fl) (i b : Nat) : (s.eventBit f i b).port = s.port := by
  unfold State.eventBit; dsimp only; split <;> simp
@[simp] theorem State.eventBit_queue (s : State) (f : Fl) (i b : Nat) : (s.eventBit f i b).queue = s.queue := by
  unfold State.eventBit; dsimp only; split <;> simp
@[simp] theorem State.eventBit_strm (s : State) (f : Fl) (i b : Nat) : (s.eventBit f i b).strm = s.strm := by
  unfold State.eventBit; dsimp only; split <;> simp
@[simp] theorem State.eventBit_mend (s : State) (f : Fl) (i b : Nat) : (s.eventBit f i b).mend = s.mend := by
  unfold State.eventBit; dsimp only; split <;> simp
@[simp] theorem State.eventBit_hif (s : State) (f : Fl) (i b : Nat) : (s.eventBit f i b).hif = s.hif := by
  unfold State.eventBit; dsimp only; split <;> simp
@[simp] theorem State.eventBit_dma (s : State) (f : Fl) (i b : Nat) : (s.eventBit f i b).dma = s.dma := by
  unfold State.eventBit; dsimp only; split <;> simp
@[simp] theorem State.eventBit_intc (s : State) (f : Fl) (i b : Nat) : (s.eventBit f i b).intc = s.intc := by
  unfold State.eventBit; dsimp only; split <;> simp
@[simp] theorem State.eventBit_boot (s : State) (f : Fl) (i b : Nat) : (s.eventBit f i b).boot = s.boot := by
  unfold State.eventBit; dsimp only; split <;> simp
@[simp] theorem State.eventBit_thim (s : State) (f : Fl) (i b : Nat) : (s.eventBit f i b).thim = s.thim := by
  unfold State.eventBit; dsimp only; split <;> simp
@[simp] theorem State.eventBit_pair (s : State) (f : Fl) (i b : Nat) : (s.eventBit f i b).pair = s.pair := by
  unfold State.eventBit; dsimp only; split <;> simp
@[simp] theorem State.eventBit_tape (s : State) (f : Fl) (i b : Nat) : (s.eventBit f i b).tape = s.tape := by
  unfold State.eventBit; dsimp only; split <;> simp
@[simp] theorem State.eventBit_pins (s : State) (f : Fl) (i b : Nat) : (s.eventBit f i b).pins = s.pins := by
  unfold State.eventBit; dsimp only; split <;> simp
@[simp] theorem State.eventBit_localMem (s : State) (f : Fl) (i b : Nat) : (s.eventBit f i b).localMem = s.localMem := by
  unfold State.eventBit; dsimp only; split <;> simp
@[simp] theorem State.eventBit_dram (s : State) (f : Fl) (i b : Nat) : (s.eventBit f i b).dram = s.dram := by
  unfold State.eventBit; dsimp only; split <;> simp
@[simp] theorem State.eventBit_out (s : State) (f : Fl) (i b : Nat) : (s.eventBit f i b).out = s.out := by
  unfold State.eventBit; dsimp only; split <;> simp
@[simp] theorem State.eventBit_free (s : State) (f : Fl) (i b : Nat) : (s.eventBit f i b).free = s.free := by
  unfold State.eventBit; dsimp only; split <;> simp

/-! ## bump -/

@[simp] theorem State.bump_pending (s : State) (a n : Nat) : (s.bump a n).pending = s.pending := by
  unfold State.bump; dsimp only; split <;> simp
@[simp] theorem State.bump_dev (s : State) (a n : Nat) : (s.bump a n).dev = s.dev := by
  unfold State.bump; dsimp only; split <;> simp
@[simp] theorem State.bump_time (s : State) (a n : Nat) : (s.bump a n).time = s.time := by
  unfold State.bump; dsimp only; split <;> simp
@[simp] theorem State.bump_ptp (s : State) (a n : Nat) : (s.bump a n).ptp = s.ptp := by
  unfold State.bump; dsimp only; split <;> simp
@[simp] theorem State.bump_ttdp (s : State) (a n : Nat) : (s.bump a n).ttdp = s.ttdp := by
  unfold State.bump; dsimp only; split <;> simp
@[simp] theorem State.bump_sup (s : State) (a n : Nat) : (s.bump a n).sup = s.sup := by
  unfold State.bump; dsimp only; split <;> simp
@[simp] theorem State.bump_bolt (s : State) (a n : Nat) : (s.bump a n).bolt = s.bolt := by
  unfold State.bump; dsimp only; split <;> simp
@[simp] theorem State.bump_port (s : State) (a n : Nat) : (s.bump a n).port = s.port := by
  unfold State.bump; dsimp only; split <;> simp
@[simp] theorem State.bump_queue (s : State) (a n : Nat) : (s.bump a n).queue = s.queue := by
  unfold State.bump; dsimp only; split <;> simp
@[simp] theorem State.bump_strm (s : State) (a n : Nat) : (s.bump a n).strm = s.strm := by
  unfold State.bump; dsimp only; split <;> simp
@[simp] theorem State.bump_mend (s : State) (a n : Nat) : (s.bump a n).mend = s.mend := by
  unfold State.bump; dsimp only; split <;> simp
@[simp] theorem State.bump_hif (s : State) (a n : Nat) : (s.bump a n).hif = s.hif := by
  unfold State.bump; dsimp only; split <;> simp
@[simp] theorem State.bump_dma (s : State) (a n : Nat) : (s.bump a n).dma = s.dma := by
  unfold State.bump; dsimp only; split <;> simp
@[simp] theorem State.bump_intc (s : State) (a n : Nat) : (s.bump a n).intc = s.intc := by
  unfold State.bump; dsimp only; split <;> simp
@[simp] theorem State.bump_boot (s : State) (a n : Nat) : (s.bump a n).boot = s.boot := by
  unfold State.bump; dsimp only; split <;> simp
@[simp] theorem State.bump_thim (s : State) (a n : Nat) : (s.bump a n).thim = s.thim := by
  unfold State.bump; dsimp only; split <;> simp
@[simp] theorem State.bump_pair (s : State) (a n : Nat) : (s.bump a n).pair = s.pair := by
  unfold State.bump; dsimp only; split <;> simp
@[simp] theorem State.bump_pins (s : State) (a n : Nat) : (s.bump a n).pins = s.pins := by
  unfold State.bump; dsimp only; split <;> simp
@[simp] theorem State.bump_localMem (s : State) (a n : Nat) : (s.bump a n).localMem = s.localMem := by
  unfold State.bump; dsimp only; split <;> simp
@[simp] theorem State.bump_dram (s : State) (a n : Nat) : (s.bump a n).dram = s.dram := by
  unfold State.bump; dsimp only; split <;> simp
@[simp] theorem State.bump_out (s : State) (a n : Nat) : (s.bump a n).out = s.out := by
  unfold State.bump; dsimp only; split <;> simp
@[simp] theorem State.bump_free (s : State) (a n : Nat) : (s.bump a n).free = s.free := by
  unfold State.bump; dsimp only; split <;> simp

/-! ## portCount -/

@[simp] theorem State.portCount_pending (s : State) (p w n : Nat) : (s.portCount p w n).pending = s.pending := by
  simp [State.portCount]
@[simp] theorem State.portCount_dev (s : State) (p w n : Nat) : (s.portCount p w n).dev = s.dev := by
  simp [State.portCount]
@[simp] theorem State.portCount_time (s : State) (p w n : Nat) : (s.portCount p w n).time = s.time := by
  simp [State.portCount]
@[simp] theorem State.portCount_ptp (s : State) (p w n : Nat) : (s.portCount p w n).ptp = s.ptp := by
  simp [State.portCount]
@[simp] theorem State.portCount_ttdp (s : State) (p w n : Nat) : (s.portCount p w n).ttdp = s.ttdp := by
  simp [State.portCount]
@[simp] theorem State.portCount_sup (s : State) (p w n : Nat) : (s.portCount p w n).sup = s.sup := by
  simp [State.portCount]
@[simp] theorem State.portCount_bolt (s : State) (p w n : Nat) : (s.portCount p w n).bolt = s.bolt := by
  simp [State.portCount]
@[simp] theorem State.portCount_port (s : State) (p w n : Nat) : (s.portCount p w n).port = s.port := by
  simp [State.portCount]
@[simp] theorem State.portCount_queue (s : State) (p w n : Nat) : (s.portCount p w n).queue = s.queue := by
  simp [State.portCount]
@[simp] theorem State.portCount_strm (s : State) (p w n : Nat) : (s.portCount p w n).strm = s.strm := by
  simp [State.portCount]
@[simp] theorem State.portCount_mend (s : State) (p w n : Nat) : (s.portCount p w n).mend = s.mend := by
  simp [State.portCount]
@[simp] theorem State.portCount_hif (s : State) (p w n : Nat) : (s.portCount p w n).hif = s.hif := by
  simp [State.portCount]
@[simp] theorem State.portCount_dma (s : State) (p w n : Nat) : (s.portCount p w n).dma = s.dma := by
  simp [State.portCount]
@[simp] theorem State.portCount_intc (s : State) (p w n : Nat) : (s.portCount p w n).intc = s.intc := by
  simp [State.portCount]
@[simp] theorem State.portCount_boot (s : State) (p w n : Nat) : (s.portCount p w n).boot = s.boot := by
  simp [State.portCount]
@[simp] theorem State.portCount_thim (s : State) (p w n : Nat) : (s.portCount p w n).thim = s.thim := by
  simp [State.portCount]
@[simp] theorem State.portCount_pair (s : State) (p w n : Nat) : (s.portCount p w n).pair = s.pair := by
  simp [State.portCount]
@[simp] theorem State.portCount_pins (s : State) (p w n : Nat) : (s.portCount p w n).pins = s.pins := by
  simp [State.portCount]
@[simp] theorem State.portCount_localMem (s : State) (p w n : Nat) : (s.portCount p w n).localMem = s.localMem := by
  simp [State.portCount]
@[simp] theorem State.portCount_dram (s : State) (p w n : Nat) : (s.portCount p w n).dram = s.dram := by
  simp [State.portCount]
@[simp] theorem State.portCount_out (s : State) (p w n : Nat) : (s.portCount p w n).out = s.out := by
  simp [State.portCount]
@[simp] theorem State.portCount_free (s : State) (p w n : Nat) : (s.portCount p w n).free = s.free := by
  simp [State.portCount]

/-! ## pecEvent -/

/-- A programmable event keeps what a count keeps. -/
theorem State.pecEvent_keeps {β : Type} (s : State) (g : State → β) (h : ∀ (a : State) (x : Nat), g (a.bump x) = g a) (p c : Nat) (t : Option Nat) (q : Nat) :
    g (s.pecEvent p c t q) = g s := by
  refine foldl_keeps g _ (fun a i => ?_) _ s
  dsimp only
  repeat' split
  all_goals first | exact h .. | rfl

@[simp] theorem State.pecEvent_pending (s : State) (p c : Nat) (t : Option Nat) (q : Nat) : (s.pecEvent p c t q).pending = s.pending :=
  s.pecEvent_keeps (fun a => a.pending) (fun a x => by simp) p c t q
@[simp] theorem State.pecEvent_dev (s : State) (p c : Nat) (t : Option Nat) (q : Nat) : (s.pecEvent p c t q).dev = s.dev :=
  s.pecEvent_keeps (fun a => a.dev) (fun a x => by simp) p c t q
@[simp] theorem State.pecEvent_time (s : State) (p c : Nat) (t : Option Nat) (q : Nat) : (s.pecEvent p c t q).time = s.time :=
  s.pecEvent_keeps (fun a => a.time) (fun a x => by simp) p c t q
@[simp] theorem State.pecEvent_ptp (s : State) (p c : Nat) (t : Option Nat) (q : Nat) : (s.pecEvent p c t q).ptp = s.ptp :=
  s.pecEvent_keeps (fun a => a.ptp) (fun a x => by simp) p c t q
@[simp] theorem State.pecEvent_ttdp (s : State) (p c : Nat) (t : Option Nat) (q : Nat) : (s.pecEvent p c t q).ttdp = s.ttdp :=
  s.pecEvent_keeps (fun a => a.ttdp) (fun a x => by simp) p c t q
@[simp] theorem State.pecEvent_sup (s : State) (p c : Nat) (t : Option Nat) (q : Nat) : (s.pecEvent p c t q).sup = s.sup :=
  s.pecEvent_keeps (fun a => a.sup) (fun a x => by simp) p c t q
@[simp] theorem State.pecEvent_bolt (s : State) (p c : Nat) (t : Option Nat) (q : Nat) : (s.pecEvent p c t q).bolt = s.bolt :=
  s.pecEvent_keeps (fun a => a.bolt) (fun a x => by simp) p c t q
@[simp] theorem State.pecEvent_port (s : State) (p c : Nat) (t : Option Nat) (q : Nat) : (s.pecEvent p c t q).port = s.port :=
  s.pecEvent_keeps (fun a => a.port) (fun a x => by simp) p c t q
@[simp] theorem State.pecEvent_queue (s : State) (p c : Nat) (t : Option Nat) (q : Nat) : (s.pecEvent p c t q).queue = s.queue :=
  s.pecEvent_keeps (fun a => a.queue) (fun a x => by simp) p c t q
@[simp] theorem State.pecEvent_strm (s : State) (p c : Nat) (t : Option Nat) (q : Nat) : (s.pecEvent p c t q).strm = s.strm :=
  s.pecEvent_keeps (fun a => a.strm) (fun a x => by simp) p c t q
@[simp] theorem State.pecEvent_mend (s : State) (p c : Nat) (t : Option Nat) (q : Nat) : (s.pecEvent p c t q).mend = s.mend :=
  s.pecEvent_keeps (fun a => a.mend) (fun a x => by simp) p c t q
@[simp] theorem State.pecEvent_hif (s : State) (p c : Nat) (t : Option Nat) (q : Nat) : (s.pecEvent p c t q).hif = s.hif :=
  s.pecEvent_keeps (fun a => a.hif) (fun a x => by simp) p c t q
@[simp] theorem State.pecEvent_dma (s : State) (p c : Nat) (t : Option Nat) (q : Nat) : (s.pecEvent p c t q).dma = s.dma :=
  s.pecEvent_keeps (fun a => a.dma) (fun a x => by simp) p c t q
@[simp] theorem State.pecEvent_intc (s : State) (p c : Nat) (t : Option Nat) (q : Nat) : (s.pecEvent p c t q).intc = s.intc :=
  s.pecEvent_keeps (fun a => a.intc) (fun a x => by simp) p c t q
@[simp] theorem State.pecEvent_boot (s : State) (p c : Nat) (t : Option Nat) (q : Nat) : (s.pecEvent p c t q).boot = s.boot :=
  s.pecEvent_keeps (fun a => a.boot) (fun a x => by simp) p c t q
@[simp] theorem State.pecEvent_thim (s : State) (p c : Nat) (t : Option Nat) (q : Nat) : (s.pecEvent p c t q).thim = s.thim :=
  s.pecEvent_keeps (fun a => a.thim) (fun a x => by simp) p c t q
@[simp] theorem State.pecEvent_pair (s : State) (p c : Nat) (t : Option Nat) (q : Nat) : (s.pecEvent p c t q).pair = s.pair :=
  s.pecEvent_keeps (fun a => a.pair) (fun a x => by simp) p c t q
@[simp] theorem State.pecEvent_pins (s : State) (p c : Nat) (t : Option Nat) (q : Nat) : (s.pecEvent p c t q).pins = s.pins :=
  s.pecEvent_keeps (fun a => a.pins) (fun a x => by simp) p c t q
@[simp] theorem State.pecEvent_localMem (s : State) (p c : Nat) (t : Option Nat) (q : Nat) : (s.pecEvent p c t q).localMem = s.localMem :=
  s.pecEvent_keeps (fun a => a.localMem) (fun a x => by simp) p c t q
@[simp] theorem State.pecEvent_dram (s : State) (p c : Nat) (t : Option Nat) (q : Nat) : (s.pecEvent p c t q).dram = s.dram :=
  s.pecEvent_keeps (fun a => a.dram) (fun a x => by simp) p c t q
@[simp] theorem State.pecEvent_out (s : State) (p c : Nat) (t : Option Nat) (q : Nat) : (s.pecEvent p c t q).out = s.out :=
  s.pecEvent_keeps (fun a => a.out) (fun a x => by simp) p c t q
@[simp] theorem State.pecEvent_free (s : State) (p c : Nat) (t : Option Nat) (q : Nat) : (s.pecEvent p c t q).free = s.free :=
  s.pecEvent_keeps (fun a => a.free) (fun a x => by simp) p c t q
/-! ## Fields that events leave alone -/

/-- A field that is no pending bit and no count of pending bits. -/
abbrev Fl.quiet (f : Fl) : Prop := f ≠ .INTC_PENDING_PEND ∧ f ≠ .INTC_PEND_CNT_COUNT

@[simp] theorem State.fld_pendSet (s : State) (n i j : Nat) {f : Fl} (h : f ≠ .INTC_PENDING_PEND) (h' : f ≠ .INTC_PEND_CNT_COUNT) : (s.pendSet n).fld f i j = s.fld f i j := by
  unfold State.pendSet; dsimp only; split <;> simp [h, h']
@[simp] theorem State.fld_pendClear (s : State) (n i j : Nat) {f : Fl} (h : f ≠ .INTC_PENDING_PEND) (h' : f ≠ .INTC_PEND_CNT_COUNT) : (s.pendClear n).fld f i j = s.fld f i j := by
  unfold State.pendClear; dsimp only; split <;> simp [h, h']
@[simp] theorem State.fld_assertSrc (s : State) (n i j : Nat) {f : Fl} (h : f ≠ .INTC_PENDING_PEND) (h' : f ≠ .INTC_PEND_CNT_COUNT) : (s.assertSrc n).fld f i j = s.fld f i j := by
  unfold State.assertSrc; split <;> simp [h, h']

/-- An event sets its flag. -/
@[simp] theorem State.fld_event_same (s : State) (f : Fl) (i : Nat) (h : f ≠ .INTC_PENDING_PEND) (h' : f ≠ .INTC_PEND_CNT_COUNT) :
    (s.event f i).fld f i = 1 % 2 ^ f.info.width := by
  unfold State.event; dsimp only; split <;> simp [h, h']

/-- An event leaves every field but its flag and the pending bits alone. -/
@[simp] theorem State.fld_event (s : State) (g : Fl) (k i j : Nat) {f : Fl} (h : f ≠ g) (h1 : f ≠ .INTC_PENDING_PEND) (h2 : f ≠ .INTC_PEND_CNT_COUNT) :
    (s.event g k).fld f i j = s.fld f i j := by
  unfold State.event; dsimp only; split <;> simp [h, h1, h2]
@[simp] theorem State.fld_eventBit (s : State) (g : Fl) (k b i j : Nat) {f : Fl} (h : f ≠ g) (h1 : f ≠ .INTC_PENDING_PEND) (h2 : f ≠ .INTC_PEND_CNT_COUNT) :
    (s.eventBit g k b).fld f i j = s.fld f i j := by
  unfold State.eventBit; dsimp only; split <;> simp [h, h1, h2]

/-- A count leaves every field but TAPE.EVENT.OVF and the pending bits alone. -/
@[simp] theorem State.fld_bump (s : State) (a n i j : Nat) {f : Fl} (h : f ≠ .TAPE_EVENT_OVF) (h1 : f ≠ .INTC_PENDING_PEND) (h2 : f ≠ .INTC_PEND_CNT_COUNT) :
    (s.bump a n).fld f i j = s.fld f i j := by
  unfold State.bump; dsimp only; split
  · rw [State.fld_event _ _ _ _ _ h h1 h2]; rfl
  · rfl
@[simp] theorem State.fld_portCount (s : State) (p w n i j : Nat) {f : Fl} (h : f ≠ .TAPE_EVENT_OVF) (h1 : f ≠ .INTC_PENDING_PEND) (h2 : f ≠ .INTC_PEND_CNT_COUNT) :
    (s.portCount p w n).fld f i j = s.fld f i j := by simp [State.portCount, h, h1, h2]

/-! ## Counter words -/

/-- A counter word advances by the amount counted. -/
theorem State.ctr_bump_same (s : State) (a n : Nat) : (s.bump a n).ctr a = ctrAdd (s.ctr a) n := by
  unfold State.bump; dsimp only; split <;> simp [State.ctr, Tbl.get_set_same]

/-- A count leaves the other counter words alone. -/
theorem State.ctr_bump_ne (s : State) {a b : Nat} (h : b ≠ a) (n : Nat) : (s.bump a n).ctr b = s.ctr b := by
  unfold State.bump; dsimp only; split <;> simp [State.ctr, Tbl.get_set_ne _ _ h]


end Sys2Proof.Machine
end

