-- ==== Sys2Proof/Laws/Frame.lean ====
section
/-!
SUPPORT. What a command leaves alone: the small lemmas of `SameFlds`, and the end of every command (`settle`).
-/
namespace Sys2Proof.Machine

/-! ## settle -/

theorem State.settle_eq (s : State) : ∃ l, s.settle = { s with regs := l, pair := s.settle.pair } := by
  unfold State.settle; dsimp only; split <;> split <;> exact ⟨_, rfl⟩
@[simp] theorem State.settle_pending (s : State) : s.settle.pending = s.pending := by obtain ⟨l, h⟩ := s.settle_eq; rw [h]
@[simp] theorem State.settle_dev (s : State) : s.settle.dev = s.dev := by obtain ⟨l, h⟩ := s.settle_eq; rw [h]
@[simp] theorem State.settle_time (s : State) : s.settle.time = s.time := by obtain ⟨l, h⟩ := s.settle_eq; rw [h]
@[simp] theorem State.settle_ptp (s : State) : s.settle.ptp = s.ptp := by obtain ⟨l, h⟩ := s.settle_eq; rw [h]
@[simp] theorem State.settle_ttdp (s : State) : s.settle.ttdp = s.ttdp := by obtain ⟨l, h⟩ := s.settle_eq; rw [h]
@[simp] theorem State.settle_sup (s : State) : s.settle.sup = s.sup := by obtain ⟨l, h⟩ := s.settle_eq; rw [h]
@[simp] theorem State.settle_bolt (s : State) : s.settle.bolt = s.bolt := by obtain ⟨l, h⟩ := s.settle_eq; rw [h]
@[simp] theorem State.settle_port (s : State) : s.settle.port = s.port := by obtain ⟨l, h⟩ := s.settle_eq; rw [h]
@[simp] theorem State.settle_queue (s : State) : s.settle.queue = s.queue := by obtain ⟨l, h⟩ := s.settle_eq; rw [h]
@[simp] theorem State.settle_strm (s : State) : s.settle.strm = s.strm := by obtain ⟨l, h⟩ := s.settle_eq; rw [h]
@[simp] theorem State.settle_mend (s : State) : s.settle.mend = s.mend := by obtain ⟨l, h⟩ := s.settle_eq; rw [h]
@[simp] theorem State.settle_hif (s : State) : s.settle.hif = s.hif := by obtain ⟨l, h⟩ := s.settle_eq; rw [h]
@[simp] theorem State.settle_dma (s : State) : s.settle.dma = s.dma := by obtain ⟨l, h⟩ := s.settle_eq; rw [h]
@[simp] theorem State.settle_intc (s : State) : s.settle.intc = s.intc := by obtain ⟨l, h⟩ := s.settle_eq; rw [h]
@[simp] theorem State.settle_boot (s : State) : s.settle.boot = s.boot := by obtain ⟨l, h⟩ := s.settle_eq; rw [h]
@[simp] theorem State.settle_thim (s : State) : s.settle.thim = s.thim := by obtain ⟨l, h⟩ := s.settle_eq; rw [h]
@[simp] theorem State.settle_tape (s : State) : s.settle.tape = s.tape := by obtain ⟨l, h⟩ := s.settle_eq; rw [h]
@[simp] theorem State.settle_pins (s : State) : s.settle.pins = s.pins := by obtain ⟨l, h⟩ := s.settle_eq; rw [h]
@[simp] theorem State.settle_localMem (s : State) : s.settle.localMem = s.localMem := by obtain ⟨l, h⟩ := s.settle_eq; rw [h]
@[simp] theorem State.settle_dram (s : State) : s.settle.dram = s.dram := by obtain ⟨l, h⟩ := s.settle_eq; rw [h]
@[simp] theorem State.settle_out (s : State) : s.settle.out = s.out := by obtain ⟨l, h⟩ := s.settle_eq; rw [h]
@[simp] theorem State.settle_free (s : State) : s.settle.free = s.free := by obtain ⟨l, h⟩ := s.settle_eq; rw [h]

/-- The end of a command leaves every field but ROLE and TOKEN_DRV alone. -/
@[simp] theorem State.fld_settle (s : State) (i j : Nat) {f : Fl} (h : f ≠ .PAIR_STATUS_ROLE) (h' : f ≠ .PAIR_STATUS_TOKEN_DRV) : s.settle.fld f i j = s.fld f i j := by
  show State.fld (if _ then _ else _) f i j = _
  split <;> split <;> simp [h, h']

/-! ## Accesses and events that are carried out -/

theorem State.writing_of {s : State} {r : Req} {reg : Reg} {i j : Nat} (g : s.Grants r true reg i j) (k : State → State) : s.writing r reg i j k = k s := by
  obtain ⟨a, b, c⟩ := g; simp [State.writing, State.checked, a, b, c]
theorem State.reading_of {s : State} {r : Req} {reg : Reg} {i j : Nat} (g : s.Grants r false reg i j) (k : State → State) : s.reading r reg i j k = k s := by
  obtain ⟨a, b, c⟩ := g; simp [State.reading, State.checked, a, b, c]
theorem State.powered_of {s : State} (h : s.dev ≠ .off) (k : State → State) : s.powered k = k s := by simp [State.powered, h]

/-! ## Fields that a change leaves alone -/

theorem State.SameFlds.refl (s : State) (l : List (Fl × Nat)) : s.SameFlds s l := fun _ _ _ _ _ => rfl
theorem State.SameFlds.trans {s t u : State} {l : List (Fl × Nat)} (h : s.SameFlds t l) (h' : t.SameFlds u l) : s.SameFlds u l :=
  fun f i j a b => (h' f i j a b).trans (h f i j a b)
theorem State.SameFlds.mono {s t : State} {l l' : List (Fl × Nat)} (h : s.SameFlds t l) (hl : ∀ e ∈ l, e ∈ l') : s.SameFlds t l' :=
  fun f i j a b => h f i j (fun e => a (hl _ e)) b

variable {s u : State} {l : List (Fl × Nat)}

/-- A change that leaves the register file alone. -/
theorem State.SameFlds.regs {v : State} (h : s.SameFlds u l) (e : v.regs = u.regs) : s.SameFlds v l := fun f i j a b =>
  (show v.fld f i j = u.fld f i j by unfold State.fld; rw [e]).trans (h f i j a b)
theorem State.SameFlds.setFld (h : s.SameFlds u l) {f : Fl} {i : Nat} (m : (f, i) ∈ l) (j v : Nat) : s.SameFlds (u.setFld f i j v) l :=
  fun f' i' j' a b => (u.fld_setFld_ne (fun e => a (by cases e; exact m)) v).trans (h f' i' j' a b)
theorem State.SameFlds.shared (h : s.SameFlds u l) {f : Fl} (m : f.shared) (i j v : Nat) : s.SameFlds (u.setFld f i j v) l :=
  fun f' i' j' a b => (u.fld_setFld_ne (fun e => b (by cases e; exact m)) v).trans (h f' i' j' a b)
theorem State.SameFlds.pendSet (h : s.SameFlds u l) (n : Nat) : s.SameFlds (u.pendSet n) l := by
  unfold State.pendSet; dsimp only; split
  · exact h
  · exact (h.shared (.inl rfl) _ _ _).shared (.inr (.inl rfl)) _ _ _
theorem State.SameFlds.pendClear (h : s.SameFlds u l) (n : Nat) : s.SameFlds (u.pendClear n) l := by
  unfold State.pendClear; dsimp only; split
  · exact (h.shared (.inl rfl) _ _ _).shared (.inr (.inl rfl)) _ _ _
  · exact h
theorem State.SameFlds.assertSrc (h : s.SameFlds u l) (n : Nat) : s.SameFlds (u.assertSrc n) l := by
  unfold State.assertSrc; split
  · exact h.pendSet n
  · exact h
theorem State.SameFlds.event (h : s.SameFlds u l) {f : Fl} {i : Nat} (m : (f, i) ∈ l ∨ f.shared) : s.SameFlds (u.event f i) l := by
  have h' : s.SameFlds (u.setFld f i 0 1) l := m.elim (h.setFld · 0 1) (h.shared · i 0 1)
  unfold State.event; dsimp only; split
  · exact h'.assertSrc _
  · exact h'
theorem State.SameFlds.eventBit (h : s.SameFlds u l) {f : Fl} {i : Nat} (m : (f, i) ∈ l) (b : Nat) : s.SameFlds (u.eventBit f i b) l := by
  unfold State.eventBit; dsimp only; split
  · exact (h.setFld m _ _).assertSrc _
  · exact h.setFld m _ _
theorem State.SameFlds.bump (h : s.SameFlds u l) (a n : Nat) : s.SameFlds (u.bump a n) l := by
  unfold State.bump; dsimp only; split
  · exact (h.regs (by rfl)).event (.inr (.inr (.inr rfl)))
  · exact h.regs (by rfl)
theorem State.SameFlds.portCount (h : s.SameFlds u l) (p w n : Nat) : s.SameFlds (u.portCount p w n) l := h.bump _ _
theorem State.SameFlds.pecEvent (h : s.SameFlds u l) (p c : Nat) (t : Option Nat) (q : Nat) : s.SameFlds (u.pecEvent p c t q) l := by
  unfold State.pecEvent
  generalize List.range 8 = k
  induction k generalizing u with
  | nil => exact h
  | cons i k ih =>
    refine ih ?_
    dsimp only
    repeat' split
    all_goals first | exact h.bump _ _ | exact h
theorem State.SameFlds.setFlds (h : s.SameFlds u l) (i j : Nat) (w : List (Fl × Nat)) (m : ∀ e ∈ w, (e.1, i) ∈ l) : s.SameFlds (u.setFlds i j w) l := by
  induction w generalizing u with
  | nil => exact h
  | cons e w ih => exact ih (h.setFld (m e (by simp)) j e.2) fun e he => m e (by simp [he])

/-- The end of a command: where the state before met the invariant and role, pair enable and device state have not moved, no field moves. -/
theorem State.SameFlds.settle (h : s.SameFlds u l) (o : s.Overlock) (d : u.dev = s.dev)
    (h1 : (.PAIR_STATUS_ROLE, 0) ∉ l) (h2 : (.PAIR_STATUS_TOKEN_DRV, 0) ∉ l) (h3 : (.PAIR_CFG_EN, 0) ∉ l) : s.SameFlds u.settle l := by
  have n : ∀ f : Fl, f = .PAIR_STATUS_ROLE ∨ f = .PAIR_STATUS_TOKEN_DRV ∨ f = .PAIR_CFG_EN → ¬f.shared := by
    rintro f (rfl | rfl | rfl) (h | h | h) <;> cases h
  have r := h .PAIR_STATUS_ROLE 0 0 h1 (n _ (.inl rfl))
  have t := h .PAIR_STATUS_TOKEN_DRV 0 0 h2 (n _ (.inr (.inl rfl)))
  have e := h .PAIR_CFG_EN 0 0 h3 (n _ (.inr (.inr rfl)))
  obtain ⟨o1, o2, -, -⟩ := o
  have onEq : ∀ f, u.fld f 0 0 = s.fld f 0 0 → u.on f = s.on f := fun f q => by simp only [State.on, q]
  have hr : (!u.on .PAIR_CFG_EN || u.dev == .test || u.dev == .recovery) = true → u.fld .PAIR_STATUS_ROLE = 0 := by
    rw [onEq _ e, d, r]; simpa [or_assoc] using o1
  intro f i j a b
  refine Eq.trans ?_ (h f i j a b)
  have key : ∀ v : State, v.dev = u.dev → (∀ f i j, v.fld f i j = u.fld f i j) →
      (if v.mayDriveToken then v else v.setFld .PAIR_STATUS_TOKEN_DRV 0 0 0).fld f i j = u.fld f i j := by
    intro v dv hv
    split
    · exact hv f i j
    · rename_i c
      rw [v.fld_setFld_id, hv]
      rw [hv, t]
      refine o2 ?_
      simp only [State.mayDriveToken, dv, d] at c ⊢
      split at c <;> simp_all [State.on]
  show State.fld (if State.mayDriveToken (if _ then _ else _) then (if _ then _ else _) else State.setFld (if _ then _ else _) _ _ _ _) f i j = _
  split
  · exact key _ rfl fun f i j => u.fld_setFld_id (hr ‹_›) f i j
  · exact key u rfl fun _ _ _ => rfl

end Sys2Proof.Machine
end

