-- ==== Sys2Proof/Laws/Faults.lean ====
section
/-!
SUPPORT. What a fault of severity Notice or Degraded changes (its record, the flags of Thimble, its counter word) and what it leaves alone; what a Fatal fault does.
-/
namespace Sys2Proof.Machine

/-! ## The queue of records -/

@[simp] theorem State.logLost_pending (s : State)  : (s.logLost).pending = s.pending := by
  simp [State.logLost]
@[simp] theorem State.logLost_dev (s : State)  : (s.logLost).dev = s.dev := by
  simp [State.logLost]
@[simp] theorem State.logLost_time (s : State)  : (s.logLost).time = s.time := by
  simp [State.logLost]
@[simp] theorem State.logLost_ptp (s : State)  : (s.logLost).ptp = s.ptp := by
  simp [State.logLost]
@[simp] theorem State.logLost_ttdp (s : State)  : (s.logLost).ttdp = s.ttdp := by
  simp [State.logLost]
@[simp] theorem State.logLost_sup (s : State)  : (s.logLost).sup = s.sup := by
  simp [State.logLost]
@[simp] theorem State.logLost_bolt (s : State)  : (s.logLost).bolt = s.bolt := by
  simp [State.logLost]
@[simp] theorem State.logLost_port (s : State)  : (s.logLost).port = s.port := by
  simp [State.logLost]
@[simp] theorem State.logLost_queue (s : State)  : (s.logLost).queue = s.queue := by
  simp [State.logLost]
@[simp] theorem State.logLost_strm (s : State)  : (s.logLost).strm = s.strm := by
  simp [State.logLost]
@[simp] theorem State.logLost_mend (s : State)  : (s.logLost).mend = s.mend := by
  simp [State.logLost]
@[simp] theorem State.logLost_hif (s : State)  : (s.logLost).hif = s.hif := by
  simp [State.logLost]
@[simp] theorem State.logLost_dma (s : State)  : (s.logLost).dma = s.dma := by
  simp [State.logLost]
@[simp] theorem State.logLost_intc (s : State)  : (s.logLost).intc = s.intc := by
  simp [State.logLost]
@[simp] theorem State.logLost_boot (s : State)  : (s.logLost).boot = s.boot := by
  simp [State.logLost]
@[simp] theorem State.logLost_pair (s : State)  : (s.logLost).pair = s.pair := by
  simp [State.logLost]
@[simp] theorem State.logLost_pins (s : State)  : (s.logLost).pins = s.pins := by
  simp [State.logLost]
@[simp] theorem State.logLost_localMem (s : State)  : (s.logLost).localMem = s.localMem := by
  simp [State.logLost]
@[simp] theorem State.logLost_dram (s : State)  : (s.logLost).dram = s.dram := by
  simp [State.logLost]
@[simp] theorem State.logLost_out (s : State)  : (s.logLost).out = s.out := by
  simp [State.logLost]
@[simp] theorem State.logLost_free (s : State)  : (s.logLost).free = s.free := by
  simp [State.logLost]
@[simp] theorem State.logLost_tape (s : State)  : (s.logLost).tape = s.tape := by
  simp [State.logLost]

@[simp] theorem State.logRecord_pending (s : State) (r : FaultRec) : (s.logRecord r).pending = s.pending := by
  unfold State.logRecord; dsimp only; repeat' split
  all_goals first | rfl | simp
@[simp] theorem State.logRecord_dev (s : State) (r : FaultRec) : (s.logRecord r).dev = s.dev := by
  unfold State.logRecord; dsimp only; repeat' split
  all_goals first | rfl | simp
@[simp] theorem State.logRecord_time (s : State) (r : FaultRec) : (s.logRecord r).time = s.time := by
  unfold State.logRecord; dsimp only; repeat' split
  all_goals first | rfl | simp
@[simp] theorem State.logRecord_ptp (s : State) (r : FaultRec) : (s.logRecord r).ptp = s.ptp := by
  unfold State.logRecord; dsimp only; repeat' split
  all_goals first | rfl | simp
@[simp] theorem State.logRecord_ttdp (s : State) (r : FaultRec) : (s.logRecord r).ttdp = s.ttdp := by
  unfold State.logRecord; dsimp only; repeat' split
  all_goals first | rfl | simp
@[simp] theorem State.logRecord_sup (s : State) (r : FaultRec) : (s.logRecord r).sup = s.sup := by
  unfold State.logRecord; dsimp only; repeat' split
  all_goals first | rfl | simp
@[simp] theorem State.logRecord_bolt (s : State) (r : FaultRec) : (s.logRecord r).bolt = s.bolt := by
  unfold State.logRecord; dsimp only; repeat' split
  all_goals first | rfl | simp
@[simp] theorem State.logRecord_port (s : State) (r : FaultRec) : (s.logRecord r).port = s.port := by
  unfold State.logRecord; dsimp only; repeat' split
  all_goals first | rfl | simp
@[simp] theorem State.logRecord_queue (s : State) (r : FaultRec) : (s.logRecord r).queue = s.queue := by
  unfold State.logRecord; dsimp only; repeat' split
  all_goals first | rfl | simp
@[simp] theorem State.logRecord_strm (s : State) (r : FaultRec) : (s.logRecord r).strm = s.strm := by
  unfold State.logRecord; dsimp only; repeat' split
  all_goals first | rfl | simp
@[simp] theorem State.logRecord_mend (s : State) (r : FaultRec) : (s.logRecord r).mend = s.mend := by
  unfold State.logRecord; dsimp only; repeat' split
  all_goals first | rfl | simp
@[simp] theorem State.logRecord_hif (s : State) (r : FaultRec) : (s.logRecord r).hif = s.hif := by
  unfold State.logRecord; dsimp only; repeat' split
  all_goals first | rfl | simp
@[simp] theorem State.logRecord_dma (s : State) (r : FaultRec) : (s.logRecord r).dma = s.dma := by
  unfold State.logRecord; dsimp only; repeat' split
  all_goals first | rfl | simp
@[simp] theorem State.logRecord_intc (s : State) (r : FaultRec) : (s.logRecord r).intc = s.intc := by
  unfold State.logRecord; dsimp only; repeat' split
  all_goals first | rfl | simp
@[simp] theorem State.logRecord_boot (s : State) (r : FaultRec) : (s.logRecord r).boot = s.boot := by
  unfold State.logRecord; dsimp only; repeat' split
  all_goals first | rfl | simp
@[simp] theorem State.logRecord_pair (s : State) (r : FaultRec) : (s.logRecord r).pair = s.pair := by
  unfold State.logRecord; dsimp only; repeat' split
  all_goals first | rfl | simp
@[simp] theorem State.logRecord_pins (s : State) (r : FaultRec) : (s.logRecord r).pins = s.pins := by
  unfold State.logRecord; dsimp only; repeat' split
  all_goals first | rfl | simp
@[simp] theorem State.logRecord_localMem (s : State) (r : FaultRec) : (s.logRecord r).localMem = s.localMem := by
  unfold State.logRecord; dsimp only; repeat' split
  all_goals first | rfl | simp
@[simp] theorem State.logRecord_dram (s : State) (r : FaultRec) : (s.logRecord r).dram = s.dram := by
  unfold State.logRecord; dsimp only; repeat' split
  all_goals first | rfl | simp
@[simp] theorem State.logRecord_out (s : State) (r : FaultRec) : (s.logRecord r).out = s.out := by
  unfold State.logRecord; dsimp only; repeat' split
  all_goals first | rfl | simp
@[simp] theorem State.logRecord_free (s : State) (r : FaultRec) : (s.logRecord r).free = s.free := by
  unfold State.logRecord; dsimp only; repeat' split
  all_goals first | rfl | simp
@[simp] theorem State.logRecord_tape (s : State) (r : FaultRec) : (s.logRecord r).tape = s.tape := by
  unfold State.logRecord; dsimp only; repeat' split
  all_goals first | rfl | simp

@[simp] theorem State.beginHandling_pending (s : State) (sev : Nat) (lost : Bool) : (s.beginHandling sev lost).pending = s.pending := by
  unfold State.beginHandling; dsimp only; repeat' split
  all_goals rfl
@[simp] theorem State.beginHandling_dev (s : State) (sev : Nat) (lost : Bool) : (s.beginHandling sev lost).dev = s.dev := by
  unfold State.beginHandling; dsimp only; repeat' split
  all_goals rfl
@[simp] theorem State.beginHandling_time (s : State) (sev : Nat) (lost : Bool) : (s.beginHandling sev lost).time = s.time := by
  unfold State.beginHandling; dsimp only; repeat' split
  all_goals rfl
@[simp] theorem State.beginHandling_ptp (s : State) (sev : Nat) (lost : Bool) : (s.beginHandling sev lost).ptp = s.ptp := by
  unfold State.beginHandling; dsimp only; repeat' split
  all_goals rfl
@[simp] theorem State.beginHandling_ttdp (s : State) (sev : Nat) (lost : Bool) : (s.beginHandling sev lost).ttdp = s.ttdp := by
  unfold State.beginHandling; dsimp only; repeat' split
  all_goals rfl
@[simp] theorem State.beginHandling_sup (s : State) (sev : Nat) (lost : Bool) : (s.beginHandling sev lost).sup = s.sup := by
  unfold State.beginHandling; dsimp only; repeat' split
  all_goals rfl
@[simp] theorem State.beginHandling_bolt (s : State) (sev : Nat) (lost : Bool) : (s.beginHandling sev lost).bolt = s.bolt := by
  unfold State.beginHandling; dsimp only; repeat' split
  all_goals rfl
@[simp] theorem State.beginHandling_port (s : State) (sev : Nat) (lost : Bool) : (s.beginHandling sev lost).port = s.port := by
  unfold State.beginHandling; dsimp only; repeat' split
  all_goals rfl
@[simp] theorem State.beginHandling_queue (s : State) (sev : Nat) (lost : Bool) : (s.beginHandling sev lost).queue = s.queue := by
  unfold State.beginHandling; dsimp only; repeat' split
  all_goals rfl
@[simp] theorem State.beginHandling_strm (s : State) (sev : Nat) (lost : Bool) : (s.beginHandling sev lost).strm = s.strm := by
  unfold State.beginHandling; dsimp only; repeat' split
  all_goals rfl
@[simp] theorem State.beginHandling_mend (s : State) (sev : Nat) (lost : Bool) : (s.beginHandling sev lost).mend = s.mend := by
  unfold State.beginHandling; dsimp only; repeat' split
  all_goals rfl
@[simp] theorem State.beginHandling_hif (s : State) (sev : Nat) (lost : Bool) : (s.beginHandling sev lost).hif = s.hif := by
  unfold State.beginHandling; dsimp only; repeat' split
  all_goals rfl
@[simp] theorem State.beginHandling_dma (s : State) (sev : Nat) (lost : Bool) : (s.beginHandling sev lost).dma = s.dma := by
  unfold State.beginHandling; dsimp only; repeat' split
  all_goals rfl
@[simp] theorem State.beginHandling_intc (s : State) (sev : Nat) (lost : Bool) : (s.beginHandling sev lost).intc = s.intc := by
  unfold State.beginHandling; dsimp only; repeat' split
  all_goals rfl
@[simp] theorem State.beginHandling_boot (s : State) (sev : Nat) (lost : Bool) : (s.beginHandling sev lost).boot = s.boot := by
  unfold State.beginHandling; dsimp only; repeat' split
  all_goals rfl
@[simp] theorem State.beginHandling_pair (s : State) (sev : Nat) (lost : Bool) : (s.beginHandling sev lost).pair = s.pair := by
  unfold State.beginHandling; dsimp only; repeat' split
  all_goals rfl
@[simp] theorem State.beginHandling_pins (s : State) (sev : Nat) (lost : Bool) : (s.beginHandling sev lost).pins = s.pins := by
  unfold State.beginHandling; dsimp only; repeat' split
  all_goals rfl
@[simp] theorem State.beginHandling_localMem (s : State) (sev : Nat) (lost : Bool) : (s.beginHandling sev lost).localMem = s.localMem := by
  unfold State.beginHandling; dsimp only; repeat' split
  all_goals rfl
@[simp] theorem State.beginHandling_dram (s : State) (sev : Nat) (lost : Bool) : (s.beginHandling sev lost).dram = s.dram := by
  unfold State.beginHandling; dsimp only; repeat' split
  all_goals rfl
@[simp] theorem State.beginHandling_out (s : State) (sev : Nat) (lost : Bool) : (s.beginHandling sev lost).out = s.out := by
  unfold State.beginHandling; dsimp only; repeat' split
  all_goals rfl
@[simp] theorem State.beginHandling_free (s : State) (sev : Nat) (lost : Bool) : (s.beginHandling sev lost).free = s.free := by
  unfold State.beginHandling; dsimp only; repeat' split
  all_goals rfl
@[simp] theorem State.beginHandling_tape (s : State) (sev : Nat) (lost : Bool) : (s.beginHandling sev lost).tape = s.tape := by
  unfold State.beginHandling; dsimp only; repeat' split
  all_goals rfl

/-- A fault is its record, with free values drawn for what the mechanism does not state. -/
theorem State.fault_eq (s : State) (sev sm unit : Nat) : ∃ d n v, s.fault sev sm unit = ({ s with free := n } : State).record sev sm v d := by
  unfold State.fault
  dsimp only
  split
  · exact ⟨_, s.free + 2, _, rfl⟩
  · exact ⟨_, s.free + 1, _, rfl⟩

/-- The handling of a record is no register field. -/
@[simp] theorem State.beginHandling_regs (s : State) (sev : Nat) (lost : Bool) : (s.beginHandling sev lost).regs = s.regs := by
  unfold State.beginHandling; repeat' split
  all_goals rfl
@[simp] theorem State.beginHandling_fld (s : State) (sev : Nat) (lost : Bool) (f : Fl) (i j : Nat) : (s.beginHandling sev lost).fld f i j = s.fld f i j := by
  unfold State.fld; rw [State.beginHandling_regs]

variable {s u : State} {l : List (Fl × Nat)}

theorem State.SameFlds.logLost (h : s.SameFlds u l) (m1 : (.THIM_STATUS_LOST, 0) ∈ l) (m2 : (.THIM_EVENT_LOG_OVF, 0) ∈ l) : s.SameFlds u.logLost l :=
  (h.setFld m1 _ _).event (.inl m2)
theorem State.SameFlds.logRecord (h : s.SameFlds u l) (m1 : (.THIM_STATUS_LOST, 0) ∈ l) (m2 : (.THIM_EVENT_LOG_OVF, 0) ∈ l) (r : FaultRec) :
    s.SameFlds (u.logRecord r) l := by
  unfold State.logRecord
  dsimp only
  repeat' split
  · exact h.regs (by rfl)
  · exact (h.regs (v := { u with thim := { u.thim with queue := dropNewestLower u.thim.queue ++ [r] } }) (by rfl)).logLost m1 m2
  · exact h.logLost m1 m2

/-- A Notice or Degraded record changes Thimble's flags alone. -/
theorem State.SameFlds.record (h : s.SameFlds u l) (m : ∀ e ∈ faultFlds, e ∈ l) {sev : Nat} (hs : sev ≠ 3) (sm unit detail : Nat) :
    s.SameFlds (u.record sev sm unit detail) l := by
  simp only [List.forall_mem_cons, List.not_mem_nil] at m
  obtain ⟨m1, m2, m3, m4, m5, -⟩ := m
  unfold State.record
  simp only [hs, if_false]
  refine State.SameFlds.regs (u := State.event _ _) ?_ (State.beginHandling_regs ..)
  refine State.SameFlds.event (State.SameFlds.setFld (State.SameFlds.logRecord (h.bump _ _) m1 m2 _) m3 _ _) ?_
  split
  · exact .inl m4
  · exact .inl m5
theorem State.SameFlds.fault (h : s.SameFlds u l) (m : ∀ e ∈ faultFlds, e ∈ l) {sev : Nat} (hs : sev ≠ 3) (sm unit : Nat) :
    s.SameFlds (u.fault sev sm unit) l := by
  obtain ⟨d, n, v, e⟩ := u.fault_eq sev sm unit
  rw [e]
  exact State.SameFlds.record (u := { u with free := n }) (h.regs rfl) m hs _ _ _

/-- A Notice or Degraded record raises its event and counts into WORST. -/
theorem State.record_flags (s : State) {sev : Nat} (hs : sev = 1 ∨ sev = 2) (sm unit detail : Nat) :
    (s.record sev sm unit detail).on (if sev = 1 then .THIM_EVENT_NOTICE else .THIM_EVENT_DEGRADED) = true := by
  rcases hs with rfl | rfl <;> simp [State.record, State.on] <;> decide
@[simp] theorem State.fault_notice (s : State) (sm unit : Nat) : (s.fault 1 sm unit).on .THIM_EVENT_NOTICE = true := by
  obtain ⟨d, n, v, e⟩ := s.fault_eq 1 sm unit; rw [e]; exact State.record_flags _ (.inl rfl) _ _ _
@[simp] theorem State.fault_degraded (s : State) (sm unit : Nat) : (s.fault 2 sm unit).on .THIM_EVENT_DEGRADED = true := by
  obtain ⟨d, n, v, e⟩ := s.fault_eq 2 sm unit; rw [e]; exact State.record_flags _ (.inr rfl) _ _ _

/-! ## Components that a Notice or Degraded record leaves alone -/

@[simp] theorem State.record_pending (s : State) {sev : Nat} (hs : sev ≠ 3) (sm unit detail : Nat) : (s.record sev sm unit detail).pending = s.pending := by
  simp [State.record, hs]
@[simp] theorem State.fault_pending (s : State) {sev : Nat} (hs : sev ≠ 3) (sm unit : Nat) : (s.fault sev sm unit).pending = s.pending := by
  obtain ⟨d, n, v, e⟩ := s.fault_eq sev sm unit; simp [e, hs]
@[simp] theorem State.record_dev (s : State) {sev : Nat} (hs : sev ≠ 3) (sm unit detail : Nat) : (s.record sev sm unit detail).dev = s.dev := by
  simp [State.record, hs]
@[simp] theorem State.fault_dev (s : State) {sev : Nat} (hs : sev ≠ 3) (sm unit : Nat) : (s.fault sev sm unit).dev = s.dev := by
  obtain ⟨d, n, v, e⟩ := s.fault_eq sev sm unit; simp [e, hs]
@[simp] theorem State.record_time (s : State) {sev : Nat} (hs : sev ≠ 3) (sm unit detail : Nat) : (s.record sev sm unit detail).time = s.time := by
  simp [State.record, hs]
@[simp] theorem State.fault_time (s : State) {sev : Nat} (hs : sev ≠ 3) (sm unit : Nat) : (s.fault sev sm unit).time = s.time := by
  obtain ⟨d, n, v, e⟩ := s.fault_eq sev sm unit; simp [e, hs]
@[simp] theorem State.record_ptp (s : State) {sev : Nat} (hs : sev ≠ 3) (sm unit detail : Nat) : (s.record sev sm unit detail).ptp = s.ptp := by
  simp [State.record, hs]
@[simp] theorem State.fault_ptp (s : State) {sev : Nat} (hs : sev ≠ 3) (sm unit : Nat) : (s.fault sev sm unit).ptp = s.ptp := by
  obtain ⟨d, n, v, e⟩ := s.fault_eq sev sm unit; simp [e, hs]
@[simp] theorem State.record_ttdp (s : State) {sev : Nat} (hs : sev ≠ 3) (sm unit detail : Nat) : (s.record sev sm unit detail).ttdp = s.ttdp := by
  simp [State.record, hs]
@[simp] theorem State.fault_ttdp (s : State) {sev : Nat} (hs : sev ≠ 3) (sm unit : Nat) : (s.fault sev sm unit).ttdp = s.ttdp := by
  obtain ⟨d, n, v, e⟩ := s.fault_eq sev sm unit; simp [e, hs]
@[simp] theorem State.record_sup (s : State) {sev : Nat} (hs : sev ≠ 3) (sm unit detail : Nat) : (s.record sev sm unit detail).sup = s.sup := by
  simp [State.record, hs]
@[simp] theorem State.fault_sup (s : State) {sev : Nat} (hs : sev ≠ 3) (sm unit : Nat) : (s.fault sev sm unit).sup = s.sup := by
  obtain ⟨d, n, v, e⟩ := s.fault_eq sev sm unit; simp [e, hs]
@[simp] theorem State.record_bolt (s : State) {sev : Nat} (hs : sev ≠ 3) (sm unit detail : Nat) : (s.record sev sm unit detail).bolt = s.bolt := by
  simp [State.record, hs]
@[simp] theorem State.fault_bolt (s : State) {sev : Nat} (hs : sev ≠ 3) (sm unit : Nat) : (s.fault sev sm unit).bolt = s.bolt := by
  obtain ⟨d, n, v, e⟩ := s.fault_eq sev sm unit; simp [e, hs]
@[simp] theorem State.record_port (s : State) {sev : Nat} (hs : sev ≠ 3) (sm unit detail : Nat) : (s.record sev sm unit detail).port = s.port := by
  simp [State.record, hs]
@[simp] theorem State.fault_port (s : State) {sev : Nat} (hs : sev ≠ 3) (sm unit : Nat) : (s.fault sev sm unit).port = s.port := by
  obtain ⟨d, n, v, e⟩ := s.fault_eq sev sm unit; simp [e, hs]
@[simp] theorem State.record_queue (s : State) {sev : Nat} (hs : sev ≠ 3) (sm unit detail : Nat) : (s.record sev sm unit detail).queue = s.queue := by
  simp [State.record, hs]
@[simp] theorem State.fault_queue (s : State) {sev : Nat} (hs : sev ≠ 3) (sm unit : Nat) : (s.fault sev sm unit).queue = s.queue := by
  obtain ⟨d, n, v, e⟩ := s.fault_eq sev sm unit; simp [e, hs]
@[simp] theorem State.record_strm (s : State) {sev : Nat} (hs : sev ≠ 3) (sm unit detail : Nat) : (s.record sev sm unit detail).strm = s.strm := by
  simp [State.record, hs]
@[simp] theorem State.fault_strm (s : State) {sev : Nat} (hs : sev ≠ 3) (sm unit : Nat) : (s.fault sev sm unit).strm = s.strm := by
  obtain ⟨d, n, v, e⟩ := s.fault_eq sev sm unit; simp [e, hs]
@[simp] theorem State.record_mend (s : State) {sev : Nat} (hs : sev ≠ 3) (sm unit detail : Nat) : (s.record sev sm unit detail).mend = s.mend := by
  simp [State.record, hs]
@[simp] theorem State.fault_mend (s : State) {sev : Nat} (hs : sev ≠ 3) (sm unit : Nat) : (s.fault sev sm unit).mend = s.mend := by
  obtain ⟨d, n, v, e⟩ := s.fault_eq sev sm unit; simp [e, hs]
@[simp] theorem State.record_hif (s : State) {sev : Nat} (hs : sev ≠ 3) (sm unit detail : Nat) : (s.record sev sm unit detail).hif = s.hif := by
  simp [State.record, hs]
@[simp] theorem State.fault_hif (s : State) {sev : Nat} (hs : sev ≠ 3) (sm unit : Nat) : (s.fault sev sm unit).hif = s.hif := by
  obtain ⟨d, n, v, e⟩ := s.fault_eq sev sm unit; simp [e, hs]
@[simp] theorem State.record_dma (s : State) {sev : Nat} (hs : sev ≠ 3) (sm unit detail : Nat) : (s.record sev sm unit detail).dma = s.dma := by
  simp [State.record, hs]
@[simp] theorem State.fault_dma (s : State) {sev : Nat} (hs : sev ≠ 3) (sm unit : Nat) : (s.fault sev sm unit).dma = s.dma := by
  obtain ⟨d, n, v, e⟩ := s.fault_eq sev sm unit; simp [e, hs]
@[simp] theorem State.record_intc (s : State) {sev : Nat} (hs : sev ≠ 3) (sm unit detail : Nat) : (s.record sev sm unit detail).intc = s.intc := by
  simp [State.record, hs]
@[simp] theorem State.fault_intc (s : State) {sev : Nat} (hs : sev ≠ 3) (sm unit : Nat) : (s.fault sev sm unit).intc = s.intc := by
  obtain ⟨d, n, v, e⟩ := s.fault_eq sev sm unit; simp [e, hs]
@[simp] theorem State.record_boot (s : State) {sev : Nat} (hs : sev ≠ 3) (sm unit detail : Nat) : (s.record sev sm unit detail).boot = s.boot := by
  simp [State.record, hs]
@[simp] theorem State.fault_boot (s : State) {sev : Nat} (hs : sev ≠ 3) (sm unit : Nat) : (s.fault sev sm unit).boot = s.boot := by
  obtain ⟨d, n, v, e⟩ := s.fault_eq sev sm unit; simp [e, hs]
@[simp] theorem State.record_pair (s : State) {sev : Nat} (hs : sev ≠ 3) (sm unit detail : Nat) : (s.record sev sm unit detail).pair = s.pair := by
  simp [State.record, hs]
@[simp] theorem State.fault_pair (s : State) {sev : Nat} (hs : sev ≠ 3) (sm unit : Nat) : (s.fault sev sm unit).pair = s.pair := by
  obtain ⟨d, n, v, e⟩ := s.fault_eq sev sm unit; simp [e, hs]
@[simp] theorem State.record_pins (s : State) {sev : Nat} (hs : sev ≠ 3) (sm unit detail : Nat) : (s.record sev sm unit detail).pins = s.pins := by
  simp [State.record, hs]
@[simp] theorem State.fault_pins (s : State) {sev : Nat} (hs : sev ≠ 3) (sm unit : Nat) : (s.fault sev sm unit).pins = s.pins := by
  obtain ⟨d, n, v, e⟩ := s.fault_eq sev sm unit; simp [e, hs]
@[simp] theorem State.record_localMem (s : State) {sev : Nat} (hs : sev ≠ 3) (sm unit detail : Nat) : (s.record sev sm unit detail).localMem = s.localMem := by
  simp [State.record, hs]
@[simp] theorem State.fault_localMem (s : State) {sev : Nat} (hs : sev ≠ 3) (sm unit : Nat) : (s.fault sev sm unit).localMem = s.localMem := by
  obtain ⟨d, n, v, e⟩ := s.fault_eq sev sm unit; simp [e, hs]
@[simp] theorem State.record_dram (s : State) {sev : Nat} (hs : sev ≠ 3) (sm unit detail : Nat) : (s.record sev sm unit detail).dram = s.dram := by
  simp [State.record, hs]
@[simp] theorem State.fault_dram (s : State) {sev : Nat} (hs : sev ≠ 3) (sm unit : Nat) : (s.fault sev sm unit).dram = s.dram := by
  obtain ⟨d, n, v, e⟩ := s.fault_eq sev sm unit; simp [e, hs]
@[simp] theorem State.record_out (s : State) {sev : Nat} (hs : sev ≠ 3) (sm unit detail : Nat) : (s.record sev sm unit detail).out = s.out := by
  simp [State.record, hs]
@[simp] theorem State.fault_out (s : State) {sev : Nat} (hs : sev ≠ 3) (sm unit : Nat) : (s.fault sev sm unit).out = s.out := by
  obtain ⟨d, n, v, e⟩ := s.fault_eq sev sm unit; simp [e, hs]

end Sys2Proof.Machine
end

