-- ==== Sys2Proof/Laws/Gate.lean ====
section
/-!
SUPPORT. What the search of the Access Window Table finds (R459).
-/
namespace Sys2Proof.Machine

theorem State.awtFind_eq_some (s : State) (bar f off len e : Nat) :
    s.awtFind bar f off len = some e ↔
      ∃ n < 1024, s.awtEntry n = e ∧ awtCovers (s.awtEntry n) bar f off len = true ∧ ∀ m < n, awtCovers (s.awtEntry m) bar f off len = false := by
  unfold State.awtFind
  generalize 1024 = k
  rw [Option.map_eq_some_iff]
  simp only [List.find?_range_eq_some, List.mem_range, Bool.not_eq_true']
  constructor
  · rintro ⟨n, ⟨h1, h2, h3⟩, rfl⟩; exact ⟨n, h2, rfl, h1, h3⟩
  · rintro ⟨n, h2, rfl, h1, h3⟩; exact ⟨n, ⟨h1, h2, h3⟩, rfl⟩

theorem State.tableAllows_iff (s : State) (write : Bool) (bar off len f : Nat) :
    s.tableAllows write bar off len f = true ↔
      ∃ e, s.awtFind bar f off len = some e ∧ privAdmits (if write then bits e 114 113 else bits e 116 115) (s.pfLevel f) = true := by
  unfold State.tableAllows
  split <;> simp_all

end Sys2Proof.Machine
end

