-- ==== Sys2Proof/WellFormed.lean ====
section
/-!
DEFINITION. Well-formed commands: an operand that stands for what the outside world supplies has the size the specification gives it. A requester's own mistakes (an offset with no
register, a length the unit does not take, an index past a table) are no ill-formed commands: the specification says what the device answers to them, and `exec` answers it.
-/
namespace Sys2Proof

/-- The bytes that an NVM sector holds after a failed command are a whole sector of 4 KiB (R461). -/
def NvmRes.wellFormed : NvmRes → Bool
  | .ok => true
  | .error got | .mismatch got => got.length == 4096

/-- An image for local memory lies inside it: 2 MiB; other items have the widths of their types. -/
def LoadItem.wellFormed : LoadItem → Bool
  | .image a bytes => decide (a.toNat + bytes.length ≤ 2 ^ 21)
  | .bases .. | .seeds .. | .entry .. | .strm .. | .mend .. | .pub .. => true

/-- An instance's parameters lie in the ranges of Table 03-2, which Onune enforces (R78). -/
def TimeParams.wellFormed (x : TimeParams) : Bool :=
  let log (lo hi v : Int) : Bool := decide (lo ≤ v ∧ v ≤ hi)
  let nat (lo hi v : Nat) : Bool := decide (lo ≤ v ∧ v ≤ hi)
  decide x.ports.Nodup && log (-7) 1 x.logSyncInit && log (-7) 1 x.logSyncOper && log (-3) 5 x.logPdelayInit && log (-3) 5 x.logPdelayOper && log (-7) 5 x.logMinDelayReq &&
    log (-3) 3 x.logAnnounce && nat 2 10 x.announceTimeout && nat 2 10 x.syncTimeout && nat 0 100000 x.propThresh && nat 1 10 x.allowedLost && nat 1 255 x.initialS &&
    nat 0 10000000000 x.listenExtra && nat 0 1000000 x.idSlot && x.idSlot % 1000 == 0 && nat 0 600000000000 x.returnHold

/-- LIFE_CHECK_INTERVAL is 100 to 10,000 ms (R169); up to four ETB lines, each on two trunk ports (R98). -/
def Services.wellFormed (x : Services) : Bool :=
  decide (100 ≤ x.lifeCheckMs ∧ x.lifeCheckMs ≤ 10000) && decide (x.ttdp.lines.length ≤ 4) && x.ttdp.lines.all fun e => decide (e.1.val % 16 < 2) && decide (e.2.val % 16 < 2) && e.1 != e.2

/-- Eight functions have a range of vectors (R329), the Access Window Table has 1,024 entries (R458), and a list of instances or lanes names each at most once (Table 14-3). -/
def BootWork.wellFormed : BootWork → Bool
  | .identity _ _ vectors _ windows => decide (vectors.length ≤ 8) && decide (windows.length ≤ 1024)
  | .load items => items.all LoadItem.wellFormed
  | .lanes failed lat => decide failed.Nodup && decide (lat.map Prod.fst).Nodup
  | .config times svc .. => decide (times.map Prod.fst).Nodup && times.all (fun e => e.2.wellFormed) && svc.wellFormed
  | .plain | .nvm .. | .policy .. | .dram .. => true

/-- The well-formed commands. -/
def Instr.wellFormed : Instr → Bool
  -- a transaction carries as many bytes as its length says (R12)
  | .registerWrite _ _ _ len v _ => decide (v < 2 ^ (8 * len))
  -- an upset names one counter of one timescale (R44)
  | .counterVote upsets => decide (upsets.map fun u => (u.1, u.2.1)).Nodup
  -- a topology names each port whose direction changed once (R98)
  | .topologyPublish _ _ _ changed _ => decide changed.Nodup
  -- Polled Cycle control frames are 64 bytes on the wire, 46 of them after their type (R300)
  | .pcClaimReceived _ d | .pcBeaconReceived _ d | .pcPollReceived _ d => d.length == 46
  | .bootStepComplete w _ => w.wellFormed
  | .nvmProgram _ _ res | .nvmErase _ _ res => res.wellFormed
  -- eight sensors (R552)
  | .tempConversion temps => temps.length == 8
  -- a probe of a round is lost at most once (R471)
  | .fabricProbeSend _ lost => decide lost.Nodup
  -- a gate list of up to 1,024 entries (R206) and a slot table of up to 64 (R304)
  | .gclRecordApply _ ents _ _ _ _ slots => decide (ents.length ≤ 1024) && decide (slots.length ≤ 64)
  -- a PEER_DATA record carries 24 bytes of the page (Table 15-8)
  | .peerDataReceived d => d.length == 24
  -- a function's block is written back once a pass (R513)
  | .tcntWriteback bad => decide bad.Nodup
  | .frameReceived .. | .lowHalfRead .. | .highHalfRead .. | .lowHalfWrite .. | .highHalfWrite .. | .classBCommit .. | .paceWindowEnd .. | .paceMicrosecondEnd ..
  | .clrLowest .. | .vcoreLowDetect .. | .ctrlLimitWindowEnd .. | .missLookupComplete .. | .negEntryExpiry .. | .cacheEntryReload ..
  | .hashSeedWrite .. | .strmTblRead .. | .strmTblWrite .. | .strmTblInsert .. | .strmTblUpdate .. | .strmTblDelete .. | .strmTblLookup ..
  | .strmTblPin .. | .strmTblUnpin .. | .strmTblComplete .. | .ingressGateCommit .. | .ingressGateStop .. | .ingressGateSwitch ..
  | .ingressGateInterval .. | .meterSweep .. | .scrubPass .. | .timeoscMeasureDone .. | .tpllLock .. | .timeoscLost .. | .refclkALost ..
  | .portTimeUpdate .. | .domEnable .. | .domUnlock .. | .domSampleWrite .. | .domSampleProcess .. | .domStepApply .. | .domSetWrite ..
  | .domSetApply .. | .holdTimeoutExpiry .. | .holdEstUpdate .. | .snapshotTrigger .. | .snapshotComplete .. | .outArm .. | .outDisarm ..
  | .outModeOff .. | .outEvent .. | .outPulseEnd .. | .captureEdge .. | .capNsRead .. | .timeServicePtpMessage .. | .gmListenExpiry ..
  | .announceBetterClock .. | .masterLossTimeout .. | .returnHoldExpiry .. | .ttdpTimerExpiry .. | .supervisionFrame .. | .lifeCheckSend ..
  | .recoveryResetTimeout .. | .menderSweep .. | .latentTest .. | .latentReset .. | .mendTblRead .. | .mendTblWrite .. | .mendTblReset ..
  | .mendTblComplete .. | .latLogRead .. | .mirrorRecordApply .. | .endOfRoleApply .. | .mirrorSnapshot .. | .snapshotApply ..
  | .hostFrameAdmitRetry .. | .queueFlush .. | .queueFlushDone .. | .queueClearMax .. | .stagingPoint .. | .stageFrame .. | .storeFullWindow ..
  | .shuttleSelect .. | .calendarCoarseVisit .. | .calendarFineDue .. | .qShapeWrite .. | .rescueEvaluate .. | .gclAdminWrite .. | .gclCommit ..
  | .gclCommitChecked .. | .gclCancel .. | .gclStop .. | .gclSwitch .. | .gclIntervalStart .. | .gclCopyCheck .. | .gridLock .. | .frameLaunch ..
  | .transmitStart .. | .transmitComplete .. | .hemCut .. | .holdApply .. | .holdRelease .. | .fragmentCut .. | .fragmentResume .. | .selvedgeStop ..
  | .verifyStart .. | .verifyTimeout .. | .respondReceived .. | .verifyReceived .. | .seamFragment .. | .seamTimeout .. | .laneCfgWrite ..
  | .macEnable .. | .signalDetect .. | .lockAchieved .. | .anComplete .. | .faultOrderedSet .. | .upHoldExpiry .. | .downFilterExpiry ..
  | .pauseTimerExpiry .. | .xoffRefresh .. | .fcTxSend .. | .carrierDeferEnd .. | .collisionDetect .. | .backoffExpiry .. | .plcaBeaconReceived ..
  | .plcaOpportunity .. | .plcaBeaconLoss .. | .lineMonitorFault .. | .pcEnable .. | .pcListenExpiry .. | .pcClaimWaitExpiry .. | .pcClaimSent ..
  | .pcBeaconMiss .. | .pcSlotStart .. | .pcSlotEnd .. | .pcMasterRecordSend .. | .pcMasterRecordApply .. | .pcMasterStale .. | .doorbellWrite ..
  | .txDescriptorFetch .. | .txFrameOffer .. | .hostReadError .. | .hostRxWrite .. | .rxWaitExpiry .. | .cqDoorbell .. | .cqEnable ..
  | .cqModerationExpiry .. | .ledgerHoldoffExpiry .. | .ringStart .. | .ringStop .. | .ringStopComplete .. | .ringReset .. | .functionLevelReset ..
  | .pcieLinkLoss .. | .dmaChStart .. | .dmaChStop .. | .dmaChReset .. | .dmaDescriptorFetch .. | .dmaDescriptorComplete .. | .dmaReadFail ..
  | .dmaReadRetry .. | .chRateWrite .. | .pubGatherStart .. | .pubGatherComplete .. | .pubAbandon .. | .pubRead .. | .pubWrite .. | .pubOpComplete ..
  | .interruptDelivery .. | .coreClaim .. | .coreEoi .. | .msixIssue .. | .hostEoi .. | .swSet .. | .pendingWrite .. | .drainRead ..
  | .corePairDisable .. | .powerGood .. | .pwrgoodFall .. | .resetNAssert .. | .resetRelease .. | .supplyPorDetect .. | .bootStepTimeout ..
  | .acquireComplete .. | .acqTimeoutExpiry .. | .bootCtrlReset .. | .clearMarks .. | .clearFails .. | .prefSlotWrite .. | .basteStage ..
  | .basteCommit .. | .basteAbort .. | .bastePeek .. | .basteReleaseGcl .. | .basteRelease .. | .awtRead .. | .awtWrite .. | .pfPrivWrite ..
  | .awtDenyLogRead .. | .nvmRead .. | .otpKey .. | .otpRevoke .. | .nvmCmdComplete .. | .faultRecord .. | .thimAck .. | .faultLogRead ..
  | .thimInject .. | .wdogRefresh .. | .wdogExpiry .. | .supplyOutOfWindow .. | .tempOver .. | .lockstepMismatch .. | .probeTimeout ..
  | .cellAccountCheck .. | .configParityCheck .. | .thimbleRestart .. | .restartCntClear .. | .fatalDumpWrite .. | .fatalDumpComplete ..
  | .tokenRefresh .. | .tokenDriverTimeout .. | .tokenReadbackFault .. | .heartbeatSend .. | .heartbeatReceived .. | .heartbeatSilence ..
  | .ovlFsAsserted .. | .peerUnknownTimeout .. | .pairLaneDown .. | .pairClaimTimeout .. | .takeoverPassage .. | .servoRecordApply ..
  | .mirrorCrcCompare .. | .swapRequest .. | .drillTimer .. | .swapReqReceived .. | .swapAckReceived .. | .swapPostponeExpiry .. | .swapTokenDrive ..
  | .swapExecute .. | .swapTokenRelease .. | .latentTestRound .. | .latentTestOverdue .. | .peerCmdRead .. | .peerReadReceived ..
  | .peerReadTimeout .. | .dumpInstant .. | .dumpWritten .. | .chalkRecord .. | .slotClassify .. | .cntClear .. | .cntClearOvf .. | .cntReadFunc ..
  | .cntCmdComplete .. | .pecCfgWrite .. | .chalkEnable .. | .refclkBLost .. | .lockLost .. | .faultCleared .. | .lineFaultCleared ..
  | .ovlTokenReleased .. | .vioBankPowerChange .. | .ptpMessageIntervalExpiry .. | .forgetTimeExpiry .. | .highWaterRead .. | .tableWindowRead ..
  | .jtagInstructionLoad .. => true

end Sys2Proof
end

