-- ==== Sys2Proof/Tests/Slice0.lean ====
section
/-!
SUPPORT. Tests: the smoke tests of well-formedness, the specification's worked examples, and for every obligation a witness of each clause that has hypotheses: a state and operands
that meet all of them together, at a boundary of their ranges where one exists.
-/
set_option maxRecDepth 20000
namespace Sys2Proof

/-! ## Well-formedness: one ill-formed command for each check -/

theorem test_wf_write_wider_than_its_length : Instr.wellFormed (.registerWrite (.pf 0) 0 0 4 (2 ^ 32) false) = false := by decide
theorem test_wf_upset_named_twice : Instr.wellFormed (.counterVote [(8, 2, 1), (8, 2, -1)]) = false := by decide
theorem test_wf_topology_names_a_port_twice : Instr.wellFormed (.topologyPublish 1 1 ⟨false, 0⟩ [127, 127] 7) = false := by decide
theorem test_wf_polled_cycle_frame_short : Instr.wellFormed (.pcBeaconReceived 15 (List.replicate 45 0)) = false := by decide
theorem test_wf_vectors_of_nine_functions : Instr.wellFormed (.bootStepComplete (.identity 0 0 (List.replicate 9 (0, 0)) 0 []) false) = false := by decide
theorem test_wf_windows_beyond_the_table : Instr.wellFormed (.bootStepComplete (.identity 0 0 [] 0 (List.replicate 1025 0)) false) = false := by decide
theorem test_wf_image_past_local_memory : Instr.wellFormed (.bootStepComplete (.load [.image 0x1FFFFF [0, 0]]) false) = false := by decide
theorem test_wf_lane_named_twice : Instr.wellFormed (.bootStepComplete (.lanes [(7, 4), (7, 4)] []) false) = false := by decide
theorem test_wf_sector_short : Instr.wellFormed (.nvmErase (.pf 0) 0 (.error [0xFF])) = false := by decide
theorem test_wf_seven_sensors : Instr.wellFormed (.tempConversion (List.replicate 7 0)) = false := by decide
theorem test_wf_probe_lost_twice : Instr.wellFormed (.fabricProbeSend 7 [5, 5]) = false := by decide
theorem test_wf_gate_list_too_long : Instr.wellFormed (.gclRecordApply 127 (List.replicate 1025 0) 0 0 0 0 []) = false := by decide
theorem test_wf_slot_table_too_long : Instr.wellFormed (.gclRecordApply 127 [] 0 0 0 0 (List.replicate 65 0)) = false := by decide
theorem test_wf_peer_data_short : Instr.wellFormed (.peerDataReceived (List.replicate 23 0)) = false := by decide
theorem test_wf_function_listed_twice : Instr.wellFormed (.tcntWriteback [0x3FFFF, 0x3FFFF]) = false := by decide
/-- An instance's parameters at the defaults of Table 03-2, and the services' at theirs. -/
abbrev params0 : TimeParams := ⟨[], false, 0, 0, 0, [], -3, -3, -3, 0, 0, 0, 3, 3, 800, 3, 8, 500000000, 250000, 0, false⟩
abbrev services0 : Services := ⟨2000, [], [], ⟨[], 100000000, 100000000, 400000000, 0⟩⟩

theorem test_wf_service_named_twice : Instr.wellFormed (.bootStepComplete (.config (List.replicate 2 (7, params0)) services0 0 0) false) = false := by decide
theorem test_wf_announce_timeout_out_of_range :
    Instr.wellFormed (.bootStepComplete (.config [(7, { params0 with announceTimeout := 11 })] services0 0 0) false) = false := by decide
theorem test_wf_life_check_too_short : Instr.wellFormed (.bootStepComplete (.config [] { services0 with lifeCheckMs := 99 } 0 0) false) = false := by decide
theorem test_wf_etb_line_on_a_branch_port :
    Instr.wellFormed (.bootStepComplete (.config [] { services0 with ttdp := { services0.ttdp with lines := [(0, 2)] } } 0 0) false) = false := by decide
theorem test_wf_a_well_formed_configuration : Instr.wellFormed (.bootStepComplete (.config [(7, params0)] services0 0 0) false) = true := by decide
theorem test_wf_a_well_formed_command : Instr.wellFormed (.registerWrite (.pf 0) 0 0 4 (2 ^ 32 - 1) false) = true := by decide

/-- The table of commands gives no row any bits. -/
theorem test_no_word_spells_a_command : decodeTableWord 32 0 = none := by decide

end Sys2Proof

namespace Sys2Proof.Machine

/-- A state with a register field given a value. -/
def State.w (s : State) (f : Fl) (i v : Nat) (j : Nat := 0) : State := s.setFld f i j v

/-- The state after reset. -/
abbrev z0 : State := State.reset

/-- L time and the time of domain 0 at a number of nanoseconds. -/
def State.at' (s : State) (ns : Nat) : State := (s.loadCnts 8 (ns * nsT)).loadCnts 0 (ns * nsT)

/-- A port with its link UP at 10 Gb/s and its Selvedge running. -/
def lk (p : Nat) : State := ((z0.w .MAC_LINK_STATUS_STATE p 6).w .MAC_LINK_STATUS_SPEED p 4).w .SELV_CTRL_RUN p 1

/-- A list of two entries of 50 µs: every gate closed, then every gate open. -/
abbrev ent0 : Nat := 50000
abbrev ent1 : Nat := 0xFF00_0000_0000_C350
abbrev cyc0 : Cyc := ⟨0, (100000 * nsT : Nat), [⟨0, ent0, 0, (50000 * nsT : Nat)⟩, ⟨1, ent1, (50000 * nsT : Nat), (100000 * nsT : Nat)⟩]⟩
abbrev span1 : Span := ⟨1, ent1, (50000 * nsT : Nat), (100000 * nsT : Nat)⟩

/-- A port that runs that list for class 7, in sync, its grid locked. -/
def tl (p : Nat) : State :=
  { (lk p).setFlds p 0 [(.SHTL_GCL_STATUS_RUNNING, 1), (.SHTL_GCL_OPER_CYCLE_NS, 100000), (.SHTL_GCL_STATUS_OPER_LEN, 2), (.SHTL_GCL_CFG_SCHED_TC, 128),
      (.SELV_GUARD_STATUS_SCHED_TC, 128), (.SELV_GRID_STATUS_LOCKED, 1)] with
    port := [(p, { inSync := true, resumeAt := some 0, gcl := { sh := [(0, ent0), (1, ent1)], gd := [(0, ent0), (1, ent1)] } })] }

abbrev frm : FrameRec := { data := List.replicate 60 0 }
abbrev win7 : StgWin := { cls := 7, openT := 50000 * nsT, closeT := 100000 * nsT, noHem := false }
abbrev txOf (k : TxKind) (fin : Bool) (t u : Nat) : Tx := { kind := k, path := { fr := frm, bytes := List.replicate 200 1 }, startL := t, endL := u, upto := 64, final := fin }

/-- A Polled Cycle port in a state, its link UP and its list running. -/
def md (st : Nat) : State :=
  z0.setFlds 127 0 [(.MAC_MD_CFG_MODE, 2), (.MDP_PC_CFG_EN, 1), (.MAC_LINK_STATUS_STATE, 6), (.SHTL_GCL_STATUS_RUNNING, 1), (.SHTL_GCL_OPER_CYCLE_NS, 1000000), (.MDP_PC_STATUS_STATE, st)]

/-- A Polled Cycle control frame of a kind, with a byte at an offset. -/
abbrev pcFrame (k : Nat) (off : Nat := 40) (v : Byte := 0) : List Byte := ((BitVec.ofNat 8 k :: 1 :: List.replicate 44 0).set off v)

/-- A stream entry, and a Stream Table ready for operations, its data registers holding a value. -/
abbrev entry1 : Nat := (2 ^ 256 * 2 ^ 255) + 5
def strmSt (v : Nat) : State := { (z0.w .STRM_TBL_BASE_BASE 0 1).setTblData v with dma := { dramSize := 2 ^ 36 } }

/-- The state that a command leaves. -/
def State.after (s : State) (c : Instr) : State :=
  match exec c s with
  | .next t => t
  | _ => s

/-- That table with an entry inserted at index 7. -/
def strmIns : State := ((strmSt entry1).after (.strmTblInsert (.sp 0) 0 7 false)).w .STRM_TBL_STATUS_BUSY 0 0

/-- A port that receives, with queue 0 open. -/
def rxUp (p : Nat) : State :=
  ((((((z0.w .MAC_LINK_STATUS_STATE p 6).w .MAC_LINK_STATUS_SPEED p 4).w .STRM_CTRL_RUN 0 1).w .SHTL_BUF_RSV_RUN 0 1).w .SHTL_Q_CFG_EN 0 1).w .SHTL_Q_CFG_ALPHA 0 4).w .SHTL_Q_CFG_MAX_CELLS 0 9

abbrev zs (n : Nat) : List Byte := List.replicate n 0

/-- A host that answers: link up, function 0 a bus master; a ring that is ACTIVE with descriptors posted up to an index. -/
def hostUp : State := ({ z0 with hif := { link := true } }).setPfn 0 { busMaster := true }
def ringUp (r n : Nat) : State := (hostUp.w .HIF_RING_STATUS_STATE r 1).w .HIF_DOORBELL_PI r n

/-- A DMA channel that is RUNNING over a window of local memory; its local copy of eight bytes. -/
abbrev dsc : Nat := 2 * (2 ^ 256 * 2 ^ 190) + 2 * (2 ^ 256 * 2 ^ 188) + 7 * (2 ^ 256 * 2 ^ 64) + 0x200 * 2 ^ 64 + 0x100
def dmaOn : State := (((hostUp.w .DMA_CTRL_RUN 0 1).w .HIF_CQ_CFG_EN 0 1).w .HIF_CQ_CFG_SIZE_LOG2 0 6)
def dmaRun (x : ChanSt) : State := ((((dmaOn.w .DMA_CH_STATUS_STATE 255 1).w .DMA_CH_WIN_WIN_EN 255 1).w .DMA_CH_WIN_LOCAL_LIMIT 255 3)).setChan 255 x

/-- A publication entry of 60 bytes with a lead of 125 ns, at a publisher that runs. -/
abbrev pubW : Nat := (2 ^ 256 * 2 ^ 255) + (2 ^ 256 * 2 ^ 48) + 60 * (2 ^ 256 * 2 ^ 34)
def pubOn (x : PubSt) : State := ({ z0 with dev := .test }.w .DMA_CTRL_PUB_RUN 0 1).setPubE 1023 x

/-- Source 1455 pending and enabled for pair 0. -/
def srcOn : State := ((((z0.w .INTC_CTRL_EN 0 1).w .INTC_SRC_CFG_TKIND 1455 1).w .INTC_PENDING_PEND 45 (2 ^ 15)).w .INTC_ENABLE_EN 45 (2 ^ 15)).w .INTC_CORE_CFG_EN 0 1


/-- A device of a pair in a state and a role. -/
def inPair (d : DevState) (r : Nat) : State := ({ z0 with dev := d }.w .PAIR_CFG_EN 0 1).w .PAIR_STATUS_ROLE 0 r

/-- A Bolt of the reset state. -/
def bolt0 (x : BoltSt) : State := z0.updBo 0 fun _ => x

/-- A frame in cell 7; its transmission from queue 0 under way. -/
abbrev frc : FrameRec := { frm with cellNos := [7] }
def cellTx : State := z0.updPt 0 fun x => { x with express := some { fr := frc, bytes := zs 60 }, tx := some { txOf .express true 0 1 with path := { fr := frc, bytes := zs 60 } } }

/-! ## Worked examples of the specification -/

/-- 00.5 and 18.6.1: the registers of queue 4,774, local queue 38 of port P37. -/
theorem test_addresses_of_queue_4774 :
    addrOf .SHTL_Q_SHAPE 37 38 = 0x01552130 ∧ addrOf .SHTL_Q_STAT 37 38 = 0x01551530 ∧ addrOf .HIF_RING_CFG 4774 0 = 0x02029530 := by decide

/-- 07.2.4: a COMMIT accepted at D1 time 5,500.123 456 789 s, base 5,400.000 020 000 s, cycle 100,000 ns, switches at 5,500.123 620 000 s. -/
theorem test_switch_time : switchTime (5500123456789 * nsT) (5400000020000 * nsT) (100000 * nsT) = 5500123620000 * nsT := by decide

/-- A rate-limited queue of 07.4.2: queue 38 of P37 at 2.5 Gb/s, RATE 12,500 and BURST 0, written at L time 1 s. -/
def queue4774 : State :=
  (((z0.w .MAC_LINK_STATUS_STATE 37 6).w .MAC_LINK_STATUS_SPEED 37 2).loadCnts 8 secT).shapeWrite 37 38 (2 ^ 63 + 12500 * 2 ^ 32)

/-- Table 07-4, first row: −1,526 tokens, parked until L time 1.000 122 080 s in coarse slot 1,849. -/
theorem test_calendar_first_frame :
    ((queue4774.chargeTokens 37 38 1526).qu 4774).tok = -1526 * 65536 ∧
    ((queue4774.chargeTokens 37 38 1526).qu 4774).park = some { elig := 1000122080, fine := false, slot := 1849, laps := 0 } := by decide +kernel

/-- Table 07-4, second row: pre-empted 2 µs later, −1,525 tokens, parked until L time 1.000 124 000 s. -/
theorem test_calendar_pre_empted :
    ((((queue4774.chargeTokens 37 38 1526).loadCnts 8 (1000002000 * nsT)).chargeTokens 37 38 24).qu 4774).park =
      some { elig := 1000124000, fine := false, slot := 1849, laps := 0 } := by decide +kernel

/-- The domain of 02.7.3: locked in Servo mode, an integrator of 20 ppb, 125 ms after its last sample. -/
def servoD1 : State :=
  let s := (z0.w .TPL_DOM_CFG_MODE 1 1).loadCnts 8 (125000000 * nsT)
  s.setDom 1 { s.dom 1 with integ := Frac.norm (20 * 2 ^ 40) 1000000000 }

/-- Table 02-4, first row: an offset of 1 ns brings the integrator to 20.015 625 ppb and RATE to −20.515 625 ppb. -/
theorem test_servo_sample :
    servoD1.servoInteg 1 65536 = Frac.norm (20015625 * 2 ^ 40) (1000000 * 1000000000) ∧
    servoD1.servoRate 1 65536 (servoD1.servoInteg 1 65536) = Frac.norm (-20515625 * 2 ^ 40) (1000000 * 1000000000) := by decide +kernel

/-- The meter of Table 04-11: CIR 2,500, EIR 1,250, CBS 4,000 and EBS 2,000 bytes, its buckets full. -/
abbrev meterTable0411 : Nat := 2500 * 2 ^ 234 + 1250 * 2 ^ 212 + 4000 * 2 ^ 188 + 2000 * 2 ^ 164 + 4000 * 65536 * 2 ^ 88 + 2000 * 65536 * 2 ^ 48

/-- Table 04-11, frame 1: 1,000 bytes are green and leave 3,000 and 2,000 bytes. -/
theorem test_meter_first_frame :
    ((z0.setMeter 0 meterTable0411).meterRun 0 1000 0 false).1 = 0 ∧
    bits (((z0.setMeter 0 meterTable0411).meterRun 0 1000 0 false).2.meterRec 0) 127 48 = 3000 * 65536 * 2 ^ 40 + 2000 * 65536 := by decide +kernel

/-- That meter with 2,000 bytes in each bucket (R139): 3,000 bytes are red. -/
theorem test_meter_red : ((z0.setMeter 0 (meterTable0411 - 2000 * 65536 * 2 ^ 88)).meterRun 0 3000 0 false).1 = 2 := by decide +kernel

/-- The bytes 31 to 39 (hexadecimal), whose check values the two CRC-32 polynomials' catalogues give. -/
theorem test_crc_check_values :
    crc32Of 0xEDB88320 [0x31, 0x32, 0x33, 0x34, 0x35, 0x36, 0x37, 0x38, 0x39] = 0xCBF43926 ∧
    crc32c [0x31, 0x32, 0x33, 0x34, 0x35, 0x36, 0x37, 0x38, 0x39] = 0xE3069283 := by decide +kernel

/-! ## Witnesses -/

theorem witness_EmptyQueueTick :
    (∃ (s : State), s.Overlock ∧ s.pending = [] ∧ (∀ p, ∀ x ∈ (s.pt p).staged, x.held = false) ∧ s.dev ≠ .off ∧ s.time.locked = true ∧ s.tpclkRuns = true ∧ s.time.timeoscOk = true ∧ s.excl 8 = 0 ∧ (∀ c : Fin 3, s.cnt 8 c = 1000000 * nsT - nsT) ∧ (let m := s.ratioStep 1000; m.oscDrifted = true) ∧ s.time.refAOk = true ∧ s.fld .TPL_OSC_STATUS_REF_SRC = 0) ∧
    (∃ (s : State), s.Overlock ∧ s.pending = [] ∧ (∀ p, ∀ x ∈ (s.pt p).staged, x.held = false) ∧ s.clocks.time.timeoscOk = s.time.timeoscOk) :=
  ⟨⟨{ z0.loadCnts 8 (1000000 * nsT - nsT) with time := { (z0.loadCnts 8 (1000000 * nsT - nsT)).time with locked := true, ratioLock := some (1, 0) } }, by refine ⟨by decide, rfl, fun p x h => absurd (show x ∈ ([] : List Staged) from h) (by simp), by decide, rfl, by decide, rfl, by decide, by decide, by decide, rfl, by decide⟩⟩,
   ⟨z0, by refine ⟨by decide, rfl, fun p x h => absurd (show x ∈ ([] : List Staged) from h) (by simp), by decide⟩⟩⟩

theorem witness_StepKeepsOverlock :
    ∃ (s : State), s.Overlock :=
  ⟨z0, by decide⟩

theorem witness_AccessChecks_1 :
    (∃ (s : State), s.dev.failed = false) ∧
    (∃ (s : State) (f : Fin 8), s.dev.failed = false ∧ f ≠ 0) ∧
    (∃ (s : State) (write : Bool) (bar : Nat) (off : Nat), s.dev = .failSilent ∧ (write = true ∨ bar ≠ 0 ∨ 0x1_0000 ≤ off ∧ off < 0x6_0000 ∨ 0x9_0000 ≤ off)) ∧
    (∃ (s : State) (off : Nat), s.dev = .failSilent ∧ (off < 0x1_0000 ∨ 0x6_0000 ≤ off ∧ off < 0x9_0000)) ∧
    (∃ (s : State) (bar : Nat) (off : Nat), s.dev = .stayDown ∧ (bar ≠ 0 ∨ stayDownReaches off = false)) ∧
    (∃ (s : State) (off : Nat), s.dev = .stayDown ∧ stayDownReaches off = true) :=
  ⟨⟨z0, by decide⟩,
   ⟨z0, 7, by decide⟩,
   ⟨{ z0 with dev := .failSilent }, false, 0, 0x9_0000, by decide⟩,
   ⟨{ z0 with dev := .failSilent }, 0x8_FFFC, by decide⟩,
   ⟨{ z0 with dev := .stayDown }, 0, 0x7_0000, by decide⟩,
   ⟨{ z0 with dev := .stayDown }, 0x6_FFFC, by decide⟩⟩

theorem witness_AccessChecks_2 :
    (∃ (s : State) (f : Fin 8) (bar : Fin 3) (off : Nat) (len : Nat), s.Overlock ∧ s.dev ≠ .off ∧ s.present (.pf f) = true ∧ off < 2 ^ 26 ∧ (malformed bar off len = true ∨ s.allowed (.pf f) true bar off len = false)) ∧
    (∃ (s : State) (f : Fin 8) (bar : Fin 3) (slot : BitVec 26), s.Overlock ∧ s.dev ≠ .off ∧ s.present (.pf f) = true ∧ s.allowed (.pf f) false bar (slot.toNat / 8 * 8) 4 = false) ∧
    (∃ (s : State) (f : Fin 8) (bar : Fin 3) (slot : BitVec 26), s.Overlock ∧ s.dev ≠ .off ∧ s.present (.pf f) = true ∧ s.allowed (.pf f) false bar (slot.toNat / 8 * 8 + 4) 4 = false) :=
  ⟨⟨{ z0 with boot := { z0.boot with pcieReady := true } }, 7, 2, 0x3FFFFFC, 4, by decide⟩,
   ⟨{ z0 with boot := { z0.boot with pcieReady := true } }, 7, 0, 0, by decide⟩,
   ⟨{ z0 with boot := { z0.boot with pcieReady := true } }, 7, 0, 0, by decide⟩⟩

theorem witness_RegisterWriteByChangeClass :
    (∃ (s : State) (r : Req) (d : Dom), s.Overlock ∧ s.Grants r true .TPL_DOM_HOLD d 0) ∧
    (∃ (s : State) (r : Req) (d : Dom) (v : Nat), s.Overlock ∧ s.Grants r true .TPL_DOM_MAP d 0 ∧ s.domState d ≠ 0 ∧ (∃ f ∈ Reg.fields .TPL_DOM_MAP, s.fld f d ≠ bits v f.info.hi f.info.lo)) ∧
    (∃ (s : State) (r : Req) (d : Dom), s.Overlock ∧ s.Grants r true .TPL_DOM_MAP d 0 ∧ s.domState d = 0) ∧
    (∃ (s : State) (r : Req) (p : Port), s.Overlock ∧ s.Grants r true .TPL_PORT_TS p 0 ∧ s.on .MAC_CFG_EN p = true) ∧
    (∃ (s : State) (off : BitVec 26) (lo : Fin 64) (x : RegRef) (f : Fl) (v : Nat), s.Overlock ∧ s.dev ≠ .off ∧ regAt off.toNat = some x ∧ (x.reg.fields.find? fun g => decide (g.info.lo = lo.val) && decide (g.info.cls = Cls.b)) = some f ∧ s.pendingB x f = some v ∧ v < 2 ^ f.info.width ∧ (f.ownBoundary = true → s.unitRuns x.reg x.i = false)) ∧
    (∃ (s : State) (q : Fin 16384) (v : Nat), s.Overlock ∧ s.dev ≠ .off ∧ s.bufBusy (boltOf (q / 128)) = true ∧ s.pendingB ⟨.SHTL_Q_SEL, q / 128, q % 128⟩ .SHTL_Q_SEL_WEIGHT = some v) :=
  ⟨⟨z0, .sp 7, 7, by decide⟩,
   ⟨z0.w .TPL_DOM_STATUS_STATE 7 1, .pf 0, 7, 0xFFFFFFFF, by decide⟩,
   ⟨z0, .pf 0, 7, by decide⟩,
   ⟨z0.w .MAC_CFG_EN 127 1, .pf 0, 127, by decide⟩,
   ⟨z0.setPendingB ⟨.TPL_PORT_TS, 0, 0⟩ .TPL_PORT_TS_TX_LAT (some 5), BitVec.ofNat 26 (addrOf .TPL_PORT_TS 0 0), 32, ⟨.TPL_PORT_TS, 0, 0⟩, .TPL_PORT_TS_TX_LAT, 5, by decide⟩,
   ⟨(z0.w .SHTL_BUF_RSV_RUN 7 1).setPendingB ⟨.SHTL_Q_SEL, 127, 127⟩ .SHTL_Q_SEL_WEIGHT (some 5), 16383, 5, by decide⟩⟩

theorem witness_HalvesAndReads_1 :
    (∃ (s : State) (r : Req) (slot : BitVec 26), s.Overlock ∧ s.dev ≠ .off ∧ s.present r = true ∧ s.allowed r false 2 (slot.toNat / 8 * 8) 4 = true) ∧
    (∃ (s : State) (r : Req) (slot : BitVec 26) (v : Nat), s.Overlock ∧ s.dev ≠ .off ∧ s.present r = true ∧ s.allowed r false 2 (slot.toNat / 8 * 8 + 4) 4 = true ∧ s.latched r.num = some (latchKey 2 (slot.toNat / 8 * 8), v)) ∧
    (∃ (s : State) (r : Req) (slot : BitVec 26) (x : RegRef), s.Overlock ∧ s.dev ≠ .off ∧ s.present r = true ∧ s.allowed r true 0 (slot.toNat / 8 * 8) 4 = true ∧ slot.toNat / 8 * 8 < 0x2F0_0000 ∧ regOver (slot.toNat / 8 * 8) = some x ∧ x.reg.wide = true) ∧
    (∃ (s : State) (r : Req) (low : Nat), s.Overlock ∧ s.dev ≠ .off ∧ s.present r = true ∧ s.Grants r true .BOOT_BASTE_DATA 0 0 ∧ s.allowed r true 0 0x6001C 4 = true ∧ low < 2 ^ 32 ∧ s.lowStaged r.num = some (0x60018, low)) :=
  ⟨⟨z0, .pf 0, 0x3FFFFF8, by decide⟩,
   ⟨z0.setLatch 15 (some (latchKey 2 0, 9)), .sp 7, 0, 9, by decide⟩,
   ⟨z0, .pf 0, BitVec.ofNat 26 (addrOf .TPL_PORT_TS 0 0), ⟨.TPL_PORT_TS, 0, 0⟩, by decide⟩,
   ⟨z0.stageLow 0 (some (0x60018, 2 ^ 32 - 1)), .pf 0, 2 ^ 32 - 1, by decide⟩⟩

theorem witness_HalvesAndReads_2 :
    (∃ (s : State) (r : Req), s.Overlock ∧ s.Grants r false .STRM_MISS_STATUS 0 0) ∧
    (∃ (s : State) (r : Req), s.Overlock ∧ s.Grants r false .HIF_RX_STORE 0 0) ∧
    (∃ (s : State) (r : Req) (word : BitVec 20), s.Overlock ∧ s.dev ≠ .off ∧ s.present r = true ∧ s.allowed r false 0 (0x300_0000 + 8 * (word.toNat % 2 ^ 18)) 8 = true) ∧
    (∃ (s : State) (r : Req) (slot : BitVec 26), s.Overlock ∧ s.dev ≠ .off ∧ s.present r = true ∧ s.allowed r false 0 (slot.toNat / 8 * 8) 4 = true ∧ 0x300_0000 ≤ slot.toNat / 8 * 8 ∧ slot.toNat / 8 * 8 < 0x320_0000 ∧ (slot.toNat - 0x300_0000) / 8 ∈ s.localBad) ∧
    (∃ (s : State) (r : Req) (word : BitVec 20), s.Overlock ∧ s.dev ≠ .off ∧ s.present r = true ∧ s.allowed r false 0 (0x320_0000 + 8 * word.toNat) 8 = true ∧ (((List.range 16).map fun l => s.cellFrames (16 * s.fld .DEV_DBG_SEL_BOLT + l)).flatten).find? (fun f => f.cellNos.contains (word.toNat / 32)) = none) ∧
    (∃ (s : State) (r : Req) (word : BitVec 20) (f : FrameRec), s.Overlock ∧ s.dev ≠ .off ∧ s.present r = true ∧ s.allowed r false 0 (0x320_0000 + 8 * word.toNat) 8 = true ∧ (((List.range 16).map fun l => s.cellFrames (16 * s.fld .DEV_DBG_SEL_BOLT + l)).flatten).find? (fun f => f.cellNos.contains (word.toNat / 32)) = some f ∧ (s.pt (qPort f.q)).sends f = true) ∧
    (∃ (s : State) (r : Req) (word : BitVec 20) (f : FrameRec), s.Overlock ∧ s.dev ≠ .off ∧ s.present r = true ∧ s.allowed r false 0 (0x320_0000 + 8 * word.toNat) 8 = true ∧ (((List.range 16).map fun l => s.cellFrames (16 * s.fld .DEV_DBG_SEL_BOLT + l)).flatten).find? (fun f => f.cellNos.contains (word.toNat / 32)) = some f ∧ (s.pt (qPort f.q)).sends f = false) :=
  ⟨⟨z0, .pf 0, by decide⟩,
   ⟨z0, .pf 0, by decide⟩,
   ⟨z0, .pf 0, 0xFFFFF, by decide⟩,
   ⟨{ z0 with localBad := [7] }, .pf 0, 0x3000038, by decide⟩,
   ⟨z0, .pf 0, 31, by decide⟩,
   ⟨cellTx, .pf 0, 255, frc, by decide⟩,
   ⟨z0.updQu 0 fun x => { x with frames := [frc] }, .pf 0, 255, frc, by decide⟩⟩

theorem witness_PaceMonitors :
    (∃ (s : State) (b : Bolt), s.Overlock ∧ s.dev ≠ .off ∧ 128 * ((s.time.pace.get {} b).win + 1) ≤ s.lNs) ∧
    (∃ (s : State) (b : Bolt), s.Overlock ∧ s.dev ≠ .off ∧ s.lNs < 128 * ((s.time.pace.get {} b).win + 1)) ∧
    (∃ (s : State) (b : Bolt), s.Overlock ∧ s.dev ≠ .off ∧ s.lNs < 1000 * ((s.time.pace.get {} b).us + 1)) ∧
    (∃ (s : State) (b : Bolt) (w : Nat × Nat) (ws : List (Nat × Nat)), s.Overlock ∧ s.dev ≠ .off ∧ 1000 * ((s.time.pace.get {} b).us + 1) ≤ s.lNs ∧ (s.time.pace.get {} b).us * 1000 + 1000 < 128 * ((s.time.pace.get {} b).win + 1) ∧ ((s.time.pace.get {} b).windows.filter (fun e => (128 * (e.1 + 1) - 1) / 1000 == (s.time.pace.get {} b).us)).map (·.2) = w :: ws) ∧
    (∃ (s : State) (r : Req), s.Overlock ∧ s.Grants r true .DEV_PACE_CTRL 0 0) ∧
    (∃ (s : State), s.Overlock ∧ s.dev ≠ .off) :=
  ⟨⟨z0.loadCnts 8 (128 * nsT), 7, by decide⟩,
   ⟨z0.loadCnts 8 (127 * nsT), 7, by decide⟩,
   ⟨z0.loadCnts 8 (999 * nsT), 7, by decide⟩,
   ⟨{ z0.loadCnts 8 (1000 * nsT) with time := { (z0.loadCnts 8 (1000 * nsT)).time with pace := [(7, { windows := [(0, 1, 2)], win := 8 })] } }, 7, (1, 2), [], by decide⟩,
   ⟨z0, .pf 0, by decide⟩,
   ⟨z0, by decide⟩⟩

theorem witness_TimeReferencesAndRepairs_1 :
    (∃ (s : State), s.Overlock ∧ s.dev ≠ .off ∧ s.time.measuring = true) ∧
    (∃ (s : State), s.Overlock ∧ s.dev ≠ .off ∧ s.time.locked = false ∧ s.time.passing = none ∧ s.fld .TPL_OSC_STATUS_FREQ ≠ 0 ∧ s.time.timeoscOk = true) ∧
    (∃ (s : State), s.Overlock ∧ s.dev ≠ .off ∧ s.time.timeoscOk = true ∧ s.fld .TPL_OSC_STATUS_REF_SRC = 0 ∧ s.time.refAOk = true) ∧
    (∃ (s : State), s.Overlock ∧ s.dev ≠ .off ∧ s.time.timeoscOk = true ∧ s.fld .TPL_OSC_STATUS_REF_SRC = 0 ∧ s.time.refAOk = false ∧ s.time.refBOk = false) ∧
    (∃ (s : State), s.Overlock ∧ s.dev ≠ .off ∧ s.time.refAOk = true ∧ s.fld .TPL_OSC_STATUS_REF_SRC = 1 ∧ s.time.refBOk = true) ∧
    (∃ (s : State), s.Overlock ∧ s.dev ≠ .off ∧ s.time.refAOk = true ∧ s.fld .TPL_OSC_STATUS_REF_SRC = 0) ∧
    (∃ (s : State), s.Overlock ∧ s.dev ≠ .off ∧ s.time.refBOk = true ∧ s.fld .TPL_OSC_STATUS_REF_SRC = 2) :=
  ⟨⟨z0, by decide⟩,
   ⟨z0.w .TPL_OSC_STATUS_FREQ 0 3, by decide⟩,
   ⟨z0, by decide⟩,
   ⟨{ z0 with time := { z0.time with refAOk := false, refBOk := false } }, by decide⟩,
   ⟨z0.w .TPL_OSC_STATUS_REF_SRC 0 1, by decide⟩,
   ⟨z0, by decide⟩,
   ⟨z0.w .TPL_OSC_STATUS_REF_SRC 0 2, by decide⟩⟩

theorem witness_TimeReferencesAndRepairs_2 :
    ∃ (s : State) (ps : Nat), s.Overlock ∧ s.dev ≠ .off ∧ (∀ y : Nat, y < 9 → s.excl y = 0 ∧ s.cnt y 0 = s.cnt y 1 ∧ s.cnt y 1 = s.cnt y 2) ∧ s.time.passing = some ps :=
  ⟨{ z0 with time := { z0.time with passing := some 6400 } }, 6400, by decide⟩

theorem witness_DomainStates :
    (∃ (s : State) (d : Dom) (r : Req), s.Overlock ∧ s.Grants r true .TPL_DOM_CFG d 0 ∧ s.on .TPL_DOM_CFG_EN d = false) ∧
    (∃ (s : State) (d : Dom) (r : Req), s.Overlock ∧ s.Grants r true .TPL_DOM_CFG d 0) ∧
    (∃ (s : State) (d : Dom) (r : Req), s.Overlock ∧ s.Grants r true .TPL_DOM_CFG d 0 ∧ s.on .TPL_DOM_CFG_EN d = true) ∧
    (∃ (s : State) (d : Dom) (r : Req), s.Overlock ∧ s.Grants r true .TPL_DOM_SAMPLE_OFS d 0 ∧ s.domState d ∈ [1, 3, 4]) ∧
    (∃ (s : State) (d : Dom) (r : Req), s.Overlock ∧ s.Grants r true .TPL_DOM_SAMPLE_OFS d 0 ∧ (s.domState d = 0 ∨ s.domState d = 2)) ∧
    (∃ (s : State) (d : Dom) (ofs : Int) (ratio : Int), s.Overlock ∧ s.dev ≠ .off ∧ s.domState d = 1 ∧ (s.dom d).sample = some (ofs, ratio) ∧ s.time.sampleQ.head? = some d.val) ∧
    (∃ (s : State) (d : Dom) (e : Nat), s.Overlock ∧ s.dev ≠ .off ∧ s.time.sampleQ.head? = some e ∧ e ≠ d) ∧
    (∃ (s : State) (d : Dom), s.Overlock ∧ s.dev ≠ .off ∧ s.domState d = 3 ∧ (s.dom d).lastAcc + max 1 (s.fld .TPL_DOM_CFG_HOLD_TIMEOUT d) * 16000000 * nsT ≤ s.lNow) ∧
    (∃ (s : State) (d : Dom), s.Overlock ∧ s.dev ≠ .off ∧ s.domState d = 4 ∧ s.fld .TPL_DOM_HOLD_DRIFT d = 0 ∧ s.fld .TPL_DOM_HOLD_RATE_UNC d = 256 ∧ (s.dom d).holdEntry ≤ s.lNow ∧ s.lNow - (s.dom d).holdEntry = 7 * secT) :=
  ⟨⟨z0, 7, .pf 0, by decide⟩,
   ⟨z0, 7, .pf 0, by decide⟩,
   ⟨z0.w .TPL_DOM_CFG_EN 7 1, 7, .pf 0, by decide⟩,
   ⟨z0.w .TPL_DOM_STATUS_STATE 7 4, 7, .pf 0, by decide⟩,
   ⟨z0.w .TPL_DOM_STATUS_STATE 7 2, 7, .pf 0, by decide⟩,
   ⟨{ (z0.w .TPL_DOM_STATUS_STATE 7 1).setDom 7 { sample := some (-5, 3) } with time := { ((z0.w .TPL_DOM_STATUS_STATE 7 1).setDom 7 { sample := some (-5, 3) }).time with sampleQ := [7] } }, 7, -5, 3, by decide⟩,
   ⟨{ z0 with time := { z0.time with sampleQ := [6, 7] } }, 7, 6, by decide⟩,
   ⟨(z0.w .TPL_DOM_STATUS_STATE 7 3).loadCnts 8 (256 * 16000000 * nsT), 7, by decide⟩,
   ⟨((z0.w .TPL_DOM_STATUS_STATE 7 4).w .TPL_DOM_HOLD_DRIFT 7 0 |>.w .TPL_DOM_HOLD_RATE_UNC 7 256).loadCnts 8 (7 * secT), 7, by decide⟩⟩

theorem witness_DomainStepsAndLoads :
    (∃ (s : State) (d : Dom) (delta : Int) (at' : Nat), s.Overlock ∧ s.dev ≠ .off ∧ (∀ g : Fin 16, s.grpState g < 2) ∧ (s.dom d).step = some (delta, at') ∧ at' ≤ s.lNow ∧ (∀ p : Port, s.schedDom p = d → (s.pt p).inSync = false)) ∧
    (∃ (s : State) (d : Dom) (delta : Int) (at' : Nat), s.Overlock ∧ s.dev ≠ .off ∧ (s.dom d).step = some (delta, at') ∧ (s.lNow < at' ∨ (∃ p : Port, s.schedDom p = d ∧ (s.pt p).inSync = true))) ∧
    (∃ (s : State) (d : Dom) (r : Req), s.Overlock ∧ s.Grants r true .TPL_DOM_SET_SEC d 0 ∧ s.domState d ≤ 1) ∧
    (∃ (s : State) (d : Dom) (r : Req), s.Overlock ∧ s.Grants r true .TPL_DOM_SET_SEC d 0 ∧ 2 ≤ s.domState d) ∧
    (∃ (s : State) (d : Dom) (v : Nat) (at' : Nat), s.Overlock ∧ s.dev ≠ .off ∧ (∀ g : Fin 16, s.grpState g < 2) ∧ (s.dom d).load = some (v, at') ∧ at' ≤ s.lNow ∧ (s.inst d).declaring = false) ∧
    (∃ (s : State) (d : Dom) (v : Nat) (at' : Nat), s.Overlock ∧ s.dev ≠ .off ∧ (∀ g : Fin 16, s.grpState g < 2) ∧ (s.dom d).load = some (v, at') ∧ at' ≤ s.lNow ∧ (s.inst d).declaring = true) :=
  ⟨⟨z0.setDom 7 { step := some (-1, 0) }, 7, -1, 0, by decide⟩,
   ⟨z0.setDom 7 { step := some (-1, 1) }, 7, -1, 1, by decide⟩,
   ⟨z0.w .TPL_DOM_STATUS_STATE 7 1, 7, .pf 0, by decide⟩,
   ⟨z0.w .TPL_DOM_STATUS_STATE 7 2, 7, .pf 0, by decide⟩,
   ⟨z0.setDom 7 { load := some (5, 0) }, 7, 5, 0, by decide⟩,
   ⟨{ z0.setDom 7 { load := some (5, 0) } with ptp := [(7, { declaring := true })] }, 7, 5, 0, by decide⟩⟩

theorem witness_OutputsSnapshotsAndCaptures_1 :
    (∃ (s : State) (r : Req), s.Overlock ∧ s.Grants r true .TPL_SNAP_CTRL 0 0) ∧
    (∃ (s : State) (l : List Nat), s.Overlock ∧ s.dev ≠ .off ∧ s.time.snap = some l) ∧
    (∃ (s : State) (u : Fin 36) (r : Req), s.Overlock ∧ s.Grants r true .TPL_OUT_CFG u 0 ∧ s.on .TPL_OUT_CFG_ALIGN_SEC u = false ∧ s.outNow u < s.outStart u) ∧
    (∃ (s : State) (u : Fin 36) (r : Req), s.Overlock ∧ s.Grants r true .TPL_OUT_CFG u 0 ∧ (∀ f ∈ Reg.fields .TPL_OUT_CFG, f ≠ .TPL_OUT_CFG_WIDTH → s.pendingB ⟨.TPL_OUT_CFG, u, 0⟩ f = none)) ∧
    (∃ (s : State) (u : Fin 36) (r : Req), s.Overlock ∧ s.Grants r true .TPL_OUT_CFG u 0 ∧ s.on .TPL_OUT_CFG_ARM u = false) ∧
    (∃ (s : State) (u : Fin 36) (r : Req), s.Overlock ∧ s.Grants r true .TPL_OUT_CFG u 0 ∧ s.on .TPL_OUT_CFG_ARM u = true ∧ s.fld .TPL_OUT_CFG_MODE u % 3 ≠ 0) ∧
    (∃ (s : State) (u : Fin 36) (n : Nat), s.Overlock ∧ s.dev ≠ .off ∧ (s.outU u).next = some n ∧ outPlace n ≤ s.outNow u ∧ s.fld .TPL_OUT_CFG_MODE u = 1 ∧ (∀ w, s.pendingB ⟨.TPL_OUT_CFG, u, 0⟩ .TPL_OUT_CFG_WIDTH = some w → w < 2 ^ 32)) ∧
    (∃ (s : State) (u : Fin 36) (e : Nat), s.Overlock ∧ s.dev ≠ .off ∧ (s.outU u).pulseEnd = some e ∧ e ≤ s.outNow u) :=
  ⟨⟨z0, .pf 0, by decide⟩,
   ⟨{ z0 with time := { z0.time with snap := some [1] } }, [1], by decide⟩,
   ⟨z0.w .TPL_OUT_START_SEC_SEC 35 1, 35, .pf 0, by decide⟩,
   ⟨z0, 35, .pf 0, by decide⟩,
   ⟨z0, 35, .pf 0, by decide⟩,
   ⟨(z0.w .TPL_OUT_CFG_ARM 35 1).w .TPL_OUT_CFG_MODE 35 1, 35, .pf 0, by decide⟩,
   ⟨(z0.setOutU 35 { next := some 0 }).w .TPL_OUT_CFG_MODE 35 1, 35, 0, by refine ⟨by decide, by decide, by decide, by decide, by decide, fun w h => absurd (show (none : Option Nat) = some w from h) (by simp)⟩⟩,
   ⟨z0.setOutU 35 { pulseEnd := some 0 }, 35, 0, by decide⟩⟩

theorem witness_OutputsSnapshotsAndCaptures_2 :
    (∃ (s : State) (u : Fin 34) (age : Nat), s.Overlock ∧ s.dev ≠ .off ∧ s.on .TPL_CAP_CFG_EN u = true ∧ s.bankOn (bankOf u) = true ∧ s.fld .TPL_CAP_CFG_EDGE u = 3 ∧ s.fld .TPL_CAP_CFG_FILTER u ≤ age ∧ s.time.capLast.get 0 u = 0 ∧ (s.capQ u).length < 8 ∧ u.val < 32) ∧
    (∃ (s : State) (u : Fin 34) (age : Nat), s.Overlock ∧ s.dev ≠ .off ∧ s.on .TPL_CAP_CFG_EN u = true ∧ s.bankOn (bankOf u) = true ∧ s.fld .TPL_CAP_CFG_EDGE u = 3 ∧ s.fld .TPL_CAP_CFG_FILTER u ≤ age ∧ s.time.capLast.get 0 u = 0 ∧ 8 ≤ (s.capQ u).length) ∧
    (∃ (s : State) (u : Fin 34) (r : Req) (c : CapRec) (l : List CapRec), s.Overlock ∧ s.Grants r false .TPL_CAP_NS u 0 ∧ s.capQ u = c :: l) :=
  ⟨⟨(z0.w .TPL_CAP_CFG_EN 31 1).w .TPL_CAP_CFG_EDGE 31 3, 31, 255, by decide⟩,
   ⟨{ (z0.w .TPL_CAP_CFG_EN 33 1).w .TPL_CAP_CFG_EDGE 33 3 with time := { z0.time with cap := [(33, List.replicate 8 ⟨0, true⟩)] } }, 33, 255, by decide⟩,
   ⟨{ z0 with time := { z0.time with cap := [(33, [⟨0, true⟩])] } }, 33, .pf 0, ⟨0, true⟩, [], by decide⟩⟩

theorem witness_TimeService :
    (∃ (s : State) (d : Dom) (p : Port) (f : Foreign), s.Overlock ∧ s.dev ≠ .off ∧ s.on .TPL_DOM_CFG_EN d = true ∧ p.val ∈ s.instPorts d ∧ (s.inst d).best = some f ∧ f.port = p.val ∧ s.instType d ∈ [1, 2] ∧ s.domState d ∈ [1, 3, 4]) ∧
    (∃ (s : State) (d : Dom) (p : Port) (f : Foreign), s.Overlock ∧ s.dev ≠ .off ∧ s.on .TPL_DOM_CFG_EN d = true ∧ p.val ∈ s.instPorts d ∧ (s.inst d).best = some f ∧ f.port = p.val ∧ s.instType d = 0 ∧ s.domState d ∈ [1, 3, 4]) ∧
    (∃ (s : State) (d : Dom), s.Overlock ∧ s.dev ≠ .off ∧ (s.inst d).gmCapable = true ∧ (s.inst d).heard = false ∧ (s.inst d).actingGm = false ∧ (s.inst d).declaring = false ∧ s.domState d = 1 ∧ s.instType d ≠ 3 ∧ (s.inst d).listenSince + s.listenT d ≤ s.lNow ∧ s.ppsFed d = false) ∧
    (∃ (s : State) (d : Dom), s.Overlock ∧ s.dev ≠ .off ∧ (s.inst d).gmCapable = true ∧ (s.inst d).heard = false ∧ (s.inst d).actingGm = false ∧ (s.inst d).declaring = false ∧ s.domState d = 1 ∧ s.instType d ≠ 3 ∧ (s.inst d).listenSince + s.listenT d ≤ s.lNow ∧ s.ppsFed d = true) ∧
    (∃ (s : State) (d : Dom) (p : Port) (a : BitVec 8) (q : BitVec 32) (b : BitVec 8) (src : ClockSrc), s.Overlock ∧ s.dev ≠ .off ∧ s.on .TPL_DOM_CFG_EN d = true ∧ p.val ∈ s.instPorts d ∧ s.instType d = 0 ∧ (s.inst d).actingGm = true ∧ (s.inst d).bmca ≠ 2 ∧ (s.inst d).foreign = [] ∧ 0 < (s.inst d).announceTimeoutT ∧ src.ident.toNat ≠ s.ownIdent ∧ s.ownIdent ∉ src.path.map BitVec.toNat ∧ better (dsRank a.toNat q.toNat b.toNat) src.ident.toNat (s.ownRank d) s.ownIdent = true ∧ ((s.inst d).returnHold = 0 ∨ s.dev = .acquire) ∧ s.domState d ≠ 1) ∧
    (∃ (s : State) (d : Dom) (p : Port) (a : BitVec 8) (q : BitVec 32) (b : BitVec 8) (src : ClockSrc), s.Overlock ∧ s.dev ≠ .off ∧ s.on .TPL_DOM_CFG_EN d = true ∧ p.val ∈ s.instPorts d ∧ s.instType d = 0 ∧ (s.inst d).actingGm = true ∧ (s.inst d).bmca ≠ 2 ∧ (s.inst d).foreign = [] ∧ 0 < (s.inst d).announceTimeoutT ∧ src.ident.toNat ≠ s.ownIdent ∧ s.ownIdent ∉ src.path.map BitVec.toNat ∧ better (dsRank a.toNat q.toNat b.toNat) src.ident.toNat (s.ownRank d) s.ownIdent = true ∧ (s.inst d).returnHold ≠ 0 ∧ s.dev ≠ .acquire ∧ (s.inst d).returning = none) ∧
    (∃ (s : State) (d : Dom) (g : Foreign), s.Overlock ∧ s.dev ≠ .off ∧ (s.inst d).best = some g ∧ (s.inst d).foreign = [g] ∧ s.masterLate d g = true ∧ (s.inst d).gmCapable = false) ∧
    (∃ (s : State) (d : Dom) (g : Foreign), s.Overlock ∧ s.dev ≠ .off ∧ (s.inst d).best = some g ∧ (s.inst d).foreign = [g] ∧ s.masterLate d g = true ∧ (s.inst d).gmCapable = true ∧ (s.inst d).bmca ≠ 2 ∧ s.instType d ≠ 3 ∧ s.domState d = 3) ∧
    (∃ (s : State) (d : Dom) (g : Foreign), s.Overlock ∧ s.dev ≠ .off ∧ (s.inst d).best = some g ∧ (s.inst d).foreign = [g] ∧ s.lNow < (s.inst d).lastSync + (s.inst d).syncTimeoutT ∧ s.lNow < g.atL + (s.inst d).announceTimeoutT) ∧
    (∃ (s : State) (d : Dom) (f : Foreign) (since : Nat) (last : Nat), s.Overlock ∧ s.dev ≠ .off ∧ (s.inst d).returning = some (f, since, last) ∧ s.lNow ≤ last + (s.inst d).announceTimeoutT ∧ since + (s.inst d).returnHold * nsT ≤ s.lNow ∧ (s.inst d).actingGm = false) ∧
    (∃ (s : State) (d : Dom) (f : Foreign) (since : Nat) (last : Nat), s.Overlock ∧ s.dev ≠ .off ∧ (s.inst d).returning = some (f, since, last) ∧ last + (s.inst d).announceTimeoutT < s.lNow) ∧
    (∃ (s : State) (d : Dom), s.Overlock ∧ s.dev ≠ .off ∧ s.on .TPL_DOM_CFG_EN d = true ∧ s.instType d ≠ 3 ∧ (s.inst d).actingGm = true ∧ (∀ p, ∀ e ∈ (s.pt p).tsq, e.dom ≠ d.val)) ∧
    (∃ (s : State) (d : Dom) (p : Nat) (e : EgressStamp), s.Overlock ∧ s.dev ≠ .off ∧ s.on .TPL_DOM_CFG_EN d = true ∧ s.instType d ≠ 3 ∧ (s.inst d).actingGm = true ∧ p ∈ s.instPorts d ∧ e ∈ (s.pt p).tsq ∧ e.dom = d.val ∧ e.msg = 0) ∧
    (∃ (s : State) (d : Dom), s.Overlock ∧ s.dev ≠ .off ∧ s.instType d = 3) :=
  ⟨⟨{ ((z0.w .TPL_DOM_CFG_EN 7 1).w .TPL_DOM_STATUS_STATE 7 4).w .TPL_DOM_MAP_INST 7 2 with ptp := [(7, { ports := [125], best := some ({ rank := 1, ident := 2, port := 125 } : Foreign) })] }, 7, 125, ({ rank := 1, ident := 2, port := 125 } : Foreign), by decide⟩,
   ⟨{ (z0.w .TPL_DOM_CFG_EN 7 1).w .TPL_DOM_STATUS_STATE 7 1 with ptp := [(7, { ports := [125, 124], best := some ({ rank := 1, ident := 2, port := 125 } : Foreign), capable := [124] })] }, 7, 125, ({ rank := 1, ident := 2, port := 125 } : Foreign), by decide⟩,
   ⟨{ ((((z0.w .TPL_DOM_CFG_EN 7 1).w .TPL_DOM_STATUS_STATE 7 1).w .TPL_DOM_MAP_INST 7 1).loadCnts 8 (100 * secT)) with ptp := [(7, { ports := [125], gmCapable := true })] }, 7, by decide⟩,
   ⟨{ (((((((((z0.w .TPL_DOM_CFG_EN 7 1).w .TPL_DOM_STATUS_STATE 7 1).w .TPL_DOM_MAP_INST 7 1).loadCnts 8 (100 * secT)).w .TPL_DOM_CFG_MODE 7 1).w .TPL_CAP_CFG_EN 33 1).w .TPL_CAP_CFG_SERVO_FEED 33 1).w .TPL_CAP_CFG_DOM 33 7).setDom 7 { fed := true }) with ptp := [(7, { ports := [125], gmCapable := true })] }, 7, by decide⟩,
   ⟨{ (z0.w .TPL_DOM_CFG_EN 7 1).w .TPL_DOM_STATUS_STATE 7 3 with ptp := [(7, { ports := [125], actingGm := true })] }, 7, 125, 0, 0, 0, { ident := 1 }, by decide +kernel⟩,
   ⟨{ (z0.w .TPL_DOM_CFG_EN 7 1).w .TPL_DOM_STATUS_STATE 7 3 with ptp := [(7, { ports := [125], actingGm := true, returnHold := 1 })] }, 7, 125, 0, 0, 0, { ident := 1 }, by decide +kernel⟩,
   ⟨{ (z0.loadCnts 8 (100 * secT)) with ptp := [(7, { best := some ({ rank := 1, ident := 2, port := 125 } : Foreign), foreign := [({ rank := 1, ident := 2, port := 125 } : Foreign)] })] }, 7, ({ rank := 1, ident := 2, port := 125 } : Foreign), by decide⟩,
   ⟨{ ((z0.loadCnts 8 (100 * secT)).w .TPL_DOM_STATUS_STATE 7 3) with ptp := [(7, { best := some ({ rank := 1, ident := 2, port := 125 } : Foreign), foreign := [({ rank := 1, ident := 2, port := 125 } : Foreign)], gmCapable := true })] }, 7, ({ rank := 1, ident := 2, port := 125 } : Foreign), by decide⟩,
   ⟨{ z0 with ptp := [(7, { best := some ({ rank := 1, ident := 2, port := 125 } : Foreign), foreign := [({ rank := 1, ident := 2, port := 125 } : Foreign)] })] }, 7, ({ rank := 1, ident := 2, port := 125 } : Foreign), by decide⟩,
   ⟨{ z0 with ptp := [(7, { returning := some (({ rank := 1, ident := 2, port := 125 } : Foreign), 0, 0) })] }, 7, ({ rank := 1, ident := 2, port := 125 } : Foreign), 0, 0, by decide⟩,
   ⟨{ (z0.loadCnts 8 (100 * secT)) with ptp := [(7, { returning := some (({ rank := 1, ident := 2, port := 125 } : Foreign), 0, 0) })] }, 7, ({ rank := 1, ident := 2, port := 125 } : Foreign), 0, 0, by decide⟩,
   ⟨{ (z0.w .TPL_DOM_CFG_EN 7 1).loadCnts 8 (100 * secT) with ptp := [(7, { ports := [125], actingGm := true, capable := [125] })] }, 7, by refine ⟨by decide, by decide, by decide, by decide, by decide, fun p e h => absurd (show e ∈ ([] : List EgressStamp) from h) (by simp)⟩⟩,
   ⟨{ (z0.w .TPL_DOM_CFG_EN 7 1) with ptp := [(7, { ports := [125], actingGm := true })], port := [(125, { tsq := [⟨7, 2 ^ 24, 0, 0, 0⟩] })] }, 7, 125, ⟨7, 2 ^ 24, 0, 0, 0⟩, by decide⟩,
   ⟨z0.w .TPL_DOM_MAP_INST 7 3, 7, by decide⟩⟩

theorem witness_TopologySupervisionAndCopies :
    (∃ (s : State) (p : Port) (k : TtdpTimer) (n : Nat), s.Overlock ∧ s.dev ≠ .off ∧ (k = .hello ∧ n = 0 ∧ s.ttdp.sentL.get 0 (2 * p) + s.ttdp.helloNs * nsT ≤ s.lNow ∨ k = .topology ∧ n = 1 ∧ s.ttdp.sentL.get 0 (2 * p + 1) + s.ttdp.topologyNs * nsT ≤ s.lNow) ∧ p.val ∈ s.ttdp.ports) ∧
    (∃ (s : State) (p : Port) (k : TtdpTimer), s.Overlock ∧ s.dev ≠ .off ∧ (k = .hello ∨ k = .topology) ∧ p.val ∉ s.ttdp.ports) ∧
    (∃ (s : State) (p : Port) (src : Nat) (l : Nat), s.Overlock ∧ s.dev ≠ .off ∧ s.ttdp.heard.get none p = some (src, l) ∧ l + s.ttdp.timeoutNs * nsT ≤ s.lNow) ∧
    (∃ (s : State), s.Overlock ∧ s.dev ≠ .off ∧ s.ttdp.inhibit = true ∧ s.ttdp.inhibitL + s.ttdp.inhibitNs * nsT ≤ s.lNow) ∧
    (∃ (s : State) (counter : Nat) (backbone : Dom), s.Overlock ∧ s.dev ≠ .off ∧ counter ≠ s.ttdp.counter ∧ s.on .TPL_SYNC_CFG_GM backbone = true) ∧
    (∃ (s : State) (p : Port), s.Overlock ∧ s.dev ≠ .off ∧ s.on .MEND_PORT_CFG_HSR_RING p = false) ∧
    (∃ (s : State) (p : Port) (src : BitVec 48) (seq : BitVec 16), s.Overlock ∧ s.dev ≠ .off ∧ s.on .MEND_PORT_CFG_HSR_RING p = true ∧ s.ownAddr src.toNat = false ∧ (src.toNat, seq.toNat) ∉ s.sup.sent) ∧
    (∃ (s : State), s.Overlock ∧ s.dev ≠ .off ∧ s.sup.lastLife + s.sup.interval * 1000000 * nsT ≤ s.lNow) ∧
    (∃ (s : State) (src : BitVec 48) (x : Nat) (y : Nat), s.Overlock ∧ s.dev ≠ .off ∧ s.sup.nodes.get (none, none) src.toNat = (some x, some y) ∧ x + forgetT ≤ s.lNow ∧ y + forgetT ≤ s.lNow) ∧
    (∃ (s : State) (p : Port) (skew : Int), s.Overlock ∧ s.dev ≠ .off ∧ s.schedDom p < 9 ∧ s.fld .SELV_GUARD_STATUS_DOM p = s.schedDom p ∧ (s.voted (s.schedDom p) - ((s.cnt (s.schedDom p) 2 : Int) + skew * 2 ^ 40 / 1000).toNat) + (((s.cnt (s.schedDom p) 2 : Int) + skew * 2 ^ 40 / 1000).toNat - s.voted (s.schedDom p)) ≤ nsT ∧ (s.pt p).inSync = s.inSync (s.schedDom p)) ∧
    (∃ (s : State) (p : Port) (skew : Int), s.Overlock ∧ s.dev ≠ .off ∧ s.schedDom p < 9 ∧ s.fld .SELV_GUARD_STATUS_DOM p = s.schedDom p ∧ nsT < (s.voted (s.schedDom p) - ((s.cnt (s.schedDom p) 2 : Int) + skew * 2 ^ 40 / 1000).toNat) + (((s.cnt (s.schedDom p) 2 : Int) + skew * 2 ^ 40 / 1000).toNat - s.voted (s.schedDom p)) ∧ (s.pt p).guard.badRun = 0 ∧ (s.pt p).inSync = s.inSync (s.schedDom p)) :=
  ⟨⟨({ z0.loadCnts 8 secT with ttdp := { lines := [(125, 124)], counter := 5, inhibit := true, kept := true, heard := [(125, some (1, 0))] } } : State), 125, .topology, 1, by decide⟩,
   ⟨z0, 127, .hello, by decide⟩,
   ⟨({ z0.loadCnts 8 secT with ttdp := { lines := [(125, 124)], counter := 5, inhibit := true, kept := true, heard := [(125, some (1, 0))] } } : State), 125, 1, 0, by decide⟩,
   ⟨({ z0.loadCnts 8 secT with ttdp := { lines := [(125, 124)], counter := 5, inhibit := true, kept := true, heard := [(125, some (1, 0))] } } : State), by decide⟩,
   ⟨z0.w .TPL_SYNC_CFG_GM 7 1, 1, 7, by decide⟩,
   ⟨z0, 127, by decide⟩,
   ⟨z0.w .MEND_PORT_CFG_HSR_RING 125 1, 125, 1, 1, by decide⟩,
   ⟨(z0.w .MEND_PORT_CFG_HSR_RING 125 1).loadCnts 8 (2000 * 1000000 * nsT), by decide⟩,
   ⟨{ z0.loadCnts 8 forgetT with sup := { z0.sup with nodes := [(2 ^ 48 - 1, (some 0, some 0))] } }, BitVec.allOnes 48, 0, 0, by decide⟩,
   ⟨z0, 127, 1000, by decide⟩,
   ⟨z0, 127, 1001, by decide⟩⟩

theorem witness_GateListCommits :
    (∃ (s : State) (p : Port) (r : Req) (i : Fin 1024), s.Overlock ∧ s.Grants r true .SHTL_GCL_ADMIN p i ∧ s.switchPending p = false) ∧
    (∃ (s : State) (p : Port) (r : Req) (i : Fin 1024), s.Overlock ∧ s.Grants r true .SHTL_GCL_ADMIN p i ∧ s.switchPending p = true) ∧
    (∃ (s : State) (p : Port) (r : Req), s.Overlock ∧ s.Grants r true .SHTL_GCL_CTRL p 0 ∧ s.switchPending p = false) ∧
    (∃ (s : State) (p : Port) (r : Req), s.Overlock ∧ s.Grants r true .SHTL_GCL_CTRL p 0 ∧ s.switchPending p = true) ∧
    (∃ (s : State) (p : Port) (n : Nat), s.Overlock ∧ s.dev ≠ .off ∧ (s.pt p).gcl.checking = some n ∧ multidrop p = false ∧ (s.gclRefuse p).adminDiffer p = false ∧ (s.gclRefuse p).adminBad p = false) ∧
    (∃ (s : State) (p : Port) (n : Nat), s.Overlock ∧ s.dev ≠ .off ∧ (s.pt p).gcl.checking = some n ∧ multidrop p = false ∧ (s.gclRefuse p).adminDiffer p = false ∧ (s.gclRefuse p).adminBad p = true) :=
  ⟨⟨z0, 127, .pf 0, 1023, by decide⟩,
   ⟨z0.w .SHTL_GCL_STATUS_PENDING 127 1, 127, .pf 0, 1023, by decide⟩,
   ⟨z0, 127, .pf 0, by decide⟩,
   ⟨z0.w .SHTL_GCL_STATUS_PENDING 127 1, 127, .pf 0, by decide⟩,
   ⟨{ ((z0.w .SHTL_GCL_CFG_ADMIN_LEN 125 1).w .SHTL_GCL_ADMIN_CYCLE_NS 125 1000).w .TPL_DOM_STATUS_STATE 0 3 with port := [(125, { gcl := { checking := some 5, sh := [(1024, 1000)], gd := [(1024, 1000)] } })] }, 125, 5, by decide⟩,
   ⟨{ z0 with port := [(125, { gcl := { checking := some 5 } })] }, 125, 5, by decide⟩⟩

theorem witness_CancelOfAPendingSwitch :
    (∃ (s : State) (p : Port) (r : Req), s.Overlock ∧ s.Grants r true .SHTL_GCL_CTRL p 0 ∧ s.switchPending p = true ∧ s.nowD p + 64000 * nsT ≤ s.tSw p) ∧
    (∃ (s : State) (p : Port) (r : Req), s.Overlock ∧ s.Grants r true .SHTL_GCL_CTRL p 0 ∧ s.switchPending p = true ∧ s.tSw p < s.nowD p + 64000 * nsT) :=
  ⟨⟨(z0.w .SHTL_GCL_STATUS_PENDING 127 1).w .SHTL_GCL_CHANGE_NS_NS 127 64000, 127, .pf 0, by decide⟩,
   ⟨(z0.w .SHTL_GCL_STATUS_PENDING 127 1).w .SHTL_GCL_CHANGE_NS_NS 127 63999, 127, .pf 0, by decide⟩⟩

theorem witness_SwitchTimeIsTheFirst :
    ∃ cycle : Nat, 0 < cycle :=
  ⟨1, by decide⟩

theorem witness_GateListRuns :
    (∃ (s : State) (p : Port), s.Overlock ∧ s.dev ≠ .off ∧ s.switchPending p = true ∧ s.tSw p ≤ s.nowD p ∧ (s.pt p).gcl.stopReq = false) ∧
    (∃ (s : State) (p : Port) (r : Req), s.Overlock ∧ s.Grants r true .SHTL_GCL_CTRL p 0 ∧ s.running p = true) ∧
    (∃ (s : State) (p : Port) (c : Cyc) (x : Span), s.Overlock ∧ s.dev ≠ .off ∧ s.running p = true ∧ (s.switchPending p = false ∨ s.nowD p < s.tSw p) ∧ (s.sched p).spanAt (s.nowD p) = some (c, x) ∧ (s.pt p).gcl.performed ≠ some x.start ∧ (s.pt p).gcl.cycleStart = some c.start) ∧
    (∃ (s : State) (p : Port) (c : Cyc) (x : Span) (v : Nat), s.Overlock ∧ s.dev ≠ .off ∧ s.running p = true ∧ s.switchPending p = false ∧ (s.sched p).spanAt (s.nowD p) = some (c, x) ∧ (s.pt p).gcl.stopReq = false ∧ (s.pt p).gcl.performed ≠ some x.start ∧ (s.pt p).gcl.cycleStart = none ∧ s.pendingB ⟨.SELV_HEM_CFG, p, 0⟩ .SELV_HEM_CFG_HEM = some v ∧ v < 2 ^ 16) ∧
    (∃ (s : State) (p : Port) (c : Cyc) (x : Span), s.Overlock ∧ s.dev ≠ .off ∧ s.running p = true ∧ s.switchPending p = false ∧ (s.sched p).spanAt (s.nowD p) = some (c, x) ∧ (s.pt p).gcl.stopReq = true ∧ (s.pt p).gcl.performed ≠ some x.start ∧ (s.pt p).gcl.cycleStart = none) ∧
    (∃ (s : State) (p : Port), s.Overlock ∧ s.dev ≠ .off ∧ s.running p = true ∧ s.operDiffer p = true) ∧
    (∃ (s : State) (p : Port), s.Overlock ∧ s.dev ≠ .off ∧ s.operDiffer p = false) ∧
    (∃ (s : State) (p : Port), s.Overlock ∧ s.dev ≠ .off ∧ s.gridCanLock p = true) :=
  ⟨⟨z0.w .SHTL_GCL_STATUS_PENDING 127 1, 127, by decide⟩,
   ⟨z0.w .SHTL_GCL_STATUS_RUNNING 127 1, 127, .pf 0, by decide⟩,
   ⟨((tl 125).at' 50000).updPt 125 fun x => { x with gcl := { x.gcl with cycleStart := some 0 } }, 125, cyc0, span1, by decide +kernel⟩,
   ⟨(((tl 125).at' 50000).updPt 125 fun x => { x with gcl := { x.gcl with cycleStart := none } }).setPendingB ⟨.SELV_HEM_CFG, 125, 0⟩ .SELV_HEM_CFG_HEM (some 65535), 125, cyc0, span1, 65535, by decide +kernel⟩,
   ⟨((tl 125).at' 50000).updPt 125 fun x => { x with gcl := { x.gcl with stopReq := true } }, 125, cyc0, span1, by decide +kernel⟩,
   ⟨(tl 125).w .SELV_GUARD_STATUS_DOM 125 1, 125, by decide⟩,
   ⟨tl 125, 125, by decide⟩,
   ⟨(z0.w .SELV_GRID_STATUS_STEP_PS 125 1).w .TPL_DOM_STATUS_STATE 0 3, 125, by decide⟩⟩

theorem witness_QueueCommandsAndCalendar :
    (∃ (s : State) (p : Port) (r : Req), s.Overlock ∧ s.Grants r true .SHTL_Q_CMD p 0 ∧ s.on .SHTL_Q_CMD_BUSY p = false) ∧
    (∃ (s : State) (p : Port) (r : Req), s.Overlock ∧ s.Grants r true .SHTL_Q_CMD p 0 ∧ s.on .SHTL_Q_CMD_BUSY p = true) ∧
    (∃ (s : State) (p : Port), s.Overlock ∧ s.dev ≠ .off ∧ s.on .SHTL_Q_CMD_BUSY p = true) ∧
    (∃ (s : State) (p : Port) (r : Req), s.Overlock ∧ s.Grants r true .SHTL_Q_CMD p 0 ∧ s.on .SHTL_Q_CMD_BUSY p = false) ∧
    (∃ (s : State) (p : Port) (n : Fin 128) (r : Req), s.Overlock ∧ s.Grants r true .SHTL_Q_SHAPE p n) ∧
    (∃ (s : State) (q : Nat) (y : Park) (b : Bolt), s.Overlock ∧ s.dev ≠ .off ∧ (s.bo b).coarse ≠ some (s.lNs / 32768) ∧ boltOf (qPort q) = b ∧ (s.qu q).park = some y ∧ y.fine = false ∧ y.slot = s.lNs / 32768 % 4096 ∧ y.laps = 0) ∧
    (∃ (s : State) (q : Nat) (y : Park) (b : Bolt), s.Overlock ∧ s.dev ≠ .off ∧ boltOf (qPort q) = b ∧ (s.qu q).park = some y ∧ y.fine = true ∧ y.elig * nsT ≤ s.lNow) ∧
    (∃ (s : State) (p : Port) (n : Fin 128), s.Overlock ∧ s.dev ≠ .off ∧ s.rescueDue p n = true) :=
  ⟨⟨z0, 127, .pf 0, by decide⟩,
   ⟨z0.w .SHTL_Q_CMD_BUSY 127 1, 127, .pf 0, by decide⟩,
   ⟨z0.w .SHTL_Q_CMD_BUSY 127 1, 127, by decide⟩,
   ⟨z0, 127, .pf 0, by decide⟩,
   ⟨z0, 127, 127, .pf 0, by decide⟩,
   ⟨z0.updQu 16383 fun x => { x with park := some ⟨8, false, 0, 0⟩ }, 16383, ⟨8, false, 0, 0⟩, 7, by decide⟩,
   ⟨z0.updQu 16383 fun x => { x with park := some ⟨0, true, 0, 0⟩ }, 16383, ⟨0, true, 0, 0⟩, 7, by decide⟩,
   ⟨((z0.w .SHTL_Q_SEL_RESCUE_AGE 127 1 127).at' 1001).updQu 16383 fun x => { x with frames := [frm] }, 127, 127, by decide⟩⟩

theorem witness_StagingSelectionAndStarts_1 :
    (∃ (s : State) (p : Port) (c : Fin 8) (w : Win), s.Overlock ∧ s.dev ≠ .off ∧ s.portTakes p = true ∧ s.schedUp p = true ∧ s.isSched p c = true ∧ (s.pruneWins p).dueWindow p c = some w) ∧
    (∃ (s : State) (p : Port) (w : StgWin) (fr : FrameRec) (tl : List FrameRec), s.Overlock ∧ s.dev ≠ .off ∧ s.portTakes p = true ∧ s.schedUp p = true ∧ (s.pt p).wins = [w] ∧ s.nowD p < w.closeT ∧ w.noFit = [] ∧ (s.qu (128 * p + 16 * w.cls)).frames = fr :: tl ∧ w.used + s.wireT p (s.charged p fr) ≤ w.closeT - w.openT ∧ s.storeFits p fr = true ∧ (s.editFrame p fr).length ≤ 9212 ∧ (∀ x ∈ (s.pt p).staged, x.held = false) ∧ fr.q = 128 * p + 16 * w.cls) ∧
    (∃ (s : State) (p : Port) (c : Fin 8) (w : StgWin), s.Overlock ∧ s.dev ≠ .off ∧ ((s.pt p).wins.find? fun w => w.cls == c.val && w.storeFull && decide (w.closeT ≤ s.nowD p)) = some w) ∧
    (∃ (s : State) (p : Port) (n : Nat) (fr : FrameRec) (tl : List FrameRec), s.Overlock ∧ s.dev ≠ .off ∧ s.portTakes p = true ∧ (s.pt p).express = none ∧ s.urgentReady p false = [] ∧ s.selectPick p false = some (n, false) ∧ (s.qu (128 * p + n)).frames = fr :: tl ∧ (∀ f, (s.pt p).preempt = some f → s.paused p (qTc f.fr.q) = true → f.started = true) ∧ (∀ v, s.pendingB ⟨.SHTL_Q_SEL, p, n⟩ .SHTL_Q_SEL_WEIGHT = some v → v < 256)) :=
  ⟨⟨(tl 125).at' 49999, 125, 7, ⟨7, (50000 * nsT : Nat), (100000 * nsT : Nat), false⟩, by decide⟩,
   ⟨(((tl 125).at' 49999).updPt 125 fun x => { x with wins := [win7] }).updQu 16112 fun x => { x with frames := [({ frm with q := 16112 })] }, 125, win7, ({ frm with q := 16112 }), [], by decide⟩,
   ⟨z0.updPt 125 fun x => { x with wins := [{ cls := 7, openT := 0, closeT := 0, noHem := false, storeFull := true }] }, 125, 7, { cls := 7, openT := 0, closeT := 0, noHem := false, storeFull := true }, by decide⟩,
   ⟨(lk 125).updQu 16127 fun x => { x with frames := [frm] }, 125, 127, frm, [], by decide⟩⟩

theorem witness_StagingSelectionAndStarts_2 :
    (∃ (s : State) (p : Port) (w : StgWin) (f : Staged), s.Overlock ∧ s.dev ≠ .off ∧ s.alive = true ∧ multidrop p = false ∧ (∀ g ∈ (s.pt p).staged, g.doomed = false ∧ (g.held = true → s.lNow < g.fullAt)) ∧ (s.pt p).mdp.staged = none ∧ (s.pt p).tx = none ∧ s.launchPick p = some (w, f) ∧ (f.fr.act = .none ∨ f.fr.act = .record ∧ f.fr.src = .service) ∧ s.planned p w ≤ s.nowR p ∧ s.point p w ≤ s.nowR p ∧ s.wireFree p ≤ s.point p w ∧ f.fullAt ≤ s.toL p (s.point p w) ∧ s.point p w + s.wholeT p f.bytes.length ≤ w.closeT ∧ s.otherTrain p w (s.point p w) = false ∧ s.on .SELV_GUARD_STATUS_COPY_HOLD p = false ∧ s.guardPass p w.cls (s.point p w) (s.point p w + s.wholeT p f.bytes.length) = true ∧ s.guardSlotOk p (s.point p w) (s.point p w + s.wholeT p f.bytes.length) = true) ∧
    (∃ (s : State) (p : Port) (d : List Byte), s.Overlock ∧ s.dev ≠ .off ∧ s.alive = true ∧ multidrop p = false ∧ (s.pt p).tx = none ∧ s.linkState p = 6 ∧ s.on .SELV_CTRL_RUN p = true ∧ (s.pt p).mac.ctrl = some d ∧ s.expressFits p (s.nextStart p (s.nowR p)) (s.wholeT p d.length + s.gapT p) = true ∧ s.guardSlotOk p (s.nextStart p (s.nowR p)) (s.nextStart p (s.nowR p) + s.wholeT p d.length) = true) :=
  ⟨⟨((tl 125).at' 50000).updPt 125 fun x => { x with wins := [win7], staged := [({ fr := frm, bytes := frm.data, cls := 7, openT := 50000 * nsT, closeT := 100000 * nsT, fullAt := 0 } : Staged)] }, 125, win7, ({ fr := frm, bytes := frm.data, cls := 7, openT := 50000 * nsT, closeT := 100000 * nsT, fullAt := 0 } : Staged), by decide⟩,
   ⟨((lk 125).at' 50000).updMac 125 fun x => { x with ctrl := some (List.replicate 60 1) }, 125, List.replicate 60 1, by decide⟩⟩

theorem witness_EndsCutsAndHolds :
    (∃ (s : State) (p : Port) (x : Tx), s.Overlock ∧ s.dev ≠ .off ∧ (s.pt p).tx = some x ∧ x.kind = .control ∧ x.final = true ∧ x.endL ≤ s.lNow ∧ (s.pt p).mac.disabling = false) ∧
    (∃ (s : State) (p : Port) (x : Tx), s.Overlock ∧ s.dev ≠ .off ∧ (s.pt p).tx = some x ∧ x.kind = .control ∧ s.hemHit p x = true ∧ (s.pt p).guard.blocks.length < 15) ∧
    (∃ (s : State) (p : Port), s.Overlock ∧ s.dev ≠ .off ∧ s.holdNow p = true) ∧
    (∃ (s : State) (p : Port), s.Overlock ∧ s.dev ≠ .off ∧ s.holdNow p = false) ∧
    (∃ (s : State) (p : Port) (x : Tx), s.Overlock ∧ s.dev ≠ .off ∧ (s.pt p).tx = some x ∧ x.kind = .preempt ∧ x.final = false ∧ x.endL ≤ s.lNow ∧ s.on .SELV_CTRL_RUN p = true ∧ (s.pt p).mac.disabling = false) ∧
    (∃ (s : State) (p : Port) (f : PathFrame) (n : Nat) (last : Bool), s.Overlock ∧ s.dev ≠ .off ∧ s.alive = true ∧ (s.pt p).preempt = some f ∧ f.started = true ∧ (s.pt p).tx = none ∧ s.on .SELV_CTRL_RUN p = true ∧ s.linkState p = 6 ∧ (s.pt p).mac.ctrl = none ∧ (s.pt p).holdApplied = false ∧ s.expressOnly p (s.nextStart p (s.nowR p)) false = false ∧ s.inTrain p (s.nextStart p (s.nowR p)) = false ∧ s.fragPlan p (s.nextStart p (s.nowR p)) (f.bytes.length - f.sent) = some (n, last) ∧ s.expressOnly p (s.nextStart p (s.nowR p)) true = false) ∧
    (∃ (s : State) (p : Port) (r : Req), s.Overlock ∧ s.Grants r true .SELV_CTRL p 0) :=
  ⟨⟨z0.updPt 125 fun x => { x with tx := some (txOf .control true 0 0) }, 125, txOf .control true 0 0, by decide⟩,
   ⟨((tl 125).at' 49990).updPt 125 fun x => { x with tx := some (txOf .control true (49900 * nsT) (50100 * nsT)) }, 125, txOf .control true (49900 * nsT) (50100 * nsT), by decide⟩,
   ⟨z0.w .SHTL_GCL_STATUS_HOLD 125 1, 125, by decide⟩,
   ⟨z0, 125, by decide⟩,
   ⟨(lk 125).updPt 125 fun x => { x with tx := some (txOf .preempt false 0 0) }, 125, txOf .preempt false 0 0, by decide⟩,
   ⟨((lk 125).at' 50000).updPt 125 fun x => { x with preempt := some ({ fr := frm, bytes := List.replicate 200 1, started := true, sent := 64 } : PathFrame) }, 125, ({ fr := frm, bytes := List.replicate 200 1, started := true, sent := 64 } : PathFrame), 136, true, by decide⟩,
   ⟨lk 127, 127, .pf 0, by decide⟩⟩

theorem witness_PreemptionVerification :
    (∃ (s : State) (p : Port), s.Overlock ∧ s.dev ≠ .off ∧ multidrop p = false ∧ s.on .SELV_PREEMPT_CFG_EN p = true ∧ s.on .SELV_PREEMPT_CFG_VERIFY_DIS p = false ∧ s.linkState p = 6 ∧ s.fld .SELV_PREEMPT_STATUS_VERIFY_STATE p = 1) ∧
    (∃ (s : State) (p : Port), s.Overlock ∧ s.dev ≠ .off ∧ multidrop p = false ∧ s.on .SELV_PREEMPT_CFG_EN p = true ∧ s.fld .SELV_PREEMPT_STATUS_VERIFY_STATE p = 2 ∧ (s.pt p).verifyDue ≤ s.lNow ∧ s.fld .SELV_PREEMPT_STATUS_ATTEMPTS p < 3) ∧
    (∃ (s : State) (p : Port), s.Overlock ∧ s.dev ≠ .off ∧ multidrop p = false ∧ s.on .SELV_PREEMPT_CFG_EN p = true ∧ s.fld .SELV_PREEMPT_STATUS_VERIFY_STATE p = 2 ∧ (s.pt p).verifyDue ≤ s.lNow ∧ s.fld .SELV_PREEMPT_STATUS_ATTEMPTS p = 3) ∧
    (∃ (s : State) (p : Port), s.Overlock ∧ s.dev ≠ .off ∧ multidrop p = false ∧ s.on .SELV_PREEMPT_CFG_EN p = true ∧ s.fld .SELV_PREEMPT_STATUS_VERIFY_STATE p = 2 ∧ s.linkState p = 6) ∧
    (∃ (s : State) (p : Port), s.Overlock ∧ s.dev ≠ .off ∧ multidrop p = false ∧ s.on .SELV_PREEMPT_CFG_EN p = true ∧ s.linkState p = 6) :=
  ⟨⟨((lk 125).w .SELV_PREEMPT_CFG_EN 125 1).w .SELV_PREEMPT_STATUS_VERIFY_STATE 125 1, 125, by decide⟩,
   ⟨(((lk 125).w .SELV_PREEMPT_CFG_EN 125 1).w .SELV_PREEMPT_STATUS_VERIFY_STATE 125 2).w .SELV_PREEMPT_STATUS_ATTEMPTS 125 2, 125, by decide⟩,
   ⟨(((lk 125).w .SELV_PREEMPT_CFG_EN 125 1).w .SELV_PREEMPT_STATUS_VERIFY_STATE 125 2).w .SELV_PREEMPT_STATUS_ATTEMPTS 125 3, 125, by decide⟩,
   ⟨((lk 125).w .SELV_PREEMPT_CFG_EN 125 1).w .SELV_PREEMPT_STATUS_VERIFY_STATE 125 2, 125, by decide⟩,
   ⟨(lk 125).w .SELV_PREEMPT_CFG_EN 125 1, 125, by decide⟩⟩

theorem witness_LinkWayUp :
    (∃ (s : State) (r : Req) (b : Bolt) (k : Fin 5) (v : BitVec 32), s.Overlock ∧ s.Grants r true .MAC_LANE_CFG b k ∧ s.laneStopped b k = true ∧ laneAccepts k (bits v.toNat 31 29) = true ∧ bits v.toNat 17 12 + bits v.toNat 11 6 + bits v.toNat 5 0 ≤ 64 ∧ (∀ q ∈ lanePorts b k, s.on .MAC_CFG_EN q = false)) ∧
    (∃ (s : State) (r : Req) (b : Bolt) (k : Fin 5) (v : BitVec 32), s.Overlock ∧ s.Grants r true .MAC_LANE_CFG b k ∧ s.laneStopped b k = false ∧ laneAccepts k (bits v.toNat 31 29) = true ∧ s.fld .MAC_LANE_CFG_MODE b k ≠ bits v.toNat 31 29) ∧
    (∃ (s : State) (p : Port) (r : Req), s.Overlock ∧ s.Grants r true .MAC_CFG p 0 ∧ s.carried p = true ∧ s.portHeld p = false ∧ s.linkState p = 0) ∧
    (∃ (s : State) (p : Port) (r : Req), s.Overlock ∧ s.Grants r true .MAC_CFG p 0 ∧ (s.pt p).tx = none ∧ s.linkState p ≠ 6) ∧
    (∃ (s : State) (p : Port), s.Overlock ∧ s.dev ≠ .off ∧ multidrop p = false ∧ s.linkState p = 1) ∧
    (∃ (s : State) (p : Port), s.Overlock ∧ s.dev ≠ .off ∧ multidrop p = false ∧ s.linkState p = 2 ∧ s.laneRef p = true) ∧
    (∃ (s : State) (p : Port) (page : BitVec 16), s.Overlock ∧ s.dev ≠ .off ∧ s.linkState p = 3 ∧ s.laneMode (boltOf p) (laneOf p) = 3 ∧ page.getLsbD 5 = true ∧ s.linkFault p = false) ∧
    (∃ (s : State) (p : Port) (page : BitVec 16), s.Overlock ∧ s.dev ≠ .off ∧ s.linkState p = 3 ∧ s.laneMode (boltOf p) (laneOf p) = 3 ∧ page.getLsbD 5 = false) ∧
    (∃ (s : State) (p : Port), s.Overlock ∧ s.dev ≠ .off ∧ multidrop p = false ∧ s.linkState p = 5) ∧
    (∃ (s : State) (p : Port), s.Overlock ∧ s.dev ≠ .off ∧ multidrop p = false ∧ s.linkState p = 6) ∧
    (∃ (s : State) (p : Port), s.Overlock ∧ s.dev ≠ .off ∧ s.linkState p = 4) ∧
    (∃ (s : State) (p : Port), s.Overlock ∧ s.dev ≠ .off ∧ s.linkState p = 5 ∧ (s.pt p).mac.holdSince + s.fld .MAC_CFG_UP_HOLD p * 1000000 * nsT ≤ s.lNow ∧ s.schedUp p = false) :=
  ⟨⟨z0, .pf 0, 7, 1, 0x58010145, by decide⟩,
   ⟨(z0.w .MAC_CFG_EN 113 1).w .MAC_LANE_CFG_MODE 7 2 1, .pf 0, 7, 1, 0x38010145, by decide⟩,
   ⟨z0.w .MAC_LANE_CFG_MODE 7 1 1, 113, .pf 0, by decide⟩,
   ⟨z0, 127, .pf 0, by decide⟩,
   ⟨z0.w .MAC_LINK_STATUS_STATE 125 1, 125, by decide⟩,
   ⟨z0.w .MAC_LINK_STATUS_STATE 125 2, 125, by decide⟩,
   ⟨(z0.w .MAC_LINK_STATUS_STATE 113 3).w .MAC_LANE_CFG_MODE 7 3 1, 113, 0x20, by decide⟩,
   ⟨(z0.w .MAC_LINK_STATUS_STATE 113 3).w .MAC_LANE_CFG_MODE 7 3 1, 113, 0, by decide⟩,
   ⟨z0.w .MAC_LINK_STATUS_STATE 125 5, 125, by decide⟩,
   ⟨z0.w .MAC_LINK_STATUS_STATE 125 6, 125, by decide⟩,
   ⟨z0.w .MAC_LINK_STATUS_STATE 127 4, 127, by decide⟩,
   ⟨(z0.w .MAC_LINK_STATUS_STATE 127 5).loadCnts 8 (2 ^ 80), 127, by decide⟩⟩

theorem witness_LinkWayDown :
    (∃ (s : State) (p : Port), s.Overlock ∧ s.dev ≠ .off ∧ multidrop p = false ∧ s.linkState p = 5) ∧
    (∃ (s : State) (p : Port), s.Overlock ∧ s.dev ≠ .off ∧ multidrop p = false ∧ s.linkState p = 6) ∧
    (∃ (s : State) (p : Port) (us : Nat), s.Overlock ∧ s.dev ≠ .off ∧ multidrop p = false ∧ s.linkState p = 4 ∧ max 1 (s.fld .MAC_CFG_DOWN_FILTER p) ≤ us) ∧
    (∃ (s : State) (p : Port) (us : Nat), s.Overlock ∧ s.dev ≠ .off ∧ multidrop p = false ∧ s.linkState p = 6 ∧ max 1 (s.fld .MAC_CFG_DOWN_FILTER p) ≤ us ∧ (s.pt p).tx = none ∧ (s.pt p).staged = [] ∧ (s.pt p).express = none ∧ (s.pt p).preempt = none ∧ (s.pt p).retry = none ∧ s.schedUp p = false ∧ s.on .MAC_CFG_DOWN_ACT p = false) ∧
    (∃ (s : State) (p : Port) (us : Nat), s.Overlock ∧ s.dev ≠ .off ∧ us < max 1 (s.fld .MAC_CFG_DOWN_FILTER p)) ∧
    (∃ (s : State) (p : Port), s.Overlock ∧ s.dev ≠ .off ∧ multidrop p = true ∧ s.linkState p = 5) ∧
    (∃ (s : State) (p : Port), s.Overlock ∧ s.dev ≠ .off ∧ multidrop p = true ∧ s.linkState p = 1 ∧ s.on .MAC_MD_CFG_PHY_EN p = true) :=
  ⟨⟨z0.w .MAC_LINK_STATUS_STATE 125 5, 125, by decide⟩,
   ⟨z0.w .MAC_LINK_STATUS_STATE 125 6, 125, by decide⟩,
   ⟨z0.w .MAC_LINK_STATUS_STATE 125 4, 125, 1000000, by decide⟩,
   ⟨(z0.w .MAC_CFG_DOWN_ACT 125 0).w .MAC_LINK_STATUS_STATE 125 6, 125, 1000000, by decide⟩,
   ⟨z0, 127, 0, by decide⟩,
   ⟨z0.w .MAC_LINK_STATUS_STATE 127 5, 127, by decide⟩,
   ⟨(z0.w .MAC_LINK_STATUS_STATE 127 1).w .MAC_MD_CFG_PHY_EN 127 1, 127, by decide⟩⟩

theorem witness_FlowControlAndMultidrop :
    (∃ (s : State) (p : Port) (c : Fin 8), s.Overlock ∧ s.dev ≠ .off ∧ (s.pt p).mac.pauseEnd.get 0 c ≠ 0 ∧ (s.pt p).mac.pauseEnd.get 0 c ≤ s.lNow) ∧
    (∃ (s : State) (p : Port), s.Overlock ∧ s.dev ≠ .off ∧ s.fcMode p = true ∧ (s.pt p).mac.xoff = true ∧ (s.pt p).mac.xoffNext ≤ s.lNow ∧ s.poolAbove (s.fld .MAC_FC_TX_CFG_XOFF_FRAC p) = true) ∧
    (∃ (s : State) (p : Port) (r : Req) (v : BitVec 32), s.Overlock ∧ s.Grants r true .MAC_FC_TX_CMD p 0 ∧ s.fcMode p = true ∧ v.getLsbD 31 = true) ∧
    (∃ (s : State) (p : Port) (r : Req), s.Overlock ∧ s.Grants r true .MAC_FC_TX_CMD p 0 ∧ s.fcMode p = false) ∧
    (∃ (s : State) (p : Port), s.Overlock ∧ s.dev ≠ .off ∧ multidrop p = true ∧ (s.pt p).mac.mayStart ≤ s.lNow) ∧
    (∃ (s : State) (p : Port) (x : Tx), s.Overlock ∧ s.dev ≠ .off ∧ multidrop p = true ∧ s.fld .MAC_MD_CFG_MODE p = 0 ∧ (s.pt p).tx = some x ∧ s.pcState p ≠ 5 ∧ x.kind = .express ∧ s.sentBytes p x ≤ 64 ∧ s.fld .MAC_MD_STATUS_ATTEMPTS p < 15) ∧
    (∃ (s : State) (p : Port) (e : Nat), s.Overlock ∧ s.dev ≠ .off ∧ (s.pt p).mac.backoffEnd = some e ∧ e ≤ s.lNow) ∧
    (∃ (s : State) (p : Port), s.Overlock ∧ s.dev ≠ .off ∧ s.plca p = true ∧ s.fld .MAC_PLCA_CFG_NODE_ID p ≠ 0) ∧
    (∃ (s : State) (p : Port), s.Overlock ∧ s.dev ≠ .off ∧ s.plca p = true ∧ s.fld .MAC_PLCA_CFG_NODE_ID p = 0 ∧ s.plcaEnds p = true) ∧
    (∃ (s : State) (p : Port), s.Overlock ∧ s.dev ≠ .off ∧ s.plca p = true ∧ s.fld .MAC_PLCA_CFG_NODE_ID p ≠ 0 ∧ s.plcaEnds p = true) ∧
    (∃ (s : State) (p : Port), s.Overlock ∧ s.dev ≠ .off ∧ s.plca p = true ∧ s.fld .MAC_PLCA_CFG_NODE_ID p ≠ 0 ∧ s.on .MAC_MD_STATUS_PLCA_OK p = true ∧ (s.pt p).mac.lastBeacon + max 1 (s.fld .MAC_PLCA_CFG_BEACON_LOSS p) * 1000000 * nsT ≤ s.lNow) ∧
    (∃ (s : State) (p : Port), s.Overlock ∧ s.dev ≠ .off ∧ s.plcaEnds p = false) :=
  ⟨⟨(z0.updMac 127 fun x => { x with pauseEnd := [(7, 1)] }).at' 1, 127, 7, by decide⟩,
   ⟨{ ((z0.w .MAC_FC_TX_CFG_MODE 125 2).w .MAC_FC_TX_CFG_XOFF_FRAC 125 0).updMac 125 fun x => { x with xoff := true } with bolt := [(7, { sharedUsed := 1 })] }, 125, by decide⟩,
   ⟨((z0.w .MAC_FC_TX_CFG_MODE 125 2).w .MAC_FC_TX_CFG_XOFF_FRAC 125 0), 125, .pf 0, 0x80000000, by decide⟩,
   ⟨z0, 125, .pf 0, by decide⟩,
   ⟨z0, 127, by decide⟩,
   ⟨z0.updPt 127 fun x => { x with tx := some (txOf .express true 0 1) }, 127, txOf .express true 0 1, by decide⟩,
   ⟨z0.updMac 127 fun x => { x with backoffEnd := some 0 }, 127, 0, by decide⟩,
   ⟨((z0.w .MAC_MD_CFG_MODE 127 1).w .MAC_LINK_STATUS_STATE 127 6).w .MAC_PLCA_CFG_NODE_ID 127 254, 127, by decide⟩,
   ⟨(((z0.w .MAC_MD_CFG_MODE 127 1).w .MAC_LINK_STATUS_STATE 127 6).w .MAC_PLCA_CFG_NODE_ID 127 0).loadCnts 8 (2 ^ 80), 127, by decide⟩,
   ⟨(((z0.w .MAC_MD_CFG_MODE 127 1).w .MAC_LINK_STATUS_STATE 127 6).w .MAC_PLCA_CFG_NODE_ID 127 254).loadCnts 8 (2 ^ 80), 127, by decide⟩,
   ⟨((((z0.w .MAC_MD_CFG_MODE 127 1).w .MAC_LINK_STATUS_STATE 127 6).w .MAC_PLCA_CFG_NODE_ID 127 254).w .MAC_MD_STATUS_PLCA_OK 127 1).loadCnts 8 (2 ^ 80), 127, by decide⟩,
   ⟨z0, 127, by decide⟩⟩

theorem witness_PolledCycleClaims :
    (∃ (s : State) (p : Port), s.Overlock ∧ s.dev ≠ .off ∧ s.pcMet p = true ∧ s.pcState p = 0 ∧ s.schedUp p = false) ∧
    (∃ (s : State) (p : Port), s.Overlock ∧ s.dev ≠ .off ∧ s.pcMet p = false ∧ s.schedUp p = false) ∧
    (∃ (s : State) (p : Port), s.Overlock ∧ s.dev ≠ .off ∧ s.pcState p = 1 ∧ (s.pt p).mdp.listenEnd ≤ s.lNow ∧ s.pcMayClaim p = true) ∧
    (∃ (s : State) (p : Port), s.Overlock ∧ s.dev ≠ .off ∧ s.pcState p = 1 ∧ (s.pt p).mdp.listenEnd ≤ s.lNow ∧ s.pcMayClaim p = false) ∧
    (∃ (s : State) (p : Port), s.Overlock ∧ s.dev ≠ .off ∧ s.pcState p = 4 ∧ multidrop p = true ∧ s.alive = true ∧ (s.pt p).mdp.claiming = false ∧ (s.pt p).mdp.claimEnd ≤ s.lNow ∧ (s.pt p).mac.mayStart ≤ s.lNow ∧ (s.pt p).mac.backoffEnd = none ∧ (s.pt p).tx = none) ∧
    (∃ (s : State) (p : Port) (x : Tx), s.Overlock ∧ s.dev ≠ .off ∧ s.pcState p = 4 ∧ (s.pt p).mdp.claiming = true ∧ (s.pt p).tx = some x ∧ x.kind = .polled ∧ x.final = true ∧ x.endL ≤ s.lNow ∧ (s.pt p).mac.disabling = false) ∧
    (∃ (s : State) (p : Port) (d : List Byte), s.Overlock ∧ s.dev ≠ .off ∧ s.polled p = true ∧ s.pcState p = 4 ∧ s.pcValid p d = true ∧ byteAt d 0 = 0x53) ∧
    (∃ (s : State) (p : Port) (d : List Byte), s.Overlock ∧ s.dev ≠ .off ∧ s.polled p = true ∧ s.pcState p = 5 ∧ s.pcValid p d = true ∧ byteAt d 0 = 0x53 ∧ pcOrig d ≠ s.pcOrigin p ∧ s.schedUp p = false) ∧
    (∃ (s : State) (p : Port) (d : List Byte), s.Overlock ∧ s.dev ≠ .off ∧ s.polled p = true ∧ s.pcValid p d = false) ∧
    (∃ (s : State) (p : Port), s.Overlock ∧ s.dev ≠ .off ∧ s.polled p = false) :=
  ⟨⟨md 0, 127, by decide⟩,
   ⟨z0, 127, by decide⟩,
   ⟨(({ md 1 with dev := .solo }).w .MDP_PC_CFG_MASTER_CAP 127 1).w .TPL_SYNC_STATUS_IN_SYNC 0 1, 127, by decide⟩,
   ⟨md 1, 127, by decide⟩,
   ⟨md 4, 127, by decide⟩,
   ⟨(md 4).updPt 127 fun x => { x with tx := some (txOf .polled true 0 0), mdp := { x.mdp with claiming := true } }, 127, txOf .polled true 0 0, by decide⟩,
   ⟨md 4, 127, pcFrame 0x53, by decide⟩,
   ⟨md 5, 127, pcFrame 0x53, by decide⟩,
   ⟨md 6, 127, pcFrame 0x54, by decide⟩,
   ⟨z0, 127, by decide⟩⟩

theorem witness_PolledCycleRuns :
    (∃ (s : State) (p : Port) (d : List Byte), s.Overlock ∧ s.dev ≠ .off ∧ s.polled p = true ∧ s.pcState p = 1 ∧ s.pcValid p d = true ∧ byteAt d 0 = 0x51 ∧ s.on .MDP_PC_CFG_TIME_FEED p = false) ∧
    (∃ (s : State) (p : Port) (d : List Byte) (b : Beacon), s.Overlock ∧ s.dev ≠ .off ∧ s.polled p = true ∧ s.pcState p = 2 ∧ s.pcValid p d = true ∧ byteAt d 0 = 0x51 ∧ s.on .MDP_PC_CFG_TIME_FEED p = false ∧ (s.pt p).mdp.beacon = some b ∧ s.pcSecond p b d (s.rxTime p 8 60) = true) ∧
    (∃ (s : State) (p : Port) (b : Beacon), s.Overlock ∧ s.dev ≠ .off ∧ s.pcState p = 3 ∧ (s.pt p).mdp.beacon = some b ∧ b.atL + (s.fld .MDP_PC_TABLE_STATUS_MISSED p + 1) * b.cycleNs * nsT + 2 * s.accWin p < s.lNow ∧ s.fld .MDP_PC_TABLE_STATUS_MISSED p + 1 < max 1 (s.fld .MDP_PC_CFG_MISS_LIMIT p)) ∧
    (∃ (s : State) (p : Port) (b : Beacon), s.Overlock ∧ s.dev ≠ .off ∧ s.pcState p = 3 ∧ (s.pt p).mdp.beacon = some b ∧ b.atL + (s.fld .MDP_PC_TABLE_STATUS_MISSED p + 1) * b.cycleNs * nsT + 2 * s.accWin p < s.lNow ∧ max 1 (s.fld .MDP_PC_CFG_MISS_LIMIT p) ≤ s.fld .MDP_PC_TABLE_STATUS_MISSED p + 1 ∧ s.schedUp p = false) ∧
    (∃ (s : State) (p : Port) (i : Nat) (e : Nat) (c : Cyc), s.Overlock ∧ s.dev ≠ .off ∧ (s.pt p).mdp.handEnd = none ∧ s.slotRun p (s.nowR p) = some (i, e, c) ∧ (s.pt p).mdp.slotStart ≠ some (slotTimes c.start e).1.toNat ∧ ((s.pcState p = 5 ∧ slotKind e = 1 ∧ (s.pt p).mdp.masterFrom ≤ (slotTimes c.start e).1.toNat) ∨ (s.pcState p = 3 ∧ slotKind e = 2 ∧ s.slotOwned p e = true ∧ s.pcTimedOk p = true))) ∧
    (∃ (s : State) (p : Port) (d : List Byte) (c : Cyc) (e : Nat) (i : Nat), s.Overlock ∧ s.dev ≠ .off ∧ s.polled p = true ∧ s.pcState p = 3 ∧ s.pcValid p d = true ∧ byteAt d 0 = 0x52 ∧ pcNode d = s.fld .MDP_PC_CFG_NODE_ID p ∧ pcNode d ≠ 0 ∧ pcNode d ≠ 255 ∧ (s.sched p).cycleAt (s.nowR p) = some c ∧ ((s.slotTable p false).zipIdx.find? fun e => e.2 == pcSlot d && slotKind e.1 == 3 && s.slotOwned p e.1) = some (e, i)) ∧
    (∃ (s : State) (p : Port) (i : Nat) (z : Nat), s.Overlock ∧ s.dev ≠ .off ∧ s.pcState p = 5 ∧ (s.pt p).mdp.slotOpen = some (i, z) ∧ z + s.slotTail p < s.nowG p ∧ slotKind (s.fld .MDP_PC_SLOT_OPER_ENTRY p i) ≠ 1 ∧ ((s.pt p).mdp.slots.get {} i).accepted = true) ∧
    (∃ (s : State) (p : Port) (i : Nat) (z : Nat), s.Overlock ∧ s.dev ≠ .off ∧ s.pcState p = 5 ∧ (s.pt p).mdp.slotOpen = some (i, z) ∧ z + s.slotTail p < s.nowG p ∧ slotKind (s.fld .MDP_PC_SLOT_OPER_ENTRY p i) ≠ 1 ∧ ((s.pt p).mdp.slots.get {} i).accepted = false ∧ ((s.pt p).mdp.slots.get {} i).missed = true ∧ max 1 (s.fld .MDP_PC_TIMING_DRIFT_LIMIT p) ≤ (s.pt p).mdp.misses.get 0 (slotOwner (s.fld .MDP_PC_SLOT_OPER_ENTRY p i)) + 1) ∧
    (∃ (s : State) (p : Port), s.Overlock ∧ s.dev ≠ .off ∧ s.dev = .lead ∧ s.pcState p = 5 ∧ (s.pt p).mdp.handEnd = none) ∧
    (∃ (s : State) (p : Port), s.Overlock ∧ s.dev ≠ .off ∧ s.pcState p = 6) ∧
    (∃ (s : State) (p : Port) (m : Bool) (at' : Nat), s.Overlock ∧ s.dev ≠ .off ∧ s.pcState p = 6 ∧ (s.pt p).mdp.record = some (m, at') ∧ at' + 2 * s.operCycle p < s.lNow) :=
  ⟨⟨md 1, 127, pcFrame 0x51, by decide⟩,
   ⟨(md 2).updMdp 127 fun x => { x with beacon := some (⟨0, 2 ^ 32 - 1, 0, 0, 0, true⟩ : Beacon) }, 127, pcFrame 0x51, (⟨0, 2 ^ 32 - 1, 0, 0, 0, true⟩ : Beacon), by decide⟩,
   ⟨(((md 3).w .MDP_PC_CFG_MISS_LIMIT 127 2).updMdp 127 fun x => { x with beacon := some (⟨0, 2 ^ 32 - 1, 0, 0, 0, true⟩ : Beacon) }).at' 1000000, 127, (⟨0, 2 ^ 32 - 1, 0, 0, 0, true⟩ : Beacon), by decide⟩,
   ⟨(((md 3).w .MDP_PC_CFG_MISS_LIMIT 127 1).updMdp 127 fun x => { x with beacon := some (⟨0, 2 ^ 32 - 1, 0, 0, 0, true⟩ : Beacon) }).at' 1000000, 127, (⟨0, 2 ^ 32 - 1, 0, 0, 0, true⟩ : Beacon), by decide⟩,
   ⟨((md 5).w .MDP_PC_TABLE_STATUS_OPER_LEN 127 1).w .MDP_PC_SLOT_OPER_ENTRY 127 (2 ^ 62 + 500 * 256), 127, 0, 2 ^ 62 + 500 * 256, ⟨0, (1000000 * nsT : Nat), []⟩, by decide⟩,
   ⟨(((md 3).w .MDP_PC_TABLE_STATUS_OPER_LEN 127 1).w .MDP_PC_CFG_NODE_ID 127 254).w .MDP_PC_SLOT_OPER_ENTRY 127 (3 * 2 ^ 62 + 254 * 2 ^ 54 + 500 * 256), 127, pcFrame 0x52 25 254, ⟨0, (1000000 * nsT : Nat), []⟩, 3 * 2 ^ 62 + 254 * 2 ^ 54 + 500 * 256, 0, by decide⟩,
   ⟨((md 5).updMdp 127 fun x => { x with slotOpen := some (63, 0), slots := [(63, { accepted := true })] }).at' 1000000, 127, 63, 0, by decide⟩,
   ⟨((md 5).updMdp 127 fun x => { x with slotOpen := some (63, 0), slots := [(63, { missed := true })], misses := [(0, 14)] }).at' 1000000, 127, 63, 0, by decide⟩,
   ⟨{ md 5 with dev := .lead }, 127, by decide⟩,
   ⟨md 6, 127, by decide⟩,
   ⟨((md 6).updMdp 127 fun x => { x with record := some (true, 0) }).at' 2000001, 127, true, 0, by decide⟩⟩

theorem witness_StreamTableOperations :
    (∃ (s : State) (r : Req), s.Overlock ∧ s.Grants r true .STRM_TBL_CMD 0 0 ∧ s.on .STRM_TBL_STATUS_BUSY = true) ∧
    (∃ (s : State) (r : Req) (i : BitVec 24), s.Overlock ∧ s.Grants r true .STRM_TBL_CMD 0 0 ∧ s.on .STRM_TBL_STATUS_BUSY = false ∧ i.toNat < 65536) ∧
    (∃ (s : State) (r : Req) (i : BitVec 24) (e : Bool), s.Overlock ∧ s.Grants r true .STRM_TBL_CMD 0 0 ∧ s.on .STRM_TBL_STATUS_BUSY = false ∧ s.dramless = false ∧ e = false ∧ s.thim.dramFailed = false ∧ s.entBeyond i.toNat = false) ∧
    (∃ (s : State) (r : Req) (i : BitVec 24), s.Overlock ∧ s.Grants r true .STRM_TBL_CMD 0 0 ∧ s.on .STRM_TBL_STATUS_BUSY = false ∧ i.toNat < 65536) ∧
    (∃ (s : State) (r : Req) (i : BitVec 24), s.Overlock ∧ s.Grants r true .STRM_TBL_CMD 0 0 ∧ s.on .STRM_TBL_STATUS_BUSY = false ∧ i.toNat < 262144 ∧ bits s.tblData 255 234 ≤ 3125000 ∧ bits s.tblData 233 212 ≤ 3125000) ∧
    (∃ (s : State) (r : Req) (i : BitVec 24), s.Overlock ∧ s.Grants r true .STRM_TBL_CMD 0 0 ∧ s.on .STRM_TBL_STATUS_BUSY = false ∧ s.dramless = false ∧ s.thim.dramFailed = false ∧ s.entBeyond i.toNat = false ∧ s.keyBeyond (entId s.tblData) = false ∧ entMethod s.tblData < 5 ∧ entValid (s.dramEnt i.toNat) = false ∧ s.tagSlot (entId s.tblData) = none ∧ s.pinFull i.toNat s.tblData = false ∧ (∃ n : Fin 8, bit (s.slotWord (s.bucket1 (entId s.tblData)) n) 63 = false) ∧ (∃ n : Fin 8, bit (s.slotWord (s.bucket2 (entId s.tblData)) n) 63 = false)) ∧
    (∃ (s : State) (r : Req) (i : BitVec 24), s.Overlock ∧ s.Grants r true .STRM_TBL_CMD 0 0 ∧ s.on .STRM_TBL_STATUS_BUSY = false ∧ s.dramless = false ∧ s.thim.dramFailed = false ∧ s.entBeyond i.toNat = false ∧ s.keyBeyond (entId s.tblData) = false ∧ entMethod s.tblData < 5 ∧ entValid (s.dramEnt i.toNat) = true) ∧
    (∃ (s : State) (r : Req) (k : Nat) (old : Nat), s.Overlock ∧ s.Grants r true .STRM_TBL_CMD 0 0 ∧ s.on .STRM_TBL_STATUS_BUSY = false ∧ s.dramless = false ∧ s.thim.dramFailed = false ∧ s.keyBeyond (entId s.tblData) = false ∧ entMethod s.tblData < 5 ∧ s.findKey (entId s.tblData) = some (k, old) ∧ s.pinFull k (updated old s.tblData) = false) ∧
    (∃ (s : State) (r : Req) (k : Nat) (old : Nat), s.Overlock ∧ s.Grants r true .STRM_TBL_CMD 0 0 ∧ s.on .STRM_TBL_STATUS_BUSY = false ∧ s.dramless = false ∧ s.thim.dramFailed = false ∧ s.keyBeyond (entId s.tblData) = false ∧ entMethod s.tblData < 5 ∧ s.findKey (entId s.tblData) = some (k, old) ∧ s.pinFull k (pinned old s.tblData) = false) ∧
    (∃ (s : State) (r : Req) (k : Nat) (old : Nat), s.Overlock ∧ s.Grants r true .STRM_TBL_CMD 0 0 ∧ s.on .STRM_TBL_STATUS_BUSY = false ∧ s.dramless = false ∧ s.thim.dramFailed = false ∧ s.keyBeyond (entId s.tblData) = false ∧ entMethod s.tblData < 5 ∧ s.findKey (entId s.tblData) = some (k, old) ∧ s.pinFull k (unpinned old) = false) ∧
    (∃ (s : State) (r : Req) (k : Nat) (old : Nat), s.Overlock ∧ s.Grants r true .STRM_TBL_CMD 0 0 ∧ s.on .STRM_TBL_STATUS_BUSY = false ∧ s.dramless = false ∧ s.thim.dramFailed = false ∧ s.keyBeyond (entId s.tblData) = false ∧ entMethod s.tblData < 5 ∧ s.findKey (entId s.tblData) = some (k, old)) ∧
    (∃ (s : State) (r : Req) (k : Nat) (old : Nat), s.Overlock ∧ s.Grants r true .STRM_TBL_CMD 0 0 ∧ s.on .STRM_TBL_STATUS_BUSY = false ∧ s.dramless = false ∧ s.thim.dramFailed = false ∧ s.keyBeyond (entId s.tblData) = false ∧ entMethod s.tblData < 5 ∧ s.findKey (entId s.tblData) = some (k, old)) ∧
    (∃ (s : State) (r : Req), s.Overlock ∧ s.Grants r true .STRM_TBL_CMD 0 0 ∧ s.on .STRM_TBL_STATUS_BUSY = false ∧ s.dramless = false ∧ s.thim.dramFailed = false ∧ s.keyBeyond (entId s.tblData) = false ∧ entMethod s.tblData < 5 ∧ s.findKey (entId s.tblData) = none) ∧
    (∃ (s : State) (r : Req) (tb : Fin 8), s.Overlock ∧ s.Grants r true .STRM_TBL_CMD 0 0 ∧ s.on .STRM_TBL_STATUS_BUSY = false ∧ tb ≠ 0) ∧
    (∃ (s : State), s.Overlock ∧ s.dev ≠ .off ∧ s.on .STRM_TBL_STATUS_BUSY = true) :=
  ⟨⟨z0.w .STRM_TBL_STATUS_BUSY 0 1, .pf 0, by decide⟩,
   ⟨z0, .pf 0, 65535, by decide⟩,
   ⟨strmSt 0, .pf 0, 0xFFFFFF, false, by decide⟩,
   ⟨z0, .pf 0, 65535, by decide⟩,
   ⟨z0, .pf 0, 262143, by decide⟩,
   ⟨strmSt entry1, .pf 0, 0xFFFFFF, by decide⟩,
   ⟨strmIns, .pf 0, 7, by decide⟩,
   ⟨strmIns, .pf 0, 7, entry1, by decide⟩,
   ⟨strmIns, .pf 0, 7, entry1, by decide⟩,
   ⟨strmIns, .pf 0, 7, entry1, by decide⟩,
   ⟨strmIns, .pf 0, 7, entry1, by decide⟩,
   ⟨strmIns, .pf 0, 7, entry1, by decide⟩,
   ⟨strmSt entry1, .pf 0, by decide⟩,
   ⟨z0, .pf 0, 7, by decide⟩,
   ⟨z0.w .STRM_TBL_STATUS_BUSY 0 1, by decide⟩⟩

theorem witness_CacheGatesAndMeters_2 :
    (∃ (s : State) (l : Fin 4096) (r : Req), s.Overlock ∧ s.Grants r true .STRM_TBL_CMD 0 0 ∧ s.on .STRM_TBL_STATUS_BUSY = false ∧ (s.igl l).tsw = none ∧ (s.igl l).stopAt = none ∧ bits s.tblData 127 96 ≤ 999999999 ∧ bit s.tblData 47 = false ∧ ((s.igl l).running = false ∨ bits s.tblData 61 59 = (s.igl l).dom) ∧ s.iglBad (iglOf (s.igl l) s.tblData) = false) ∧
    (∃ (s : State) (l : Fin 4096) (r : Req), s.Overlock ∧ s.Grants r true .STRM_TBL_CMD 0 0 ∧ s.on .STRM_TBL_STATUS_BUSY = false ∧ (s.igl l).tsw.isSome = true ∧ bits s.tblData 127 96 ≤ 999999999) ∧
    (∃ (s : State) (l : Fin 4096) (r : Req) (c : Cyc), s.Overlock ∧ s.Grants r true .STRM_TBL_CMD 0 0 ∧ s.on .STRM_TBL_STATUS_BUSY = false ∧ (s.igl l).tsw = none ∧ (s.igl l).stopAt = none ∧ (s.igl l).running = true ∧ bits s.tblData 127 96 ≤ 999999999 ∧ bit s.tblData 63 = false ∧ bits s.tblData 61 59 = (s.igl l).dom ∧ (iglOf (s.igl l) s.tblData).sched.cycleAt (s.voted (s.igl l).dom) = some c) ∧
    (∃ (s : State) (l : Fin 4096) (n : Nat), s.Overlock ∧ s.dev ≠ .off ∧ (s.igl l).tsw = some n ∧ n ≤ s.voted (s.igl l).dom ∧ (s.igl l).stopAt = none) ∧
    (∃ (s : State) (l : Fin 4096) (c : Cyc) (x : Span), s.Overlock ∧ s.dev ≠ .off ∧ (s.igl l).tsw = none ∧ (s.igl l).stopAt = none ∧ (s.igl l).spanAt (s.voted (s.igl l).dom) = some (c, x)) ∧
    (∃ (s : State), s.Overlock ∧ s.dev ≠ .off) ∧
    (∃ (s : State) (l : Fin 4096) (r : Req) (u : Nat) (y : IglSt), s.Overlock ∧ s.Grants r true .STRM_TBL_CMD 0 0 ∧ s.on .STRM_TBL_STATUS_BUSY = false ∧ (s.igl l).tsw = none ∧ (s.igl l).stopAt = some u ∧ s.voted (bits s.tblData 61 59) < u ∧ bits s.tblData 127 96 ≤ 999999999 ∧ bit s.tblData 47 = false ∧ ((s.igl l).running = false ∨ bits s.tblData 61 59 = (s.igl l).dom) ∧ s.iglBad (iglOf (s.igl l) s.tblData) = false ∧ y = { iglOf (s.igl l) s.tblData with tsw := some (switchTime (s.voted (bits s.tblData 61 59)) (timeOf (bits s.tblData 175 128) (bits s.tblData 127 96) 0) (bits s.tblData 95 64 * nsT)) }) :=
  ⟨⟨((z0.setTblData (100 * 2 ^ 64 + 2 ^ 48)).w .TPL_DOM_STATUS_STATE 0 3).setIgl 4095 { ents := [(256, 2 ^ 63 + 50)] }, 4095, .pf 0, by decide⟩,
   ⟨z0.setIgl 4095 { tsw := some 0 }, 4095, .pf 0, by decide⟩,
   ⟨(z0.setTblData (100 * 2 ^ 64)).setIgl 4095 { running := true, operCycle := 100 * nsT, operLen := 1, ents := [(0, 2 ^ 63 + 50)] }, 4095, .pf 0, ⟨0, (100 * nsT : Nat), [⟨0, 2 ^ 63 + 50, 0, (100 * nsT : Nat)⟩]⟩, by decide⟩,
   ⟨z0.setIgl 4095 { tsw := some 0 }, 4095, 0, by decide⟩,
   ⟨z0.setIgl 4095 { running := true, operCycle := 100 * nsT, operLen := 1, ents := [(0, 2 ^ 63 + 50)] }, 4095, ⟨0, (100 * nsT : Nat), [⟨0, 2 ^ 63 + 50, 0, (100 * nsT : Nat)⟩]⟩, ⟨0, 2 ^ 63 + 50, 0, (100 * nsT : Nat)⟩, by decide⟩,
   ⟨z0, by decide⟩,
   ⟨(((z0.setTblData (100 * 2 ^ 64 + 2 ^ 48)).w .TPL_DOM_STATUS_STATE 0 3).setIgl 4095 { running := true, stopAt := some 1000, ents := [(256, 2 ^ 63 + 50)] }), 4095, .pf 0, 1000, { iglOf ((((z0.setTblData (100 * 2 ^ 64 + 2 ^ 48)).w .TPL_DOM_STATUS_STATE 0 3).setIgl 4095 { running := true, stopAt := some 1000, ents := [(256, 2 ^ 63 + 50)] }).igl 4095) (((z0.setTblData (100 * 2 ^ 64 + 2 ^ 48)).w .TPL_DOM_STATUS_STATE 0 3).setIgl 4095 { running := true, stopAt := some 1000, ents := [(256, 2 ^ 63 + 50)] }).tblData with tsw := some (switchTime ((((z0.setTblData (100 * 2 ^ 64 + 2 ^ 48)).w .TPL_DOM_STATUS_STATE 0 3).setIgl 4095 { running := true, stopAt := some 1000, ents := [(256, 2 ^ 63 + 50)] }).voted (bits (((z0.setTblData (100 * 2 ^ 64 + 2 ^ 48)).w .TPL_DOM_STATUS_STATE 0 3).setIgl 4095 { running := true, stopAt := some 1000, ents := [(256, 2 ^ 63 + 50)] }).tblData 61 59)) (timeOf (bits (((z0.setTblData (100 * 2 ^ 64 + 2 ^ 48)).w .TPL_DOM_STATUS_STATE 0 3).setIgl 4095 { running := true, stopAt := some 1000, ents := [(256, 2 ^ 63 + 50)] }).tblData 175 128) (bits (((z0.setTblData (100 * 2 ^ 64 + 2 ^ 48)).w .TPL_DOM_STATUS_STATE 0 3).setIgl 4095 { running := true, stopAt := some 1000, ents := [(256, 2 ^ 63 + 50)] }).tblData 127 96) 0) (bits (((z0.setTblData (100 * 2 ^ 64 + 2 ^ 48)).w .TPL_DOM_STATUS_STATE 0 3).setIgl 4095 { running := true, stopAt := some 1000, ents := [(256, 2 ^ 63 + 50)] }).tblData 95 64 * nsT)) }, by decide⟩⟩

theorem witness_CacheGatesAndMeters_1 :
    (∃ (s : State) (r : Req), s.Overlock ∧ s.Grants r true .STRM_HASH_SEED 0 0 ∧ s.on .STRM_CTRL_RUN = false ∧ s.tableEmpty = true) ∧
    (∃ (s : State) (r : Req), s.Overlock ∧ s.Grants r true .STRM_HASH_SEED 0 0 ∧ (s.on .STRM_CTRL_RUN = true ∨ s.tableEmpty = false)) ∧
    (∃ (s : State), s.Overlock ∧ s.dev ≠ .off) ∧
    (∃ (s : State), s.Overlock ∧ s.dev ≠ .off ∧ s.dramless = false) ∧
    (∃ (s : State), s.Overlock ∧ s.dev ≠ .off) :=
  ⟨⟨z0, .pf 0, by decide⟩,
   ⟨z0.w .STRM_CTRL_RUN 0 1, .pf 0, by decide⟩,
   ⟨z0, by decide⟩,
   ⟨z0, by decide⟩,
   ⟨z0, by decide⟩⟩

theorem witness_Reception :
    (∃ (s : State) (p : Port), s.Overlock ∧ s.alive = true ∧ multidrop p = false ∧ s.linkState p ≠ 6) ∧
    (∃ (s : State) (p : Port) (d : List Byte), s.Overlock ∧ s.alive = true ∧ multidrop p = false ∧ s.linkState p = 6 ∧ 60 ≤ d.length ∧ d.length + 4 ≤ max 64 (min 9216 (s.fld .MAC_CFG_MAX_LEN p))) ∧
    (∃ (s : State) (p : Port) (d : List Byte) (a : Acct) (q : Nat), s.Overlock ∧ s.alive = true ∧ multidrop p = false ∧ s.linkState p = 6 ∧ 60 ≤ d.length ∧ d.length + 4 ≤ max 64 (min 9216 (s.fld .MAC_CFG_MAX_LEN p)) ∧ (parse d).etype ≠ 0x8808 ∧ s.toService p d false = false ∧ s.on .STRM_CTRL_RUN = true ∧ s.on .STRM_PORT_ID_CFG_A_EN p = false ∧ s.on .STRM_PORT_ID_CFG_B_EN p = false ∧ s.on .STRM_PORT_DEFAULT_METER_EN p = false ∧ s.hsrOwn p d = false ∧ bits (s.fld .STRM_PORT_DEFAULT_DEST p) 15 14 = 0 ∧ q = bits (s.fld .STRM_PORT_DEFAULT_DEST p) 10 4 * 128 + s.defaultTc p d * 16 + bits (s.fld .STRM_PORT_DEFAULT_DEST p) 3 0 ∧ s.admitTest q (cellsOf (d.length + 4)) (s.fld .STRM_PORT_DEFAULT_DP p) false = (.admitted, a)) ∧
    (∃ (s : State) (p : Port) (d : List Byte) (c : Fin 8), s.Overlock ∧ s.alive = true ∧ multidrop p = false ∧ s.linkState p = 6 ∧ 60 ≤ d.length ∧ d.length + 4 ≤ max 64 (min 9216 (s.fld .MAC_CFG_MAX_LEN p)) ∧ (parse d).etype = 0x8808 ∧ beNat (slice d 0 6) = 0x0180C2000001 ∧ be16 d (typeOff d + 2) = 1 ∧ s.pauseRxOk p = true ∧ 0 < be16 d (typeOff d + 4) ∧ s.isSched p c = false ∧ s.isPc p d = false) ∧
    (∃ (s : State) (p : Port) (d : List Byte), s.Overlock ∧ s.alive = true ∧ multidrop p = false ∧ s.linkState p = 6 ∧ 60 ≤ d.length ∧ d.length + 4 ≤ max 64 (min 9216 (s.fld .MAC_CFG_MAX_LEN p)) ∧ (parse d).etype ≠ 0x8808 ∧ s.toService p d false = true ∧ s.fld .STRM_PORT_ID_CFG_CTRL_LIMIT p ≤ (if (s.pt p).ctrlWin = s.ctrlWindow then (s.pt p).ctrlCount else 0)) ∧
    (∃ (s : State) (p : Port) (d : List Byte), s.Overlock ∧ s.alive = true ∧ multidrop p = false ∧ s.linkState p = 6 ∧ 60 ≤ d.length ∧ d.length + 4 ≤ max 64 (min 9216 (s.fld .MAC_CFG_MAX_LEN p)) ∧ (parse d).etype ≠ 0x8808 ∧ s.toService p d false = false ∧ s.on .STRM_CTRL_RUN = false) :=
  ⟨⟨z0, 125, by decide⟩,
   ⟨rxUp 125, 125, zs 60, by decide⟩,
   ⟨(rxUp 125).w .STRM_PORT_DEFAULT_DEST 125 0, 125, zs 60, .shared, 0, by decide⟩,
   ⟨(rxUp 125).w .MAC_CFG_FC_RX 125 1, 125, beBytes 6 0x0180C2000001 ++ zs 6 ++ beBytes 6 0x880800010064 ++ zs 42, 7, by decide⟩,
   ⟨({ rxUp 125 with strm := { svcAddr := [0] } }.w .STRM_PORT_ID_CFG_CTRL_LIMIT 125 0), 125, zs 60, by decide⟩,
   ⟨(rxUp 125).w .STRM_CTRL_RUN 0 0, 125, zs 60, by decide⟩⟩

theorem witness_IdentifiedAndMissedFrames :
    (∃ (s : State) (p : Port) (d : List Byte) (k : Nat × Nat) (i : Nat) (e : Nat) (a : Acct) (q : Nat), s.Overlock ∧ s.alive = true ∧ multidrop p = false ∧ s.on .STRM_CTRL_RUN = true ∧ s.linkState p = 6 ∧ 60 ≤ d.length ∧ d.length + 4 ≤ max 64 (min 9216 (s.fld .MAC_CFG_MAX_LEN p)) ∧ (parse d).etype ≠ 0x8808 ∧ s.toService p d false = false ∧ s.keysOf p d = ([k], false) ∧ (s.lookup1 (boltOf p) k).1 = .found i e ∧ s.filling (boltOf p) e = false ∧ s.hsrOwn p d = false ∧ bit e 501 = false ∧ bit e 502 = false ∧ bit e 503 = false ∧ bit e 504 = false ∧ bit e 506 = false ∧ bits e 429 428 = 0 ∧ s.mend.waiting = [] ∧ q = bits e 424 418 * 128 + bits e 413 411 * 16 + bits e 417 414 ∧ s.admitTest q (cellsOf (d.length + 4)) (bits e 379 378) false = (.admitted, a)) ∧
    (∃ (s : State) (p : Port) (d : List Byte) (k : Nat × Nat) (i : Nat) (e : Nat), s.Overlock ∧ s.alive = true ∧ multidrop p = false ∧ s.on .STRM_CTRL_RUN = true ∧ s.linkState p = 6 ∧ 60 ≤ d.length ∧ d.length + 4 ≤ max 64 (min 9216 (s.fld .MAC_CFG_MAX_LEN p)) ∧ (parse d).etype ≠ 0x8808 ∧ s.toService p d false = false ∧ s.keysOf p d = ([k], false) ∧ (s.lookup1 (boltOf p) k).1 = .found i e ∧ s.filling (boltOf p) e = false ∧ bit e 501 = true ∧ bits (s.strm.gate.get 0 (bits e 481 466)) 51 36 = 0 ∧ bit (s.strm.gate.get 0 (bits e 481 466)) 34 = false ∧ bit (s.strm.gate.get 0 (bits e 481 466)) 32 = true) ∧
    (∃ (s : State) (p : Port) (m : Missed) (i : Nat) (e : Nat) (a : Acct) (q : Nat), s.Overlock ∧ s.alive = true ∧ multidrop p = false ∧ s.on .STRM_CTRL_RUN = true ∧ s.strm.wait = [m] ∧ m.got = [] ∧ m.a.p = p.val ∧ s.thim.dramFailed = false ∧ (∀ k ∈ m.keys, s.keyBeyond k = false) ∧ (m.keys.findSome? fun k => s.missFind k) = some (i, e) ∧ s.hsrOwn p m.a.data = false ∧ bit e 501 = false ∧ bit e 502 = false ∧ bit e 503 = false ∧ bit e 504 = false ∧ bit e 506 = false ∧ bits e 429 428 = 0 ∧ s.mend.waiting = [] ∧ q = bits e 424 418 * 128 + bits e 413 411 * 16 + bits e 417 414 ∧ s.admitTest q (cellsOf (m.a.data.length + 4)) (bits e 379 378) false = (.admitted, a)) ∧
    (∃ (s : State) (p : Port) (m : Missed) (j : Fin 2) (k : Nat × Nat), s.Overlock ∧ s.alive = true ∧ multidrop p = false ∧ s.on .STRM_CTRL_RUN = true ∧ s.strm.wait = [m] ∧ m.got = [] ∧ m.keys[j.val]? = some k) ∧
    (∃ (s : State) (p : Port) (d : List Byte) (k : Nat × Nat) (i : Nat) (e : Nat), s.Overlock ∧ s.alive = true ∧ multidrop p = false ∧ s.on .STRM_CTRL_RUN = true ∧ s.linkState p = 6 ∧ 60 ≤ d.length ∧ d.length + 4 ≤ max 64 (min 9216 (s.fld .MAC_CFG_MAX_LEN p)) ∧ (parse d).etype ≠ 0x8808 ∧ s.toService p d false = false ∧ s.keysOf p d = ([k], false) ∧ (s.lookup1 (boltOf p) k).1 = .found i e ∧ s.filling (boltOf p) e = true ∧ s.missCells + cellsOf (d.length + 4) + s.fld .STRM_MISS_CFG_RSV_CELLS ≤ 16384) :=
  ⟨⟨((rxUp 125).w .STRM_PORT_ID_CFG_A_EN 125 1).setWays 7 (((rxUp 125).w .STRM_PORT_ID_CFG_A_EN 125 1).setOf (0, 0)) [⟨.entry, 9, (2 ^ 256 * 2 ^ 255), 0⟩], 125, zs 60, (0, 0), 9, (2 ^ 256 * 2 ^ 255), .shared, 0, by decide⟩,
   ⟨{ ((rxUp 125).w .STRM_PORT_ID_CFG_A_EN 125 1) with strm := { gate := [(0, 2 ^ 32)], slice := [(4096 * 7 + ((rxUp 125).w .STRM_PORT_ID_CFG_A_EN 125 1).setOf (0, 0), [⟨.entry, 9, (2 ^ 256 * 2 ^ 255) + (2 ^ 256 * 2 ^ 245), 0⟩])] } }, 125, zs 60, (0, 0), 9, (2 ^ 256 * 2 ^ 255) + (2 ^ 256 * 2 ^ 245), by decide⟩,
   ⟨{ (((rxUp 125).w .STRM_PORT_ID_CFG_A_EN 125 1).w .STRM_CTRL_DRAMLESS 0 1) with dma := { dramSize := 2 ^ 36 }, strm := { wait := [({ a := { p := 125, data := zs 60, tL := 0 }, keys := [(0, 0)] } : Missed)], slice := [(4096 * 7 + ((rxUp 125).w .STRM_PORT_ID_CFG_A_EN 125 1).setOf (0, 0), [⟨.entry, 9, (2 ^ 256 * 2 ^ 255), 0⟩])] } }, 125, ({ a := { p := 125, data := zs 60, tL := 0 }, keys := [(0, 0)] } : Missed), 9, (2 ^ 256 * 2 ^ 255), .shared, 0, by decide⟩,
   ⟨{ ((rxUp 125).w .STRM_PORT_ID_CFG_A_EN 125 1) with strm := { wait := [({ a := { p := 125, data := zs 60, tL := 0 }, keys := [(0, 0)] } : Missed)] } }, 125, ({ a := { p := 125, data := zs 60, tL := 0 }, keys := [(0, 0)] } : Missed), 0, (0, 0), by decide⟩,
   ⟨{ ((rxUp 125).w .STRM_PORT_ID_CFG_A_EN 125 1).setWays 7 (((rxUp 125).w .STRM_PORT_ID_CFG_A_EN 125 1).setOf (0, 0)) [⟨.entry, 9, (2 ^ 256 * 2 ^ 255), 0⟩] with strm := { (((rxUp 125).w .STRM_PORT_ID_CFG_A_EN 125 1).setWays 7 (((rxUp 125).w .STRM_PORT_ID_CFG_A_EN 125 1).setOf (0, 0)) [⟨.entry, 9, (2 ^ 256 * 2 ^ 255), 0⟩]).strm with wait := [({ a := { p := 125, data := zs 60, tL := 0 }, keys := [(0, 0)] } : Missed)] } }, 125, zs 60, (0, 0), 9, (2 ^ 256 * 2 ^ 255), by decide⟩⟩

theorem witness_SeamAssembly :
    (∃ (s : State) (p : Port) (bytes : List Byte), s.Overlock ∧ s.alive = true ∧ multidrop p = false ∧ s.linkState p = 6 ∧ s.on .SELV_PREEMPT_CFG_EN p = true ∧ (s.pt p).seam = none ∧ 60 ≤ bytes.length ∧ bytes.length ≤ 9212) ∧
    (∃ (s : State) (p : Port) (bytes : List Byte) (x : SeamSt) (n : Fin 4), s.Overlock ∧ s.alive = true ∧ multidrop p = false ∧ s.linkState p = 6 ∧ s.on .SELV_PREEMPT_CFG_EN p = true ∧ (s.pt p).seam = some x ∧ n.val = (x.count + 1) % 4 ∧ 60 ≤ bytes.length ∧ x.bytes.length + bytes.length ≤ 9212) ∧
    (∃ (s : State) (p : Port) (x : SeamSt) (n : Fin 4), s.Overlock ∧ s.alive = true ∧ multidrop p = false ∧ s.linkState p = 6 ∧ s.on .SELV_PREEMPT_CFG_EN p = true ∧ (s.pt p).seam = some x ∧ n.val ≠ (x.count + 1) % 4) ∧
    (∃ (s : State) (p : Port), s.Overlock ∧ s.alive = true ∧ multidrop p = false ∧ s.linkState p = 6 ∧ s.on .SELV_PREEMPT_CFG_EN p = false) ∧
    (∃ (s : State) (p : Port) (x : SeamSt), s.Overlock ∧ s.alive = true ∧ multidrop p = false ∧ (s.pt p).seam = some x ∧ x.lastL + 1000000 * nsT ≤ s.lNow) :=
  ⟨⟨((rxUp 125).w .SELV_PREEMPT_CFG_EN 125 1), 125, zs 9212, by decide +kernel⟩,
   ⟨((rxUp 125).w .SELV_PREEMPT_CFG_EN 125 1).updPt 125 fun x => { x with seam := some (⟨zs 60, 3, 0, 0, []⟩ : SeamSt) }, 125, zs 60, (⟨zs 60, 3, 0, 0, []⟩ : SeamSt), 0, by decide⟩,
   ⟨((rxUp 125).w .SELV_PREEMPT_CFG_EN 125 1).updPt 125 fun x => { x with seam := some (⟨zs 60, 3, 0, 0, []⟩ : SeamSt) }, 125, (⟨zs 60, 3, 0, 0, []⟩ : SeamSt), 1, by decide⟩,
   ⟨rxUp 125, 125, by decide⟩,
   ⟨(z0.updPt 125 fun x => { x with seam := some (⟨zs 60, 3, 0, 0, []⟩ : SeamSt) }).at' 1000000, 125, (⟨zs 60, 3, 0, 0, []⟩ : SeamSt), by decide⟩⟩

theorem witness_NoNumberPassesTwice :
    ∃ (x : Rcv) (n : Nat) (lost : Nat) (ooo : Bool) (y : Rcv), n < 2 ^ 16 ∧ x.recov < 2 ^ 16 ∧ x.judge n = (.pass lost ooo, y) :=
  ⟨({ cfg := 2 ^ 75 + 2 ^ 72 + 2 * 2 ^ 48 + 5 * 2 ^ 32 + 2 ^ 16 + 2 ^ 15, takeAny := true } : Rcv), 65535, 0, false, (Rcv.judge ({ cfg := 2 ^ 75 + 2 ^ 72 + 2 * 2 ^ 48 + 5 * 2 ^ 32 + 2 ^ 16 + 2 ^ 15, takeAny := true } : Rcv) 65535).2, by decide⟩

theorem witness_MenderTableOperations :
    (∃ (s : State) (r : Req), s.Overlock ∧ s.Grants r true .MEND_TBL_CMD 0 0 ∧ s.on .MEND_TBL_STATUS_BUSY = true) ∧
    (∃ (s : State) (r : Req), s.Overlock ∧ s.Grants r true .MEND_TBL_CMD 0 0 ∧ s.on .MEND_TBL_STATUS_BUSY = false) ∧
    (∃ (s : State) (r : Req), s.Overlock ∧ s.Grants r true .MEND_TBL_CMD 0 0 ∧ s.on .MEND_TBL_STATUS_BUSY = false ∧ rcvBad (bits s.mTblData 511 436) = false) ∧
    (∃ (s : State) (r : Req), s.Overlock ∧ s.Grants r true .MEND_TBL_CMD 0 0 ∧ s.on .MEND_TBL_STATUS_BUSY = false ∧ rcvBad (bits s.mTblData 511 436) = true) ∧
    (∃ (s : State) (r : Req), s.Overlock ∧ s.Grants r true .MEND_TBL_CMD 0 0 ∧ s.on .MEND_TBL_STATUS_BUSY = false ∧ bits s.mTblData 126 125 ≠ 3) ∧
    (∃ (s : State) (r : Req), s.Overlock ∧ s.Grants r true .MEND_TBL_CMD 0 0 ∧ s.on .MEND_TBL_STATUS_BUSY = false) ∧
    (∃ (s : State) (r : Req), s.Overlock ∧ s.Grants r true .MEND_TBL_CMD 0 0 ∧ s.on .MEND_TBL_STATUS_BUSY = false) ∧
    (∃ (s : State), s.Overlock ∧ s.dev ≠ .off ∧ s.on .MEND_TBL_STATUS_BUSY = true) ∧
    (∃ (s : State) (r : Req), s.Overlock ∧ s.Grants r false .MEND_LAT_LOG 0 0) :=
  ⟨⟨z0.w .MEND_TBL_STATUS_BUSY 0 1, .pf 0, by decide⟩,
   ⟨z0, .pf 0, by decide⟩,
   ⟨z0, .pf 0, by decide⟩,
   ⟨z0.setMTblData ((2 ^ 256 * 2 ^ 256) - 1), .pf 0, by decide⟩,
   ⟨z0, .pf 0, by decide⟩,
   ⟨z0, .pf 0, by decide⟩,
   ⟨z0, .pf 0, by decide⟩,
   ⟨z0.w .MEND_TBL_STATUS_BUSY 0 1, by decide⟩,
   ⟨z0, .pf 0, by decide⟩⟩

theorem witness_MenderTimesAndMirrors :
    (∃ (s : State) (i : BitVec 18), s.Overlock ∧ s.dev ≠ .off ∧ s.rcvDue (s.rcv i.toNat) = true) ∧
    (∃ (s : State) (i : BitVec 18), s.Overlock ∧ s.dev ≠ .off ∧ s.rcvDue (s.rcv i.toNat) = false) ∧
    (∃ (s : State), s.Overlock ∧ s.dev ≠ .off) ∧
    (∃ (s : State) (i : BitVec 18), s.Overlock ∧ s.dev ≠ .off ∧ (s.rcv i.toNat).latEn = true ∧ s.latR (s.rcv i.toNat) < (s.rcv i.toNat).latReset ∧ (s.rcv i.toNat).latPeriod ≤ s.latT (s.rcv i.toNat) ∧ (s.rcv i.toNat).latDiff < (toSigned 32 (ofSigned 32 (((s.rcv i.toNat).latBase : Int) - (s.rcv i.toNat).latNow))).natAbs ∧ s.mend.latLog.length < 16) ∧
    (∃ (s : State) (i : BitVec 18), s.Overlock ∧ s.dev ≠ .off ∧ (s.rcv i.toNat).latEn = true ∧ s.latR (s.rcv i.toNat) < (s.rcv i.toNat).latReset ∧ (s.rcv i.toNat).latPeriod ≤ s.latT (s.rcv i.toNat) ∧ (toSigned 32 (ofSigned 32 (((s.rcv i.toNat).latBase : Int) - (s.rcv i.toNat).latNow))).natAbs ≤ (s.rcv i.toNat).latDiff) ∧
    (∃ (s : State) (i : BitVec 18), s.Overlock ∧ s.dev ≠ .off ∧ (s.rcv i.toNat).latEn = true ∧ (s.rcv i.toNat).latReset ≤ s.latR (s.rcv i.toNat)) ∧
    (∃ (s : State) (seq : BitVec 24), s.Overlock ∧ s.dev ≠ .off ∧ s.mirrored = true ∧ seq.toNat ∉ s.mend.seen) ∧
    (∃ (s : State) (seq : BitVec 24), s.Overlock ∧ s.dev ≠ .off ∧ s.mirrored = true ∧ seq.toNat ∉ s.mend.seen) ∧
    (∃ (s : State) (seq : BitVec 24), s.Overlock ∧ s.dev ≠ .off ∧ seq.toNat ∈ s.mend.seen) ∧
    (∃ (s : State), s.Overlock ∧ s.dev ≠ .off ∧ s.mirrors = true) ∧
    (∃ (s : State), s.Overlock ∧ s.dev ≠ .off ∧ s.mirrored = true) ∧
    (∃ (s : State), s.Overlock ∧ s.dev ≠ .off ∧ s.mirrored = true) ∧
    (∃ (s : State), s.Overlock ∧ s.dev ≠ .off ∧ s.mend.waiting = []) ∧
    (∃ (s : State) (x : LeadWait) (a : Acct) (q : Nat), s.Overlock ∧ s.dev ≠ .off ∧ s.mend.waiting = [x] ∧ s.dev = .lead ∧ s.on .STRM_CTRL_RUN = true ∧ bit x.e 504 = false ∧ bit x.e 503 = false ∧ bits x.e 429 428 = 0 ∧ q = bits x.e 424 418 * 128 + x.tc * 16 + bits x.e 417 414 ∧ s.admitTest q x.fr.cells x.fr.dp x.fr.service = (.admitted, a)) ∧
    (∃ (s : State) (p : Port), s.Overlock ∧ s.dev ≠ .off ∧ s.dev = .shadow ∧ s.pcState p = 6) :=
  ⟨⟨(z0.setRcv 0x3FFFF { cfg := 2 ^ 75 + 2 ^ 72 + 2 ^ 52 + 2 ^ 48 + 2 ^ 16 + 2 ^ 15 }).at' 1000000000, 0x3FFFF, by decide⟩,
   ⟨z0, 0x3FFFF, by decide⟩,
   ⟨z0, by decide⟩,
   ⟨(z0.setRcv 0x3FFFF ({ cfg := 2 ^ 75 + 2 ^ 72 + 2 * 2 ^ 48 + 5 * 2 ^ 32 + 2 ^ 16 + 2 ^ 15, latPass := 100 })).at' 4000000, 0x3FFFF, by decide⟩,
   ⟨(z0.setRcv 0x3FFFF ({ cfg := 2 ^ 75 + 2 ^ 72 + 2 * 2 ^ 48 + 5 * 2 ^ 32 + 2 ^ 16 + 2 ^ 15 })).at' 4000000, 0x3FFFF, by decide⟩,
   ⟨(z0.setRcv 0x3FFFF ({ cfg := 2 ^ 75 + 2 ^ 72 + 2 * 2 ^ 48 + 5 * 2 ^ 32 + 2 ^ 16 + 2 ^ 15 })).at' 100000000000000, 0x3FFFF, by decide⟩,
   ⟨(({ z0 with dev := .shadow }).w .MEND_CTRL_MIRROR_EN 0 1).w .MEND_CTRL_RUN 0 1, 0xFFFFFF, by decide⟩,
   ⟨(({ z0 with dev := .shadow }).w .MEND_CTRL_MIRROR_EN 0 1).w .MEND_CTRL_RUN 0 1, 0xFFFFFF, by decide⟩,
   ⟨{ z0 with mend := { seen := [0xFFFFFF] } }, 0xFFFFFF, by decide⟩,
   ⟨(({ z0 with dev := .lead }).w .MEND_CTRL_MIRROR_EN 0 1).w .MEND_CTRL_RUN 0 1, by decide⟩,
   ⟨(({ z0 with dev := .shadow }).w .MEND_CTRL_MIRROR_EN 0 1).w .MEND_CTRL_RUN 0 1, by decide⟩,
   ⟨(({ z0 with dev := .shadow }).w .MEND_CTRL_MIRROR_EN 0 1).w .MEND_CTRL_RUN 0 1, by decide⟩,
   ⟨z0, by decide⟩,
   ⟨{ rxUp 125 with dev := .lead, mend := { waiting := [(⟨{ p := 125, data := zs 60, tL := 0 }, 0, 0, { data := zs 60 }, .none⟩ : LeadWait)] } }, (⟨{ p := 125, data := zs 60, tL := 0 }, 0, 0, { data := zs 60 }, .none⟩ : LeadWait), .shared, 0, by decide⟩,
   ⟨{ md 6 with dev := .shadow }, 127, by decide⟩⟩

theorem witness_HostRings :
    (∃ (s : State) (r : Req) (ring : Fin 16384) (pi : BitVec 32) (w : Bool), s.Overlock ∧ s.dev ≠ .off ∧ s.present r = true ∧ s.allowed r true 1 (ring.val * 0x40) (if w then 8 else 4) = true ∧ s.foreignPf r ring = false ∧ pi.toNat ≠ s.ringPi ring ∧ s.piOk ring pi.toNat = true) ∧
    (∃ (s : State) (r : Req) (ring : Fin 16384) (w : Bool), s.Overlock ∧ s.dev ≠ .off ∧ s.present r = true ∧ s.allowed r true 1 (ring.val * 0x40) (if w then 8 else 4) = true ∧ s.foreignPf r ring = true) ∧
    (∃ (s : State) (r : Req) (ring : Fin 16384) (pi : BitVec 32) (w : Bool), s.Overlock ∧ s.dev ≠ .off ∧ s.present r = true ∧ s.allowed r true 1 (ring.val * 0x40) (if w then 8 else 4) = true ∧ s.foreignPf r ring = false ∧ pi.toNat ≠ s.ringPi ring ∧ s.piOk ring pi.toNat = false ∧ s.dev.inService = false) ∧
    (∃ (s : State) (r : Req) (ring : Fin 16384) (pi : BitVec 32) (w : Bool), s.Overlock ∧ s.present r = true ∧ s.allowed r true 1 (ring.val * 0x40) (if w then 8 else 4) = true ∧ s.foreignPf r ring = false ∧ pi.toNat ≠ s.ringPi ring ∧ s.piOk ring pi.toNat = false ∧ s.dev.inService = true) ∧
    (∃ (s : State) (r : Req) (ring : Fin 16384), s.Overlock ∧ s.Grants r true .HIF_RING_CTRL ring 0 ∧ (s.ringState ring = 0 ∨ s.ringState ring = 3) ∧ s.startBad ring = false) ∧
    (∃ (s : State) (r : Req) (ring : Fin 16384), s.Overlock ∧ s.Grants r true .HIF_RING_CTRL ring 0 ∧ (s.ringState ring = 0 ∨ s.ringState ring = 3) ∧ s.startBad ring = true) ∧
    (∃ (s : State) (r : Req) (ring : Fin 16384), s.Overlock ∧ s.Grants r true .HIF_RING_CTRL ring 0 ∧ s.ringState ring = 1 ∧ (s.ring ring).ready = [] ∧ (s.ring ring).building = none ∧ (s.ring ring).store = []) ∧
    (∃ (s : State) (ring : Fin 16384), s.Overlock ∧ s.dev ≠ .off ∧ s.ringState ring = 2 ∧ (s.ring ring).flying = [] ∧ (s.ring ring).ready = [] ∧ (s.ring ring).building = none ∧ (s.ring ring).cur = none) ∧
    (∃ (s : State) (r : Req) (ring : Fin 16384), s.Overlock ∧ s.Grants r true .HIF_RING_CTRL ring 0 ∧ ringActive (s.ringState ring) = false) ∧
    (∃ (s : State) (r : Req) (ring : Fin 16384), s.Overlock ∧ s.Grants r true .HIF_RING_CTRL ring 0 ∧ ringActive (s.ringState ring) = true) ∧
    (∃ (s : State) (ring : Fin 16384), s.Overlock ∧ ring.val < 8192 ∧ s.txMay ring = true ∧ (s.ring ring).building = none ∧ s.fld .HIF_RING_CFG_COMP ring = 0 ∧ s.on .HIF_RING_CFG_NOTIFY ring = false) :=
  ⟨⟨z0, .sp 7, 16383, 1, false, by decide⟩,
   ⟨z0.w .HIF_RING_CFG_PF 16383 7, .pf 0, 16383, true, by decide⟩,
   ⟨z0, .sp 7, 16383, 0x80000000, false, by decide⟩,
   ⟨{ z0 with dev := .solo }, .sp 7, 16383, 0x80000000, false, by decide⟩,
   ⟨z0.w .HIF_RING_CFG_SIZE_LOG2 16383 15, .pf 0, 16383, by decide⟩,
   ⟨z0.w .HIF_RING_CFG_SIZE_LOG2 16383 5, .pf 0, 16383, by decide⟩,
   ⟨z0.w .HIF_RING_STATUS_STATE 16383 1, .pf 0, 16383, by decide⟩,
   ⟨z0.w .HIF_RING_STATUS_STATE 16383 2, 16383, by decide⟩,
   ⟨z0.w .HIF_RING_STATUS_STATE 16383 3, .pf 0, 16383, by decide⟩,
   ⟨z0.w .HIF_RING_STATUS_STATE 16383 2, .pf 0, 16383, by decide⟩,
   ⟨ringUp 8191 3, 8191, by decide⟩⟩

theorem witness_HostTransmitFrames :
    (∃ (s : State) (ring : Fin 8192) (d : BitVec 256), s.Overlock ∧ s.txMay ring = true ∧ (s.ring ring).building = none ∧ s.txBad ring (s.ring ring).fetch d.toNat none = false ∧ d.getLsbD 110 = true) ∧
    (∃ (s : State) (ring : Fin 8192) (d : BitVec 256), s.Overlock ∧ s.txMay ring = true ∧ (s.ring ring).building = none ∧ s.txBad ring (s.ring ring).fetch d.toNat none = false ∧ d.getLsbD 110 = false) ∧
    (∃ (s : State) (ring : Fin 8192) (x : TxFrame) (tl : List TxFrame) (a : Acct), s.Overlock ∧ s.txOffers ring = true ∧ (s.ring ring).held = none ∧ (s.ring ring).ready = x :: tl ∧ bit x.desc 157 = false ∧ s.admitTest (txQueue x.desc) (cellsOf (x.data.length + 4)) 0 false = (.admitted, a)) ∧
    (∃ (s : State) (ring : Fin 8192) (x : TxFrame) (tl : List TxFrame) (a : Acct) (why : Adm), s.Overlock ∧ s.txOffers ring = true ∧ (s.ring ring).held = none ∧ (s.ring ring).ready = x :: tl ∧ bit x.desc 157 = false ∧ why ∈ [.queueLimit, .threshold, .precedence] ∧ s.admitTest (txQueue x.desc) (cellsOf (x.data.length + 4)) 0 false = (why, a)) ∧
    (∃ (s : State) (ring : Fin 8192) (x : TxFrame) (tl : List TxFrame) (f : FrameRec) (a : Acct), s.Overlock ∧ s.txOffers ring = true ∧ (s.ring ring).held = some f ∧ (s.ring ring).ready = x :: tl ∧ s.admitTest (txQueue x.desc) f.cells 0 false = (.admitted, a)) ∧
    (∃ (s : State) (ring : Fin 8192) (x : TxFrame) (tl : List TxFrame) (a : Acct), s.Overlock ∧ s.txOffers ring = true ∧ (s.ring ring).held = none ∧ (s.ring ring).ready = x :: tl ∧ bit x.desc 157 = true ∧ s.on .MEND_CTRL_RUN = true ∧ (1, bits x.desc 156 139) ∉ s.leadOnly ∧ (s.gen (bits x.desc 156 139)).bad = false ∧ (s.gen (bits x.desc 156 139)).en = true ∧ (s.gen (bits x.desc 156 139)).mode = 0 ∧ s.admitTest (txQueue x.desc) (cellsOf (x.data.length + 4)) 0 false = (.admitted, a)) :=
  ⟨⟨ringUp 8191 3, 8191, 60 * 2 ^ 112 + 2 ^ 111 + 2 ^ 110, by decide⟩,
   ⟨ringUp 8191 3, 8191, 60 * 2 ^ 112 + 2 ^ 111, by decide⟩,
   ⟨(((((hostUp.w .HIF_RING_STATUS_STATE 8191 1).w .SHTL_BUF_RSV_RUN 0 1).w .SHTL_Q_CFG_EN 0 1).w .SHTL_Q_CFG_ALPHA 0 4).w .SHTL_Q_CFG_MAX_CELLS 0 9).setRing 8191 { ready := [({ first := 0, desc := 0, data := zs 60 } : TxFrame)] }, 8191, ({ first := 0, desc := 0, data := zs 60 } : TxFrame), [], .shared, by decide⟩,
   ⟨((((hostUp.w .HIF_RING_STATUS_STATE 8191 1).w .SHTL_BUF_RSV_RUN 0 1).w .SHTL_Q_CFG_EN 0 1).w .SHTL_Q_CFG_MAX_CELLS 0 0).setRing 8191 { ready := [({ first := 0, desc := 0, data := zs 60 } : TxFrame)] }, 8191, ({ first := 0, desc := 0, data := zs 60 } : TxFrame), [], .shared, .queueLimit, by decide⟩,
   ⟨(((((hostUp.w .HIF_RING_STATUS_STATE 8191 1).w .SHTL_BUF_RSV_RUN 0 1).w .SHTL_Q_CFG_EN 0 1).w .SHTL_Q_CFG_ALPHA 0 4).w .SHTL_Q_CFG_MAX_CELLS 0 9).setRing 8191 { ready := [({ first := 0, desc := 0, data := zs 60 } : TxFrame)], held := some frm }, 8191, ({ first := 0, desc := 0, data := zs 60 } : TxFrame), [], frm, .shared, by decide⟩,
   ⟨(((((((hostUp.w .HIF_RING_STATUS_STATE 8191 1).w .SHTL_BUF_RSV_RUN 0 1).w .SHTL_Q_CFG_EN 0 1).w .SHTL_Q_CFG_ALPHA 0 4).w .SHTL_Q_CFG_MAX_CELLS 0 9).w .MEND_CTRL_RUN 0 1).setGen 7 { word := 2 ^ 127 + 65535 * 2 ^ 106 }).setRing 8191 { ready := [({ ({ first := 0, desc := 0, data := zs 60 } : TxFrame) with desc := 2 ^ 157 + 7 * 2 ^ 139 })] }, 8191, ({ ({ first := 0, desc := 0, data := zs 60 } : TxFrame) with desc := 2 ^ 157 + 7 * 2 ^ 139 }), [], .shared, by decide⟩⟩

theorem witness_HostReceiveAndQueues :
    (∃ (s : State) (ring : Fin 8192) (d : BitVec 256) (x : RxFrame) (rest : List RxFrame), s.Overlock ∧ s.rxMay (8192 + ring) = true ∧ s.ringPosted (8192 + ring) = true ∧ (s.ring (8192 + ring)).store = x :: rest ∧ (s.ring (8192 + ring)).cur = none ∧ s.rxBad (8192 + ring) (s.ring (8192 + ring)).fetch d.toNat = false ∧ (s.rxBytes (8192 + ring) x).length ≤ descLen d.toNat ∧ s.fld .HIF_RING_CFG_COMP (8192 + ring) = 0 ∧ s.on .HIF_RING_CFG_NOTIFY (8192 + ring) = false) ∧
    (∃ (s : State) (ring : Fin 8192), s.Overlock ∧ s.rxMay (8192 + ring) = true ∧ s.ringPosted (8192 + ring) = false ∧ (s.ring (8192 + ring)).waitFrom = none) ∧
    (∃ (s : State) (ring : Fin 8192) (x : RxFrame) (rest : List RxFrame) (n : Nat), s.Overlock ∧ s.hifUp = true ∧ (s.ring (8192 + ring)).waitFrom = some n ∧ n + s.rxWaitT (8192 + ring) ≤ s.lNow ∧ s.ringPosted (8192 + ring) = false ∧ (s.ring (8192 + ring)).cur = none ∧ (s.ring (8192 + ring)).store = x :: rest) ∧
    (∃ (s : State) (r : Req) (c : Fin 4096) (ci : BitVec 32), s.Overlock ∧ s.Grants r true .HIF_CQ_DB c 0 ∧ s.ciOk c ci.toNat = true ∧ (s.cq c).held = [] ∧ (s.cq c).pend = 0) ∧
    (∃ (s : State) (r : Req) (c : Fin 4096) (ci : BitVec 32), s.Overlock ∧ s.Grants r true .HIF_CQ_DB c 0 ∧ s.ciOk c ci.toNat = false ∧ s.dev.inService = false) ∧
    (∃ (s : State) (r : Req) (c : Fin 4096), s.Overlock ∧ s.Grants r true .HIF_CQ_CFG c 0 ∧ s.on .HIF_CQ_CFG_EN c = false ∧ 6 ≤ s.fld .HIF_CQ_CFG_SIZE_LOG2 c) ∧
    (∃ (s : State) (r : Req) (c : Fin 4096), s.Overlock ∧ s.Grants r true .HIF_CQ_CFG c 0 ∧ s.cqNamed c = true) ∧
    (∃ (s : State) (r : Req) (c : Fin 4096), s.Overlock ∧ s.Grants r true .HIF_CQ_CFG c 0 ∧ s.cqNamed c = false) ∧
    (∃ (s : State) (c : Fin 4096), s.Overlock ∧ s.hifUp = true ∧ (s.cq c).armed = true ∧ 0 < (s.cq c).pend ∧ (s.cq c).oldest + s.fld .HIF_CQ_CFG_MOD_TIME c * 1000 * nsT ≤ s.lNow) ∧
    (∃ (s : State) (ring : Fin 8192), s.Overlock ∧ s.hifUp = true ∧ (s.ring ring).ledgerDirty = true ∧ s.ledgerDue ring = true ∧ (s.pfn (s.ringPf ring)).busMaster = true) ∧
    (∃ (s : State) (ring : Fin 8192), s.Overlock ∧ s.hifUp = true ∧ (s.ring ring).ledgerDirty = true ∧ s.ledgerDue ring = true ∧ (s.pfn (s.ringPf ring)).busMaster = false) :=
  ⟨⟨(ringUp 16383 1).setRing 16383 { store := [(⟨[1, 2, 3], 0, 8, 0, { data := [1, 2, 3] }⟩ : RxFrame)] }, 8191, 256 * 2 ^ 112, (⟨[1, 2, 3], 0, 8, 0, { data := [1, 2, 3] }⟩ : RxFrame), [], by decide⟩,
   ⟨(ringUp 16383 0).setRing 16383 { store := [(⟨[1, 2, 3], 0, 8, 0, { data := [1, 2, 3] }⟩ : RxFrame)] }, 8191, by decide⟩,
   ⟨(((ringUp 16383 0).setRing 16383 { store := [(⟨[1, 2, 3], 0, 8, 0, { data := [1, 2, 3] }⟩ : RxFrame)], waitFrom := some 0 }).w .HIF_RING_CFG_RX_WAIT 16383 1).loadCnts 8 (2 ^ 80), 8191, (⟨[1, 2, 3], 0, 8, 0, { data := [1, 2, 3] }⟩ : RxFrame), [], 0, by decide⟩,
   ⟨z0, .pf 0, 4095, 0, by decide⟩,
   ⟨z0, .pf 0, 4095, 1, by decide⟩,
   ⟨z0.w .HIF_CQ_CFG_SIZE_LOG2 4095 6, .pf 0, 4095, by decide⟩,
   ⟨(z0.w .HIF_RING_CFG_COMP 16383 1).w .HIF_RING_CFG_CQ 16383 4095 |>.w .HIF_RING_STATUS_STATE 16383 1, .pf 0, 4095, by decide⟩,
   ⟨z0, .pf 0, 4095, by decide⟩,
   ⟨(hostUp.setCq 4095 { armed := true, pend := 1 }).loadCnts 8 (2 ^ 80), 4095, by decide⟩,
   ⟨hostUp.setRing 8191 { ledgerDirty := true }, 8191, by decide⟩,
   ⟨{ hostUp with intc := {} }.setRing 8191 { ledgerDirty := true }, 8191, by decide⟩⟩

theorem witness_DmaControlAndFunctionLoss_1 :
    (∃ (s : State) (r : Req) (ch : Fin 256), s.Overlock ∧ s.Grants r true .DMA_CH_CTRL ch 0 ∧ (s.chState ch = 0 ∨ s.chState ch = 3) ∧ s.chNextSpace ch ≠ 3 ∧ s.on .HIF_CQ_CFG_EN (s.chCq ch) = true ∧ s.on .DMA_CTRL_RUN = true) ∧
    (∃ (s : State) (r : Req) (ch : Fin 256), s.Overlock ∧ s.Grants r true .DMA_CH_CTRL ch 0 ∧ (s.chState ch = 0 ∨ s.chState ch = 3) ∧ (s.chNextSpace ch = 3 ∨ s.on .HIF_CQ_CFG_EN (s.chCq ch) = false)) ∧
    (∃ (s : State) (r : Req) (ch : Fin 256), s.Overlock ∧ s.Grants r true .DMA_CH_CTRL ch 0 ∧ s.chState ch = 1 ∧ (s.chan ch).desc = none) ∧
    (∃ (s : State) (r : Req) (ch : Fin 256), s.Overlock ∧ s.Grants r true .DMA_CH_CTRL ch 0 ∧ s.chState ch = 1 ∧ (s.chan ch).desc ≠ none) ∧
    (∃ (s : State) (r : Req) (ch : Fin 256), s.Overlock ∧ s.Grants r true .DMA_CH_CTRL ch 0 ∧ ringActive (s.chState ch) = false) ∧
    (∃ (s : State) (r : Req) (ch : Fin 256), s.Overlock ∧ s.Grants r true .DMA_CH_CTRL ch 0 ∧ ringActive (s.chState ch) = true) ∧
    (∃ (s : State) (r : Req) (ch : Fin 256), s.Overlock ∧ s.Grants r true .DMA_CH_RATE ch 0) :=
  ⟨⟨dmaOn, .pf 0, 255, by decide⟩,
   ⟨z0.w .DMA_CH_STATUS_STATE 255 3, .pf 0, 255, by decide⟩,
   ⟨dmaRun {}, .pf 0, 255, by decide⟩,
   ⟨dmaRun { desc := some (0, 0, dsc) }, .pf 0, 255, by decide⟩,
   ⟨z0.w .DMA_CH_STATUS_STATE 255 4, .pf 0, 255, by decide⟩,
   ⟨dmaRun {}, .pf 0, 255, by decide⟩,
   ⟨z0, .pf 0, 255, by decide⟩⟩

theorem witness_DmaDescriptors :
    (∃ (s : State) (ch : Fin 256) (host : BitVec 512), s.Overlock ∧ s.chMayFetch ch = true ∧ (s.chan ch).reserved = false ∧ s.cqRoom (s.chCq ch) = true ∧ s.fld .DMA_CH_STATUS_HOPS ch < max 1 (s.fld .DMA_CH_CFG_CHAIN_LIMIT ch) ∧ s.chReach ch (s.chNextSpace ch) (s.chNext ch) 64 = true ∧ s.thim.dramFailed = false ∧ s.localBad = [] ∧ s.chDescBad (s.chRead ch host.toNat) = false ∧ s.dma.movers.length < 8 ∧ s.dma.movers.contains ch.val = false) ∧
    (∃ (s : State) (ch : Fin 256), s.Overlock ∧ s.chMayFetch ch = true ∧ (s.chan ch).reserved = false ∧ s.cqRoom (s.chCq ch) = false) ∧
    (∃ (s : State) (ch : Fin 256), s.Overlock ∧ s.chMayFetch ch = true ∧ (s.chan ch).reserved = true ∨ s.cqRoom (s.chCq ch) = true ∧ max 1 (s.fld .DMA_CH_CFG_CHAIN_LIMIT ch) ≤ s.fld .DMA_CH_STATUS_HOPS ch ∧ s.dma.movers.contains ch.val = false) ∧
    (∃ (s : State) (ch : Fin 256) (addr : Nat) (space : Nat) (w : Nat), s.Overlock ∧ (s.chan ch).desc = some (addr, space, w) ∧ dCount w = 1 ∧ dSrcSpace w = 2 ∧ dDstSpace w = 2 ∧ dComp w = false ∧ (s.chan ch).wrote = [] ∧ s.chMayMove ch w = true ∧ s.chCan ch (dElem w) = true ∧ s.dma.movers.contains ch.val = true ∧ s.chPos ch w = 0 ∧ s.elemOk ch w 0 = true ∧ s.localBad = [] ∧ (∀ c, c < 256 → s.on .DMA_CH_STATUS_PREEMPTED c = false)) ∧
    (∃ (s : State) (ch : Fin 256), s.Overlock ∧ s.chMayFetch ch = true ∧ (s.chan ch).reserved = true ∧ s.fld .DMA_CH_STATUS_HOPS ch < max 1 (s.fld .DMA_CH_CFG_CHAIN_LIMIT ch) ∧ s.chReach ch (s.chNextSpace ch) (s.chNext ch) 64 = true ∧ (s.chan ch).retries < s.fld .DMA_CH_CFG_RETRY_COUNT ch) ∧
    (∃ (s : State) (ch : Fin 256), s.Overlock ∧ s.chMayFetch ch = true ∧ (s.chan ch).reserved = true ∧ s.fld .DMA_CH_STATUS_HOPS ch < max 1 (s.fld .DMA_CH_CFG_CHAIN_LIMIT ch) ∧ s.chReach ch (s.chNextSpace ch) (s.chNext ch) 64 = true ∧ s.fld .DMA_CH_CFG_RETRY_COUNT ch ≤ (s.chan ch).retries ∧ s.dma.movers.contains ch.val = false) ∧
    (∃ (s : State) (ch : Fin 256) (x : _), s.Overlock ∧ (s.chan ch).retryAt = some x ∧ s.alive = true ∧ x ≤ s.lNow) :=
  ⟨⟨dmaRun {}, 255, BitVec.ofNat 512 dsc, by decide⟩,
   ⟨(dmaRun {}).setCq 0 { reserved := 80 }, 255, by decide⟩,
   ⟨(dmaRun {}).w .DMA_CH_STATUS_HOPS 255 1024, 255, by decide⟩,
   ⟨{ dmaRun {} with dma := { movers := [255], ch := [(255, { desc := some (0, 0, dsc) })] } }, 255, 0, 0, dsc, by decide⟩,
   ⟨dmaRun { reserved := true }, 255, by decide⟩,
   ⟨(dmaRun { reserved := true }).w .DMA_CH_CFG_RETRY_COUNT 255 0, 255, by decide⟩,
   ⟨z0.setChan 255 { retryAt := some 0 }, 255, 0, by decide⟩⟩

theorem witness_Publications_1 :
    (∃ (s : State) (e : Fin 1024) (g : _), s.Overlock ∧ (s.pubE e).next = some g ∧ (s.pubE e).run = none ∧ s.alive = true ∧ s.on .DMA_CTRL_PUB_RUN = true ∧ s.publishes = true ∧ pubEn (s.pubE e).word = true ∧ g ≤ s.voted (pubDom (s.pubE e).word) + pubLead (s.pubE e).word ∧ (¬(pubPair (s.pubE e).word = 2 ∧ s.dev = .shadow)) ∧ s.inSync (pubDom (s.pubE e).word) = true ∧ bit (s.pubE e).word 503 = false ∧ (∀ x ∈ s.dma.pub, x.2.run = none)) ∧
    (∃ (s : State) (e : Fin 1024) (g : _), s.Overlock ∧ (s.pubE e).next = some g ∧ (s.pubE e).run = none ∧ s.on .DMA_CTRL_PUB_RUN = true ∧ pubEn (s.pubE e).word = true ∧ g ≤ s.voted (pubDom (s.pubE e).word) + pubLead (s.pubE e).word ∧ pubPair (s.pubE e).word = 2 ∧ s.dev = .shadow) ∧
    (∃ (s : State) (e : Fin 1024) (g : _), s.Overlock ∧ (s.pubE e).next = some g ∧ (s.pubE e).run = none ∧ s.alive = true ∧ s.on .DMA_CTRL_PUB_RUN = true ∧ s.publishes = true ∧ pubEn (s.pubE e).word = true ∧ g ≤ s.voted (pubDom (s.pubE e).word) + pubLead (s.pubE e).word ∧ (¬(pubPair (s.pubE e).word = 2 ∧ s.dev = .shadow)) ∧ s.inSync (pubDom (s.pubE e).word) = false ∧ s.pubSched (s.pubE e).word = true) ∧
    (∃ (s : State) (e : Fin 1024) (r : PubRun) (host : List Byte) (data : List Byte) (a : Acct) (u : State), s.Overlock ∧ s.alive = true ∧ (s.pubE e).run = some r ∧ r.taken = true ∧ (∀ x ∈ s.dma.pub, x.2.run.all (·.taken) = true) ∧ s.pubLate e r = false ∧ s.pubBuild r.entry host = (.frame data, u) ∧ bit r.entry 503 = false ∧ bit r.entry 504 = false ∧ bit r.entry 500 = false ∧ s.admitTest (pubQueue r.entry) (cellsOf (data.length + 4)) 0 false = (.admitted, a)) ∧
    (∃ (s : State) (e : Fin 1024) (r : PubRun), s.Overlock ∧ s.alive = true ∧ (s.pubE e).run = some r ∧ r.taken = true ∧ (∀ x ∈ s.dma.pub, x.2.run.all (·.taken) = true) ∧ s.pubLate e r = false) ∧
    (∃ (s : State) (e : Fin 1024) (r : PubRun), s.Overlock ∧ s.alive = true ∧ (s.pubE e).run = some r ∧ (r.taken = true ∧ ∀ x ∈ s.dma.pub, x.2.run.all (·.taken) = true) ∨ (r.taken = false ∧ 2 ≤ s.pubTaken) ∧ s.pubLate e r = true) ∧
    (∃ (s : State) (e : Fin 1024) (g : _), s.Overlock ∧ (s.pubE e).next = some g ∧ (s.pubE e).run = none ∧ s.alive = true ∧ s.on .DMA_CTRL_PUB_RUN = true ∧ s.publishes = true ∧ pubEn (s.pubE e).word = true ∧ g ≤ s.voted (pubDom (s.pubE e).word) + pubLead (s.pubE e).word ∧ (¬(pubPair (s.pubE e).word = 2 ∧ s.dev = .shadow)) ∧ s.inSync (pubDom (s.pubE e).word) = true ∧ 2 ≤ s.pubTaken) :=
  ⟨⟨(pubOn { word := pubW, next := some 0 }).w .TPL_SYNC_STATUS_IN_SYNC 0 1, 1023, 0, by decide⟩,
   ⟨{ (z0.w .DMA_CTRL_PUB_RUN 0 1) with dev := .shadow, dma := { pub := [(1023, { word := pubW + 2 * (2 ^ 256 * 2 ^ 249), next := some 0 })] } }, 1023, 0, by decide⟩,
   ⟨(pubOn { word := pubW, next := some 0 }).w .SHTL_GCL_CFG_SCHED_TC 0 1, 1023, 0, by decide⟩,
   ⟨{ (((pubOn { word := pubW, run := some (⟨0, 0, pubW, false, 0, true, 0, false⟩ : PubRun) }).w .SHTL_BUF_RSV_RUN 0 1).w .SHTL_Q_CFG_EN 0 1 |>.w .SHTL_Q_CFG_MAX_CELLS 0 9).w .SHTL_Q_CFG_ALPHA 0 4 with localMem := Memory.writeLe [] 0 64 (2 * (2 ^ 256 * 2 ^ 190) + 3 * (2 ^ 256 * 2 ^ 188) + 0x100) }, 1023, (⟨0, 0, pubW, false, 0, true, 0, false⟩ : PubRun), [], zs 60, .shared, ({ (((pubOn { word := pubW, run := some (⟨0, 0, pubW, false, 0, true, 0, false⟩ : PubRun) }).w .SHTL_BUF_RSV_RUN 0 1).w .SHTL_Q_CFG_EN 0 1 |>.w .SHTL_Q_CFG_MAX_CELLS 0 9).w .SHTL_Q_CFG_ALPHA 0 4 with localMem := Memory.writeLe [] 0 64 (2 * (2 ^ 256 * 2 ^ 190) + 3 * (2 ^ 256 * 2 ^ 188) + 0x100) }.pubBuild pubW []).2, by refine ⟨?_, ?_, ?_, ?_, ?_, ?_, ?_, ?_, ?_, ?_, ?_⟩ <;> first | rfl | decide +kernel⟩,
   ⟨pubOn { word := pubW, run := some (⟨0, 0, pubW, false, 0, true, 0, false⟩ : PubRun) }, 1023, (⟨0, 0, pubW, false, 0, true, 0, false⟩ : PubRun), by decide⟩,
   ⟨pubOn { word := pubW, next := some 0, run := some (⟨0, 0, pubW, false, 0, true, 0, false⟩ : PubRun) }, 1023, (⟨0, 0, pubW, false, 0, true, 0, false⟩ : PubRun), by decide⟩,
   ⟨{ (pubOn { word := pubW, next := some 0 }).w .TPL_SYNC_STATUS_IN_SYNC 0 1 with dma := { pub := [(0, { word := pubW, run := some (⟨0, 0, pubW, false, 0, true, 0, false⟩ : PubRun) }), (1, { word := pubW, run := some (⟨0, 0, pubW, false, 0, true, 0, false⟩ : PubRun) }), (1023, { word := pubW, next := some 0 })] } }, 1023, 0, by decide⟩⟩

theorem witness_Publications_2 :
    (∃ (s : State) (r : Req), s.Overlock ∧ s.Grants r true .DMA_PUB_CMD 0 0 ∧ s.on .DMA_PUB_STATUS_BUSY = false) ∧
    (∃ (s : State) (r : Req) (i : Fin 1024), s.Overlock ∧ s.Grants r true .DMA_PUB_CMD 0 0 ∧ s.on .DMA_PUB_STATUS_BUSY = false ∧ pubBad s.pubData = false ∧ pubEn (s.pubE i).word = false) ∧
    (∃ (s : State) (r : Req), s.Overlock ∧ s.Grants r true .DMA_PUB_CMD 0 0 ∧ s.on .DMA_PUB_STATUS_BUSY = false ∧ pubBad s.pubData = true) ∧
    (∃ (s : State), s.Overlock ∧ s.dev ≠ .off ∧ s.on .DMA_PUB_STATUS_BUSY = true) ∧
    (∃ (s : State) (r : Req), s.Overlock ∧ s.Grants r true .DMA_PUB_CMD 0 0 ∧ s.on .DMA_PUB_STATUS_BUSY = true) :=
  ⟨⟨z0, .pf 0, by decide⟩,
   ⟨(z0.w .DMA_PUB_DATA_DATA 4 (2 ^ 48 + 60 * 2 ^ 34)).w .DMA_PUB_DATA_DATA 3 (2 ^ 38), .pf 0, 1023, by decide⟩,
   ⟨z0, .pf 0, by decide⟩,
   ⟨z0.w .DMA_PUB_STATUS_BUSY 0 1, by decide⟩,
   ⟨z0.w .DMA_PUB_STATUS_BUSY 0 1, .pf 0, by decide⟩⟩

theorem witness_DmaControlAndFunctionLoss_2 :
    (∃ (s : State), s.Overlock ∧ s.hifUp = true) ∧
    (∃ (s : State), s.Overlock ∧ s.hif.link = true) :=
  ⟨⟨hostUp, by decide⟩,
   ⟨hostUp, by decide⟩⟩

theorem witness_InterruptDelivery :
    (∃ (s : State) (n : Fin 4095), s.Overlock ∧ s.dev ≠ .off ∧ s.deliverable n = true ∧ s.lateCfg n = none ∧ s.fld .INTC_SRC_CFG_TKIND n = 1 ∧ s.pairOn (s.fld .INTC_SRC_CFG_TARGET n % 16 / 2) = true) ∧
    (∃ (s : State) (n : Fin 4095), s.Overlock ∧ s.dev ≠ .off ∧ s.deliverable n = true ∧ s.lateCfg n = none ∧ s.fld .INTC_SRC_CFG_TKIND n = 2) ∧
    (∃ (s : State) (n : Fin 4095), s.Overlock ∧ s.dev ≠ .off ∧ s.deliverable n = true ∧ s.lateCfg n = none ∧ s.fld .INTC_SRC_CFG_TKIND n = 1 ∧ s.pairOn (s.fld .INTC_SRC_CFG_TARGET n % 16 / 2) = false ∧ s.pairOn (s.fld .INTC_CTRL_FALLBACK / 2) = true) ∧
    (∃ (s : State) (n : Fin 4095), s.Overlock ∧ s.dev ≠ .off ∧ s.deliverable n = true ∧ s.lateCfg n = none ∧ s.fld .INTC_SRC_CFG_TKIND n = 1 ∧ s.pairOn (s.fld .INTC_SRC_CFG_TARGET n % 16 / 2) = false ∧ s.pairOn (s.fld .INTC_CTRL_FALLBACK / 2) = false) ∧
    (∃ (s : State) (n : Fin 4095) (o : SrcOld), s.Overlock ∧ s.dev ≠ .off ∧ s.deliverable n = true ∧ s.lateCfg n = some o ∧ o.enabled = true ∧ o.tkind = 2 ∧ s.fld .INTC_SRC_CFG_TKIND n = 2 ∧ s.dev ≠ .failSilent) :=
  ⟨⟨srcOn, 1455, by decide⟩,
   ⟨srcOn.w .INTC_SRC_CFG_TKIND 1455 2, 1455, by decide⟩,
   ⟨srcOn.w .INTC_SRC_CFG_TARGET 1455 15, 1455, by decide⟩,
   ⟨srcOn.w .INTC_CORE_CFG_EN 0 0, 1455, by decide⟩,
   ⟨{ srcOn.w .INTC_SRC_CFG_TKIND 1455 2 with intc := { old := [(1455, some (⟨1, true, 2, 7⟩ : SrcOld))] } }, 1455, (⟨1, true, 2, 7⟩ : SrcOld), by decide⟩⟩

theorem witness_CoreClaims :
    (∃ (s : State) (r : Req) (k : Fin 8) (n : _), s.Overlock ∧ s.Grants r false .INTC_CORE_CLAIM k 0 ∧ r = .sp k ∧ n ∈ s.heldBy k 1 ∧ (∀ p, s.runPrio k = some p → p < s.prio n) ∧ (∀ m ∈ s.heldBy k 1, m ≠ n → s.prio m < s.prio n ∨ (s.prio m = s.prio n ∧ n < m)) ∧ (srcEdge n = true ∨ s.asserted n = true)) ∧
    (∃ (s : State) (r : Req) (k : Fin 8) (n : _), s.Overlock ∧ s.Grants r false .INTC_CORE_CLAIM k 0 ∧ r = .sp k ∧ n ∈ s.heldBy k 1 ∧ (∀ p, s.runPrio k = some p → p < s.prio n) ∧ (∀ m ∈ s.heldBy k 1, m ≠ n → s.prio m < s.prio n ∨ (s.prio m = s.prio n ∧ n < m)) ∧ srcEdge n = false ∧ s.asserted n = false) ∧
    (∃ (s : State) (r : Req) (k : Fin 8), s.Overlock ∧ s.Grants r false .INTC_CORE_CLAIM k 0 ∧ r ≠ .sp k) ∧
    (∃ (s : State) (r : Req) (k : Fin 8) (id : BitVec 12), s.Overlock ∧ s.Grants r true .INTC_CORE_EOI k 0 ∧ r = .sp k ∧ (s.src id.toNat).dstate = 2 ∧ (s.src id.toNat).toVector = false ∧ (s.src id.toNat).holder / 2 = k) ∧
    (∃ (s : State) (r : Req) (k : Fin 8) (id : BitVec 12), s.Overlock ∧ s.Grants r true .INTC_CORE_EOI k 0 ∧ r = .sp k ∧ (s.src id.toNat).dstate ≠ 2 ∨ (s.src id.toNat).toVector = true ∨ (s.src id.toNat).holder / 2 ≠ k) ∧
    (∃ (s : State) (r : Req) (k : Fin 8) (j : Fin 8), s.Overlock ∧ s.Grants r true .INTC_CORE_CFG k 0 ∧ r = .sp j) :=
  ⟨⟨{ srcOn with intc := { srcOn.intc with src := [(1455, { dstate := 1, holder := 0, toVector := false })] } }, .sp 0, 0, 1455, by refine ⟨by decide, by decide, by decide, by decide, fun p h => (by cases (show (none : Option Nat) = some p from h)), by decide, by decide⟩⟩,
   ⟨{ srcOn with intc := { srcOn.intc with src := [(512, { dstate := 1, holder := 0, toVector := false })] } }, .sp 0, 0, 512, by refine ⟨by decide, by decide, by decide, by decide, fun p h => (by cases (show (none : Option Nat) = some p from h)), by decide, by decide, by decide⟩⟩,
   ⟨z0, .pf 0, 7, by decide⟩,
   ⟨{ z0 with intc := { src := [(1455, { dstate := 2, holder := 15, toVector := false })] } }, .sp 7, 7, 1455, by decide⟩,
   ⟨z0, .sp 7, 7, 4095, by decide⟩,
   ⟨z0, .sp 7, 7, 7, by decide⟩⟩

theorem witness_MessagesAndPending :
    (∃ (s : State) (n : _), s.Overlock ∧ s.alive = true ∧ s.msixPick = some n) ∧
    (∃ (s : State) (r : Req) (f : Fin 8) (id : BitVec 12), s.Overlock ∧ s.Grants r true .INTC_HOST_EOI 0 0 ∧ r = .pf f ∧ (s.src id.toNat).dstate = 2 ∧ (s.src id.toNat).toVector = true ∧ s.vecPf (s.src id.toNat).holder = some f.val) ∧
    (∃ (s : State) (r : Req) (f : Fin 8) (id : BitVec 12), s.Overlock ∧ s.Grants r true .INTC_HOST_EOI 0 0 ∧ r = .pf f ∧ (s.src id.toNat).dstate ≠ 2 ∨ (s.src id.toNat).toVector = false ∨ s.vecPf (s.src id.toNat).holder ≠ some f.val) ∧
    (∃ (s : State) (r : Req) (w : Fin 128), s.Overlock ∧ s.Grants r true .INTC_PENDING w 0) ∧
    (∃ (s : State) (r : Req), s.Overlock ∧ s.Grants r false .INTC_DRAIN 0 0 ∧ s.intc.lastCfg + 64 * nsT ≤ s.lNow) :=
  ⟨⟨{ z0 with intc := { src := [(1455, { dstate := 1, holder := 2047, toVector := true })], pf := [(7, { msixEn := true, vecLo := 2047, vecN := 1 })], vec := [(2047, { mask := false })] } }, 1455, by decide⟩,
   ⟨{ z0 with intc := { src := [(1455, { dstate := 2, holder := 0, toVector := true })], pf := [(0, { vecN := 1 })] } }, .pf 0, 0, 1455, by decide⟩,
   ⟨z0, .pf 0, 0, 1455, by decide⟩,
   ⟨z0, .pf 0, 127, by decide⟩,
   ⟨z0.at' 64, .pf 0, by decide⟩⟩

theorem witness_SoftwareSources :
    (∃ (s : State) (r : Req) (n : BitVec 12), s.Overlock ∧ s.Grants r true .INTC_SW_SET 0 0 ∧ 1200 ≤ n.toNat ∧ n.toNat < 1456) ∧
    (∃ (s : State) (r : Req) (n : BitVec 12), s.Overlock ∧ s.Grants r true .INTC_SW_SET 0 0 ∧ (n.toNat < 1200 ∨ 1456 ≤ n.toNat)) :=
  ⟨⟨z0, .pf 0, 1455, by decide⟩,
   ⟨z0, .pf 0, 1456, by decide⟩⟩

theorem witness_PowerResetAndPins_1 :
    (∃ (s : State), s.Overlock ∧ s.pins.pwrgood = false) ∧
    (∃ (s : State), s.Overlock) ∧
    (∃ (s : State), s.Overlock ∧ s.dev ≠ .off) ∧
    (∃ (s : State), s.Overlock ∧ s.dev ≠ .off) ∧
    (∃ (s : State), s.Overlock) ∧
    (∃ (s : State), s.Overlock ∧ s.dev = .off ∧ s.pins.pwrgood = true ∧ s.pins.porHold = false) ∧
    (∃ (s : State), s.Overlock ∧ s.dev = .off ∧ (s.pins.pwrgood = false ∨ s.pins.porHold = true)) :=
  ⟨⟨{ z0 with pins := { pwrgood := false } }, by decide⟩,
   ⟨z0, by decide⟩,
   ⟨z0, by decide⟩,
   ⟨z0, by decide⟩,
   ⟨z0, by decide⟩,
   ⟨{ z0 with dev := .off }, by decide⟩,
   ⟨{ z0 with dev := .off, pins := { pwrgood := false } }, by decide⟩⟩

theorem witness_PowerResetAndPins_2 :
    (∃ (s : State) (k : Fin 5), s.Overlock ∧ k.val ≠ 4) ∧
    (∃ (s : State), s.Overlock) ∧
    (∃ (s : State), s.Overlock ∧ s.dev ≠ .off) ∧
    (∃ (s : State), s.Overlock ∧ s.pins.resetN = false) ∧
    (∃ (s : State), s.Overlock ∧ s.pins.resetN = true) :=
  ⟨⟨z0, 3, by decide⟩,
   ⟨z0, by decide⟩,
   ⟨z0, by decide⟩,
   ⟨{ z0 with pins := { resetN := false } }, by decide⟩,
   ⟨z0, by decide⟩⟩

theorem witness_StartingTheDevice_1 :
    (∃ (s : State), s.Overlock ∧ s.dev = .boot ∧ s.stepNo = 1 ∧ s.pins.strapOpen = false ∧ (s.time.refAOk = true ∨ s.time.refBOk = true) ∧ s.skips 2 = false ∧ s.stepInTime .plain = true) ∧
    (∃ (s : State), s.Overlock ∧ s.dev = .boot ∧ s.stepNo = 1 ∧ s.pins.strapOpen = true) ∧
    (∃ (s : State), s.Overlock ∧ s.dev = .boot ∧ s.stepNo = 2 ∧ s.time.locked = true ∧ s.on .TPL_OSC_STATUS_FREQ = true ∧ s.skips 3 = false ∧ s.stepInTime .plain = true) ∧
    (∃ (s : State), s.Overlock ∧ s.dev = .boot ∧ s.stepNo = 6 ∧ s.boot.pattern.dramPolicy ≠ 0 ∧ s.skips 7 = false ∧ s.alts 7 = false ∧ s.stepInTime .plain = true) ∧
    (∃ (s : State) (b0 : Nat) (b1 : Nat), s.Overlock ∧ s.dev = .boot ∧ s.stepNo = 7 ∧ s.alts 7 = false ∧ s.skips 8 = false ∧ 8 ≤ b0 + b1 ∧ s.stepInTime (.dram b0 b1 true true) = true) ∧
    (∃ (s : State), s.Overlock ∧ s.dev = .boot ∧ s.stepNo = 11 ∧ s.pins.mode = 1 ∧ s.stepInTime .plain = true) ∧
    (∃ (s : State) (n : Nat) (code : BitVec 8), s.Overlock ∧ s.dev = .boot ∧ s.stepNo = n ∧ 4 ≤ n ∧ n ≤ 10 ∧ s.optional n = false ∧ recGet (recMandatory n code.toNat (s.lNow / (1000000 * nsT)) s.boot.record) 18 1 ≠ 1) ∧
    (∃ (s : State) (w : BootWork), s.Overlock ∧ s.dev = .boot ∧ s.stepInTime w = false) ∧
    (∃ (s : State), s.Overlock ∧ s.dev = .boot ∧ s.stepNo = 3 ∧ s.lNow < 60000 * nsT) :=
  ⟨⟨z0, by decide⟩,
   ⟨{ z0 with pins := { strapOpen := true } }, by decide⟩,
   ⟨{ (z0.w .BOOT_STATUS_STEP 0 2).w .TPL_OSC_STATUS_FREQ 0 3 with time := { locked := true } }, by decide⟩,
   ⟨{ z0.w .BOOT_STATUS_STEP 0 6 with boot := { pattern := { dramPolicy := 2 } } }, by decide⟩,
   ⟨z0.w .BOOT_STATUS_STEP 0 7, 8, 0, by decide⟩,
   ⟨{ z0.w .BOOT_STATUS_STEP 0 11 with pins := { mode := 1 } }, by decide⟩,
   ⟨z0.w .BOOT_STATUS_STEP 0 10, 10, 0xFF, by decide⟩,
   ⟨z0.loadCnts 8 (2 ^ 90), .plain, by decide⟩,
   ⟨(z0.w .BOOT_STATUS_STEP 0 3).loadCnts 8 (59999 * nsT), by decide⟩⟩

theorem witness_StartingTheDevice_2 :
    (∃ (s : State), s.Overlock ∧ s.dev = .acquire ∧ s.role = 0 ∧ s.acquired = true) ∧
    (∃ (s : State), s.Overlock ∧ s.dev = .acquire ∧ s.role = 0 ∧ s.acquired = false) ∧
    (∃ (s : State), s.Overlock ∧ s.dev = .acquire ∧ s.role = 0 ∧ s.acquired = false ∧ s.boot.stepL + s.boot.pattern.acqTimeoutS * secT ≤ s.lNow) ∧
    (∃ (s : State), s.Overlock ∧ s.dev = .acquire ∧ s.role = 0 ∧ s.lNow < s.boot.stepL + s.boot.pattern.acqTimeoutS * secT) :=
  ⟨⟨{ z0 with dev := .acquire }, by decide⟩,
   ⟨{ z0 with dev := .acquire }.w .TPL_SYNC_CFG_REQ_ACQ 7 1, by decide⟩,
   ⟨({ z0 with dev := .acquire }.w .TPL_SYNC_CFG_REQ_ACQ 7 1).loadCnts 8 (20 * secT), by decide⟩,
   ⟨{ z0 with dev := .acquire }.loadCnts 8 (20 * secT - 1), by decide⟩⟩

theorem witness_BootControl :
    (∃ (s : State) (r : Req), s.Overlock ∧ s.Grants r true .BOOT_CTRL 0 0) ∧
    (∃ (s : State) (r : Req) (key : _), s.Overlock ∧ s.Grants r true .BOOT_CTRL 0 0 ∧ key ≠ 0x0B07) ∧
    (∃ (s : State) (r : Req), s.Overlock ∧ s.Grants r true .BOOT_CTRL 0 0) ∧
    (∃ (s : State) (r : Req), s.Overlock ∧ s.Grants r true .BOOT_CTRL 0 0) ∧
    (∃ (s : State) (r : Req), s.Overlock ∧ s.Grants r true .BOOT_CTRL 0 0 ∧ r = .pf 0) ∧
    (∃ (s : State) (r : Req), s.Overlock ∧ s.Grants r true .BOOT_CTRL 0 0) :=
  ⟨⟨z0, .pf 0, by decide⟩,
   ⟨z0, .pf 0, 0x0B08, by decide⟩,
   ⟨z0, .pf 0, by decide⟩,
   ⟨z0, .pf 0, by decide⟩,
   ⟨z0, .pf 0, by decide⟩,
   ⟨z0, .pf 0, by decide⟩⟩

theorem witness_ProtectionTable :
    (∃ (s : State) (r : Req), s.Overlock ∧ s.Grants r true .BOOT_AWT_CMD 0 0) ∧
    (∃ (s : State) (r : Req), s.Overlock ∧ s.Grants r true .BOOT_AWT_CMD 0 0 ∧ atP0 r = true ∧ awtBad (s.fld .BOOT_AWT_DATA_DATA 0 + s.fld .BOOT_AWT_DATA_DATA 1 * 2 ^ 64) = false) ∧
    (∃ (s : State) (r : Req), s.Overlock ∧ s.Grants r true .BOOT_AWT_CMD 0 0 ∧ atP0 r = true ∧ awtBad (s.fld .BOOT_AWT_DATA_DATA 0 + s.fld .BOOT_AWT_DATA_DATA 1 * 2 ^ 64) = true) ∧
    (∃ (s : State) (r : Req) (v : BitVec 16), s.Overlock ∧ s.Grants r true .BOOT_PF_PRIV 0 0 ∧ atP0 r = true ∧ privOk v.toNat = true) ∧
    (∃ (s : State) (r : Req) (v : BitVec 16), s.Overlock ∧ s.Grants r true .BOOT_PF_PRIV 0 0 ∧ (atP0 r = false ∨ privOk v.toNat = false)) ∧
    (∃ (s : State) (r : Req), s.Overlock ∧ s.Grants r true .BOOT_AWT_CMD 0 0 ∧ atP0 r = false) ∧
    (∃ (s : State) (r : Req), s.Overlock ∧ s.Grants r false .BOOT_AWT_DENY_LOG 0 0) :=
  ⟨⟨z0, .pf 0, by decide⟩,
   ⟨z0, .pf 0, by decide⟩,
   ⟨z0.w .BOOT_AWT_DATA_DATA 0 1, .pf 0, by decide⟩,
   ⟨z0, .pf 0, 0x5555, by decide⟩,
   ⟨z0, .pf 0, 0x1555, by decide⟩,
   ⟨{ z0 with boot := { pcieReady := true, awt := [(0, 2 ^ 127 + 2 ^ 118 + 2 ^ 115 + 2 ^ 113 + (2 ^ 26 - 1) * 2 ^ 32)] } }.w .BOOT_PF_PRIV_LEVEL 0 4, .pf 1, by decide⟩,
   ⟨z0, .pf 0, by decide⟩⟩

theorem witness_NvmAndFuses :
    (∃ (s : State) (r : Req), s.Overlock ∧ s.Grants r true .BOOT_NVM_CMD 0 0 ∧ s.dev ≠ .failSilent ∧ s.on .BOOT_NVM_STATUS_BUSY = false) ∧
    (∃ (s : State) (r : Req) (n : BitVec 17), s.Overlock ∧ s.Grants r true .BOOT_NVM_CMD 0 0 ∧ s.dev ≠ .failSilent ∧ s.on .BOOT_NVM_STATUS_BUSY = false ∧ s.sectorKept n.toNat = false) ∧
    (∃ (s : State) (r : Req) (n : BitVec 17), s.Overlock ∧ s.Grants r true .BOOT_NVM_CMD 0 0 ∧ s.dev ≠ .failSilent ∧ s.on .BOOT_NVM_STATUS_BUSY = false ∧ s.sectorKept n.toNat = false) ∧
    (∃ (s : State) (r : Req) (n : BitVec 17) (c : Instr) (res : NvmRes), s.Overlock ∧ s.Grants r true .BOOT_NVM_CMD 0 0 ∧ s.dev ≠ .failSilent ∧ c ∈ [Instr.nvmProgram r n res, .nvmErase r n res] ∧ s.on .BOOT_NVM_STATUS_BUSY = false ∧ s.sectorKept n.toNat = true) ∧
    (∃ (s : State) (r : Req) (k : Fin 4), s.Overlock ∧ s.Grants r true .BOOT_NVM_CMD 0 0 ∧ s.dev ≠ .failSilent ∧ s.on .BOOT_NVM_STATUS_BUSY = false ∧ s.dev = .recovery ∧ s.boot.otpKey.get none k = none) ∧
    (∃ (s : State) (r : Req), s.Overlock ∧ s.Grants r true .BOOT_NVM_CMD 0 0 ∧ s.dev ≠ .failSilent ∧ s.on .BOOT_NVM_STATUS_BUSY = false ∧ s.dev = .recovery) ∧
    (∃ (s : State) (r : Req), s.Overlock ∧ s.Grants r true .BOOT_NVM_CMD 0 0 ∧ s.dev ≠ .failSilent ∧ s.on .BOOT_NVM_STATUS_BUSY = false ∧ s.dev ≠ .recovery) ∧
    (∃ (s : State) (r : Req), s.Overlock ∧ s.Grants r true .BOOT_NVM_CMD 0 0 ∧ s.dev ≠ .failSilent ∧ s.on .BOOT_NVM_STATUS_BUSY = true) :=
  ⟨⟨z0, .pf 0, by decide⟩,
   ⟨z0, .pf 0, 0x1FFFF, by decide⟩,
   ⟨z0, .pf 0, 0x1FFFF, by decide⟩,
   ⟨z0, .pf 0, 0, .nvmProgram (.pf 0) 0 .ok, .ok, by decide⟩,
   ⟨{ z0 with dev := .recovery }, .pf 0, 3, by decide⟩,
   ⟨{ z0 with dev := .recovery }, .pf 0, by decide⟩,
   ⟨z0, .pf 0, by decide⟩,
   ⟨z0.w .BOOT_NVM_STATUS_BUSY 0 1, .pf 0, by decide⟩⟩

theorem witness_Basting_1 :
    (∃ (s : State) (r : Req) (g : Fin 16) (wide : Bool) (addr : BitVec 26), s.Overlock ∧ s.Grants r true .BOOT_BASTE_CMD 0 0 ∧ s.on .BOOT_BASTE_STATUS_BUSY = false ∧ (∀ y, regOver addr.toNat = some y → y.reg.hasX = false) ∧ s.allowed r true 0 addr.toNat (if wide then 8 else 4) = true ∧ s.bastePlaces < 8192 ∧ (s.grpState g = 0 ∨ s.grpState g = 1)) ∧
    (∃ (s : State) (r : Req) (addr : BitVec 26) (y : RegRef), s.Overlock ∧ s.Grants r true .BOOT_BASTE_CMD 0 0 ∧ s.on .BOOT_BASTE_STATUS_BUSY = false ∧ regOver addr.toNat = some y ∧ y.reg.hasX = true) ∧
    (∃ (s : State) (r : Req) (g : Fin 16) (d : Dom), s.Overlock ∧ s.Grants r true .BOOT_BASTE_CMD 0 0 ∧ s.on .BOOT_BASTE_STATUS_BUSY = false ∧ s.grpState g = 1 ∧ s.voted d + 2000000 * nsT ≤ s.basteTime) ∧
    (∃ (s : State) (r : Req) (g : Fin 16) (d : Dom), s.Overlock ∧ s.Grants r true .BOOT_BASTE_CMD 0 0 ∧ s.on .BOOT_BASTE_STATUS_BUSY = false ∧ s.grpState g = 1 ∧ s.basteTime < s.voted d + 2000000 * nsT) ∧
    (∃ (s : State) (r : Req) (g : Fin 16), s.Overlock ∧ s.Grants r true .BOOT_BASTE_CMD 0 0 ∧ s.on .BOOT_BASTE_STATUS_BUSY = false ∧ (s.grpState g = 1 ∨ s.grpState g = 2 ∨ s.grpState g = 4)) ∧
    (∃ (s : State) (r : Req) (g : Fin 16), s.Overlock ∧ s.Grants r true .BOOT_BASTE_CMD 0 0 ∧ s.on .BOOT_BASTE_STATUS_BUSY = false ∧ s.grpState g = 3) ∧
    (∃ (s : State) (r : Req) (addr : BitVec 26) (x : RegRef), s.Overlock ∧ s.Grants r true .BOOT_BASTE_CMD 0 0 ∧ s.on .BOOT_BASTE_STATUS_BUSY = false ∧ regOver addr.toNat = some x ∧ x.reg ≠ .BOOT_BASTE_CMD ∧ (∃ f ∈ x.reg.fields, (s.pendingB x f).isSome = true)) ∧
    (∃ (s : State) (r : Req) (addr : BitVec 26), s.Overlock ∧ s.Grants r true .BOOT_BASTE_CMD 0 0 ∧ s.on .BOOT_BASTE_STATUS_BUSY = false ∧ (∀ x, regOver addr.toNat = some x → ∀ f ∈ x.reg.fields, s.pendingB x f = none)) ∧
    (∃ (s : State) (r : Req) (g : Fin 16) (c : Instr) (wide : Bool) (d : Dom) (addr : BitVec 26), s.Overlock ∧ s.Grants r true .BOOT_BASTE_CMD 0 0 ∧ c ∈ [Instr.basteStage r g wide addr, .basteCommit r g d, .basteAbort r g, .bastePeek r addr] ∧ s.on .BOOT_BASTE_STATUS_BUSY = true) :=
  ⟨⟨z0, .pf 0, 15, true, (BitVec.ofNat 26 (addrOf .INTC_ENABLE 127 0)), ⟨by decide, by decide, by decide, fun y h => (by cases (show some ⟨.INTC_ENABLE, 127, 0⟩ = some y from h); decide), by decide, by decide, by decide⟩⟩,
   ⟨z0, .pf 0, (BitVec.ofNat 26 (addrOf .TPL_DOM_MAP 7 0)), ⟨.TPL_DOM_MAP, 7, 0⟩, by decide⟩,
   ⟨((z0.setGrpState 15 1).w .BOOT_BASTE_TIME_NS_NS 0 2000000), .pf 0, 15, 7, by decide⟩,
   ⟨((z0.setGrpState 15 1).w .BOOT_BASTE_TIME_NS_NS 0 1999999), .pf 0, 15, 7, by decide⟩,
   ⟨z0.setGrpState 15 4, .pf 0, 15, by decide⟩,
   ⟨z0.setGrpState 15 3, .pf 0, 15, by decide⟩,
   ⟨z0.setPendingB ⟨.TPL_PORT_TS, 0, 0⟩ .TPL_PORT_TS_TX_LAT (some 5), .pf 0, (BitVec.ofNat 26 (addrOf .TPL_PORT_TS 0 0)), ⟨.TPL_PORT_TS, 0, 0⟩, by decide⟩,
   ⟨z0, .pf 0, (BitVec.ofNat 26 (addrOf .INTC_ENABLE 127 0)), ⟨by decide, by decide, by decide, fun y h => (by cases (show some ⟨.INTC_ENABLE, 127, 0⟩ = some y from h); decide)⟩⟩,
   ⟨z0.w .BOOT_BASTE_STATUS_BUSY 0 1, .pf 0, 15, .basteAbort (.pf 0) 15, true, 7, 0, by decide⟩⟩

theorem witness_Basting_2 :
    (∃ (s : State) (g : Fin 16), s.Overlock ∧ s.dev ≠ .off ∧ s.gclDue g = true ∧ (∀ w ∈ (s.grp g).writes, w.commitPort = none)) ∧
    (∃ (s : State) (g : Fin 16) (w : Staged1) (p : Nat), s.Overlock ∧ s.dev ≠ .off ∧ s.gclDue g = true ∧ (s.grp g).writes = [w] ∧ w.commitPort = some p ∧ s.switchPending p = true ∧ (s.grp g).late = false) ∧
    (∃ (s : State) (g : Fin 16), s.Overlock ∧ s.dev ≠ .off ∧ s.gclDue g = false) ∧
    (∃ (s : State) (g : Fin 16) (i : Fin 128) (v : BitVec 32), s.Overlock ∧ s.dev ≠ .off ∧ s.releaseDue g = true ∧ (s.grp g).writes = [⟨addrOf .INTC_ENABLE i 0, false, v.toNat, none⟩]) ∧
    (∃ (s : State) (g : Fin 16), s.Overlock ∧ s.dev ≠ .off ∧ s.releaseDue g = false) :=
  ⟨⟨z0.setGrpState 15 2, 15, by decide⟩,
   ⟨((z0.setGrp 15 ⟨[(⟨addrOf .SHTL_GCL_CTRL 127 0, false, 1, none⟩ : Staged1)], 0, 0, false, false⟩).setGrpState 15 2).w .SHTL_GCL_STATUS_PENDING 127 1, 15, (⟨addrOf .SHTL_GCL_CTRL 127 0, false, 1, none⟩ : Staged1), 127, by decide⟩,
   ⟨z0, 15, by decide⟩,
   ⟨(z0.setGrp 15 ⟨[⟨addrOf .INTC_ENABLE 127 0, false, 5, none⟩], 0, 0, true, false⟩).setGrpState 15 3, 15, 127, 5, by decide⟩,
   ⟨z0, 15, by decide⟩⟩

theorem witness_FaultRecords :
    (∃ (s : State), s.Overlock ∧ s.dev ≠ .off ∧ s.thim.queue.length < 64 ∧ s.thim.handling = [] ∧ s.fatalHandling = false) ∧
    (∃ (s : State), s.Overlock ∧ s.dev ≠ .off ∧ 64 ≤ s.thim.queue.length) ∧
    (∃ (s : State), s.Overlock ∧ s.dev ≠ .off ∧ s.dev ≠ .failSilent) ∧
    (∃ (s : State) (r : Req) (k : Fin 8) (sev : Fin 4), s.Overlock ∧ s.dev ≠ .off ∧ s.Grants r true .THIM_ACK 0 0 ∧ r = .sp k ∧ s.fatalHandling = false ∧ sev ≠ 0 ∧ s.thim.handling.head? = some sev.val ∧ s.thim.waiting = [] ∧ (¬(sev = 2 ∧ s.dev = .lead ∧ s.on .THIM_CTRL_SWAP_ON_DEGRADED = true))) ∧
    (∃ (s : State) (r : Req) (sev : Fin 4), s.Overlock ∧ s.dev ≠ .off ∧ s.Grants r true .THIM_ACK 0 0 ∧ (s.fatalHandling = true ∨ s.thim.handling.head? ≠ some sev.val)) ∧
    (∃ (s : State) (r : Req), s.Overlock ∧ s.dev ≠ .off ∧ s.Grants r false .THIM_FAULT_LOG 0 0) ∧
    (∃ (s : State) (r : Req), s.Overlock ∧ s.dev ≠ .off ∧ s.Grants r true .THIM_INJECT 0 0 ∧ s.dev ≠ .test) ∧
    (∃ (s : State) (r : Req) (sm : BitVec 8), s.Overlock ∧ s.dev ≠ .off ∧ s.Grants r true .THIM_INJECT 0 0 ∧ s.dev = .test ∧ sm.toNat ∈ [18, 19, 20, 22]) ∧
    (∃ (s : State) (r : Req) (sm : BitVec 8), s.Overlock ∧ s.dev ≠ .off ∧ s.Grants r true .THIM_INJECT 0 0 ∧ s.dev = .test ∧ sm.toNat ∈ [6, 7, 13, 14, 15, 16, 17]) :=
  ⟨⟨z0, by decide⟩,
   ⟨{ z0 with thim := { queue := List.replicate 64 (⟨2, 6, 0, 0, 0⟩ : FaultRec) } }, by decide⟩,
   ⟨z0, by decide⟩,
   ⟨{ z0 with thim := { handling := [3] } }, .sp 7, 7, 3, by decide⟩,
   ⟨z0, .sp 7, 3, by decide⟩,
   ⟨z0, .sp 7, by decide⟩,
   ⟨z0, .sp 7, by decide⟩,
   ⟨{ z0 with dev := .test }, .sp 7, 22, by decide⟩,
   ⟨{ z0 with dev := .test }, .sp 7, 17, by decide⟩⟩

theorem witness_Monitors :
    (∃ (s : State) (r : Req) (k : Fin 8), s.Overlock ∧ s.dev ≠ .off ∧ s.Grants r true .THIM_WDOG 0 0 ∧ r = .sp k) ∧
    (∃ (s : State) (r : Req) (key : BitVec 16), s.Overlock ∧ s.dev ≠ .off ∧ s.Grants r true .THIM_WDOG 0 0 ∧ key ≠ 0x5A5A) ∧
    (∃ (s : State), s.Overlock ∧ s.dev ≠ .off ∧ s.thim.wdogL + 10000000 * nsT ≤ s.lNow) ∧
    (∃ (s : State), s.Overlock ∧ s.dev ≠ .off ∧ s.lNow < s.thim.wdogL + 10000000 * nsT) ∧
    (∃ (s : State) (u : Supply), s.Overlock ∧ s.dev ≠ .off ∧ (u = .vddq ∨ u = .vdd2)) ∧
    (∃ (s : State) (u : Supply), s.Overlock ∧ s.dev ≠ .off ∧ u ≠ .vddq ∧ u ≠ .vdd2) ∧
    (∃ (s : State) (l : List (BitVec 12)), s.Overlock ∧ s.dev ≠ .off ∧ l.length = 8) ∧
    (∃ (s : State) (u : Fin 8), s.Overlock ∧ s.dev ≠ .off ∧ 2 ≤ s.thim.hot.get 0 (2 * u) ∧ s.thim.hot.get 0 (2 * u) - 2 + 1000000 * nsT ≤ s.lNow) ∧
    (∃ (s : State) (u : Fin 8), s.Overlock ∧ s.dev ≠ .off ∧ 2 ≤ s.thim.hot.get 0 (2 * u + 1) ∧ s.thim.hot.get 0 (2 * u + 1) - 2 + 1000000 * nsT ≤ s.lNow) ∧
    (∃ (s : State) (k : Fin 8), s.Overlock ∧ s.dev ≠ .off ∧ s.pairOn k = true ∧ k.val < 5) ∧
    (∃ (s : State) (k : Fin 8), s.Overlock ∧ s.dev ≠ .off ∧ s.pairOn k = true ∧ 5 ≤ k.val) ∧
    (∃ (s : State), s.Overlock ∧ s.dev ≠ .off) ∧
    (∃ (s : State) (b : Bolt), s.Overlock ∧ s.dev ≠ .off ∧ (∃ e ∈ (s.bo b).probes, e.2 + 75000 * nsT ≤ s.lNow)) ∧
    (∃ (s : State) (b : Bolt), s.Overlock ∧ s.dev ≠ .off ∧ (∀ e ∈ (s.bo b).probes, s.lNow < e.2 + 75000 * nsT)) ∧
    (∃ (s : State) (b : Bolt) (d : Int), s.Overlock ∧ s.dev ≠ .off ∧ (s.bo b).lost + d = 0) ∧
    (∃ (s : State) (b : Bolt) (d : Int), s.Overlock ∧ s.dev ≠ .off ∧ (s.bo b).lost + d ≠ 0) ∧
    (∃ (s : State), s.Overlock ∧ s.dev ≠ .off) ∧
    (∃ (s : State), s.Overlock ∧ s.dev ≠ .off) :=
  ⟨⟨z0, .sp 7, 7, by decide⟩,
   ⟨z0, .sp 7, 0x5A5B, by decide⟩,
   ⟨z0.at' 10000000, by decide⟩,
   ⟨z0.at' 9999999, by decide⟩,
   ⟨z0, .vddq, by decide⟩,
   ⟨z0, .vaux, by decide⟩,
   ⟨z0, List.replicate 8 0xFFF, by decide⟩,
   ⟨{ z0 with thim := { hot := [(14, 2)] } }.at' 1000000, 7, by decide⟩,
   ⟨{ z0 with thim := { hot := [(15, 2)] } }.at' 1000000, 7, by decide⟩,
   ⟨z0.w .INTC_CORE_CFG_EN 4 1, 4, by decide⟩,
   ⟨z0.w .INTC_CORE_CFG_EN 5 1, 5, by decide⟩,
   ⟨z0, by decide⟩,
   ⟨((bolt0 { probes := [(5, 0)] }).at' 75000), 0, by decide⟩,
   ⟨((bolt0 { probes := [(5, 0)] }).at' 74999), 0, by decide⟩,
   ⟨bolt0 { lost := 2 }, 0, -2, by decide⟩,
   ⟨bolt0 { lost := 2 }, 0, -1, by decide⟩,
   ⟨z0, by decide⟩,
   ⟨z0, by decide⟩⟩

theorem witness_ScrubberTestsDumpAndRestart_1 :
    (∃ (s : State), s.Overlock ∧ s.dev ≠ .off) ∧
    (∃ (s : State), s.Overlock ∧ s.dev ≠ .off ∧ s.thim.queue.length < 64) ∧
    (∃ (s : State), s.Overlock ∧ s.dev ≠ .off ∧ s.pairOn 7 = true ∧ s.alive = true ∧ s.latentMin * 60 ≤ (s.lNow / secT % 2 ^ 32 + 2 ^ 32 - s.fld .THIM_LATENT_STATUS_LAST_S) % 2 ^ 32) ∧
    (∃ (s : State) (f : BitVec 11), s.Overlock ∧ s.dev ≠ .off ∧ f ≠ 0 ∧ s.pairOn 7 = true ∧ s.alive = true ∧ s.latentMin * 60 ≤ (s.lNow / secT % 2 ^ 32 + 2 ^ 32 - s.fld .THIM_LATENT_STATUS_LAST_S) % 2 ^ 32) ∧
    (∃ (s : State) (k : Fin 11), s.Overlock ∧ s.dev ≠ .off ∧ s.thim.overdue.testBit k = false ∧ s.thim.testPass.get 0 k + 7200 * secT ≤ s.lNow) ∧
    (∃ (s : State) (k : Fin 11), s.Overlock ∧ s.dev ≠ .off ∧ s.thim.overdue.testBit k = true) :=
  ⟨⟨z0, by decide⟩,
   ⟨z0, by decide⟩,
   ⟨((z0.w .INTC_CORE_CFG_EN 7 1).at' 7200000000000), by decide⟩,
   ⟨((z0.w .INTC_CORE_CFG_EN 7 1).at' 7200000000000), 1024, by decide⟩,
   ⟨((z0.w .INTC_CORE_CFG_EN 7 1).at' 7200000000000), 10, by decide⟩,
   ⟨{ z0 with thim := { overdue := 1024 } }, 10, by decide⟩⟩

theorem witness_ScrubberTestsDumpAndRestart_2 :
    (∃ (s : State), s.Overlock ∧ s.dev = .failSilent ∧ s.thim.fatal.isSome = true ∧ s.fld .THIM_STATUS_DUMP = 0 ∧ s.fld .THIM_DUMP_BASE_SPACE = 2 ∧ s.pairOn 0 = true ∧ s.dumpArea + 0x1_0000 ≤ 0x20_0000 ∧ s.thim.queue.length ≤ 64 ∧ s.thim.fatalDoms.length = 8) ∧
    (∃ (s : State), s.Overlock ∧ s.dev = .failSilent ∧ s.fld .THIM_STATUS_DUMP = 1 ∧ s.fld .THIM_DUMP_BASE_SPACE = 2 ∧ s.dumpArea + 7 ≤ 0x20_0000) ∧
    (∃ (s : State) (c : Instr), s.Overlock ∧ c ∈ [Instr.fatalDumpWrite, .fatalDumpComplete, .thimbleRestart] ∧ s.dev ≠ .failSilent) ∧
    (∃ (s : State), s.Overlock ∧ s.dev = .failSilent ∧ s.on .THIM_CTRL_RESTART = true ∧ s.restartFrom + max 1 (s.fld .THIM_CTRL_RESTART_DELAY) * secT ≤ s.lNow ∧ s.fld .THIM_STATUS_RESTART_CNT < max 1 (s.fld .THIM_CTRL_RESTART_MAX)) ∧
    (∃ (s : State), s.Overlock ∧ s.dev = .failSilent ∧ (s.on .THIM_CTRL_RESTART = false ∨ max 1 (s.fld .THIM_CTRL_RESTART_MAX) ≤ s.fld .THIM_STATUS_RESTART_CNT)) ∧
    (∃ (s : State) (x : _), s.Overlock ∧ s.thim.serviceSince = some x ∧ s.dev.inService = true ∧ x + 3600 * secT ≤ s.lNow) ∧
    (∃ (s : State) (x : _), s.Overlock ∧ s.thim.serviceSince = some x ∧ s.lNow < x + 3600 * secT) :=
  ⟨⟨(({ z0 with dev := .failSilent, pair := { fsDrive := true }, thim := { fatal := some (⟨2, 6, 0, 0, 0⟩ : FaultRec), fatalDoms := List.replicate 8 0 } }.w .THIM_DUMP_BASE_SPACE 0 2).w .THIM_DUMP_BASE_ADDR 0 31).w .INTC_CORE_CFG_EN 0 1, by decide⟩,
   ⟨(({ z0 with dev := .failSilent, pair := { fsDrive := true }, thim := { fatal := some (⟨2, 6, 0, 0, 0⟩ : FaultRec), fatalDoms := List.replicate 8 0 } }.w .THIM_DUMP_BASE_SPACE 0 2).w .THIM_DUMP_BASE_ADDR 0 31).w .THIM_STATUS_DUMP 0 1, by decide⟩,
   ⟨z0, .thimbleRestart, by decide⟩,
   ⟨({ z0 with dev := .failSilent, pair := { fsDrive := true }, thim := { fatal := some (⟨2, 6, 0, 0, 0⟩ : FaultRec), fatalDoms := List.replicate 8 0 } }.w .THIM_CTRL_RESTART 0 1).at' 20000000000, by decide⟩,
   ⟨{ z0 with dev := .failSilent, pair := { fsDrive := true }, thim := { fatal := some (⟨2, 6, 0, 0, 0⟩ : FaultRec), fatalDoms := List.replicate 8 0 } }.w .THIM_CTRL_RESTART 0 0, by decide⟩,
   ⟨{ z0 with dev := .lead, thim := { serviceSince := some 0 } }.at' 3600000000000, 0, by decide⟩,
   ⟨{ z0 with thim := { serviceSince := some 0 } }, 0, by decide⟩⟩

theorem witness_OverlockToken :
    (∃ (s : State), s.Overlock ∧ s.on .PAIR_STATUS_TOKEN_DRV = true ∧ s.alive = true) ∧
    (∃ (s : State), s.Overlock ∧ s.on .PAIR_STATUS_TOKEN_DRV = true ∧ s.pair.refreshL + 2000 * nsT ≤ s.lNow) ∧
    (∃ (s : State), s.Overlock ∧ s.lNow < s.pair.refreshL + 2000 * nsT) ∧
    (∃ (s : State), s.Overlock ∧ s.on .PAIR_STATUS_TOKEN_DRV = true ∧ s.pair.claiming = true) ∧
    (∃ (s : State), s.Overlock ∧ s.on .PAIR_STATUS_TOKEN_DRV = true ∧ s.pair.claiming = false ∧ (¬(s.role = 1 ∧ s.right = true))) ∧
    (∃ (s : State), s.Overlock ∧ s.dev = .shadow ∧ s.role = 3 ∧ s.pair.claiming = false ∧ s.on .PAIR_STATUS_TOKEN_DRV = false ∧ (s.pair.fsIn = true ∨ s.allSilent = true)) ∧
    (∃ (s : State), s.Overlock ∧ s.dev ≠ .off ∧ s.pair.fsIn = false ∧ s.allSilent = false) ∧
    (∃ (s : State), s.Overlock ∧ s.dev = .boot ∧ s.role = 1 ∧ s.on .PAIR_STATUS_TOKEN_DRV = false ∧ s.claimDue = true ∧ s.lNow < s.pair.joinSince + 500000000 * nsT) ∧
    (∃ (s : State), s.Overlock ∧ s.dev = .boot ∧ s.role = 1 ∧ s.on .PAIR_STATUS_TOKEN_DRV = false ∧ s.overlockOn = true ∧ s.lNow < s.pair.joinSince + 500000000 * nsT ∧ s.claimDue = true) ∧
    (∃ (s : State) (x : _), s.Overlock ∧ s.dev = .shadow ∧ s.role = 3 ∧ s.on .PAIR_SWAP_STATUS_PENDING = true ∧ s.pair.swapAt = some x ∧ x ≤ s.swapNow + 1000 * nsT) ∧
    (∃ (s : State), s.Overlock ∧ s.role = 3 ∧ s.on .PAIR_STATUS_TOKEN_DRV = true ∧ s.pair.preDriven = false ∧ s.pair.claiming = false ∧ s.pair.lastSwapL + 1000 * nsT ≤ s.lNow) :=
  ⟨⟨((inPair .lead 2).w .PAIR_STATUS_TOKEN_DRV 0 1), by decide⟩,
   ⟨((inPair .lead 2).w .PAIR_STATUS_TOKEN_DRV 0 1).at' 2000, by decide⟩,
   ⟨z0.at' 1999, by decide⟩,
   ⟨{ ((inPair .lead 2).w .PAIR_STATUS_TOKEN_DRV 0 1) with pair := { claiming := true } }, by decide⟩,
   ⟨((inPair .lead 2).w .PAIR_STATUS_TOKEN_DRV 0 1), by decide⟩,
   ⟨{ (inPair .shadow 3) with pair := { fsIn := true } }, by decide⟩,
   ⟨z0.at' 3999, by decide⟩,
   ⟨(inPair .boot 1).at' 20000000, by decide⟩,
   ⟨(inPair .boot 1).at' 20000000, by decide⟩,
   ⟨({ (inPair .shadow 3) with pair := { swapAt := some (1000 * nsT) } }.w .PAIR_SWAP_STATUS_PENDING 0 1), 1000 * nsT, by decide⟩,
   ⟨((inPair .shadow 3).w .PAIR_STATUS_TOKEN_DRV 0 1).at' 1000, by decide⟩⟩

theorem witness_PartnerSupervision :
    (∃ (s : State), s.Overlock ∧ s.pairAlive = true ∧ s.overlockOn = true) ∧
    (∃ (s : State), s.Overlock ∧ s.pairAlive = false) ∧
    (∃ (s : State), s.Overlock ∧ s.dev ≠ .off ∧ s.overlockOn = true) ∧
    (∃ (s : State) (path : Fin 3), s.Overlock ∧ s.dev ≠ .off ∧ path ≠ 2) ∧
    (∃ (s : State) (st : Fin 10), s.Overlock ∧ s.pairAlive = true ∧ s.role = 3 ∧ st.val < 8) ∧
    (∃ (s : State) (st : Fin 10), s.Overlock ∧ s.alive = true ∧ s.role = 1 ∧ s.pair.claimL = none ∧ s.overlockOn = true ∧ st.val < 8) ∧
    (∃ (s : State) (x : Nat), s.Overlock ∧ s.alive = true ∧ s.role = 2 ∧ s.right = true ∧ s.pair.claimL = some x ∧ s.lNow ≤ x + 10000 * nsT) ∧
    (∃ (s : State), s.Overlock ∧ s.pairAlive = true ∧ s.allSilent = true ∧ s.role = 2 ∧ s.peer ≠ 2) ∧
    (∃ (s : State), s.Overlock ∧ s.dev = .shadow ∧ s.role = 3 ∧ s.allSilent = true ∧ s.pair.claiming = false ∧ s.on .PAIR_STATUS_TOKEN_DRV = false) ∧
    (∃ (s : State), s.Overlock ∧ s.dev = .shadow ∧ s.role = 3 ∧ s.allSilent = true ∧ s.overlockOn = true ∧ s.peer ≠ 3) ∧
    (∃ (s : State), s.Overlock ∧ s.dev = .shadow ∧ s.role = 3 ∧ s.overlockOn = true ∧ s.pair.claiming = false ∧ s.on .PAIR_STATUS_TOKEN_DRV = false) ∧
    (∃ (s : State), s.Overlock ∧ s.dev = .lead ∧ s.role = 2 ∧ s.overlockOn = true ∧ s.peer ≠ 2) ∧
    (∃ (s : State) (x : _), s.Overlock ∧ s.dev ≠ .off ∧ s.role = 3 ∧ s.peer = 3 ∧ s.pair.silentSince = some x ∧ x + 10000000 * nsT ≤ s.lNow) ∧
    (∃ (s : State), s.Overlock ∧ s.dev ≠ .off ∧ s.on .PAIR_STATUS_PL0_OK = true ∧ s.pair.lastPl0 + 10000 * nsT ≤ s.lNow) :=
  ⟨⟨(inPair .boot 1), by decide⟩,
   ⟨z0, by decide⟩,
   ⟨z0, by decide⟩,
   ⟨z0, 1, by decide⟩,
   ⟨(inPair .boot 3), 7, by decide⟩,
   ⟨(inPair .boot 1), 7, by decide⟩,
   ⟨{ (inPair .boot 2).w .PAIR_STATUS_SIDE 0 1 with pair := { claimL := some 0 } }.at' 10000, 0, by decide⟩,
   ⟨(inPair .lead 2).at' 4000, by decide⟩,
   ⟨((inPair .shadow 3)).at' 4000, by decide⟩,
   ⟨((inPair .shadow 3)).at' 4000, by decide⟩,
   ⟨(inPair .shadow 3), by decide⟩,
   ⟨(inPair .lead 2), by decide⟩,
   ⟨({ (inPair .shadow 3) with pair := { silentSince := some 0 } }.w .PAIR_STATUS_PEER 0 3).at' 10000000, 0, by decide⟩,
   ⟨(z0.w .PAIR_STATUS_PL0_OK 0 1).at' 10000, by decide⟩⟩

theorem witness_TakeoversAndSwaps :
    (∃ (s : State) (x : _), s.Overlock ∧ s.dev = .shadow ∧ s.role = 3 ∧ s.pair.claiming = true ∧ s.pair.claimL = some x ∧ s.lNow ≤ x + 200 * nsT ∧ s.overlockOn = true) ∧
    (∃ (s : State), s.Overlock ∧ s.pair.claiming = false ∧ s.dev ≠ .off) ∧
    (∃ (s : State) (c : Instr) (r : Req) (x : Nat), s.Overlock ∧ (c = .swapRequest r ∧ s.Grants r true .PAIR_SWAP_CMD 0 0) ∨ (c = .drillTimer ∧ s.fld .PAIR_DRILL_CFG_PERIOD ≠ 0 ∧ s.pair.lastSwapL + s.fld .PAIR_DRILL_CFG_PERIOD * 3600 * secT ≤ s.lNow ∧ s.pair.postponedL = none) ∨ (c = .swapPostponeExpiry ∧ s.pair.postponedL = some x ∧ x + 3600 * secT ≤ s.lNow) ∧ s.dev = .lead ∧ s.role = 2 ∧ s.pair.swapAt = none ∧ s.peer = 1 ∧ s.inSync s.swapDom = true) ∧
    (∃ (s : State) (r : Req), s.Overlock ∧ s.Grants r true .PAIR_SWAP_CMD 0 0 ∧ s.dev = .lead ∧ s.role = 2 ∧ s.pair.swapAt = none ∧ (s.peer ≠ 1 ∨ s.inSync s.swapDom = false)) ∧
    (∃ (s : State), s.Overlock ∧ s.lNow < s.pair.lastSwapL + s.fld .PAIR_DRILL_CFG_PERIOD * 3600 * secT) ∧
    (∃ (s : State), s.Overlock ∧ s.role = 3 ∧ s.swapReady = true) ∧
    (∃ (s : State), s.Overlock ∧ s.pairAlive = true ∧ s.swapReady = false) ∧
    (∃ (s : State), s.Overlock ∧ s.alive = true ∧ s.role = 2 ∧ s.pair.swapAt ≠ none ∧ s.on .PAIR_SWAP_STATUS_PENDING = false) ∧
    (∃ (s : State), s.Overlock ∧ s.alive = true ∧ s.role = 2 ∧ s.pair.swapAt ≠ none ∧ s.on .PAIR_SWAP_STATUS_PENDING = false) ∧
    (∃ (s : State) (x : _), s.Overlock ∧ s.dev = .lead ∧ s.role = 2 ∧ s.on .PAIR_SWAP_STATUS_PENDING = true ∧ s.pair.swapAt = some x ∧ x ≤ s.swapNow) ∧
    (∃ (s : State) (x : _), s.Overlock ∧ s.dev = .shadow ∧ s.role = 3 ∧ s.on .PAIR_SWAP_STATUS_PENDING = true ∧ s.pair.swapAt = some x ∧ x ≤ s.swapNow) ∧
    (∃ (s : State) (x : _), s.Overlock ∧ s.pair.swapAt = some x ∧ s.swapNow < x) ∧
    (∃ (s : State) (x : _), s.Overlock ∧ s.dev ≠ .off ∧ s.pair.claimL = some x ∧ x + 200 * nsT < s.lNow) :=
  ⟨⟨{ (inPair .shadow 3).loadCnts 8 (200 * nsT) with pair := { claiming := true, claimL := some 0 } }, 0, by decide⟩,
   ⟨z0, by decide⟩,
   ⟨((((inPair .lead 2)).w .PAIR_STATUS_PEER 0 1).w .TPL_SYNC_STATUS_IN_SYNC 0 1), .swapRequest (.sp 7), .sp 7, 0, by decide⟩,
   ⟨(inPair .lead 2), .sp 7, by decide⟩,
   ⟨z0.w .PAIR_DRILL_CFG_PERIOD 0 1, by decide⟩,
   ⟨{ (inPair .shadow 3).w .TPL_SYNC_STATUS_IN_SYNC 0 1 with thim := { testPass := (List.range 11).map fun k => (k, 1) } }, by decide⟩,
   ⟨(inPair .boot 1), by decide⟩,
   ⟨{ (inPair .lead 2) with pair := { swapAt := some 5 } }, by decide⟩,
   ⟨{ (inPair .lead 2) with pair := { swapAt := some 5 } }, by decide⟩,
   ⟨{ (inPair .lead 2) with pair := { swapAt := some 0 } }.w .PAIR_SWAP_STATUS_PENDING 0 1, 0, by decide⟩,
   ⟨{ (inPair .shadow 3) with pair := { swapAt := some 0 } }.w .PAIR_SWAP_STATUS_PENDING 0 1, 0, by decide⟩,
   ⟨{ z0 with pair := { swapAt := some 1 } }, 1, by decide⟩,
   ⟨{ z0.loadCnts 8 (200 * nsT + 1) with pair := { claiming := true, claimL := some 0 } }, 0, by decide⟩⟩

theorem witness_MirrorsAndPeerReads :
    (∃ (s : State) (d : Dom), s.Overlock ∧ s.dev ≠ .off ∧ s.role = 3 ∧ (s.fld .PAIR_CFG_GM_DOMAINS).testBit d = true) ∧
    (∃ (s : State) (d : Dom), s.Overlock ∧ s.dev ≠ .off ∧ (s.role ≠ 3 ∨ (s.fld .PAIR_CFG_GM_DOMAINS).testBit d = false)) ∧
    (∃ (s : State) (p : Port) (e : List (BitVec 64)), s.Overlock ∧ s.dev ≠ .off ∧ s.role = 3 ∧ s.mdpLead.contains p.val = true ∧ s.switchPending p = false ∧ e.length ≤ 1024) ∧
    (∃ (s : State) (p : Port), s.Overlock ∧ s.dev ≠ .off ∧ (s.role ≠ 3 ∨ s.mdpLead.contains p.val = false)) ∧
    (∃ (s : State), s.Overlock ∧ s.dev ≠ .off) ∧
    (∃ (s : State) (p : Port), s.Overlock ∧ s.dev ≠ .off ∧ s.pairAlive = true ∧ s.mdpLead.contains p.val = true ∧ s.role = 3) ∧
    (∃ (s : State) (p : Port), s.Overlock ∧ s.dev ≠ .off ∧ s.pairAlive = true ∧ s.mdpLead.contains p.val = true ∧ s.role = 2) ∧
    (∃ (s : State) (k : Fin 8) (op : Fin 8), s.Overlock ∧ s.dev ≠ .off ∧ s.Grants (.sp k) true .PAIR_PEER_CMD 0 0 ∧ s.on .PAIR_PEER_STATUS_BUSY = false ∧ op.val < 2 ∧ (s.on .PAIR_STATUS_PL0_OK = true ∨ s.on .PAIR_STATUS_PL1_OK = true)) ∧
    (∃ (s : State) (k : Fin 8) (op : Fin 8), s.Overlock ∧ s.dev ≠ .off ∧ s.Grants (.sp k) true .PAIR_PEER_CMD 0 0 ∧ s.on .PAIR_PEER_STATUS_BUSY = false ∧ op.val < 2 ∧ s.on .PAIR_STATUS_PL0_OK = false ∧ s.on .PAIR_STATUS_PL1_OK = false) ∧
    (∃ (s : State), s.Overlock ∧ s.dev ≠ .off) ∧
    (∃ (s : State) (l : List Byte), s.Overlock ∧ s.dev ≠ .off ∧ s.on .PAIR_PEER_STATUS_BUSY = true ∧ l.length = 24 ∧ s.pair.peerAt + 24 < 4096) ∧
    (∃ (s : State) (l : List Byte), s.Overlock ∧ s.dev ≠ .off ∧ s.on .PAIR_PEER_STATUS_BUSY = true ∧ s.pair.peerAt ≤ 4096 ∧ 4096 ≤ s.pair.peerAt + (l.take 24).length) ∧
    (∃ (s : State), s.Overlock ∧ s.dev ≠ .off ∧ s.on .PAIR_PEER_STATUS_BUSY = true ∧ s.pair.peerL + 100000 * nsT ≤ s.lNow) :=
  ⟨⟨(inPair .boot 3).w .PAIR_CFG_GM_DOMAINS 0 128, 7, by decide⟩,
   ⟨z0, 7, by decide⟩,
   ⟨((inPair .lead 2).w .PAIR_CFG_MDP_LEAD 0 0xFFFFFFFF).w .PAIR_STATUS_ROLE 0 3, 127, [5], by decide⟩,
   ⟨z0, 127, by decide⟩,
   ⟨z0, by decide⟩,
   ⟨((inPair .lead 2).w .PAIR_CFG_MDP_LEAD 0 0xFFFFFFFF).w .PAIR_STATUS_ROLE 0 3, 127, by decide⟩,
   ⟨((inPair .lead 2).w .PAIR_CFG_MDP_LEAD 0 0xFFFFFFFF), 127, by decide⟩,
   ⟨z0.w .PAIR_STATUS_PL1_OK 0 1, 7, 1, by decide⟩,
   ⟨z0, 7, 1, by decide⟩,
   ⟨z0, by decide⟩,
   ⟨{ (z0.w .PAIR_PEER_STATUS_BUSY 0 1) with pair := { peerAt := 4071 } }, zs 24, by decide⟩,
   ⟨{ (z0.w .PAIR_PEER_STATUS_BUSY 0 1) with pair := { peerAt := 4072 } }, zs 24, by decide⟩,
   ⟨(z0.w .PAIR_PEER_STATUS_BUSY 0 1).at' 100000, by decide⟩⟩

theorem witness_DumpsAndChalk :
    (∃ (s : State) (j : Fin 4) (x : Nat), s.Overlock ∧ (s.dumpOf j).next = some x ∧ s.alive = true ∧ s.on .TAPE_DUMP_CFG_EN j = true ∧ x ≤ s.voted (s.dumpDom j) ∧ (s.dumpOf j).captured = none) ∧
    (∃ (s : State) (j : Fin 4) (x : Nat), s.Overlock ∧ (s.dumpOf j).next = some x ∧ s.alive = true ∧ s.on .TAPE_DUMP_CFG_EN j = true ∧ x ≤ s.voted (s.dumpDom j) ∧ (s.dumpOf j).captured ≠ none) ∧
    (∃ (s : State) (j : Fin 4) (a : Nat) (b : Nat) (c : Nat) (d : Nat) (e : Nat) (f : Nat) (g : Nat) (h : Nat), s.Overlock ∧ (s.dumpOf j).captured = some [a, b, c, d, e, f, g, h] ∧ s.alive = true ∧ s.areaFits j 1 = true ∧ s.fld .TAPE_OUT_CFG_SPACE j = 2 ∧ s.fld .TAPE_OUT_BASE_BASE j * 4096 + s.fld .TAPE_OUT_PI_PI j % s.areaSize j * 64 + 64 ≤ 0x20_0000) ∧
    (∃ (s : State) (j : Fin 4) (w : List Nat), s.Overlock ∧ (s.dumpOf j).captured = some w ∧ s.alive = true ∧ s.areaFits j (wordLines w).length = false) ∧
    (∃ (s : State) (x : List Byte) (rest : List (List Byte)), s.Overlock ∧ s.tape.fates = x :: rest ∧ s.alive = true ∧ s.on .TAPE_CTRL_CHALK_RUN = true ∧ 1000 ≤ s.chalkTokens ∧ s.areaFits 4 1 = true ∧ s.fld .TAPE_OUT_CFG_SPACE 4 = 0 ∧ (s.pfn (s.fld .TAPE_OUT_CFG_PF 4)).busMaster = true) ∧
    (∃ (s : State) (x : List Byte) (rest : List (List Byte)), s.Overlock ∧ s.tape.fates = x :: rest ∧ s.alive = true ∧ s.on .TAPE_CTRL_CHALK_RUN = true ∧ s.chalkTokens < 1000) ∧
    (∃ (s : State) (r : Req) (p : Port), s.Overlock ∧ s.Grants r true .TAPE_CHALK_CFG p 0) :=
  ⟨⟨(z0.w .TAPE_DUMP_CFG_EN 3 1).setDump 3 { next := some 0 }, 3, 0, by decide⟩,
   ⟨(z0.w .TAPE_DUMP_CFG_EN 3 1).setDump 3 { next := some 0, captured := some [1] }, 3, 0, by decide⟩,
   ⟨(z0.w .TAPE_OUT_CFG_SPACE 3 2).setDump 3 { captured := some [1, 2, 3, 4, 5, 6, 7, 8] }, 3, 1, 2, 3, 4, 5, 6, 7, 8, by decide⟩,
   ⟨(z0.w .TAPE_OUT_CI_CI 3 1).setDump 3 { captured := some [1] }, 3, [1], by decide⟩,
   ⟨{ { z0.w .TAPE_CTRL_CHALK_RUN 0 1 with tape := { fates := [[1]] } } with tape := { fates := [[1]], chalkTok := 1000 } }.setPfn 0 { busMaster := true }, [1], [], by decide⟩,
   ⟨{ { z0.w .TAPE_CTRL_CHALK_RUN 0 1 with tape := { fates := [[1]] } } with tape := { fates := [[1]], chalkTok := 999 } }, [1], [], by decide⟩,
   ⟨z0, .sp 7, 127, by decide⟩⟩

theorem witness_SlotsAndCounters :
    (∃ (s : State) (p : Port), s.Overlock ∧ s.alive = true ∧ s.linkState p = 6 ∧ s.slotT p ≠ 0 ∧ (s.slotAcct p).idle = none ∧ (s.slotAcct p).upAt + (s.slotAcct p).n * s.slotT p + s.slotT p / 2 ≤ s.lNow ∧ s.onWire p = some none) ∧
    (∃ (s : State) (p : Port), s.Overlock ∧ s.alive = true ∧ s.linkState p = 6 ∧ s.slotT p ≠ 0 ∧ (s.slotAcct p).idle = none ∧ (s.slotAcct p).upAt + (s.slotAcct p).n * s.slotT p + s.slotT p / 2 ≤ s.lNow ∧ s.onWire p = none) ∧
    (∃ (s : State) (p : Port) (w : Nat), s.Overlock ∧ s.alive = true ∧ s.linkState p = 6 ∧ s.slotT p ≠ 0 ∧ (s.slotAcct p).idle = some w ∧ (s.slotAcct p).upAt + (s.slotAcct p).n * s.slotT p ≤ s.lNow ∧ s.lNow < (s.slotAcct p).upAt + (s.slotAcct p).n * s.slotT p + s.slotT p / 2) ∧
    (∃ (s : State) (r : Req) (p : Port) (i : Fin 8), s.Overlock ∧ s.Grants r true .TAPE_PEC_CFG p i) ∧
    (∃ (s : State) (r : Req) (g : Fin 16) (i : BitVec 24), s.Overlock ∧ s.Grants r true .TAPE_CNT_CMD 0 0 ∧ s.on .TAPE_CNT_STATUS_BUSY = false ∧ g.val < 7 ∧ i.toNat < (groupOf g).2.2) ∧
    (∃ (s : State) (r : Req) (g : Fin 16) (i : BitVec 24), s.Overlock ∧ s.Grants r true .TAPE_CNT_CMD 0 0 ∧ s.on .TAPE_CNT_STATUS_BUSY = false ∧ g.val < 7 ∧ i.toNat < (groupOf g).2.2 ∧ (s.tape.ctr.map Prod.fst).Nodup) ∧
    (∃ (s : State) (r : Req) (c : Instr) (g : Fin 16) (i : BitVec 24), s.Overlock ∧ c ∈ [Instr.cntClear r g false i, .cntClearOvf r g false i] ∧ s.Grants r true .TAPE_CNT_CMD 0 0 ∧ s.on .TAPE_CNT_STATUS_BUSY = false ∧ (8 ≤ g.val ∨ (g.val < 7 ∧ (groupOf g).2.2 ≤ i.toNat))) ∧
    (∃ (s : State) (r : Req) (i : BitVec 24), s.Overlock ∧ s.Grants r true .TAPE_CNT_CMD 0 0 ∧ s.on .TAPE_CNT_STATUS_BUSY = false ∧ s.tcntKept = true ∧ i.toNat < 262144) ∧
    (∃ (s : State), s.Overlock ∧ s.on .TAPE_CNT_STATUS_BUSY = true) ∧
    (∃ (s : State) (r : Req) (c : Instr) (g : Fin 16) (i : BitVec 24) (all : Bool) (err : Bool), s.Overlock ∧ c ∈ [Instr.cntClear r g all i, .cntClearOvf r g all i, .cntReadFunc r i err] ∧ s.Grants r true .TAPE_CNT_CMD 0 0 ∧ s.on .TAPE_CNT_STATUS_BUSY = true) ∧
    (∃ (s : State) (i : Nat), s.Overlock ∧ s.dev ≠ .off ∧ s.tcntKept = true ∧ s.thim.dramFailed = false ∧ s.tape.dirty = [i] ∧ s.fld .TAPE_TCNT_BASE_BASE * 2 ^ 24 + 64 * i + 64 ≤ s.dma.dramSize) :=
  ⟨⟨{ (lk 127).at' 52 with port := [(127, { tx := some (txOf .express true 0 (1000 * nsT)) })] }, 127, by decide⟩,
   ⟨(lk 127).at' 1000, 127, by decide⟩,
   ⟨(lk 127).setSlotAcct 127 { idle := some 0 }, 127, 0, by decide⟩,
   ⟨z0, .sp 7, 127, 7, by decide⟩,
   ⟨z0, .sp 7, 6, 0, by decide⟩,
   ⟨z0, .sp 7, 6, 0, by decide⟩,
   ⟨z0, .sp 7, .cntClear (.sp 7) 8 false 0, 8, 0, by decide⟩,
   ⟨z0.w .TAPE_TCNT_BASE_EN 0 1, .sp 7, 262143, by decide⟩,
   ⟨(z0.w .TAPE_CNT_STATUS_BUSY 0 1), by decide⟩,
   ⟨(z0.w .TAPE_CNT_STATUS_BUSY 0 1), .sp 7, .cntReadFunc (.sp 7) 0 true, 0, 0, true, true, by decide⟩,
   ⟨{ z0.w .TAPE_TCNT_BASE_EN 0 1 with dma := { dramSize := 256 }, tape := { dirty := [3] } }, 3, by decide⟩⟩

end Sys2Proof.Machine
end

section
/-!
PROOFS. What the accesses to registers do, said once per stage: the address map, the access path, the plain write by class, the pending slots (chapters 00, 14, 18).
-/
namespace Sys2Proof.Machine

/-! ## The end of a command and the memories -/

theorem State.sameMem_of {s t : State} (hl : t.localMem = s.localMem) (hd : t.dram = s.dram) (hn : t.boot.nvm = s.boot.nvm) : s.SameMem t := by
  intro a; rw [hl, hd, hn]; exact ⟨rfl, rfl, rfl⟩

theorem State.SameMem.settle {s t : State} (h : s.SameMem t) : s.SameMem t.settle := by
  intro a; simpa using h a

/-! ## The address map (chapter 18) -/

/-- A register of a port's block stands in the map at its offset in the block, behind the block of its Bolt and lane (Table 18-5). -/
theorem regAt_port {p o k : Nat} {g : Reg} (hp : p < 128) (ho : o < 0x1_0000) (h : lookupRows mapRowsPort o = some (g, k)) :
    regAt (0x100_0000 + p / 16 * 0x20_0000 + 0x10_0000 + p % 16 * 0x1_0000 + o) = some ⟨g, p, k⟩ := by
  generalize e : 0x100_0000 + p / 16 * 0x20_0000 + 0x10_0000 + p % 16 * 0x1_0000 + o = a
  have hb : (a - 0x100_0000) / 0x20_0000 = p / 16 := by omega
  have hm : (a - 0x100_0000) % 0x20_0000 = 0x10_0000 + p % 16 * 0x1_0000 + o := by omega
  have hl : (0x10_0000 + p % 16 * 0x1_0000 + o - 0x10_0000) / 0x1_0000 = p % 16 := by rw [Nat.add_assoc, Nat.add_sub_cancel_left]; omega
  have ho' : (0x10_0000 + p % 16 * 0x1_0000 + o) % 0x1_0000 = o := by omega
  have hrows : lookupRows (mapRowsPort ++ mapRowsMultidrop) o = some (g, k) := by
    unfold lookupRows at h ⊢; rw [List.findSome?_append, h, Option.some_or]
  unfold regAt
  rw [if_neg (by omega), if_pos (by omega)]
  dsimp only
  rw [hm, if_neg (by omega), hb, hl, ho']
  split <;> simp only [h, hrows, Option.map_some, Nat.div_add_mod]

theorem addrOf_portTs (p : Nat) : addrOf .TPL_PORT_TS p 0 = 0x100_0000 + p / 16 * 0x20_0000 + 0x10_0000 + p % 16 * 0x1_0000 + 0x100 := rfl
theorem addrOf_qSel (p j : Nat) : addrOf .SHTL_Q_SEL p j = 0x100_0000 + p / 16 * 0x20_0000 + 0x10_0000 + p % 16 * 0x1_0000 + (0x2400 + 8 * j) := by
  rw [← Nat.add_assoc]; rfl
theorem addrOf_domHold (d : Nat) : addrOf .TPL_DOM_HOLD d 0 = 0x1_0410 + 128 * d := rfl
theorem addrOf_domMap (d : Nat) : addrOf .TPL_DOM_MAP d 0 = 0x1_0448 + 128 * d := rfl

theorem regAt_domHold (d : Dom) : regAt (addrOf .TPL_DOM_HOLD d 0) = some ⟨.TPL_DOM_HOLD, d, 0⟩ := by revert d; decide
theorem regAt_domMap (d : Dom) : regAt (addrOf .TPL_DOM_MAP d 0) = some ⟨.TPL_DOM_MAP, d, 0⟩ := by revert d; decide
theorem regAt_portTs (p : Port) : regAt (addrOf .TPL_PORT_TS p 0) = some ⟨.TPL_PORT_TS, p, 0⟩ := by
  rw [addrOf_portTs]; exact regAt_port p.isLt (by decide) (by decide)
theorem lookupRows_qSel (j : Fin 128) : lookupRows mapRowsPort (0x2400 + 8 * j) = some (.SHTL_Q_SEL, j.val) := by revert j; decide
theorem regAt_qSel {p j : Nat} (hp : p < 128) (hj : j < 128) : regAt (addrOf .SHTL_Q_SEL p j) = some ⟨.SHTL_Q_SEL, p, j⟩ := by
  rw [addrOf_qSel]; exact regAt_port hp (by omega) (lookupRows_qSel ⟨j, hj⟩)

/-! ## The access path (R12, R456, R459, R556) -/

/-- An access of good form that R459 admits is carried out. -/
theorem State.accessed_of {s : State} {r : Req} {write : Bool} {bar off len : Nat} (hd : s.dev ≠ .off) (hp : s.present r = true)
    (hf : malformed bar off len = false) (ha : s.allowed r write bar off len = true) (k : State → State) : s.accessed r write bar off len k = k s := by
  simp [State.accessed, State.checked, hd, hp, hf, ha]

/-- A full access at a slot of BAR0 has a good form. -/
theorem malformed_full {g : Reg} {off : Nat} (h8 : off % 8 = 0) : malformed 0 off (regLen g) = false := by
  unfold malformed regLen; split <;> simp <;> omega

/-- A full write of a register of the map that R459 admits is the register's own write, of as many bits as the register has. -/
theorem State.writeAccess_reg {s : State} {r : Req} {g : Reg} {i j : Nat} (hg : s.Grants r true g i j) (hr : regAt (addrOf g i j) = some ⟨g, i, j⟩)
    (h8 : addrOf g i j % 8 = 0) (hlt : addrOf g i j < 0x2F0_0000) (v : Nat) (aux : Bool) :
    s.writeAccess r 0 (addrOf g i j) (regLen g) v aux = s.regWrite r ⟨g, i, j⟩ (if g.wide then v % 2 ^ 64 else v % 2 ^ 32) aux := by
  obtain ⟨hd, hp, ha⟩ := hg
  have hover : regOver (addrOf g i j) = some ⟨g, i, j⟩ := by
    rw [regOver, Nat.div_mul_cancel (Nat.dvd_of_mod_eq_zero h8), hr]
  show s.accessed r true 0 _ _ (fun s => s.writeAt r.num r _ _ v aux) = _
  rw [State.accessed_of hd hp (malformed_full h8) ha]
  unfold State.writeAt
  rw [if_neg (by omega), if_neg (by omega), hover]
  dsimp only
  rw [if_pos h8]
  unfold regLen
  cases g.wide <;> rfl

/-! ## A register written field by field (R16 to R19) -/

/-- What a list of writes of different fields leaves in each of them. -/
theorem State.fld_setFlds_mem (s : State) (i j : Nat) {l : List (Fl × Nat)} (hn : (l.map Prod.fst).Nodup) {f : Fl} {v : Nat} (hm : (f, v) ∈ l) :
    (s.setFlds i j l).fld f i j = v % 2 ^ f.info.width := by
  induction l generalizing s with
  | nil => simp at hm
  | cons e l ih =>
    obtain ⟨hne, hn⟩ := List.nodup_cons.mp hn
    rw [State.setFlds_cons]
    rcases List.mem_cons.mp hm with rfl | hm
    · simp [hne]
    · exact ih _ hn hm

/-- The fields of a register with their bits of a register value. -/
def Reg.parts (g : Reg) (w : Nat) : List (Fl × Nat) := g.fields.map fun f => (f, bits w f.info.hi f.info.lo)

theorem Reg.mem_parts (g : Reg) (w : Nat) {f : Fl} (h : f ∈ g.fields) : (f, bits w f.info.hi f.info.lo) ∈ g.parts w := List.mem_map.mpr ⟨f, h, rfl⟩

theorem bits_mod_width (w : Nat) (f : Fl) : bits w f.info.hi f.info.lo % 2 ^ f.info.width = bits w f.info.hi f.info.lo := by
  rw [bits, FieldInfo.width, Nat.mod_mod]

/-- A cut of a number above the bits of a field keeps them. -/
theorem bits_mod {w n hi lo : Nat} (h : hi < n) : bits (w % 2 ^ n) hi lo = bits w hi lo := by
  apply Nat.eq_of_testBit_eq
  intro k
  by_cases hk : k < hi + 1 - lo
  · have : k + lo < n := by omega
    simp [bits, Nat.testBit_mod_two_pow, Nat.testBit_div_two_pow, this]
  · simp [bits, Nat.testBit_mod_two_pow, hk]

/-- The fields of a register are all of access RW. -/
abbrev Reg.allRw (g : Reg) : Prop := ∀ f ∈ g.fields, f.info.acc = .rw

theorem State.writeField_rw (s : State) (x : RegRef) (run : Bool) {f : Fl} (h : f.info.acc = .rw) (w : Nat) :
    s.writeField x run f w = s.writeCfg x run f (bits w f.info.hi f.info.lo) := by
  unfold State.writeField; rw [h]

theorem State.writeCfg_stopped (s : State) (x : RegRef) {f : Fl} (h : f.info.cls ≠ .b) (v : Nat) : s.writeCfg x false f v = s.setFld f x.i x.j v := by
  unfold State.writeCfg
  cases hc : f.info.cls with
  | b => exact absurd hc h
  | none | i | s | x => rfl

theorem State.foldl_writeField_stopped (x : RegRef) (w : Nat) {l : List Fl} (ha : ∀ f ∈ l, f.info.acc = .rw) (hb : ∀ f ∈ l, f.info.cls ≠ .b) (s : State) :
    l.foldl (fun a f => a.writeField x false f w) s = s.setFlds x.i x.j (l.map fun f => (f, bits w f.info.hi f.info.lo)) := by
  induction l generalizing s with
  | nil => rfl
  | cons f l ih =>
    rw [List.forall_mem_cons] at ha hb
    rw [List.foldl_cons, ih ha.2 hb.2, s.writeField_rw x false ha.1, s.writeCfg_stopped x hb.1]
    rfl

/-- Where the unit of a register stands still, or has no such state, every field but one of class B takes its bits of the value at once. -/
theorem State.plain_stopped (s : State) {x : RegRef} (hr : s.unitRuns x.reg x.i = false) (ha : x.reg.allRw) (hb : ∀ f ∈ x.reg.fields, f.info.cls ≠ .b) (w : Nat) :
    s.plain x w = s.setFlds x.i x.j (x.reg.parts w) := by
  simp [State.plain, hr, Reg.parts, State.foldl_writeField_stopped x w ha hb s]

/-! ### Class X while the unit runs -/

/-- A class X write of a running unit: the field keeps its value, and the block's flag reports a change. -/
theorem State.writeField_running_x (s : State) (x : RegRef) {f : Fl} (ha : f.info.acc = .rw) (hc : f.info.cls = .x) (w : Nat) :
    s.writeField x true f w = if s.fld f x.i x.j = bits w f.info.hi f.info.lo then s else s.changeRefused x := by
  rw [s.writeField_rw x true ha]; unfold State.writeCfg; rw [hc]; rfl

theorem State.changeRefused_domMap (s : State) (d : Nat) : s.changeRefused ⟨.TPL_DOM_MAP, d, 0⟩ = s.event .TPL_EVENT_CHANGE_REFUSED := rfl

theorem domMap_rw_x : ∀ f ∈ Reg.fields .TPL_DOM_MAP, f.info.acc = .rw ∧ f.info.cls = .x ∧ f.info.hi < 32 := by decide

/-- A refused write of DOM_MAP changes no field but CHANGE_REFUSED, keeps what an event keeps, and sets the flag where a field would have changed. -/
theorem State.foldl_domMap_running (d w : Nat) {l : List Fl} (hl : ∀ f ∈ l, f ∈ Reg.fields .TPL_DOM_MAP) (s : State) :
    ∃ n, l.foldl (fun a f => a.writeField ⟨.TPL_DOM_MAP, d, 0⟩ true f w) s = (fun a => State.event a .TPL_EVENT_CHANGE_REFUSED)^[n] s ∧
      ((∃ f ∈ l, s.fld f d ≠ bits w f.info.hi f.info.lo) → n ≠ 0) := by
  induction l generalizing s with
  | nil => exact ⟨0, rfl, by simp⟩
  | cons f l ih =>
    rw [List.forall_mem_cons] at hl
    obtain ⟨ha, hc, -⟩ := domMap_rw_x f hl.1
    rw [List.foldl_cons, s.writeField_running_x _ ha hc, s.changeRefused_domMap d]
    split
    next he =>
      obtain ⟨n, hn, hne⟩ := ih hl.2 s
      exact ⟨n, hn, by simpa [he] using hne⟩
    next he =>
      obtain ⟨n, hn, -⟩ := ih hl.2 (s.event .TPL_EVENT_CHANGE_REFUSED)
      exact ⟨n + 1, hn, fun _ => n.succ_ne_zero⟩

theorem State.unitRuns_domMap (s : State) (d : Nat) : s.unitRuns .TPL_DOM_MAP d = (s.domState d != 0) := rfl

theorem State.unitRuns_qSel (s : State) (p : Nat) : s.unitRuns .SHTL_Q_SEL p = s.bufBusy (boltOf p) := rfl

theorem State.iterate_event_keeps {β : Type} (g : State → β) (f : Fl) (h : ∀ a : State, g (a.event f) = g a) (n : Nat) (s : State) :
    g ((fun a => State.event a f)^[n] s) = g s := by
  induction n generalizing s with
  | zero => rfl
  | succ n ih => exact (ih (s.event f)).trans (h s)

theorem State.SameFlds.iterate_event {s u : State} {l : List (Fl × Nat)} (h : s.SameFlds u l) {f : Fl} (m : (f, 0) ∈ l) (n : Nat) :
    s.SameFlds ((fun a => State.event a f)^[n] u) l := by
  induction n generalizing u with
  | zero => exact h
  | succ n ih => exact ih (h.event (.inl m))

/-- A write of DOM_MAP while its domain runs is some number of refusals, and at least one where a field would have changed (R16). -/
theorem State.plain_domMap_running (s : State) {d : Nat} (hr : s.domState d ≠ 0) (w : Nat) :
    ∃ n, s.plain ⟨.TPL_DOM_MAP, d, 0⟩ w = (fun a => State.event a .TPL_EVENT_CHANGE_REFUSED)^[n] s ∧
      ((∃ f ∈ Reg.fields .TPL_DOM_MAP, s.fld f d ≠ bits w f.info.hi f.info.lo) → n ≠ 0) := by
  obtain ⟨n, hn, hne⟩ := State.foldl_domMap_running d w (fun _ h => h) s
  refine ⟨n, ?_, hne⟩
  have hst : ((fun a => State.event a .TPL_EVENT_CHANGE_REFUSED)^[n] s).domState d = s.domState d :=
    State.iterate_event_keeps (fun a => a.domState d) _ (fun a => by simp [State.domState]) n s
  have hrun : s.unitRuns .TPL_DOM_MAP d = true := by rw [State.unitRuns_domMap, bne_iff_ne]; exact hr
  have hrun' : ((fun a => State.event a .TPL_EVENT_CHANGE_REFUSED)^[n] s).unitRuns .TPL_DOM_MAP d = true := by
    rw [State.unitRuns_domMap, hst, bne_iff_ne]; exact hr
  unfold State.plain
  simp only [hrun, List.contains_nil, Bool.false_eq_true, if_false, hn, hrun', Bool.not_true, Bool.and_false]

/-! ### Class B: pending slots and their boundary (R18, R449) -/

theorem State.pendingB_settle (s : State) (x : RegRef) (f : Fl) : s.settle.pendingB x f = s.pendingB x f := by rw [State.pendingB, State.settle_boot]; rfl
theorem State.fld_setPendingB (s : State) (x : RegRef) (f : Fl) (v : Option Nat) (g : Fl) (i j : Nat) : (s.setPendingB x f v).fld g i j = s.fld g i j := rfl
theorem State.pendingB_setPendingB_same (s : State) (x : RegRef) (f : Fl) (v : Option Nat) : (s.setPendingB x f v).pendingB x f = v := Tbl.get_set_same ..

/-- The slots of a register's fields with different lowest bits are different. -/
theorem State.pendingB_setPendingB_ne (s : State) (x : RegRef) {f g : Fl} (h : g.info.lo ≠ f.info.lo) (v : Option Nat) :
    (s.setPendingB x f v).pendingB x g = s.pendingB x g :=
  Tbl.get_set_ne _ _ (by unfold slotKey; omega) _

/-- A class B write of a running unit waits in the field's own slot. -/
theorem State.writeField_running_b (s : State) (x : RegRef) {f : Fl} (ha : f.info.acc = .rw) (hc : f.info.cls = .b) (w : Nat) :
    s.writeField x true f w = s.setPendingB x f (some (bits w f.info.hi f.info.lo)) := by
  rw [s.writeField_rw x true ha]; unfold State.writeCfg; rw [hc]; rfl

/-- A write of PORT_TS while its port's MAC runs goes to the slots of both fields. -/
theorem State.plain_portTs_running (s : State) {p : Nat} (hr : s.on .MAC_CFG_EN p = true) (w : Nat) :
    s.plain ⟨.TPL_PORT_TS, p, 0⟩ w =
      (s.setPendingB ⟨.TPL_PORT_TS, p, 0⟩ .TPL_PORT_TS_TX_LAT (some (bits w 63 32))).setPendingB ⟨.TPL_PORT_TS, p, 0⟩ .TPL_PORT_TS_RX_LAT (some (bits w 31 0)) := by
  have hf : ∀ a : State, (Reg.fields .TPL_PORT_TS).foldl (fun a f => a.writeField ⟨.TPL_PORT_TS, p, 0⟩ true f w) a =
      (a.setPendingB ⟨.TPL_PORT_TS, p, 0⟩ .TPL_PORT_TS_TX_LAT (some (bits w 63 32))).setPendingB ⟨.TPL_PORT_TS, p, 0⟩ .TPL_PORT_TS_RX_LAT (some (bits w 31 0)) := by
    intro a
    show (a.writeField _ true .TPL_PORT_TS_TX_LAT w).writeField _ true .TPL_PORT_TS_RX_LAT w = _
    rw [a.writeField_running_b _ rfl rfl, State.writeField_running_b _ _ rfl rfl]
    rfl
  have hrun : ∀ t : State, t.regs = s.regs → t.unitRuns .TPL_PORT_TS p = true := fun t ht =>
    (show t.on .MAC_CFG_EN p = s.on .MAC_CFG_EN p by unfold State.on State.fld; rw [ht]).trans hr
  unfold State.plain
  simp only [hrun s rfl, List.contains_nil, Bool.false_eq_true, if_false, hf]
  rw [if_neg]
  simp [hrun, State.setPendingB]

/-- A pending value whose boundary comes is the field's value, and its slot is empty. -/
theorem State.takeB_of_pending {s : State} {x : RegRef} {f : Fl} {v : Nat} (h : s.pendingB x f = some v) :
    s.takeB x f = (s.setFld f x.i x.j v).setPendingB x f none := by
  unfold State.takeB; rw [h]

/-- The fields that the end of a command reads or writes (R482, Table 15-6). -/
abbrev Fl.settled (f : Fl) : Prop := f = .PAIR_STATUS_ROLE ∨ f = .PAIR_STATUS_TOKEN_DRV ∨ f = .PAIR_CFG_EN

theorem Fl.not_settled_of_cls_b {f : Fl} (h : f.info.cls = .b) : ¬f.settled := by
  rintro (rfl | rfl | rfl) <;> cases h

/-- The end of a command whose changes lie outside the pair's role, its token driver and its enable. -/
theorem State.SameFlds.settle_of {s u : State} {l : List (Fl × Nat)} (h : s.SameFlds u l) (o : s.Overlock) (d : u.dev = s.dev) (hl : ∀ e ∈ l, ¬e.1.settled) :
    s.SameFlds u.settle l :=
  h.settle o d (fun m => hl _ m (.inl rfl)) (fun m => hl _ m (.inr (.inl rfl))) fun m => hl _ m (.inr (.inr rfl))

theorem State.fld_settle_of (s : State) {f : Fl} (h : ¬f.settled) (i j : Nat) : s.settle.fld f i j = s.fld f i j :=
  s.fld_settle i j (fun e => h (.inl e)) fun e => h (.inr (.inl e))

/-- A register whose fields have taken their parts of a value, at the end of the command. -/
theorem State.settle_setFlds_parts {s : State} (o : s.Overlock) {g : Reg} (i j w : Nat) (hn : g.fields.Nodup) (hs : ∀ f ∈ g.fields, ¬f.settled) :
    (∀ f ∈ g.fields, (s.setFlds i j (g.parts w)).settle.fld f i j = bits w f.info.hi f.info.lo) ∧
      s.SameFlds (s.setFlds i j (g.parts w)).settle (g.fields.map fun f => (f, i)) ∧ s.SameMem (s.setFlds i j (g.parts w)).settle := by
  have hnames : (g.parts w).map Prod.fst = g.fields := by simp [Reg.parts, Function.comp_def]
  have hlist : ∀ e ∈ g.parts w, (e.1, i) ∈ g.fields.map fun f => (f, i) := fun e he =>
    List.mem_map.mpr ⟨e.1, hnames ▸ List.mem_map_of_mem he, rfl⟩
  refine ⟨fun f hf => ?_, State.SameFlds.settle_of ((State.SameFlds.refl s _).setFlds i j _ hlist) o (s.setFlds_dev i j _) ?_,
    (State.sameMem_of (s.setFlds_localMem i j _) (s.setFlds_dram i j _) (by rw [s.setFlds_boot i j _])).settle⟩
  · rw [State.fld_settle_of _ (hs f hf), s.fld_setFlds_mem i j (by rwa [hnames]) (g.mem_parts w hf), bits_mod_width]
  · simpa using fun f hf => hs f hf

/-! ## Register writes by change class -/

theorem exec_registerWrite_of {r : Req} {bar : Fin 4} {off len v : Nat} {aux : Bool} {s u : State} (h : s.writeAccess r bar off len v aux = u) :
    exec (.registerWrite r bar off len v aux) s = .next u.settle := by rw [← h]; rfl
theorem exec_classBCommit_of {off : BitVec 26} {lo : Fin 64} {s u : State} (hd : s.dev ≠ .off) (h : s.commitB off.toNat lo = u) :
    exec (.classBCommit off lo) s = .next u.settle := by rw [← h, ← State.powered_of hd fun s => s.commitB off.toNat lo]; rfl

theorem toNat_addrOf_qSel {p j : Nat} (hp : p < 128) (hj : j < 128) : (BitVec.ofNat 26 (addrOf .SHTL_Q_SEL p j)).toNat = addrOf .SHTL_Q_SEL p j := by
  rw [BitVec.toNat_ofNat, Nat.mod_eq_of_lt]; rw [addrOf_qSel]; omega

/-- A commit of WEIGHT finds its unit running, and the field waits. -/
theorem State.commitB_qSel_waits {s : State} {a p j : Nat} (hr : regAt a = some ⟨.SHTL_Q_SEL, p, j⟩) (hb : s.bufBusy (boltOf p) = true) : s.commitB a 16 = s := by
  have hf : ((Reg.fields .SHTL_Q_SEL).find? fun g => decide (g.info.lo = 16) && decide (g.info.cls = Cls.b)) = some .SHTL_Q_SEL_WEIGHT := by decide
  unfold State.commitB
  simp only [hr, hf]
  exact if_pos (by rw [State.unitRuns_qSel, hb]; rfl)

section Write
variable {s : State} {r : Req} (o : s.Overlock)
include o

/-- A class I write takes effect at once (R17): DOM_HOLD. -/
theorem registerWrite_domHold {d : Dom} (hg : s.Grants r true .TPL_DOM_HOLD d 0) (v : Nat) (aux : Bool) :
    ∃ t, exec (.registerWrite r 0 (addrOf .TPL_DOM_HOLD d 0) 4 v aux) s = .next t ∧
      t.fld .TPL_DOM_HOLD_RATE_UNC d = bits v 31 16 ∧ t.fld .TPL_DOM_HOLD_DRIFT d = bits v 15 0 ∧
      s.SameFlds t [(.TPL_DOM_HOLD_RATE_UNC, d), (.TPL_DOM_HOLD_DRIFT, d)] ∧ s.SameMem t := by
  have hw := State.writeAccess_reg hg (regAt_domHold d) (by rw [addrOf_domHold]; omega) (by rw [addrOf_domHold]; omega) v aux
  have hp : s.plain ⟨.TPL_DOM_HOLD, d, 0⟩ (v % 2 ^ 32) = s.setFlds d 0 (Reg.parts .TPL_DOM_HOLD (v % 2 ^ 32)) := s.plain_stopped rfl (show Reg.allRw .TPL_DOM_HOLD by decide) (show ∀ f ∈ Reg.fields .TPL_DOM_HOLD, f.info.cls ≠ .b by decide) _
  obtain ⟨hf, hsame, hmem⟩ := State.settle_setFlds_parts o (g := .TPL_DOM_HOLD) d 0 (v % 2 ^ 32) (by decide) (by decide)
  refine ⟨_, exec_registerWrite_of (hw.trans hp), ?_, ?_, hsame, hmem⟩
  · exact (hf .TPL_DOM_HOLD_RATE_UNC (by decide)).trans (bits_mod (by decide))
  · exact (hf .TPL_DOM_HOLD_DRIFT (by decide)).trans (bits_mod (by decide))

/-- A class X write of a stopped unit takes effect (R16): DOM_MAP. -/
theorem registerWrite_domMap_stopped {d : Dom} (hg : s.Grants r true .TPL_DOM_MAP d 0) (v : Nat) (aux : Bool) (hst : s.domState d = 0) :
    ∃ t, exec (.registerWrite r 0 (addrOf .TPL_DOM_MAP d 0) 4 v aux) s = .next t ∧
      (∀ f ∈ Reg.fields .TPL_DOM_MAP, t.fld f d = bits v f.info.hi f.info.lo) ∧
      s.SameFlds t ((Reg.fields .TPL_DOM_MAP).map fun f => (f, d.val)) ∧ s.SameMem t := by
  have hw := State.writeAccess_reg hg (regAt_domMap d) (by rw [addrOf_domMap]; omega) (by rw [addrOf_domMap]; omega) v aux
  have hp : s.plain ⟨.TPL_DOM_MAP, d, 0⟩ (v % 2 ^ 32) = s.setFlds d 0 (Reg.parts .TPL_DOM_MAP (v % 2 ^ 32)) :=
    s.plain_stopped (by rw [State.unitRuns_domMap, hst]; rfl) (show Reg.allRw .TPL_DOM_MAP by decide) (show ∀ f ∈ Reg.fields .TPL_DOM_MAP, f.info.cls ≠ .b by decide) _
  obtain ⟨hf, hsame, hmem⟩ := State.settle_setFlds_parts o (g := .TPL_DOM_MAP) d 0 (v % 2 ^ 32) (by decide) (by decide)
  refine ⟨_, exec_registerWrite_of (hw.trans hp), fun f hm => ?_, hsame, hmem⟩
  exact (hf f hm).trans (bits_mod (domMap_rw_x f hm).2.2)

/-- A class X write that would change a field of a running unit is refused with the block's flag (R16): DOM_MAP. -/
theorem registerWrite_domMap_running {d : Dom} (hg : s.Grants r true .TPL_DOM_MAP d 0) (v : Nat) (aux : Bool) (hst : s.domState d ≠ 0)
    (hch : ∃ f ∈ Reg.fields .TPL_DOM_MAP, s.fld f d ≠ bits v f.info.hi f.info.lo) :
    ∃ t, exec (.registerWrite r 0 (addrOf .TPL_DOM_MAP d 0) 4 v aux) s = .next t ∧ t.fld .TPL_EVENT_CHANGE_REFUSED = 1 ∧
      s.SameFlds t [(.TPL_EVENT_CHANGE_REFUSED, 0)] ∧ s.SameMem t := by
  have hw := State.writeAccess_reg hg (regAt_domMap d) (by rw [addrOf_domMap]; omega) (by rw [addrOf_domMap]; omega) v aux
  obtain ⟨n, hp, hne⟩ := s.plain_domMap_running hst (v % 2 ^ 32)
  have hn : n ≠ 0 := by
    obtain ⟨f, hm, hf⟩ := hch
    exact hne ⟨f, hm, by rwa [bits_mod (domMap_rw_x f hm).2.2]⟩
  refine ⟨_, exec_registerWrite_of (hw.trans hp), ?_, ?_, State.SameMem.settle (State.sameMem_of ?_ ?_ ?_)⟩
  · obtain ⟨k, rfl⟩ := Nat.exists_eq_succ_of_ne_zero hn
    rw [State.fld_settle_of _ (by decide), Function.iterate_succ_apply']
    exact State.fld_event_same _ _ _ (by decide) (by decide)
  · exact State.SameFlds.settle_of ((State.SameFlds.refl s _).iterate_event (by simp) n) o
      (State.iterate_event_keeps State.dev _ (fun a => a.event_dev _ _) n s) (by decide)
  · exact State.iterate_event_keeps State.localMem _ (fun a => a.event_localMem _ _) n s
  · exact State.iterate_event_keeps State.dram _ (fun a => a.event_dram _ _) n s
  · exact State.iterate_event_keeps (fun a => a.boot.nvm) _ (fun a => by simp) n s

/-- A class B write of a running unit waits in the fields' slots (R18, R449): PORT_TS. -/
theorem registerWrite_portTs_running {p : Port} (hg : s.Grants r true .TPL_PORT_TS p 0) (v : Nat) (aux : Bool) (hen : s.on .MAC_CFG_EN p = true) :
    ∃ t, exec (.registerWrite r 0 (addrOf .TPL_PORT_TS p 0) 8 v aux) s = .next t ∧
      t.pendingB ⟨.TPL_PORT_TS, p, 0⟩ .TPL_PORT_TS_RX_LAT = some (bits v 31 0) ∧
      t.pendingB ⟨.TPL_PORT_TS, p, 0⟩ .TPL_PORT_TS_TX_LAT = some (bits v 63 32) ∧ s.SameFlds t [] ∧ s.SameMem t := by
  have hw := State.writeAccess_reg hg (regAt_portTs p) (by rw [addrOf_portTs]; omega) (by rw [addrOf_portTs]; omega) v aux
  have hp := s.plain_portTs_running hen (v % 2 ^ 64)
  rw [bits_mod (by decide), bits_mod (by decide)] at hp
  refine ⟨_, exec_registerWrite_of (hw.trans hp), ?_, ?_, ?_, State.SameMem.settle (State.sameMem_of rfl rfl rfl)⟩
  · rw [State.pendingB_settle, State.pendingB_setPendingB_same]
  · rw [State.pendingB_settle, State.pendingB_setPendingB_ne _ _ (by decide), State.pendingB_setPendingB_same]
  · exact State.SameFlds.settle_of ((State.SameFlds.refl s _).regs rfl) o rfl (by simp)

/-- At its boundary the pending value of a class B field is the field's value (R449). -/
theorem classBCommit_takes {off : BitVec 26} {lo : Fin 64} {x : RegRef} {f : Fl} {v : Nat} (hd : s.dev ≠ .off) (hr : regAt off.toNat = some x)
    (hf : (x.reg.fields.find? fun g => decide (g.info.lo = lo.val) && decide (g.info.cls = Cls.b)) = some f) (hp : s.pendingB x f = some v)
    (hv : v < 2 ^ f.info.width) (hb : f.ownBoundary = true → s.unitRuns x.reg x.i = false) :
    ∃ t, exec (.classBCommit off lo) s = .next t ∧ t.fld f x.i x.j = v ∧ t.pendingB x f = none ∧ s.SameFlds t [(f, x.i)] ∧ s.SameMem t := by
  have hcls : f.info.cls = .b := by have := List.find?_some hf; simp_all
  have hns := Fl.not_settled_of_cls_b hcls
  have hwait : ¬(f.ownBoundary && s.unitRuns x.reg x.i) = true := by
    rw [Bool.and_eq_true]; rintro ⟨h1, h2⟩; rw [hb h1] at h2; cases h2
  have hc : s.commitB off.toNat lo = (s.setFld f x.i x.j v).setPendingB x f none := by
    unfold State.commitB
    simp only [hr, hf, if_neg hwait, State.takeB_of_pending hp]
  refine ⟨_, exec_classBCommit_of hd hc, ?_, ?_, ?_,
    State.SameMem.settle (State.sameMem_of rfl rfl rfl)⟩
  · rw [State.fld_settle_of _ hns, State.fld_setPendingB, State.fld_setFld_same, Nat.mod_eq_of_lt hv]
  · rw [State.pendingB_settle, State.pendingB_setPendingB_same]
  · exact State.SameFlds.settle_of (((State.SameFlds.refl s _).setFld (by simp) _ _).regs rfl) o rfl (by simpa using hns)

/-- A field whose boundary its unit reaches by itself keeps both values while the unit runs (R230): WEIGHT of a queue. -/
theorem classBCommit_qSel_waits {q : Fin 16384} {v : Nat} (hd : s.dev ≠ .off) (hb : s.bufBusy (boltOf (q / 128)) = true)
    (hp : s.pendingB ⟨.SHTL_Q_SEL, q / 128, q % 128⟩ .SHTL_Q_SEL_WEIGHT = some v) :
    ∃ t, exec (.classBCommit (BitVec.ofNat 26 (addrOf .SHTL_Q_SEL (q / 128) (q % 128))) 16) s = .next t ∧
      t.pendingB ⟨.SHTL_Q_SEL, q / 128, q % 128⟩ .SHTL_Q_SEL_WEIGHT = some v ∧ s.SameFlds t [] ∧ s.SameMem t := by
  have hport : q.val / 128 < 128 := by omega
  have hqueue : q.val % 128 < 128 := by omega
  refine ⟨s.settle, exec_classBCommit_of hd ?_, ?_, State.SameFlds.settle_of (State.SameFlds.refl s _) o rfl (by simp), State.SameMem.settle (State.sameMem_of rfl rfl rfl)⟩
  · rw [toNat_addrOf_qSel hport hqueue]; exact State.commitB_qSel_waits (regAt_qSel hport hqueue) hb
  · rw [State.pendingB_settle, hp]

end Write

/-- Settles O6: one lemma for each class of change, the commit at the boundary, and the wait for a boundary of the unit's own. -/
theorem registerWriteByChangeClass : Obligations.RegisterWriteByChangeClass := by
  intro s r o
  exact ⟨fun _ v aux hg => registerWrite_domHold o hg v aux, fun _ v aux hg => registerWrite_domMap_running o hg v aux,
    fun _ v aux hg => registerWrite_domMap_stopped o hg v aux, fun _ v aux hg => registerWrite_portTs_running o hg v aux,
    fun _ _ _ _ _ => classBCommit_takes o, fun _ _ => classBCommit_qSel_waits o⟩

end Sys2Proof.Machine
end

section
/-!
PROOFS. What the fate of a frame leaves alone: the completions of a host frame, the discard of a frame that holds its cells, and the frames that its queue then holds (R185, R342, R511).
-/
namespace Sys2Proof.Machine

/-! ## Changes of the host side alone: register fields, rings and queues of the host interface, counter words, the log of the pins -/

/-- Two states that differ at most in register fields, the host interface, Tape and the log of the pins. -/
def State.HostOnly (s t : State) : Prop := ∃ l h w o, t = { s with regs := l, hif := h, tape := w, out := o }

theorem State.HostOnly.refl (s : State) : s.HostOnly s := ⟨_, _, _, _, rfl⟩
theorem State.HostOnly.trans {s t u : State} (h : s.HostOnly t) (h' : t.HostOnly u) : s.HostOnly u := by
  obtain ⟨_, _, _, _, rfl⟩ := h
  obtain ⟨_, _, _, _, rfl⟩ := h'
  exact ⟨_, _, _, _, rfl⟩
theorem State.HostOnly.queue {s t : State} (h : s.HostOnly t) : t.queue = s.queue := by obtain ⟨_, _, _, _, rfl⟩ := h; rfl
theorem State.HostOnly.foldl {α : Type} {f : State → α → State} (h : ∀ (a : State) (x : α), a.HostOnly (f a x)) (l : List α) (s : State) : s.HostOnly (l.foldl f s) := by
  induction l generalizing s with
  | nil => exact .refl s
  | cons x l ih => exact (h s x).trans (ih (f s x))

theorem State.hostOnly_setFld (s : State) (f : Fl) (i j v : Nat) : s.HostOnly (s.setFld f i j v) := ⟨_, _, _, _, rfl⟩
theorem State.hostOnly_setFlds (s : State) (i j : Nat) (l : List (Fl × Nat)) : s.HostOnly (s.setFlds i j l) :=
  State.HostOnly.foldl (fun a _ => a.hostOnly_setFld _ i j _) l s
theorem State.hostOnly_pendSet (s : State) (n : Nat) : s.HostOnly (s.pendSet n) := by
  unfold State.pendSet; dsimp only; split <;> exact ⟨_, _, _, _, rfl⟩
theorem State.hostOnly_event (s : State) (f : Fl) (i : Nat) : s.HostOnly (s.event f i) := by
  unfold State.event State.assertSrc
  dsimp only
  repeat' split
  · exact (s.hostOnly_setFld ..).trans (State.hostOnly_pendSet ..)
  · exact s.hostOnly_setFld ..
  · exact s.hostOnly_setFld ..
theorem State.hostOnly_bump (s : State) (a n : Nat) : s.HostOnly (s.bump a n) := by
  have h : s.HostOnly { s with tape := { s.tape with ctr := s.tape.ctr.set 0 a (ctrAdd (s.ctr a) n) } } := ⟨_, _, _, _, rfl⟩
  unfold State.bump
  dsimp only
  split
  · exact h.trans (State.hostOnly_event ..)
  · exact h
theorem State.hostOnly_setCq (s : State) (c : Nat) (x : CqSt) : s.HostOnly (s.setCq c x) := ⟨_, _, _, _, rfl⟩
theorem State.hostOnly_setRing (s : State) (r : Nat) (x : RingSt) : s.HostOnly (s.setRing r x) := ⟨_, _, _, _, rfl⟩

/-! ## The completion of a host frame -/

theorem State.hostOnly_hostReq (s : State) (pf : Nat) (o : Out) : s.HostOnly (s.hostReq pf o) := by
  unfold State.hostReq; split <;> exact ⟨_, _, _, _, rfl⟩
theorem State.hostOnly_hostPut (s : State) (pf addr attr : Nat) (bytes : List Byte) : s.HostOnly (s.hostPut pf addr attr bytes) :=
  State.HostOnly.foldl (fun a _ => a.hostOnly_hostReq ..) _ s
theorem State.hostOnly_cqRaise (s : State) (c : Nat) : s.HostOnly (s.cqRaise c) := by
  unfold State.cqRaise
  dsimp only
  split
  · exact (s.hostOnly_setCq ..).trans (State.hostOnly_pendSet ..)
  · exact .refl s
theorem State.hostOnly_cqCount (s : State) (c : Nat) : s.HostOnly (s.cqCount c) := (s.hostOnly_setCq ..).trans (State.hostOnly_cqRaise ..)
theorem State.hostOnly_cqPut (s : State) (c rec : Nat) : s.HostOnly (s.cqPut c rec) := by
  unfold State.cqPut
  dsimp only
  refine State.HostOnly.trans ?_ (State.hostOnly_cqCount ..)
  have h : ∀ a : State, s.HostOnly a → s.HostOnly (a.setFld .HIF_CQ_STATUS_PI c 0 (idx32 (s.fld .HIF_CQ_STATUS_PI c + 1))) := fun a h => h.trans (a.hostOnly_setFld ..)
  split
  · exact ((h _ ((s.hostOnly_hostPut ..).trans (State.hostOnly_hostPut ..))).trans (State.hostOnly_setFld ..)).trans (State.hostOnly_event ..)
  · exact h _ ((s.hostOnly_hostPut ..).trans (State.hostOnly_hostPut ..))
theorem State.hostOnly_cqWrite (s : State) (c rec : Nat) : s.HostOnly (s.cqWrite c rec) := by
  unfold State.cqWrite
  repeat' split
  · exact .refl s
  · exact s.hostOnly_setCq ..
  · exact s.hostOnly_cqPut ..
theorem State.hostOnly_publish (s : State) (r : Nat) (l : List Nat) : s.HostOnly (s.publish r l) := by
  have h : ∀ x v, s.HostOnly ((s.setRing r x).setFld .HIF_RING_STATUS_CI r 0 v) := fun x v => (s.hostOnly_setRing r x).trans (State.hostOnly_setFld ..)
  unfold State.publish State.ledgerPut
  dsimp only
  repeat' split
  · exact ((h _ _).trans (State.hostOnly_hostPut ..)).trans (State.hostOnly_setRing ..)
  · exact (h _ _).trans (State.hostOnly_setRing ..)
  · exact h _ _
theorem State.hostOnly_ringStatus (s : State) (r status idx : Nat) : s.HostOnly (s.ringStatus r status idx) := by
  unfold State.ringStatus
  dsimp only
  split
  · exact s.hostOnly_bump ..
  · exact (s.hostOnly_bump ..).trans (State.hostOnly_setFlds ..)
theorem State.hostOnly_txBack (s : State) (r first : Nat) (marks : List (Bool × Bool)) (status dom : Nat) (ts : Option Nat) :
    s.HostOnly (s.txBack r first marks status dom ts) :=
  State.HostOnly.foldl (fun a _ => (a.hostOnly_hostPut ..).trans (State.hostOnly_hostPut ..)) _ s

/-- What a completion of transmit descriptors writes by the mode of its ring (R335). -/
theorem State.hostOnly_txComplete (s : State) (r first : Nat) (marks : List (Bool × Bool)) (status dom : Nat) (ts barrier : Option Nat) :
    s.HostOnly (s.txComplete r first marks status dom ts barrier) := by
  unfold State.txComplete
  extract_lets n last s1 c s2 s3 s4
  have h1 : s.HostOnly s1 := by
    simp only [s1]
    split
    · exact s.hostOnly_hostReq ..
    · exact .refl s
  have h2 : s1.HostOnly s2 := by
    simp only [s2]
    split
    · exact s1.hostOnly_txBack ..
    · exact (s1.hostOnly_setCq ..).trans (State.hostOnly_cqWrite ..)
    · exact .refl s1
  have h4 : s3.HostOnly s4 := by
    simp only [s4]
    split
    · exact s3.hostOnly_cqCount c
    · exact .refl s3
  exact (((h1.trans h2).trans (s2.hostOnly_publish ..)).trans h4).trans (s4.hostOnly_ringStatus ..)

theorem State.hostOnly_hostFate (s : State) (fr : FrameRec) (status : Nat) (ts : Option Nat) : s.HostOnly (s.hostFate fr status ts) := by
  unfold State.hostFate State.txFinal
  split
  · split
    · exact .refl s
    · exact (s.hostOnly_setRing ..).trans (State.hostOnly_txComplete ..)
  · exact .refl s

/-- A frame's loss is counted, logged and completed; no queue changes. -/
theorem State.lose_queue (s : State) (fr : FrameRec) (step reason scope status : Nat) : (s.lose fr step reason scope status).queue = s.queue := by
  unfold State.lose State.fate
  rw [(State.hostOnly_hostFate ..).queue]
  split <;> simp

/-! ## The frames of a queue -/

/-- An update of a queue that keeps the frames of that queue keeps those of every queue. -/
theorem State.frames_updQu (s : State) (q : Nat) {f : QSt → QSt} (h : ∀ x, (f x).frames = x.frames) (k : Nat) : ((s.updQu q f).qu k).frames = (s.qu k).frames := by
  by_cases e : k = q
  · subst e; simp [State.qu, State.updQu, State.setQu, h]
  · simp [State.qu, State.updQu, State.setQu, Tbl.get_set_ne _ _ e]

theorem State.fcUpdate_queue (s : State) : s.fcUpdate.queue = s.queue := by
  refine foldl_keeps State.queue _ (fun a p => ?_) _ s
  unfold State.fcPort State.sendXoff State.sendXon State.queueCtrl
  dsimp only
  repeat' split
  all_goals simp

theorem State.frames_of_queue {s t : State} (h : t.queue = s.queue) (k : Nat) : (t.qu k).frames = (s.qu k).frames := by rw [State.qu, h]; rfl

theorem State.frames_acctAdd (s : State) (q : Nat) (a : Acct) (c : Int) (k : Nat) : ((s.acctAdd q a c).qu k).frames = (s.qu k).frames := by
  cases a with
  | ctrl => exact State.frames_of_queue (s.updBo_queue ..) k
  | reserve => exact State.frames_of_queue (s.updPt_queue ..) k
  | shared => exact (State.frames_updQu _ q (by intro x; rfl) k).trans (State.frames_of_queue (s.updBo_queue ..) k)

/-- The cells of a frame return to their account; the queues keep their frames. -/
theorem State.frames_freeFrame (s : State) (fr : FrameRec) (k : Nat) : ((s.freeFrame fr).qu k).frames = (s.qu k).frames :=
  calc ((s.freeFrame fr).qu k).frames
    _ = _ := State.frames_of_queue ((State.fcUpdate_queue _).trans (State.updBo_queue ..)) k
    _ = _ := State.frames_acctAdd _ fr.q fr.acct (-(fr.cells : Int)) k
    _ = (s.qu k).frames := s.frames_updQu fr.q (by intro x; rfl) k

/-- A frame whose cells are lost is in its queue no longer (R198). -/
theorem State.not_mem_frames_loseCells (s : State) (fr : FrameRec) : fr ∉ ((s.loseCells fr).qu fr.q).frames := by
  unfold State.loseCells State.discardHeld
  rw [State.frames_freeFrame, State.qu, State.lose_queue]
  simp [State.updQu, State.setQu]

end Sys2Proof.Machine
end

section
/-!
PROOFS. Halves of 64-bit registers (R12) and reads with an effect of their own (R198, R557, R563).
-/
namespace Sys2Proof.Machine

/-! ## The form of an access (R556) -/

theorem malformed_four {bar off : Nat} (h : off % 4 = 0) : malformed bar off 4 = false := by simp [malformed, h]

/-- In the table windows every access has a good form. -/
theorem malformed_window {off : Nat} (h : 0x300_0000 ≤ off) (len : Nat) : malformed 0 off len = false := by simp [malformed, h]

theorem State.pt_settle (s : State) (p : Nat) : s.settle.pt p = s.pt p := by rw [State.pt, State.settle_port]; rfl
theorem State.qu_settle (s : State) (q : Nat) : s.settle.qu q = s.qu q := by rw [State.qu, State.settle_queue]; rfl

/-! ## Latches and staged halves (R12) -/

theorem State.latched_settle (s : State) (q : Nat) : s.settle.latched q = s.latched q := by rw [State.latched, State.settle_boot]; rfl
theorem State.latched_setLatch_same (s : State) (q : Nat) (v : Option (Nat × Nat)) : (s.setLatch q v).latched q = v := Tbl.get_set_same ..
theorem State.latched_setLatch_ne (s : State) {q k : Nat} (h : k ≠ q) (v : Option (Nat × Nat)) : (s.setLatch q v).latched k = s.latched k := Tbl.get_set_ne _ _ h _
theorem State.lowStaged_settle (s : State) (q : Nat) : s.settle.lowStaged q = s.lowStaged q := by rw [State.lowStaged, State.settle_boot]; rfl
theorem State.lowStaged_stageLow_same (s : State) (q : Nat) (v : Option (Nat × Nat)) : (s.stageLow q v).lowStaged q = v := Tbl.get_set_same ..
theorem State.lowStaged_stageLow_ne (s : State) {q k : Nat} (h : k ≠ q) (v : Option (Nat × Nat)) : (s.stageLow q v).lowStaged k = s.lowStaged k := Tbl.get_set_ne _ _ h _

/-- A read of the low half of a counter word. -/
theorem State.readLow_counter (s : State) (r : Req) (off : Nat) :
    s.readLow r 2 off = (s.setLatch r.num (some (latchKey 2 off, s.wordNow (off / 8) / 2 ^ 32))).emit (.reply r.num (s.wordNow (off / 8) % 2 ^ 32)) := rfl

/-- A read of the high half of a counter word whose latch the requester holds. -/
theorem State.readHigh_latched {s : State} {r : Req} {off v : Nat} (h : s.latched r.num = some (latchKey 2 off, v)) :
    s.readHigh r 2 off = (s.setLatch r.num none).emit (.reply r.num v) := by
  simp [State.readHigh, h, latches]

/-- A write of the low half of a wide register is staged. -/
theorem State.writeAt_low {s : State} {q : Nat} {r : Req} {off v : Nat} {x : RegRef} {aux : Bool} (h8 : off % 8 = 0) (hlt : off < 0x2F0_0000)
    (hx : regOver off = some x) (hw : x.reg.wide = true) : s.writeAt q r off 4 v aux = s.stageLow q (some (off, v % 2 ^ 32)) := by
  unfold State.writeAt
  rw [if_neg (by omega), if_neg (by omega), hx]
  simp [h8, hw]

/-- A write of the high half of a wide register whose low half the requester has staged is a write of the whole register. -/
theorem State.writeAt_high {s : State} {q : Nat} {r : Req} {off v low : Nat} {x : RegRef} {aux : Bool} (h8 : off % 8 = 4) (hlt : off < 0x2F0_0000)
    (hx : regOver off = some x) (hw : x.reg.wide = true) (hl : s.lowStaged q = some (off - 4, low)) :
    s.writeAt q r off 4 v aux = (s.stageLow q none).regWrite r x (v % 2 ^ 32 * 2 ^ 32 + low) aux := by
  unfold State.writeAt State.highWrite
  rw [if_neg (by omega), if_neg (by omega), hx]
  simp [h8, hw, hl]

/-! ## Completer Abort and errors of local memory (R469, R563) -/

theorem State.aborted_out (s : State) (r : Req) : (s.aborted r).out = s.out ++ [.abort r.num] := by cases r <;> rfl
theorem State.aborted_regs (s : State) (r : Req) : (s.aborted r).regs = s.regs := by cases r <;> rfl
theorem State.aborted_dev (s : State) (r : Req) : (s.aborted r).dev = s.dev := by cases r <;> rfl
theorem State.aborted_port (s : State) (r : Req) : (s.aborted r).port = s.port := by cases r <;> rfl
theorem State.aborted_queue (s : State) (r : Req) : (s.aborted r).queue = s.queue := by cases r <;> rfl
theorem State.aborted_boot (s : State) (r : Req) : (s.aborted r).boot = s.boot := by cases r <;> rfl
theorem State.aborted_localMem (s : State) (r : Req) : (s.aborted r).localMem = s.localMem := by cases r <;> rfl
theorem State.aborted_dram (s : State) (r : Req) : (s.aborted r).dram = s.dram := by cases r <;> rfl

/-- A slot of the local memory window whose word is known to be bad reads as bad. -/
theorem State.windowBad_of_mem {s : State} {slot : Nat} (h1 : 0x300_0000 ≤ slot / 8 * 8) (h2 : slot / 8 * 8 < 0x320_0000) (hb : (slot - 0x300_0000) / 8 ∈ s.localBad) :
    s.windowBad (slot / 8 * 8) = true := by
  have hbad : s.localGood (slot / 8 * 8 - 0x300_0000) 8 = false := by
    rw [State.localGood, List.all_eq_false]
    exact ⟨_, hb, by simp; omega⟩
  simp [State.windowBad, h1, h2, hbad]

theorem State.readLow_bad {s : State} {r : Req} {off : Nat} (h : s.windowBad off = true) : s.readLow r 0 off = s.aborted r := by
  unfold State.readLow; exact if_pos ⟨rfl, h⟩

theorem State.bump_localBad (s : State) (a n : Nat) : (s.bump a n).localBad = s.localBad := by
  obtain ⟨_, _, _, _, h⟩ := s.hostOnly_bump a n; rw [h]
theorem State.event_localBad (s : State) (f : Fl) (i : Nat) : (s.event f i).localBad = s.localBad := by
  obtain ⟨_, _, _, _, h⟩ := s.hostOnly_event f i; rw [h]
theorem State.settle_localBad (s : State) : s.settle.localBad = s.localBad := by obtain ⟨_, h⟩ := s.settle_eq; rw [h]
theorem State.logRecord_localBad (s : State) (x : FaultRec) : (s.logRecord x).localBad = s.localBad := by
  unfold State.logRecord State.logLost
  dsimp only
  repeat' split
  · rfl
  · exact State.event_localBad ..
  · exact State.event_localBad ..
theorem State.beginHandling_localBad (s : State) (sev : Nat) (lost : Bool) : (s.beginHandling sev lost).localBad = s.localBad := by
  unfold State.beginHandling; repeat' split
  all_goals rfl

/-- A fault that is not Fatal brings no new word of local memory to the list of bad ones. -/
theorem State.record_localBad (s : State) {sev : Nat} (hs : sev ≠ 3) (sm unit detail : Nat) : (s.record sev sm unit detail).localBad = s.localBad := by
  unfold State.record
  simp only [hs, if_false, State.beginHandling_localBad, State.event_localBad]
  exact (State.logRecord_localBad ..).trans (State.bump_localBad ..)

theorem State.localError_out (s : State) (a : Nat) : (s.localError a).out = s.out := by simp [State.localError]
theorem State.localError_dev (s : State) (a : Nat) : (s.localError a).dev = s.dev := by simp [State.localError]
theorem State.localError_boot (s : State) (a : Nat) : (s.localError a).boot = s.boot := by simp [State.localError]
theorem State.localError_localMem (s : State) (a : Nat) : (s.localError a).localMem = s.localMem := by simp [State.localError]
theorem State.localError_dram (s : State) (a : Nat) : (s.localError a).dram = s.dram := by simp [State.localError]
theorem State.localError_degraded (s : State) (a : Nat) : (s.localError a).on .THIM_EVENT_DEGRADED = true := State.record_flags _ (.inr rfl) ..
theorem State.mem_localBad_localError (s : State) (a : Nat) : a / 8 ∈ (s.localError a).localBad := by
  rw [State.localError, State.record_localBad _ (by decide)]
  dsimp only
  split
  next h => simpa using h
  next => simp
theorem State.SameFlds.localError {s u : State} {l : List (Fl × Nat)} (h : s.SameFlds u l) (m : ∀ e ∈ faultFlds, e ∈ l) (a : Nat) : s.SameFlds (u.localError a) l := by
  unfold State.localError
  refine State.SameFlds.record ?_ m (by decide) _ _ _
  exact h.regs rfl

/-! ## The commands -/

theorem exec_lowHalfRead_of {r : Req} {bar : Fin 4} {slot : BitVec 26} {s u : State} (hb : bar ≠ 3)
    (h : s.accessed r false bar (slot.toNat / 8 * 8) 4 (fun s => s.readLow r bar (slot.toNat / 8 * 8)) = u) :
    exec (.lowHalfRead r bar slot) s = .next u.settle := by
  rw [← h]
  show done (if bar = 3 then _ else _) = _
  rw [if_neg hb]; rfl
theorem exec_highHalfRead_of {r : Req} {bar : Fin 3} {slot : BitVec 26} {s u : State}
    (h : s.accessed r false bar (slot.toNat / 8 * 8 + 4) 4 (fun s => s.readHigh r bar (slot.toNat / 8 * 8)) = u) :
    exec (.highHalfRead r bar slot) s = .next u.settle := by rw [← h]; rfl
theorem exec_lowHalfWrite_of {r : Req} {slot : BitVec 26} {v : BitVec 32} {s u : State}
    (h : s.accessed r true 0 (slot.toNat / 8 * 8) 4 (fun s => s.writeAt r.num r (slot.toNat / 8 * 8) 4 v.toNat false) = u) :
    exec (.lowHalfWrite r slot v) s = .next u.settle := by rw [← h]; rfl
theorem exec_highHalfWrite_of {r : Req} {slot : BitVec 26} {v : BitVec 32} {aux : Bool} {s u : State}
    (h : s.accessed r true 0 (slot.toNat / 8 * 8 + 4) 4 (fun s => s.writeAt r.num r (slot.toNat / 8 * 8 + 4) 4 v.toNat aux) = u) :
    exec (.highHalfWrite r slot v aux) s = .next u.settle := by rw [← h]; rfl
theorem exec_tableWindowRead_local_of {r : Req} {word : BitVec 20} {s u : State}
    (h : s.accessed r false 0 (0x300_0000 + 8 * (word.toNat % 2 ^ 18)) 8 (fun s => (s.aborted r).localError (8 * (word.toNat % 2 ^ 18))) = u) :
    exec (.tableWindowRead r false word) s = .next u.settle := by rw [← h]; rfl
theorem exec_tableWindowRead_cell_of {r : Req} {word : BitVec 20} {s u : State}
    (h : s.accessed r false 0 (0x320_0000 + 8 * word.toNat) 8
      (fun s => ((s.aborted r).bufErr (s.fld .DEV_DBG_SEL_BOLT) .cell).cellRead (s.fld .DEV_DBG_SEL_BOLT) (word.toNat / 32)) = u) :
    exec (.tableWindowRead r true word) s = .next u.settle := by rw [← h]; rfl

/-- A command that moves no register field and no device state. -/
theorem State.sameFlds_of_regs {s u : State} (o : s.Overlock) (hr : u.regs = s.regs) (hd : u.dev = s.dev) : s.SameFlds u.settle [] :=
  State.SameFlds.settle_of ((State.SameFlds.refl s []).regs hr) o hd (by simp)

/-! ## Halves -/

section Halves
variable {s : State} {r : Req} (o : s.Overlock) (hd : s.dev ≠ .off) (hp : s.present r = true)
include o hd hp

theorem lowHalfRead_counter {slot : BitVec 26} (ha : s.allowed r false 2 (slot.toNat / 8 * 8) 4 = true) :
    ∃ t, exec (.lowHalfRead r 2 slot) s = .next t ∧ t.out = s.out ++ [.reply r.num (s.wordNow (slot.toNat / 8) % 2 ^ 32)] ∧
      t.latched r.num = some (latchKey 2 (slot.toNat / 8 * 8), s.wordNow (slot.toNat / 8) / 2 ^ 32) ∧
      (∀ q, q ≠ r.num → t.latched q = s.latched q) ∧ (∀ q, t.lowStaged q = s.lowStaged q) ∧ s.SameFlds t [] ∧ s.SameMem t := by
  have hword : slot.toNat / 8 * 8 / 8 = slot.toNat / 8 := by omega
  have hacc := (State.accessed_of hd hp (malformed_four (by omega)) ha fun s => s.readLow r 2 (slot.toNat / 8 * 8)).trans (State.readLow_counter ..)
  rw [hword] at hacc
  refine ⟨_, exec_lowHalfRead_of (by decide) hacc, State.settle_out _, ?_, fun q hq => ?_, fun q => ?_, State.sameFlds_of_regs o rfl rfl,
    State.SameMem.settle (State.sameMem_of rfl rfl rfl)⟩
  · exact (State.latched_settle ..).trans (State.latched_setLatch_same ..)
  · exact (State.latched_settle ..).trans (State.latched_setLatch_ne _ hq _)
  · exact State.lowStaged_settle ..

theorem highHalfRead_latched {slot : BitVec 26} {v : Nat} (ha : s.allowed r false 2 (slot.toNat / 8 * 8 + 4) 4 = true)
    (hl : s.latched r.num = some (latchKey 2 (slot.toNat / 8 * 8), v)) :
    ∃ t, exec (.highHalfRead r 2 slot) s = .next t ∧ t.out = s.out ++ [.reply r.num v] ∧
      (∀ q, q ≠ r.num → t.latched q = s.latched q) ∧ (∀ q, t.lowStaged q = s.lowStaged q) ∧ s.SameFlds t [] ∧ s.SameMem t := by
  have hacc := (State.accessed_of hd hp (malformed_four (by omega)) ha fun s => s.readHigh r 2 (slot.toNat / 8 * 8)).trans (State.readHigh_latched hl)
  refine ⟨_, exec_highHalfRead_of hacc, State.settle_out _, fun q hq => ?_, fun q => ?_, State.sameFlds_of_regs o rfl rfl,
    State.SameMem.settle (State.sameMem_of rfl rfl rfl)⟩
  · exact (State.latched_settle ..).trans (State.latched_setLatch_ne _ hq _)
  · exact State.lowStaged_settle ..

theorem lowHalfWrite_staged {slot : BitVec 26} {v : BitVec 32} {x : RegRef} (ha : s.allowed r true 0 (slot.toNat / 8 * 8) 4 = true)
    (hlt : slot.toNat / 8 * 8 < 0x2F0_0000) (hx : regOver (slot.toNat / 8 * 8) = some x) (hw : x.reg.wide = true) :
    ∃ t, exec (.lowHalfWrite r slot v) s = .next t ∧ t.lowStaged r.num = some (slot.toNat / 8 * 8, v.toNat) ∧
      (∀ q, q ≠ r.num → t.lowStaged q = s.lowStaged q) ∧ (∀ q, t.latched q = s.latched q) ∧ s.SameFlds t [] ∧ s.SameMem t := by
  have hacc := (State.accessed_of hd hp (malformed_four (by omega)) ha fun s => s.writeAt r.num r (slot.toNat / 8 * 8) 4 v.toNat false).trans
    (State.writeAt_low (by omega) hlt hx hw)
  rw [Nat.mod_eq_of_lt v.isLt] at hacc
  refine ⟨_, exec_lowHalfWrite_of hacc, ?_, fun q hq => ?_, fun q => ?_, State.sameFlds_of_regs o rfl rfl,
    State.SameMem.settle (State.sameMem_of rfl rfl rfl)⟩
  · exact (State.lowStaged_settle ..).trans (State.lowStaged_stageLow_same ..)
  · exact (State.lowStaged_settle ..).trans (State.lowStaged_stageLow_ne _ hq _)
  · exact State.latched_settle ..

/-- Both halves of BASTE_DATA are committed by the write of its high half. -/
theorem highHalfWrite_basteData {v : BitVec 32} {aux : Bool} {low : Nat} (ha : s.allowed r true 0 0x6001C 4 = true) (hlow : low < 2 ^ 32)
    (hl : s.lowStaged r.num = some (0x60018, low)) :
    ∃ t, exec (.highHalfWrite r 0x60018 v aux) s = .next t ∧ t.fld .BOOT_BASTE_DATA_DATA = v.toNat * 2 ^ 32 + low ∧
      (∀ q, q ≠ r.num → t.lowStaged q = s.lowStaged q) ∧ (∀ q, t.latched q = s.latched q) ∧ s.SameFlds t [(.BOOT_BASTE_DATA_DATA, 0)] ∧ s.SameMem t := by
  have hx : regOver 0x6001C = some ⟨.BOOT_BASTE_DATA, 0, 0⟩ := by decide
  have hplain : (s.stageLow r.num none).plain ⟨.BOOT_BASTE_DATA, 0, 0⟩ (v.toNat * 2 ^ 32 + low) =
      (s.stageLow r.num none).setFlds 0 0 (Reg.parts .BOOT_BASTE_DATA (v.toNat * 2 ^ 32 + low)) :=
    State.plain_stopped _ rfl (show Reg.allRw .BOOT_BASTE_DATA by decide) (show ∀ f ∈ Reg.fields .BOOT_BASTE_DATA, f.info.cls ≠ .b by decide) _
  have hacc := (State.accessed_of hd hp (malformed_four (by decide)) ha fun s => s.writeAt r.num r 0x6001C 4 v.toNat aux).trans
    (State.writeAt_high (by decide) (by decide) hx rfl hl)
  rw [Nat.mod_eq_of_lt v.isLt] at hacc
  have o' : (s.stageLow r.num none).Overlock := o
  obtain ⟨hf, hsame, hmem⟩ := State.settle_setFlds_parts o' (g := .BOOT_BASTE_DATA) 0 0 (v.toNat * 2 ^ 32 + low) (by decide) (by decide)
  refine ⟨_, exec_highHalfWrite_of (slot := 0x60018) (hacc.trans hplain), ?_, fun q hq => ?_, fun q => ?_, hsame, hmem⟩
  · have hbits : bits (v.toNat * 2 ^ 32 + low) 63 0 = v.toNat * 2 ^ 32 + low := by
      rw [bits, Nat.pow_zero, Nat.div_one, Nat.mod_eq_of_lt]; have := v.isLt; omega
    exact (hf .BOOT_BASTE_DATA_DATA (by decide)).trans hbits
  · rw [State.lowStaged_settle, State.lowStaged, State.setFlds_boot]; exact State.lowStaged_stageLow_ne _ hq _
  · rw [State.latched_settle, State.latched, State.setFlds_boot]; rfl

end Halves

/-! ## High-water marks (R557) -/

section Reads
variable {s : State} {r : Req} (o : s.Overlock)
include o

theorem highWaterRead_miss (hg : s.Grants r false .STRM_MISS_STATUS 0 0) :
    ∃ t, exec (.highWaterRead r false) s = .next t ∧ t.out = s.out ++ [.reply r.num (s.regNow .STRM_MISS_STATUS 0 0)] ∧
      t.fld .STRM_MISS_STATUS_HIGH_WATER = s.missCells % 2 ^ 15 ∧ s.SameFlds t [(.STRM_MISS_STATUS_HIGH_WATER, 0)] ∧ s.SameMem t := by
  have he : exec (.highWaterRead r false) s = .next ((s.emit (.reply r.num (s.regNow .STRM_MISS_STATUS 0 0))).restartMiss).settle := by
    rw [← State.reading_of hg fun s => (s.emit (.reply r.num (s.regNow .STRM_MISS_STATUS 0 0))).restartMiss]; rfl
  refine ⟨_, he, State.settle_out _, ?_, State.SameFlds.settle_of ?_ o rfl (by decide), State.SameMem.settle (State.sameMem_of rfl rfl rfl)⟩
  · exact (State.fld_settle_of _ (by decide) 0 0).trans (State.fld_setFld_same ..)
  · exact State.SameFlds.setFld (u := s.emit _) ((State.SameFlds.refl s _).regs rfl) (by simp) _ _

theorem highWaterRead_rx (hg : s.Grants r false .HIF_RX_STORE 0 0) :
    ∃ t, exec (.highWaterRead r true) s = .next t ∧ t.out = s.out ++ [.reply r.num (s.regNow .HIF_RX_STORE 0 0)] ∧
      t.fld .HIF_RX_STORE_HIGH = s.rxUsed % 2 ^ 14 ∧ s.SameFlds t [(.HIF_RX_STORE_HIGH, 0)] ∧ s.SameMem t := by
  have he : exec (.highWaterRead r true) s = .next ((s.emit (.reply r.num (s.regNow .HIF_RX_STORE 0 0))).restartRx).settle := by
    rw [← State.reading_of hg fun s => (s.emit (.reply r.num (s.regNow .HIF_RX_STORE 0 0))).restartRx]; rfl
  refine ⟨_, he, State.settle_out _, ?_, State.SameFlds.settle_of ?_ o rfl (by decide), State.SameMem.settle (State.sameMem_of rfl rfl rfl)⟩
  · exact (State.fld_settle_of _ (by decide) 0 0).trans (State.fld_setFld_same ..)
  · exact State.SameFlds.setFld (u := s.emit _) ((State.SameFlds.refl s _).regs rfl) (by simp) _ _

/-! ## Words and cells with an uncorrectable error (R198, R469, R563) -/

theorem lowHalfRead_known_bad {slot : BitVec 26} (hd : s.dev ≠ .off) (hp : s.present r = true) (ha : s.allowed r false 0 (slot.toNat / 8 * 8) 4 = true)
    (h1 : 0x300_0000 ≤ slot.toNat / 8 * 8) (h2 : slot.toNat / 8 * 8 < 0x320_0000) (hb : (slot.toNat - 0x300_0000) / 8 ∈ s.localBad) :
    ∃ t, exec (.lowHalfRead r 0 slot) s = .next t ∧ t.out = s.out ++ [.abort r.num] ∧ s.SameFlds t [] ∧ s.SameMem t := by
  have hacc := (State.accessed_of hd hp (malformed_four (by omega)) ha fun s => s.readLow r 0 (slot.toNat / 8 * 8)).trans
    (State.readLow_bad (State.windowBad_of_mem h1 h2 hb))
  refine ⟨_, exec_lowHalfRead_of (by decide) hacc, (State.settle_out _).trans (s.aborted_out r), State.sameFlds_of_regs o (s.aborted_regs r) (s.aborted_dev r),
    State.SameMem.settle (State.sameMem_of (s.aborted_localMem r) (s.aborted_dram r) (by rw [s.aborted_boot r]))⟩

/-- A read that meets an error in local memory: Completer Abort, a Degraded fault, and the word known from then on. -/
theorem tableWindowRead_local {word : BitVec 20} (hd : s.dev ≠ .off) (hp : s.present r = true)
    (ha : s.allowed r false 0 (0x300_0000 + 8 * (word.toNat % 2 ^ 18)) 8 = true) :
    ∃ t, exec (.tableWindowRead r false word) s = .next t ∧ t.out = s.out ++ [.abort r.num] ∧ t.on .THIM_EVENT_DEGRADED = true ∧
      word.toNat % 2 ^ 18 ∈ t.localBad ∧ s.SameFlds t faultFlds ∧ s.SameMem t := by
  have hacc := State.accessed_of hd hp (malformed_window (by omega) 8) ha fun s => (s.aborted r).localError (8 * (word.toNat % 2 ^ 18))
  refine ⟨_, exec_tableWindowRead_local_of hacc, ?_, ?_, ?_, ?_, State.SameMem.settle (State.sameMem_of ?_ ?_ ?_)⟩
  · rw [State.settle_out, State.localError_out, State.aborted_out]
  · rw [State.on, State.fld_settle_of _ (by decide)]; exact State.localError_degraded ..
  · rw [State.settle_localBad]
    have h := (s.aborted r).mem_localBad_localError (8 * (word.toNat % 2 ^ 18))
    rwa [Nat.mul_div_cancel_left _ (by decide)] at h
  · exact State.SameFlds.settle_of (((State.SameFlds.refl s _).regs (s.aborted_regs r)).localError (fun _ h => h) _) o
      (by rw [State.localError_dev, State.aborted_dev]) (by decide)
  · rw [State.localError_localMem, State.aborted_localMem]
  · rw [State.localError_dram, State.aborted_dram]
  · rw [State.localError_boot, State.aborted_boot]

end Reads

/-! ### A frame buffer cell -/

/-- The frame that a window read of a cell meets: the one, of the ports of the Bolt in DBG_SEL, that holds the cell. -/
def State.debugCellFrame (s : State) (c : Nat) : Option FrameRec :=
  (((List.range 16).map fun l => s.cellFrames (16 * s.fld .DEV_DBG_SEL_BOLT + l)).flatten).find? fun f => f.cellNos.contains c

/-- The state in which a window read of a bad cell asks for the cell's frame: the read aborted, the error counted and raised. -/
def State.cellAborted (s : State) (r : Req) : State := (s.aborted r).bufErr (s.fld .DEV_DBG_SEL_BOLT) .cell

/-- The fields that such a read changes. -/
abbrev State.cellFlds (s : State) : List (Fl × Nat) := (.SHTL_BUF_EVENT_ECC_UNCORR, s.fld .DEV_DBG_SEL_BOLT) :: faultFlds

theorem State.sameFlds_cellAborted (s : State) (r : Req) : s.SameFlds (s.cellAborted r) s.cellFlds := by
  unfold State.cellAborted State.bufErr
  refine State.SameFlds.fault ?_ (by simp) (by decide) _ _
  exact ((((State.SameFlds.refl s _).regs (s.aborted_regs r)).bump _ _).event (.inl (by simp)))

theorem State.cellAborted_out (s : State) (r : Req) : (s.cellAborted r).out = s.out ++ [.abort r.num] := by
  simp [State.cellAborted, State.bufErr, State.aborted_out]
theorem State.cellAborted_dev (s : State) (r : Req) : (s.cellAborted r).dev = s.dev := by simp [State.cellAborted, State.bufErr, State.aborted_dev]
theorem State.cellAborted_port (s : State) (r : Req) : (s.cellAborted r).port = s.port := by simp [State.cellAborted, State.bufErr, State.aborted_port]
theorem State.cellAborted_queue (s : State) (r : Req) : (s.cellAborted r).queue = s.queue := by simp [State.cellAborted, State.bufErr, State.aborted_queue]
theorem State.sameMem_cellAborted (s : State) (r : Req) : s.SameMem (s.cellAborted r) := by
  apply State.sameMem_of <;> simp [State.cellAborted, State.bufErr, State.aborted_localMem, State.aborted_dram, State.aborted_boot]
theorem State.cellAborted_degraded (s : State) (r : Req) : (s.cellAborted r).on .THIM_EVENT_DEGRADED = true := State.fault_degraded ..

/-- The error changes no queue and no path, so the cell's frame is the one that held it before. -/
theorem State.cellFrames_cellAborted (s : State) (r : Req) (p : Nat) : (s.cellAborted r).cellFrames p = s.cellFrames p := by
  unfold State.cellFrames State.pt; rw [s.cellAborted_port r, s.cellAborted_queue r]
theorem State.cellRead_cellAborted_none {s : State} {c : Nat} (h : s.debugCellFrame c = none) (r : Req) :
    (s.cellAborted r).cellRead (s.fld .DEV_DBG_SEL_BOLT) c = s.cellAborted r := by
  unfold State.debugCellFrame at h
  unfold State.cellRead
  simp only [State.cellFrames_cellAborted, h]
theorem State.cellRead_cellAborted_some {s : State} {c : Nat} {fr : FrameRec} (h : s.debugCellFrame c = some fr) (r : Req) :
    (s.cellAborted r).cellRead (s.fld .DEV_DBG_SEL_BOLT) c = (s.cellAborted r).cellError fr := by
  unfold State.debugCellFrame at h
  unfold State.cellRead
  simp only [State.cellFrames_cellAborted, h]
theorem State.pt_cellAborted (s : State) (r : Req) (p : Nat) : (s.cellAborted r).pt p = s.pt p := by unfold State.pt; rw [s.cellAborted_port r]

/-- A frame under transmission loses nothing but its valid end (R198). -/
theorem State.cellError_sent {s : State} {fr : FrameRec} (h : (s.pt (qPort fr.q)).sends fr = true) :
    s.cellError fr = s.updPt (qPort fr.q) fun x => { x with tx := x.tx.map fun t => { t with good := false } } := if_pos h
theorem State.cellError_lost {s : State} {fr : FrameRec} (h : (s.pt (qPort fr.q)).sends fr = false) : s.cellError fr = s.loseCells fr :=
  if_neg (by rw [h]; decide)

section CellRead
variable {s : State} {r : Req} {word : BitVec 20} (hd : s.dev ≠ .off) (hp : s.present r = true) (ha : s.allowed r false 0 (0x320_0000 + 8 * word.toNat) 8 = true)
include hd hp ha

theorem exec_tableWindowRead_cell {u : State} (h : (s.cellAborted r).cellRead (s.fld .DEV_DBG_SEL_BOLT) (word.toNat / 32) = u) :
    exec (.tableWindowRead r true word) s = .next u.settle :=
  exec_tableWindowRead_cell_of ((State.accessed_of hd hp (malformed_window (by omega) 8) ha _).trans h)

theorem tableWindowRead_cell_free (o : s.Overlock) (hf : s.debugCellFrame (word.toNat / 32) = none) :
    ∃ t, exec (.tableWindowRead r true word) s = .next t ∧ t.out = s.out ++ [.abort r.num] ∧ t.on .THIM_EVENT_DEGRADED = true ∧
      s.SameFlds t s.cellFlds ∧ s.SameMem t := by
  refine ⟨_, exec_tableWindowRead_cell hd hp ha (State.cellRead_cellAborted_none hf r), ?_, ?_, ?_, (s.sameMem_cellAborted r).settle⟩
  · rw [State.settle_out, s.cellAborted_out r]
  · rw [State.on, State.fld_settle_of _ (by decide)]; exact s.cellAborted_degraded r
  · exact (s.sameFlds_cellAborted r).settle_of o (s.cellAborted_dev r) (by simp [Fl.settled])

/-- The frame under transmission ends with an inverted FCS (R198). -/
theorem tableWindowRead_cell_sent (o : s.Overlock) {f : FrameRec} (hf : s.debugCellFrame (word.toNat / 32) = some f) (hs : (s.pt (qPort f.q)).sends f = true) :
    ∃ t, exec (.tableWindowRead r true word) s = .next t ∧ (t.pt (qPort f.q)).tx = (s.pt (qPort f.q)).tx.map (fun x => { x with good := false }) ∧
      (t.qu f.q).frames = (s.qu f.q).frames ∧ s.SameFlds t s.cellFlds ∧ s.SameMem t := by
  have he := (State.cellRead_cellAborted_some hf r).trans (State.cellError_sent (by rwa [s.pt_cellAborted r]))
  refine ⟨_, exec_tableWindowRead_cell hd hp ha he, ?_, ?_, ?_, State.SameMem.settle ?_⟩
  · rw [State.pt_settle, ← s.pt_cellAborted r]; simp [State.pt, State.updPt, State.setPt]
  · rw [State.qu_settle, State.qu, State.updPt_queue, s.cellAborted_queue r]; rfl
  · exact State.SameFlds.settle_of ((s.sameFlds_cellAborted r).regs (State.updPt_regs ..)) o ((State.updPt_dev ..).trans (s.cellAborted_dev r)) (by simp [Fl.settled])
  · intro a; simpa using s.sameMem_cellAborted r a

/-- A frame that is not under transmission leaves its queue (R198). -/
theorem tableWindowRead_cell_lost {f : FrameRec} (hf : s.debugCellFrame (word.toNat / 32) = some f) (hs : (s.pt (qPort f.q)).sends f = false) :
    ∃ t, exec (.tableWindowRead r true word) s = .next t ∧ f ∉ (t.qu f.q).frames := by
  have he := (State.cellRead_cellAborted_some hf r).trans (State.cellError_lost (by rwa [s.pt_cellAborted r]))
  refine ⟨_, exec_tableWindowRead_cell hd hp ha he, ?_⟩
  rw [State.qu_settle]
  exact (s.cellAborted r).not_mem_frames_loseCells f

end CellRead

/-- Settles O7: one lemma for each access of a half, each high-water mark and each read that meets an uncorrectable error. -/
theorem halvesAndReads : Obligations.HalvesAndReads := by
  refine ⟨fun s r o hd hp => ⟨fun _ => lowHalfRead_counter o hd hp, fun _ _ => highHalfRead_latched o hd hp, fun _ _ _ => lowHalfWrite_staged o hd hp,
      fun _ _ _ _ => highHalfWrite_basteData o hd hp⟩,
    fun s r o => ⟨highWaterRead_miss o, highWaterRead_rx o, fun _ => tableWindowRead_local o, fun _ => lowHalfRead_known_bad o, fun _ hd hp ha => ⟨?_, ?_, ?_⟩⟩⟩
  · exact tableWindowRead_cell_free hd hp ha o
  · exact fun _ => tableWindowRead_cell_sent hd hp ha o
  · exact fun _ => tableWindowRead_cell_lost hd hp ha

end Sys2Proof.Machine
end

section
/-!
PROOFS. What a loss of power leaves in the register file (R10, R536, R538).
-/
namespace Sys2Proof.Machine

/-! ## The register file cut to some of its fields -/

theorem Regs.find_filter (p : Fl → Bool) (k : FlKey) (l : Regs) : Regs.find k (l.filter fun e => p e.1.f) = if p k.f then Regs.find k l else none := by
  induction l with
  | nil => simp [Regs.find]
  | cons e l ih =>
    obtain ⟨a, v⟩ := e
    by_cases ha : a = k
    · subst ha; cases hp : p a.f <;> simp [Regs.find, hp, ih]
    · cases hp : p a.f <;> simp [Regs.find, hp, ha, ih]

/-- A field that is cut out of the register file reads as its reset value. -/
theorem State.fld_of_filter {s t : State} {p : Fl → Bool} (h : t.regs = s.regs.filter fun e => p e.1.f) (f : Fl) (i j : Nat) :
    t.fld f i j = if p f then s.fld f i j else fldReset f i := by
  unfold State.fld
  rw [h, Regs.find_filter]
  cases p f <;> rfl

/-! ## A loss of power -/

/-- A reset keeps the RWS fields and the measured frequency (R10); every other field is at its reset value. -/
theorem State.fld_resetTo (s : State) (cause : Nat) {f : Fl} (hf : f ≠ .TPL_OSC_STATUS_FREQ) (i j : Nat) :
    (s.resetTo cause).fld f i j = if f.info.acc = .rws then s.fld f i j else fldReset f i := by
  unfold State.resetTo
  rw [State.fld_setFld_other _ hf, State.fld_of_filter (s := s) (p := fun f => f.info.acc == .rws) rfl]
  simp

/-- A loss of power keeps no field: each one is at its own reset value (R536, R538). -/
theorem State.fld_losePower (s : State) {f : Fl} (hf : f ≠ .TPL_OSC_STATUS_FREQ) (i j : Nat) : s.losePower.fld f i j = fldReset f i := by
  unfold State.losePower
  generalize e : s.goOff 0 = a
  dsimp only
  rw [State.fld_setFld_other _ hf]
  refine (State.fld_of_filter (s := a) (p := fun f => f.info.acc != .rws) (by rfl) f i j).trans ?_
  rw [← e, State.goOff, State.fld_resetTo _ 0 hf]
  by_cases h : f.info.acc = .rws <;> simp [h]
theorem State.powerFall_regs (s : State) : s.powerFall.regs = s.losePower.regs := by unfold State.powerFall; dsimp only
theorem State.fld_powerFall (s : State) (f : Fl) (i j : Nat) : s.powerFall.fld f i j = s.losePower.fld f i j := by
  rw [State.fld, s.powerFall_regs, State.fld]

theorem exec_pwrgoodFall (s : State) : exec .pwrgoodFall s = .next s.powerFall.settle := rfl

/-- Refutes O46: the statement has a field of every unit at the one reset value of its table row, but service-core pair 0 is enabled at reset and the other pairs are not (Table 13-9).
From the state after reset, a loss of PWRGOOD leaves INTC.CORE_CFG.EN of pair 0 at 1, where the row's value is 0. -/
theorem not_powerResetAndPins : ¬ Obligations.PowerResetAndPins := by
  rintro ⟨h, -⟩
  obtain ⟨-, ⟨t, he, -, -, hfld, -⟩, -⟩ := h State.reset (by decide)
  obtain rfl : State.reset.powerFall.settle = t := Host.Outcome.next.inj ((exec_pwrgoodFall _).symm.trans he)
  have hen : State.reset.powerFall.settle.fld .INTC_CORE_CFG_EN 0 0 = 1 :=
    (State.fld_settle _ 0 0 (by decide) (by decide)).trans ((State.fld_powerFall ..).trans (State.fld_losePower _ (by decide) 0 0))
  exact absurd (hen.symm.trans (hfld .INTC_CORE_CFG_EN 0 0)) (by decide)

end Sys2Proof.Machine
end

section
/-!
PROOFS. What a Fatal fault does to the device, and the readings of a state that it spares (R474 to R477).
-/
namespace Sys2Proof.Machine

/-- The fields that a Fatal fault may change beside WORST, at whatever index: the record lost, the dump abandoned, the token released, and what the lost frames leave in ports, rings,
completion queues, pending bits and counters. -/
abbrev fatalFlds : List Fl :=
  [.THIM_STATUS_LOST, .THIM_EVENT_LOG_OVF, .THIM_STATUS_DUMP, .THIM_EVENT_DUMP_DONE, .PAIR_STATUS_TOKEN_DRV, .MAC_MD_STATUS_ATTEMPTS,
    .HIF_CQ_STATUS_PI, .HIF_CQ_STATUS_FULL, .HIF_EVENT_CQ_FULL, .HIF_RING_STATUS_CI, .HIF_RING_STATUS_ERR, .HIF_RING_STATUS_ERR_SEEN, .HIF_RING_STATUS_ERR_IDX,
    .INTC_PENDING_PEND, .INTC_PEND_CNT_COUNT, .TAPE_EVENT_OVF]

/-- A reading of the state that depends on none of those fields, and on none of the parts of the state that lost frames, stopped pairs and the entry to Fail-Silent change. -/
structure State.Spared {β : Type} (g : State → β) : Prop where
  setFld : ∀ (s : State) {f : Fl}, f ∈ fatalFlds → ∀ i j v, g (s.setFld f i j v) = g s
  parts : ∀ (s : State) bolt port queue hif intc thim pair tape pins out free,
    g { s with bolt := bolt, port := port, queue := queue, hif := hif, intc := intc, thim := thim, pair := pair, tape := tape, pins := pins, out := out, free := free } = g s

theorem State.Spared.of_fld {f : Fl} (h : f ∉ fatalFlds) (i j : Nat) : State.Spared fun s => s.fld f i j :=
  ⟨fun s _ hf _ _ _ => s.fld_setFld_other (ne_of_mem_of_not_mem hf h).symm .., fun _ _ _ _ _ _ _ _ _ _ _ _ => rfl⟩
theorem State.Spared.of_time : State.Spared State.time := ⟨fun _ _ _ _ _ _ => rfl, fun _ _ _ _ _ _ _ _ _ _ _ _ => rfl⟩
theorem State.Spared.of_dev : State.Spared State.dev := ⟨fun _ _ _ _ _ _ => rfl, fun _ _ _ _ _ _ _ _ _ _ _ _ => rfl⟩

section Spared
variable {β : Type} {g : State → β} (k : State.Spared g)
include k

/-! ## Register fields, pending bits, counters -/

theorem State.Spared.setFlds (s : State) (i j : Nat) {l : List (Fl × Nat)} (h : ∀ e ∈ l, e.1 ∈ fatalFlds) : g (s.setFlds i j l) = g s := by
  induction l generalizing s with
  | nil => rfl
  | cons e l ih =>
    rw [List.forall_mem_cons] at h
    exact (ih _ h.2).trans (k.setFld s h.1 ..)
theorem State.Spared.pendSet (s : State) (n : Nat) : g (s.pendSet n) = g s := by
  unfold State.pendSet
  dsimp only
  split
  · rfl
  · rw [k.setFld _ (by decide), k.setFld _ (by decide)]
theorem State.Spared.event (s : State) {f : Fl} (h : f ∈ fatalFlds) (i : Nat) : g (s.event f i) = g s := by
  unfold State.event State.assertSrc
  dsimp only
  repeat' split
  · rw [k.pendSet, k.setFld _ h]
  · exact k.setFld s h ..
  · exact k.setFld s h ..
theorem State.Spared.bump (s : State) (a n : Nat) : g (s.bump a n) = g s := by
  have hc : ∀ w, g { s with tape := w } = g s := fun w => k.parts s _ _ _ _ _ _ _ w _ _ _
  unfold State.bump
  dsimp only
  split
  · rw [k.event _ (by decide), hc]
  · exact hc _

/-! ## The completion of a host frame -/

theorem State.Spared.setCq (s : State) (c : Nat) (x : CqSt) : g (s.setCq c x) = g s := k.parts s ..
theorem State.Spared.setRing (s : State) (r : Nat) (x : RingSt) : g (s.setRing r x) = g s := k.parts s ..
theorem State.Spared.hostReq (s : State) (pf : Nat) (o : Out) : g (s.hostReq pf o) = g s := by
  unfold State.hostReq; split <;> exact k.parts s ..
theorem State.Spared.hostPut (s : State) (pf addr attr : Nat) (bytes : List Byte) : g (s.hostPut pf addr attr bytes) = g s :=
  foldl_keeps g _ (fun a _ => k.hostReq a ..) _ s
theorem State.Spared.cqRaise (s : State) (c : Nat) : g (s.cqRaise c) = g s := by
  unfold State.cqRaise
  dsimp only
  split
  · rw [k.pendSet, k.setCq]
  · rfl
theorem State.Spared.cqCount (s : State) (c : Nat) : g (s.cqCount c) = g s := (k.cqRaise ..).trans (k.setCq s ..)
theorem State.Spared.cqPut (s : State) (c rec : Nat) : g (s.cqPut c rec) = g s := by
  unfold State.cqPut
  dsimp only
  rw [k.cqCount]
  split
  · rw [k.event _ (by decide), k.setFld _ (by decide), k.setFld _ (by decide), k.hostPut, k.hostPut]
  · rw [k.setFld _ (by decide), k.hostPut, k.hostPut]
theorem State.Spared.cqWrite (s : State) (c rec : Nat) : g (s.cqWrite c rec) = g s := by
  unfold State.cqWrite
  repeat' split
  · rfl
  · exact k.setCq s ..
  · exact k.cqPut s ..
theorem State.Spared.publish (s : State) (r : Nat) (l : List Nat) : g (s.publish r l) = g s := by
  have hci : ∀ x v, g ((s.setRing r x).setFld .HIF_RING_STATUS_CI r 0 v) = g s := fun x v => by rw [k.setFld _ (by decide), k.setRing]
  unfold State.publish State.ledgerPut
  dsimp only
  repeat' split
  · rw [k.setRing, k.hostPut, hci]
  · rw [k.setRing, hci]
  · exact hci ..
theorem State.Spared.ringStatus (s : State) (r status idx : Nat) : g (s.ringStatus r status idx) = g s := by
  unfold State.ringStatus
  dsimp only
  split
  · exact k.bump s ..
  · rw [k.setFlds _ _ _ (by simp), k.bump]
theorem State.Spared.txBack (s : State) (r first : Nat) (marks : List (Bool × Bool)) (status dom : Nat) (ts : Option Nat) :
    g (s.txBack r first marks status dom ts) = g s :=
  foldl_keeps g _ (fun a _ => by unfold State.putBack; dsimp only; rw [k.hostPut, k.hostPut]) _ s
theorem State.Spared.txComplete (s : State) (r first : Nat) (marks : List (Bool × Bool)) (status dom : Nat) (ts barrier : Option Nat) :
    g (s.txComplete r first marks status dom ts barrier) = g s := by
  unfold State.txComplete
  extract_lets n last s1 c s2 s3 s4
  have h1 : g s1 = g s := by
    simp only [s1]
    split
    · exact k.hostReq s ..
    · rfl
  have h2 : g s2 = g s1 := by
    simp only [s2]
    split
    · exact k.txBack s1 ..
    · exact (k.cqWrite ..).trans (k.setCq s1 ..)
    · rfl
  have h4 : g s4 = g s3 := by
    simp only [s4]
    split
    · exact k.cqCount s3 c
    · rfl
  rw [k.ringStatus, h4, k.publish, h2, h1]
theorem State.Spared.hostFate (s : State) (fr : FrameRec) (status : Nat) (ts : Option Nat) : g (s.hostFate fr status ts) = g s := by
  unfold State.hostFate State.txFinal
  split
  · split
    · rfl
    · exact (k.txComplete ..).trans (k.setRing s ..)
  · rfl

/-! ## The loss of a frame and the return of its cells -/

theorem State.Spared.updPt (s : State) (p : Nat) (f : PortSt → PortSt) : g (s.updPt p f) = g s := k.parts s ..
theorem State.Spared.updBo (s : State) (b : Nat) (f : BoltSt → BoltSt) : g (s.updBo b f) = g s := k.parts s ..
theorem State.Spared.updQu (s : State) (q : Nat) (f : QSt → QSt) : g (s.updQu q f) = g s := k.parts s ..
theorem State.Spared.fate (s : State) (fr : FrameRec) (fate step reason scope dest queue flags : Nat) (t : Option Nat) :
    g (s.fate fr fate step reason scope dest queue flags t) = g s := by
  unfold State.fate
  split
  · exact k.parts s ..
  · rfl
theorem State.Spared.lose (s : State) (fr : FrameRec) (step reason scope status : Nat) : g (s.lose fr step reason scope status) = g s := by
  unfold State.lose
  rw [k.hostFate, k.fate, s.bump _ |>.pecEvent_keeps g (fun a x => k.bump a x 1), k.bump]
theorem State.Spared.acctAdd (s : State) (q : Nat) (a : Acct) (c : Int) : g (s.acctAdd q a c) = g s := by
  cases a with
  | ctrl | reserve | shared => exact k.parts s ..
theorem State.Spared.fcUpdate (s : State) : g s.fcUpdate = g s := by
  refine foldl_keeps g _ (fun a p => ?_) _ s
  unfold State.fcPort State.sendXoff State.sendXon State.queueCtrl
  dsimp only
  repeat' split
  · rfl
  · rw [k.updPt, k.updPt]
  · rw [k.updPt, k.updPt]
  · rfl
theorem State.Spared.freeFrame (s : State) (fr : FrameRec) : g (s.freeFrame fr) = g s := by
  unfold State.freeFrame State.giveCells
  rw [k.fcUpdate, k.updBo, k.acctAdd, k.updQu]
theorem State.Spared.discardHeld (s : State) (fr : FrameRec) (step reason scope status : Nat) : g (s.discardHeld fr step reason scope status) = g s :=
  (k.freeFrame ..).trans (k.lose s ..)

/-! ## The entry to Fail-Silent and the stop of the pairs -/

theorem State.Spared.txEnded (s : State) (p : Nat) (good : Bool) : g (s.txEnded p good) = g s := by
  have hs : ∀ x, g (s.setSlotAcct p x) = g s := fun x => k.parts s ..
  unfold State.txEnded State.portCount
  dsimp only
  split
  · exact hs _
  · rw [k.bump, hs]
theorem State.Spared.abortTx (s : State) (p reason : Nat) : g (s.abortTx p reason) = g s := by
  have he : ∀ (a : State) o, g (a.emit o) = g a := fun a o => k.parts a ..
  unfold State.abortTx
  split
  · rfl
  · dsimp only
    split
    · rw [k.lose, he, k.txEnded, k.updPt]
    · rw [k.discardHeld, k.setFld _ (by decide), he, k.txEnded, k.updPt]
    · rw [k.discardHeld, k.updPt, he, k.txEnded, k.updPt]
    · rw [he, k.txEnded, k.updPt]
theorem State.Spared.stopPair (s : State) (n : Nat) : g (s.stopPair n) = g s := by
  have hn : ∀ (a : State) (x : Nat), g (a.toNone x true) = g a := fun a x => by
    have hs : g (a.setSrc x {}) = g a := k.parts a ..
    unfold State.toNone
    dsimp only
    repeat' split
    · rw [k.pendSet, hs]
    · contradiction
    · rw [k.pendSet, hs]
    · exact hs
  unfold State.stopPair State.releasePair
  rw [foldl_keeps g _ hn]
  exact k.parts s ..
theorem State.Spared.doubleFatal (s : State) : g s.doubleFatal = g s := by
  unfold State.doubleFatal
  dsimp only
  rw [foldl_keeps g _ k.stopPair]
  refine (k.parts (State.event _ _) ..).trans ?_
  rw [k.event _ (by decide), k.setFld _ (by decide)]
theorem State.Spared.logRecord (s : State) (r : FaultRec) : g (s.logRecord r) = g s := by
  have hl : ∀ a : State, g a.logLost = g a := fun a => by unfold State.logLost; rw [k.event _ (by decide), k.setFld _ (by decide)]
  unfold State.logRecord
  dsimp only
  repeat' split
  · exact k.parts s ..
  · exact (hl _).trans (k.parts s ..)
  · exact hl s

/-- Of all that a reading can spare, the entry to Fail-Silent changes the device state alone. -/
theorem State.Spared.enterFailSilent (s : State) (r : FaultRec) : g (s.enterFailSilent r) = g { s with dev := .failSilent } := by
  unfold State.enterFailSilent
  dsimp only
  rw [foldl_keeps g _ (fun a p => ?_), k.setFld _ (by decide)]
  · exact k.parts { s with dev := .failSilent } ..
  · split
    · exact k.abortTx a ..
    · rfl

end Spared

/-! ## A Fatal fault -/

/-- The reaction to a Fatal record: Fail-Silent, and the dump abandoned where it cannot be written (R476, R477). -/
def State.failWith (s : State) (r : FaultRec) (again : Bool) : State :=
  let t := if s.dev = .failSilent then s else s.enterFailSilent r
  if again then t.doubleFatal else t

theorem State.Spared.failWith {β : Type} {g : State → β} (k : State.Spared g) (s : State) (r : FaultRec) (again : Bool) :
    g (s.failWith r again) = g { s with dev := .failSilent } := by
  have ht : g (if s.dev = .failSilent then s else s.enterFailSilent r) = g { s with dev := .failSilent } := by
    split
    next h => rw [← h]
    next => exact k.enterFailSilent s r
  unfold State.failWith
  dsimp only
  split
  · exact (k.doubleFatal _).trans ht
  · exact ht

/-- A Fatal record is counted, queued, noted in WORST and reacted to. -/
theorem State.record_fatal (s : State) (sm unit detail : Nat) : ∃ r again,
    s.record 3 sm unit detail = (((s.bump (faultWord sm 3)).logRecord r).setFld .THIM_STATUS_WORST 0 0 3).failWith r again := by
  have hw : ∀ a : State, max (a.fld .THIM_STATUS_WORST) 3 = 3 := fun a => Nat.max_eq_right (Nat.le_of_lt_succ (a.fld_lt ..))
  refine ⟨⟨3, sm, unit % 512, detail % 4096, s.lUs % 2 ^ 32⟩, ((s.bump (faultWord sm 3)).fatalHandling || noDump sm unit), ?_⟩
  unfold State.record
  simp only [hw, if_true]
  rfl

/-- What a reading sees of a Fatal fault: WORST, and Fail-Silent. -/
theorem State.Spared.fault_fatal {β : Type} {g : State → β} (k : State.Spared g) (s : State) (sm unit : Nat) :
    ∃ u, g u = g s ∧ g (s.fault 3 sm unit) = g (({ u with dev := .failSilent } : State).setFld .THIM_STATUS_WORST 0 0 3) := by
  obtain ⟨d, n, v, e⟩ := s.fault_eq 3 sm unit
  obtain ⟨r, again, h⟩ := State.record_fatal { s with free := n } sm v d
  refine ⟨_, ?_, by rw [e, h]; exact k.failWith ..⟩
  rw [k.logRecord, k.bump]
  exact k.parts s ..

theorem State.fault_fatal_dev (s : State) (sm unit : Nat) : (s.fault 3 sm unit).dev = .failSilent := by
  obtain ⟨u, -, h⟩ := State.Spared.of_dev.fault_fatal s sm unit
  exact h
theorem State.fault_fatal_time (s : State) (sm unit : Nat) : (s.fault 3 sm unit).time = s.time := by
  obtain ⟨u, hu, h⟩ := State.Spared.of_time.fault_fatal s sm unit
  exact h.trans hu
theorem State.fault_fatal_worst (s : State) (sm unit : Nat) : (s.fault 3 sm unit).fld .THIM_STATUS_WORST = 3 := by
  obtain ⟨u, -, h⟩ := (State.Spared.of_fld (f := .THIM_STATUS_WORST) (by decide) 0 0).fault_fatal s sm unit
  exact h.trans (State.fld_setFld_same ..)
theorem State.fault_fatal_fld (s : State) (sm unit : Nat) {f : Fl} (hw : f ≠ .THIM_STATUS_WORST) (h : f ∉ fatalFlds) (i j : Nat) :
    (s.fault 3 sm unit).fld f i j = s.fld f i j := by
  obtain ⟨u, hu, h⟩ := (State.Spared.of_fld h i j).fault_fatal s sm unit
  exact h.trans ((State.fld_setFld_other _ hw ..).trans hu)

/-- A device that a Fatal fault leaves asserts OVL_FS at the end of the command (R477, Table 15-6). -/
theorem State.settle_fsDrive (s : State) : s.settle.pair.fsDrive = s.dev.failed := by
  unfold State.settle; dsimp only; repeat' split
  all_goals rfl

end Sys2Proof.Machine
end

section
/-!
PROOFS. The pace monitors (R26, R35): the end of a window, the end of a microsecond, CLR_LOWEST, and a core voltage below its limit.
-/
namespace Sys2Proof.Machine

theorem testBit_setBit_same (w n : Nat) : (setBit w n).testBit n = true := by
  unfold setBit
  split
  · assumption
  next h => rw [Nat.add_comm, Nat.testBit_two_pow_add_eq]; simpa using h

/-! ## A Bolt's monitor -/

/-- A Bolt's pace monitor. -/
def State.monitor (s : State) (b : Nat) : PaceSt := s.time.pace.get {} b
def State.setMonitor (s : State) (b : Nat) (x : PaceSt) : State := { s with time := { s.time with pace := s.time.pace.set {} b x } }

theorem State.monitor_setMonitor (s : State) (b : Nat) (x : PaceSt) : (s.setMonitor b x).monitor b = x := Tbl.get_set_same ..
theorem State.monitor_of_time {s t : State} (h : t.time = s.time) (b : Nat) : t.monitor b = s.monitor b := by unfold State.monitor; rw [h]
theorem State.sameMem_setMonitor (s : State) (b : Nat) (x : PaceSt) : s.SameMem (s.setMonitor b x) := State.sameMem_of rfl rfl rfl

/-! ## The end of a window -/

/-- The monitor with the window under way ended after `laps` laps. -/
def PaceSt.endWindow (x : PaceSt) (laps : Nat) : PaceSt :=
  { x with windows := x.windows ++ [(x.win, laps, Config.paceOf laps 128)], win := x.win + 1 }

/-- A window below the Pace Floor: its bit, and a Fatal fault (R26). -/
def State.paceFloor (s : State) (b : Nat) : State :=
  (s.setFld .DEV_PACE_EVENT_FLOOR 0 0 (setBit (s.fld .DEV_PACE_EVENT_FLOOR) b)).fault 3 6 b

theorem State.paceFloor_dev (s : State) (b : Nat) : (s.paceFloor b).dev = .failSilent := State.fault_fatal_dev ..
theorem State.paceFloor_time (s : State) (b : Nat) : (s.paceFloor b).time = s.time := State.fault_fatal_time ..
theorem State.paceFloor_worst (s : State) (b : Nat) : (s.paceFloor b).fld .THIM_STATUS_WORST = 3 := State.fault_fatal_worst ..
theorem State.paceFloor_bit (s : State) {b : Nat} (hb : b < 8) : ((s.paceFloor b).fld .DEV_PACE_EVENT_FLOOR).testBit b = true := by
  unfold State.paceFloor
  rw [State.fault_fatal_fld _ _ _ (by decide) (by decide), State.fld_setFld_same, Nat.testBit_mod_two_pow, testBit_setBit_same, Bool.and_true]
  exact decide_eq_true hb

section Window
variable {s : State} {b laps : Nat}

theorem State.paceWindow_early (h : s.lNs < 128 * ((s.monitor b).win + 1)) : s.paceWindow b laps = s := if_pos h
theorem State.paceWindow_due (h : 128 * ((s.monitor b).win + 1) ≤ s.lNs) :
    s.paceWindow b laps = if Config.paceOf laps 128 < 400 then (s.setMonitor b ((s.monitor b).endWindow laps)).paceFloor b
      else s.setMonitor b ((s.monitor b).endWindow laps) := if_neg (Nat.not_lt.mpr h)

/-- A window that ends is kept, whatever its pace. -/
theorem State.monitor_paceWindow (h : 128 * ((s.monitor b).win + 1) ≤ s.lNs) : (s.paceWindow b laps).monitor b = (s.monitor b).endWindow laps := by
  rw [State.paceWindow_due h]
  split
  · rw [State.monitor_of_time (State.paceFloor_time ..), State.monitor_setMonitor]
  · rw [State.monitor_setMonitor]

end Window

theorem exec_paceWindowEnd {s : State} (hd : s.dev ≠ .off) (b : Bolt) (laps : Nat) : exec (.paceWindowEnd b laps) s = .next (s.paceWindow b laps).settle := by
  rw [← State.powered_of hd fun s => s.paceWindow b laps]; rfl

theorem paceWindowEnd_early {s : State} (o : s.Overlock) {b : Bolt} (laps : Nat) (hd : s.dev ≠ .off) (h : s.lNs < 128 * ((s.monitor b).win + 1)) :
    ∃ t, exec (.paceWindowEnd b laps) s = .next t ∧ t.time = s.time ∧ s.SameFlds t [] :=
  ⟨_, (exec_paceWindowEnd hd b laps).trans (by rw [State.paceWindow_early h]), s.settle_time, State.sameFlds_of_regs o rfl rfl⟩

theorem paceWindowEnd_due {s : State} (o : s.Overlock) {b : Bolt} {laps : Nat} (hd : s.dev ≠ .off) (h : 128 * ((s.monitor b).win + 1) ≤ s.lNs) :
    ∃ t, exec (.paceWindowEnd b laps) s = .next t ∧ t.monitor b = (s.monitor b).endWindow laps ∧
      (Config.paceOf laps 128 < 400 → t.dev = .failSilent ∧ t.pair.fsDrive = true ∧ t.fld .THIM_STATUS_WORST = 3 ∧ (t.fld .DEV_PACE_EVENT_FLOOR).testBit b = true) ∧
      (400 ≤ Config.paceOf laps 128 → t.dev = s.dev ∧ s.SameFlds t [] ∧ s.SameMem t) := by
  refine ⟨_, exec_paceWindowEnd hd b laps, (State.monitor_of_time (State.settle_time _) b).trans (State.monitor_paceWindow h), fun hp => ?_, fun hp => ?_⟩
  · rw [State.paceWindow_due h, if_pos hp]
    refine ⟨?_, ?_, ?_, ?_⟩
    · rw [State.settle_dev, State.paceFloor_dev]
    · rw [State.settle_fsDrive, State.paceFloor_dev]; rfl
    · rw [State.fld_settle_of _ (by decide), State.paceFloor_worst]
    · rw [State.fld_settle_of _ (by decide)]; exact State.paceFloor_bit _ b.isLt
  · rw [State.paceWindow_due h, if_neg (Nat.not_lt.mpr hp)]
    exact ⟨State.settle_dev _, State.sameFlds_of_regs o rfl rfl, (s.sameMem_setMonitor b _).settle⟩

/-! ## The end of a microsecond -/

/-- The mean of a microsecond's windows, and the lowest of them. -/
def paceMean (w : Nat × Nat) (ws : List (Nat × Nat)) : Nat := Config.paceOf ((w :: ws).map (·.1)).sum (128 * (ws.length + 1))
def paceLeast (w : Nat × Nat) (ws : List (Nat × Nat)) : Nat := ws.foldl (fun m e => min m e.2) w.2

/-- The monitor with the microsecond under way ended. -/
def PaceSt.endMicrosecond (x : PaceSt) (isLow : Bool) : PaceSt :=
  { x with windows := x.windows.filter (fun e => windowUs e.1 != x.us), us := x.us + 1, wasLow := isLow }

/-- What a microsecond shows of its mean and its lowest window (R26, log entry 108). -/
abbrev State.paceShown (s : State) (b : Nat) (w : Nat × Nat) (ws : List (Nat × Nat)) : List (Fl × Nat) :=
  [(.DEV_PACE_STATUS_AVG_1US, min 0xFFF (paceMean w ws)), (.DEV_PACE_STATUS_MIN_1US, min 0xFFF (paceLeast w ws)),
    (.DEV_PACE_STATUS_LOWEST, min (s.fld .DEV_PACE_STATUS_LOWEST b) (paceMean w ws))]

/-- A microsecond that is Pace Low sets its bit; the first of them is a Notice where that is enabled (R35). -/
def State.paceLow (s : State) (b : Nat) (isLow wasLow : Bool) : State :=
  if isLow then
    let t := s.eventBit .DEV_PACE_EVENT_LOW 0 b
    if !wasLow && t.on .DEV_PACE_CTRL_LOW_NOTICE_EN then t.fault 1 6 b else t
  else s

/-- The fields that Pace Low may change. -/
abbrev paceLowFlds : List (Fl × Nat) := (.DEV_PACE_EVENT_LOW, 0) :: faultFlds
/-- The fields that the end of a microsecond may change. -/
abbrev paceEndFlds (b : Nat) : List (Fl × Nat) := (.DEV_PACE_STATUS_AVG_1US, b) :: (.DEV_PACE_STATUS_MIN_1US, b) :: (.DEV_PACE_STATUS_LOWEST, b) :: paceLowFlds

theorem State.paceLow_time (s : State) (b : Nat) (i w : Bool) : (s.paceLow b i w).time = s.time := by
  unfold State.paceLow; dsimp only; repeat' split
  all_goals simp
theorem State.paceLow_dev (s : State) (b : Nat) (i w : Bool) : (s.paceLow b i w).dev = s.dev := by
  unfold State.paceLow; dsimp only; repeat' split
  all_goals simp
theorem State.SameMem.paceLow {s u : State} (h : s.SameMem u) (b : Nat) (i w : Bool) : s.SameMem (u.paceLow b i w) := by
  unfold State.paceLow; dsimp only; repeat' split
  all_goals intro a; simpa using h a
theorem State.SameFlds.paceLow {s u : State} {l : List (Fl × Nat)} (h : s.SameFlds u l) (m : ∀ e ∈ paceLowFlds, e ∈ l) (b : Nat) (i w : Bool) :
    s.SameFlds (u.paceLow b i w) l := by
  rw [List.forall_mem_cons] at m
  unfold State.paceLow; dsimp only; repeat' split
  · exact (h.eventBit m.1 b).fault m.2 (sev := 1) (by decide) 6 b
  · exact h.eventBit m.1 b
  · exact h

/-- The end of a microsecond with the windows `w :: ws`. -/
def State.paceEnd (s : State) (b : Nat) (w : Nat × Nat) (ws : List (Nat × Nat)) (isLow : Bool) : State :=
  ((s.setFlds b 0 (s.paceShown b w ws)).setMonitor b ((s.monitor b).endMicrosecond isLow)).paceLow b isLow (s.monitor b).wasLow

section Microsecond
variable {s : State} {b : Nat}

theorem State.paceMicrosecond_early (h : s.lNs < 1000 * ((s.monitor b).us + 1)) : s.paceMicrosecond b = s := if_pos (.inl h)

/-- A microsecond whose end L time has reached and whose windows have ended. -/
theorem State.paceMicrosecond_due {w : Nat × Nat} {ws : List (Nat × Nat)} (h : 1000 * ((s.monitor b).us + 1) ≤ s.lNs)
    (hw : (s.monitor b).us < windowUs (s.monitor b).win) (hl : (s.monitor b).windowsOf (s.monitor b).us = w :: ws) :
    ∃ isLow, s.paceMicrosecond b = s.paceEnd b w ws isLow := by
  have hn : ¬(s.lNs < 1000 * ((s.monitor b).us + 1) ∨ windowUs (s.monitor b).win ≤ (s.monitor b).us) := by omega
  refine ⟨decide (paceLeast w ws < s.paceThresh) && decide (400 ≤ paceLeast w ws), (if_neg hn).trans ?_⟩
  unfold State.monitor at hl
  simp only [hl]
  rfl

end Microsecond

section PaceEnd
variable (s : State) (b : Nat) (w : Nat × Nat) (ws : List (Nat × Nat)) (isLow : Bool)

theorem State.monitor_paceEnd : (s.paceEnd b w ws isLow).monitor b = (s.monitor b).endMicrosecond isLow :=
  (State.monitor_of_time (State.paceLow_time ..) b).trans (State.monitor_setMonitor ..)
theorem State.paceEnd_dev : (s.paceEnd b w ws isLow).dev = s.dev := (State.paceLow_dev ..).trans (s.setFlds_dev ..)
theorem State.sameMem_paceEnd : s.SameMem (s.paceEnd b w ws isLow) := by
  refine State.SameMem.paceLow (State.sameMem_of ?_ ?_ ?_) b _ _
  · exact s.setFlds_localMem b 0 _
  · exact s.setFlds_dram b 0 _
  · exact congrArg BootSt.nvm (s.setFlds_boot b 0 _)
theorem State.sameFlds_paceEnd : s.SameFlds (s.paceEnd b w ws isLow) (paceEndFlds b) := by
  have hf := (State.SameFlds.refl s (paceEndFlds b)).setFlds b 0 (s.paceShown b w ws) (by simp)
  exact (hf.regs (v := State.setMonitor _ b _) rfl).paceLow (fun e he => by simp [he]) b _ _

/-- The values shown stand in their fields: Pace Low does not touch them. -/
theorem State.fld_paceEnd {f : Fl} {v : Nat} (hm : (f, v) ∈ s.paceShown b w ws) (hv : v < 2 ^ f.info.width) : (s.paceEnd b w ws isLow).fld f b = v := by
  obtain ⟨hlow, hshared⟩ : (f, b) ∉ paceLowFlds ∧ ¬f.shared := by
    simp only [State.paceShown, List.mem_cons, Prod.mk.injEq, List.not_mem_nil, or_false] at hm
    obtain ⟨rfl, -⟩ | ⟨rfl, -⟩ | ⟨rfl, -⟩ := hm <;> simp [Fl.shared]
  refine ((State.SameFlds.refl _ _).paceLow (fun _ h => h) b _ _ f b 0 hlow hshared).trans ?_
  exact (s.fld_setFlds_mem b 0 (by simp) hm).trans (Nat.mod_eq_of_lt hv)

end PaceEnd

theorem exec_paceMicrosecondEnd {s : State} (hd : s.dev ≠ .off) (b : Bolt) : exec (.paceMicrosecondEnd b) s = .next (s.paceMicrosecond b).settle := by
  rw [← State.powered_of hd fun s => s.paceMicrosecond b]; rfl

theorem paceMicrosecondEnd_early {s : State} (o : s.Overlock) {b : Bolt} (hd : s.dev ≠ .off) (h : s.lNs < 1000 * ((s.monitor b).us + 1)) :
    ∃ t, exec (.paceMicrosecondEnd b) s = .next t ∧ t.time = s.time ∧ s.SameFlds t [] :=
  ⟨_, (exec_paceMicrosecondEnd hd b).trans (by rw [State.paceMicrosecond_early h]), s.settle_time, State.sameFlds_of_regs o rfl rfl⟩

/-- A window under way that ends after a microsecond is none of that microsecond's windows. -/
theorem lt_windowUs {us j : Nat} (h : us * 1000 + 1000 < 128 * (j + 1)) : us < windowUs j := by unfold windowUs; omega

/-- A microsecond that ends has left the monitor's windows. -/
theorem PaceSt.windowUs_ne_of_endMicrosecond {x : PaceSt} {isLow : Bool} {e : Nat × Nat × Nat} (h : e ∈ (x.endMicrosecond isLow).windows) : windowUs e.1 ≠ x.us :=
  bne_iff_ne.mp (List.mem_filter.mp h).2

theorem paceMicrosecondEnd_due {s : State} (o : s.Overlock) {b : Bolt} {w : Nat × Nat} {ws : List (Nat × Nat)} (hd : s.dev ≠ .off)
    (h : 1000 * ((s.monitor b).us + 1) ≤ s.lNs) (hw : (s.monitor b).us < windowUs (s.monitor b).win) (hl : (s.monitor b).windowsOf (s.monitor b).us = w :: ws) :
    ∃ t, exec (.paceMicrosecondEnd b) s = .next t ∧ (t.monitor b).us = (s.monitor b).us + 1 ∧
      (∀ e ∈ (t.monitor b).windows, windowUs e.1 ≠ (s.monitor b).us) ∧
      t.fld .DEV_PACE_STATUS_AVG_1US b = min 0xFFF (paceMean w ws) ∧ t.fld .DEV_PACE_STATUS_MIN_1US b = min 0xFFF (paceLeast w ws) ∧
      t.fld .DEV_PACE_STATUS_LOWEST b = min (s.fld .DEV_PACE_STATUS_LOWEST b) (paceMean w ws) ∧
      s.SameFlds t (paceEndFlds b) ∧ s.SameMem t := by
  obtain ⟨isLow, he⟩ := State.paceMicrosecond_due h hw hl
  have hmon : (s.paceEnd b w ws isLow).settle.monitor b = (s.monitor b).endMicrosecond isLow :=
    (State.monitor_of_time (State.settle_time _) b).trans (s.monitor_paceEnd ..)
  refine ⟨_, (exec_paceMicrosecondEnd hd b).trans (by rw [he]), by rw [hmon]; rfl, fun e hm => PaceSt.windowUs_ne_of_endMicrosecond (hmon ▸ hm), ?_, ?_, ?_,
    (s.sameFlds_paceEnd b w ws isLow).settle_of o (s.paceEnd_dev ..) (by simp [Fl.settled]), (s.sameMem_paceEnd b w ws isLow).settle⟩
  · rw [State.fld_settle_of _ (by decide)]
    exact s.fld_paceEnd b w ws isLow (by simp) (Nat.lt_succ_of_le (Nat.min_le_left ..))
  · rw [State.fld_settle_of _ (by decide)]
    exact s.fld_paceEnd b w ws isLow (by simp) (Nat.lt_succ_of_le (Nat.min_le_left ..))
  · rw [State.fld_settle_of _ (by decide)]
    exact s.fld_paceEnd b w ws isLow (by simp) (Nat.lt_of_le_of_lt (Nat.min_le_left ..) (s.fld_lt ..))

/-! ## CLR_LOWEST -/

/-- LOWEST of a Bolt takes the mean of its last microsecond (R26). -/
def State.lowestTakesMean (s : State) (b : Nat) : State := s.setFld .DEV_PACE_STATUS_LOWEST b 0 (s.fld .DEV_PACE_STATUS_AVG_1US b)
theorem State.clrLowest_eq (s : State) : s.clrLowest = (List.range 8).foldl State.lowestTakesMean s := rfl

theorem State.fld_lowestTakesMean_other (s : State) (l : List Nat) {f : Fl} (h : f ≠ .DEV_PACE_STATUS_LOWEST) (i j : Nat) :
    (l.foldl State.lowestTakesMean s).fld f i j = s.fld f i j := foldl_keeps (fun a => a.fld f i j) _ (fun a _ => a.fld_setFld_other h ..) l s

theorem State.fld_lowestTakesMean (s : State) {n b : Nat} (h : b < n) :
    ((List.range n).foldl State.lowestTakesMean s).fld .DEV_PACE_STATUS_LOWEST b = s.fld .DEV_PACE_STATUS_AVG_1US b % 2 ^ 12 := by
  induction n with
  | zero => omega
  | succ n ih =>
    rw [List.range_succ, List.foldl_append, List.foldl_cons, List.foldl_nil]
    unfold State.lowestTakesMean
    by_cases hb : b = n
    · subst hb
      rw [State.fld_setFld_same]
      exact congrArg (· % 2 ^ 12) (s.fld_lowestTakesMean_other (List.range b) (f := .DEV_PACE_STATUS_AVG_1US) (by decide) b 0)
    · rw [State.fld_setFld_inst _ _ _ hb]
      exact ih (by omega)

theorem State.SameFlds.lowestTakesMean {s u : State} {l : List (Fl × Nat)} (h : s.SameFlds u l) {bs : List Nat} (m : ∀ b ∈ bs, (.DEV_PACE_STATUS_LOWEST, b) ∈ l) :
    s.SameFlds (bs.foldl State.lowestTakesMean u) l := by
  induction bs generalizing u with
  | nil => exact h
  | cons b bs ih =>
    rw [List.forall_mem_cons] at m
    exact ih (h.setFld m.1 0 _) m.2

theorem clrLowest_takesMean {s : State} (o : s.Overlock) {r : Req} (hg : s.Grants r true .DEV_PACE_CTRL 0 0) : ∃ t, exec (.clrLowest r) s = .next t ∧
    (∀ b : Bolt, t.fld .DEV_PACE_STATUS_LOWEST b = s.fld .DEV_PACE_STATUS_AVG_1US b % 2 ^ 12) ∧
    s.SameFlds t ((List.range 8).map fun b => (.DEV_PACE_STATUS_LOWEST, b)) ∧ s.SameMem t := by
  have he : exec (.clrLowest r) s = .next ((List.range 8).foldl State.lowestTakesMean s).settle := by
    rw [← State.clrLowest_eq, ← State.writing_of hg State.clrLowest]; rfl
  refine ⟨_, he, fun b => ?_, State.SameFlds.settle_of ((State.SameFlds.refl s _).lowestTakesMean ?_) o ?_ ?_, State.SameMem.settle (State.sameMem_of ?_ ?_ ?_)⟩
  · rw [State.fld_settle_of _ (by decide), s.fld_lowestTakesMean b.isLt]
  · exact fun b hb => List.mem_map_of_mem hb
  · exact foldl_keeps State.dev State.lowestTakesMean (fun _ _ => rfl) _ s
  · simp [Fl.settled]
  · exact foldl_keeps State.localMem State.lowestTakesMean (fun _ _ => rfl) _ s
  · exact foldl_keeps State.dram State.lowestTakesMean (fun _ _ => rfl) _ s
  · exact foldl_keeps (fun a => a.boot.nvm) State.lowestTakesMean (fun _ _ => rfl) _ s

/-! ## The core voltage -/

theorem vcoreLowDetect_fatal {s : State} (hd : s.dev ≠ .off) :
    ∃ t, exec .vcoreLowDetect s = .next t ∧ t.dev = .failSilent ∧ t.pair.fsDrive = true ∧ t.fld .THIM_STATUS_WORST = 3 := by
  have he : exec .vcoreLowDetect s = .next (s.fault 3 7 noUnit).settle := by rw [← State.powered_of hd fun s => s.fault 3 7 noUnit]; rfl
  refine ⟨_, he, ?_, ?_, ?_⟩
  · rw [State.settle_dev, State.fault_fatal_dev]
  · rw [State.settle_fsDrive, State.fault_fatal_dev]; rfl
  · rw [State.fld_settle_of _ (by decide), State.fault_fatal_worst]

/-- Settles O8: one lemma for each end of a window or a microsecond, before its L time and from it on, one for CLR_LOWEST and one for the core voltage. -/
theorem paceMonitors : Obligations.PaceMonitors := by
  intro s o
  refine ⟨fun b laps hd h => ?_, fun _ laps => paceWindowEnd_early o laps, fun _ => paceMicrosecondEnd_early o,
    fun _ _ _ hd h hw hl => paceMicrosecondEnd_due o hd h (lt_windowUs hw) hl, fun _ => clrLowest_takesMean o, vcoreLowDetect_fatal⟩
  obtain ⟨t, he, ht, hfloor, habove⟩ := paceWindowEnd_due (laps := laps) o hd h
  exact ⟨t, he, congrArg PaceSt.windows ht, congrArg PaceSt.win ht, hfloor, habove⟩

end Sys2Proof.Machine
end

section
/-!
PROOFS. The state after reset, and the measurement of TIMEOSC (R39, R41, R438).
-/
namespace Sys2Proof.Machine

theorem State.reset_overlock : State.reset.Overlock := by decide

/-- Settles O3: the register file after reset lists nothing, so that every field reads as its reset value, and the memories list nothing. -/
theorem resetState : Obligations.ResetState :=
  ⟨rfl, rfl, by decide, fun _ _ _ => rfl, rfl, State.reset_memories.1, State.reset_memories.2, fun _ => ⟨rfl, rfl⟩, State.reset_overlock⟩

/-- R41 takes 200 ppm of the measured frequency: of 9,998,000 Hz they are 1,999.6 Hz, and 10 MHz lies 2,000 Hz away. -/
theorem oscFreq_below_10MHz : oscFreq 9998000 = 0 := by decide

theorem State.fld_withTime (s : State) (w : TimeSt) (f : Fl) (i j : Nat) : ({ s with time := w } : State).fld f i j = s.fld f i j := rfl

theorem State.fld_oscMeasured {s : State} (h : s.time.measuring = true) (hz : Nat) : (s.oscMeasured hz).fld .TPL_OSC_STATUS_FREQ = oscFreq hz % 2 ^ Fl.TPL_OSC_STATUS_FREQ.info.width := by
  unfold State.oscMeasured
  rw [if_pos h, State.fld_withTime, State.fld_setFld_same]

/-- Refutes O9: the statement has a measured 9,998,000 Hz select 10 MHz; the device after reset selects no frequency for it. -/
theorem not_timeReferencesAndRepairs : ¬ Obligations.TimeReferencesAndRepairs := by
  rintro ⟨h, -⟩
  obtain ⟨hmeasure, -⟩ := h State.reset State.reset_overlock (by decide)
  obtain ⟨t, ht, -, hselects, -⟩ := hmeasure 9998000 rfl
  cases ht
  have hnone : (State.reset.oscMeasured 9998000).settle.fld .TPL_OSC_STATUS_FREQ = 0 := by
    rw [State.fld_settle_of _ (by decide), State.fld_oscMeasured rfl, oscFreq_below_10MHz, Nat.zero_mod]
  exact absurd ((hselects (by decide)).symm.trans hnone) (by decide)

end Sys2Proof.Machine
end

section
/-!
PROOFS. Readings of the time plane: what a reader of the counters, of the domains and of their registers sees of a grid that unlocks, of frames that are lost with it, and of what follows
the step of a domain (R71, R134, R219, R242, R395, R520).
-/
namespace Sys2Proof.Machine

/-- A field outside the blocks TPL and BOOT, or the progress of an output unit. -/
def Fl.aside (f : Fl) : Bool := (f.reg.blk != .TPL && f.reg.blk != .BOOT) || f == .TPL_OUT_STATUS_MISSED || f == .TPL_OUT_STATUS_ACTIVE

/-- A reading that depends on no such field, and on none of the parts of the state behind them: of the time plane it sees all but the output units. -/
structure State.Plane {β : Type} (g : State → β) : Prop where
  setFld : ∀ (s : State) {f : Fl}, f.aside = true → ∀ i j v, g (s.setFld f i j v) = g s
  parts : ∀ (s : State) bolt port queue strm hif dma intc boot thim pair tape pins out free units,
    g { s with bolt := bolt, port := port, queue := queue, strm := strm, hif := hif, dma := dma, intc := intc, boot := boot, thim := thim, pair := pair, tape := tape, pins := pins,
               out := out, free := free, time := { s.time with out := units } } = g s

theorem State.Plane.of_fld {f : Fl} (h : f.aside = false) (i j : Nat) : State.Plane fun s => s.fld f i j :=
  ⟨fun s f' hf _ _ _ => s.fld_setFld_other (fun e => absurd (h.symm.trans (congrArg Fl.aside e)) (by simp [hf])) .., fun _ _ _ _ _ _ _ _ _ _ _ _ _ _ _ _ => rfl⟩
theorem State.Plane.of_time {β : Type} {h : TimeSt → β} (hh : ∀ t units, h { t with out := units } = h t) : State.Plane fun s => h s.time :=
  ⟨fun _ _ _ _ _ _ => rfl, fun s _ _ _ _ _ _ _ _ _ _ _ _ _ _ _ => hh s.time _⟩
theorem State.Plane.of_cnt (x c : Nat) : State.Plane fun s => s.cnt x c := .of_time (h := fun t => t.cnt.get 0 (3 * x + c)) fun _ _ => rfl
theorem State.Plane.of_dom (d : Nat) : State.Plane fun s => s.dom d := .of_time (h := fun t => Tbl.get ({} : DomSt) t.dom d) fun _ _ => rfl
theorem State.Plane.of_ptp : State.Plane State.ptp := ⟨fun _ _ _ _ _ _ => rfl, fun _ _ _ _ _ _ _ _ _ _ _ _ _ _ _ _ => rfl⟩

/-! ## Frames lost with a suspension (R92) -/

section Spared
variable {β : Type} {g : State → β} (k : State.Spared g)
include k

theorem State.Spared.loseStaged (s : State) (x : Staged) (reason : Nat) : g (s.loseStaged x reason) = g s := by
  unfold State.loseStaged
  split
  · exact k.discardHeld s ..
  · exact k.lose s ..
theorem State.Spared.dropStaged (s : State) (p : Nat) (keep : Staged → Bool) : g (s.dropStaged p keep) = g s :=
  (foldl_keeps g _ (fun a x => (k.loseStaged _ x 46).trans (k.bump a ..)) _ _).trans (k.updPt s ..)
theorem State.Spared.dropQueue (s : State) (q : Nat) : g (s.dropQueue q) = g s :=
  (foldl_keeps g _ (fun a f => k.discardHeld a f ..) _ _).trans (k.updQu s ..)
theorem State.Spared.dropSched (s : State) (p : Nat) : g (s.dropSched p) = g s := by
  refine (foldl_keeps g _ (fun a t => ?_) _ _).trans (k.dropStaged s p _)
  split
  · refine foldl_keeps g _ (fun b n => ?_) _ a
    split
    · rfl
    · exact k.dropQueue b _
  · rfl
theorem State.Spared.withSched (s : State) (p : Nat) {f : State → State} (h : ∀ a, g (f a) = g a) : g (s.withSched p f) = g s := by
  unfold State.withSched
  dsimp only
  repeat' split
  · rw [k.dropSched, k.updPt, h]
  · rw [k.updPt, h]
  · exact h s

end Spared

section Plane
variable {β : Type} {g : State → β} (k : State.Plane g)
include k

theorem State.Plane.spared : State.Spared g :=
  ⟨fun s f hf => k.setFld s (by revert f; decide), fun s _ _ _ _ _ _ _ _ _ _ _ => k.parts s ..⟩

/-! ## Register fields, events, counts -/

theorem State.Plane.setFlds (s : State) (i j : Nat) {l : List (Fl × Nat)} (h : (l.map Prod.fst).all Fl.aside = true) : g (s.setFlds i j l) = g s := by
  induction l generalizing s with
  | nil => rfl
  | cons e l ih =>
    rw [List.map_cons, List.all_cons, Bool.and_eq_true] at h
    exact (ih _ h.2).trans (k.setFld s h.1 ..)
theorem State.Plane.event (s : State) {f : Fl} (h : f.aside = true) (i : Nat) : g (s.event f i) = g s := by
  unfold State.event State.assertSrc
  dsimp only
  repeat' split
  · rw [k.spared.pendSet, k.setFld _ h]
  · exact k.setFld s h ..
  · exact k.setFld s h ..
theorem State.Plane.bump (s : State) (a n : Nat) : g (s.bump a n) = g s := k.spared.bump s a n
theorem State.Plane.pecEvent (s : State) (p c : Nat) (t : Option Nat) (q : Nat) : g (s.pecEvent p c t q) = g s := s.pecEvent_keeps g (fun a x => k.bump a x 1) p c t q
theorem State.Plane.updPt (s : State) (p : Nat) (f : PortSt → PortSt) : g (s.updPt p f) = g s := k.parts s ..
theorem State.Plane.updQu (s : State) (q : Nat) (f : QSt → QSt) : g (s.updQu q f) = g s := k.parts s ..
theorem State.Plane.takeB (s : State) (x : RegRef) {f : Fl} (h : f.aside = true) : g (s.takeB x f) = g s := by
  unfold State.takeB
  split
  · rfl
  · exact (k.parts (s.setFld f x.i x.j _) ..).trans (k.setFld s h ..)
theorem State.Plane.takeReg (s : State) {x : RegRef} (h : x.reg.fields.all Fl.aside = true) : g (s.takeReg x) = g s := by
  unfold State.takeReg
  have hm : ∀ f ∈ x.reg.fields.filter fun f => decide (f.info.cls = Cls.b), f.aside = true := fun f hf => List.all_eq_true.mp h f (List.mem_of_mem_filter hf)
  generalize x.reg.fields.filter (fun f => decide (f.info.cls = Cls.b)) = l at hm
  induction l generalizing s with
  | nil => rfl
  | cons f l ih =>
    rw [List.forall_mem_cons] at hm
    exact (ih _ hm.2).trans (k.takeB s x hm.1)

/-! ## Grids that unlock (R242) -/

theorem State.Plane.withSched (s : State) (p : Nat) {f : State → State} (h : ∀ a, g (f a) = g a) : g (s.withSched p f) = g s := k.spared.withSched s p h
theorem State.Plane.gridUnlock (s : State) (p : Nat) : g (s.gridUnlock p) = g s := by
  unfold State.gridUnlock
  split
  · rfl
  · exact k.withSched s p fun a => by rw [k.event _ rfl, State.portCount, k.bump, k.setFlds _ _ _ rfl]
theorem State.Plane.gridUnlockDom (s : State) (d : Nat) : g (s.gridUnlockDom d) = g s :=
  foldl_keeps g _ (fun a p => by split <;> [exact k.gridUnlock a p; rfl]) _ s
theorem State.Plane.gridUnlockAll (s : State) : g s.gridUnlockAll = g s := foldl_keeps g _ (fun a p => k.gridUnlock a p) _ s

/-! ## Gate lists at a step (R213, R216, R219) -/

theorem State.Plane.retagClasses (s : State) (p mask : Nat) : g (s.retagClasses p mask) = g s := by
  refine foldl_keeps g _ (fun a n => ?_) _ s
  unfold State.retag
  dsimp only
  repeat' split
  · rfl
  · exact k.updQu a ..
  · rfl
theorem State.Plane.setGates (s : State) (p gates : Nat) : g (s.setGates p gates) = g s := (k.retagClasses _ p _).trans (k.setFld s rfl ..)
theorem State.Plane.cycleFields (s : State) (p : Nat) : g (s.cycleFields p) = g s := by
  unfold State.cycleFields
  rw [k.takeReg _ rfl, k.takeReg _ rfl, k.takeReg _ rfl, k.takeReg _ rfl]
theorem State.Plane.pcOff (s : State) (p : Nat) : g (s.pcOff p) = g s := by
  unfold State.pcOff State.setPc State.updMdp
  split
  · rfl
  · rw [k.updPt, k.setFld _ rfl, k.withSched _ _ fun a => (k.updPt ..).trans (k.setFld a rfl ..)]
theorem State.Plane.setChange (s : State) (p t : Nat) : g (s.setChange p t) = g s := k.setFlds s p 0 rfl
theorem State.Plane.gclHalt (s : State) (p : Nat) : g (s.gclHalt p) = g s := by
  refine k.withSched s p fun a => ?_
  have hstop : g ((((((a.setFlds p 0 [(.SHTL_GCL_STATUS_RUNNING, 0), (.SHTL_GCL_STATUS_HOLD, 0), (.SHTL_GCL_STATUS_GATES, 0), (.SHTL_GCL_STATUS_ENTRY, 0)]).updGcl p
      fun g => { g with stopReq := false, performed := none, cycleStart := none }).retagClasses p (255 - a.gatesNow p)).pcOff p).cycleFields p)) = g a := by
    rw [k.cycleFields, k.pcOff, k.retagClasses, State.updGcl, k.updPt, k.setFlds _ _ _ rfl]
  dsimp only
  split
  · rw [k.event _ rfl, k.setChange, k.setFld _ rfl, hstop]
  · exact hstop
theorem State.Plane.missedRescues (s : State) (p : Nat) (t : Int) : g (s.missedRescues p t) = g s := by
  refine foldl_keeps g _ (fun a n => ?_) _ s
  dsimp only
  repeat' split
  · rw [k.event _ rfl, k.pecEvent, State.portCount, k.bump, k.updQu]
  · exact k.updQu a ..
  · rfl
theorem State.Plane.lastCycle (s : State) (p t : Nat) : g (s.lastCycle p t) = g s := by
  unfold State.lastCycle
  repeat' split
  · rfl
  · exact k.missedRescues s ..
  · exact foldl_keeps g _ (fun a n => k.updQu a ..) _ s
theorem State.Plane.gclExchange (s : State) (p t : Nat) : g (s.gclExchange p t) = g s := by
  unfold State.gclExchange State.updGcl
  dsimp only
  split
  · rw [k.setFlds _ _ _ rfl, k.updPt, foldl_keeps g _ fun a i => (k.setFld _ rfl ..).trans (k.setFld a rfl ..), k.updPt, k.setChange, k.setFlds _ _ _ rfl]
  · rw [k.updPt, k.setChange, k.setFlds _ _ _ rfl]
theorem State.Plane.resumeAgain (s : State) (p t : Nat) : g (s.resumeAgain p t) = g s := by
  unfold State.resumeAgain
  split
  · rfl
  · exact k.updPt s ..
theorem State.Plane.gclTakeOver (s : State) (p t : Nat) : g (s.gclTakeOver p t) = g s := by
  refine (k.resumeAgain _ p t).trans (k.withSched s p fun a => ?_)
  dsimp only
  split
  · rw [k.gclHalt, k.event _ rfl, k.gclExchange, k.lastCycle]
  · rw [k.setFlds _ _ _ rfl, k.event _ rfl, k.gclExchange, k.lastCycle]
theorem State.Plane.gclPlace (s : State) (p : Nat) (t : Int) : g (s.gclPlace p t) = g s := by
  unfold State.gclPlace State.updGcl
  split
  · rw [k.updPt, k.setFlds _ _ _ rfl, k.setGates]
  · rfl
theorem State.Plane.gclReposition (s : State) (p : Nat) : g (s.gclReposition p) = g s := by
  have hpc : ∀ a : State, g (a.pcReposition p) = g a := fun a => by
    unfold State.pcReposition; split <;> [rfl; exact k.updPt a ..]
  unfold State.gclReposition
  dsimp only
  repeat' split
  · rw [k.event _ rfl, k.resumeAgain, k.gclPlace, k.gclTakeOver, hpc]
  · rw [k.gclTakeOver, hpc]
  · rw [k.event _ rfl, k.resumeAgain, k.gclPlace, hpc]
  · exact hpc s

/-! ## Outputs, publications and dumps at a step (R71, R395, R520) -/

theorem State.Plane.outActive (s : State) (u : Nat) : g (s.outActive u) = g s := k.setFld s rfl ..
theorem State.Plane.outStep (s : State) (d new : Nat) (forward : Bool) : g (s.outStep d new forward) = g s := by
  unfold State.outStep
  split
  · rfl
  · refine foldl_keeps g _ (fun a u => ?_) _ s
    repeat' split
    · rfl
    · rfl
    · rfl
    · rw [k.outActive]
      exact (k.parts (a.setFld _ _ _ _) ..).trans (k.setFld a rfl ..)
theorem State.Plane.setPubE (s : State) (e : Nat) (x : PubSt) : g (s.setPubE e x) = g s := k.parts s ..
theorem State.Plane.pubEnd (s : State) (e outcome t n : Nat) : g (s.pubEnd e outcome t n) = g s := by
  unfold State.pubEnd
  dsimp only
  repeat' split
  · rw [k.event _ rfl, k.bump, k.setPubE]
  · rw [k.event _ rfl, k.setPubE]
  · rw [k.bump, k.setPubE]
  · exact k.setPubE s ..
theorem State.Plane.pubSkip (s : State) (d new : Nat) : g (s.pubSkip d new) = g s := by
  refine foldl_keeps g _ (fun a e => ?_) _ s
  unfold State.pubSkipOne
  dsimp only
  repeat' split
  · rfl
  · rfl
  · exact (k.setPubE ..).trans (k.pubEnd a ..)
  · exact k.setPubE a ..
  · rfl
theorem State.Plane.dumpStep (s : State) (d new : Nat) : g (s.dumpStep d new) = g s := by
  have hd : ∀ (a : State) j x, g (a.setDump j x) = g a := fun a j x => k.parts a ..
  refine foldl_keeps g _ (fun a j => ?_) _ s
  unfold State.dumpStepOne State.dumpSkip
  dsimp only
  repeat' split
  · rfl
  · rfl
  · exact hd ..
  · rw [k.event _ rfl, k.bump, hd, hd]

end Plane

/-! ## What follows the step of a domain -/

/-- No staging group is armed or released. -/
abbrev State.NoGroup (s : State) : Prop := ∀ g : Fin 16, s.grpState g < 2

theorem State.releaseStep_of_noGroup {s : State} (h : s.NoGroup) (d : Nat) : s.releaseStep d = s := by
  refine List.foldlRecOn (motive := (· = s)) (List.range 16) _ rfl ?_
  rintro _ rfl j hj
  have := h ⟨j, List.mem_range.mp hj⟩
  exact if_neg fun hs => by rcases hs.2 with e | e <;> simp only [e] at this <;> omega

/-- What follows a domain goes to its new time, and a reading of the time plane sees nothing of it. -/
theorem State.Plane.followStep {β : Type} {g : State → β} (k : State.Plane g) {s : State} (h : s.NoGroup) (d : Nat) (forward : Bool) : g (s.followStep d forward) = g s := by
  have hg : ∀ {γ : Type} {g : State → γ} (_ : State.Plane g), g (((List.range 128).foldl (fun a p => if a.schedDom p = d then a.gclReposition p else a)
      ((s.outStep d (s.voted d) forward).iglStep d (s.voted d))).gridUnlockDom d) = g s := fun k => by
    refine (k.gridUnlockDom _ d).trans ((foldl_keeps _ _ (fun a p => ?_) _ _).trans ((k.parts (s.outStep ..) ..).trans (k.outStep s ..)))
    split
    · exact k.gclReposition a p
    · rfl
  unfold State.followStep
  dsimp only
  split
  · rw [k.dumpStep, k.pubSkip, State.releaseStep_of_noGroup fun j => (hg (.of_fld rfl j 0)).trans_lt (h j)]
    exact hg k
  · exact hg k

end Sys2Proof.Machine
end

section
/-!
PROOFS. The counters of the timescales: a step or a load of one, what it leaves alone, the voted value (R38, R40, R44), and one cycle of the device's clock (R39 to R43).
-/
namespace Sys2Proof.Machine

/-! ## One timescale moved -/

theorem State.cnt_setCnt_same (s : State) (x c v : Nat) : (s.setCnt x c v).cnt x c = v := Tbl.get_set_same ..
theorem State.cnt_setCnt_ne (s : State) {x c y k : Nat} (h : 3 * y + k ≠ 3 * x + c) (v : Nat) : (s.setCnt x c v).cnt y k = s.cnt y k := Tbl.get_set_ne _ _ h v

/-- The three counters of a timescale given values. -/
def State.setCnts (s : State) (x a b c : Nat) : State := ((s.setCnt x 0 a).setCnt x 1 b).setCnt x 2 c

theorem State.cnt_setCnts_other (s : State) {x y : Nat} (h : y ≠ x) (a b c : Nat) {k : Nat} (hk : k < 3) : (s.setCnts x a b c).cnt y k = s.cnt y k := by
  unfold State.setCnts
  rw [State.cnt_setCnt_ne _ (by omega), State.cnt_setCnt_ne _ (by omega), State.cnt_setCnt_ne _ (by omega)]
theorem State.cnt_setCnts_0 (s : State) (x a b c : Nat) : (s.setCnts x a b c).cnt x 0 = a := by
  unfold State.setCnts
  rw [State.cnt_setCnt_ne _ (by omega), State.cnt_setCnt_ne _ (by omega), State.cnt_setCnt_same]
theorem State.cnt_setCnts_1 (s : State) (x a b c : Nat) : (s.setCnts x a b c).cnt x 1 = b := by
  unfold State.setCnts
  rw [State.cnt_setCnt_ne _ (by omega), State.cnt_setCnt_same]
theorem State.cnt_setCnts_2 (s : State) (x a b c : Nat) : (s.setCnts x a b c).cnt x 2 = c := State.cnt_setCnt_same ..

theorem State.cnt_loadCnts_same (s : State) (x v : Nat) {c : Nat} (hc : c < 3) : (s.loadCnts x v).cnt x c = v := by
  match c, hc with
  | 0, _ => exact s.cnt_setCnts_0 ..
  | 1, _ => exact s.cnt_setCnts_1 ..
  | 2, _ => exact s.cnt_setCnts_2 ..
theorem State.cnt_loadCnts_other (s : State) {x y : Nat} (h : y ≠ x) (v : Nat) {c : Nat} (hc : c < 3) : (s.loadCnts x v).cnt y c = s.cnt y c := s.cnt_setCnts_other h _ _ _ hc
theorem State.cnt_stepCnts_same (s : State) (x : Nat) (d : Int) {c : Nat} (hc : c < 3) : (s.stepCnts x d).cnt x c = ((s.cnt x c : Int) + d).toNat := by
  match c, hc with
  | 0, _ => exact s.cnt_setCnts_0 ..
  | 1, _ => exact s.cnt_setCnts_1 ..
  | 2, _ => exact s.cnt_setCnts_2 ..
theorem State.cnt_stepCnts_other (s : State) {x y : Nat} (h : y ≠ x) (d : Int) {c : Nat} (hc : c < 3) : (s.stepCnts x d).cnt y c = s.cnt y c := s.cnt_setCnts_other h _ _ _ hc

/-- Of the time plane a step of a timescale changes the counters alone. -/
theorem State.stepCnts_eq (s : State) (x : Nat) (d : Int) : ∃ l, s.stepCnts x d = { s with time := { s.time with cnt := l } } := ⟨_, rfl⟩

theorem State.rate_of_regs {s t : State} (h : t.regs = s.regs) (d : Nat) : t.rate d = s.rate d := by unfold State.rate State.fld; rw [h]

/-- The vote of a timescale reads its three counters and its exclusion (R44, R45). -/
theorem State.voted_congr {s t : State} {x : Nat} (hc : ∀ c < 3, t.cnt x c = s.cnt x c) (he : t.fld .TPL_VOTE_STATUS_EXCL = s.fld .TPL_VOTE_STATUS_EXCL) : t.voted x = s.voted x := by
  unfold State.voted State.excl
  rw [he, hc 0 (by decide), hc 1 (by decide), hc 2 (by decide)]
theorem State.voted_of_agreed {s : State} {x v : Nat} (he : s.excl x = 0) (hc : ∀ c < 3, s.cnt x c = v) : s.voted x = v := by
  unfold State.voted
  rw [he, hc 0 (by decide), hc 1 (by decide), hc 2 (by decide)]
  simp [median]

/-! ## The end of a command that changes no register -/

theorem State.fld_settle_id {s : State} (o : s.Overlock) (f : Fl) (i j : Nat) : s.settle.fld f i j = s.fld f i j := by
  by_cases h : f.shared
  · exact s.fld_settle_of (by rcases h with rfl | rfl | rfl <;> decide) i j
  · exact State.SameFlds.settle (l := []) (.refl s _) o rfl (by simp) (by simp) (by simp) f i j (by simp) h
theorem State.Overlock.withTime {s : State} (o : s.Overlock) (w : TimeSt) : ({ s with time := w } : State).Overlock := o

/-! ## The clocks of one cycle (R38 to R41) -/

/-- The domain counts with TPCLK. -/
def State.domRuns (s : State) (d : Nat) : Bool := s.on .TPL_DOM_CFG_EN d && s.fld .TPL_OSC_STATUS_FREQ != 0

theorem State.domRuns_of_regs {s t : State} (h : t.regs = s.regs) (d : Nat) : t.domRuns d = s.domRuns d := by unfold State.domRuns State.on State.fld; rw [h]

/-- The domains 0 to `n` - 1 counted one cycle on. -/
def State.domCycles (s : State) (n : Nat) : State := (List.range n).foldl (fun a d => a.domCycle d) s

theorem State.domCycles_succ (s : State) (n : Nat) : s.domCycles (n + 1) = (s.domCycles n).domCycle n := by
  unfold State.domCycles; rw [List.range_succ, List.foldl_append]; rfl
theorem State.domCycle_of (s : State) (d : Nat) : s.domCycle d = if s.domRuns d then s.stepCnts d ((2 ^ 40 : Nat) + s.rate d) else s := rfl

/-- Of the time plane, what does not depend on the counters. -/
theorem State.domCycles_eq (s : State) (n : Nat) : ∃ l, s.domCycles n = { s with time := { s.time with cnt := l } } := by
  induction n with
  | zero => exact ⟨s.time.cnt, rfl⟩
  | succ n ih =>
    obtain ⟨l, h⟩ := ih
    rw [State.domCycles_succ, State.domCycle_of, h]
    split
    · exact State.stepCnts_eq ..
    · exact ⟨l, rfl⟩

theorem State.cnt_domCycles (s : State) (n y : Nat) {c : Nat} (hc : c < 3) :
    (s.domCycles n).cnt y c = if y < n ∧ s.domRuns y = true then ((s.cnt y c : Int) + ((2 ^ 40 : Nat) + s.rate y)).toNat else s.cnt y c := by
  induction n with
  | zero => rw [if_neg (fun h => absurd h.1 (Nat.not_lt_zero y))]; rfl
  | succ n ih =>
    have hruns : (s.domCycles n).domRuns n = s.domRuns n := by obtain ⟨l, h⟩ := s.domCycles_eq n; rw [h]; exact State.domRuns_of_regs rfl n
    have hrate : (s.domCycles n).rate n = s.rate n := by obtain ⟨l, h⟩ := s.domCycles_eq n; rw [h]; exact State.rate_of_regs rfl n
    rw [State.domCycles_succ, State.domCycle_of, hruns, hrate]
    by_cases hy : y = n
    · subst hy
      rw [if_neg (by omega)] at ih
      split
      next h => rw [State.cnt_stepCnts_same _ _ _ hc, ih, if_pos ⟨by omega, h⟩]
      next h => rw [ih, if_neg fun e => h e.2]
    · refine Eq.trans ?_ (ih.trans (if_congr (and_congr_left' (by omega)) rfl rfl))
      split
      · exact State.cnt_stepCnts_other _ hy _ hc
      · rfl

theorem State.addCnts_eq (s : State) (x n : Nat) : ∃ l, s.addCnts x n = { s with time := { s.time with cnt := l } } := s.stepCnts_eq x n
theorem State.cnt_addCnts_same (s : State) (x n : Nat) {c : Nat} (hc : c < 3) : (s.addCnts x n).cnt x c = s.cnt x c + n := (s.cnt_stepCnts_same x n hc).trans (by omega)
theorem State.cnt_addCnts_other (s : State) {x y : Nat} (h : y ≠ x) (n : Nat) {c : Nat} (hc : c < 3) : (s.addCnts x n).cnt y c = s.cnt y c := s.cnt_stepCnts_other h n hc

/-- One TPCLK cycle of all timescales. -/
def State.tpclkCycle (s : State) : State := (s.addCnts 8 (2 ^ 40)).domCycles 8

theorem State.tpclkCycle_eq (s : State) : ∃ l, s.tpclkCycle = { s with time := { s.time with cnt := l } } := by
  unfold State.tpclkCycle
  obtain ⟨l, h⟩ := s.addCnts_eq 8 (2 ^ 40)
  rw [h]
  exact State.domCycles_eq ..
theorem State.cnt_tpclkCycle_l (s : State) {c : Nat} (hc : c < 3) : s.tpclkCycle.cnt 8 c = s.cnt 8 c + 2 ^ 40 := by
  unfold State.tpclkCycle
  rw [State.cnt_domCycles _ _ _ hc, if_neg (by omega), State.cnt_addCnts_same _ _ _ hc]
theorem State.cnt_tpclkCycle_dom (s : State) {d c : Nat} (hd : d < 8) (hc : c < 3) :
    s.tpclkCycle.cnt d c = if s.domRuns d then ((s.cnt d c : Int) + ((2 ^ 40 : Nat) + s.rate d)).toNat else s.cnt d c := by
  have hregs : (s.addCnts 8 (2 ^ 40)).regs = s.regs := by obtain ⟨l, h⟩ := s.addCnts_eq 8 (2 ^ 40); rw [h]
  unfold State.tpclkCycle
  rw [State.cnt_domCycles _ _ _ hc, State.cnt_addCnts_other _ (by omega) _ hc, State.domRuns_of_regs hregs, State.rate_of_regs hregs]
  exact if_congr (and_iff_right hd) rfl rfl

/-- A rate takes less than a nanosecond from a nanosecond. -/
theorem State.rate_ge (s : State) (d : Nat) : -2 ^ 31 ≤ s.rate d := by
  unfold State.rate toSigned
  generalize s.fld .TPL_DOM_RATE_RATE d = w
  split <;> omega

theorem State.refCycle_eq (s : State) : ∃ l n, s.refCycle = { s with time := { s.time with cnt := l, refTicks := n } } := by
  unfold State.refCycle
  split
  · obtain ⟨l, h⟩ := State.addCnts_eq { s with time := { s.time with refTicks := s.time.refTicks + 1 } } 8 (refT (s.time.refTicks + 1) - refT s.time.refTicks)
    exact ⟨l, _, h⟩
  · exact ⟨s.time.cnt, s.time.refTicks, rfl⟩

/-! ## The ratios and the drift of TIMEOSC (R42, R43) -/

theorem State.Plane.of_timeoscOk : State.Plane fun s => s.time.timeoscOk := .of_time fun _ _ => rfl

theorem State.holdAll_timeoscOk (s : State) : s.holdAll.time.timeoscOk = s.time.timeoscOk := by
  unfold State.holdAll
  refine foldl_keeps (fun a : State => a.time.timeoscOk) _ (fun a d => ?_) _ s
  split
  · simp [State.enterHoldover, State.setRate, State.setDom]
  · rfl
theorem State.refSwitch_timeoscOk (s : State) (src : Nat) : (s.refSwitch src).time.timeoscOk = s.time.timeoscOk := by
  unfold State.refSwitch
  dsimp only
  exact (State.Plane.of_timeoscOk.gridUnlockAll _).trans (by rw [State.fault_time _ (by decide), State.event_time]; rfl)

theorem State.timeoscLost_timeoscOk (s : State) : s.timeoscLost.time.timeoscOk = false := by
  unfold State.timeoscLost
  split
  next h => simpa using h
  · dsimp only
    split
    · rfl
    · split
      · rw [State.fault_fatal_time, State.holdAll_timeoscOk]
      · rw [State.holdAll_timeoscOk, State.refSwitch_timeoscOk]

/-- Two states that differ in the running ratios alone. -/
def State.RatiosOnly (s t : State) : Prop := ∃ a b n, t = { s with time := { s.time with ratioA := a, ratioB := b, ratioN := n } }

theorem State.RatiosOnly.cnt {s t : State} (h : s.RatiosOnly t) (x c : Nat) : t.cnt x c = s.cnt x c := by obtain ⟨_, _, _, rfl⟩ := h; rfl
theorem State.RatiosOnly.refTicks {s t : State} (h : s.RatiosOnly t) : t.time.refTicks = s.time.refTicks := by obtain ⟨_, _, _, rfl⟩ := h; rfl

/-- A cycle in which TIMEOSC is not declared lost changes the ratios alone. -/
theorem State.ratioAfter_of_kept {s : State} {us : Nat} (h : (s.ratioAfter us).time.timeoscOk = s.time.timeoscOk) : s.RatiosOnly (s.ratioAfter us) := by
  have hstep : s.RatiosOnly (s.ratioStep s.lUs) := by
    unfold State.ratioStep
    dsimp only
    split
    · exact ⟨s.time.ratioA, s.time.ratioB, s.time.ratioN, rfl⟩
    · exact ⟨_, _, _, rfl⟩
  unfold State.ratioAfter at h ⊢
  split at h
  next hus =>
    rw [if_pos hus]
    obtain ⟨a, b, n, e⟩ := hstep
    simp only [e] at h ⊢
    split at h
    next hlost =>
      rw [State.timeoscLost_timeoscOk] at h
      simp [← h] at hlost
    next hlost => exact ⟨a, b, n, if_neg hlost⟩
  next hus => exact ⟨s.time.ratioA, s.time.ratioB, s.time.ratioN, if_neg hus⟩

/-- A microsecond that begins with the mean ratio drifted loses TIMEOSC. -/
theorem State.ratioAfter_of_drifted {s : State} {us : Nat} (hus : us < s.lUs) (hd : (s.ratioStep s.lUs).oscDrifted = true) :
    (s.ratioAfter us).time.timeoscOk = false := by
  unfold State.ratioAfter
  rw [if_pos hus]
  dsimp only
  split
  · exact State.timeoscLost_timeoscOk _
  next h => simpa [hd] using h

/-! ## Frames that become fully staged -/

theorem State.Spared.stagedDue {β : Type} {g : State → β} (k : State.Spared g) (s : State) : g s.stagedDue = g s := by
  refine foldl_keeps g _ (fun a e => ?_) _ s
  unfold State.stagedFree State.sojourn
  dsimp only
  split
  · rfl
  · exact (foldl_keeps g _ (fun b x => (k.freeFrame ..).trans (k.updQu b ..)) _ _).trans (k.updPt a ..)

/-- Where no staged frame holds its cells, none becomes fully staged. -/
theorem State.stagedDue_of_released {s : State} (h : ∀ p, ∀ x ∈ (s.pt p).staged, x.held = false) : s.stagedDue = s := by
  refine List.foldl_fixed' (f := fun (a : State) (e : Nat × PortSt) => a.stagedFree e.1) (fun e => if_pos ?_) s.port
  rw [List.isEmpty_iff, List.filter_eq_nil_iff]
  intro x hx
  simp [h _ x hx]

/-! ## The step without a command -/

theorem step_of_empty {s : State} (h : s.pending = []) : step s = .next s.tick.settle := by unfold step; rw [h]; rfl
theorem State.tick_of_on {s : State} (h : s.dev ≠ .off) : s.tick = s.clocks.stagedDue := if_neg h
theorem State.clocks_unlocked {s : State} (h : s.time.locked = false) : s.clocks = s.refCycle.ratioAfter s.lUs := by unfold State.clocks; simp [h]
theorem State.clocks_locked {s : State} (h : s.time.locked = true) (ht : s.tpclkRuns = true) : s.clocks = s.tpclkCycle.ratioAfter s.lUs := by
  unfold State.clocks; simp only [h, ht, if_true, Bool.not_true, Bool.false_eq_true, if_false]; rfl
theorem State.clocks_stopped {s : State} (h : s.time.locked = true) (ht : s.tpclkRuns = false) : s.clocks = s := by unfold State.clocks; simp [h, ht]

/-- The last nanosecond of the first millisecond of L time: the cycle begins its microsecond 1000. -/
theorem tick_loses_drifted_timeosc {s : State} (he : s.pending = []) (hd : s.dev ≠ .off) (hl : s.time.locked = true) (ht : s.tpclkRuns = true)
    (hx : s.excl 8 = 0) (hc : ∀ c : Fin 3, s.cnt 8 c = 1000000 * nsT - nsT) (hm : (s.ratioStep 1000).oscDrifted = true) : ∃ t, step s = .next t ∧ t.time.timeoscOk = false := by
  have hbefore : s.lUs = 999 := by
    unfold State.lUs State.lNow
    rw [State.voted_of_agreed hx fun c h => hc ⟨c, h⟩]
    decide
  have hafter : s.tpclkCycle.lUs = 1000 := by
    obtain ⟨l, e⟩ := s.tpclkCycle_eq
    unfold State.lUs State.lNow
    rw [State.voted_of_agreed (v := 1000000 * nsT) (by rw [e]; exact hx) fun c h => (s.cnt_tpclkCycle_l h).trans (by rw [hc ⟨c, h⟩]; decide)]
    decide
  have hdrift : (s.tpclkCycle.ratioStep 1000).oscDrifted = true := by
    obtain ⟨l, e⟩ := s.tpclkCycle_eq
    rw [e]
    unfold State.ratioStep at hm ⊢
    dsimp only at hm ⊢
    split at hm
    next h => rw [if_pos h]; exact hm
    next h => rw [if_neg h]; exact hm
  refine ⟨_, step_of_empty he, ?_⟩
  rw [State.settle_time, State.tick_of_on hd, State.clocks_locked hl ht, State.Spared.of_time.stagedDue]
  exact State.ratioAfter_of_drifted (by omega) (hafter.symm ▸ hdrift)

section Kept
variable {s : State} (h : s.clocks.time.timeoscOk = s.time.timeoscOk)
include h

theorem State.clocks_unlocked_of_kept (hl : s.time.locked = false) : s.refCycle.RatiosOnly s.clocks := by
  obtain ⟨l, n, e⟩ := s.refCycle_eq
  rw [State.clocks_unlocked hl] at h ⊢
  exact State.ratioAfter_of_kept (h.trans (by rw [e]))
theorem State.clocks_locked_of_kept (hl : s.time.locked = true) (ht : s.tpclkRuns = true) : s.tpclkCycle.RatiosOnly s.clocks := by
  obtain ⟨l, e⟩ := s.tpclkCycle_eq
  rw [State.clocks_locked hl ht] at h ⊢
  exact State.ratioAfter_of_kept (h.trans (by rw [e]))

/-- The clocks change the time plane alone. -/
theorem State.clocks_time_of_kept : ∃ w, s.clocks = { s with time := w } := by
  cases hl : s.time.locked
  · obtain ⟨l, n, e⟩ := s.refCycle_eq
    obtain ⟨_, _, _, e'⟩ := State.clocks_unlocked_of_kept h hl
    exact ⟨_, e'.trans (by rw [e])⟩
  · cases ht : s.tpclkRuns
    · exact ⟨s.time, State.clocks_stopped hl ht⟩
    · obtain ⟨l, e⟩ := s.tpclkCycle_eq
      obtain ⟨_, _, _, e'⟩ := State.clocks_locked_of_kept h hl ht
      exact ⟨_, e'.trans (by rw [e])⟩

theorem State.tick_of_kept (hs : ∀ p, ∀ x ∈ (s.pt p).staged, x.held = false) (hd : s.dev ≠ .off) : s.tick = s.clocks := by
  obtain ⟨w, e⟩ := State.clocks_time_of_kept h
  rw [State.tick_of_on hd]
  exact State.stagedDue_of_released (by rw [e]; exact hs)

end Kept

theorem State.cnt_refCycle_l {s : State} (h : s.time.refAOk = true ∨ s.time.refBOk = true) {c : Nat} (hc : c < 3) :
    s.refCycle.cnt 8 c = s.cnt 8 c + (refT (s.time.refTicks + 1) - refT s.time.refTicks) := by
  unfold State.refCycle
  rw [if_pos (by simpa using h)]
  exact State.cnt_addCnts_same _ 8 _ hc
theorem State.cnt_refCycle_dom (s : State) {d c : Nat} (hd : d < 8) (hc : c < 3) : s.refCycle.cnt d c = s.cnt d c := by
  unfold State.refCycle
  split
  · exact State.cnt_addCnts_other _ (by omega) _ hc
  · rfl
theorem State.refTicks_refCycle {s : State} (h : s.time.refAOk = true ∨ s.time.refBOk = true) : s.refCycle.time.refTicks = s.time.refTicks + 1 := by
  unfold State.refCycle
  rw [if_pos (by simpa using h)]
  rfl
theorem State.refCycle_of_none {s : State} (ha : s.time.refAOk = false) (hb : s.time.refBOk = false) : s.refCycle = s := by unfold State.refCycle; simp [ha, hb]
theorem State.cnt_settle (s : State) (x c : Nat) : s.settle.cnt x c = s.cnt x c := by unfold State.cnt; rw [State.settle_time]

/-- Settles O2: one lemma for the microsecond that loses TIMEOSC, and for a cycle that keeps it one lemma for each counter and clock. -/
theorem emptyQueueTick : Obligations.EmptyQueueTick := by
  intro s o he hstaged
  refine ⟨fun hd hl ht _ hx hc hm _ _ => tick_loses_drifted_timeosc he hd hl ht hx hc hm, fun hkept => ⟨_, step_of_empty he, ?_⟩⟩
  have hoff : s.dev = .off → s.tick = s := fun h => if_pos h
  have hon : s.dev ≠ .off → s.tick = s.clocks := State.tick_of_kept hkept hstaged
  obtain ⟨w, htime⟩ : ∃ w, s.tick = { s with time := w } := by
    by_cases h : s.dev = .off
    · exact ⟨s.time, hoff h⟩
    · rw [hon h]; exact State.clocks_time_of_kept hkept
  have hunlocked := State.clocks_unlocked_of_kept hkept
  have hlocked := State.clocks_locked_of_kept hkept
  have hcnt : ∀ x c, s.tick.settle.cnt x c = s.tick.cnt x c := s.tick.cnt_settle
  refine ⟨by rw [State.settle_pending, htime, he], fun h x c => by rw [hcnt, hoff h], fun hd hl hr => ⟨fun c => ?_, ?_, fun d c => ?_⟩, fun hd hl ha hb x c => ?_,
    fun hd hl ht => ⟨fun c => ?_, fun d c => ⟨fun hen hf => ?_, fun hstill => ?_⟩⟩, fun hd hl ht x c => ?_, fun f i j => ?_, State.SameMem.settle ?_, ?_⟩
  · rw [hcnt, hon hd, (hunlocked hl).cnt, State.cnt_refCycle_l hr c.isLt]
  · rw [State.settle_time, hon hd, (hunlocked hl).refTicks, State.refTicks_refCycle hr]
  · rw [hcnt, hon hd, (hunlocked hl).cnt, s.cnt_refCycle_dom d.isLt c.isLt]
  · rw [hcnt, hon hd, (hunlocked hl).cnt, State.refCycle_of_none ha hb]
  · rw [hcnt, hon hd, (hlocked hl ht).cnt, s.cnt_tpclkCycle_l c.isLt]
  · have hrate := s.rate_ge d
    rw [hcnt, hon hd, (hlocked hl ht).cnt, s.cnt_tpclkCycle_dom d.isLt c.isLt, if_pos (by unfold State.domRuns; rw [hen]; simpa using hf)]
    omega
  · rw [hcnt, hon hd, (hlocked hl ht).cnt, s.cnt_tpclkCycle_dom d.isLt c.isLt, if_neg]
    unfold State.domRuns
    rcases hstill with h | h <;> simp [h]
  · rw [hcnt, hon hd, State.clocks_stopped hl ht]
  · rw [htime]; exact State.fld_settle_id (o.withTime w) f i j
  · rw [htime]; exact State.sameMem_of rfl rfl rfl
  · rw [State.settle_dev, htime]

end Sys2Proof.Machine
end

section
/-!
PROOFS. The states of a domain (R56 to R58, R63, R64, Table 02-3).
-/
namespace Sys2Proof.Machine

/-! ## What the end of a command and a step of a domain's state leave alone -/

/-- The end of a command changes the pair's registers and its outputs, which no reading of the time plane sees. -/
theorem State.Plane.settle {β : Type} {g : State → β} (k : State.Plane g) (s : State) : g s.settle = g s := by
  have hp : ∀ (a : State) w, g { a with pair := w } = g a := fun a w => k.parts a ..
  unfold State.settle
  dsimp only
  split <;> split
  · rw [hp, k.setFld _ rfl]
  · rw [hp, k.setFld _ rfl, k.setFld _ rfl]
  · rw [hp]
  · rw [hp, k.setFld _ rfl]

theorem State.SameMem.refl (s : State) : s.SameMem s := State.sameMem_of rfl rfl rfl
theorem State.SameMem.trans {s t u : State} (h : s.SameMem t) (h' : t.SameMem u) : s.SameMem u := fun a =>
  ⟨(h' a).1.trans (h a).1, (h' a).2.1.trans (h a).2.1, (h' a).2.2.trans (h a).2.2⟩

theorem State.dom_setDom_same (s : State) (d : Nat) (x : DomSt) : (s.setDom d x).dom d = x := Tbl.get_set_same ..
theorem State.dom_setDom_ne (s : State) {d e : Nat} (h : e ≠ d) (x : DomSt) : (s.setDom d x).dom e = s.dom e := Tbl.get_set_ne _ _ h _
theorem State.dom_of_time {s t : State} (h : t.time = s.time) (d : Nat) : t.dom d = s.dom d := by unfold State.dom; rw [h]
theorem State.cnt_of_time {s t : State} (h : t.time = s.time) (x c : Nat) : t.cnt x c = s.cnt x c := by unfold State.cnt; rw [h]

/-- The fields that a domain's state machine writes. -/
abbrev domFlds (d : Nat) : List (Fl × Nat) := [(.TPL_DOM_CFG_EN, d), (.TPL_DOM_STATUS_STATE, d), (.TPL_DOM_STATUS_HOLD_EST, d), (.TPL_DOM_STATUS_LAST_OFS, d), (.TPL_DOM_RATE_RATE, d)]

theorem State.SameFlds.domState {s t : State} {l : List (Fl × Nat)} (h : s.SameFlds t l) {d : Nat} (hd : (.TPL_DOM_STATUS_STATE, d) ∉ l) : t.domState d = s.domState d :=
  h _ d 0 hd (by rintro (e | e | e) <;> cases e)
theorem State.SameFlds.rate {s t : State} {l : List (Fl × Nat)} (h : s.SameFlds t l) {d : Nat} (hd : (.TPL_DOM_RATE_RATE, d) ∉ l) : t.rate d = s.rate d := by
  unfold State.rate; rw [h _ d 0 hd (by rintro (e | e | e) <;> cases e)]
theorem State.SameFlds.otherDom {s t : State} {d : Nat} (h : s.SameFlds t (domFlds d)) {e : Nat} (he : e ≠ d) : t.domState e = s.domState e ∧ t.rate e = s.rate e :=
  ⟨h.domState (by simp [he]), h.rate (by simp [he])⟩

/-! ## OFF and UNLOCKED -/

/-- Entry to UNLOCKED without the grids that unlock with it. -/
def State.toUnlocked (s : State) (d : Nat) : State :=
  let s := (s.setFlds d 0 [(.TPL_DOM_STATUS_STATE, 1), (.TPL_DOM_STATUS_HOLD_EST, 0)]).setRate d 0
  let s := s.setDom d { s.dom d with step := none, bigRun := 0, recent := [], holdOk := false, fed := false }
  { s with ptp := s.ptp.upd {} d fun x => { x with listenSince := s.lNow, declaring := false } }

theorem State.Plane.enterUnlocked {β : Type} {g : State → β} (k : State.Plane g) (s : State) (d : Nat) : g (s.enterUnlocked d) = g (s.toUnlocked d) := by
  show g (if State.on (s.toUnlocked d) .TPL_SYNC_CFG_GM d then s.toUnlocked d else (s.toUnlocked d).gridUnlockDom d) = _
  split
  · rfl
  · exact k.gridUnlockDom ..

/-- The fields of `toUnlocked`, written one after another. -/
theorem State.regs_toUnlocked (s : State) (d : Nat) :
    (s.toUnlocked d).regs = (((s.setFlds d 0 [(.TPL_DOM_STATUS_STATE, 1), (.TPL_DOM_STATUS_HOLD_EST, 0)])).setFld .TPL_DOM_RATE_RATE d 0 0).regs := rfl
theorem State.fld_toUnlocked_other (s : State) (d : Nat) {f : Fl} (h : f ∉ [Fl.TPL_DOM_STATUS_STATE, .TPL_DOM_STATUS_HOLD_EST, .TPL_DOM_RATE_RATE]) (i j : Nat) : (s.toUnlocked d).fld f i j = s.fld f i j := by
  simp only [List.mem_cons, List.not_mem_nil, or_false, not_or] at h
  obtain ⟨h1, h2, h3⟩ := h
  unfold State.fld
  rw [State.regs_toUnlocked]
  exact (State.fld_setFld_other _ h3 ..).trans (s.fld_setFlds_other _ _ _ _ _ _ (by simp [h1, h2]))
theorem State.sameFlds_toUnlocked (s : State) (d : Nat) : s.SameFlds (s.toUnlocked d) (domFlds d) :=
  State.SameFlds.regs (((State.SameFlds.refl s _).setFlds d 0 [(.TPL_DOM_STATUS_STATE, 1), (.TPL_DOM_STATUS_HOLD_EST, 0)] (by simp)).setFld (f := .TPL_DOM_RATE_RATE) (i := d) (by simp) 0 0) (s.regs_toUnlocked d)
theorem State.domState_toUnlocked (s : State) (d : Nat) : (s.toUnlocked d).domState d = 1 := by
  unfold State.domState State.fld
  rw [State.regs_toUnlocked]
  exact (State.fld_setFld_other _ (by decide) ..).trans (s.fld_setFlds_mem d 0 (l := [(.TPL_DOM_STATUS_STATE, 1), (.TPL_DOM_STATUS_HOLD_EST, 0)]) (v := 1) (by decide) (by simp))
theorem State.rate_toUnlocked (s : State) (d : Nat) : (s.toUnlocked d).rate d = 0 := by
  unfold State.rate State.fld
  rw [State.regs_toUnlocked]
  exact congrArg (toSigned 32) (State.fld_setFld_same _ .TPL_DOM_RATE_RATE d 0 0)
theorem State.cnt_toUnlocked (s : State) (d x c : Nat) : (s.toUnlocked d).cnt x c = s.cnt x c := rfl

/-- What the entry to UNLOCKED leaves, at the end of the command. -/
theorem State.settle_enterUnlocked (s : State) (d : Nat) : (s.enterUnlocked d).settle.domState d = 1 ∧ (s.enterUnlocked d).settle.rate d = 0 ∧
    (∀ e, e ≠ d → (s.enterUnlocked d).settle.domState e = s.domState e ∧ (s.enterUnlocked d).settle.rate e = s.rate e) ∧ ∀ x c, (s.enterUnlocked d).settle.cnt x c = s.cnt x c := by
  have hg : ∀ {β : Type} {g : State → β}, State.Plane g → g (s.enterUnlocked d).settle = g (s.toUnlocked d) := fun k => (k.settle _).trans (k.enterUnlocked s d)
  have hst : ∀ e, (s.enterUnlocked d).settle.domState e = (s.toUnlocked d).domState e := fun e => hg (.of_fld rfl e 0)
  have hrate : ∀ e, (s.enterUnlocked d).settle.rate e = (s.toUnlocked d).rate e := fun e => congrArg (toSigned 32) (hg (.of_fld rfl e 0))
  refine ⟨(hst d).trans (s.domState_toUnlocked d), (hrate d).trans (s.rate_toUnlocked d), fun e he => ?_, fun x c => (hg (.of_cnt x c)).trans (s.cnt_toUnlocked d x c)⟩
  rw [hst, hrate]
  exact (s.sameFlds_toUnlocked d).otherDom he

theorem exec_domEnable {s : State} {r : Req} {d : Dom} (hg : s.Grants r true .TPL_DOM_CFG d 0) (en : Bool) : exec (.domEnable r d en) s = .next (s.domEnable d en).settle := by
  rw [← State.writing_of hg fun s => s.domEnable d en]; rfl
theorem exec_domUnlock {s : State} {r : Req} {d : Dom} (hg : s.Grants r true .TPL_DOM_CFG d 0) : exec (.domUnlock r d) s = .next (s.domUnlock d).settle := by
  rw [← State.writing_of hg fun s => s.domUnlock d]; rfl

theorem State.domEnable_stopped {s : State} {d : Nat} (h : s.on .TPL_DOM_CFG_EN d = false) : s.domEnable d true = (s.setFld .TPL_DOM_CFG_EN d 0 1).enterUnlocked d := by
  unfold State.domEnable; simp [h]

theorem domEnable_unlocked {s : State} {r : Req} {d : Dom} (hg : s.Grants r true .TPL_DOM_CFG d 0) (h : s.on .TPL_DOM_CFG_EN d = false) :
    ∃ t, exec (.domEnable r d true) s = .next t ∧ t.on .TPL_DOM_CFG_EN d = true ∧ t.domState d = 1 ∧ t.rate d = 0 ∧ (∀ c, t.cnt d c = s.cnt d c) ∧
      (∀ e : Dom, e ≠ d → t.domState e = s.domState e ∧ t.rate e = s.rate e ∧ ∀ c, t.cnt e c = s.cnt e c) := by
  obtain ⟨hst, hrate, hother, hcnt⟩ := (s.setFld .TPL_DOM_CFG_EN d 0 1).settle_enterUnlocked d
  refine ⟨_, (exec_domEnable hg true).trans (by rw [State.domEnable_stopped h]), ?_, hst, hrate, hcnt d, fun e he => ?_⟩
  · have hen : ((s.setFld .TPL_DOM_CFG_EN d 0 1).enterUnlocked d).settle.fld .TPL_DOM_CFG_EN d = 1 := by
      have k : State.Plane fun a => a.fld .TPL_DOM_CFG_EN d := .of_fld rfl d 0
      refine (k.settle _).trans ((k.enterUnlocked _ d).trans ?_)
      exact (State.fld_toUnlocked_other _ d (by decide) ..).trans (s.fld_setFld_same ..)
    unfold State.on; rw [hen]; rfl
  · have he' : e.val ≠ d.val := fun x => he (Fin.ext x)
    obtain ⟨h1, h2⟩ := hother e he'
    refine ⟨h1.trans (s.fld_setFld_other (by decide) ..), h2.trans ?_, hcnt e⟩
    unfold State.rate; rw [s.fld_setFld_other (by decide)]

/-- Entry to OFF without the grids that unlock with it. -/
def State.toOff (s : State) (d : Nat) : State :=
  let s := s.setFlds d 0 [(.TPL_DOM_CFG_EN, 0), (.TPL_DOM_STATUS_STATE, 0), (.TPL_DOM_STATUS_HOLD_EST, 0)]
  s.setDom d { s.dom d with step := none, bigRun := 0, recent := [], holdOk := false }

theorem State.domEnable_false (s : State) (d : Nat) : s.domEnable d false = (s.toOff d).gridUnlockDom d := rfl
theorem State.fld_toOff (s : State) (d : Nat) {f : Fl} (h : (f, 0) ∈ [(Fl.TPL_DOM_CFG_EN, 0), (.TPL_DOM_STATUS_STATE, 0), (.TPL_DOM_STATUS_HOLD_EST, 0)]) : (s.toOff d).fld f d = 0 :=
  (s.fld_setFlds_mem d 0 (by decide) h).trans (Nat.zero_mod _)
theorem State.sameFlds_toOff (s : State) (d : Nat) : s.SameFlds (s.toOff d) (domFlds d) := State.SameFlds.regs ((State.SameFlds.refl s _).setFlds d 0 _ (by simp)) rfl

theorem domDisable_off {s : State} {r : Req} {d : Dom} (hg : s.Grants r true .TPL_DOM_CFG d 0) :
    ∃ t, exec (.domEnable r d false) s = .next t ∧ t.on .TPL_DOM_CFG_EN d = false ∧ t.domState d = 0 ∧
      (∀ e : Dom, e ≠ d → t.domState e = s.domState e ∧ t.rate e = s.rate e) ∧ (∀ x c, t.cnt x c = s.cnt x c) := by
  have hread : ∀ {β : Type} {g : State → β}, State.Plane g → g (s.domEnable d false).settle = g (s.toOff d) := fun k => by
    rw [k.settle, State.domEnable_false, k.gridUnlockDom]
  have hfld : ∀ {f : Fl}, f.aside = false → ∀ e, (s.domEnable d false).settle.fld f e = (s.toOff d).fld f e := fun hf e => hread (.of_fld hf e 0)
  refine ⟨_, exec_domEnable hg false, ?_, (hfld rfl d).trans (s.fld_toOff d (by simp)), fun e he => ?_, fun x c => hread (g := fun a => a.cnt x c) (.of_cnt x c)⟩
  · unfold State.on; rw [hfld rfl, s.fld_toOff d (by simp)]; rfl
  · obtain ⟨h1, h2⟩ := (s.sameFlds_toOff d).otherDom (e := e) fun x => he (Fin.ext x)
    exact ⟨(hfld rfl e).trans h1, (congrArg (toSigned 32) (hfld rfl e)).trans h2⟩

theorem domUnlock_unlocked {s : State} {r : Req} {d : Dom} (hg : s.Grants r true .TPL_DOM_CFG d 0) (h : s.on .TPL_DOM_CFG_EN d = true) :
    ∃ t, exec (.domUnlock r d) s = .next t ∧ t.domState d = 1 ∧ t.rate d = 0 ∧
      (∀ e : Dom, e ≠ d → t.domState e = s.domState e ∧ t.rate e = s.rate e) ∧ (∀ x c, t.cnt x c = s.cnt x c) := by
  obtain ⟨hst, hrate, hother, hcnt⟩ := s.settle_enterUnlocked d
  have hu : s.domUnlock d = s.enterUnlocked d := if_pos h
  exact ⟨_, (exec_domUnlock hg).trans (by rw [hu]), hst, hrate, fun e he => hother e fun x => he (Fin.ext x), hcnt⟩

/-! ## Samples (R57, R58) -/

/-- A sample that waits is lost to a later one, and counted (R57). -/
def State.sampleReplaced (s : State) (d : Nat) : State := if (s.dom d).sample.isSome then s.bump (devWord (40 + d)) else s

/-- A sample waits behind those written before it. -/
def State.sampleQueued (s : State) (d : Nat) (x : Int × Int) : State :=
  let s := (s.setDom d { s.dom d with sample := some x }).dropSample d
  { s with time := { s.time with sampleQ := s.time.sampleQ ++ [d] } }

theorem State.sampleReplaced_time (s : State) (d : Nat) : (s.sampleReplaced d).time = s.time := by unfold State.sampleReplaced; split <;> simp
theorem State.SameFlds.sampleReplaced {s u : State} {l : List (Fl × Nat)} (h : s.SameFlds u l) (d : Nat) : s.SameFlds (u.sampleReplaced d) l := by
  unfold State.sampleReplaced; split <;> [exact h.bump _ _; exact h]
theorem State.fld_sampleReplaced (s : State) (d : Nat) {f : Fl} (h : ¬f.shared) (i j : Nat) : (s.sampleReplaced d).fld f i j = s.fld f i j :=
  (State.SameFlds.refl s []).sampleReplaced d f i j (by simp) h

/-- The state in which a domain takes samples: UNLOCKED, LOCKED or HOLDOVER (R58). -/
theorem State.sampleWrite_accepted {s : State} {d : Nat} (h : s.domState d ∈ [1, 3, 4]) (ofs : Int) :
    s.sampleWrite d ofs = (s.sampleReplaced d).sampleQueued d (ofs, toSigned 32 (s.fld .TPL_DOM_SAMPLE_RATIO_RATIO d)) := by
  have hst : ¬(s.domState d = 0 ∨ s.domState d = 2) := by simp at h; omega
  have hr : (s.sampleReplaced d).fld .TPL_DOM_SAMPLE_RATIO_RATIO d = s.fld .TPL_DOM_SAMPLE_RATIO_RATIO d := s.fld_sampleReplaced d (by rintro (e | e | e) <;> cases e) d 0
  show (if s.domState d = 0 ∨ s.domState d = 2 then _ else (s.sampleReplaced d).sampleQueued d (ofs, toSigned 32 ((s.sampleReplaced d).fld .TPL_DOM_SAMPLE_RATIO_RATIO d))) = _
  rw [if_neg hst, hr]

theorem State.sampleQueued_time (s : State) (d : Nat) (x : Int × Int) : (s.sampleQueued d x).time =
    { s.time with dom := s.time.dom.set {} d { s.dom d with sample := some x }, sampleQ := (s.time.sampleQ.filter fun e => e != d) ++ [d] } := rfl
theorem State.sampleQueued_regs (s : State) (d : Nat) (x : Int × Int) : (s.sampleQueued d x).regs = s.regs := rfl
theorem State.sampleQueued_dev (s : State) (d : Nat) (x : Int × Int) : (s.sampleQueued d x).dev = s.dev := rfl
theorem State.sampleQueued_mem (s : State) (d : Nat) (x : Int × Int) : s.SameMem (s.sampleQueued d x) := State.sameMem_of rfl rfl rfl
theorem State.dom_sampleQueued (s : State) (d : Nat) (x : Int × Int) : (s.sampleQueued d x).dom d = { s.dom d with sample := some x } := by
  unfold State.dom; rw [State.sampleQueued_time]; simp [State.dom]

theorem exec_domSampleWrite {s : State} {r : Req} {d : Dom} (hg : s.Grants r true .TPL_DOM_SAMPLE_OFS d 0) (ofs : BitVec 64) :
    exec (.domSampleWrite r d ofs) s = .next (s.sampleWrite d ofs.toInt).settle := by
  rw [← State.writing_of hg fun s => s.sampleWrite d ofs.toInt]; rfl

theorem State.SameMem.sampleReplaced {s u : State} (h : s.SameMem u) (d : Nat) : s.SameMem (u.sampleReplaced d) := by
  unfold State.sampleReplaced; split <;> [(intro a; simpa using h a); exact h]

theorem domSampleWrite_queued {s : State} (o : s.Overlock) {r : Req} {d : Dom} (hg : s.Grants r true .TPL_DOM_SAMPLE_OFS d 0) (ofs : BitVec 64) (h : s.domState d ∈ [1, 3, 4]) :
    ∃ t, exec (.domSampleWrite r d ofs) s = .next t ∧ (t.dom d).sample = some (ofs.toInt, toSigned 32 (s.fld .TPL_DOM_SAMPLE_RATIO_RATIO d)) ∧
      t.time.sampleQ = s.time.sampleQ.filter (fun e => e != d.val) ++ [d.val] ∧ s.SameFlds t [] ∧ s.SameMem t := by
  have hdev : (s.sampleReplaced d).dev = s.dev := by unfold State.sampleReplaced; split <;> simp
  refine ⟨_, (exec_domSampleWrite hg ofs).trans (by rw [State.sampleWrite_accepted h]), ?_, ?_, ?_, State.SameMem.settle ?_⟩
  · rw [State.dom_of_time (State.settle_time _), State.dom_sampleQueued]
  · rw [State.settle_time, State.sampleQueued_time, State.sampleReplaced_time]
  · exact State.SameFlds.settle_of (((State.SameFlds.refl s _).sampleReplaced d).regs (State.sampleQueued_regs ..)) o ((State.sampleQueued_dev ..).trans hdev) (by simp)
  · exact (State.SameMem.sampleReplaced (.refl s) d).trans (State.sampleQueued_mem _ _ _)

theorem domSampleWrite_discarded {s : State} (o : s.Overlock) {r : Req} {d : Dom} (hg : s.Grants r true .TPL_DOM_SAMPLE_OFS d 0) (ofs : BitVec 64) (h : s.domState d = 0 ∨ s.domState d = 2) :
    ∃ t, exec (.domSampleWrite r d ofs) s = .next t ∧ t.ctr (devWord (48 + d)) = ctrAdd (s.ctr (devWord (48 + d))) 1 ∧ (t.dom d).sample = (s.dom d).sample ∧
      s.SameFlds t [] ∧ s.SameMem t := by
  have hw : s.sampleWrite d ofs.toInt = s.sampleDiscard d := if_pos h
  unfold State.sampleDiscard at hw
  refine ⟨_, (exec_domSampleWrite hg ofs).trans (by rw [hw]), ?_, ?_, ?_, State.SameMem.settle (State.sameMem_of ?_ ?_ ?_)⟩
  · unfold State.ctr; rw [State.settle_tape]; exact s.ctr_bump_same ..
  · rw [State.dom_of_time ((State.settle_time _).trans (s.bump_time ..))]
  · exact State.SameFlds.settle_of ((State.SameFlds.refl s _).bump _ _) o (s.bump_dev ..) (by simp)
  · exact s.bump_localMem ..
  · exact s.bump_dram ..
  · exact congrArg BootSt.nvm (s.bump_boot ..)

/-! ## The processing of a first sample (R56, R57, R90, R91) -/

/-- The fields that an evaluation of R90 writes. -/
abbrev syncFlds : List (Fl × Nat) := (.TPL_SYNC_STATUS_IN_SYNC, 0) :: (.TPL_SYNC_STATUS_LOST, 0) :: faultFlds

/-- The loss of synchronism noted, before the fault that the device state gives it (R91). -/
def State.lossNoted (s : State) (d : Nat) : State := (s.setDom d { s.dom d with recent := [] }).eventBit .TPL_SYNC_STATUS_LOST 0 d

/-- A loss raises a Degraded fault in operation, a Notice in the other states that run, and none in Off, Fail-Silent and Stay-Down. -/
theorem State.syncLost_cases {P : State → Prop} (s : State) (d : Nat) (hnone : P (s.lossNoted d)) (hfault : ∀ sev, sev ≠ 3 → P ((s.lossNoted d).fault sev 0 d)) : P (s.syncLost d) := by
  unfold State.syncLost
  dsimp only
  split
  iterate 3 exact hfault 2 (by decide)
  iterate 4 exact hfault 1 (by decide)
  iterate 3 exact hnone

theorem State.SameFlds.syncLost {s u : State} {l : List (Fl × Nat)} (h : s.SameFlds u l) (m : ∀ e ∈ syncFlds, e ∈ l) (d : Nat) : s.SameFlds (u.syncLost d) l := by
  have hl : s.SameFlds (u.lossNoted d) l := State.SameFlds.eventBit (State.SameFlds.regs (v := u.setDom d { u.dom d with recent := [] }) h rfl) (m _ (.tail _ (.head _))) d
  exact State.syncLost_cases (P := fun a => s.SameFlds a l) u d hl fun sev hs => hl.fault (fun e he => m e (.tail _ (.tail _ he))) hs 0 d
theorem State.SameFlds.syncEval {s u : State} {l : List (Fl × Nat)} (h : s.SameFlds u l) (m : ∀ e ∈ syncFlds, e ∈ l) (d : Nat) : s.SameFlds (u.syncEval d) l := by
  unfold State.syncEval
  dsimp only
  split
  · exact State.SameFlds.syncLost (h.setFld (m _ (.head _)) 0 _) m d
  · exact h.setFld (m _ (.head _)) 0 _

/-- An evaluation of R90 is seen by no reading that sees neither its fields nor the domain's latest samples. -/
theorem State.syncEval_keeps {β : Type} (g : State → β) (hset : ∀ a v, g (State.setFld a .TPL_SYNC_STATUS_IN_SYNC 0 0 v) = g a)
    (hrecent : ∀ (a : State) d, g (a.setDom d { a.dom d with recent := [] }) = g a) (hbit : ∀ a d, g (State.eventBit a .TPL_SYNC_STATUS_LOST 0 d) = g a)
    (hfault : ∀ (a : State) sev sm u, sev ≠ 3 → g (a.fault sev sm u) = g a) (s : State) (d : Nat) : g (s.syncEval d) = g s := by
  have hnoted : ∀ a d, g (State.lossNoted a d) = g a := fun a d => (hbit _ d).trans (hrecent a d)
  have hlost : ∀ a d, g (State.syncLost a d) = g a := fun a d => a.syncLost_cases (P := fun b => g b = g a) d (hnoted a d) fun sev hs => (hfault _ sev 0 d hs).trans (hnoted a d)
  unfold State.syncEval
  dsimp only
  split
  · rw [hlost, hset]
  · exact hset s _

theorem State.cnt_syncEval (s : State) (d x c : Nat) : (s.syncEval d).cnt x c = s.cnt x c :=
  State.syncEval_keeps (fun a => a.cnt x c) (fun _ _ => rfl) (fun _ _ => rfl) (fun a _ => State.cnt_of_time (by simp) ..) (fun a _ _ _ h => State.cnt_of_time (by simp [h]) ..) s d
theorem State.syncEval_localMem (s : State) (d : Nat) : (s.syncEval d).localMem = s.localMem :=
  State.syncEval_keeps State.localMem (fun _ _ => rfl) (fun _ _ => rfl) (by simp) (fun _ _ _ _ h => by simp [h]) s d
theorem State.syncEval_dram (s : State) (d : Nat) : (s.syncEval d).dram = s.dram :=
  State.syncEval_keeps State.dram (fun _ _ => rfl) (fun _ _ => rfl) (by simp) (fun _ _ _ _ h => by simp [h]) s d
theorem State.syncEval_boot (s : State) (d : Nat) : (s.syncEval d).boot = s.boot :=
  State.syncEval_keeps State.boot (fun _ _ => rfl) (fun _ _ => rfl) (by simp) (fun _ _ _ _ h => by simp [h]) s d

/-- What waits for a domain: its step and its sample. -/
def State.waits (s : State) (d : Nat) : Option (Int × Nat) × Option (Int × Int) := ((s.dom d).step, (s.dom d).sample)

theorem State.waits_of_time {s t : State} (h : t.time = s.time) (d : Nat) : t.waits d = s.waits d := by unfold State.waits; rw [State.dom_of_time h]
theorem State.waits_setDom (s : State) (d e : Nat) {x : DomSt} (h : (x.step, x.sample) = s.waits d) : (s.setDom d x).waits e = s.waits e := by
  unfold State.waits
  by_cases he : e = d
  · subst he; rw [State.dom_setDom_same]; exact h
  · rw [State.dom_setDom_ne _ he]
theorem State.waits_syncEval (s : State) (d e : Nat) : (s.syncEval d).waits e = s.waits e :=
  State.syncEval_keeps (fun a => a.waits e) (fun _ _ => rfl) (fun a d => a.waits_setDom d e rfl) (fun a _ => State.waits_of_time (by simp) e) (fun a _ _ _ h => State.waits_of_time (by simp [h]) e) s d

/-- The entry to STEPPING before R90 is evaluated. -/
def State.toStepping (s : State) (d : Nat) (ofs ratio : Int) : State :=
  let s := (s.setLastOfs d ofs).setFlds d 0 [(.TPL_DOM_STATUS_STATE, 2), (.TPL_DOM_STATUS_HOLD_EST, 0)]
  s.setDom d { s.dom d with step := some (-ofs * 2 ^ 24, ceilUs (s.lNow + 64 * nsT)), stepRatio := ratio, bigRun := 0,
                                     lastAcc := s.lNow, recent := [], holdOk := false }

theorem State.enterStepping_eq (s : State) (d : Nat) (ofs ratio : Int) : s.enterStepping d ofs ratio = (s.toStepping d ofs ratio).syncEval d := rfl
theorem State.regs_toStepping (s : State) (d : Nat) (ofs ratio : Int) :
    (s.toStepping d ofs ratio).regs = ((s.setLastOfs d ofs).setFlds d 0 [(.TPL_DOM_STATUS_STATE, 2), (.TPL_DOM_STATUS_HOLD_EST, 0)]).regs := rfl
theorem State.SameFlds.toStepping {s u : State} (h : s.SameFlds u (domFlds d)) (ofs ratio : Int) : s.SameFlds (u.toStepping d ofs ratio) (domFlds d) :=
  State.SameFlds.regs ((h.setFld (f := .TPL_DOM_STATUS_LAST_OFS) (i := d) (by simp) 0 _).setFlds d 0 [(.TPL_DOM_STATUS_STATE, 2), (.TPL_DOM_STATUS_HOLD_EST, 0)] (by simp)) (u.regs_toStepping d ofs ratio)
theorem State.domState_toStepping (s : State) (d : Nat) (ofs ratio : Int) : (s.toStepping d ofs ratio).domState d = 2 := by
  unfold State.domState State.fld
  rw [State.regs_toStepping]
  exact State.fld_setFlds_mem _ d 0 (l := [(.TPL_DOM_STATUS_STATE, 2), (.TPL_DOM_STATUS_HOLD_EST, 0)]) (v := 2) (by decide) (by simp)
theorem State.dom_toStepping (s : State) (d : Nat) (ofs ratio : Int) : (s.toStepping d ofs ratio).waits d = (some (-ofs * 2 ^ 24, ceilUs (s.lNow + 64 * nsT)), (s.dom d).sample) := by
  have hl : ((s.setLastOfs d ofs).setFlds d 0 [(.TPL_DOM_STATUS_STATE, 2), (.TPL_DOM_STATUS_HOLD_EST, 0)]).lNow = s.lNow := by
    have he : ((s.setLastOfs d ofs).setFlds d 0 [(.TPL_DOM_STATUS_STATE, 2), (.TPL_DOM_STATUS_HOLD_EST, 0)]).fld .TPL_VOTE_STATUS_EXCL = s.fld .TPL_VOTE_STATUS_EXCL :=
      (State.fld_setFlds_other _ _ _ _ _ _ _ (by decide)).trans (s.fld_setFld_other (by decide) ..)
    exact State.voted_congr (fun c _ => State.cnt_of_time (State.setFlds_time ..) 8 c) he
  unfold State.waits State.toStepping
  dsimp only
  rw [State.dom_setDom_same, hl]
  rfl

/-- The sample of a domain taken out of the order of those that wait. -/
def State.sampleTaken (s : State) (d : Nat) : State := (s.dropSample d).setDom d { s.dom d with sample := none }

theorem State.sampleTaken_regs (s : State) (d : Nat) : (s.sampleTaken d).regs = s.regs := rfl
theorem State.dom_sampleTaken (s : State) (d : Nat) : (s.sampleTaken d).dom d = { s.dom d with sample := none } := (s.dropSample d).dom_setDom_same ..
theorem State.sampleProcess_of_head {s : State} {d : Nat} {x : Int × Int} (hx : (s.dom d).sample = some x) (hq : s.time.sampleQ.head? = some d) (h1 : s.domState d = 1) :
    s.sampleProcess d = ((s.sampleTaken d).enterStepping d x.1 x.2).servoRecord d := by
  have hst : (s.sampleTaken d).domState d = 1 := h1
  unfold State.sampleProcess
  rw [hx, hq, beq_self_eq_true]
  dsimp only
  split
  · rfl
  · next h => exact absurd (hst.symm.trans h) (by decide)
  · next h => exact absurd (hst.symm.trans h) (by decide)
  · next h _ _ => exact absurd hst h
theorem State.sampleProcess_of_other {s : State} {d e : Nat} (hq : s.time.sampleQ.head? = some e) (he : e ≠ d) : s.sampleProcess d = s := by
  have hb : (some e == some d) = false := by simpa using he
  unfold State.sampleProcess
  rw [hq, hb]
  cases (s.dom d).sample <;> rfl

theorem State.servoRecord_out (s : State) (d : Nat) : ∃ o, s.servoRecord d = { s with out := o } := by
  unfold State.servoRecord
  split
  · exact ⟨_, rfl⟩
  · exact ⟨s.out, rfl⟩

theorem exec_domSampleProcess {s : State} (hd : s.dev ≠ .off) (d : Dom) : exec (.domSampleProcess d) s = .next (s.sampleProcess d).settle := by
  rw [← State.powered_of hd fun s => s.sampleProcess d]; rfl

theorem domSampleProcess_steps {s : State} {d : Dom} {ofs ratio : Int} (hd : s.dev ≠ .off) (h1 : s.domState d = 1) (hx : (s.dom d).sample = some (ofs, ratio))
    (hq : s.time.sampleQ.head? = some d.val) : ∃ t, exec (.domSampleProcess d) s = .next t ∧ t.domState d = 2 ∧
      (t.dom d).step = some (-ofs * 2 ^ 24, ceilUs (s.lNow + 64 * nsT)) ∧ (t.dom d).sample = none ∧ (∀ x c, t.cnt x c = s.cnt x c) ∧
      (∀ e : Dom, e ≠ d → t.domState e = s.domState e ∧ t.rate e = s.rate e) ∧ s.SameMem t := by
  have htime : ∀ {β : Type} (g : State → β), (∀ a o, g { a with out := o } = g a) → g (((s.sampleTaken d).enterStepping d ofs ratio).servoRecord d) = g (((s.sampleTaken d).toStepping d ofs ratio).syncEval d) := by
    intro β g h
    obtain ⟨o, e⟩ := ((s.sampleTaken d).enterStepping d ofs ratio).servoRecord_out d
    rw [e, h, State.enterStepping_eq]
  have hsync : (((s.sampleTaken d).toStepping d ofs ratio)).SameFlds (((s.sampleTaken d).toStepping d ofs ratio).syncEval d) syncFlds := (State.SameFlds.refl _ _).syncEval (fun _ h => h) d
  have hto : s.SameFlds ((s.sampleTaken d).toStepping d ofs ratio) (domFlds d) := State.SameFlds.toStepping (u := s.sampleTaken d) ((State.SameFlds.refl s _).regs (s.sampleTaken_regs d)) ofs ratio
  have hst : ∀ e, ((((s.sampleTaken d).enterStepping d ofs ratio).servoRecord d).settle).domState e = ((s.sampleTaken d).toStepping d ofs ratio).domState e := fun e =>
    ((State.Plane.of_fld rfl e 0).settle _).trans ((htime (fun a => a.domState e) fun _ _ => rfl).trans (hsync.domState (by simp)))
  have hrate : ∀ e, ((((s.sampleTaken d).enterStepping d ofs ratio).servoRecord d).settle).rate e = ((s.sampleTaken d).toStepping d ofs ratio).rate e := fun e =>
    (congrArg (toSigned 32) ((State.Plane.of_fld rfl e 0).settle _)).trans ((htime (fun a => a.rate e) fun _ _ => rfl).trans (hsync.rate (by simp)))
  have hwait : ((((s.sampleTaken d).enterStepping d ofs ratio).servoRecord d).settle).waits d = (some (-ofs * 2 ^ 24, ceilUs (s.lNow + 64 * nsT)), none) := by
    rw [State.waits_of_time (State.settle_time _), htime (fun a => a.waits d) fun _ _ => rfl, State.waits_syncEval, State.dom_toStepping, State.dom_sampleTaken]
    rfl
  refine ⟨_, (exec_domSampleProcess hd d).trans (by rw [State.sampleProcess_of_head hx hq h1]), (hst d).trans (State.domState_toStepping ..), congrArg Prod.fst hwait, congrArg Prod.snd hwait,
    fun x c => ?_, fun e he => ?_, State.SameMem.settle (State.sameMem_of ?_ ?_ ?_)⟩
  · rw [State.cnt_settle, htime (fun a => a.cnt x c) fun _ _ => rfl, State.cnt_syncEval]; rfl
  · rw [hst, hrate]; exact hto.otherDom fun x => he (Fin.ext x)
  · rw [htime State.localMem fun _ _ => rfl, State.syncEval_localMem]; rfl
  · rw [htime State.dram fun _ _ => rfl, State.syncEval_dram]; rfl
  · rw [htime State.boot fun _ _ => rfl, State.syncEval_boot]; rfl

theorem domSampleProcess_waits {s : State} (o : s.Overlock) {d : Dom} {e : Nat} (hd : s.dev ≠ .off) (hq : s.time.sampleQ.head? = some e) (he : e ≠ d) :
    ∃ t, exec (.domSampleProcess d) s = .next t ∧ t.time = s.time ∧ s.SameFlds t [] ∧ s.SameMem t :=
  ⟨_, (exec_domSampleProcess hd d).trans (by rw [State.sampleProcess_of_other hq he]), State.settle_time s, State.SameFlds.settle_of (.refl s _) o rfl (by simp),
    State.SameMem.settle (State.sameMem_of rfl rfl rfl)⟩

/-! ## HOLDOVER (R56, R63, R64) -/

/-- The fields that the entry to HOLDOVER writes. -/
abbrev holdFlds (d : Nat) : List (Fl × Nat) := [(.TPL_DOM_STATUS_STATE, d), (.TPL_DOM_STATUS_HOLD_EST, d), (.TPL_DOM_RATE_RATE, d)]

theorem State.regs_enterHoldover (s : State) (d : Nat) : (s.enterHoldover d).regs =
    ((s.setFlds d 0 [(.TPL_DOM_STATUS_STATE, 4), (.TPL_DOM_STATUS_HOLD_EST, 0)]).setFld .TPL_DOM_RATE_RATE d 0 (ofSigned 32 (s.dom d).hold.toWord)).regs := rfl
theorem State.sameFlds_enterHoldover (s : State) (d : Nat) : s.SameFlds (s.enterHoldover d) (holdFlds d) :=
  State.SameFlds.regs (((State.SameFlds.refl s _).setFlds d 0 [(.TPL_DOM_STATUS_STATE, 4), (.TPL_DOM_STATUS_HOLD_EST, 0)] (by simp)).setFld (f := .TPL_DOM_RATE_RATE) (i := d) (by simp) 0 _)
    (s.regs_enterHoldover d)
theorem State.domState_enterHoldover (s : State) (d : Nat) : (s.enterHoldover d).domState d = 4 := by
  unfold State.domState State.fld
  rw [State.regs_enterHoldover]
  exact (State.fld_setFld_other _ (by decide) ..).trans (s.fld_setFlds_mem d 0 (l := [(.TPL_DOM_STATUS_STATE, 4), (.TPL_DOM_STATUS_HOLD_EST, 0)]) (v := 4) (by decide) (by simp))
theorem ofSigned_lt (w : Nat) (v : Int) : ofSigned w v < 2 ^ w := by
  have hp : (0 : Int) < (2 ^ w : Nat) := by exact_mod_cast Nat.two_pow_pos w
  have hlt := Int.emod_lt_of_pos v hp
  unfold ofSigned
  omega
theorem State.rate_enterHoldover (s : State) (d : Nat) : (s.enterHoldover d).rate d = toSigned 32 (ofSigned 32 (s.dom d).hold.toWord) := by
  unfold State.rate State.fld
  rw [State.regs_enterHoldover]
  exact congrArg (toSigned 32) ((State.fld_setFld_same _ .TPL_DOM_RATE_RATE d 0 _).trans (Nat.mod_eq_of_lt (ofSigned_lt 32 _)))

theorem State.dom_enterHoldover (s : State) (d : Nat) : ((s.enterHoldover d).dom d).holdEntry = s.lNow ∧ ((s.enterHoldover d).dom d).holdOk = s.inSync d := by
  have hother : ∀ {f : Fl}, f ∉ [Fl.TPL_DOM_STATUS_STATE, .TPL_DOM_STATUS_HOLD_EST, .TPL_DOM_RATE_RATE] →
      ((s.setFlds d 0 [(.TPL_DOM_STATUS_STATE, 4), (.TPL_DOM_STATUS_HOLD_EST, 0)]).setRate d (s.dom d).hold.toWord).fld f = s.fld f := by
    intro f hf
    simp only [List.mem_cons, List.not_mem_nil, or_false, not_or] at hf
    obtain ⟨h1, h2, h3⟩ := hf
    exact (State.fld_setFld_other _ h3 ..).trans (s.fld_setFlds_other _ _ _ _ _ _ (by simp [h1, h2]))
  unfold State.enterHoldover
  dsimp only
  rw [State.dom_setDom_same]
  constructor
  · exact State.voted_congr (fun c _ => State.cnt_of_time ((State.setFld_time ..).trans (s.setFlds_time ..)) 8 c) (hother (by decide))
  · show Nat.testBit (State.fld _ _) d = _
    rw [hother (by decide)]; rfl

theorem exec_holdTimeoutExpiry {s : State} (hd : s.dev ≠ .off) (d : Dom) : exec (.holdTimeoutExpiry d) s = .next (s.holdTimeout d).settle := by
  rw [← State.powered_of hd fun s => s.holdTimeout d]; rfl
theorem exec_holdEstUpdate {s : State} (hd : s.dev ≠ .off) (d : Dom) : exec (.holdEstUpdate d) s = .next (s.holdEst d).settle := by
  rw [← State.powered_of hd fun s => s.holdEst d]; rfl

theorem holdTimeoutExpiry_holdover {s : State} (o : s.Overlock) {d : Dom} (hd : s.dev ≠ .off) (h3 : s.domState d = 3)
    (hdue : (s.dom d).lastAcc + max 1 (s.fld .TPL_DOM_CFG_HOLD_TIMEOUT d) * 16000000 * nsT ≤ s.lNow) : ∃ t, exec (.holdTimeoutExpiry d) s = .next t ∧
      t.domState d = 4 ∧ t.rate d = toSigned 32 (ofSigned 32 (s.dom d).hold.toWord) ∧ (t.dom d).holdEntry = s.lNow ∧ (t.dom d).holdOk = s.inSync d ∧
      s.SameFlds t (holdFlds d) ∧ s.SameMem t := by
  have he : s.holdTimeout d = s.enterHoldover d := if_pos ⟨h3, hdue⟩
  obtain ⟨hentry, hok⟩ := s.dom_enterHoldover d
  refine ⟨_, (exec_holdTimeoutExpiry hd d).trans (by rw [he]), ((State.Plane.of_fld rfl d.val 0).settle _).trans (s.domState_enterHoldover d), ?_, ?_, ?_,
    State.SameFlds.settle_of (s.sameFlds_enterHoldover d) o rfl (by simp), State.SameMem.settle (State.sameMem_of rfl rfl rfl)⟩
  · exact (congrArg (toSigned 32) ((State.Plane.of_fld rfl d.val 0).settle _)).trans (s.rate_enterHoldover d)
  · rw [State.dom_of_time (State.settle_time _), hentry]
  · rw [State.dom_of_time (State.settle_time _), hok]

/-- A quotient that is whole is its own lowest form. -/
theorem Frac.norm_mul {m : Nat} (hm : 0 < m) (n : Int) : Frac.norm (n * m) m = ⟨n, 1⟩ := by
  have hg : Nat.gcd (n * (m : Int)).natAbs m = m := by rw [Int.natAbs_mul, Int.natAbs_natCast]; exact Nat.gcd_mul_left_left ..
  unfold Frac.norm
  simp only [hg]
  rw [if_neg (by omega), Int.mul_ediv_cancel _ (by omega), Nat.div_self hm]

/-- RATE_UNC of 1 ns/s and no drift: as many nanoseconds as seconds have passed (R64). -/
theorem State.holdEst_of_unit {s : State} {d n : Nat} (h4 : s.domState d = 4) (hdrift : s.fld .TPL_DOM_HOLD_DRIFT d = 0) (hunc : s.fld .TPL_DOM_HOLD_RATE_UNC d = 256)
    (ht : s.lNow - (s.dom d).holdEntry = n * secT) : s.holdEst d = s.setFld .TPL_DOM_STATUS_HOLD_EST d 0 (satTo 0xFFFFFF (Frac.add ⟨n, 1⟩ ⟨0, 1⟩).toWord.toNat) := by
  have hpos : 0 < secT := by decide
  unfold State.holdEst
  rw [if_pos h4]
  simp only [ht, hdrift, hunc]
  generalize secT = z at hpos
  have h1 : Frac.norm (((256 : Nat) : Int) * ((n * z : Nat) : Int)) (256 * z) = ⟨n, 1⟩ := by
    rw [← Frac.norm_mul (m := 256 * z) (by omega) n]; congr 1; push_cast; ring
  have h2 : Frac.norm (((0 : Nat) : Int) * (((n * z : Nat) : Int) * ((n * z : Nat) : Int))) (8192 * (z * z)) = ⟨0, 1⟩ := by
    rw [← Frac.norm_mul (m := 8192 * (z * z)) (by positivity) 0]; congr 1; simp
  rw [h1, h2]

theorem holdEstUpdate_seven {s : State} (o : s.Overlock) {d : Dom} (hd : s.dev ≠ .off) (h4 : s.domState d = 4) (hdrift : s.fld .TPL_DOM_HOLD_DRIFT d = 0)
    (hunc : s.fld .TPL_DOM_HOLD_RATE_UNC d = 256) (ht : s.lNow - (s.dom d).holdEntry = 7 * secT) : ∃ t, exec (.holdEstUpdate d) s = .next t ∧
      t.fld .TPL_DOM_STATUS_HOLD_EST d = 7 ∧ s.SameFlds t [(.TPL_DOM_STATUS_HOLD_EST, d)] ∧ s.SameMem t := by
  have he : s.holdEst d = s.setFld .TPL_DOM_STATUS_HOLD_EST d 0 7 := s.holdEst_of_unit (n := 7) h4 hdrift hunc ht
  refine ⟨_, (exec_holdEstUpdate hd d).trans (by rw [he]), ?_, State.SameFlds.settle_of ((State.SameFlds.refl s _).setFld (.head _) 0 7) o rfl (by simp),
    State.SameMem.settle (State.sameMem_of rfl rfl rfl)⟩
  rw [State.fld_settle_of _ (by decide), State.fld_setFld_same]; rfl

/-- Settles O10, a state of the domain and its command after another; the other domains are outside the fields and the counters that a transition writes. -/
theorem domainStates : Obligations.DomainStates := by
  unfold Obligations.DomainStates
  intro s d o
  exact ⟨fun r hg h => domEnable_unlocked hg h, fun r hg => domDisable_off hg, fun r hg h => domUnlock_unlocked hg h, fun r ofs hg h => domSampleWrite_queued o hg ofs h,
    fun r ofs hg h => domSampleWrite_discarded o hg ofs h, fun ofs ratio hd h1 hx hq => domSampleProcess_steps hd h1 hx hq, fun e hd hq he => domSampleProcess_waits o hd hq he,
    fun hd h3 hdue => holdTimeoutExpiry_holdover o hd h3 hdue, fun hd h4 hdrift hunc _ ht => holdEstUpdate_seven o hd h4 hdrift hunc ht⟩

end Sys2Proof.Machine
end

section
/-!
PROOFS. Snapshots, output units and capture units (R65, R69, R70, R72, R73, R75).
-/
namespace Sys2Proof.Machine

/-! ## A pending value at its boundary -/

theorem Fl.not_shared {f : Fl} (h : f ∉ [Fl.INTC_PENDING_PEND, .INTC_PEND_CNT_COUNT, .TAPE_EVENT_OVF]) : ¬f.shared := by simpa [Fl.shared] using h


section TakeB
variable (s : State) (x : RegRef) (f : Fl)

@[simp] theorem State.takeB_time : (s.takeB x f).time = s.time := by unfold State.takeB; split <;> rfl
@[simp] theorem State.takeB_dev : (s.takeB x f).dev = s.dev := by unfold State.takeB; split <;> rfl
@[simp] theorem State.takeB_localMem : (s.takeB x f).localMem = s.localMem := by unfold State.takeB; split <;> rfl
@[simp] theorem State.takeB_dram : (s.takeB x f).dram = s.dram := by unfold State.takeB; split <;> rfl
@[simp] theorem State.takeB_nvm : (s.takeB x f).boot.nvm = s.boot.nvm := by unfold State.takeB; split <;> rfl

end TakeB

theorem State.SameFlds.takeB {s u : State} {l : List (Fl × Nat)} (h : s.SameFlds u l) {x : RegRef} {f : Fl} (m : (f, x.i) ∈ l) : s.SameFlds (u.takeB x f) l := by
  unfold State.takeB
  split
  · exact h
  · exact (h.setFld m x.j _).regs rfl

/-- After its boundary a field holds the value that waited, or what it held. -/
theorem State.fld_takeB (s : State) (x : RegRef) (f : Fl) (h : ∀ v, s.pendingB x f = some v → v < 2 ^ f.info.width) :
    (s.takeB x f).fld f x.i x.j = (s.pendingB x f).getD (s.fld f x.i x.j) := by
  cases hp : s.pendingB x f with
  | none => unfold State.takeB; rw [hp]; rfl
  | some v => rw [State.takeB_of_pending hp, State.fld_setPendingB, State.fld_setFld_same, Nat.mod_eq_of_lt (h v hp)]; rfl

/-! ## Snapshots (R75) -/

theorem exec_snapshotTrigger {s : State} {r : Req} (hg : s.Grants r true .TPL_SNAP_CTRL 0 0) : exec (.snapshotTrigger r) s = .next s.snapTrigger.settle := by
  rw [← State.writing_of hg State.snapTrigger]; rfl
theorem exec_snapshotComplete {s : State} (hd : s.dev ≠ .off) : exec .snapshotComplete s = .next s.snapDone.settle := by
  rw [← State.powered_of hd State.snapDone]; rfl

theorem snapshotTrigger_copies {s : State} (o : s.Overlock) {r : Req} (hg : s.Grants r true .TPL_SNAP_CTRL 0 0) : ∃ t, exec (.snapshotTrigger r) s = .next t ∧
    t.fld .TPL_SNAP_CTRL_BUSY = 1 ∧ t.time.snap = some ((List.range 9).map s.voted) ∧ s.SameFlds t [(.TPL_SNAP_CTRL_BUSY, 0)] ∧ s.SameMem t := by
  refine ⟨_, exec_snapshotTrigger hg, ?_, congrArg TimeSt.snap (State.settle_time _), State.SameFlds.settle_of (((State.SameFlds.refl s _).setFld (.head _) 0 1).regs rfl) o rfl (by simp),
    State.SameMem.settle (State.sameMem_of rfl rfl rfl)⟩
  exact (State.fld_settle_of _ (by decide) 0 0).trans (s.fld_setFld_same .TPL_SNAP_CTRL_BUSY 0 0 1)

/-- The fields that show a time. -/
def snapFlds (t : Nat) : List (Fl × Nat) := [(.TPL_SNAP_SEC_SEC, secOf t), (.TPL_SNAP_NS_NS, nsOf t), (.TPL_SNAP_NS_FRAC, fracOf t)]

/-- The first `n` timescales show their copies. -/
def State.snapShown (s : State) (l : List Nat) (n : Nat) : State := (List.range n).foldl (fun a x => a.setFlds x 0 (snapFlds (l.getD x 0))) s

theorem State.snapShown_succ (s : State) (l : List Nat) (n : Nat) : s.snapShown l (n + 1) = (s.snapShown l n).setFlds n 0 (snapFlds (l.getD n 0)) := by
  unfold State.snapShown; rw [List.range_succ, List.foldl_append]; rfl
theorem State.snapShown_keeps {β : Type} (g : State → β) (h : ∀ a i j w, g (State.setFlds a i j w) = g a) (s : State) (l : List Nat) (n : Nat) : g (s.snapShown l n) = g s :=
  foldl_keeps g _ (fun a _ => h a ..) _ s
theorem State.fld_snapShown (s : State) (l : List Nat) {n x : Nat} (hx : x < n) {f : Fl} {v : Nat} (hf : (f, v) ∈ snapFlds (l.getD x 0)) : (s.snapShown l n).fld f x = v % 2 ^ f.info.width := by
  induction n with
  | zero => omega
  | succ n ih =>
    rw [State.snapShown_succ]
    by_cases hn : x = n
    · subst hn; exact State.fld_setFlds_mem _ x 0 (by simp [snapFlds]) hf
    · rw [← ih (by omega)]
      exact foldl_keeps (fun a : State => a.fld f x) _ (fun a (e : Fl × Nat) => a.fld_setFld_inst e.1 f hn 0 0 e.2) _ _

theorem State.snapDone_of {s : State} {l : List Nat} (h : s.time.snap = some l) :
    s.snapDone = ({ (s.snapShown l 9).setFld .TPL_SNAP_CTRL_BUSY 0 0 0 with time := { (s.snapShown l 9).time with snap := none } }).event .TPL_EVENT_SNAP_DONE := by
  unfold State.snapDone; rw [h]; rfl

theorem nsOf_lt (t : Nat) : nsOf t < 2 ^ 32 := by
  have h : t % secT < 1000000000 * nsT := Nat.mod_lt _ (by decide)
  exact (Nat.div_lt_of_lt_mul (by rwa [Nat.mul_comm] at h)).trans (by decide)
theorem fracOf_lt (t : Nat) : fracOf t < 2 ^ 16 := by
  have h : t % nsT < 2 ^ 24 * 2 ^ 16 := Nat.mod_lt _ (by decide)
  exact Nat.div_lt_of_lt_mul h

theorem snapshotComplete_shows {s : State} {l : List Nat} (hd : s.dev ≠ .off) (h : s.time.snap = some l) : ∃ t, exec .snapshotComplete s = .next t ∧ t.fld .TPL_SNAP_CTRL_BUSY = 0 ∧
    t.fld .TPL_EVENT_SNAP_DONE = 1 ∧
    (∀ x : Fin 9, t.fld .TPL_SNAP_SEC_SEC x = secOf (l.getD x 0) % 2 ^ 48 ∧ t.fld .TPL_SNAP_NS_NS x = nsOf (l.getD x 0) ∧ t.fld .TPL_SNAP_NS_FRAC x = fracOf (l.getD x 0)) ∧
    t.time.snap = none ∧ s.SameMem t := by
  have hshow : ∀ (x : Fin 9) {f : Fl} {v : Nat}, (f, v) ∈ snapFlds (l.getD x 0) → f ≠ .TPL_SNAP_CTRL_BUSY → ¬f.settled → ¬f.shared → f ≠ .TPL_EVENT_SNAP_DONE →
      s.snapDone.settle.fld f x = v % 2 ^ f.info.width := by
    intro x f v hf h1 h2 h3 h4
    rw [State.fld_settle_of _ h2, State.snapDone_of h, ← s.fld_snapShown l x.isLt hf]
    exact (State.SameFlds.refl _ [(.TPL_SNAP_CTRL_BUSY, 0), (.TPL_EVENT_SNAP_DONE, 0)]
      |>.setFld (.head _) 0 0 |>.regs (v := { (s.snapShown l 9).setFld .TPL_SNAP_CTRL_BUSY 0 0 0 with time := { (s.snapShown l 9).time with snap := none } }) rfl
      |>.event (.inl (.tail _ (.head _)))) f x 0 (by simp [h1, h4]) h3
  refine ⟨_, exec_snapshotComplete hd, ?_, ?_, fun x => ⟨?_, ?_, ?_⟩, ?_, State.SameMem.settle (State.sameMem_of ?_ ?_ ?_)⟩
  · rw [State.fld_settle_of _ (by decide), State.snapDone_of h, State.fld_event _ _ _ _ _ (by decide) (by decide) (by decide)]
    exact State.fld_setFld_same _ .TPL_SNAP_CTRL_BUSY 0 0 0
  · rw [State.fld_settle_of _ (by decide), State.snapDone_of h]
    exact State.fld_event_same _ .TPL_EVENT_SNAP_DONE 0 (by decide) (by decide)
  · exact hshow x (by simp [snapFlds]) (by decide) (by decide) (Fl.not_shared (by decide)) (by decide)
  · rw [hshow x (v := nsOf (l.getD x 0)) (by simp [snapFlds]) (by decide) (by decide) (Fl.not_shared (by decide)) (by decide)]; exact Nat.mod_eq_of_lt (nsOf_lt _)
  · rw [hshow x (v := fracOf (l.getD x 0)) (by simp [snapFlds]) (by decide) (by decide) (Fl.not_shared (by decide)) (by decide)]; exact Nat.mod_eq_of_lt (fracOf_lt _)
  · rw [State.settle_time, State.snapDone_of h, State.event_time]
  · rw [State.snapDone_of h, State.event_localMem]; exact s.snapShown_keeps State.localMem (fun _ _ _ _ => State.setFlds_localMem ..) l 9
  · rw [State.snapDone_of h, State.event_dram]; exact s.snapShown_keeps State.dram (fun _ _ _ _ => State.setFlds_dram ..) l 9
  · rw [State.snapDone_of h, State.event_boot]; exact congrArg BootSt.nvm (s.snapShown_keeps State.boot (fun _ _ _ _ => State.setFlds_boot ..) l 9)

/-! ## Output units (R65, R69, R70) -/

section Units
variable {s : State} {r : Req} {u : Fin 36}

theorem exec_outArm (hg : s.Grants r true .TPL_OUT_CFG u 0) : exec (.outArm r u) s = .next (s.outArm u).settle := by rw [← State.writing_of hg fun s => s.outArm u]; rfl
theorem exec_outDisarm (hg : s.Grants r true .TPL_OUT_CFG u 0) : exec (.outDisarm r u) s = .next (s.outDisarm u).settle := by rw [← State.writing_of hg fun s => s.outDisarm u]; rfl
theorem exec_outModeOff (hg : s.Grants r true .TPL_OUT_CFG u 0) : exec (.outModeOff r u) s = .next (s.outModeOff u).settle := by rw [← State.writing_of hg fun s => s.outModeOff u]; rfl
theorem exec_outEvent (hd : s.dev ≠ .off) : exec (.outEvent u) s = .next (s.outEvent u).settle := by rw [← State.powered_of hd fun s => s.outEvent u]; rfl
theorem exec_outPulseEnd (hd : s.dev ≠ .off) : exec (.outPulseEnd u) s = .next (s.outPulseEnd u).settle := by rw [← State.powered_of hd fun s => s.outPulseEnd u]; rfl

end Units

theorem State.outU_setOutU (s : State) (u : Nat) (x : OutSt) : (s.setOutU u x).outU u = x := Tbl.get_set_same ..
theorem State.outU_of_time {s t : State} (h : t.time = s.time) (u : Nat) : t.outU u = s.outU u := by unfold State.outU; rw [h]
theorem State.SameFlds.outActive {s v : State} {l : List (Fl × Nat)} (h : s.SameFlds v l) {u : Nat} (m : (.TPL_OUT_STATUS_ACTIVE, u) ∈ l) : s.SameFlds (v.outActive u) l :=
  State.SameFlds.setFld h m 0 _

/-- A unit's own part set, and ACTIVE after it. -/
def State.outSet (s : State) (u : Nat) (x : OutSt) : State := (s.setOutU u x).outActive u

theorem State.outU_outSet (s : State) (u : Nat) (x : OutSt) : (s.outSet u x).settle.outU u = x := (State.outU_of_time (State.settle_time _) u).trans (s.outU_setOutU u x)
theorem State.SameFlds.outSet {s v : State} {l : List (Fl × Nat)} (h : s.SameFlds v l) {u : Nat} (m : (.TPL_OUT_STATUS_ACTIVE, u) ∈ l) (x : OutSt) : s.SameFlds (v.outSet u x) l :=
  State.SameFlds.outActive (State.SameFlds.regs (v := v.setOutU u x) h rfl) m
theorem State.fld_outSet (s : State) (u : Nat) (x : OutSt) {f : Fl} (hf : f ≠ .TPL_OUT_STATUS_ACTIVE) (hs : ¬f.settled) (i : Nat) : (s.outSet u x).settle.fld f i = s.fld f i :=
  (State.fld_settle_of _ hs i 0).trans (State.fld_setFld_other (s.setOutU u x) hf ..)

theorem seqFirst_start (st p : Nat) : seqFirst false st p st = some st := by unfold seqFirst; simp

theorem State.outArm_ahead {s : State} {u : Nat} (ha : s.on .TPL_OUT_CFG_ALIGN_SEC u = false) (hn : s.outNow u < s.outStart u) :
    ∃ level, s.outArm u = (s.setFlds u 0 [(.TPL_OUT_CFG_ARM, 1), (.TPL_OUT_STATUS_MISSED, 0)]).outSet u { s.outU u with level := level, next := some (s.outStart u), issued := 0 } := by
  have hfirst : s.outFirst u (s.outStart u) = some (s.outStart u) := by unfold State.outFirst; rw [ha]; exact seqFirst_start ..
  unfold State.outArm
  simp only [ha, Bool.false_and, Bool.false_eq_true, if_false, decide_eq_false (Nat.not_le.mpr hn), hfirst]
  exact ⟨_, rfl⟩

theorem outArm_waits {s : State} (o : s.Overlock) {r : Req} {u : Fin 36} (hg : s.Grants r true .TPL_OUT_CFG u 0) (ha : s.on .TPL_OUT_CFG_ALIGN_SEC u = false) (hn : s.outNow u < s.outStart u) :
    ∃ t, exec (.outArm r u) s = .next t ∧ t.on .TPL_OUT_CFG_ARM u = true ∧ (t.outU u).next = some (s.outStart u) ∧ t.fld .TPL_OUT_STATUS_MISSED u = 0 ∧
      t.fld .TPL_OUT_STATUS_LATE u = s.fld .TPL_OUT_STATUS_LATE u ∧ s.SameFlds t [(.TPL_OUT_CFG_ARM, u), (.TPL_OUT_STATUS_MISSED, u), (.TPL_OUT_STATUS_ACTIVE, u)] ∧ s.SameMem t := by
  obtain ⟨level, he⟩ := State.outArm_ahead ha hn
  have hset : ∀ {f v}, (f, v) ∈ [(Fl.TPL_OUT_CFG_ARM, 1), (.TPL_OUT_STATUS_MISSED, 0)] → (s.setFlds u 0 [(.TPL_OUT_CFG_ARM, 1), (.TPL_OUT_STATUS_MISSED, 0)]).fld f u = v % 2 ^ f.info.width :=
    fun hm => s.fld_setFlds_mem u 0 (by decide) hm
  have hsame : s.SameFlds (s.setFlds u 0 [(.TPL_OUT_CFG_ARM, 1), (.TPL_OUT_STATUS_MISSED, 0)]) [(.TPL_OUT_CFG_ARM, u), (.TPL_OUT_STATUS_MISSED, u), (.TPL_OUT_STATUS_ACTIVE, u)] :=
    (State.SameFlds.refl s _).setFlds u 0 _ (by simp)
  refine ⟨_, (exec_outArm hg).trans (by rw [he]), ?_, congrArg OutSt.next (State.outU_outSet ..), ?_, ?_, State.SameFlds.settle_of (hsame.outSet (by simp) _) o rfl (by simp),
    State.SameMem.settle (State.sameMem_of rfl rfl rfl)⟩
  · unfold State.on; rw [State.fld_outSet _ _ _ (by decide) (by decide), hset (v := 1) (by simp)]; rfl
  · rw [State.fld_outSet _ _ _ (by decide) (by decide), hset (v := 0) (by simp)]; rfl
  · rw [State.fld_outSet _ _ _ (by decide) (by decide)]; exact s.fld_setFlds_other _ _ _ _ _ _ (by decide)

/-- WIDTH is the one field of a unit's register that waits (R449). -/

theorem State.outDisarm_eq (s : State) (u : Nat) :
    s.outDisarm u = ((s.setFld .TPL_OUT_CFG_ARM u 0 0).takeB ⟨.TPL_OUT_CFG, u, 0⟩ .TPL_OUT_CFG_WIDTH).outSet u { s.outU u with next := none } := rfl

theorem outDisarm_stops {s : State} (o : s.Overlock) {r : Req} {u : Fin 36} (hg : s.Grants r true .TPL_OUT_CFG u 0) :
    ∃ t, exec (.outDisarm r u) s = .next t ∧ t.on .TPL_OUT_CFG_ARM u = false ∧ (t.outU u).next = none ∧ (t.outU u).level = (s.outU u).level ∧ (t.outU u).pulseEnd = (s.outU u).pulseEnd ∧
      (∀ w < 2 ^ 32, s.pendingB ⟨.TPL_OUT_CFG, u, 0⟩ .TPL_OUT_CFG_WIDTH = some w → t.fld .TPL_OUT_CFG_WIDTH u = w) ∧
      (s.pendingB ⟨.TPL_OUT_CFG, u, 0⟩ .TPL_OUT_CFG_WIDTH = none → t.fld .TPL_OUT_CFG_WIDTH u = s.fld .TPL_OUT_CFG_WIDTH u) ∧
      s.SameFlds t [(.TPL_OUT_CFG_ARM, u), (.TPL_OUT_CFG_WIDTH, u), (.TPL_OUT_STATUS_ACTIVE, u)] ∧ s.SameMem t := by
  have hunit : (s.outDisarm u).settle.outU u = { s.outU u with next := none } := State.outU_outSet ..
  have hwidth : (∀ w, s.pendingB ⟨.TPL_OUT_CFG, u, 0⟩ .TPL_OUT_CFG_WIDTH = some w → w < 2 ^ 32) → (s.outDisarm u).settle.fld .TPL_OUT_CFG_WIDTH u =
      (s.pendingB ⟨.TPL_OUT_CFG, u, 0⟩ .TPL_OUT_CFG_WIDTH).getD (s.fld .TPL_OUT_CFG_WIDTH u) := by
    intro hw
    rw [State.outDisarm_eq, State.fld_outSet _ _ _ (by decide) (by decide)]
    refine (State.fld_takeB (s.setFld .TPL_OUT_CFG_ARM u 0 0) ⟨.TPL_OUT_CFG, u, 0⟩ _ hw).trans ?_
    rw [s.fld_setFld_other (by decide)]; rfl
  have harm : ((s.setFld .TPL_OUT_CFG_ARM u 0 0).takeB ⟨.TPL_OUT_CFG, u, 0⟩ .TPL_OUT_CFG_WIDTH).fld .TPL_OUT_CFG_ARM u = 0 :=
    ((State.SameFlds.refl _ [(.TPL_OUT_CFG_WIDTH, u.val)]).takeB (x := ⟨.TPL_OUT_CFG, u, 0⟩) (.head _) _ u 0 (by simp) (Fl.not_shared (by decide))).trans (s.fld_setFld_same .TPL_OUT_CFG_ARM u 0 0)
  have hsame : s.SameFlds ((s.setFld .TPL_OUT_CFG_ARM u 0 0).takeB ⟨.TPL_OUT_CFG, u, 0⟩ .TPL_OUT_CFG_WIDTH) [(.TPL_OUT_CFG_ARM, u), (.TPL_OUT_CFG_WIDTH, u), (.TPL_OUT_STATUS_ACTIVE, u)] :=
    State.SameFlds.takeB ((State.SameFlds.refl s _).setFld (.head _) 0 0) (by simp)
  refine ⟨_, exec_outDisarm hg, ?_, by rw [hunit], by rw [hunit], by rw [hunit], fun w hw hp => ?_, fun hp => ?_,
    State.SameFlds.settle_of (hsame.outSet (by simp) _) o ?_ (by simp), State.SameMem.settle (State.sameMem_of ?_ ?_ ?_)⟩
  · unfold State.on; rw [State.outDisarm_eq, State.fld_outSet _ _ _ (by decide) (by decide), harm]; rfl
  · rw [hwidth fun v hv => by rw [hp] at hv; cases hv; exact hw, hp]; rfl
  · rw [hwidth fun v hv => by simp [hp] at hv, hp]; rfl
  · exact State.takeB_dev ..
  · exact State.takeB_localMem ..
  · exact State.takeB_dram ..
  · exact State.takeB_nvm ..

theorem outModeOff_unarmed {s : State} (o : s.Overlock) {r : Req} {u : Fin 36} (hg : s.Grants r true .TPL_OUT_CFG u 0) (ha : s.on .TPL_OUT_CFG_ARM u = false) :
    ∃ t, exec (.outModeOff r u) s = .next t ∧ t.fld .TPL_OUT_CFG_MODE u = 0 ∧ s.SameFlds t [(.TPL_OUT_CFG_MODE, u), (.TPL_OUT_STATUS_ACTIVE, u)] ∧ s.SameMem t := by
  by_cases hm : s.fld .TPL_OUT_CFG_MODE u % 3 = 0
  · have he : s.outModeOff u = s.setFld .TPL_OUT_CFG_MODE u 0 0 := if_pos hm
    exact ⟨_, (exec_outModeOff hg).trans (by rw [he]), (State.fld_settle_of _ (by decide) u 0).trans (s.fld_setFld_same .TPL_OUT_CFG_MODE u 0 0),
      State.SameFlds.settle_of ((State.SameFlds.refl s _).setFld (.head _) 0 0) o rfl (by simp), State.SameMem.settle (State.sameMem_of rfl rfl rfl)⟩
  · have he : s.outModeOff u = (s.holdPins.setFld .TPL_OUT_CFG_MODE u 0 0).outSet u {} := (if_neg hm).trans (if_neg (by simp [ha]))
    have hsame : s.SameFlds (s.holdPins.setFld .TPL_OUT_CFG_MODE u 0 0) [(.TPL_OUT_CFG_MODE, u), (.TPL_OUT_STATUS_ACTIVE, u)] :=
      State.SameFlds.setFld (State.SameFlds.regs (v := s.holdPins) (.refl s _) rfl) (.head _) 0 0
    exact ⟨_, (exec_outModeOff hg).trans (by rw [he]), (State.fld_outSet _ _ _ (by decide) (by decide) u).trans (s.holdPins.fld_setFld_same .TPL_OUT_CFG_MODE u 0 0),
      State.SameFlds.settle_of (hsame.outSet (by simp) _) o rfl (by simp), State.SameMem.settle (State.sameMem_of rfl rfl rfl)⟩

theorem outModeOff_refused {s : State} (o : s.Overlock) {r : Req} {u : Fin 36} (hg : s.Grants r true .TPL_OUT_CFG u 0) (ha : s.on .TPL_OUT_CFG_ARM u = true) (hm : s.fld .TPL_OUT_CFG_MODE u % 3 ≠ 0) :
    ∃ t, exec (.outModeOff r u) s = .next t ∧ t.fld .TPL_OUT_CFG_MODE u = s.fld .TPL_OUT_CFG_MODE u ∧ t.fld .TPL_EVENT_CHANGE_REFUSED = 1 ∧
      s.SameFlds t [(.TPL_EVENT_CHANGE_REFUSED, 0)] ∧ s.SameMem t := by
  have he : s.outModeOff u = s.event .TPL_EVENT_CHANGE_REFUSED := (if_neg hm).trans (if_pos ha)
  have hsame : s.SameFlds (s.event .TPL_EVENT_CHANGE_REFUSED).settle [(.TPL_EVENT_CHANGE_REFUSED, 0)] :=
    State.SameFlds.settle_of ((State.SameFlds.refl s _).event (.inl (.head _))) o (s.event_dev ..) (by simp)
  refine ⟨_, (exec_outModeOff hg).trans (by rw [he]), hsame _ _ _ (by simp) (Fl.not_shared (by decide)), ?_, hsame, State.SameMem.settle (State.sameMem_of ?_ ?_ ?_)⟩
  · rw [State.fld_settle_of _ (by decide), State.fld_event_same _ _ _ (by decide) (by decide)]; rfl
  · exact s.event_localMem ..
  · exact s.event_dram ..
  · exact congrArg BootSt.nvm (s.event_boot ..)

/-- What an event leaves of a unit in pulse mode. -/
def State.pulsed (s : State) (u n : Nat) : OutSt :=
  { s.outU u with level := true, pulseEnd := some (outPlace n + s.fld .TPL_OUT_CFG_WIDTH u * nsT), issued := (s.outU u).issued + 1,
                  next := if s.outPeriod u = 0 ∨ (s.fld .TPL_OUT_CFG_COUNT u ≠ 0 ∧ s.fld .TPL_OUT_CFG_COUNT u ≤ (s.outU u).issued + 1) then none else s.outFirst u (n + 1) }

theorem State.outEvent_of {s : State} {u n : Nat} (hn : (s.outU u).next = some n) (hdue : outPlace n ≤ s.outNow u) (hm : s.fld .TPL_OUT_CFG_MODE u = 1) :
    s.outEvent u = (s.takeB ⟨.TPL_OUT_CFG, u, 0⟩ .TPL_OUT_CFG_WIDTH).outSet u ((s.takeB ⟨.TPL_OUT_CFG, u, 0⟩ .TPL_OUT_CFG_WIDTH).pulsed u n) := by
  have hmode : (s.takeB ⟨.TPL_OUT_CFG, u, 0⟩ .TPL_OUT_CFG_WIDTH).fld .TPL_OUT_CFG_MODE u = 1 :=
    ((State.SameFlds.refl s [(.TPL_OUT_CFG_WIDTH, u)]).takeB (x := ⟨.TPL_OUT_CFG, u, 0⟩) (.head _) _ u 0 (by simp) (Fl.not_shared (by decide))).trans hm
  have hunit : (s.takeB ⟨.TPL_OUT_CFG, u, 0⟩ .TPL_OUT_CFG_WIDTH).outU u = s.outU u := State.outU_of_time (s.takeB_time ..) u
  unfold State.outEvent State.pulsed
  simp only [hn, if_neg (Nat.not_lt.mpr hdue), hmode, hunit]
  rfl

theorem outEvent_pulse {s : State} (o : s.Overlock) {u : Fin 36} {n : Nat} (hd : s.dev ≠ .off) (hn : (s.outU u).next = some n) (hdue : outPlace n ≤ s.outNow u) (hm : s.fld .TPL_OUT_CFG_MODE u = 1)
    (hw : ∀ w, s.pendingB ⟨.TPL_OUT_CFG, u, 0⟩ .TPL_OUT_CFG_WIDTH = some w → w < 2 ^ 32) :
    ∃ t, exec (.outEvent u) s = .next t ∧ (t.outU u).level = true ∧
      (t.outU u).pulseEnd = some (outPlace n + (s.pendingB ⟨.TPL_OUT_CFG, u, 0⟩ .TPL_OUT_CFG_WIDTH).getD (s.fld .TPL_OUT_CFG_WIDTH u) * nsT) ∧ (t.outU u).issued = (s.outU u).issued + 1 ∧
      (s.outPeriod u = 0 → (t.outU u).next = none) ∧ s.SameFlds t [(.TPL_OUT_CFG_WIDTH, u), (.TPL_OUT_STATUS_ACTIVE, u)] ∧ s.SameMem t := by
  have hunit : (s.outEvent u).settle.outU u = (s.takeB ⟨.TPL_OUT_CFG, u, 0⟩ .TPL_OUT_CFG_WIDTH).pulsed u n := by rw [State.outEvent_of hn hdue hm]; exact State.outU_outSet ..
  have hsame : s.SameFlds (s.takeB ⟨.TPL_OUT_CFG, u, 0⟩ .TPL_OUT_CFG_WIDTH) [(.TPL_OUT_CFG_WIDTH, u), (.TPL_OUT_STATUS_ACTIVE, u)] := (State.SameFlds.refl s _).takeB (.head _)
  have hother : ∀ f : Fl, f ≠ .TPL_OUT_CFG_WIDTH → f ≠ .TPL_OUT_STATUS_ACTIVE → ¬f.shared → (s.takeB ⟨.TPL_OUT_CFG, u, 0⟩ .TPL_OUT_CFG_WIDTH).fld f u = s.fld f u :=
    fun f h1 h2 h3 => hsame f u 0 (by simp [h1, h2]) h3
  refine ⟨_, exec_outEvent hd, by rw [hunit]; rfl, ?_, ?_, fun hp => ?_, State.SameFlds.settle_of ?_ o ?_ (by simp), State.SameMem.settle (State.sameMem_of ?_ ?_ ?_)⟩
  · rw [hunit, ← s.fld_takeB ⟨.TPL_OUT_CFG, u, 0⟩ _ hw]; rfl
  · rw [hunit]; exact congrArg (· + 1) (congrArg OutSt.issued (State.outU_of_time (s.takeB_time ..) u))
  · have hp' : (s.takeB ⟨.TPL_OUT_CFG, u, 0⟩ .TPL_OUT_CFG_WIDTH).outPeriod u = 0 := by
      unfold State.outPeriod
      rw [hother _ (by decide) (by decide) (Fl.not_shared (by decide)), hother _ (by decide) (by decide) (Fl.not_shared (by decide))]; exact hp
    rw [hunit]; exact if_pos (.inl hp')
  · rw [State.outEvent_of hn hdue hm]; exact hsame.outSet (by simp) _
  · rw [State.outEvent_of hn hdue hm]; exact s.takeB_dev ..
  · rw [State.outEvent_of hn hdue hm]; exact s.takeB_localMem ..
  · rw [State.outEvent_of hn hdue hm]; exact s.takeB_dram ..
  · rw [State.outEvent_of hn hdue hm]; exact s.takeB_nvm ..

theorem State.outPulseEnd_of {s : State} {u e : Nat} (hp : (s.outU u).pulseEnd = some e) (he : e ≤ s.outNow u) : s.outPulseEnd u = s.outSet u { s.outU u with level := false, pulseEnd := none } := by
  unfold State.outPulseEnd; rw [hp]; exact if_neg (Nat.not_lt.mpr he)

theorem outPulseEnd_lowers {s : State} (o : s.Overlock) {u : Fin 36} {e : Nat} (hd : s.dev ≠ .off) (hp : (s.outU u).pulseEnd = some e) (he : e ≤ s.outNow u) :
    ∃ t, exec (.outPulseEnd u) s = .next t ∧ (t.outU u).level = false ∧ (t.outU u).pulseEnd = none ∧ (t.outU u).next = (s.outU u).next ∧
      s.SameFlds t [(.TPL_OUT_STATUS_ACTIVE, u)] ∧ s.SameMem t := by
  have hunit := s.outU_outSet u { s.outU u with level := false, pulseEnd := none }
  exact ⟨_, (exec_outPulseEnd hd).trans (by rw [State.outPulseEnd_of hp he]), by rw [hunit], by rw [hunit], by rw [hunit],
    State.SameFlds.settle_of ((State.SameFlds.refl s _).outSet (.head _) _) o rfl (by simp), State.SameMem.settle (State.sameMem_of rfl rfl rfl)⟩

/-! ## Capture units (R72, R73) -/

theorem exec_captureEdge {s : State} (hd : s.dev ≠ .off) (u : Fin 34) (rise : Bool) (age : Nat) : exec (.captureEdge u rise age) s = .next (s.capture u rise age).settle := by
  rw [← State.powered_of hd fun s => s.capture u rise age]; rfl
theorem exec_capNsRead {s : State} {r : Req} {u : Fin 34} (hg : s.Grants r false .TPL_CAP_NS u 0) :
    exec (.capNsRead r u) s = .next ((s.emit (.reply r.num (s.capNs u))).capPop u).settle := by
  rw [← State.reading_of hg fun s => (s.emit (.reply r.num (s.capNs u))).capPop u]; rfl

theorem State.capQ_of_time {s t : State} (h : t.time = s.time) (u : Nat) : t.capQ u = s.capQ u := by unfold State.capQ; rw [h]

/-- An edge of a unit that runs and takes both edges, stable for long enough, with no record before it, reaches the queue. -/
def State.TakesEdge (s : State) (u age : Nat) : Prop :=
  s.on .TPL_CAP_CFG_EN u = true ∧ s.bankOn (bankOf u) = true ∧ s.fld .TPL_CAP_CFG_EDGE u = 3 ∧ s.fld .TPL_CAP_CFG_FILTER u ≤ age ∧ s.time.capLast.get 0 u = 0

/-- A record put behind those of a unit. -/
def State.captured (s : State) (u age : Nat) (rise : Bool) : State :=
  { s with time := { s.time with cap := s.time.cap.set [] u (s.capQ u ++ [⟨s.timeAgo (s.fld .TPL_CAP_CFG_DOM u) age, rise⟩]), capLast := s.time.capLast.set 0 u (s.lNow - age * nsT) } }

theorem State.capture_room {s : State} {u age : Nat} (h : s.TakesEdge u age) (rise : Bool) (hroom : (s.capQ u).length < 8) (hu : u < 32) : s.capture u rise age = s.captured u age rise := by
  obtain ⟨hen, hbank, hedge, hage, hlast⟩ := h
  unfold State.capture State.capEdge
  simp only [hen, hbank, hedge, hlast, decide_eq_false (Nat.not_lt.mpr hage), Bool.not_true, Bool.or_self, Bool.false_eq_true, if_false, ne_eq, not_true, false_and]
  rw [if_neg (Nat.not_le.mpr hroom), if_neg fun h => absurd h.1 (Nat.not_le.mpr hu)]
  rfl
theorem State.capture_full {s : State} {u age : Nat} (h : s.TakesEdge u age) (rise : Bool) (hfull : 8 ≤ (s.capQ u).length) :
    s.capture u rise age = (s.event .TPL_CAP_CFG_OVF u).bump (devWord (56 + u)) := by
  obtain ⟨hen, hbank, hedge, hage, hlast⟩ := h
  unfold State.capture State.capEdge
  simp only [hen, hbank, hedge, hlast, decide_eq_false (Nat.not_lt.mpr hage), Bool.not_true, Bool.or_self, Bool.false_eq_true, if_false, ne_eq, not_true, false_and]
  exact if_pos hfull

theorem State.capQ_captured (s : State) (u age : Nat) (rise : Bool) : (s.captured u age rise).capQ u = s.capQ u ++ [⟨s.timeAgo (s.fld .TPL_CAP_CFG_DOM u) age, rise⟩] := Tbl.get_set_same ..
theorem State.capQ_captured_ne (s : State) {u v : Nat} (h : v ≠ u) (age : Nat) (rise : Bool) : (s.captured u age rise).capQ v = s.capQ v := Tbl.get_set_ne _ _ h _

/-- A domain that has made no step: only what it gained is taken off. -/
theorem State.timeAgo_of_unstepped {s : State} {d : Nat} (h : (s.dom d).stepLog = []) (age : Nat) : s.timeAgo d age = ((s.voted d : Int) - s.inc d * age).toNat := by
  have hs : s.stepsOf d - s.stepsAtL d (s.lNow - age * nsT) = 0 := by
    unfold State.stepsOf State.stepsAtL
    split
    · rfl
    · rw [h]; exact Int.sub_self _
  unfold State.timeAgo
  rw [hs, Int.sub_zero]

/-- A domain whose one step came after the edge: the step is undone. -/
theorem State.timeAgo_of_stepped {s : State} {d l new age : Nat} {old : Int} (hd : d < 8) (h : (s.dom d).stepLog = [(l, new, old)]) (hl : s.lNow - age * nsT < l) :
    s.timeAgo d age = ((s.voted d : Int) - s.inc d * age - ((s.dom d).steps - old)).toNat := by
  have hs : s.stepsAtL d (s.lNow - age * nsT) = old := by
    unfold State.stepsAtL
    rw [if_neg (by omega), h]; exact if_neg (Nat.not_le.mpr hl)
  have hn : s.stepsOf d = (s.dom d).steps := if_neg (by omega)
  unfold State.timeAgo
  rw [hs, hn]

theorem captureEdge_recorded {s : State} (o : s.Overlock) (hd : s.dev ≠ .off) {u : Fin 34} {age : Nat} (h : s.TakesEdge u age) (hroom : (s.capQ u).length < 8) (hu : u.val < 32) (rise : Bool) :
    ∃ t, exec (.captureEdge u rise age) s = .next t ∧ t.capQ u = s.capQ u ++ [⟨s.timeAgo (s.fld .TPL_CAP_CFG_DOM u) age, rise⟩] ∧ (∀ v, v ≠ u.val → t.capQ v = s.capQ v) ∧
      s.SameFlds t [] ∧ s.SameMem t :=
  ⟨_, (exec_captureEdge hd u rise age).trans (by rw [State.capture_room h rise hroom hu]), (State.capQ_of_time (State.settle_time _) _).trans (s.capQ_captured ..),
    fun _ hv => (State.capQ_of_time (State.settle_time _) _).trans (s.capQ_captured_ne hv ..), State.SameFlds.settle_of (State.SameFlds.regs (.refl s _) rfl) o rfl (by simp),
    State.SameMem.settle (State.sameMem_of rfl rfl rfl)⟩

theorem captureEdge_lost {s : State} (o : s.Overlock) (hd : s.dev ≠ .off) {u : Fin 34} {age : Nat} (h : s.TakesEdge u age) (hfull : 8 ≤ (s.capQ u).length) (rise : Bool) :
    ∃ t, exec (.captureEdge u rise age) s = .next t ∧ t.capQ u = s.capQ u ∧ t.fld .TPL_CAP_CFG_OVF u = 1 ∧
      t.ctr (devWord (56 + u)) = ctrAdd (s.ctr (devWord (56 + u))) 1 ∧ s.SameFlds t [(.TPL_CAP_CFG_OVF, u)] ∧ s.SameMem t := by
  refine ⟨_, (exec_captureEdge hd u rise age).trans (by rw [State.capture_full h rise hfull]), ?_, ?_, ?_, State.SameFlds.settle_of ?_ o ?_ (by simp), State.SameMem.settle (State.sameMem_of ?_ ?_ ?_)⟩
  · exact State.capQ_of_time (by simp) _
  · rw [State.fld_settle_of _ (by decide), State.fld_bump _ _ _ _ _ (by decide) (by decide) (by decide), State.fld_event_same _ _ _ (by decide) (by decide)]; rfl
  · unfold State.ctr; rw [State.settle_tape]; exact (State.ctr_bump_same ..).trans (by unfold State.ctr; rw [State.event_tape])
  · exact State.SameFlds.bump ((State.SameFlds.refl s _).event (.inl (.head _))) _ _
  · simp
  · simp
  · simp
  · simp

theorem capNsRead_pops {s : State} (o : s.Overlock) {r : Req} {u : Fin 34} {c : CapRec} {l : List CapRec} (hg : s.Grants r false .TPL_CAP_NS u 0) (hq : s.capQ u = c :: l) :
    ∃ t, exec (.capNsRead r u) s = .next t ∧ t.out = s.out ++ [.reply r.num (nsOf c.time * 65536 + fracOf c.time)] ∧ t.capQ u = l ∧ (∀ v, v ≠ u.val → t.capQ v = s.capQ v) ∧
      s.SameFlds t [] ∧ s.SameMem t := by
  have hns : s.capNs u = nsOf c.time * 65536 + fracOf c.time := by unfold State.capNs; rw [hq]
  have hpop : ((s.emit (.reply r.num (s.capNs u))).capPop u).capQ u = l := (Tbl.get_set_same ..).trans (congrArg List.tail hq)
  exact ⟨_, exec_capNsRead hg, (State.settle_out _).trans (by rw [← hns]; rfl), (State.capQ_of_time (State.settle_time _) _).trans hpop,
    fun _ hv => (State.capQ_of_time (State.settle_time _) _).trans (Tbl.get_set_ne _ _ hv _), State.SameFlds.settle_of (State.SameFlds.regs (.refl s _) rfl) o rfl (by simp),
    State.SameMem.settle (State.sameMem_of rfl rfl rfl)⟩

/-- Settles O12, unit by unit: what a snapshot, an output unit and a capture unit do at their commands and events, and the fields that each writes. -/
theorem outputsSnapshotsAndCaptures : Obligations.OutputsSnapshotsAndCaptures := by
  unfold Obligations.OutputsSnapshotsAndCaptures
  refine ⟨fun s u o => ⟨fun r hg => snapshotTrigger_copies o hg, fun l hd h => snapshotComplete_shows hd h, fun r hg ha hn => outArm_waits o hg ha hn, fun r hg _ => outDisarm_stops o hg,
    fun r hg ha => outModeOff_unarmed o hg ha, fun r hg ha hm => outModeOff_refused o hg ha hm, fun n hd hn hdue hm hw => outEvent_pulse o hd hn hdue hm hw,
    fun e hd hp he => outPulseEnd_lowers o hd hp he⟩, fun s u o => ⟨?_, fun age hd h1 h2 h3 h4 h5 hfull rise => captureEdge_lost o hd ⟨h1, h2, h3, h4, h5⟩ hfull rise,
    fun r c l hg hq => capNsRead_pops o hg hq⟩⟩
  intro age hd h1 h2 h3 h4 h5 hroom hu rise
  obtain ⟨t, he, hq, hother, hsame, hmem⟩ := captureEdge_recorded o hd ⟨h1, h2, h3, h4, h5⟩ hroom hu rise
  exact ⟨t, he, hq, fun h => State.timeAgo_of_unstepped h age, fun l new old hx h hl => State.timeAgo_of_stepped hx h hl, hother, hsame, hmem⟩

end Sys2Proof.Machine
end

section
/-!
PROOFS. What a frame of a service leaves alone on its way into a queue (R180, R185, R186, R189): the fields of the registers, the parts of the state that are not the store and forward plane's, and the egress timestamps.
-/
namespace Sys2Proof.Machine

/-! ## Admission -/

/-- A state without the parts that the admission of a frame writes. -/
def State.behind (s : State) : State := { s with regs := [], bolt := [], port := [], queue := [], intc := {}, tape := {}, free := 0 }

/-- From a state to one that differs by the admission or the refusal of a frame: no register field moves, nothing behind the queues, and no egress timestamp. -/
structure State.Admits (s t : State) : Prop where
  flds : s.SameFlds t []
  behind : t.behind = s.behind
  tsq : ∀ p, (t.pt p).tsq = (s.pt p).tsq

theorem State.Admits.refl (s : State) : s.Admits s := ⟨.refl s _, rfl, fun _ => rfl⟩
theorem State.Admits.trans {s t u : State} (h : s.Admits t) (h' : t.Admits u) : s.Admits u :=
  ⟨fun f i j a b => (h'.flds f i j a b).trans (h.flds f i j a b), h'.behind.trans h.behind, fun p => (h'.tsq p).trans (h.tsq p)⟩
theorem State.Admits.foldl {α : Type} {f : State → α → State} (h : ∀ a x, State.Admits a (f a x)) (l : List α) (s : State) : s.Admits (l.foldl f s) := by
  induction l generalizing s with
  | nil => exact .refl s
  | cons x l ih => exact (h s x).trans (ih _)

theorem State.Admits.keeps {β : Type} {s t : State} (h : s.Admits t) (g : State → β) (hg : ∀ a, g (State.behind a) = g a) : g t = g s := by rw [← hg t, h.behind, hg]
theorem State.Admits.time {s t : State} (h : s.Admits t) : t.time = s.time := h.keeps State.time fun _ => rfl
theorem State.Admits.ptp {s t : State} (h : s.Admits t) : t.ptp = s.ptp := h.keeps State.ptp fun _ => rfl
theorem State.Admits.ttdp {s t : State} (h : s.Admits t) : t.ttdp = s.ttdp := h.keeps State.ttdp fun _ => rfl
theorem State.Admits.boot {s t : State} (h : s.Admits t) : t.boot = s.boot := h.keeps State.boot fun _ => rfl
theorem State.Admits.dev {s t : State} (h : s.Admits t) : t.dev = s.dev := h.keeps State.dev fun _ => rfl
theorem State.Admits.out {s t : State} (h : s.Admits t) : t.out = s.out := h.keeps State.out fun _ => rfl
theorem State.Admits.mem {s t : State} (h : s.Admits t) : s.SameMem t :=
  State.sameMem_of (h.keeps State.localMem fun _ => rfl) (h.keeps State.dram fun _ => rfl) (congrArg BootSt.nvm h.boot)

theorem State.Admits.of_regs {s t : State} (hr : t.regs = s.regs) (hb : t.behind = s.behind) (hp : t.port = s.port) : s.Admits t :=
  ⟨State.SameFlds.regs (.refl s _) hr, hb, fun p => by unfold State.pt; rw [hp]⟩

section
variable (s : State)

theorem State.behind_setFld (f : Fl) (i j v : Nat) : (s.setFld f i j v).behind = s.behind := rfl
theorem State.behind_pendSet (n : Nat) : (s.pendSet n).behind = s.behind := by
  unfold State.pendSet
  dsimp only
  split
  · rfl
  · rw [State.behind_setFld, State.behind_setFld]
theorem State.behind_event (f : Fl) (i : Nat) : (s.event f i).behind = s.behind := by
  unfold State.event State.assertSrc
  dsimp only
  repeat' split
  · rw [State.behind_pendSet, State.behind_setFld]
  · exact s.behind_setFld ..
  · exact s.behind_setFld ..
theorem State.behind_bump (a n : Nat) : (s.bump a n).behind = s.behind := by
  unfold State.bump
  dsimp only
  split
  · exact State.behind_event _ _ 0
  · rfl
theorem State.Admits.bump (a n : Nat) : s.Admits (s.bump a n) := ⟨(State.SameFlds.refl s _).bump a n, s.behind_bump a n, fun p => by unfold State.pt; rw [State.bump_port]⟩
theorem State.Admits.pecEvent (p c : Nat) (t : Option Nat) (q : Nat) : s.Admits (s.pecEvent p c t q) :=
  ⟨(State.SameFlds.refl s _).pecEvent p c t q, s.pecEvent_keeps State.behind (fun a x => a.behind_bump x 1) p c t q, fun p => by unfold State.pt; rw [State.pecEvent_port]⟩
theorem State.Admits.fate (fr : FrameRec) (k step reason scope dest queue flags : Nat) (t : Option Nat) : s.Admits (s.fate fr k step reason scope dest queue flags t) := by
  unfold State.fate
  split
  · exact .of_regs rfl rfl rfl
  · exact .refl s
theorem State.Admits.updBo (b : Nat) (f : BoltSt → BoltSt) : s.Admits (s.updBo b f) := .of_regs rfl rfl rfl
theorem State.Admits.updQu (q : Nat) (f : QSt → QSt) : s.Admits (s.updQu q f) := .of_regs rfl rfl rfl
theorem State.Admits.updPt (p : Nat) {f : PortSt → PortSt} (h : ∀ x, (f x).tsq = x.tsq) : s.Admits (s.updPt p f) := by
  refine ⟨State.SameFlds.regs (.refl s _) rfl, rfl, fun q => ?_⟩
  by_cases e : q = p
  · subst e; exact (congrArg PortSt.tsq (Tbl.get_set_same ({} : PortSt) s.port q _)).trans (h _)
  · exact congrArg PortSt.tsq (Tbl.get_set_ne ({} : PortSt) s.port e _)

theorem State.Admits.acctAdd (q : Nat) (a : Acct) (c : Int) : s.Admits (s.acctAdd q a c) := by
  unfold State.acctAdd
  cases a with
  | ctrl => exact .updBo s _ _
  | reserve => exact .updPt s _ (by intro x; rfl)
  | shared => exact (State.Admits.updBo s _ _).trans (.updQu _ _ _)
theorem State.Admits.fcUpdate : s.Admits s.fcUpdate := by
  refine State.Admits.foldl (fun a p => ?_) _ s
  unfold State.fcPort State.sendXoff State.sendXon State.queueCtrl
  dsimp only
  split
  · exact .refl a
  split
  · exact (State.Admits.updPt a p (by intro x; rfl)).trans (.updPt _ p (by intro x; rfl))
  split
  · exact (State.Admits.updPt a p (by intro x; rfl)).trans (.updPt _ p (by intro x; rfl))
  · exact .refl a
theorem State.Admits.pickCells (b k : Nat) : s.Admits (s.pickCells b k).2 := by
  induction k generalizing s with
  | zero => exact .refl s
  | succ k ih =>
    unfold State.pickCells State.draw
    exact ((State.Admits.of_regs (s := s) (t := { s with free := s.free + 1 }) rfl rfl rfl).trans (.updBo _ _ _)).trans (ih _)
theorem State.Admits.fillCells (b : Nat) (l : List Nat) (bs : List Byte) : s.Admits (s.fillCells b l bs) := by
  induction l generalizing s bs with
  | nil => exact .refl s
  | cons n l ih => exact (State.Admits.updBo s _ _).trans (ih _ _)

end

/-- The cells of a frame taken and written. -/
def State.celled (s : State) (q : Nat) (fr : FrameRec) : State := (s.pickCells (boltOf (qPort q)) fr.cells).2.fillCells (boltOf (qPort q)) (s.pickCells (boltOf (qPort q)) fr.cells).1 fr.stored

/-- A frame's record as its queue holds it. -/
def State.placed (s : State) (q : Nat) (fr : FrameRec) (a : Acct) : FrameRec :=
  { fr with q := q, acct := a, admL := (s.celled q fr).lNow, adm := ((s.celled q fr).qu q).admitted, cellNos := (s.pickCells (boltOf (qPort q)) fr.cells).1 }

/-- A queue that a frame has joined; `v` is the virtual time of its class. -/
def QSt.joined (x : QSt) (fr : FrameRec) (v : Nat) : QSt :=
  { x with frames := x.frames ++ [fr], cells := x.cells + fr.cells, nframes := x.nframes + 1, admitted := x.admitted + 1, maxCells := max x.maxCells (x.cells + fr.cells),
           tag := if x.nframes = 0 then v else x.tag }

theorem State.enqueue_eq (s : State) (q : Nat) (fr : FrameRec) (a : Acct) : s.enqueue q fr a =
    (((((s.celled q fr).updQu q fun x => x.joined (s.placed q fr a) (((s.celled q fr).pt (qPort q)).vt.get 0 (qTc q))).acctAdd q a (s.placed q fr a).cells).bump (queueWord q 0)).pecEvent
      (qPort q) 1 (some (qTc q)) (qLocal q)).fcUpdate := rfl

theorem State.Admits.celled (s : State) (q : Nat) (fr : FrameRec) : s.Admits (s.celled q fr) := (State.Admits.pickCells ..).trans (.fillCells ..)
theorem State.Admits.enqueue (s : State) (q : Nat) (fr : FrameRec) (a : Acct) : s.Admits (s.enqueue q fr a) := by
  rw [State.enqueue_eq]
  exact (((((State.Admits.celled s q fr).trans (.updQu ..)).trans (.acctAdd ..)).trans (.bump ..)).trans (.pecEvent ..)).trans (.fcUpdate _)

/-- A refusal for any other reason than its drop precedence sets no event. -/
theorem State.Admits.refuse (s : State) (q : Nat) (fr : FrameRec) {a : Adm} (h : a ≠ .precedence) : s.Admits (s.refuse q fr a) := by
  unfold State.refuse
  simp only [h, if_false]
  exact (((State.Admits.bump ..).trans (.bump ..)).trans (.pecEvent ..)).trans (.fate ..)

/-- A frame of one cell and drop precedence 0 is never refused for its precedence: where the pool has no cell left, its threshold is 0 (R186). -/
theorem State.admitTest_ne_precedence (s : State) (q : Nat) (service : Bool) : (s.admitTest q 1 0 service).1 ≠ .precedence := by
  unfold State.admitTest
  dsimp only
  repeat' split
  all_goals try simp
  rename_i hthr hprec
  have hsz : (s.bo (boltOf (qPort q))).sharedUsed + 1 > s.sharedSize (boltOf (qPort q)) := hprec
  have hz : s.sharedSize (boltOf (qPort q)) - (s.bo (boltOf (qPort q))).sharedUsed = 0 := by omega
  rw [hz] at hthr
  simp at hthr

theorem State.Admits.admitCopy (s : State) (q : Nat) {fr : FrameRec} (hc : fr.cells = 1) (hdp : fr.dp = 0) : s.Admits (s.admitCopy q fr).2 := by
  have hp := s.admitTest_ne_precedence q fr.service
  unfold State.admitCopy
  rw [hc, hdp]
  generalize s.admitTest q 1 0 fr.service = x at hp
  dsimp only
  split
  · dsimp only
    exact .enqueue s q fr x.2
  · dsimp only
    exact .refuse s q fr hp

/-! ## A service's frame -/

theorem padTo_length (n : Nat) (l : List Byte) : (padTo n l).length = max n l.length := by unfold padTo; simp; omega
theorem beBytes_length (n v : Nat) : (beBytes n v).length = n := by unfold beBytes; simp
theorem openBytes_length (key o n : Nat) : (openBytes key o n).length = n := by unfold openBytes; simp

/-- A frame of up to 252 bytes before its FCS fills one cell (R182). -/
theorem cells_of_short {fr : FrameRec} {l : List Byte} (hd : fr.data = padTo 60 l) (h : l.length ≤ 252) : fr.cells = 1 := by
  unfold FrameRec.cells cellsOf FrameRec.len
  rw [hd, padTo_length]
  omega

theorem State.Admits.serviceFrame (s : State) (svc p : Nat) {data : List Byte} (h : data.length ≤ 252) (act : EgressAct) (dom : Nat) (edit : Edit) :
    s.Admits (s.serviceFrame svc p data act dom edit) := .admitCopy s _ (cells_of_short (l := data) rfl h) rfl

end Sys2Proof.Machine
end

section
/-!
PROOFS. PTP messages that the time service sends (R52, R77, R85): each is a line of the log and frames in queues, and of the PTP unit only the sequence number moves.
-/
namespace Sys2Proof.Machine

/-! ## The length of a message -/

theorem State.ptpBytes_length (s : State) (d p key seq : Nat) (m : PtpOut) : (s.ptpBytes d p key seq m).length = 34 + m.body.length := by
  unfold State.ptpBytes
  simp only [List.length_append, beBytes_length, openBytes_length]
theorem State.ptpFrame_length (s : State) (d p key tr kind : Nat) (msg : List Byte) : (s.ptpFrame d p key tr kind msg).length ≤ 62 + msg.length := by
  unfold State.ptpFrame
  dsimp only
  split <;> simp only [List.length_append, beBytes_length, openBytes_length] <;> omega

/-! ## What sending leaves alone -/

/-- A state without the parts that sending a PTP message writes. -/
def State.unsent (s : State) : State := { s.behind with out := [], ptp := [] }

/-- From a state to one in which a PTP unit has sent messages, whose lines are `l`, and has noted when. -/
structure State.Sent (d : Nat) (l : List Out) (s t : State) : Prop where
  flds : s.SameFlds t []
  out : t.out = s.out ++ l
  unsent : t.unsent = s.unsent
  tsq : ∀ p, (t.pt p).tsq = (s.pt p).tsq
  inst : ∃ n sl, t.inst d = { s.inst d with seqNo := n, sentL := sl }
  other : ∀ e, e ≠ d → t.inst e = s.inst e

theorem State.Sent.refl (d : Nat) (s : State) : State.Sent d [] s s := ⟨.refl s _, (List.append_nil _).symm, rfl, fun _ => rfl, ⟨_, _, rfl⟩, fun _ _ => rfl⟩
theorem State.Sent.trans {d : Nat} {l l' : List Out} {s t u : State} (h : State.Sent d l s t) (h' : State.Sent d l' t u) : State.Sent d (l ++ l') s u := by
  obtain ⟨n, sl, hn⟩ := h.inst
  obtain ⟨n', sl', hn'⟩ := h'.inst
  exact ⟨fun f i j a b => (h'.flds f i j a b).trans (h.flds f i j a b), by rw [h'.out, h.out, List.append_assoc], h'.unsent.trans h.unsent, fun p => (h'.tsq p).trans (h.tsq p),
    ⟨n', sl', by rw [hn', hn]⟩, fun e he => (h'.other e he).trans (h.other e he)⟩
theorem State.Admits.sent {s t : State} (h : s.Admits t) (d : Nat) : State.Sent d [] s t :=
  ⟨h.flds, by rw [h.out, List.append_nil], h.keeps State.unsent fun _ => rfl, h.tsq, ⟨_, _, by unfold State.inst; rw [h.ptp]⟩,
    fun _ _ => by unfold State.inst; rw [h.ptp]⟩

section
variable {d : Nat} {l : List Out} {s t : State} (h : State.Sent d l s t)
include h

theorem State.Sent.keeps {β : Type} (g : State → β) (hg : ∀ a, g (State.unsent a) = g a) : g t = g s := by rw [← hg t, h.unsent, hg]
theorem State.Sent.time : t.time = s.time := h.keeps State.time fun _ => rfl
theorem State.Sent.dev : t.dev = s.dev := h.keeps State.dev fun _ => rfl
theorem State.Sent.mem : s.SameMem t := State.sameMem_of (h.keeps State.localMem fun _ => rfl) (h.keeps State.dram fun _ => rfl) (h.keeps (fun a => a.boot.nvm) fun _ => rfl)
theorem State.Sent.fld {f : Fl} (hf : ¬f.shared) (i j : Nat) : t.fld f i j = s.fld f i j := h.flds f i j (by simp) hf
theorem State.Sent.mem_out {o : Out} (ho : o ∈ l) : o ∈ t.out := by rw [h.out]; exact List.mem_append_right _ ho
theorem State.Sent.actingGm : (t.inst d).actingGm = (s.inst d).actingGm := by obtain ⟨n, sl, hn⟩ := h.inst; rw [hn]

end

theorem State.inst_setInst (s : State) (d : Nat) (x : PtpSt) : (s.setInst d x).inst d = x := Tbl.get_set_same ..
theorem State.inst_setInst_ne (s : State) {d e : Nat} (h : e ≠ d) (x : PtpSt) : (s.setInst d x).inst e = s.inst e := Tbl.get_set_ne _ _ h _

/-- A message whose body holds up to 150 bytes is sent: its frames fill one cell each. -/
theorem State.Sent.ptpSend (s : State) (d kind v : Nat) {m : PtpOut} (hm : m.body.length ≤ 150) (p : Nat) : State.Sent d [.service d p kind v] s (s.ptpSend d kind v m p) := by
  have hline : State.Sent d [.service d p kind v] s (({ s with free := s.free + 1 }.emit (.service d p kind v)).setInst d { s.inst d with seqNo := ((s.inst d).seqNo + 1) % 65536 }) :=
    ⟨State.SameFlds.regs (.refl s _) rfl, rfl, rfl, fun _ => rfl, ⟨_, _, State.inst_setInst ..⟩, fun _ he => State.inst_setInst_ne _ he _⟩
  have hframes : ∀ (a : State) key msg (tr : List Nat), msg.length ≤ 184 → a.Admits (tr.foldl (fun b tr => b.serviceFrame 0 p (a.ptpFrame d p key tr kind msg) m.act d) a) := fun a key msg tr hlen =>
    State.Admits.foldl (fun b tr => .serviceFrame b 0 p ((a.ptpFrame_length d p key tr kind msg).trans (by omega)) m.act d {}) tr a
  exact hline.trans ((hframes _ (Config.freeNat s.free) _ _ (by rw [State.ptpBytes_length]; omega)).sent d)

/-- The same on each of some ports. -/
theorem State.Sent.ptpSendOn (s : State) (d kind v : Nat) {m : PtpOut} (hm : m.body.length ≤ 150) (ps : List Nat) :
    State.Sent d (ps.map fun p => .service d p kind v) s (s.ptpSendOn d kind v m ps) := by
  unfold State.ptpSendOn
  induction ps generalizing s with
  | nil => exact .refl d s
  | cons p ps ih => exact (State.Sent.ptpSend s d kind v hm p).trans (ih _)

theorem ptpStamp_length (v : Nat) : (ptpStamp v).length = 10 := by unfold ptpStamp; simp [beBytes_length]
theorem State.ownSync_short (s : State) (d : Nat) : (s.ownSync d).body.length ≤ 150 := by unfold State.ownSync; simp [beBytes_length]
theorem State.ownAnnounce_short (s : State) (d : Nat) : (s.ownAnnounce d).body.length ≤ 150 := by
  unfold State.ownAnnounce State.announceOut
  simp [beBytes_length]

/-! ## A PTP unit becomes grandmaster (R85) -/

theorem State.writeGm_true (s : State) (d : Nat) : s.writeGm d true = s.setFld .TPL_SYNC_CFG_GM d 0 1 := by
  unfold State.writeGm
  simp [b2n]

/-- GM written and the role taken, before its first messages. -/
def State.crowned (s : State) (d : Nat) : State :=
  (s.setFld .TPL_SYNC_CFG_GM d 0 1).setInst d { s.inst d with actingGm := true, declaring := false, best := none, returning := none }

/-- The first Announce and the first Sync of a grandmaster, on every master port. -/
def State.firstLines (s : State) (d : Nat) : List Out := (s.masters d).map (fun p => .service d p 2 (s.ownRank d)) ++ (s.masters d).map fun p => .service d p 0 (s.voted d)

theorem State.Sent.markSent (s : State) (d k : Nat) (ps : List Nat) : State.Sent d [] s (s.markSent d k ps) :=
  ⟨State.SameFlds.regs (.refl s _) rfl, (List.append_nil _).symm, rfl, fun _ => rfl, ⟨_, _, State.inst_setInst ..⟩, fun _ he => State.inst_setInst_ne _ he _⟩

/-- Acting as grandmaster begins with the first Announce and Sync. -/
theorem State.Sent.becomeGm (s : State) (d : Nat) : State.Sent d ((s.crowned d).firstLines d) (s.crowned d) (s.becomeGm d) := by
  have hfirst := (State.Sent.ptpSendOn (s.crowned d) d 2 ((s.crowned d).ownRank d) ((s.crowned d).ownAnnounce_short d) ((s.crowned d).masters d)).trans
    (State.Sent.ptpSendOn _ d 0 ((s.crowned d).voted d) ((s.crowned d).ownSync_short d) ((s.crowned d).masters d))
  have hall := (hfirst.trans (.markSent _ d 0 ((s.crowned d).masters d))).trans (.markSent _ d 1 ((s.crowned d).masters d))
  rw [List.append_nil, List.append_nil] at hall
  unfold State.becomeGm
  rw [State.writeGm_true]
  exact hall

theorem State.sameFlds_crowned (s : State) (d : Nat) : s.SameFlds (s.crowned d) [(.TPL_SYNC_CFG_GM, d)] :=
  State.SameFlds.regs (u := s.setFld .TPL_SYNC_CFG_GM d 0 1) ((State.SameFlds.refl s _).setFld (.head _) 0 1) rfl
theorem State.inst_crowned (s : State) (d : Nat) : (s.crowned d).inst d = { s.inst d with actingGm := true, declaring := false, best := none, returning := none } := State.inst_setInst ..

/-- What a PTP unit that has become grandmaster holds and leaves alone. -/
theorem State.becomeGm_spec (s : State) (d : Nat) : (s.becomeGm d).on .TPL_SYNC_CFG_GM d = true ∧ ((s.becomeGm d).inst d).actingGm = true ∧ (s.becomeGm d).time = s.time ∧
    (s.becomeGm d).dev = s.dev ∧ (s.becomeGm d).out = s.out ++ (s.crowned d).firstLines d ∧ s.SameFlds (s.becomeGm d) [(.TPL_SYNC_CFG_GM, d)] ∧ s.SameMem (s.becomeGm d) := by
  have h := State.Sent.becomeGm s d
  refine ⟨?_, ?_, h.time, h.dev, h.out, (s.sameFlds_crowned d).trans (h.flds.mono (by simp)), (State.sameMem_of rfl rfl rfl : s.SameMem (s.crowned d)).trans h.mem⟩
  · have hgm : (s.crowned d).fld .TPL_SYNC_CFG_GM d = 1 := s.fld_setFld_same .TPL_SYNC_CFG_GM d 0 1
    unfold State.on; rw [h.fld (Fl.not_shared (by decide)), hgm]; rfl
  · rw [h.actingGm, s.inst_crowned]

end Sys2Proof.Machine
end

section
/-!
PROOFS. Steps and loads of a domain (R56, R59, R85, R91, R454).
-/
namespace Sys2Proof.Machine

theorem State.noGroup_of_flds {s t : State} {l : List (Fl × Nat)} (h : s.SameFlds t l) (hl : ∀ g : Nat, (Fl.BOOT_BASTE_GROUP_STATE, g) ∉ l) (hs : s.NoGroup) : t.NoGroup := fun g => by
  rw [State.grpState, h _ g 0 (hl g) (Fl.not_shared (by decide))]; exact hs g

/-! ## The counters at a step that is noted -/

theorem State.cnt_noteStep (s : State) (d : Nat) (delta : Int) (x c : Nat) : (s.noteStep d delta).cnt x c = s.cnt x c := rfl
theorem State.noteStep_regs (s : State) (d : Nat) (delta : Int) : (s.noteStep d delta).regs = s.regs := rfl
theorem State.dom_noteStep (s : State) (d : Nat) (delta : Int) : ((s.noteStep d delta).dom d).step = (s.dom d).step ∧ ((s.noteStep d delta).dom d).load = (s.dom d).load := by
  unfold State.noteStep
  dsimp only
  rw [State.dom_setDom_same]
  exact ⟨rfl, rfl⟩
theorem State.stepCnts_regs (s : State) (d : Nat) (delta : Int) : (s.stepCnts d delta).regs = s.regs := rfl
theorem State.dom_stepCnts (s : State) (d : Nat) (delta : Int) (e : Nat) : (s.stepCnts d delta).dom e = s.dom e := rfl

/-! ## The step of a STEPPING domain (R56, R91) -/

/-- The fields of the entry to LOCKED. -/
def State.lockedAt (s : State) (d : Nat) (rate : Int) : State := (s.setFld .TPL_DOM_STATUS_STATE d 0 3).setRate d rate

/-- The pending step taken from a domain. -/
def State.stepTaken (s : State) (d : Nat) : State := s.setDom d { s.dom d with step := none, lastStep := s.lNow }

/-- The entry to LOCKED, before the counters move. -/
def State.toLocked (s : State) (d : Nat) : State := (s.stepTaken d).lockedAt d ((s.stepTaken d).entryRate d)

/-- The counters moved, before anything follows. -/
def State.stepped (s : State) (d : Nat) (delta : Int) : State := ((s.toLocked d).stepCnts d delta).noteStep d delta

theorem State.stepApply_due {s : State} {d : Nat} {delta : Int} {at' : Nat} (h : (s.dom d).step = some (delta, at')) (hdue : at' ≤ s.lNow) (hs : s.suspended d = true) :
    s.stepApply d = (s.stepped d delta).followStep d (decide (0 < delta)) := by
  have hc : (decide (s.lNow < at') || !s.suspended d) = false := by simp [hs, hdue]
  unfold State.stepApply
  rw [h]
  dsimp only
  rw [if_neg (by simp [hs, hdue])]
  rfl
theorem State.stepApply_waits {s : State} {d : Nat} {delta : Int} {at' : Nat} (h : (s.dom d).step = some (delta, at')) (hw : s.lNow < at' ∨ s.suspended d = false) : s.stepApply d = s := by
  unfold State.stepApply
  rw [h]
  exact if_pos (by simpa using hw)

theorem State.suspended_iff (s : State) (d : Nat) : s.suspended d = true ↔ ∀ p : Port, s.schedDom p = d → (s.pt p).inSync = false := by
  unfold State.suspended
  rw [List.all_eq_true]
  constructor
  · intro h p hp
    have := h p (List.mem_range.mpr p.isLt)
    simpa [hp] using this
  · intro h p hp
    have := h ⟨p, List.mem_range.mp hp⟩
    by_cases e : s.schedDom p = d
    · simp [this e]
    · simp [e]

theorem State.domState_of_regs {s t : State} (h : t.regs = s.regs) (d : Nat) : t.domState d = s.domState d := by unfold State.domState State.fld; rw [h]
theorem State.lockedAt_time (s : State) (d : Nat) (rate : Int) : (s.lockedAt d rate).time = s.time := rfl
theorem State.sameFlds_lockedAt (s : State) (d : Nat) (rate : Int) : s.SameFlds (s.lockedAt d rate) (domFlds d) :=
  ((State.SameFlds.refl s _).setFld (f := .TPL_DOM_STATUS_STATE) (i := d) (by simp) 0 3).setFld (f := .TPL_DOM_RATE_RATE) (i := d) (by simp) 0 _
theorem State.domState_lockedAt (s : State) (d : Nat) (rate : Int) : (s.lockedAt d rate).domState d = 3 :=
  (State.fld_setFld_other (f := .TPL_DOM_RATE_RATE) (s.setFld .TPL_DOM_STATUS_STATE d 0 3) (by decide) ..).trans (s.fld_setFld_same .TPL_DOM_STATUS_STATE d 0 3)
theorem State.stepTaken_regs (s : State) (d : Nat) : (s.stepTaken d).regs = s.regs := by unfold State.stepTaken; rw [State.setDom_regs]
theorem State.cnt_stepTaken (s : State) (d x c : Nat) : (s.stepTaken d).cnt x c = s.cnt x c := by unfold State.stepTaken; rfl
theorem State.cnt_toLocked (s : State) (d x c : Nat) : (s.toLocked d).cnt x c = s.cnt x c := (State.cnt_of_time (State.lockedAt_time ..) x c).trans (s.cnt_stepTaken d x c)
theorem State.step_toLocked (s : State) (d : Nat) : ((s.toLocked d).dom d).step = none := by
  unfold State.toLocked
  rw [State.dom_of_time (State.lockedAt_time ..)]
  unfold State.stepTaken
  rw [State.dom_setDom_same]
theorem State.regs_stepped (s : State) (d : Nat) (delta : Int) : (s.stepped d delta).regs = (s.toLocked d).regs := (State.noteStep_regs ..).trans (State.stepCnts_regs ..)
theorem State.sameFlds_stepped (s : State) (d : Nat) (delta : Int) : s.SameFlds (s.stepped d delta) (domFlds d) :=
  State.SameFlds.regs (((State.SameFlds.refl s _).regs (s.stepTaken_regs d)).trans ((s.stepTaken d).sameFlds_lockedAt d _)) (s.regs_stepped d delta)
theorem State.domState_stepped (s : State) (d : Nat) (delta : Int) : (s.stepped d delta).domState d = 3 := by
  rw [State.domState_of_regs (s.regs_stepped d delta)]
  exact (s.stepTaken d).domState_lockedAt d _
theorem State.cnt_stepped (s : State) (d : Nat) (delta : Int) (x c : Nat) : (s.stepped d delta).cnt x c = ((s.toLocked d).stepCnts d delta).cnt x c := State.cnt_noteStep ..
theorem State.step_stepped (s : State) (d : Nat) (delta : Int) : ((s.stepped d delta).dom d).step = none := by
  unfold State.stepped
  rw [(State.dom_noteStep _ d delta).1, State.dom_stepCnts, State.step_toLocked]

theorem exec_domStepApply {s : State} (hd : s.dev ≠ .off) (d : Dom) : exec (.domStepApply d) s = .next (s.stepApply d).settle := by
  rw [← State.powered_of hd fun s => s.stepApply d]; rfl

theorem domStepApply_locked {s : State} {d : Dom} {delta : Int} {at' : Nat} (hd : s.dev ≠ .off) (hg : s.NoGroup) (h : (s.dom d).step = some (delta, at')) (hdue : at' ≤ s.lNow)
    (hp : ∀ p : Port, s.schedDom p = d → (s.pt p).inSync = false) : ∃ t, exec (.domStepApply d) s = .next t ∧ t.domState d = 3 ∧
      (∀ c : Fin 3, t.cnt d c = ((s.cnt d c : Int) + delta).toNat) ∧ (∀ x c : Nat, x ≠ d → c < 3 → t.cnt x c = s.cnt x c) ∧ (t.dom d).step = none := by
  have hgrp : (s.stepped d delta).NoGroup := State.noGroup_of_flds (s.sameFlds_stepped d delta) (by simp) hg
  have hread : ∀ {β : Type} {g : State → β}, State.Plane g → g (s.stepApply d).settle = g (s.stepped d delta) := fun k => by
    rw [k.settle, State.stepApply_due h hdue ((s.suspended_iff d).mpr hp), k.followStep hgrp]
  have hcnt : ∀ x c, (s.stepApply d).settle.cnt x c = ((s.toLocked d).stepCnts d delta).cnt x c := fun x c => (hread (g := fun a => a.cnt x c) (.of_cnt x c)).trans (s.cnt_stepped d delta x c)
  have hdom : (s.stepApply d).settle.dom d = (s.stepped d delta).dom d := hread (g := fun a => a.dom d) (.of_dom d)
  refine ⟨_, exec_domStepApply hd d, (hread (g := fun a => a.domState d) (.of_fld rfl d 0)).trans (s.domState_stepped d delta), fun c => ?_, fun x c hx hc => ?_, ?_⟩
  · rw [hcnt, State.cnt_stepCnts_same _ _ _ c.isLt, State.cnt_toLocked]
  · rw [hcnt, State.cnt_stepCnts_other _ hx _ hc, State.cnt_toLocked]
  · rw [hdom, s.step_stepped]

theorem domStepApply_waits {s : State} (o : s.Overlock) {d : Dom} {delta : Int} {at' : Nat} (hd : s.dev ≠ .off) (h : (s.dom d).step = some (delta, at'))
    (hw : s.lNow < at' ∨ ∃ p : Port, s.schedDom p = d ∧ (s.pt p).inSync = true) : ∃ t, exec (.domStepApply d) s = .next t ∧ t.time = s.time ∧ s.SameFlds t [] ∧ s.SameMem t := by
  have hs : s.stepApply d = s := by
    refine State.stepApply_waits h (hw.imp_right fun ⟨p, hp, hin⟩ => ?_)
    rw [← Bool.not_eq_true, State.suspended_iff]
    exact fun hall => by simp [hall p hp] at hin
  exact ⟨_, (exec_domStepApply hd d).trans (by rw [hs]), State.settle_time s, State.SameFlds.settle_of (.refl s _) o rfl (by simp), State.SameMem.settle (.refl s)⟩

/-! ## Loads (R59) -/

theorem exec_domSetWrite {s : State} {r : Req} {d : Dom} (hg : s.Grants r true .TPL_DOM_SET_SEC d 0) (sec : BitVec 48) : exec (.domSetWrite r d sec) s = .next (s.domSetWrite d sec.toNat).settle := by
  rw [← State.writing_of hg fun s => s.domSetWrite d sec.toNat]; rfl

/-- A load that waits for the next whole microsecond of L time. -/
def State.loadWaits (s : State) (d sec : Nat) : State :=
  (s.setFld .TPL_DOM_SET_SEC_SEC d 0 sec).setDom d
    { s.dom d with load := some (timeOf sec (s.fld .TPL_DOM_SET_NS_NS d) (s.fld .TPL_DOM_SET_NS_FRAC d), (s.lNow / (1000 * nsT) + 1) * (1000 * nsT)) }

theorem State.domSetWrite_accepted {s : State} {d : Nat} (h : s.domState d ≤ 1) (sec : Nat) : s.domSetWrite d sec = s.loadWaits d sec := by
  have hl : (s.setFld .TPL_DOM_SET_SEC_SEC d 0 sec).lNow = s.lNow := State.voted_congr (fun _ _ => rfl) (s.fld_setFld_other (by decide) ..)
  unfold State.domSetWrite
  rw [if_pos (by omega)]
  dsimp only
  rw [hl, s.fld_setFld_other (by decide), s.fld_setFld_other (by decide)]
  rfl
theorem State.load_loadWaits (s : State) (d sec : Nat) : ((s.loadWaits d sec).dom d).load =
    some (timeOf sec (s.fld .TPL_DOM_SET_NS_NS d) (s.fld .TPL_DOM_SET_NS_FRAC d), (s.lNow / (1000 * nsT) + 1) * (1000 * nsT)) := congrArg DomSt.load (State.dom_setDom_same ..)
theorem State.sameFlds_loadWaits (s : State) (d sec : Nat) : s.SameFlds (s.loadWaits d sec) [(.TPL_DOM_SET_SEC_SEC, d)] :=
  State.SameFlds.regs (u := s.setFld .TPL_DOM_SET_SEC_SEC d 0 sec) ((State.SameFlds.refl s _).setFld (.head _) 0 sec) rfl

theorem domSetWrite_waits {s : State} (o : s.Overlock) {r : Req} {d : Dom} (hg : s.Grants r true .TPL_DOM_SET_SEC d 0) (sec : BitVec 48) (h : s.domState d ≤ 1) :
    ∃ t, exec (.domSetWrite r d sec) s = .next t ∧
      (t.dom d).load = some (timeOf sec.toNat (s.fld .TPL_DOM_SET_NS_NS d) (s.fld .TPL_DOM_SET_NS_FRAC d), (s.lNow / (1000 * nsT) + 1) * (1000 * nsT)) ∧
      s.SameFlds t [(.TPL_DOM_SET_SEC_SEC, d)] ∧ s.SameMem t := by
  refine ⟨_, (exec_domSetWrite hg sec).trans (by rw [State.domSetWrite_accepted h]), ?_, State.SameFlds.settle_of (s.sameFlds_loadWaits d _) o rfl (by simp),
    State.SameMem.settle (State.sameMem_of rfl rfl rfl)⟩
  rw [State.dom_of_time (State.settle_time _), State.load_loadWaits]

theorem domSetWrite_refused {s : State} (o : s.Overlock) {r : Req} {d : Dom} (hg : s.Grants r true .TPL_DOM_SET_SEC d 0) (sec : BitVec 48) (h : 2 ≤ s.domState d) :
    ∃ t, exec (.domSetWrite r d sec) s = .next t ∧ t.fld .TPL_EVENT_CHANGE_REFUSED = 1 ∧ (t.dom d).load = (s.dom d).load ∧ s.SameFlds t [(.TPL_EVENT_CHANGE_REFUSED, 0)] ∧ s.SameMem t := by
  have he : s.domSetWrite d sec.toNat = s.event .TPL_EVENT_CHANGE_REFUSED := if_neg (by omega)
  refine ⟨_, (exec_domSetWrite hg sec).trans (by rw [he]), ?_, ?_, State.SameFlds.settle_of ((State.SameFlds.refl s _).event (.inl (.head _))) o (s.event_dev ..) (by simp),
    State.SameMem.settle (State.sameMem_of (s.event_localMem ..) (s.event_dram ..) (congrArg BootSt.nvm (s.event_boot ..)))⟩
  · rw [State.fld_settle_of _ (by decide), State.fld_event_same _ _ _ (by decide) (by decide)]; rfl
  · rw [State.dom_of_time ((State.settle_time _).trans (s.event_time ..))]

/-! ## The application of a load (R59, R85) -/

/-- The counters loaded, before anything follows. -/
def State.loaded (s : State) (d v : Nat) : State := ((s.setDom d { s.dom d with load := none }).loadCnts d v).noteStep d ((v : Int) - s.voted d)

theorem State.loadApply_due {s : State} {d v at' : Nat} (h : (s.dom d).load = some (v, at')) (hdue : at' ≤ s.lNow) : s.loadApply d = (s.loaded d v).followStep d (decide (s.voted d < v)) := by
  unfold State.loadApply
  rw [h]
  exact if_neg (Nat.not_lt.mpr hdue)
theorem State.loaded_regs (s : State) (d v : Nat) : (s.loaded d v).regs = s.regs := rfl
theorem State.loaded_ptp (s : State) (d v : Nat) : (s.loaded d v).ptp = s.ptp := rfl
theorem State.load_loaded (s : State) (d v : Nat) : ((s.loaded d v).dom d).load = none :=
  (State.dom_noteStep _ d _).2.trans (congrArg DomSt.load (s.dom_setDom_same d { s.dom d with load := none }))
theorem State.cnt_loaded (s : State) (d v : Nat) {c : Nat} (hc : c < 3) : (s.loaded d v).cnt d c = v := State.cnt_loadCnts_same _ d v hc
theorem State.cnt_loaded_other (s : State) {d x : Nat} (hx : x ≠ d) (v : Nat) {c : Nat} (hc : c < 3) : (s.loaded d v).cnt x c = s.cnt x c := State.cnt_loadCnts_other _ hx v hc

theorem exec_domSetApply {s : State} (hd : s.dev ≠ .off) (d : Dom) : exec (.domSetApply d) s = .next ((s.loadApply d).loadedGm d).settle := by
  rw [← State.powered_of hd fun s => (s.loadApply d).loadedGm d]; rfl

section LoadApply
variable {s : State} {d : Dom} {v at' : Nat} (hg : s.NoGroup) (h : (s.dom d).load = some (v, at')) (hdue : at' ≤ s.lNow)
include hg h hdue

theorem State.Plane.loadApply {β : Type} {g : State → β} (k : State.Plane g) : g (s.loadApply d) = g (s.loaded d v) := by
  have hgrp : (s.loaded d v).NoGroup := State.noGroup_of_flds (l := []) (State.SameFlds.regs (.refl s _) (s.loaded_regs d v)) (by simp) hg
  rw [State.loadApply_due h hdue, k.followStep hgrp]
theorem State.cnt_loadApply (x c : Nat) : (s.loadApply d).cnt x c = (s.loaded d v).cnt x c := State.Plane.loadApply hg h hdue (.of_cnt x c)
theorem State.load_loadApply : ((s.loadApply d).dom d).load = none := by rw [State.Plane.loadApply hg h hdue (.of_dom d), State.load_loaded]
theorem State.inst_loadApply (e : Nat) : (s.loadApply d).inst e = s.inst e := by unfold State.inst; rw [State.Plane.loadApply hg h hdue .of_ptp, State.loaded_ptp]

theorem domSetApply_loads (hd : s.dev ≠ .off) (hdecl : (s.inst d).declaring = false) : ∃ t, exec (.domSetApply d) s = .next t ∧ (∀ c : Fin 3, t.cnt d c = v) ∧
    (∀ x c : Nat, x ≠ d → c < 3 → t.cnt x c = s.cnt x c) ∧ t.domState d = s.domState d ∧ (t.dom d).load = none := by
  have hgm : (s.loadApply d).loadedGm d = s.loadApply d := if_neg (by rw [State.inst_loadApply hg h hdue, hdecl]; simp)
  refine ⟨_, (exec_domSetApply hd d).trans (by rw [hgm]), fun c => ?_, fun x c hx hc => ?_, ?_, ?_⟩
  · rw [State.cnt_settle, State.cnt_loadApply hg h hdue, s.cnt_loaded d v c.isLt]
  · rw [State.cnt_settle, State.cnt_loadApply hg h hdue, s.cnt_loaded_other hx v hc]
  · have hst : (s.loadApply d).domState d = (s.loaded d v).domState d := State.Plane.loadApply hg h hdue (.of_fld rfl d 0)
    exact (State.fld_settle_of _ (by decide) d 0).trans (hst.trans (by unfold State.domState State.fld; rw [s.loaded_regs]))
  · rw [State.dom_of_time (State.settle_time _), State.load_loadApply hg h hdue]

theorem domSetApply_declares (hd : s.dev ≠ .off) (hdecl : (s.inst d).declaring = true) : ∃ t, exec (.domSetApply d) s = .next t ∧ t.on .TPL_SYNC_CFG_GM d = true ∧
    (t.inst d).actingGm = true ∧ (∀ c : Fin 3, t.cnt d c = v) := by
  have hgm : (s.loadApply d).loadedGm d = (s.loadApply d).becomeGm d := if_pos (by rw [State.inst_loadApply hg h hdue, hdecl, State.load_loadApply hg h hdue]; rfl)
  obtain ⟨hon, hact, htime, -⟩ := (s.loadApply d).becomeGm_spec d
  refine ⟨_, (exec_domSetApply hd d).trans (by rw [hgm]), ?_, ?_, fun c => ?_⟩
  · unfold State.on; rw [State.fld_settle_of _ (by decide)]; exact hon
  · unfold State.inst; rw [State.settle_ptp]; exact hact
  · rw [State.cnt_settle, State.cnt_of_time htime, State.cnt_loadApply hg h hdue, s.cnt_loaded d v c.isLt]

end LoadApply

/-- Settles O11: the counters move with the step or the load alone, and what follows the domain's time, with no group armed, is outside the readings of the time plane. -/
theorem domainStepsAndLoads : Obligations.DomainStepsAndLoads := by
  unfold Obligations.DomainStepsAndLoads
  intro s d o
  exact ⟨fun delta at' hd hg h hdue hp => domStepApply_locked hd hg h hdue hp, fun delta at' hd h hw => domStepApply_waits o hd h hw, fun r sec hg h => domSetWrite_waits o hg sec h,
    fun r sec hg h => domSetWrite_refused o hg sec h, fun v at' hd hg h hdue hdecl => domSetApply_loads hg h hdue hd hdecl, fun v at' hd hg h hdue hdecl => domSetApply_declares hg h hdue hd hdecl⟩

end Sys2Proof.Machine
end

section
/-!
PROOFS. The time service (R52, R55, R76, R77, R79, R81, R84 to R86, R95, R96).
-/
namespace Sys2Proof.Machine

/-! ## What the choices of a PTP unit read -/

/-- Two states that show the same time, the same registers but for SYNC_CFG.GM, and a PTP unit that differs in its role alone. -/
structure State.SameView (d : Nat) (s t : State) : Prop where
  flds : ∀ f i j, f ≠ .TPL_SYNC_CFG_GM → ¬f.shared → t.fld f i j = s.fld f i j
  time : t.time = s.time
  boot : t.boot = s.boot
  priority1 : (t.inst d).priority1 = (s.inst d).priority1
  priority2 : (t.inst d).priority2 = (s.inst d).priority2

theorem State.SameView.of_flds {d : Nat} {s t : State} {l : List (Fl × Nat)} (h : s.SameFlds t l) (hl : ∀ f i, f ≠ .TPL_SYNC_CFG_GM → (f, i) ∉ l) (ht : t.time = s.time) (hb : t.boot = s.boot)
    (h1 : (t.inst d).priority1 = (s.inst d).priority1) (h2 : (t.inst d).priority2 = (s.inst d).priority2) : State.SameView d s t :=
  ⟨fun f i j hf hs => h f i j (hl f i hf) hs, ht, hb, h1, h2⟩

section
variable {d : Nat} {s t : State} (h : State.SameView d s t)
include h

theorem State.SameView.fld {f : Fl} (hf : f ≠ .TPL_SYNC_CFG_GM) (hs : f ∉ [Fl.INTC_PENDING_PEND, .INTC_PEND_CNT_COUNT, .TAPE_EVENT_OVF]) (i j : Nat) : t.fld f i j = s.fld f i j :=
  h.flds f i j hf (Fl.not_shared hs)
theorem State.SameView.voted (x : Nat) : t.voted x = s.voted x := State.voted_congr (fun c _ => State.cnt_of_time h.time x c) (h.fld (by decide) (by decide) 0 0)
theorem State.SameView.ppsFed (e : Nat) : t.ppsFed e = s.ppsFed e := by
  unfold State.ppsFed State.on
  rw [h.fld (by decide) (by decide), State.dom_of_time h.time]
  simp only [h.fld (f := .TPL_CAP_CFG_EN) (by decide) (by decide), h.fld (f := .TPL_CAP_CFG_SERVO_FEED) (by decide) (by decide), h.fld (f := .TPL_CAP_CFG_DOM) (by decide) (by decide)]
theorem State.SameView.ownIdent : t.ownIdent = s.ownIdent := by unfold State.ownIdent State.devId; rw [h.time, h.fld (by decide) (by decide)]
theorem State.SameView.ownRank : t.ownRank d = s.ownRank d := by
  unfold State.ownRank State.ownQuality State.clockClass State.domState State.inSync
  rw [h.priority1, h.priority2, h.ppsFed, h.fld (by decide) (by decide), h.fld (f := .TPL_SYNC_STATUS_IN_SYNC) (by decide) (by decide)]
theorem State.SameView.beatsOwn (f : Foreign) : t.beatsOwn d f = s.beatsOwn d f := by unfold State.beatsOwn; rw [h.ownRank, h.ownIdent]
theorem State.SameView.instPorts (hp : (t.inst d).ports = (s.inst d).ports) : t.instPorts d = s.instPorts d := by
  have hports : (Tbl.get ({} : PtpSt) t.ptp d).ports = (Tbl.get ({} : PtpSt) s.ptp d).ports := hp
  unfold State.instPorts State.polled State.on
  rw [hports]
  simp only [h.fld (f := .MAC_MD_CFG_MODE) (by decide) (by decide), h.fld (f := .TPL_DOM_MAP_INST) (by decide) (by decide), h.fld (f := .TPL_DOM_MAP_DELAY) (by decide) (by decide)]
theorem State.SameView.instType : t.instType d = s.instType d := h.fld (by decide) (by decide) d 0

end

theorem State.SameView.setInst (s : State) (d : Nat) {x : PtpSt} (h1 : x.priority1 = (s.inst d).priority1) (h2 : x.priority2 = (s.inst d).priority2) : State.SameView d s (s.setInst d x) :=
  .of_flds (l := []) (State.SameFlds.regs (.refl s _) rfl) (by simp) rfl rfl (by rw [State.inst_setInst]; exact h1) (by rw [State.inst_setInst]; exact h2)
theorem State.SameView.crowned (s : State) (d : Nat) : State.SameView d s (s.crowned d) :=
  .of_flds (s.sameFlds_crowned d) (fun f i hf => by simp [hf]) rfl rfl (by rw [s.inst_crowned]) (by rw [s.inst_crowned])

/-- A master port of a grandmaster that chooses by itself: any port of its own, on 802.1AS links a fit one (R77, R83). -/
theorem State.mem_masters_crowned {s : State} {d p : Nat} (hp : p ∈ s.instPorts d) (hc : s.instType d ≠ 0 ∨ p ∈ (s.inst d).capable) (hb : (s.inst d).bmca ≠ 2) : p ∈ (s.crowned d).masters d := by
  have hv := State.SameView.crowned s d
  unfold State.masters
  rw [hv.instPorts (by rw [s.inst_crowned]), hv.instType, s.inst_crowned]
  simpa [hp, hb] using hc

/-! ## Samples of a Sync (R76, R79, R81) -/

theorem toSigned_toNat (r : BitVec 32) : toSigned 32 r.toNat = r.toInt := by
  have hr := r.isLt
  unfold toSigned
  rw [Nat.mod_eq_of_lt hr, BitVec.toInt_eq_toNat_cond]
  split <;> split <;> omega

/-- The state in which a Sync's sample is submitted. -/
def State.sampled (s : State) (d ratio : Nat) : State := (s.setDom d { s.dom d with fed := false }).setFld .TPL_DOM_SAMPLE_RATIO_RATIO d 0 ratio

theorem State.syncSample_eq {s : State} {d : Nat} (h : s.instType d ≠ 3) (p tIn origin : Nat) (corr : Int) (ratio : Nat) :
    s.syncSample d p tIn origin corr ratio = (s.sampled d ratio).sampleWrite d ((tIn : Int) - ((origin : Int) + corr + ((s.inst d).linkDelay.get 0 p : Nat))) := by
  unfold State.syncSample
  rw [if_neg h]
  rfl
theorem State.sameFlds_sampled (s : State) (d ratio : Nat) : s.SameFlds (s.sampled d ratio) [(.TPL_DOM_SAMPLE_RATIO_RATIO, d)] :=
  State.SameFlds.setFld (State.SameFlds.regs (.refl s _) rfl) (.head _) 0 ratio
theorem State.sampleReplaced_out (s : State) (d : Nat) : (s.sampleReplaced d).out = s.out := by unfold State.sampleReplaced; split <;> simp
theorem State.sampleReplaced_ptp (s : State) (d : Nat) : (s.sampleReplaced d).ptp = s.ptp := by unfold State.sampleReplaced; split <;> simp
theorem State.sampleReplaced_dev (s : State) (d : Nat) : (s.sampleReplaced d).dev = s.dev := by unfold State.sampleReplaced; split <;> simp
theorem State.sampleQueued_out (s : State) (d : Nat) (x : Int × Int) : (s.sampleQueued d x).out = s.out := rfl
theorem State.sampleQueued_ptp (s : State) (d : Nat) (x : Int × Int) : (s.sampleQueued d x).ptp = s.ptp := rfl
theorem State.sampled_out (s : State) (d ratio : Nat) : (s.sampled d ratio).out = s.out := rfl
theorem State.sampled_ptp (s : State) (d ratio : Nat) : (s.sampled d ratio).ptp = s.ptp := rfl
theorem State.sampled_dev (s : State) (d ratio : Nat) : (s.sampled d ratio).dev = s.dev := rfl
theorem State.sampled_mem (s : State) (d ratio : Nat) : s.SameMem (s.sampled d ratio) := State.sameMem_of rfl rfl rfl

/-- What a Sync's sample leaves, in a domain that takes samples. -/
theorem State.syncSample_spec {s : State} {d : Nat} (hi : s.instType d ≠ 3) (h : s.domState d ∈ [1, 3, 4]) (p tIn origin : Nat) (corr : Int) (ratio : BitVec 32) :
    ((s.syncSample d p tIn origin corr ratio.toNat).dom d).sample = some ((tIn : Int) - ((origin : Int) + corr + ((s.inst d).linkDelay.get 0 p : Nat)), ratio.toInt) ∧
    (s.syncSample d p tIn origin corr ratio.toNat).ptp = s.ptp ∧ (s.syncSample d p tIn origin corr ratio.toNat).out = s.out ∧ (s.syncSample d p tIn origin corr ratio.toNat).dev = s.dev ∧
    s.SameFlds (s.syncSample d p tIn origin corr ratio.toNat) [(.TPL_DOM_SAMPLE_RATIO_RATIO, d)] ∧ s.SameMem (s.syncSample d p tIn origin corr ratio.toNat) := by
  have hst : (s.sampled d ratio.toNat).domState d = s.domState d := State.fld_setFld_other _ (by decide) ..
  have hratio : (s.sampled d ratio.toNat).fld .TPL_DOM_SAMPLE_RATIO_RATIO d = ratio.toNat := (State.fld_setFld_same _ .TPL_DOM_SAMPLE_RATIO_RATIO d 0 _).trans (Nat.mod_eq_of_lt ratio.isLt)
  rw [State.syncSample_eq hi, State.sampleWrite_accepted (by rw [hst]; exact h), hratio, toSigned_toNat]
  refine ⟨by rw [State.dom_sampleQueued], ?_, ?_, ?_, ?_, ?_⟩
  · rw [State.sampleQueued_ptp, State.sampleReplaced_ptp, State.sampled_ptp]
  · rw [State.sampleQueued_out, State.sampleReplaced_out, State.sampled_out]
  · rw [State.sampleQueued_dev, State.sampleReplaced_dev, State.sampled_dev]
  · exact ((s.sameFlds_sampled d _).sampleReplaced d).regs (State.sampleQueued_regs ..)
  · exact ((s.sampled_mem d _).sampleReplaced d).trans (State.sampleQueued_mem _ _ _)

theorem exec_timeServicePtpMessage {s : State} (hd : s.dev ≠ .off) (d : Dom) (p : Port) (m : PtpMsg) : exec (.timeServicePtpMessage d p m) s = .next (s.ptpMessage d p m).settle := by
  rw [← State.powered_of hd fun s => s.ptpMessage d p m]; rfl

theorem State.inst_of_ptp {s t : State} (h : t.ptp = s.ptp) (d : Nat) : t.inst d = s.inst d := by unfold State.inst; rw [h]
theorem State.inst_settle (s : State) (d : Nat) : s.settle.inst d = s.inst d := State.inst_of_ptp (State.settle_ptp s) d

/-- The last Sync on the slave port noted (R95). -/
def State.syncNoted (s : State) (d : Nat) : State := s.setInst d { s.inst d with lastSync := s.lNow }

theorem State.inst_syncNoted (s : State) (d : Nat) : (s.syncNoted d).inst d = { s.inst d with lastSync := s.lNow } := State.inst_setInst ..
theorem State.syncMsg_slave {s : State} {d p : Nat} {f : Foreign} (hi : s.instType d ∈ [1, 2]) (hb : (s.inst d).best = some f) (hf : f.port = p) (kind tIn origin : Nat) (corr : Int) (ratio : Nat) :
    s.syncMsg d p kind tIn origin corr ratio = (s.syncNoted d).syncSample d p tIn origin corr ratio := by
  have h0 : s.instType d ≠ 0 ∧ s.instType d ≠ 3 := by simp at hi; omega
  unfold State.syncMsg
  rw [if_neg h0.1, if_neg h0.2, if_pos (by rw [hb, ← hf]; rfl)]
  rfl

theorem State.ptpMessage_sync {s : State} {d p : Nat} (hen : s.on .TPL_DOM_CFG_EN d = true) (hp : p ∈ s.instPorts d) (tIn origin : Nat) (corr : Int) (ratio : BitVec 32) :
    s.ptpMessage d p (.sync tIn origin corr ratio) = s.syncMsg d p 0 tIn origin corr ratio.toNat := by
  unfold State.ptpMessage
  rw [if_neg (by simp [hen, hp])]

theorem ptpMessage_sync_slave {s : State} (o : s.Overlock) (hd : s.dev ≠ .off) {d : Dom} {p : Port} {f : Foreign} (tIn origin : Nat) (corr : Int) (ratio : BitVec 32) (hen : s.on .TPL_DOM_CFG_EN d = true)
    (hp : p.val ∈ s.instPorts d) (hb : (s.inst d).best = some f) (hf : f.port = p.val) (hi : s.instType d ∈ [1, 2]) (hst : s.domState d ∈ [1, 3, 4]) :
    ∃ t, exec (.timeServicePtpMessage d p (.sync tIn origin corr ratio)) s = .next t ∧
      (t.dom d).sample = some ((tIn : Int) - ((origin : Int) + corr + ((s.inst d).linkDelay.get 0 p : Nat)), ratio.toInt) ∧ (t.inst d).lastSync = s.lNow ∧ t.out = s.out ∧
      s.SameFlds t [(.TPL_DOM_SAMPLE_RATIO_RATIO, d)] ∧ s.SameMem t := by
  have hi3 : (s.syncNoted d).instType d ≠ 3 := fun h => by rw [show (s.syncNoted d).instType d = s.instType d from rfl] at h; simp [h] at hi
  obtain ⟨hsample, hptp, hout, hdev, hflds, hmem⟩ := State.syncSample_spec (s := s.syncNoted d) hi3 hst p tIn origin corr ratio
  rw [s.inst_syncNoted] at hsample
  refine ⟨_, (exec_timeServicePtpMessage hd d p _).trans (by rw [State.ptpMessage_sync hen hp, State.syncMsg_slave hi hb hf]), ?_, ?_, (State.settle_out _).trans hout,
    State.SameFlds.settle_of (State.SameFlds.trans (State.SameFlds.regs (.refl s _) rfl) hflds) o hdev (by simp), State.SameMem.settle ((State.sameMem_of rfl rfl rfl : s.SameMem (s.syncNoted d)).trans hmem)⟩
  · rw [State.dom_of_time (State.settle_time _), hsample]
  · rw [State.inst_settle, State.inst_of_ptp hptp, s.inst_syncNoted]

/-! ## The relay of a Sync (R52, R79) -/

/-- The Sync that a TAS unit relays, remembered. -/
def State.relayNoted (s : State) (d : Nat) (r : SyncIn) : State := s.setInst d { s.inst d with relay := some r }

theorem State.inst_relayNoted (s : State) (d : Nat) (r : SyncIn) : (s.relayNoted d r).inst d = { s.inst d with relay := some r } := State.inst_setInst ..

/-- A Sync is relayed on the other master ports. -/
theorem State.relaySync_sends (s : State) (d p tIn origin : Nat) (corr : Int) : ∃ r, State.Sent d (((s.masters d).filter (· ≠ p)).map fun q => .service d q 0 origin) (s.relayNoted d r)
    (s.relaySync d p 0 tIn origin corr) := by
  refine ⟨_, State.Sent.ptpSendOn _ d 0 origin ?_ _⟩
  dsimp only
  split <;> simp [beBytes_length, ptpStamp_length]

theorem State.syncMsg_relay {s : State} {d p : Nat} {f : Foreign} (hi : s.instType d = 0) {kind tIn origin : Nat} {corr : Int} (ratio : Nat)
    (hit : (s.relaySync d p kind tIn origin corr).instType d = 0) (hb : ((s.relaySync d p kind tIn origin corr).inst d).best = some f) (hf : f.port = p) :
    s.syncMsg d p kind tIn origin corr ratio = ((s.relaySync d p kind tIn origin corr).syncNoted d).syncSample d p tIn origin corr ratio := by
  unfold State.syncMsg
  rw [if_pos hi, if_neg (by rw [hit]; decide), if_pos (by rw [hb, ← hf]; rfl)]
  rfl

theorem ptpMessage_sync_relayed {s : State} (o : s.Overlock) (hd : s.dev ≠ .off) {d : Dom} {p : Port} {f : Foreign} (tIn origin : Nat) (corr : Int) (ratio : BitVec 32)
    (hen : s.on .TPL_DOM_CFG_EN d = true) (hp : p.val ∈ s.instPorts d) (hb : (s.inst d).best = some f) (hf : f.port = p.val) (hi : s.instType d = 0) (hst : s.domState d ∈ [1, 3, 4]) :
    ∃ t, exec (.timeServicePtpMessage d p (.sync tIn origin corr ratio)) s = .next t ∧
      (t.dom d).sample = some ((tIn : Int) - ((origin : Int) + corr + ((s.inst d).linkDelay.get 0 p : Nat)), ratio.toInt) ∧
      (∀ q ∈ s.masters d, q ≠ p.val → .service d q 0 origin ∈ t.out) ∧ s.SameFlds t ((.TPL_DOM_SAMPLE_RATIO_RATIO, d.val) :: dropFlds) ∧ s.SameMem t := by
  obtain ⟨r, hsent⟩ := s.relaySync_sends d p tIn origin corr
  obtain ⟨n, sl, hinst⟩ := hsent.inst
  rw [s.inst_relayNoted] at hinst
  have hit : (s.relaySync d p 0 tIn origin corr).instType d = 0 := (hsent.fld (Fl.not_shared (by decide)) d 0).trans hi
  have hst' : ((s.relaySync d p 0 tIn origin corr).syncNoted d).domState d ∈ [1, 3, 4] := by
    rw [show ((s.relaySync d p 0 tIn origin corr).syncNoted d).domState d = s.domState d from hsent.fld (Fl.not_shared (by decide)) d 0]; exact hst
  have hi3 : ((s.relaySync d p 0 tIn origin corr).syncNoted d).instType d ≠ 3 := by
    rw [show ((s.relaySync d p 0 tIn origin corr).syncNoted d).instType d = 0 from hit]; decide
  obtain ⟨hsample, -, hout, hdev, hflds, hmem⟩ := State.syncSample_spec hi3 hst' p tIn origin corr ratio
  rw [State.inst_syncNoted, hinst] at hsample
  have hall : s.SameFlds (((s.relaySync d p 0 tIn origin corr).syncNoted d).syncSample d p tIn origin corr ratio.toNat) [(.TPL_DOM_SAMPLE_RATIO_RATIO, d.val)] :=
    State.SameFlds.trans (State.SameFlds.regs (State.SameFlds.trans (State.SameFlds.regs (.refl s _) rfl) (hsent.flds.mono (by simp))) rfl) hflds
  refine ⟨_, (exec_timeServicePtpMessage hd d p _).trans (by rw [State.ptpMessage_sync hen hp, State.syncMsg_relay hi _ hit (by rw [hinst]; exact hb) hf]), ?_, fun q hq hne => ?_,
    State.SameFlds.settle_of (hall.mono (by simp)) o (hdev.trans hsent.dev) (by simp), State.SameMem.settle (((State.sameMem_of rfl rfl rfl : s.SameMem (s.relayNoted d r)).trans hsent.mem).trans hmem)⟩
  · rw [State.dom_of_time (State.settle_time _), hsample]
  · rw [State.settle_out, hout]
    exact hsent.mem_out (List.mem_map.mpr ⟨q, by simp [hq, hne], rfl⟩)

/-! ## The declaration of a grandmaster (R84, R85) -/

theorem exec_gmListenExpiry {s : State} (hd : s.dev ≠ .off) (d : Dom) : exec (.gmListenExpiry d) s = .next (s.listenExpiry d).settle := by
  rw [← State.powered_of hd fun s => s.listenExpiry d]; rfl

/-- L time put before a domain as the value to load. -/
def State.timeOffered (s : State) (d : Nat) : State := s.setFlds d 0 [(.TPL_DOM_SET_NS_NS, nsOf s.lNow), (.TPL_DOM_SET_NS_FRAC, fracOf s.lNow)]

/-- A PTP unit declares itself while its domain is loaded. -/
def State.declared (s : State) (d : Nat) : State := s.setInst d { s.inst d with declaring := true, best := none, returning := none }

theorem State.inst_declared (s : State) (d : Nat) : (s.declared d).inst d = { s.inst d with declaring := true, best := none, returning := none } := State.inst_setInst ..
theorem State.declared_mem (s : State) (d : Nat) : s.SameMem (s.declared d) := State.sameMem_of rfl rfl rfl
theorem State.timeOffered_time (s : State) (d : Nat) : (s.timeOffered d).time = s.time := State.setFlds_time ..
theorem State.timeOffered_ptp (s : State) (d : Nat) : (s.timeOffered d).ptp = s.ptp := State.setFlds_ptp ..
theorem State.timeOffered_mem (s : State) (d : Nat) : s.SameMem (s.timeOffered d) := State.sameMem_of (State.setFlds_localMem ..) (State.setFlds_dram ..) (congrArg BootSt.nvm (State.setFlds_boot ..))
theorem State.sameFlds_timeOffered (s : State) (d : Nat) : s.SameFlds (s.timeOffered d) [(.TPL_DOM_SET_SEC_SEC, d), (.TPL_DOM_SET_NS_NS, d), (.TPL_DOM_SET_NS_FRAC, d)] :=
  (State.SameFlds.refl s _).setFlds d 0 _ (by simp)
theorem State.lNow_timeOffered (s : State) (d : Nat) : (s.timeOffered d).lNow = s.lNow :=
  State.voted_congr (fun c _ => State.cnt_of_time (s.timeOffered_time d) 8 c) (s.fld_setFlds_other _ _ _ _ _ _ (by simp))
theorem State.ns_timeOffered (s : State) (d : Nat) : (s.timeOffered d).fld .TPL_DOM_SET_NS_NS d = nsOf s.lNow :=
  (s.fld_setFlds_mem d 0 (v := nsOf s.lNow) (by simp) (by simp)).trans (Nat.mod_eq_of_lt (nsOf_lt _))
theorem State.frac_timeOffered (s : State) (d : Nat) : (s.timeOffered d).fld .TPL_DOM_SET_NS_FRAC d = fracOf s.lNow :=
  (s.fld_setFlds_mem d 0 (v := fracOf s.lNow) (by simp) (by simp)).trans (Nat.mod_eq_of_lt (fracOf_lt _))
theorem State.loadWaits_ptp (s : State) (d sec : Nat) : (s.loadWaits d sec).ptp = s.ptp := rfl
theorem State.loadWaits_mem (s : State) (d sec : Nat) : s.SameMem (s.loadWaits d sec) := State.sameMem_of rfl rfl rfl

/-- An UNLOCKED domain without external reference is first loaded with L time. -/
theorem State.declareGm_loads {s : State} {d : Nat} (hi : s.instType d ≠ 3) (h1 : s.domState d = 1) (hp : s.ppsFed d = false) :
    s.declareGm d = ((s.timeOffered d).loadWaits d (secOf s.lNow)).declared d := by
  have hst : (s.timeOffered d).domState d ≤ 1 := le_of_eq ((s.fld_setFlds_other _ _ _ _ _ _ (by simp)).trans h1)
  unfold State.declareGm
  rw [if_neg hi, if_pos ⟨h1, by simp [hp]⟩]
  show State.declared ((s.timeOffered d).domSetWrite d (secOf s.lNow)) d = _
  rw [State.domSetWrite_accepted hst]
theorem State.declareGm_becomes {s : State} {d : Nat} (hi : s.instType d ≠ 3) (h : s.domState d ≠ 1 ∨ s.ppsFed d = true) : s.declareGm d = s.becomeGm d := by
  unfold State.declareGm
  rw [if_neg hi, if_neg (by rcases h with h | h <;> simp [h])]

theorem State.listenExpiry_declares {s : State} {d : Nat} (hcap : (s.inst d).gmCapable = true) (hheard : (s.inst d).heard = false) (hact : (s.inst d).actingGm = false)
    (hdecl : (s.inst d).declaring = false) (h1 : s.domState d = 1) (hl : (s.inst d).listenSince + s.listenT d ≤ s.lNow) : s.listenExpiry d = s.declareGm d := by
  unfold State.listenExpiry
  dsimp only
  rw [if_pos (by simp [hcap, hheard, hact, hdecl, h1, hl])]

theorem gmListenExpiry_loads {s : State} (o : s.Overlock) (hd : s.dev ≠ .off) {d : Dom} (hle : s.listenExpiry d = s.declareGm d) (hact : (s.inst d).actingGm = false) (h1 : s.domState d = 1)
    (hi : s.instType d ≠ 3) (hp : s.ppsFed d = false) : ∃ t, exec (.gmListenExpiry d) s = .next t ∧ (t.inst d).declaring = true ∧ (t.inst d).actingGm = false ∧ t.out = s.out ∧
      (t.dom d).load = some (timeOf (secOf s.lNow) (nsOf s.lNow) (fracOf s.lNow), (s.lNow / (1000 * nsT) + 1) * (1000 * nsT)) ∧
      s.SameFlds t [(.TPL_DOM_SET_SEC_SEC, d), (.TPL_DOM_SET_NS_NS, d), (.TPL_DOM_SET_NS_FRAC, d)] ∧ s.SameMem t := by
  have hinst : (((s.timeOffered d).loadWaits d (secOf s.lNow)).declared d).inst d = { s.inst d with declaring := true, best := none, returning := none } := by
    rw [State.inst_declared, State.inst_of_ptp ((State.loadWaits_ptp ..).trans (s.timeOffered_ptp d))]
  have hflds : s.SameFlds (((s.timeOffered d).loadWaits d (secOf s.lNow)).declared d) [(.TPL_DOM_SET_SEC_SEC, d), (.TPL_DOM_SET_NS_NS, d), (.TPL_DOM_SET_NS_FRAC, d)] :=
    State.SameFlds.regs ((s.sameFlds_timeOffered d).trans (((s.timeOffered d).sameFlds_loadWaits d _).mono (by simp))) rfl
  refine ⟨_, (exec_gmListenExpiry hd d).trans (by rw [hle, State.declareGm_loads hi h1 hp]), ?_, ?_, ?_, ?_, State.SameFlds.settle_of hflds o (State.setFlds_dev ..) (by simp),
    State.SameMem.settle ((s.timeOffered_mem d).trans ((State.loadWaits_mem _ d (secOf s.lNow)).trans (State.declared_mem _ d)))⟩
  · rw [State.inst_settle, hinst]
  · rw [State.inst_settle, hinst]; exact hact
  · exact (State.settle_out _).trans (State.setFlds_out ..)
  · rw [State.dom_of_time (State.settle_time _)]
    refine (State.load_loadWaits (s.timeOffered d) d _).trans ?_
    rw [s.ns_timeOffered, s.frac_timeOffered, s.lNow_timeOffered]

/-- What becoming grandmaster leaves at the end of the command. -/
theorem settle_becomeGm {s : State} (o : s.Overlock) (d : Nat) : (s.becomeGm d).settle.on .TPL_SYNC_CFG_GM d = true ∧ ((s.becomeGm d).settle.inst d).actingGm = true ∧
    (s.becomeGm d).settle.dom d = s.dom d ∧ (s.becomeGm d).settle.out = s.out ++ (s.crowned d).firstLines d ∧
    s.SameFlds (s.becomeGm d).settle ((.TPL_SYNC_CFG_GM, d) :: dropFlds) ∧ s.SameMem (s.becomeGm d).settle := by
  obtain ⟨hon, hact, htime, hdev, hout, hflds, hmem⟩ := s.becomeGm_spec d
  refine ⟨?_, by rw [State.inst_settle]; exact hact, State.dom_of_time ((State.settle_time _).trans htime) d, (State.settle_out _).trans hout,
    State.SameFlds.settle_of (hflds.mono (by simp)) o hdev (by simp), hmem.settle⟩
  unfold State.on; rw [State.fld_settle_of _ (by decide)]; exact hon

theorem gmListenExpiry_becomes {s : State} (o : s.Overlock) (hd : s.dev ≠ .off) {d : Dom} (hle : s.listenExpiry d = s.declareGm d) (hi : s.instType d ≠ 3) (hp : s.ppsFed d = true) :
    ∃ t, exec (.gmListenExpiry d) s = .next t ∧ t.on .TPL_SYNC_CFG_GM d = true ∧ (t.inst d).actingGm = true ∧ t.dom d = s.dom d ∧
      (∀ p ∈ s.instPorts d, s.instType d ≠ 0 ∨ p ∈ (s.inst d).capable → (s.inst d).bmca ≠ 2 → .service d p 2 (s.ownRank d) ∈ t.out ∧ .service d p 0 (s.voted d) ∈ t.out) ∧
      s.SameFlds t ((.TPL_SYNC_CFG_GM, d.val) :: dropFlds) ∧ s.SameMem t := by
  obtain ⟨hon, hact, hdom, hout, hflds, hmem⟩ := settle_becomeGm o d.val
  have hv := State.SameView.crowned s d
  refine ⟨_, (exec_gmListenExpiry hd d).trans (by rw [hle, State.declareGm_becomes hi (.inr hp)]), hon, hact, hdom, fun p hpm hc hb => ?_, hflds, hmem⟩
  have hm := State.mem_masters_crowned hpm hc hb
  rw [hout, ← hv.ownRank, ← hv.voted]
  exact ⟨List.mem_append_right _ (List.mem_append_left _ (List.mem_map_of_mem hm)), List.mem_append_right _ (List.mem_append_right _ (List.mem_map_of_mem hm))⟩

/-! ## The loss of the master (R95) -/

theorem exec_masterLossTimeout {s : State} (hd : s.dev ≠ .off) (d : Dom) : exec (.masterLossTimeout d) s = .next (s.masterLoss d).settle := by
  rw [← State.powered_of hd fun s => s.masterLoss d]; rfl

/-- The master and its offers forgotten, where no other port offered one. -/
def State.masterless (s : State) (d : Nat) : State := s.setInst d { s.inst d with foreign := [], best := none, returning := none }

theorem State.inst_masterless (s : State) (d : Nat) : (s.masterless d).inst d = { s.inst d with foreign := [], best := none, returning := none } := State.inst_setInst ..
theorem State.offers_masterless (s : State) (d : Nat) : (s.masterless d).offers d = [] := by unfold State.offers; rw [s.inst_masterless]; rfl

theorem State.masterLoss_late {s : State} {d : Nat} {g : Foreign} (hb : (s.inst d).best = some g) (hf : (s.inst d).foreign = [g]) (hl : s.masterLate d g = true) :
    s.masterLoss d = if (s.inst d).gmCapable && (s.inst d).bmca != 2 then (s.masterless d).declareGm d else s.masterless d := by
  have hfil : (s.inst d).foreign.filter (fun f => f.port != g.port) = [] := by rw [hf]; simp
  unfold State.masterLoss
  rw [hb]
  dsimp only
  rw [hl, hfil]
  simp only [Bool.not_true, Bool.false_eq_true, if_false]
  rw [show s.setInst d { s.inst d with foreign := [], best := none, returning := none } = s.masterless d from rfl, s.offers_masterless]
  rfl

theorem masterLoss_leaves_none {s : State} (o : s.Overlock) (hd : s.dev ≠ .off) {d : Dom} {g : Foreign} (hb : (s.inst d).best = some g) (hf : (s.inst d).foreign = [g])
    (hl : s.masterLate d g = true) (hc : (s.inst d).gmCapable = false) :
    ∃ t, exec (.masterLossTimeout d) s = .next t ∧ (t.inst d).best = none ∧ t.dom d = s.dom d ∧ s.SameFlds t [] ∧ s.SameMem t := by
  have he : s.masterLoss d = s.masterless d := by rw [State.masterLoss_late hb hf hl, hc]; rfl
  exact ⟨(s.masterless d).settle, (exec_masterLossTimeout hd d).trans (by rw [he]), by rw [State.inst_settle, s.inst_masterless], State.dom_of_time (State.settle_time _) d,
    State.SameFlds.settle_of (State.SameFlds.regs (.refl s _) rfl) o rfl (by simp), State.SameMem.settle (State.sameMem_of rfl rfl rfl)⟩

theorem masterLoss_becomes {s : State} (o : s.Overlock) (hd : s.dev ≠ .off) {d : Dom} {g : Foreign} (hb : (s.inst d).best = some g) (hf : (s.inst d).foreign = [g])
    (hl : s.masterLate d g = true) (hc : (s.inst d).gmCapable = true) (hbm : (s.inst d).bmca ≠ 2) (hi : s.instType d ≠ 3) (h3 : s.domState d = 3) :
    ∃ t, exec (.masterLossTimeout d) s = .next t ∧ t.on .TPL_SYNC_CFG_GM d = true ∧ (t.inst d).actingGm = true ∧ t.dom d = s.dom d ∧ s.SameFlds t ((.TPL_SYNC_CFG_GM, d.val) :: dropFlds) ∧
      s.SameMem t := by
  have he : s.masterLoss d = (s.masterless d).becomeGm d := by
    rw [State.masterLoss_late hb hf hl, if_pos (by simp [hc, hbm])]
    exact State.declareGm_becomes hi (.inl (by rw [show (s.masterless d).domState d = 3 from h3]; decide))
  obtain ⟨hon, hact, hdom, -, hflds, hmem⟩ := settle_becomeGm (s := s.masterless d) o d.val
  exact ⟨_, (exec_masterLossTimeout hd d).trans (by rw [he]), hon, hact, hdom, State.SameFlds.trans (State.SameFlds.regs (.refl s _) rfl) hflds,
    (State.sameMem_of rfl rfl rfl : s.SameMem (s.masterless d)).trans hmem⟩

theorem masterLoss_early {s : State} (o : s.Overlock) (hd : s.dev ≠ .off) {d : Dom} {g : Foreign} (hb : (s.inst d).best = some g) (hf : (s.inst d).foreign = [g])
    (hsync : s.lNow < (s.inst d).lastSync + (s.inst d).syncTimeoutT) (hann : s.lNow < g.atL + (s.inst d).announceTimeoutT) :
    ∃ t, exec (.masterLossTimeout d) s = .next t ∧ t.inst d = s.inst d ∧ s.SameFlds t [] ∧ s.SameMem t := by
  have hl : s.masterLate d g = false := by
    unfold State.masterLate
    simp [hf, hsync, hann]
  have he : s.masterLoss d = s := by unfold State.masterLoss; rw [hb]; simp [hl]
  exact ⟨_, (exec_masterLossTimeout hd d).trans (by rw [he]), State.inst_settle s d, State.SameFlds.settle_of (.refl s _) o rfl (by simp), State.SameMem.settle (.refl s)⟩

/-! ## RETURN_HOLD (R96) -/

theorem exec_returnHoldExpiry {s : State} (hd : s.dev ≠ .off) (d : Dom) : exec (.returnHoldExpiry d) s = .next (s.returnExpiry d).settle := by
  rw [← State.powered_of hd fun s => s.returnExpiry d]; rfl

theorem State.setBest_regs (s : State) (d : Nat) (f : Foreign) : (s.setBest d f).regs = s.regs := rfl
theorem State.setBest_dev (s : State) (d : Nat) (f : Foreign) : (s.setBest d f).dev = s.dev := rfl
theorem State.setBest_mem (s : State) (d : Nat) (f : Foreign) : s.SameMem (s.setBest d f) := State.sameMem_of rfl rfl rfl
theorem State.inst_setBest (s : State) (d : Nat) (f : Foreign) : ((s.setBest d f).inst d).best = some f ∧ ((s.setBest d f).inst d).returning = none ∧
    ((s.setBest d f).inst d).actingGm = (s.inst d).actingGm := by
  unfold State.setBest
  rw [State.inst_setInst]
  exact ⟨rfl, rfl, rfl⟩

theorem returnHold_moves {s : State} (o : s.Overlock) (hd : s.dev ≠ .off) {d : Dom} {f : Foreign} {since last : Nat} (hr : (s.inst d).returning = some (f, since, last))
    (hgap : s.lNow ≤ last + (s.inst d).announceTimeoutT) (hhold : since + (s.inst d).returnHold * nsT ≤ s.lNow) (hact : (s.inst d).actingGm = false) :
    ∃ t, exec (.returnHoldExpiry d) s = .next t ∧ (t.inst d).best = some f ∧ (t.inst d).returning = none ∧ s.SameFlds t [] ∧ s.SameMem t := by
  have he : s.returnExpiry d = s.setBest d f := by
    unfold State.returnExpiry
    simp only [hr]
    rw [if_neg (Nat.not_lt.mpr hgap), if_pos hhold, hact]
    rfl
  obtain ⟨hbest, hret, -⟩ := s.inst_setBest d f
  exact ⟨_, (exec_returnHoldExpiry hd d).trans (by rw [he]), by rw [State.inst_settle, hbest], by rw [State.inst_settle, hret],
    State.SameFlds.settle_of (State.SameFlds.regs (.refl s _) (s.setBest_regs d f)) o (s.setBest_dev d f) (by simp), (s.setBest_mem d f).settle⟩

/-- The hold of a better clock is over. -/
def State.holdBroken (s : State) (d : Nat) : State := s.setInst d { s.inst d with returning := none }

theorem State.inst_holdBroken (s : State) (d : Nat) : (s.holdBroken d).inst d = { s.inst d with returning := none } := State.inst_setInst ..

theorem returnHold_broken {s : State} (o : s.Overlock) (hd : s.dev ≠ .off) {d : Dom} {f : Foreign} {since last : Nat} (hr : (s.inst d).returning = some (f, since, last))
    (hgap : last + (s.inst d).announceTimeoutT < s.lNow) :
    ∃ t, exec (.returnHoldExpiry d) s = .next t ∧ (t.inst d).best = (s.inst d).best ∧ (t.inst d).returning = none ∧ s.SameFlds t [] ∧ s.SameMem t := by
  have he : s.returnExpiry d = s.holdBroken d := by
    unfold State.returnExpiry
    simp only [hr]
    exact if_pos hgap
  exact ⟨(s.holdBroken d).settle, (exec_returnHoldExpiry hd d).trans (by rw [he]), by rw [State.inst_settle, s.inst_holdBroken], by rw [State.inst_settle, s.inst_holdBroken],
    State.SameFlds.settle_of (State.SameFlds.regs (.refl s _) rfl) o rfl (by simp), State.SameMem.settle (State.sameMem_of rfl rfl rfl)⟩

/-! ## A better clock (R83, R86, R96) -/

theorem exec_announceBetterClock {s : State} (hd : s.dev ≠ .off) (d : Dom) (p : Port) (a : BitVec 8) (q : BitVec 32) (b : BitVec 8) (src : ClockSrc) :
    exec (.announceBetterClock d p a q b src) s = .next (s.ptpMessage d p (.announce a q b src)).settle := by
  rw [← State.powered_of hd fun s => s.ptpMessage d p (.announce a q b src)]; rfl

/-- An offer noted on the port of a PTP unit that knew of none. -/
def State.offered (s : State) (d : Nat) (f : Foreign) : State := s.setInst d { s.inst d with heard := true, foreign := [f] }

theorem State.inst_offered (s : State) (d : Nat) (f : Foreign) : (s.offered d f).inst d = { s.inst d with heard := true, foreign := [f] } := State.inst_setInst ..

/-- The first offer of another clock, noted by an 802.1AS unit. -/
theorem State.noteOffer_first {s : State} {d : Nat} {f : Foreign} (hi : s.instType d = 0) (hf : (s.inst d).foreign = []) (hid : f.ident ≠ s.ownIdent) (hpath : s.ownIdent ∉ f.path) :
    s.noteOffer d f = s.offered d { f with atL := s.lNow, qual := true } := by
  unfold State.noteOffer State.offered
  dsimp only
  rw [if_neg (by simp [hid, hpath]), hf, hi]
  rfl
theorem State.offers_offered {s : State} {d : Nat} {f : Foreign} (hq : f.qual = true) (hL : f.atL = s.lNow) (hb : (s.inst d).bmca ≠ 2) (ht : 0 < (s.inst d).announceTimeoutT) :
    (s.offered d f).offers d = [f] := by
  have hlive : (s.offered d f).lNow < f.atL + (s.inst d).announceTimeoutT := by rw [hL]; exact Nat.lt_add_of_pos_right ht
  unfold State.offers
  rw [s.inst_offered]
  dsimp only
  rw [show PtpSt.announceTimeoutT { s.inst d with heard := true, foreign := [f] } = (s.inst d).announceTimeoutT from rfl]
  simp [hq, hlive, hb]
theorem State.bmca_offered {s : State} {d : Nat} {f : Foreign} (hq : f.qual = true) (hL : f.atL = s.lNow) (hb : (s.inst d).bmca ≠ 2) (ht : 0 < (s.inst d).announceTimeoutT)
    (hact : (s.inst d).actingGm = true) (hbeats : s.beatsOwn d f = true) : (s.offered d f).bmca d = (s.offered d f).tryBetter d f := by
  have hv : State.SameView d s (s.offered d f) := .setInst s d rfl rfl
  unfold State.bmca
  rw [State.offers_offered hq hL hb ht]
  dsimp only [bestForeign, List.foldl]
  rw [hv.beatsOwn, hbeats, s.inst_offered]
  simp [hb, hact]

/-- Without RETURN_HOLD, and in Acquire, an acting grandmaster yields at once. -/
theorem State.tryBetter_at_once {s : State} {d : Nat} (hh : (s.inst d).returnHold = 0 ∨ s.dev = .acquire) (hact : (s.inst d).actingGm = true) (f : Foreign) : s.tryBetter d f = s.yieldGm d f :=
  (if_pos hh).trans (if_pos hact)

/-- The first Announce of a better clock begins its hold. -/
def State.holdBegun (s : State) (d : Nat) (f : Foreign) : State := s.setInst d { s.inst d with returning := some (f, s.lNow, s.lNow) }

theorem State.inst_holdBegun (s : State) (d : Nat) (f : Foreign) : (s.holdBegun d f).inst d = { s.inst d with returning := some (f, s.lNow, s.lNow) } := State.inst_setInst ..
theorem State.tryBetter_first {s : State} {d : Nat} (hh : ¬((s.inst d).returnHold = 0 ∨ s.dev = .acquire)) (hr : (s.inst d).returning = none) (f : Foreign) : s.tryBetter d f = s.holdBegun d f := by
  unfold State.tryBetter
  dsimp only
  rw [if_neg hh, hr]
  rfl

/-- The role as grandmaster ends. -/
def State.roleEnded (s : State) (d : Nat) : State := (s.setFld .TPL_SYNC_CFG_GM d 0 0).setInst d { s.inst d with actingGm := false }

theorem State.inst_roleEnded (s : State) (d : Nat) : (s.roleEnded d).inst d = { s.inst d with actingGm := false } := State.inst_setInst ..
theorem State.gm_roleEnded (s : State) (d : Nat) : (s.roleEnded d).fld .TPL_SYNC_CFG_GM d = 0 := s.fld_setFld_same .TPL_SYNC_CFG_GM d 0 0
theorem State.SameFlds.roleEnded {s u : State} {l : List (Fl × Nat)} (h : s.SameFlds u l) {d : Nat} (m : (.TPL_SYNC_CFG_GM, d) ∈ l) : s.SameFlds (u.roleEnded d) l :=
  State.SameFlds.regs (u := u.setFld .TPL_SYNC_CFG_GM d 0 0) (h.setFld m 0 0) rfl
theorem State.roleEnded_mem (s : State) (d : Nat) : s.SameMem (s.roleEnded d) := State.sameMem_of rfl rfl rfl
theorem State.yieldGm_of {s : State} {d : Nat} (h1 : s.domState d ≠ 1) (f : Foreign) : s.yieldGm d f = (s.roleEnded d).setBest d f := by
  have hw : s.writeGm d false = s.setFld .TPL_SYNC_CFG_GM d 0 0 := by
    have h1' : ((s.setFld .TPL_SYNC_CFG_GM d 0 0).domState d == 1) = false := by
      rw [beq_eq_false_iff_ne, State.domState, s.fld_setFld_other (by decide)]; exact h1
    unfold State.writeGm
    dsimp only
    rw [show b2n false = 0 from rfl, h1', Bool.and_false]
    rfl
  unfold State.yieldGm
  rw [hw]
  rfl

theorem State.offered_regs (s : State) (d : Nat) (f : Foreign) : (s.offered d f).regs = s.regs := rfl
theorem State.offered_mem (s : State) (d : Nat) (f : Foreign) : s.SameMem (s.offered d f) := State.sameMem_of rfl rfl rfl
theorem State.holdBegun_regs (s : State) (d : Nat) (f : Foreign) : (s.holdBegun d f).regs = s.regs := rfl
theorem State.holdBegun_mem (s : State) (d : Nat) (f : Foreign) : s.SameMem (s.holdBegun d f) := State.sameMem_of rfl rfl rfl

section Better
variable {s : State} {d : Dom} {p : Port} {a : BitVec 8} {q : BitVec 32} {b : BitVec 8} {src : ClockSrc}

/-- The Announce of a better clock, as the PTP unit notes it. -/
def announced (s : State) (p : Nat) (a : BitVec 8) (q : BitVec 32) (b : BitVec 8) (src : ClockSrc) : Foreign :=
  { rank := dsRank a.toNat q.toNat b.toNat, ident := src.ident.toNat, port := p, steps := src.steps.toNat, path := src.path.map BitVec.toNat, atL := s.lNow, qual := true }

variable (hen : s.on .TPL_DOM_CFG_EN d = true) (hp : p.val ∈ s.instPorts d) (hi : s.instType d = 0) (hact : (s.inst d).actingGm = true) (hb : (s.inst d).bmca ≠ 2)
  (hf : (s.inst d).foreign = []) (ht : 0 < (s.inst d).announceTimeoutT) (hid : src.ident.toNat ≠ s.ownIdent) (hpath : s.ownIdent ∉ src.path.map BitVec.toNat)
  (hbetter : better (dsRank a.toNat q.toNat b.toNat) src.ident.toNat (s.ownRank d) s.ownIdent = true)
include hen hp hi hact hb hf ht hid hpath hbetter

theorem State.ptpMessage_better : s.ptpMessage d p (.announce a q b src) = (s.offered d (announced s p a q b src)).tryBetter d (announced s p a q b src) := by
  rw [← State.bmca_offered (s := s) (f := announced s p a q b src) rfl rfl hb ht hact hbetter]
  unfold State.ptpMessage State.announce
  rw [if_neg (by simp [hen, hp])]
  dsimp only
  rw [if_neg (by rw [hi]; decide), State.noteOffer_first hi hf hid hpath]
  rfl

theorem betterClock_yields (o : s.Overlock) (hd : s.dev ≠ .off) (hh : (s.inst d).returnHold = 0 ∨ s.dev = .acquire) (h1 : s.domState d ≠ 1) :
    ∃ t, exec (.announceBetterClock d p a q b src) s = .next t ∧ t.on .TPL_SYNC_CFG_GM d = false ∧ (t.inst d).actingGm = false ∧ (t.inst d).best = some (announced s p a q b src) ∧
      s.SameFlds t [(.TPL_SYNC_CFG_GM, d)] ∧ s.SameMem t := by
  have he : s.ptpMessage d p (.announce a q b src) = ((s.offered d (announced s p a q b src)).roleEnded d).setBest d (announced s p a q b src) := by
    have hhold : ((s.offered d (announced s p a q b src)).inst d).returnHold = 0 ∨ (s.offered d (announced s p a q b src)).dev = .acquire := by rw [s.inst_offered]; exact hh
    rw [State.ptpMessage_better hen hp hi hact hb hf ht hid hpath hbetter, State.tryBetter_at_once hhold (by rw [s.inst_offered]; exact hact)]
    exact State.yieldGm_of (s := s.offered d (announced s p a q b src)) h1 _
  generalize announced s p a q b src = f at he
  have hflds : s.SameFlds (((s.offered d f).roleEnded d).setBest d f) [(.TPL_SYNC_CFG_GM, d)] :=
    State.SameFlds.regs (((State.SameFlds.refl s _).regs (s.offered_regs d f)).roleEnded (.head _)) (State.setBest_regs ..)
  obtain ⟨hbest, -, hacting⟩ := State.inst_setBest ((s.offered d f).roleEnded d) d f
  refine ⟨(((s.offered d f).roleEnded d).setBest d f).settle, (exec_announceBetterClock hd d p a q b src).trans (by rw [he]), ?_, ?_, ?_, State.SameFlds.settle_of hflds o rfl (by simp),
    State.SameMem.settle (((s.offered_mem d f).trans (State.roleEnded_mem _ d)).trans (State.setBest_mem _ d f))⟩
  · unfold State.on State.fld
    rw [← State.fld, State.fld_settle_of _ (by decide), State.fld, State.setBest_regs, ← State.fld, State.gm_roleEnded]
    rfl
  · rw [State.inst_settle, hacting, State.inst_roleEnded]
  · rw [State.inst_settle, hbest]

theorem betterClock_holds (o : s.Overlock) (hd : s.dev ≠ .off) (hh : (s.inst d).returnHold ≠ 0) (hacq : s.dev ≠ .acquire) (hr : (s.inst d).returning = none) :
    ∃ t, exec (.announceBetterClock d p a q b src) s = .next t ∧ (t.inst d).actingGm = true ∧ (t.inst d).returning = some (announced s p a q b src, s.lNow, s.lNow) ∧
      s.SameFlds t [] ∧ s.SameMem t := by
  have he : s.ptpMessage d p (.announce a q b src) = (s.offered d (announced s p a q b src)).holdBegun d (announced s p a q b src) := by
    have hhold : ¬(((s.offered d (announced s p a q b src)).inst d).returnHold = 0 ∨ (s.offered d (announced s p a q b src)).dev = .acquire) := by
      rw [s.inst_offered]; exact fun h => h.elim hh hacq
    rw [State.ptpMessage_better hen hp hi hact hb hf ht hid hpath hbetter, State.tryBetter_first hhold (by rw [s.inst_offered]; exact hr)]
  generalize announced s p a q b src = f at he
  refine ⟨((s.offered d f).holdBegun d f).settle, (exec_announceBetterClock hd d p a q b src).trans (by rw [he]), ?_, ?_,
    State.SameFlds.settle_of (State.SameFlds.regs (.refl s _) ((State.holdBegun_regs ..).trans (s.offered_regs d f))) o rfl (by simp),
    State.SameMem.settle ((s.offered_mem d f).trans (State.holdBegun_mem _ d f))⟩
  · rw [State.inst_settle, State.inst_holdBegun, s.inst_offered]; exact hact
  · rw [State.inst_settle, State.inst_holdBegun]; rfl

end Better

/-! ## Egress timestamps and periodic messages (R55, R77) -/

theorem exec_ptpInterval {s : State} (hd : s.dev ≠ .off) (d : Dom) (k : PtpTimer) : exec (.ptpMessageIntervalExpiry d k) s = .next (s.ptpInterval d k).settle := by
  rw [← State.powered_of hd fun s => s.ptpInterval d k]; rfl

theorem ptpInterval_of_tc {s : State} (o : s.Overlock) (hd : s.dev ≠ .off) {d : Dom} (k : PtpTimer) (hi : s.instType d = 3) :
    ∃ t, exec (.ptpMessageIntervalExpiry d k) s = .next t ∧ t.out = s.out ∧ s.SameFlds t [] ∧ s.SameMem t := by
  have he : s.ptpInterval d k = s := if_pos (by simp [hi])
  exact ⟨_, (exec_ptpInterval hd d k).trans (by rw [he]), State.settle_out s, State.SameFlds.settle_of (.refl s _) o rfl (by simp), State.SameMem.settle (.refl s)⟩

/-- A port's stamps without those of a domain. -/
def State.stampsTaken (s : State) (d p : Nat) : State := s.updPt p fun x => { x with tsq := x.tsq.filter fun e => e.dom != d }

theorem State.tsq_stampsTaken (s : State) (d p q : Nat) : ((s.stampsTaken d p).pt q).tsq = if q = p then (s.pt p).tsq.filter (fun e => e.dom != d) else (s.pt q).tsq := by
  by_cases e : q = p
  · subst e; rw [if_pos rfl]; exact congrArg PortSt.tsq (Tbl.get_set_same ({} : PortSt) s.port q _)
  · rw [if_neg e]; exact congrArg PortSt.tsq (Tbl.get_set_ne ({} : PortSt) s.port e _)
theorem State.readStamps_eq (s : State) (d p : Nat) : s.readStamps d p = ((s.pt p).tsq.filter fun e => e.dom == d).foldl (fun a e => a.followUp d p e) (s.stampsTaken d p) := rfl

/-- The message that follows a Sync is a Follow_Up with the Sync's time; a stamp of no message that has one sends nothing. -/
theorem State.followUp_sends (s : State) (d p : Nat) (e : EgressStamp) : ∃ l, State.Sent d l s (s.followUp d p e) ∧ (e.msg = 0 → l = [.service d p 1 (e.time / 2 ^ 24)]) := by
  unfold State.followUp
  dsimp only
  split
  next h3 => exact ⟨_, .ptpSend s d _ _ (by simp [ptpStamp_length, openBytes_length]) p, fun h => by omega⟩
  split
  next h0 => exact ⟨_, .refl d s, fun h => absurd h h0⟩
  split
  · exact ⟨_, .ptpSend s d _ _ (by simp [ptpStamp_length]) p, fun _ => rfl⟩
  · exact ⟨_, .ptpSend s d _ _ (by simp [ptpStamp_length]) p, fun _ => rfl⟩

theorem State.followUps_send (d p : Nat) (l : List EgressStamp) (s : State) : ∃ o, State.Sent d o s (l.foldl (fun a e => a.followUp d p e) s) ∧
    ∀ e ∈ l, e.msg = 0 → .service d p 1 (e.time / 2 ^ 24) ∈ o := by
  induction l generalizing s with
  | nil => exact ⟨[], .refl d s, by simp⟩
  | cons e l ih =>
    obtain ⟨o1, h1, hline⟩ := s.followUp_sends d p e
    obtain ⟨o2, h2, hrest⟩ := ih (s.followUp d p e)
    refine ⟨o1 ++ o2, h1.trans h2, fun x hx h0 => ?_⟩
    rcases List.mem_cons.mp hx with rfl | hx
    · rw [hline h0]; exact List.mem_append_left _ (List.mem_singleton.mpr rfl)
    · exact List.mem_append_right _ (hrest x hx h0)

/-- From a state to one in which the stamps of a domain have been read at some ports: messages sent, stamps taken. -/
structure State.Reads (d : Nat) (s t : State) : Prop where
  flds : s.SameFlds t []
  mem : s.SameMem t
  dev : t.dev = s.dev
  out : ∃ l, t.out = s.out ++ l
  tsq : ∀ q, ∀ x ∈ (t.pt q).tsq, x ∈ (s.pt q).tsq

theorem State.Reads.refl (d : Nat) (s : State) : State.Reads d s s := ⟨.refl s _, .refl s, rfl, ⟨[], (List.append_nil _).symm⟩, fun _ _ h => h⟩
theorem State.Reads.trans {d : Nat} {s t u : State} (h : State.Reads d s t) (h' : State.Reads d t u) : State.Reads d s u := by
  obtain ⟨l, hl⟩ := h.out
  obtain ⟨l', hl'⟩ := h'.out
  exact ⟨h.flds.trans h'.flds, h.mem.trans h'.mem, h'.dev.trans h.dev, ⟨l ++ l', by rw [hl', hl, List.append_assoc]⟩, fun q x hx => h.tsq q x (h'.tsq q x hx)⟩
theorem State.Reads.mem_out {d : Nat} {s t : State} (h : State.Reads d s t) {o : Out} (ho : o ∈ s.out) : o ∈ t.out := by
  obtain ⟨l, hl⟩ := h.out
  rw [hl]; exact List.mem_append_left _ ho

/-- The stamps of one port read: each Sync's time goes out in a Follow_Up, no stamp of the domain is left, and the other ports keep theirs. -/
theorem State.readStamps_spec (s : State) (d p : Nat) : State.Reads d s (s.readStamps d p) ∧ (∀ e ∈ (s.pt p).tsq, e.dom = d → e.msg = 0 → .service d p 1 (e.time / 2 ^ 24) ∈ (s.readStamps d p).out) ∧
    (∀ x ∈ ((s.readStamps d p).pt p).tsq, x.dom ≠ d) ∧ ∀ q, q ≠ p → ((s.readStamps d p).pt q).tsq = (s.pt q).tsq := by
  obtain ⟨o, hsent, hline⟩ := State.followUps_send d p ((s.pt p).tsq.filter fun e => e.dom == d) (s.stampsTaken d p)
  have htsq : ∀ q, ((s.readStamps d p).pt q).tsq = if q = p then (s.pt p).tsq.filter (fun e => e.dom != d) else (s.pt q).tsq := fun q => (hsent.tsq q).trans (s.tsq_stampsTaken d p q)
  refine ⟨⟨State.SameFlds.trans (State.SameFlds.regs (.refl s _) rfl) hsent.flds, (State.sameMem_of rfl rfl rfl : s.SameMem (s.stampsTaken d p)).trans hsent.mem, hsent.dev, ⟨o, hsent.out⟩,
    fun q x hx => ?_⟩, fun e he hd h0 => hsent.mem_out (hline e (List.mem_filter.mpr ⟨he, by simp [hd]⟩) h0), fun x hx => ?_, fun q hq => by rw [htsq, if_neg hq]⟩
  · rw [htsq] at hx
    by_cases e : q = p
    · subst e; rw [if_pos rfl] at hx; exact List.mem_of_mem_filter hx
    · rwa [if_neg e] at hx
  · rw [htsq, if_pos rfl] at hx
    simpa using (List.mem_filter.mp hx).2

theorem State.Reads.foldl (d : Nat) (ps : List Nat) (s : State) : State.Reads d s (ps.foldl (fun a p => a.readStamps d p) s) := by
  induction ps generalizing s with
  | nil => exact .refl d s
  | cons p ps ih => exact (s.readStamps_spec d p).1.trans (ih _)

/-- Every port of a list is read. -/
theorem State.readAll_spec {d p : Nat} {ps : List Nat} (hp : p ∈ ps) (s : State) :
    (∀ e ∈ (s.pt p).tsq, e.dom = d → e.msg = 0 → .service d p 1 (e.time / 2 ^ 24) ∈ (ps.foldl (fun a p => a.readStamps d p) s).out) ∧
    ∀ x ∈ ((ps.foldl (fun a p => a.readStamps d p) s).pt p).tsq, x.dom ≠ d := by
  induction ps generalizing s with
  | nil => simp at hp
  | cons r ps ih =>
    obtain ⟨-, hlines, hleft, hother⟩ := s.readStamps_spec d r
    have hrest := State.Reads.foldl d ps (s.readStamps d r)
    by_cases e : p = r
    · subst e
      exact ⟨fun x hx hd h0 => hrest.mem_out (hlines x hx hd h0), fun x hx => hleft x (hrest.tsq p x hx)⟩
    · obtain ⟨h1, h2⟩ := ih ((List.mem_cons.mp hp).resolve_left e) (s.readStamps d r)
      rw [hother p e] at h1
      exact ⟨h1, h2⟩

theorem ptpInterval_follows {s : State} (o : s.Overlock) (hd : s.dev ≠ .off) {d : Dom} {p : Nat} {e : EgressStamp} (hen : s.on .TPL_DOM_CFG_EN d = true) (hi : s.instType d ≠ 3)
    (hp : p ∈ s.instPorts d) (he : e ∈ (s.pt p).tsq) (hdom : e.dom = d.val) (h0 : e.msg = 0) :
    ∃ t, exec (.ptpMessageIntervalExpiry d .initialEnd) s = .next t ∧ .service d p 1 (e.time / 2 ^ 24) ∈ t.out ∧ (∀ x ∈ (t.pt p).tsq, x.dom ≠ d.val) ∧ s.SameFlds t dropFlds ∧ s.SameMem t := by
  have hreads := State.Reads.foldl d (s.instPorts d) s
  obtain ⟨hline, hleft⟩ := State.readAll_spec hp s
  have hend : ∃ w, s.ptpInterval d .initialEnd = { s.stamps d with ptp := w } := by
    unfold State.ptpInterval
    rw [if_neg (by simp [hen, hi])]
    dsimp only
    split
    · exact ⟨_, rfl⟩
    · exact ⟨(s.stamps d).ptp, rfl⟩
  obtain ⟨w, hw⟩ := hend
  refine ⟨({ s.stamps d with ptp := w } : State).settle, (exec_ptpInterval hd d _).trans (by rw [hw]), ?_, ?_,
    State.SameFlds.settle_of ((State.SameFlds.regs hreads.flds rfl).mono (by simp)) o hreads.dev (by simp), State.SameMem.settle (hreads.mem.trans (State.sameMem_of rfl rfl rfl))⟩
  · rw [State.settle_out]; exact hline e he hdom h0
  · unfold State.pt; rw [State.settle_port]; exact hleft

/-- Where no port holds a stamp of the domain, reading them changes nothing that a later choice sees. -/
theorem State.Admits.stamps {s : State} {d : Nat} (h : ∀ p, ∀ e ∈ (s.pt p).tsq, e.dom ≠ d) : s.Admits (s.stamps d) := by
  have hread : ∀ (ps : List Nat) (a : State), (∀ p, ∀ e ∈ (a.pt p).tsq, e.dom ≠ d) → a.Admits (ps.foldl (fun a p => a.readStamps d p) a) := by
    intro ps
    induction ps with
    | nil => exact fun a _ => .refl a
    | cons p ps ih =>
      intro a ha
      have hnone : (a.pt p).tsq.filter (fun e => e.dom == d) = [] := List.filter_eq_nil_iff.mpr fun e he => by simpa using ha p e he
      have hall : (a.pt p).tsq.filter (fun e => e.dom != d) = (a.pt p).tsq := List.filter_eq_self.mpr fun e he => by simpa using ha p e he
      have hone : a.Admits (a.readStamps d p) := by
        rw [State.readStamps_eq, hnone]
        refine ⟨State.SameFlds.regs (.refl a _) rfl, rfl, fun q => ?_⟩
        rw [List.foldl_nil, a.tsq_stampsTaken, hall]
        split <;> simp [*]
      exact hone.trans (ih _ fun q e he => ha q e (by rwa [hone.tsq] at he))
  exact hread _ s h

theorem State.SameView.of_admits {s t : State} (h : s.Admits t) (d : Nat) : State.SameView d s t :=
  .of_flds h.flds (by simp) h.time h.boot (by rw [State.inst_of_ptp h.ptp]) (by rw [State.inst_of_ptp h.ptp])

theorem ptpInterval_announces {s : State} (o : s.Overlock) (hd : s.dev ≠ .off) {d : Dom} (hen : s.on .TPL_DOM_CFG_EN d = true) (hi : s.instType d ≠ 3) (hact : (s.inst d).actingGm = true)
    (hst : ∀ p, ∀ e ∈ (s.pt p).tsq, e.dom ≠ d.val) : ∃ t, exec (.ptpMessageIntervalExpiry d .announce) s = .next t ∧
      t.out = s.out ++ (s.duePorts d 1 (fun _ => (s.inst d).announceT) (s.masters d)).map (fun p => .service d p 2 (s.ownRank d)) ∧ s.SameFlds t dropFlds ∧ s.SameMem t := by
  have hadm := State.Admits.stamps hst
  have hv := State.SameView.of_admits hadm d.val
  have hinst : (s.stamps d).inst d = s.inst d := State.inst_of_ptp hadm.ptp d
  have hmasters : (s.stamps d).masters d = s.masters d := by
    unfold State.masters
    rw [hv.instPorts (by rw [hinst]), hinst, hv.instType]
  have hdue : (s.stamps d).duePorts d 1 (fun _ => ((s.stamps d).inst d).announceT) ((s.stamps d).masters d) = s.duePorts d 1 (fun _ => (s.inst d).announceT) (s.masters d) := by
    unfold State.duePorts
    rw [hmasters, hinst, show (s.stamps d).lNow = s.lNow from hv.voted 8]
  have he : s.ptpInterval d .announce = ((s.stamps d).ptpSendOn d 2 ((s.stamps d).ownRank d) ((s.stamps d).ownAnnounce d)
      ((s.stamps d).duePorts d 1 (fun _ => ((s.stamps d).inst d).announceT) ((s.stamps d).masters d))).markSent d 1
      ((s.stamps d).duePorts d 1 (fun _ => ((s.stamps d).inst d).announceT) ((s.stamps d).masters d)) := by
    unfold State.ptpInterval
    rw [if_neg (by simp [hen, hi])]
    exact if_pos (by rw [hinst]; exact hact)
  rw [hdue] at he
  have hsent := (State.Sent.ptpSendOn (s.stamps d) d 2 ((s.stamps d).ownRank d) ((s.stamps d).ownAnnounce_short d) (s.duePorts d 1 (fun _ => (s.inst d).announceT) (s.masters d))).trans
    (.markSent _ d 1 (s.duePorts d 1 (fun _ => (s.inst d).announceT) (s.masters d)))
  rw [← he, List.append_nil, hv.ownRank] at hsent
  exact ⟨_, exec_ptpInterval hd d _, by rw [State.settle_out, hsent.out, hadm.out], State.SameFlds.settle_of ((hadm.flds.trans hsent.flds).mono (by simp)) o (hsent.dev.trans hadm.dev) (by simp),
    (hadm.mem.trans hsent.mem).settle⟩

/-- Settles O13, an event of the time service after another. -/
theorem timeService : Obligations.TimeService := by
  unfold Obligations.TimeService
  intro s d o hd
  refine ⟨fun p tIn origin corr ratio f hen hp hb hf hi hst => ptpMessage_sync_slave o hd tIn origin corr ratio hen hp hb hf hi hst,
    fun p tIn origin corr ratio f hen hp hb hf hi hst => ptpMessage_sync_relayed o hd tIn origin corr ratio hen hp hb hf hi hst,
    fun hcap hheard hact hdecl h1 hi hl => ?_, fun p a q b src hen hp hi hact hb hf ht hid hpath hbetter => ?_,
    fun g hb hf hl hc => masterLoss_leaves_none o hd hb hf hl hc, fun g hb hf hl hc hbm hi h3 => masterLoss_becomes o hd hb hf hl hc hbm hi h3,
    fun g hb hf hsync hann => masterLoss_early o hd hb hf hsync hann, fun f since last hr => ⟨fun hgap hhold hact => returnHold_moves o hd hr hgap hhold hact, fun hgap => returnHold_broken o hd hr hgap⟩,
    fun hen hi hact hst => ptpInterval_announces o hd hen hi hact hst, fun p e hen hi _ hp he hdom h0 => ptpInterval_follows o hd hen hi hp he hdom h0, fun k hi => ptpInterval_of_tc o hd k hi⟩
  · have hle := State.listenExpiry_declares hcap hheard hact hdecl h1 hl
    exact ⟨fun hp => gmListenExpiry_loads o hd hle hact h1 hi hp, fun hp => gmListenExpiry_becomes o hd hle hi hp⟩
  · exact ⟨fun hh h1 => betterClock_yields hen hp hi hact hb hf ht hid hpath hbetter o hd hh h1, fun hh hacq hr => betterClock_holds hen hp hi hact hb hf ht hid hpath hbetter o hd hh hacq hr⟩

end Sys2Proof.Machine
end

section
/-!
PROOFS. The topology and supervision services and the port copies (R46, R98, R99, R169, R180, R262).
-/
namespace Sys2Proof.Machine

/-! ## Lines of the log with frames behind them -/

/-- A state without the parts that a service's frame writes, and without the log. -/
def State.untold (s : State) : State := { s.behind with out := [] }

/-- From a state to one in which a service has sent frames, whose lines are `l`. -/
structure State.Told (l : List Out) (s t : State) : Prop where
  flds : s.SameFlds t []
  out : t.out = s.out ++ l
  untold : t.untold = s.untold

theorem State.Told.refl (s : State) : State.Told [] s s := ⟨.refl s _, (List.append_nil _).symm, rfl⟩
theorem State.Told.trans {l l' : List Out} {s t u : State} (h : State.Told l s t) (h' : State.Told l' t u) : State.Told (l ++ l') s u :=
  ⟨h.flds.trans h'.flds, by rw [h'.out, h.out, List.append_assoc], h'.untold.trans h.untold⟩
theorem State.Admits.told {s t : State} (h : s.Admits t) : State.Told [] s t := ⟨h.flds, by rw [h.out, List.append_nil], h.keeps State.untold fun _ => rfl⟩
theorem State.Told.emit (s : State) (o : Out) : State.Told [o] s (s.emit o) := ⟨State.SameFlds.regs (.refl s _) rfl, rfl, rfl⟩
theorem State.Told.draw (s : State) : State.Told [] s { s with free := s.free + 1 } := ⟨State.SameFlds.regs (.refl s _) rfl, (List.append_nil _).symm, rfl⟩

section
variable {l : List Out} {s t : State} (h : State.Told l s t)
include h

theorem State.Told.keeps {β : Type} (g : State → β) (hg : ∀ a, g (State.untold a) = g a) : g t = g s := by rw [← hg t, h.untold, hg]
theorem State.Told.dev : t.dev = s.dev := h.keeps State.dev fun _ => rfl
theorem State.Told.sup : t.sup = s.sup := h.keeps State.sup fun _ => rfl
theorem State.Told.mem : s.SameMem t := State.sameMem_of (h.keeps State.localMem fun _ => rfl) (h.keeps State.dram fun _ => rfl) (h.keeps (fun a => a.boot.nvm) fun _ => rfl)
theorem State.Told.mem_out {o : Out} (ho : o ∈ l) : o ∈ t.out := by rw [h.out]; exact List.mem_append_right _ ho

end

/-! ## A service's frame in its queue (R180) -/

theorem State.frames_updBo (s : State) (b : Nat) (f : BoltSt → BoltSt) (k : Nat) : ((s.updBo b f).qu k).frames = (s.qu k).frames := State.frames_of_queue (s.updBo_queue b f) k
theorem State.frames_pickCells (s : State) (b n k : Nat) : ((s.pickCells b n).2.qu k).frames = (s.qu k).frames := by
  induction n generalizing s with
  | zero => rfl
  | succ n ih =>
    unfold State.pickCells State.draw
    exact (ih _).trans (State.frames_updBo { s with free := s.free + 1 } b _ k)
theorem State.frames_fillCells (s : State) (b : Nat) (l : List Nat) (bs : List Byte) (k : Nat) : ((s.fillCells b l bs).qu k).frames = (s.qu k).frames := by
  induction l generalizing s bs with
  | nil => rfl
  | cons n l ih => exact (ih _ _).trans (s.frames_updBo b _ k)
theorem State.frames_celled (s : State) (q : Nat) (fr : FrameRec) (k : Nat) : ((s.celled q fr).qu k).frames = (s.qu k).frames := (State.frames_fillCells ..).trans (State.frames_pickCells ..)

/-- A frame that enters a queue stands at its end. -/
theorem State.frames_enqueue (s : State) (q : Nat) (fr : FrameRec) (a : Acct) : ((s.enqueue q fr a).qu q).frames = (s.qu q).frames ++ [s.placed q fr a] := by
  rw [State.enqueue_eq, State.frames_of_queue (State.fcUpdate_queue _), State.frames_of_queue (State.pecEvent_queue ..), State.frames_of_queue (State.bump_queue ..), State.frames_acctAdd]
  have hj : ∀ (u : State) (v : Nat), ((u.updQu q fun x => x.joined (s.placed q fr a) v).qu q).frames = (u.qu q).frames ++ [s.placed q fr a] := fun u v =>
    congrArg QSt.frames (Tbl.get_set_same ({} : QSt) u.queue q _)
  rw [hj, State.frames_celled]

theorem State.admitCopy_admitted {s : State} {q : Nat} {fr : FrameRec} {a : Acct} (h : s.admitTest q fr.cells fr.dp fr.service = (.admitted, a)) : (s.admitCopy q fr).2 = s.enqueue q fr a := by
  unfold State.admitCopy
  rw [h]
  dsimp only
  rw [if_pos rfl]
theorem State.serviceFrame_admitted {s : State} {svc p : Nat} {data : List Byte} {act : EgressAct} {dom : Nat} {a : Acct} (hlen : data.length = 60)
    (h : s.admitTest (128 * p + s.boot.pattern.svcQ.get 0 svc % 128) 1 0 true = (.admitted, a)) :
    ∃ fr, ((s.serviceFrame svc p data act dom).qu (128 * p + s.boot.pattern.svcQ.get 0 svc % 128)).frames = (s.qu (128 * p + s.boot.pattern.svcQ.get 0 svc % 128)).frames ++ [fr] ∧
      fr.service = true ∧ fr.data.length = 60 := by
  generalize hq : 128 * p + s.boot.pattern.svcQ.get 0 svc % 128 = q at h
  have hcells : FrameRec.cells { data := padTo 60 data, act := act, tsDom := dom, service := true, src := .service, tIn := s.lNs, edit := {} } = 1 := cells_of_short (l := data) rfl (by omega)
  have he : s.serviceFrame svc p data act dom = s.enqueue q { data := padTo 60 data, act := act, tsDom := dom, service := true, src := .service, tIn := s.lNs, edit := {} } a := by
    unfold State.serviceFrame
    rw [hq]
    exact State.admitCopy_admitted (by rw [hcells]; exact h)
  exact ⟨_, by rw [he]; exact State.frames_enqueue .., rfl, by show (padTo 60 data).length = 60; rw [padTo_length, hlen]; rfl⟩

/-! ## HELLO and TOPOLOGY (R98) -/

theorem exec_ttdpTimer {s : State} (hd : s.dev ≠ .off) (p : Port) (k : TtdpTimer) : exec (.ttdpTimerExpiry p k) s = .next (s.ttdpTimer p k).settle := by
  rw [← State.powered_of hd fun s => s.ttdpTimer p k]; rfl

/-- A message of the topology service noted and logged, before its frame. -/
def State.ttdpNoted (s : State) (p kind : Nat) : State :=
  ({ s with free := s.free + 1, ttdp := { s.ttdp with sentL := s.ttdp.sentL.set 0 (2 * p + kind) s.lNow } } : State).emit (.service 8 p kind s.ttdp.counter)

/-- The bytes of such a message, `key` naming those that the specification does not give. -/
def State.ttdpBytes (s : State) (p key : Nat) : List Byte := openBytes key 0 6 ++ beBytes 6 (s.fld .MAC_ADDR_ADDR p) ++ openBytes key 12 48

theorem State.ttdpBytes_length (s : State) (p key : Nat) : (s.ttdpBytes p key).length = 60 := by unfold State.ttdpBytes; simp [beBytes_length, openBytes_length]
theorem State.ttdpSend_eq (s : State) (p kind : Nat) : s.ttdpSend p kind = (s.ttdpNoted p kind).serviceFrame 1 p (s.ttdpBytes p (Config.freeNat s.free)) .none 8 := rfl
theorem State.ttdpNoted_regs (s : State) (p kind : Nat) : (s.ttdpNoted p kind).regs = s.regs := rfl
theorem State.ttdpNoted_out (s : State) (p kind : Nat) : (s.ttdpNoted p kind).out = s.out ++ [.service 8 p kind s.ttdp.counter] := rfl
theorem State.ttdpNoted_ttdp (s : State) (p kind : Nat) : (s.ttdpNoted p kind).ttdp = { s.ttdp with sentL := s.ttdp.sentL.set 0 (2 * p + kind) s.lNow } := rfl
theorem State.ttdpNoted_mem (s : State) (p kind : Nat) : s.SameMem (s.ttdpNoted p kind) := State.sameMem_of rfl rfl rfl
theorem State.ttdpNoted_admitTest (s : State) (p kind q c d : Nat) (service : Bool) : (s.ttdpNoted p kind).admitTest q c d service = s.admitTest q c d service := rfl

theorem State.ttdpSend_admits (s : State) (p kind : Nat) : (s.ttdpNoted p kind).Admits (s.ttdpSend p kind) := by
  rw [State.ttdpSend_eq]
  exact State.Admits.serviceFrame _ 1 p (by rw [State.ttdpBytes_length]; decide) .none 8 {}

theorem ttdpTimer_sends {s : State} (o : s.Overlock) (hd : s.dev ≠ .off) {p : Port} {k : TtdpTimer} {n : Nat} (he : s.ttdpTimer p k = s.ttdpSend p n) :
    ∃ t, exec (.ttdpTimerExpiry p k) s = .next t ∧ t.out = s.out ++ [.service 8 p n s.ttdp.counter] ∧ t.ttdp.sentL.get 0 (2 * p + n) = s.lNow ∧
      (∀ a, s.admitTest (128 * p + s.boot.pattern.svcQ.get 0 1 % 128) 1 0 true = (.admitted, a) →
        ∃ fr, (t.qu (128 * p + s.boot.pattern.svcQ.get 0 1 % 128)).frames = (s.qu (128 * p + s.boot.pattern.svcQ.get 0 1 % 128)).frames ++ [fr] ∧ fr.service = true ∧ fr.data.length = 60) ∧
      s.SameFlds t dropFlds ∧ s.SameMem t := by
  have hadm := s.ttdpSend_admits p n
  refine ⟨(s.ttdpSend p n).settle, (exec_ttdpTimer hd p k).trans (by rw [he]), ?_, ?_, fun a ha => ?_,
    State.SameFlds.settle_of ((State.SameFlds.trans (State.SameFlds.regs (.refl s _) (s.ttdpNoted_regs p n)) hadm.flds).mono (by simp)) o hadm.dev (by simp), ((s.ttdpNoted_mem p n).trans hadm.mem).settle⟩
  · rw [State.settle_out, hadm.out, State.ttdpNoted_out]
  · rw [State.settle_ttdp, hadm.ttdp, State.ttdpNoted_ttdp]
    exact Tbl.get_set_same ..
  · obtain ⟨fr, hfr, hservice, hlen⟩ := State.serviceFrame_admitted (s := s.ttdpNoted p n) (svc := 1) (p := p) (act := .none) (dom := 8) (s.ttdpBytes_length p (Config.freeNat s.free))
      ((s.ttdpNoted_admitTest p n _ 1 0 true).trans ha)
    rw [← State.ttdpSend_eq] at hfr
    exact ⟨fr, (State.frames_of_queue (State.settle_queue _) _).trans hfr, hservice, hlen⟩

theorem State.ttdpTimer_hello {s : State} {p : Nat} (hp : p ∈ s.ttdp.ports) (hdue : s.ttdp.sentL.get 0 (2 * p) + s.ttdp.helloNs * nsT ≤ s.lNow) : s.ttdpTimer p .hello = s.ttdpSend p 0 :=
  if_pos ⟨List.contains_iff_mem.mpr hp, hdue⟩
theorem State.ttdpTimer_topology {s : State} {p : Nat} (hp : p ∈ s.ttdp.ports) (hdue : s.ttdp.sentL.get 0 (2 * p + 1) + s.ttdp.topologyNs * nsT ≤ s.lNow) : s.ttdpTimer p .topology = s.ttdpSend p 1 :=
  if_pos ⟨List.contains_iff_mem.mpr hp, hdue⟩

theorem ttdpTimer_elsewhere {s : State} (o : s.Overlock) (hd : s.dev ≠ .off) {p : Port} {k : TtdpTimer} (hk : k = .hello ∨ k = .topology) (hp : p.val ∉ s.ttdp.ports) :
    ∃ t, exec (.ttdpTimerExpiry p k) s = .next t ∧ t.out = s.out ∧ t.ttdp = s.ttdp ∧ s.SameFlds t [] ∧ s.SameMem t := by
  have hc : s.ttdp.ports.contains p.val ≠ true := fun h => hp (List.contains_iff_mem.mp h)
  have he : s.ttdpTimer p k = s := by rcases hk with rfl | rfl <;> exact if_neg fun h => hc h.1
  exact ⟨_, (exec_ttdpTimer hd p k).trans (by rw [he]), State.settle_out s, State.settle_ttdp s, State.SameFlds.settle_of (.refl s _) o rfl (by simp), State.SameMem.settle (.refl s)⟩

/-- A change of the topology service's own state alone. -/
theorem ttdpTimer_of_ttdp {s : State} (o : s.Overlock) (hd : s.dev ≠ .off) {p : Port} {k : TtdpTimer} {w : TtdpSt} (he : s.ttdpTimer p k = { s with ttdp := w }) :
    ∃ t, exec (.ttdpTimerExpiry p k) s = .next t ∧ t.ttdp = w ∧ s.SameFlds t [] ∧ s.SameMem t :=
  ⟨({ s with ttdp := w } : State).settle, (exec_ttdpTimer hd p k).trans (by rw [he]), State.settle_ttdp _, State.SameFlds.settle_of (State.SameFlds.regs (.refl s _) rfl) o rfl (by simp),
    State.SameMem.settle (State.sameMem_of rfl rfl rfl)⟩

/-- The service's state when a neighbour has been dropped. -/
def TtdpSt.dropped (x : TtdpSt) (p : Nat) : TtdpSt :=
  if x.inhibit then { x with heard := x.heard.set none p none, kept := true } else { x with heard := x.heard.set none p none, inaugurating := true }

theorem State.ttdpTimer_timeout {s : State} {p src l : Nat} (h : s.ttdp.heard.get none p = some (src, l)) (hl : l + s.ttdp.timeoutNs * nsT ≤ s.lNow) :
    s.ttdpTimer p .helloTimeout = { s with ttdp := s.ttdp.dropped p } := by
  unfold State.ttdpTimer
  simp only [h]
  exact if_pos hl
theorem TtdpSt.heard_dropped (x : TtdpSt) (p : Nat) : (x.dropped p).heard = x.heard.set none p none := by unfold TtdpSt.dropped; split <;> rfl
theorem TtdpSt.change_dropped (x : TtdpSt) (p : Nat) : if x.inhibit then (x.dropped p).kept = true else (x.dropped p).inaugurating = true := by unfold TtdpSt.dropped; split <;> rfl

theorem helloTimeout_drops {s : State} (o : s.Overlock) (hd : s.dev ≠ .off) {p : Port} {src l : Nat} (h : s.ttdp.heard.get none p = some (src, l)) (hl : l + s.ttdp.timeoutNs * nsT ≤ s.lNow) :
    ∃ t, exec (.ttdpTimerExpiry p .helloTimeout) s = .next t ∧ t.ttdp.heard.get none p = none ∧ (∀ q, q ≠ p.val → t.ttdp.heard.get none q = s.ttdp.heard.get none q) ∧
      (if s.ttdp.inhibit then t.ttdp.kept = true else t.ttdp.inaugurating = true) ∧ s.SameFlds t [] ∧ s.SameMem t := by
  obtain ⟨t, ht, hw, hflds, hmem⟩ := ttdpTimer_of_ttdp o hd (State.ttdpTimer_timeout h hl)
  refine ⟨t, ht, ?_, fun q hq => ?_, ?_, hflds, hmem⟩
  · rw [hw, TtdpSt.heard_dropped]; exact Tbl.get_set_same ..
  · rw [hw, TtdpSt.heard_dropped]; exact Tbl.get_set_ne _ _ hq _
  · rw [hw]; exact TtdpSt.change_dropped ..

theorem inhibitEnd_frees {s : State} (o : s.Overlock) (hd : s.dev ≠ .off) {p : Port} (h : s.ttdp.inhibit = true) (hl : s.ttdp.inhibitL + s.ttdp.inhibitNs * nsT ≤ s.lNow) :
    ∃ t, exec (.ttdpTimerExpiry p .inhibitEnd) s = .next t ∧ t.ttdp.inhibit = false ∧ (s.ttdp.kept = true → t.ttdp.inaugurating = true) ∧ s.SameFlds t [] ∧ s.SameMem t := by
  have he : s.ttdpTimer p .inhibitEnd = { s with ttdp := { s.ttdp with inhibit := false, kept := false, inaugurating := s.ttdp.inaugurating || s.ttdp.kept } } := if_pos ⟨h, hl⟩
  obtain ⟨t, ht, hw, hflds, hmem⟩ := ttdpTimer_of_ttdp o hd he
  exact ⟨t, ht, by rw [hw], fun hk => by rw [hw]; simp [hk], hflds, hmem⟩

/-! ## A new topology (R83, R99) -/

/-- From a state to one in which instances have sent messages and set out anew: none has changed its way of choosing. -/
structure State.Renewed (s t : State) : Prop where
  flds : s.SameFlds t []
  unsent : t.unsent = s.unsent
  out : ∃ l, t.out = s.out ++ l
  bmca : ∀ e, (t.inst e).bmca = (s.inst e).bmca

/-- The same, with every rank as it was. -/
def State.Asked (s t : State) : Prop := s.Renewed t ∧ ∀ e, (t.inst e).priority2 = (s.inst e).priority2

theorem State.Renewed.refl (s : State) : s.Renewed s := ⟨.refl s _, rfl, ⟨[], (List.append_nil _).symm⟩, fun _ => rfl⟩
theorem State.Renewed.trans {s t u : State} (h : s.Renewed t) (h' : t.Renewed u) : s.Renewed u := by
  obtain ⟨l, hl⟩ := h.out
  obtain ⟨l', hl'⟩ := h'.out
  exact ⟨h.flds.trans h'.flds, h'.unsent.trans h.unsent, ⟨l ++ l', by rw [hl', hl, List.append_assoc]⟩, fun e => (h'.bmca e).trans (h.bmca e)⟩
theorem State.Asked.trans {s t u : State} (h : s.Asked t) (h' : t.Asked u) : s.Asked u := ⟨h.1.trans h'.1, fun e => (h'.2 e).trans (h.2 e)⟩
theorem State.Renewed.keeps {s t : State} (h : s.Renewed t) {β : Type} (g : State → β) (hg : ∀ a, g (State.unsent a) = g a) : g t = g s := by rw [← hg t, h.unsent, hg]
theorem State.Renewed.mem {s t : State} (h : s.Renewed t) : s.SameMem t :=
  State.sameMem_of (h.keeps State.localMem fun _ => rfl) (h.keeps State.dram fun _ => rfl) (h.keeps (fun a => a.boot.nvm) fun _ => rfl)

theorem State.Sent.asked {d : Nat} {l : List Out} {s t : State} (h : State.Sent d l s t) : s.Asked t := by
  obtain ⟨n, sl, hn⟩ := h.inst
  have hinst : ∀ {β : Type} (f : PtpSt → β), (∀ x n sl, f { x with seqNo := n, sentL := sl } = f x) → ∀ e, f (t.inst e) = f (s.inst e) := fun f hf e => by
    by_cases he : e = d
    · subst he; rw [hn, hf]
    · rw [h.other e he]
  exact ⟨⟨h.flds, h.unsent, ⟨l, h.out⟩, hinst PtpSt.bmca fun _ _ _ => rfl⟩, hinst PtpSt.priority2 fun _ _ _ => rfl⟩

theorem State.inst_setInst_of (s : State) (d : Nat) (x : PtpSt) (e : Nat) : (s.setInst d x).inst e = if e = d then x else s.inst e := by
  split
  · subst_vars; exact State.inst_setInst ..
  · exact State.inst_setInst_ne s ‹_› x
theorem State.Renewed.setInst (s : State) (d : Nat) {x : PtpSt} (h : x.bmca = (s.inst d).bmca) : s.Renewed (s.setInst d x) :=
  ⟨State.SameFlds.regs (.refl s _) rfl, rfl, ⟨[], (List.append_nil _).symm⟩, fun e => by rw [State.inst_setInst_of]; split <;> simp [*]⟩
theorem State.Asked.setInst (s : State) (d : Nat) {x : PtpSt} (h : x.bmca = (s.inst d).bmca) (h2 : x.priority2 = (s.inst d).priority2) : s.Asked (s.setInst d x) :=
  ⟨.setInst s d h, fun e => by rw [State.inst_setInst_of]; split <;> simp [*]⟩

/-- A PTP unit when it has asked port `p` for its delay, before the message. -/
def State.asked (s : State) (d p : Nat) : PtpSt :=
  { s.inst d with lost := (s.inst d).lost.set 0 p ((s.inst d).lost.get 0 p + 1), capable := if (s.inst d).allowedLost < (s.inst d).lost.get 0 p + 1 then (s.inst d).capable.filter (· ≠ p) else (s.inst d).capable }

theorem State.asked_bmca (s : State) (d p : Nat) : (s.asked d p).bmca = (s.inst d).bmca := rfl
theorem State.asked_priority2 (s : State) (d p : Nat) : (s.asked d p).priority2 = (s.inst d).priority2 := rfl
theorem State.pdelayReq_eq (s : State) (d p : Nat) : s.pdelayReq d p = (s.setInst d (s.asked d p)).ptpSend d 3 0 { kind := 3, body := beBytes 20 0, act := .record } p := rfl
theorem State.Asked.pdelayReq (s : State) (d p : Nat) : s.Asked (s.pdelayReq d p) := by
  rw [State.pdelayReq_eq]
  exact (State.Asked.setInst s d (s.asked_bmca d p) (s.asked_priority2 d p)).trans (State.Sent.ptpSend _ d 3 0 (by rw [beBytes_length]; decide) p).asked
theorem State.Asked.pdelayReqs (d : Nat) (ps : List Nat) (s : State) : s.Asked (ps.foldl (fun a p => a.pdelayReq d p) s) := by
  induction ps generalizing s with
  | nil => exact ⟨.refl s, fun _ => rfl⟩
  | cons p ps ih => exact (State.Asked.pdelayReq s d p).trans (ih _)

/-- RANKED: priority2 from the position, 255 in a device that is no ETBN. -/
def rankedPriority (position : Nat) (isEtbn : Bool) : Nat := if isEtbn then 64 + position else 255

/-- The changed ports of a PTP unit that are ETB ports. -/
def State.changedPorts (s : State) (changed : List Nat) (d : Nat) : List Nat := (changed.filter (s.instPorts d).contains).filter s.ttdp.ports.contains

/-- A PTP unit at a new topology, before its requests. -/
def State.renewedInst (s : State) (position : Nat) (isEtbn : Bool) (changed : List Nat) (d : Nat) : PtpSt :=
  { s.inst d with
    nrr := (s.changedPorts changed d).foldl (fun l p => l.erase p) (s.inst d).nrr
    lost := (s.changedPorts changed d).foldl (fun l p => l.erase p) (s.inst d).lost
    initPorts := (s.inst d).initPorts ++ s.changedPorts changed d
    priority2 := if (s.inst d).bmca = 1 then rankedPriority position isEtbn else (s.inst d).priority2 }

theorem State.renewedInst_bmca (s : State) (position : Nat) (isEtbn : Bool) (changed : List Nat) (d : Nat) : (s.renewedInst position isEtbn changed d).bmca = (s.inst d).bmca := rfl
theorem State.renewedInst_priority2 (s : State) (position : Nat) (isEtbn : Bool) (changed : List Nat) (d : Nat) :
    (s.renewedInst position isEtbn changed d).priority2 = if (s.inst d).bmca = 1 then rankedPriority position isEtbn else (s.inst d).priority2 := rfl

theorem State.topologyInst_asked (s : State) (position : Nat) (isEtbn : Bool) (changed : List Nat) (d : Nat) :
    (s.setInst d (s.renewedInst position isEtbn changed d)).Asked (s.topologyInst position isEtbn changed d) := by
  generalize hu : s.setInst d (s.renewedInst position isEtbn changed d) = u
  have he : s.topologyInst position isEtbn changed d =
      if u.on .TPL_DOM_CFG_EN d && u.peerDelay d then ((s.changedPorts changed d).foldl (fun a p => a.pdelayReq d p) u).markSent d 2 (s.changedPorts changed d) else u := by
    subst hu; rfl
  rw [he]
  split
  · exact (State.Asked.pdelayReqs d _ u).trans (State.Sent.markSent _ d 2 _).asked
  · exact ⟨.refl u, fun _ => rfl⟩

theorem State.topologyInst_spec (s : State) (position : Nat) (isEtbn : Bool) (changed : List Nat) (d : Nat) : s.Renewed (s.topologyInst position isEtbn changed d) ∧
    ∀ e, ((s.topologyInst position isEtbn changed d).inst e).priority2 = if e = d ∧ (s.inst e).bmca = 1 then rankedPriority position isEtbn else (s.inst e).priority2 := by
  obtain ⟨hren, hprio⟩ := s.topologyInst_asked position isEtbn changed d
  refine ⟨(State.Renewed.setInst s d (s.renewedInst_bmca ..)).trans hren, fun e => ?_⟩
  rw [hprio, State.inst_setInst_of]
  by_cases he : e = d
  · subst he; rw [if_pos rfl, State.renewedInst_priority2]; simp
  · simp [he]

/-- The first `n` instances at a new topology. -/
def State.topologyInsts (s : State) (position : Nat) (isEtbn : Bool) (changed : List Nat) (n : Nat) : State := (List.range n).foldl (fun a d => a.topologyInst position isEtbn changed d) s

theorem State.topologyInsts_spec (s : State) (position : Nat) (isEtbn : Bool) (changed : List Nat) (n : Nat) : s.Renewed (s.topologyInsts position isEtbn changed n) ∧
    ∀ e, ((s.topologyInsts position isEtbn changed n).inst e).priority2 = if e < n ∧ (s.inst e).bmca = 1 then rankedPriority position isEtbn else (s.inst e).priority2 := by
  induction n with
  | zero => exact ⟨.refl s, fun e => by simp [State.topologyInsts]⟩
  | succ n ih =>
    obtain ⟨hren, hprio⟩ := ih
    obtain ⟨hren', hprio'⟩ := (s.topologyInsts position isEtbn changed n).topologyInst_spec position isEtbn changed n
    have hs : s.topologyInsts position isEtbn changed (n + 1) = (s.topologyInsts position isEtbn changed n).topologyInst position isEtbn changed n := by
      unfold State.topologyInsts; rw [List.range_succ, List.foldl_append]; rfl
    rw [hs]
    refine ⟨hren.trans hren', fun e => ?_⟩
    rw [hprio', hprio, hren.bmca]
    by_cases he : e = n
    · subst he; simp
    · have : e < n + 1 ↔ e < n := by omega
      simp [he, this]

theorem State.foldl_emit {α : Type} (f : α → Out) (l : List α) (s : State) : l.foldl (fun a k => a.emit (f k)) s = { s with out := s.out ++ l.map f } := by
  induction l generalizing s with
  | nil => simp
  | cons k l ih => rw [List.foldl_cons, ih]; simp [State.emit]

/-- The commit second of a distribution: the first whole second at least 1 s later. -/
def State.commitSec (s : State) (backbone : Nat) : Nat := (s.voted backbone + secT + secT - 1) / secT

theorem State.distribute_of_gm {s : State} {backbone : Nat} (h : s.on .TPL_SYNC_CFG_GM backbone = true) (cars : Nat) : s.distribute backbone cars =
    { s with out := s.out ++ [.service 8 0 2 (s.commitSec backbone)] ++ (List.range cars).map fun k => .service 8 (k + 1) 3 (s.commitSec backbone) } := by
  unfold State.distribute
  rw [if_neg (by simp [h])]
  exact State.foldl_emit (fun k => .service 8 (k + 1) 3 (s.commitSec backbone)) (List.range cars) (s.emit (.service 8 0 2 (s.commitSec backbone)))

/-- The service's state at a new topology. -/
def State.topologyNoted (s : State) (counter position : Nat) (isEtbn : Bool) : State :=
  { s with ttdp := { s.ttdp with counter := counter, position := position, isEtbn := isEtbn, inaugurating := false, inhibit := true, inhibitL := s.lNow, kept := false } }

theorem exec_topologyPublish {s : State} (hd : s.dev ≠ .off) (counter position : Nat) (train : Train) (changed : List Port) (backbone : Dom) :
    exec (.topologyPublish counter position train changed backbone) s = .next (s.topology counter position train (changed.map (·.val)) backbone).settle := by
  rw [← State.powered_of hd fun s => s.topology counter position train (changed.map (·.val)) backbone]; rfl

theorem topologyPublish_renews {s : State} (o : s.Overlock) (hd : s.dev ≠ .off) {counter position : Nat} {train : Train} {changed : List Port} {backbone : Dom} (hc : counter ≠ s.ttdp.counter)
    (hgm : s.on .TPL_SYNC_CFG_GM backbone = true) :
    ∃ t, exec (.topologyPublish counter position train changed backbone) s = .next t ∧ t.ttdp.counter = counter ∧ t.ttdp.position = position ∧ t.ttdp.isEtbn = train.isEtbn ∧
      t.ttdp.inhibit = true ∧ t.ttdp.inhibitL = s.lNow ∧ t.ttdp.inaugurating = false ∧
      (∀ d : Dom, (s.inst d).bmca = 1 → (t.inst d).priority2 = if train.isEtbn then 64 + position else 255) ∧ (∀ d : Dom, (s.inst d).bmca ≠ 1 → (t.inst d).priority2 = (s.inst d).priority2) ∧
      .service 8 0 2 ((s.voted backbone + secT + secT - 1) / secT) ∈ t.out ∧ (∀ k < train.cars, .service 8 (k + 1) 3 ((s.voted backbone + secT + secT - 1) / secT) ∈ t.out) ∧
      s.SameFlds t dropFlds ∧ s.SameMem t := by
  obtain ⟨hren, hprio⟩ := (s.topologyNoted counter position train.isEtbn).topologyInsts_spec position train.isEtbn (changed.map (·.val)) 8
  generalize hu : (s.topologyNoted counter position train.isEtbn).topologyInsts position train.isEtbn (changed.map (·.val)) 8 = u at hren hprio
  have hfld : ∀ {f : Fl}, ¬f.shared → ∀ i, u.fld f i = s.fld f i := fun hf i => hren.flds _ i 0 (by simp) hf
  have hgm' : u.on .TPL_SYNC_CFG_GM backbone = true := by unfold State.on; rw [hfld (Fl.not_shared (by decide))]; exact hgm
  have hsec : u.commitSec backbone = s.commitSec backbone := by
    have hv : u.voted backbone = s.voted backbone := State.voted_congr (fun c _ => State.cnt_of_time (hren.keeps State.time fun _ => rfl) backbone c) (hfld (Fl.not_shared (by decide)) 0)
    unfold State.commitSec; rw [hv]
  have he : s.topology counter position train (changed.map (·.val)) backbone =
      { u with out := u.out ++ [.service 8 0 2 (s.commitSec backbone)] ++ (List.range train.cars).map fun k => .service 8 (k + 1) 3 (s.commitSec backbone) } := by
    rw [← hsec, ← State.distribute_of_gm hgm', ← hu]
    exact if_neg hc
  generalize hw : u.out ++ [.service 8 0 2 (s.commitSec backbone)] ++ (List.range train.cars).map (fun k => Out.service 8 (k + 1) 3 (s.commitSec backbone)) = w at he
  have httdp : ({ u with out := w } : State).settle.ttdp = (s.topologyNoted counter position train.isEtbn).ttdp := (State.settle_ttdp _).trans (hren.keeps State.ttdp fun _ => rfl)
  have hinst : ∀ e, ({ u with out := w } : State).settle.inst e = u.inst e := fun e => State.inst_settle _ e
  have hout : ({ u with out := w } : State).settle.out = w := State.settle_out _
  refine ⟨({ u with out := w } : State).settle, (exec_topologyPublish hd ..).trans (by rw [he]), by rw [httdp]; rfl, by rw [httdp]; rfl, by rw [httdp]; rfl, by rw [httdp]; rfl, by rw [httdp]; rfl,
    by rw [httdp]; rfl, fun d h1 => ?_, fun d h1 => ?_, ?_, fun k hk => ?_, State.SameFlds.settle_of ((State.SameFlds.regs (State.SameFlds.trans (State.SameFlds.regs (.refl s _) rfl) hren.flds) rfl).mono
    (by simp)) o (hren.keeps State.dev fun _ => rfl) (by simp), State.SameMem.settle ((State.sameMem_of rfl rfl rfl : s.SameMem (s.topologyNoted counter position train.isEtbn)).trans
    (hren.mem.trans (State.sameMem_of rfl rfl rfl)))⟩
  · rw [hinst, hprio, if_pos ⟨d.isLt, h1⟩]; rfl
  · rw [hinst, hprio, if_neg fun h => h1 h.2]; rfl
  · rw [hout, ← hw]; exact List.mem_append_left _ (List.mem_append_right _ (List.mem_singleton.mpr rfl))
  · rw [hout, ← hw]; exact List.mem_append_right _ (List.mem_map.mpr ⟨k, List.mem_range.mpr hk, rfl⟩)

end Sys2Proof.Machine
end

section
/-!
PROOFS. PRP and HSR supervision (R169).
-/
namespace Sys2Proof.Machine

/-- One supervision frame on port `p`, after its line; `key` names the bytes that the specification does not give. -/
def State.supBytes (s : State) (kind src n p key : Nat) : List Byte :=
  beBytes 5 0x01154E0001 ++ openBytes key 5 1 ++ beBytes 6 (if kind = 0 then src else s.fld .MAC_ADDR_ADDR p) ++ beBytes 2 0x88FB ++ openBytes key 14 2 ++ beBytes 2 n ++ openBytes key 18 42

theorem State.supBytes_length (s : State) (kind src n p key : Nat) : (s.supBytes kind src n p key).length = 60 := by
  unfold State.supBytes; simp [beBytes_length, openBytes_length]

theorem State.Told.supSend (kind v src n : Nat) (ps : List Nat) (s : State) : State.Told (ps.map fun p => .service 9 p kind v) s (s.supSend kind v src n ps) := by
  induction ps generalizing s with
  | nil => exact .refl s
  | cons p ps ih =>
    have hsend : State.Told [.service 9 p kind v] ({ s with free := s.free + 1 } : State) _ := (State.Told.emit _ _).trans (State.Admits.told (State.Admits.serviceFrame
      (({ s with free := s.free + 1 } : State).emit (.service 9 p kind v)) 2 p (data := ({ s with free := s.free + 1 } : State).supBytes kind src n p (Config.freeNat s.free))
      (by rw [State.supBytes_length]; decide) .none 8 { seqOut := if s.on .MEND_PORT_CFG_HSR_RING p then 2 else 3, num := some n }))
    exact ((State.Told.draw s).trans hsend).trans (ih _)

/-- The service's state `w` noted, and the statistics of the nodes counted again. -/
def State.noted (s : State) (w : SupSt) : State := ({ s with sup := w } : State).nodeStats

theorem State.noted_regs (s : State) (w : SupSt) : (s.noted w).regs = s.regs := rfl
theorem State.noted_mem (s : State) (w : SupSt) : s.SameMem (s.noted w) := State.sameMem_of rfl rfl rfl
theorem State.noted_flds (s : State) (w : SupSt) : s.SameFlds (s.noted w) [] := State.SameFlds.regs (.refl s _) (s.noted_regs w)

/-- What is known of a node whose frame port `p` has received. -/
def State.nodeHeard (s : State) (p src : Nat) : Option Nat × Option Nat :=
  if s.on .MEND_PORT_CFG_LAN p then ((s.sup.nodes.get (none, none) src).1, some s.lNow) else (some s.lNow, (s.sup.nodes.get (none, none) src).2)

/-- The service's state when port `p` has received a node's frame. -/
def State.supHeard (s : State) (p src : Nat) : SupSt := { s.sup with nodes := s.sup.nodes.set (none, none) src (s.nodeHeard p src) }

theorem exec_supervisionFrame {s : State} (hd : s.dev ≠ .off) (p : Port) (src : BitVec 48) (seq : BitVec 16) : exec (.supervisionFrame p src seq) s = .next (s.supFrame p src.toNat seq.toNat).settle := by
  rw [← State.powered_of hd fun s => s.supFrame p src.toNat seq.toNat]; rfl
theorem exec_lifeCheckSend {s : State} (hd : s.dev ≠ .off) : exec .lifeCheckSend s = .next s.lifeCheck.settle := by
  rw [← State.powered_of hd fun s => s.lifeCheck]; rfl
theorem exec_forgetTimeExpiry {s : State} (hd : s.dev ≠ .off) (src : BitVec 48) : exec (.forgetTimeExpiry src) s = .next (s.forget src.toNat).settle := by
  rw [← State.powered_of hd fun s => s.forget src.toNat]; rfl

theorem State.supFrame_of_not_ring {s : State} {p : Nat} (h : s.on .MEND_PORT_CFG_HSR_RING p = false) (src seq : Nat) : s.supFrame p src seq = s.noted (s.supHeard p src) := by
  have hc : ¬(s.on .MEND_PORT_CFG_HSR_RING p && !s.ownAddr src && !s.sup.sent.contains (src, seq)) = true := by simp [h]
  exact if_neg hc

theorem State.supFrame_of_ring {s : State} {p src seq : Nat} (h : s.on .MEND_PORT_CFG_HSR_RING p = true) (hown : s.ownAddr src = false) (hnew : (src, seq) ∉ s.sup.sent) :
    s.supFrame p src seq = (s.noted { s.supHeard p src with sent := s.sup.sent ++ [(src, seq)] }).supSend 0 (src * 65536 + seq) src seq (s.otherRing p) := by
  have hc : (s.on .MEND_PORT_CFG_HSR_RING p && !s.ownAddr src && !s.sup.sent.contains (src, seq)) = true := by
    rw [h, hown, Bool.true_and, Bool.not_false, Bool.true_and, Bool.not_eq_true', ← Bool.not_eq_true, List.contains_iff_mem]
    exact hnew
  exact if_pos hc

/-- A service frame or none, after the service's own state has changed. -/
theorem State.Told.settled {s t : State} {w : SupSt} {l : List Out} (o : s.Overlock) (h : State.Told l (s.noted w) t) :
    t.settle.sup = w ∧ t.settle.out = s.out ++ l ∧ s.SameFlds t.settle [] ∧ s.SameMem t.settle :=
  ⟨(State.settle_sup t).trans h.sup, (State.settle_out t).trans h.out, State.SameFlds.settle_of ((s.noted_flds w).trans h.flds) o h.dev (by simp), State.SameMem.settle ((s.noted_mem w).trans h.mem)⟩

theorem supervisionFrame_notes {s : State} (o : s.Overlock) (hd : s.dev ≠ .off) {p : Port} (h : s.on .MEND_PORT_CFG_HSR_RING p = false) (src : BitVec 48) (seq : BitVec 16) :
    ∃ t, exec (.supervisionFrame p src seq) s = .next t ∧
    t.sup.nodes.get (none, none) src.toNat = (if s.on .MEND_PORT_CFG_LAN p then ((s.sup.nodes.get (none, none) src.toNat).1, some s.lNow)
      else (some s.lNow, (s.sup.nodes.get (none, none) src.toNat).2)) ∧ t.out = s.out ∧ s.SameFlds t [] ∧ s.SameMem t := by
  obtain ⟨hsup, hout, hflds, hmem⟩ := (State.Told.refl (s.noted (s.supHeard p src.toNat))).settled o
  refine ⟨(s.noted (s.supHeard p src.toNat)).settle, (exec_supervisionFrame hd p src seq).trans (by rw [State.supFrame_of_not_ring h]), ?_, by rw [hout, List.append_nil], hflds, hmem⟩
  rw [hsup]
  exact Tbl.get_set_same ..

theorem supervisionFrame_forwards {s : State} (o : s.Overlock) (hd : s.dev ≠ .off) {p : Port} (h : s.on .MEND_PORT_CFG_HSR_RING p = true) {src : BitVec 48} {seq : BitVec 16} (hown : s.ownAddr src.toNat = false)
    (hnew : (src.toNat, seq.toNat) ∉ s.sup.sent) :
    ∃ t, exec (.supervisionFrame p src seq) s = .next t ∧ (∀ q ∈ s.otherRing p, .service 9 q 0 (src.toNat * 65536 + seq.toNat) ∈ t.out) ∧ (src.toNat, seq.toNat) ∈ t.sup.sent ∧
      s.SameFlds t dropFlds ∧ s.SameMem t := by
  obtain ⟨hsup, hout, hflds, hmem⟩ := (State.Told.supSend 0 (src.toNat * 65536 + seq.toNat) src.toNat seq.toNat (s.otherRing p)
    (s.noted { s.supHeard p src.toNat with sent := s.sup.sent ++ [(src.toNat, seq.toNat)] })).settled o
  refine ⟨_, (exec_supervisionFrame hd p src seq).trans (by rw [State.supFrame_of_ring h hown hnew]), fun q hq => ?_, ?_, hflds.mono (by simp), hmem⟩
  · rw [hout]
    exact List.mem_append_right _ (List.mem_map.mpr ⟨q, hq, rfl⟩)
  · rw [hsup]
    exact List.mem_append_right _ (List.mem_singleton.mpr rfl)

/-! ## The life-check message, and nodes that fall silent -/

/-- The HSR and PRP ports. -/
def State.supPorts (s : State) : List Nat := (List.range 128).filter fun p => s.on .MEND_PORT_CFG_HSR_RING p || s.on .MEND_PORT_CFG_PRP_PORT p

theorem State.mem_supPorts {s : State} {p : Port} (h : s.on .MEND_PORT_CFG_HSR_RING p = true ∨ s.on .MEND_PORT_CFG_PRP_PORT p = true) : p.val ∈ s.supPorts :=
  List.mem_filter.mpr ⟨List.mem_range.mpr p.isLt, Bool.or_eq_true_iff.mpr h⟩

/-- The service's state when a life-check message goes out. -/
def State.supAlive (s : State) : SupSt := { s.sup with lastLife := s.lNow, number := (s.sup.number + 1) % 65536 }

theorem lifeCheckSend_sends {s : State} (o : s.Overlock) (hd : s.dev ≠ .off) (p : Port) (hdue : s.sup.lastLife + s.sup.interval * 1000000 * nsT ≤ s.lNow) :
    ∃ t, exec .lifeCheckSend s = .next t ∧ t.sup.lastLife = s.lNow ∧ t.sup.number = (s.sup.number + 1) % 65536 ∧
    (s.on .MEND_PORT_CFG_HSR_RING p = true ∨ s.on .MEND_PORT_CFG_PRP_PORT p = true → .service 9 p 1 s.sup.number ∈ t.out) ∧ s.SameFlds t dropFlds ∧ s.SameMem t := by
  have he : s.lifeCheck = ({ s with sup := s.supAlive } : State).supSend 1 s.sup.number 0 s.sup.number s.supPorts := if_pos hdue
  have htold := State.Told.supSend 1 s.sup.number 0 s.sup.number s.supPorts ({ s with sup := s.supAlive } : State)
  rw [← he] at htold
  refine ⟨s.lifeCheck.settle, exec_lifeCheckSend hd, ?_, ?_, fun hp => ?_, State.SameFlds.settle_of ((State.SameFlds.trans (State.SameFlds.regs (.refl s _) rfl) htold.flds).mono (by simp)) o htold.dev (by simp),
    State.SameMem.settle ((State.sameMem_of rfl rfl rfl : s.SameMem ({ s with sup := s.supAlive } : State)).trans htold.mem)⟩
  · rw [State.settle_sup, htold.sup]; rfl
  · rw [State.settle_sup, htold.sup]; rfl
  · rw [State.settle_out]
    exact htold.mem_out (List.mem_map.mpr ⟨p.val, State.mem_supPorts hp, rfl⟩)

theorem State.forget_old {s : State} {src x y : Nat} (h : s.sup.nodes.get (none, none) src = (some x, some y)) (hx : x + forgetT ≤ s.lNow) (hy : y + forgetT ≤ s.lNow) :
    s.forget src = s.noted { s.sup with nodes := s.sup.nodes.set (none, none) src (none, none) } := by
  unfold State.forget
  simp only [h, if_pos hx, if_pos hy]
  rfl

theorem forgetTimeExpiry_forgets {s : State} (o : s.Overlock) (hd : s.dev ≠ .off) {src : BitVec 48} {x y : Nat} (h : s.sup.nodes.get (none, none) src.toNat = (some x, some y))
    (hx : x + forgetT ≤ s.lNow) (hy : y + forgetT ≤ s.lNow) :
    ∃ t, exec (.forgetTimeExpiry src) s = .next t ∧ t.sup.nodes.get (none, none) src.toNat = (none, none) ∧ s.SameFlds t [] ∧ s.SameMem t := by
  obtain ⟨hsup, -, hflds, hmem⟩ := (State.Told.refl (s.noted { s.sup with nodes := s.sup.nodes.set (none, none) src.toNat (none, none) })).settled o
  refine ⟨_, (exec_forgetTimeExpiry hd src).trans (by rw [State.forget_old h hx hy]), ?_, hflds, hmem⟩
  rw [hsup]
  exact Tbl.get_set_same (none, none) s.sup.nodes src.toNat (none, none)

end Sys2Proof.Machine
end

section
/-!
PROOFS. A port's copies of domain time (R46, R91, R262).
-/
namespace Sys2Proof.Machine

/-! ## What a port has heard of time, and what leaves it alone -/

/-- What a port has heard of time: its copies, its guardian's comparisons of them and its in-sync state. -/
def PortSt.heard (x : PortSt) : Option TimeCopy × GuardSt × Bool := (x.copy, x.guard, x.inSync)

/-- What port `p` has heard of time. -/
def State.heard (s : State) (p : Nat) : Option TimeCopy × GuardSt × Bool := (s.pt p).heard

theorem State.pt_of_port {s t : State} (h : t.port = s.port) (p : Nat) : t.pt p = s.pt p := by unfold State.pt; rw [h]
theorem State.heard_of_port {s t : State} (h : t.port = s.port) (p : Nat) : t.heard p = s.heard p := congrArg PortSt.heard (State.pt_of_port h p)
theorem State.pt_updPt (s : State) (p : Nat) (f : PortSt → PortSt) : (s.updPt p f).pt p = f (s.pt p) := Tbl.get_set_same ({} : PortSt) s.port p _
theorem State.heard_updPt (s : State) (q : Nat) {f : PortSt → PortSt} (h : ∀ x, (f x).heard = x.heard) (p : Nat) : (s.updPt q f).heard p = s.heard p := by
  by_cases e : p = q
  · subst e; exact (congrArg PortSt.heard (s.pt_updPt p f)).trans (h _)
  · exact congrArg PortSt.heard (Tbl.get_set_ne ({} : PortSt) s.port e _)
theorem State.HostOnly.port {s t : State} (h : s.HostOnly t) : t.port = s.port := by obtain ⟨_, _, _, _, rfl⟩ := h; rfl

theorem State.heard_lose (s : State) (fr : FrameRec) (step reason scope status p : Nat) : (s.lose fr step reason scope status).heard p = s.heard p := by
  refine State.heard_of_port ?_ p
  unfold State.lose State.fate
  rw [(State.hostOnly_hostFate ..).port]
  split <;> simp
theorem State.heard_fcUpdate (s : State) (p : Nat) : s.fcUpdate.heard p = s.heard p := by
  refine foldl_keeps (State.heard · p) _ (fun a q => ?_) _ s
  unfold State.fcPort State.sendXoff State.sendXon State.queueCtrl
  repeat' split
  · rfl
  · exact (State.heard_updPt _ q (by intro x; rfl) p).trans (a.heard_updPt q (by intro x; rfl) p)
  · exact (State.heard_updPt _ q (by intro x; rfl) p).trans (a.heard_updPt q (by intro x; rfl) p)
  · rfl
theorem State.heard_acctAdd (s : State) (q : Nat) (a : Acct) (c : Int) (p : Nat) : (s.acctAdd q a c).heard p = s.heard p := by
  cases a with
  | ctrl => rfl
  | reserve => exact s.heard_updPt _ (by intro x; rfl) p
  | shared => rfl
theorem State.heard_freeFrame (s : State) (fr : FrameRec) (p : Nat) : (s.freeFrame fr).heard p = s.heard p :=
  (State.heard_fcUpdate _ p).trans (State.heard_acctAdd (s.updQu fr.q _) fr.q fr.acct _ p)
theorem State.heard_discardHeld (s : State) (fr : FrameRec) (step reason scope status p : Nat) : (s.discardHeld fr step reason scope status).heard p = s.heard p :=
  (State.heard_freeFrame _ fr p).trans (s.heard_lose fr step reason scope status p)
theorem State.heard_dropStaged (s : State) (q : Nat) (keep : Staged → Bool) (p : Nat) : (s.dropStaged q keep).heard p = s.heard p := by
  refine (foldl_keeps (State.heard · p) _ (fun a x => ?_) _ _).trans (s.heard_updPt q (by intro x; rfl) p)
  have hc : (a.portCount q 46).heard p = a.heard p := State.heard_of_port (a.portCount_port ..) p
  unfold State.loseStaged
  split
  · exact (State.heard_discardHeld ..).trans hc
  · exact (State.heard_lose ..).trans hc
theorem State.heard_dropQueue (s : State) (q p : Nat) : (s.dropQueue q).heard p = s.heard p :=
  foldl_keeps (State.heard · p) _ (fun a f => a.heard_discardHeld f _ _ _ _ p) _ (s.updQu q _)
theorem State.heard_dropSched (s : State) (q p : Nat) : (s.dropSched q).heard p = s.heard p := by
  refine (foldl_keeps (State.heard · p) _ (fun a t => ?_) _ _).trans (s.heard_dropStaged q _ p)
  split
  · refine foldl_keeps (State.heard · p) _ (fun b n => ?_) _ a
    split
    · rfl
    · exact b.heard_dropQueue _ p
  · rfl
/-- A suspension or a resumption of scheduled classes leaves what a port has heard as the change that brings it about does. -/
theorem State.heard_withSched (s : State) (q : Nat) (f : State → State) (p : Nat) : (s.withSched q f).heard p = (f s).heard p := by
  unfold State.withSched
  dsimp only
  repeat' split
  · exact (State.heard_dropSched ..).trans (State.heard_updPt _ q (by intro x; rfl) p)
  · exact State.heard_updPt _ q (by intro x; rfl) p
  · rfl

/-! ## An update of a port's time -/

/-- Port `p` hears of time. -/
def State.hears (s : State) (p : Nat) (c : TimeCopy) (sync : Bool) : State := s.updPt p fun x => { x with copy := some c, inSync := sync }

/-- The port updated, its copies not yet compared. -/
def State.portHeard (s : State) (p : Nat) (skew : Int) : State := s.withSched p fun a => a.hears p (s.timeCopy p skew) (s.inSync (s.schedDom p))

theorem State.portTime_eq (s : State) (p : Nat) (skew : Int) : s.portTime p skew = (s.portHeard p skew).copyCompare p := rfl
theorem exec_portTimeUpdate {s : State} (hd : s.dev ≠ .off) (p : Port) (skew : Int) : exec (.portTimeUpdate p skew) s = .next (s.portTime p skew).settle := by
  rw [← State.powered_of hd fun s => s.portTime p skew]; rfl

theorem State.heard_portHeard (s : State) (p : Nat) (skew : Int) : (s.portHeard p skew).heard p = (some (s.timeCopy p skew), (s.pt p).guard, s.inSync (s.schedDom p)) :=
  (State.heard_withSched ..).trans (congrArg PortSt.heard (s.pt_updPt p _))
theorem State.copy_portHeard (s : State) (p : Nat) (skew : Int) : ((s.portHeard p skew).pt p).copy = some (s.timeCopy p skew) := congrArg Prod.fst (s.heard_portHeard p skew)
theorem State.guard_portHeard (s : State) (p : Nat) (skew : Int) : ((s.portHeard p skew).pt p).guard = (s.pt p).guard := congrArg (·.2.1) (s.heard_portHeard p skew)
theorem State.inSync_portHeard (s : State) (p : Nat) (skew : Int) : ((s.portHeard p skew).pt p).inSync = s.inSync (s.schedDom p) := congrArg (·.2.2) (s.heard_portHeard p skew)

theorem State.Spared.portHeard {β : Type} {g : State → β} (k : State.Spared g) (s : State) (p : Nat) (skew : Int) : g (s.portHeard p skew) = g s := k.withSched s p fun a => k.updPt a ..
theorem State.portHeard_time (s : State) (p : Nat) (skew : Int) : (s.portHeard p skew).time = s.time := State.Spared.of_time.portHeard ..
theorem State.portHeard_schedDom (s : State) (p : Nat) (skew : Int) : (s.portHeard p skew).schedDom p = s.schedDom p :=
  (State.Spared.of_fld (f := .SHTL_GCL_CFG_DOM) (by decide) p 0).portHeard s p skew
theorem State.portHeard_guardDom (s : State) (p : Nat) (skew : Int) : (s.portHeard p skew).fld .SELV_GUARD_STATUS_DOM p = s.fld .SELV_GUARD_STATUS_DOM p :=
  (State.Spared.of_fld (f := .SELV_GUARD_STATUS_DOM) (by decide) p 0).portHeard s p skew

/-- A port whose in-sync state stays carries its scheduled classes as before. -/
theorem State.portHeard_of_inSync {s : State} {p : Nat} (h : (s.pt p).inSync = s.inSync (s.schedDom p)) (skew : Int) :
    s.portHeard p skew = s.hears p (s.timeCopy p skew) (s.inSync (s.schedDom p)) := by
  have hup : (s.hears p (s.timeCopy p skew) (s.inSync (s.schedDom p))).schedUp p = s.schedUp p := by
    unfold State.schedUp State.hears
    rw [State.pt_updPt, ← h]
    rfl
  unfold State.portHeard State.withSched
  dsimp only
  rw [hup]
  cases s.schedUp p <;> rfl

/-! ## The two copies and their comparison -/

theorem State.sinceCopy_now {s : State} {c : TimeCopy} (h : c.atL = s.lNow) (x v : Nat) : s.sinceCopy c x v = v := by
  unfold State.sinceCopy
  rw [h, Nat.sub_self, Nat.zero_div]
  simp

/-- The guardian's copy of time as it arrives with an update: counter C as the second path carries it. -/
def State.guardTime (s : State) (x : Nat) (skew : Int) : Nat := ((s.cnt x 2 : Int) + skew * 2 ^ 40 / 1000).toNat

theorem State.portHeard_lNow (s : State) (p : Nat) (skew : Int) : (s.portHeard p skew).lNow = s.lNow :=
  State.voted_congr (fun c _ => State.cnt_of_time (s.portHeard_time p skew) _ c) ((State.Spared.of_fld (f := .TPL_VOTE_STATUS_EXCL) (by decide) 0 0).portHeard s p skew)
theorem State.vals_timeCopy {s : State} {p x : Nat} (h : x < 9) (skew : Int) : (s.timeCopy p skew).vals.getD x 0 = s.voted x := by
  unfold State.timeCopy
  simp [List.getD_eq_getElem?_getD, h]
theorem State.nowR_portHeard {s : State} {p : Nat} (h : s.schedDom p < 9) (skew : Int) : (s.portHeard p skew).nowR p = s.voted (s.schedDom p) := by
  unfold State.nowR State.relD
  rw [s.copy_portHeard, s.portHeard_schedDom]
  exact (State.sinceCopy_now (s.portHeard_lNow p skew).symm _ _).trans (State.vals_timeCopy h skew)
theorem State.nowG_portHeard {s : State} {p : Nat} (h : s.fld .SELV_GUARD_STATUS_DOM p = s.schedDom p) (skew : Int) : (s.portHeard p skew).nowG p = s.guardTime (s.schedDom p) skew := by
  unfold State.nowG
  dsimp only
  rw [s.copy_portHeard, s.portHeard_guardDom]
  exact (if_pos rfl).trans ((State.sinceCopy_now (s.portHeard_lNow p skew).symm _ _).trans (by unfold State.timeCopy State.guardTime; rw [h]))
theorem State.copiesDiffer_portHeard {s : State} {p : Nat} (h : s.schedDom p < 9) (hg : s.fld .SELV_GUARD_STATUS_DOM p = s.schedDom p) (skew : Int) : (s.portHeard p skew).copiesDiffer p =
    decide (nsT < (s.voted (s.schedDom p) - s.guardTime (s.schedDom p) skew) + (s.guardTime (s.schedDom p) skew - s.voted (s.schedDom p))) := by
  unfold State.copiesDiffer
  rw [State.nowR_portHeard h, State.nowG_portHeard hg]

/-- A change of a guardian's own comparisons alone. -/
def State.setGuard (s : State) (p : Nat) (g : GuardSt) : State := s.updPt p fun x => { x with guard := g }

theorem State.setGuard_heard (s : State) (p : Nat) (g : GuardSt) : (s.setGuard p g).heard p = ((s.pt p).copy, g, (s.pt p).inSync) := congrArg PortSt.heard (s.pt_updPt p _)
theorem State.setGuard_guard (s : State) (p : Nat) (g : GuardSt) : ((s.setGuard p g).pt p).guard = g := congrArg (·.2.1) (s.setGuard_heard p g)

/-- The comparison of copies that agree. -/
theorem State.copyCompare_agree {s : State} {p : Nat} (h : s.copiesDiffer p = false) : ∃ n, (s.copyCompare p).heard p = ((s.pt p).copy, { (s.pt p).guard with badRun := 0, goodRun := n }, (s.pt p).inSync) ∧
    s.SameFlds (s.copyCompare p) [(.SELV_GUARD_STATUS_COPY_HOLD, p)] ∧ s.SameMem (s.copyCompare p) ∧ (s.copyCompare p).dev = s.dev := by
  have he : s.copyCompare p = if 2 ≤ (s.pt p).guard.goodRun + 1 then (s.setGuard p { (s.pt p).guard with badRun := 0, goodRun := min 2 ((s.pt p).guard.goodRun + 1) }).setFld .SELV_GUARD_STATUS_COPY_HOLD p 0 0
      else s.setGuard p { (s.pt p).guard with badRun := 0, goodRun := min 2 ((s.pt p).guard.goodRun + 1) } := by
    unfold State.copyCompare
    rw [h]
    rfl
  have hflds : ∀ g, s.SameFlds (s.setGuard p g) [(.SELV_GUARD_STATUS_COPY_HOLD, p)] := fun g => State.SameFlds.regs (.refl s _) rfl
  refine ⟨min 2 ((s.pt p).guard.goodRun + 1), ?_⟩
  rw [he]
  split
  · exact ⟨(State.heard_of_port rfl p).trans (s.setGuard_heard p _), (hflds _).setFld (by simp) 0 0, State.sameMem_of rfl rfl rfl, rfl⟩
  · exact ⟨s.setGuard_heard p _, hflds _, State.sameMem_of rfl rfl rfl, rfl⟩

/-- The block of a port whose copies differ (R262). -/
def State.copyBlocked (s : State) (p : Nat) : State :=
  if s.on .SELV_GUARD_STATUS_COPY_HOLD p then s else ((s.setFld .SELV_GUARD_STATUS_COPY_HOLD p 0 1).event .SELV_EVENT_COPY_BLOCK p).fault 2 3 p

/-- The fields that the block may change. -/
abbrev blockFlds (p : Nat) : List (Fl × Nat) := (.SELV_GUARD_STATUS_COPY_HOLD, p) :: (.SELV_EVENT_COPY_BLOCK, p) :: faultFlds

theorem State.SameFlds.copyBlocked (s : State) (p : Nat) : s.SameFlds (s.copyBlocked p) (blockFlds p) := by
  unfold State.copyBlocked
  split
  · exact .refl s _
  · exact State.SameFlds.fault (State.SameFlds.event (State.SameFlds.setFld (.refl s _) (by simp) 0 1) (.inl (by simp))) (fun e he => List.mem_cons_of_mem _ (List.mem_cons_of_mem _ he)) (by decide) 3 p
theorem State.copyBlocked_hold (s : State) (p : Nat) : (s.copyBlocked p).on .SELV_GUARD_STATUS_COPY_HOLD p = true := by
  unfold State.copyBlocked
  split
  · assumption
  · have hfault : State.SameFlds _ _ faultFlds := State.SameFlds.fault (.refl ((s.setFld .SELV_GUARD_STATUS_COPY_HOLD p 0 1).event .SELV_EVENT_COPY_BLOCK p) _) (fun _ he => he) (sev := 2) (by decide) 3 p
    have hfld := hfault .SELV_GUARD_STATUS_COPY_HOLD p 0 (by simp) (Fl.not_shared (by decide))
    unfold State.on
    rw [hfld, State.fld_event _ _ _ _ _ (by decide) (by decide) (by decide), State.fld_setFld_same]
    decide
theorem State.copyBlocked_port (s : State) (p : Nat) : (s.copyBlocked p).port = s.port := by
  unfold State.copyBlocked
  split <;> simp
theorem State.copyBlocked_dev (s : State) (p : Nat) : (s.copyBlocked p).dev = s.dev := by
  unfold State.copyBlocked
  split <;> simp
theorem State.copyBlocked_mem (s : State) (p : Nat) : s.SameMem (s.copyBlocked p) := by
  unfold State.copyBlocked
  split
  · exact .refl s
  · exact State.sameMem_of (by simp) (by simp) (by simp)

/-- The fields that the first difference of a port's copies may change. -/
abbrev differFlds (p : Nat) : List (Fl × Nat) := (.SELV_GUARD_STATUS_COPY_HOLD, p) :: (.TPL_EVENT_PORT_COPY, 0) :: (.SELV_EVENT_COPY_BLOCK, p) :: faultFlds

/-- The comparison of copies that differ, for the first time in a row. -/
theorem State.copyCompare_differ {s : State} {p : Nat} (h : s.copiesDiffer p = true) (h0 : (s.pt p).guard.badRun = 0) : ((s.copyCompare p).pt p).guard.badRun = 1 ∧
    (s.copyCompare p).fld .TPL_EVENT_PORT_COPY = 1 ∧ (s.copyCompare p).on .SELV_GUARD_STATUS_COPY_HOLD p = true ∧ s.SameFlds (s.copyCompare p) (differFlds p) ∧ s.SameMem (s.copyCompare p) ∧
    (s.copyCompare p).dev = s.dev := by
  generalize hu : (s.event .TPL_EVENT_PORT_COPY).setGuard p { (s.pt p).guard with badRun := (s.pt p).guard.badRun + 1, goodRun := 0 } = u
  have he : s.copyCompare p = u.copyBlocked p := by
    subst hu
    unfold State.copyCompare
    dsimp only
    rw [if_pos h, if_neg (by omega)]
    rfl
  have hflds : s.SameFlds u (differFlds p) := by
    subst hu
    exact State.SameFlds.regs (State.SameFlds.event (.refl s _) (.inl (by simp))) rfl
  have hcopy : u.fld .TPL_EVENT_PORT_COPY = 1 := by
    subst hu
    exact (s.fld_event_same .TPL_EVENT_PORT_COPY 0 (by decide) (by decide)).trans (by decide)
  have hbad : (u.pt p).guard.badRun = 1 := by
    subst hu
    rw [State.setGuard_guard]
    exact congrArg (· + 1) h0
  have hmem : s.SameMem u := by subst hu; exact State.sameMem_of (by simp [State.setGuard]) (by simp [State.setGuard]) (by simp [State.setGuard])
  have hdev : u.dev = s.dev := by subst hu; exact s.event_dev ..
  rw [he]
  exact ⟨by rw [State.pt_of_port (u.copyBlocked_port p)]; exact hbad, (State.SameFlds.copyBlocked u p .TPL_EVENT_PORT_COPY 0 0 (by simp) (Fl.not_shared (by decide))).trans hcopy, u.copyBlocked_hold p,
    hflds.trans ((State.SameFlds.copyBlocked u p).mono fun e he => by simp only [List.mem_cons] at he ⊢; tauto), hmem.trans (u.copyBlocked_mem p), (u.copyBlocked_dev p).trans hdev⟩

theorem State.SameFlds.hears (s : State) (p : Nat) (c : TimeCopy) (sync : Bool) (l : List (Fl × Nat)) : s.SameFlds (s.hears p c sync) l := State.SameFlds.regs (.refl s _) rfl
theorem State.hears_mem (s : State) (p : Nat) (c : TimeCopy) (sync : Bool) : s.SameMem (s.hears p c sync) := State.sameMem_of rfl rfl rfl

theorem portTimeUpdate_agrees {s : State} (o : s.Overlock) (hd : s.dev ≠ .off) {p : Port} (hdom : s.schedDom p < 9) (hg : s.fld .SELV_GUARD_STATUS_DOM p = s.schedDom p) {skew : Int}
    (h : (s.voted (s.schedDom p) - s.guardTime (s.schedDom p) skew) + (s.guardTime (s.schedDom p) skew - s.voted (s.schedDom p)) ≤ nsT) :
    ∃ t, exec (.portTimeUpdate p skew) s = .next t ∧ (t.pt p).copy = some (s.timeCopy p skew) ∧ (t.pt p).guard.badRun = 0 ∧ (t.pt p).inSync = s.inSync (s.schedDom p) ∧
      ((s.pt p).inSync = s.inSync (s.schedDom p) → s.SameFlds t [(.SELV_GUARD_STATUS_COPY_HOLD, p)] ∧ s.SameMem t) := by
  have hc : (s.portHeard p skew).copiesDiffer p = false := (State.copiesDiffer_portHeard hdom hg skew).trans (decide_eq_false (by omega))
  obtain ⟨n, hheard, hflds, hmem, hdev⟩ := State.copyCompare_agree hc
  rw [s.copy_portHeard, s.guard_portHeard, s.inSync_portHeard] at hheard
  rw [← State.portTime_eq] at hheard hflds hmem hdev
  refine ⟨(s.portTime p skew).settle, exec_portTimeUpdate hd p skew, ?_, ?_, ?_, fun hs => ?_⟩
  · rw [State.pt_settle]; exact congrArg Prod.fst hheard
  · rw [State.pt_settle]; exact congrArg (·.2.1.badRun) hheard
  · rw [State.pt_settle]; exact congrArg (·.2.2) hheard
  · rw [State.portHeard_of_inSync hs] at hflds hmem hdev
    exact ⟨State.SameFlds.settle_of ((State.SameFlds.hears s p _ _ _).trans hflds) o hdev (by simp [Fl.settled]), State.SameMem.settle ((s.hears_mem p _ _).trans hmem)⟩

theorem portTimeUpdate_differs {s : State} (o : s.Overlock) (hd : s.dev ≠ .off) {p : Port} (hdom : s.schedDom p < 9) (hg : s.fld .SELV_GUARD_STATUS_DOM p = s.schedDom p) {skew : Int}
    (h : nsT < (s.voted (s.schedDom p) - s.guardTime (s.schedDom p) skew) + (s.guardTime (s.schedDom p) skew - s.voted (s.schedDom p))) (h0 : (s.pt p).guard.badRun = 0) :
    ∃ t, exec (.portTimeUpdate p skew) s = .next t ∧ (t.pt p).guard.badRun = 1 ∧ t.fld .TPL_EVENT_PORT_COPY = 1 ∧ t.on .SELV_GUARD_STATUS_COPY_HOLD p = true ∧
      ((s.pt p).inSync = s.inSync (s.schedDom p) →
        s.SameFlds t ((.SELV_GUARD_STATUS_COPY_HOLD, p.val) :: (.TPL_EVENT_PORT_COPY, 0) :: (.SELV_EVENT_COPY_BLOCK, p.val) :: faultFlds) ∧ s.SameMem t) := by
  have hc : (s.portHeard p skew).copiesDiffer p = true := (State.copiesDiffer_portHeard hdom hg skew).trans (decide_eq_true h)
  obtain ⟨hbad, hcopy, hhold, hflds, hmem, hdev⟩ := State.copyCompare_differ hc (by rw [s.guard_portHeard]; exact h0)
  rw [← State.portTime_eq] at hbad hcopy hhold hflds hmem hdev
  refine ⟨(s.portTime p skew).settle, exec_portTimeUpdate hd p skew, ?_, ?_, ?_, fun hs => ?_⟩
  · rw [State.pt_settle]; exact hbad
  · rw [State.fld_settle_of _ (by decide)]; exact hcopy
  · unfold State.on at hhold ⊢
    rw [State.fld_settle_of _ (by decide)]; exact hhold
  · rw [State.portHeard_of_inSync hs] at hflds hmem hdev
    exact ⟨State.SameFlds.settle_of ((State.SameFlds.hears s p _ _ _).trans hflds) o hdev (by simp [Fl.settled]), State.SameMem.settle ((s.hears_mem p _ _).trans hmem)⟩

/-- Settles O14: HELLO and TOPOLOGY messages and the supervision frames by what the frame of a service leaves alone; the copies by what a suspension of scheduled classes leaves alone. -/
theorem topologySupervisionAndCopies : Obligations.TopologySupervisionAndCopies := by
  intro s p o hd
  refine ⟨?_, fun k hk hp => ttdpTimer_elsewhere o hd hk hp, fun src l h hl => helloTimeout_drops o hd h hl, fun h hl => inhibitEnd_frees o hd h hl,
    fun counter position train changed backbone hc hgm => topologyPublish_renews o hd hc hgm, fun src seq h => supervisionFrame_notes o hd h src seq,
    fun src seq h hown hnew => supervisionFrame_forwards o hd h hown hnew, fun h => lifeCheckSend_sends o hd p h, fun src x y h hx hy => forgetTimeExpiry_forgets o hd h hx hy,
    fun hdom hg skew => ⟨fun h => portTimeUpdate_agrees o hd hdom hg h, fun h h0 => portTimeUpdate_differs o hd hdom hg h h0⟩⟩
  rintro k n (⟨rfl, rfl, hdue⟩ | ⟨rfl, rfl, hdue⟩) hp
  · exact ttdpTimer_sends o hd (State.ttdpTimer_hello hp hdue)
  · exact ttdpTimer_sends o hd (State.ttdpTimer_topology hp hdue)

end Sys2Proof.Machine
end

section
/-!
PROOFS. Words in memories, and the data window of the Stream Table: what a read gives back after a write (R12, R143).
-/
namespace Sys2Proof.Machine

/-! ## Little-endian words -/

theorem pow_256 (n : Nat) : 256 ^ n = 2 ^ (8 * n) := by rw [show 256 = 2 ^ 8 from rfl, ← pow_mul]

/-- The bits of an entry: 64 bytes. -/
theorem two_pow_entry : 2 ^ (8 * 64) = 2 ^ 512 := congrArg (2 ^ ·) (by decide : 8 * 64 = 512)

theorem leNat_lt (l : List Byte) : leNat l < 256 ^ l.length := by
  induction l with
  | nil => simp [leNat]
  | cons b l ih =>
    have hb : b.toNat < 256 := b.isLt
    rw [List.length_cons, pow_succ, leNat]
    omega

theorem leNat_leBytes (n v : Nat) : leNat (leBytes n v) = v % 256 ^ n := by
  induction n generalizing v with
  | zero => simp [leBytes, leNat, Nat.mod_one]
  | succ n ih => rw [leBytes, leNat, ih, pow_succ', Nat.mod_mul, BitVec.toNat_ofNat]

theorem Memory.readBytes_length (m : Memory) (a n : Nat) : (m.readBytes a n).length = n := by simp [Memory.readBytes]

theorem Memory.readLe_lt (m : Memory) (a n : Nat) : m.readLe a n < 2 ^ (8 * n) := by
  have h := leNat_lt (m.readBytes a n)
  rwa [m.readBytes_length a n, pow_256] at h

theorem Memory.readBytes_writeBytes_same (m : Memory) (a : Nat) (l : List Byte) : (m.writeBytes a l).readBytes a l.length = l := by
  refine List.ext_getElem (Memory.readBytes_length ..) fun k h _ => ?_
  rw [Memory.readBytes_length] at h
  simp [Memory.readBytes, Memory.byte_writeBytes_in m a l h]

/-- A word reads as it was written, cut to its bytes. -/
theorem Memory.readLe_writeLe_same (m : Memory) (a n v : Nat) : (m.writeLe a n v).readLe a n = v % 2 ^ (8 * n) := by
  have h := m.readBytes_writeBytes_same a (leBytes n v)
  rw [leBytes_length] at h
  rw [Memory.readLe, Memory.writeLe, h, leNat_leBytes, pow_256]

/-- A write of a word leaves the words that lie outside it alone. -/
theorem Memory.readLe_writeLe_off (m : Memory) {a n x k : Nat} (h : x + k ≤ a ∨ a + n ≤ x) (v : Nat) : (m.writeLe a n v).readLe x k = m.readLe x k := by
  refine congrArg leNat (List.map_congr_left fun i hi => Memory.byte_writeBytes_off m a _ ?_)
  rw [List.mem_range] at hi
  rw [leBytes_length]
  omega

/-! ## The record in TBL_DATA -/

theorem sum_words_lt (n : Nat) {f : Nat → Nat} (h : ∀ i, f i < 2 ^ 64) : ((List.range n).map fun i => f i * 2 ^ (64 * i)).sum < 2 ^ (64 * n) := by
  induction n with
  | zero => simp
  | succ n ih =>
    have hp : 2 ^ (64 * (n + 1)) = 2 ^ 64 * 2 ^ (64 * n) := by rw [← pow_add]; congr 1; omega
    have hm : (f n + 1) * 2 ^ (64 * n) ≤ 2 ^ 64 * 2 ^ (64 * n) := Nat.mul_le_mul_right _ (h n)
    rw [List.range_succ, List.map_append, List.sum_append, List.map_singleton, List.sum_singleton, hp]
    rw [Nat.add_mul, one_mul] at hm
    omega

theorem sum_words_of (v n : Nat) : ((List.range n).map fun i => v / 2 ^ (64 * i) % 2 ^ 64 * 2 ^ (64 * i)).sum = v % 2 ^ (64 * n) := by
  induction n with
  | zero => simp [Nat.mod_one]
  | succ n ih =>
    have hp : 2 ^ (64 * (n + 1)) = 2 ^ (64 * n) * 2 ^ 64 := by rw [← pow_add]; congr 1
    rw [List.range_succ, List.map_append, List.sum_append, List.map_singleton, List.sum_singleton, ih, hp, Nat.mod_mul, Nat.mul_comm (2 ^ (64 * n))]

theorem State.tblData_lt (s : State) : s.tblData < 2 ^ 512 :=
  lt_of_lt_of_eq (sum_words_lt 8 fun i => s.fld_lt .STRM_TBL_DATA_DATA i 0) (congrArg (2 ^ ·) (by decide : 64 * 8 = 512))

/-- The first `n` words of the window given those of a record. -/
def State.wordsSet (s : State) (v n : Nat) : State := (List.range n).foldl (fun a i => a.setFld .STRM_TBL_DATA_DATA i 0 (v / 2 ^ (64 * i))) s

theorem State.setTblData_eq (s : State) (v : Nat) : s.setTblData v = s.wordsSet v 8 := rfl
theorem State.wordsSet_succ (s : State) (v n : Nat) : s.wordsSet v (n + 1) = (s.wordsSet v n).setFld .STRM_TBL_DATA_DATA n 0 (v / 2 ^ (64 * n)) := by
  unfold State.wordsSet; rw [List.range_succ, List.foldl_append]; rfl

theorem State.fld_wordsSet (s : State) (v : Nat) {n i : Nat} (h : i < n) : (s.wordsSet v n).fld .STRM_TBL_DATA_DATA i = v / 2 ^ (64 * i) % 2 ^ 64 := by
  induction n with
  | zero => omega
  | succ n ih =>
    rw [State.wordsSet_succ]
    by_cases e : i = n
    · subst e; exact State.fld_setFld_same ..
    · rw [State.fld_setFld_inst _ _ _ e]; exact ih (by omega)

theorem State.SameFlds.wordsSet {s u : State} {l : List (Fl × Nat)} (h : s.SameFlds u l) (v n : Nat) (m : ∀ i < n, (.STRM_TBL_DATA_DATA, i) ∈ l) :
    s.SameFlds (u.wordsSet v n) l := by
  induction n with
  | zero => exact h
  | succ n ih =>
    rw [State.wordsSet_succ]
    exact (ih fun i hi => m i (by omega)).setFld (m n (by omega)) _ _

theorem mem_tblDataFlds {i : Nat} (h : i < 8) : (Fl.STRM_TBL_DATA_DATA, i) ∈ tblDataFlds := List.mem_map.mpr ⟨i, List.mem_range.mpr h, rfl⟩

theorem State.SameFlds.setTblData {s u : State} {l : List (Fl × Nat)} (h : s.SameFlds u l) (m : ∀ e ∈ tblDataFlds, e ∈ l) (v : Nat) :
    s.SameFlds (u.setTblData v) l := h.wordsSet v 8 fun _ hi => m _ (mem_tblDataFlds hi)

/-- The window shows the low 512 bits of the record it is given. -/
theorem State.tblData_setTblData (s : State) (v : Nat) : (s.setTblData v).tblData = v % 2 ^ 512 := by
  rw [← sum_words_of v 8, State.tblData, State.setTblData_eq]
  refine congrArg List.sum (List.map_congr_left fun i hi => ?_)
  rw [s.fld_wordsSet v (List.mem_range.mp hi)]

theorem State.tblData_congr {s t : State} (h : ∀ i, t.fld .STRM_TBL_DATA_DATA i = s.fld .STRM_TBL_DATA_DATA i) : t.tblData = s.tblData := by
  unfold State.tblData; simp only [h]

end Sys2Proof.Machine
end

section
/-!
PROOFS. Operations on the Stream Table (R113, R120, R124, R143 to R145).
-/
namespace Sys2Proof.Machine

/-! ## Changes of the slices alone -/

/-- Two states that differ at most in what the slices of the Stream Cache hold. -/
def State.SliceOnly (s t : State) : Prop := ∃ l, t = { s with strm := { s.strm with slice := l } }

theorem State.SliceOnly.refl (s : State) : s.SliceOnly s := ⟨_, rfl⟩
theorem State.SliceOnly.trans {s t u : State} (h : s.SliceOnly t) (h' : t.SliceOnly u) : s.SliceOnly u := by
  obtain ⟨_, rfl⟩ := h; obtain ⟨_, rfl⟩ := h'; exact ⟨_, rfl⟩
theorem State.SliceOnly.foldl {α : Type} {f : State → α → State} (h : ∀ a x, State.SliceOnly a (f a x)) (l : List α) (s : State) : s.SliceOnly (l.foldl f s) := by
  induction l generalizing s with
  | nil => exact .refl s
  | cons x l ih => exact (h s x).trans (ih _)

section
variable (s : State)

theorem State.sliceOnly_setWays (b k : Nat) (l : List Way) : s.SliceOnly (s.setWays b k l) := ⟨_, rfl⟩
theorem State.sliceOnly_loadWay (b k : Nat) (w : Way) : s.SliceOnly (s.loadWay b k w) := by
  unfold State.loadWay
  dsimp only
  split
  · exact s.sliceOnly_setWays ..
  · exact .refl s
theorem State.sliceOnly_dropNegative (id : Nat × Nat) : s.SliceOnly (s.dropNegative id) := .foldl (fun a _ => a.sliceOnly_setWays ..) _ s
theorem State.sliceOnly_dropSlices (idx e : Nat) : s.SliceOnly (s.dropSlices idx e) := .foldl (fun a _ => a.sliceOnly_setWays ..) _ s
theorem State.sliceOnly_syncSlices (idx e : Nat) : s.SliceOnly (s.syncSlices idx e) := by
  refine .foldl (fun a b => ?_) _ s
  dsimp only
  split
  · exact (a.sliceOnly_setWays ..).trans (State.sliceOnly_loadWay ..)
  · split
    · exact a.sliceOnly_setWays ..
    · exact a.sliceOnly_setWays ..

end

/-! ## The start of an operation (R144, R145) -/

/-- The state in which an operation acts: the command's fields written, and BUSY. -/
def State.tblStart (s : State) (table op idx : Nat) : State :=
  s.setFlds 0 0 [(.STRM_TBL_CMD_TABLE, table), (.STRM_TBL_CMD_OP, op), (.STRM_TBL_CMD_INDEX, idx), (.STRM_TBL_STATUS_BUSY, 1)]

/-- The operations of Table 04-12. -/
def tblDefined (table op : Nat) : Bool :=
  if op = 0 then decide (table < 6) else if op = 1 then decide (1 ≤ table) && decide (table < 6) else table == 0 && decide (op < 8)

section
variable {s : State} {table op idx : Nat} {k : State → State}

theorem State.tblGo_busy (h : s.on .STRM_TBL_STATUS_BUSY = true) : s.tblGo table op idx k = s.event .STRM_EVENT_TBL_COLLIDE := if_pos h

theorem State.tblGo_idle (h : s.on .STRM_TBL_STATUS_BUSY = false) : s.tblGo table op idx k =
    if !tblDefined table op then (s.tblStart table op idx).tblEnd 7 else if tblSize table ≤ idx then (s.tblStart table op idx).tblEnd 6 else k (s.tblStart table op idx) :=
  if_neg (by simp [h])

theorem State.tblGo_of (h : s.on .STRM_TBL_STATUS_BUSY = false) (hd : tblDefined table op = true) (hi : idx < tblSize table) :
    s.tblGo table op idx k = k (s.tblStart table op idx) := by
  rw [State.tblGo_idle h, hd, if_neg (by simp), if_neg (by omega)]

theorem State.tblGo_undefined (h : s.on .STRM_TBL_STATUS_BUSY = false) (hd : tblDefined table op = false) : s.tblGo table op idx k = (s.tblStart table op idx).tblEnd 7 := by
  rw [State.tblGo_idle h, hd]; rfl

end

section
variable (s : State) (table op idx : Nat)

theorem State.sameFlds_tblStart : s.SameFlds (s.tblStart table op idx) tblCmdFlds := (State.SameFlds.refl s _).setFlds 0 0 _ (by simp)
theorem State.fld_tblStart {f : Fl} (h : f ∉ [Fl.STRM_TBL_CMD_TABLE, .STRM_TBL_CMD_OP, .STRM_TBL_CMD_INDEX, .STRM_TBL_STATUS_BUSY]) (i j : Nat) :
    (s.tblStart table op idx).fld f i j = s.fld f i j := s.fld_setFlds_other 0 0 i j f _ h
theorem State.busy_tblStart : (s.tblStart table op idx).on .STRM_TBL_STATUS_BUSY = true := by
  have h : (s.tblStart table op idx).fld .STRM_TBL_STATUS_BUSY = 1 := State.fld_setFld_same ..
  rw [State.on, h]; rfl

/-! ### What the start leaves as it was -/

@[simp] theorem State.tblStart_strm : (s.tblStart table op idx).strm = s.strm := rfl
@[simp] theorem State.tblStart_dram : (s.tblStart table op idx).dram = s.dram := rfl
@[simp] theorem State.tblStart_thim : (s.tblStart table op idx).thim = s.thim := rfl
@[simp] theorem State.tblStart_tblData : (s.tblStart table op idx).tblData = s.tblData := State.tblData_congr fun i => s.fld_tblStart table op idx (by decide) i 0
@[simp] theorem State.tblStart_dramless : (s.tblStart table op idx).dramless = s.dramless := by
  unfold State.dramless State.on; rw [s.fld_tblStart table op idx (by decide)]
@[simp] theorem State.tblStart_ways (b k : Nat) : (s.tblStart table op idx).ways b k = s.ways b k := rfl
@[simp] theorem State.tblStart_h1 (k : Nat × Nat) : (s.tblStart table op idx).h1 k = s.h1 k := by unfold State.h1; rw [s.fld_tblStart table op idx (by decide)]
@[simp] theorem State.tblStart_h2 (k : Nat × Nat) : (s.tblStart table op idx).h2 k = s.h2 k := by unfold State.h2; rw [s.fld_tblStart table op idx (by decide)]
@[simp] theorem State.tblStart_entAddr (i : Nat) : (s.tblStart table op idx).entAddr i = s.entAddr i := by
  unfold State.entAddr; rw [s.fld_tblStart table op idx (by decide)]
@[simp] theorem State.tblStart_slotAddr (b i : Nat) : (s.tblStart table op idx).slotAddr b i = s.slotAddr b i := by
  unfold State.slotAddr; rw [s.fld_tblStart table op idx (by decide)]
@[simp] theorem State.tblStart_dramEnt (i : Nat) : (s.tblStart table op idx).dramEnt i = s.dramEnt i := by simp [State.dramEnt]
@[simp] theorem State.tblStart_slotWord (b i : Nat) : (s.tblStart table op idx).slotWord b i = s.slotWord b i := by simp [State.slotWord]
@[simp] theorem State.tblStart_bucket1 (k : Nat × Nat) : (s.tblStart table op idx).bucket1 k = s.bucket1 k := by simp [State.bucket1]
@[simp] theorem State.tblStart_bucket2 (k : Nat × Nat) : (s.tblStart table op idx).bucket2 k = s.bucket2 k := by simp [State.bucket2]
@[simp] theorem State.tblStart_tagSlot (k : Nat × Nat) : (s.tblStart table op idx).tagSlot k = s.tagSlot k := by simp [State.tagSlot, State.keySlots, State.dirTag]
@[simp] theorem State.tblStart_dramFind (k : Nat × Nat) : (s.tblStart table op idx).dramFind k = s.dramFind k := by simp [State.dramFind]
@[simp] theorem State.tblStart_findKey (k : Nat × Nat) : (s.tblStart table op idx).findKey k = s.findKey k := by simp [State.findKey, State.sliceFind]
@[simp] theorem State.tblStart_wayKept (b : Nat) (w : Way) : (s.tblStart table op idx).wayKept b w = s.wayKept b w := by
  unfold State.wayKept; rw [State.tblStart_dramless]
@[simp] theorem State.tblStart_entKept (e b : Nat) : (s.tblStart table op idx).entKept e b = s.entKept e b := by simp [State.entKept]
@[simp] theorem State.tblStart_setOf (k : Nat × Nat) : (s.tblStart table op idx).setOf k = s.setOf k := by simp [State.setOf]
@[simp] theorem State.tblStart_pinFull (i e : Nat) : (s.tblStart table op idx).pinFull i e = s.pinFull i e := by simp [State.pinFull]
@[simp] theorem State.tblStart_dramBeyond (a n : Nat) : (s.tblStart table op idx).dramBeyond a n = s.dramBeyond a n := rfl
@[simp] theorem State.tblStart_entBeyond (i : Nat) : (s.tblStart table op idx).entBeyond i = s.entBeyond i := by simp [State.entBeyond]
@[simp] theorem State.tblStart_keyBeyond (k : Nat × Nat) : (s.tblStart table op idx).keyBeyond k = s.keyBeyond k := by simp [State.keyBeyond]

end

/-! ## Words put together -/

theorem word_join {a b m k n : Nat} (ha : a < 2 ^ m) (hb : b < 2 ^ k) (h : m + k = n) : a * 2 ^ k + b < 2 ^ n := by
  have hm : (a + 1) * 2 ^ k ≤ 2 ^ m * 2 ^ k := Nat.mul_le_mul_right _ ha
  rw [Nat.add_mul, one_mul, ← pow_add, h] at hm
  omega

theorem bits_lt (w : Nat) {hi lo n : Nat} (h : hi + 1 - lo = n) : bits w hi lo < 2 ^ n := h ▸ Nat.mod_lt _ (Nat.two_pow_pos _)

theorem mod_two_pow_lt (w n : Nat) : w % 2 ^ n < 2 ^ n := Nat.mod_lt _ (Nat.two_pow_pos _)

theorem clearBit_le (w n : Nat) : clearBit w n ≤ w := by
  unfold clearBit; split
  · exact Nat.sub_le ..
  · exact le_refl w

theorem testBit_clearBit_same (w n : Nat) : (clearBit w n).testBit n = false := by
  unfold clearBit
  split
  next h =>
    have hs : (w - 2 ^ n) / 2 ^ n = w / 2 ^ n - 1 := by simpa using Nat.sub_mul_div w (2 ^ n) 1
    rw [Nat.testBit_eq_decide_div_mod_eq, decide_eq_true_eq] at h
    rw [Nat.testBit_eq_decide_div_mod_eq, hs, decide_eq_false_iff_not]
    omega
  next h => exact Bool.not_eq_true _ ▸ h

theorem div_two_pow_lt {w m k n : Nat} (hw : w < 2 ^ n) (h : m + k = n) : w / 2 ^ k < 2 ^ m := Nat.div_lt_of_lt_mul (by rwa [← pow_add, Nat.add_comm, h])

/-- An updated entry has the bits of an entry (R113). -/
theorem updated_lt {old new : Nat} (hn : new < 2 ^ 512) : updated old new < 2 ^ 512 := by
  have hkey : entKey old < 2 ^ 320 := bits_lt _ (by decide)
  have hrest : bits new 507 320 * 2 ^ 320 + entKey old < 2 ^ 508 := word_join (m := 188) (bits_lt _ (by decide)) hkey (by decide)
  have hmethod : entMethod old * 2 ^ 508 + (bits new 507 320 * 2 ^ 320 + entKey old) < 2 ^ 511 := word_join (m := 3) (bits_lt _ (by decide)) hrest (by decide)
  have h := word_join (div_two_pow_lt (m := 1) (k := 511) hn (by decide)) hmethod (by decide : 1 + 511 = 512)
  simpa only [updated, Nat.add_assoc] using h

theorem pinned_lt {old new : Nat} (ho : old < 2 ^ 512) : pinned old new < 2 ^ 512 := by
  have hlow : entBolts new * 2 ^ 380 + old % 2 ^ 380 < 2 ^ 388 := word_join (m := 8) (bits_lt _ (by decide)) (mod_two_pow_lt old 380) (by decide)
  have hrest : bits old 506 388 * 2 ^ 388 + (entBolts new * 2 ^ 380 + old % 2 ^ 380) < 2 ^ 507 := word_join (m := 119) (bits_lt _ (by decide)) hlow (by decide)
  have hpin : 1 * 2 ^ 507 + (bits old 506 388 * 2 ^ 388 + (entBolts new * 2 ^ 380 + old % 2 ^ 380)) < 2 ^ 508 := word_join (m := 1) (by decide) hrest (by decide)
  have h := word_join (div_two_pow_lt (m := 4) (k := 508) ho (by decide)) hpin (by decide : 4 + 508 = 512)
  simpa only [pinned, Nat.add_assoc, one_mul] using h

/-! ## Entries and slots in DRAM (R123, R124) -/

theorem State.dramEnt_lt (s : State) (i : Nat) : s.dramEnt i < 2 ^ 512 := lt_of_lt_of_eq (Memory.readLe_lt ..) two_pow_entry

/-- An entry reads as it was stored. -/
theorem State.dramEnt_setDramEnt (s : State) (i : Nat) {e : Nat} (h : e < 2 ^ 512) : (s.setDramEnt i e).dramEnt i = e :=
  (Memory.readLe_writeLe_same s.dram (s.entAddr i) 64 e).trans (Nat.mod_eq_of_lt (lt_of_lt_of_eq h two_pow_entry.symm))

theorem State.slotWord_setSlot (s : State) (b n : Nat) : (s.setSlot b n 0).slotWord b n = 0 :=
  (Memory.readLe_writeLe_same s.dram (s.slotAddr b n) 8 0).trans (Nat.zero_mod _)
theorem State.slotWord_setDramEnt_off (s : State) (i e b n : Nat) (h : s.slotAddr b n + 8 ≤ s.entAddr i ∨ s.entAddr i + 64 ≤ s.slotAddr b n) :
    (s.setDramEnt i e).slotWord b n = s.slotWord b n := Memory.readLe_writeLe_off s.dram h e

@[simp] theorem State.tblData_settle (s : State) : s.settle.tblData = s.tblData := State.tblData_congr fun i => s.fld_settle_of (by decide) i 0
@[simp] theorem State.dramEnt_settle (s : State) (i : Nat) : s.settle.dramEnt i = s.dramEnt i := by simp [State.dramEnt, State.entAddr]
@[simp] theorem State.slotWord_settle (s : State) (b n : Nat) : s.settle.slotWord b n = s.slotWord b n := by simp [State.slotWord, State.slotAddr]

/-- Without a slot that holds its tag a key finds no entry. -/
theorem State.findKey_of_tagSlot_none {s : State} {k : Nat × Nat} (hd : s.dramless = false) (h : s.tagSlot k = none) : s.findKey k = none := by
  simp [State.findKey, State.dramFind, hd, h]

/-- What a key finds in DRAM: the slot with its tag, which names the entry's index. -/
theorem State.dramFind_of_findKey {s : State} {k : Nat × Nat} {i e : Nat} (hd : s.dramless = false) (h : s.findKey k = some (i, e)) :
    ∃ b n, s.tagSlot k = some (b, n) ∧ s.dramFind k = some (b, n, i, e) ∧ e = s.dramEnt i := by
  simp only [State.findKey, hd, Bool.false_eq_true, if_false, Option.map_eq_some_iff, Prod.mk.injEq] at h
  obtain ⟨⟨b, n, i', e'⟩, hf, rfl, rfl⟩ := h
  have hf' := hf
  unfold State.dramFind at hf'
  split at hf'
  next b' n' ht =>
    dsimp only at hf'
    split at hf'
    · simp only [Option.some.injEq, Prod.mk.injEq] at hf'
      obtain ⟨rfl, rfl, hi, he⟩ := hf'
      exact ⟨b', n', ht, hf, by rw [← he, hi]⟩
    · exact absurd hf' (by simp)
  next => exact absurd hf' (by simp)

theorem State.entAt_dram {s : State} (hd : s.dramless = false) (i : Nat) : s.entAt i = s.dramEnt i := by simp [State.entAt, hd]

/-! ## What an operation changes -/

/-- Two states that differ at most in DRAM and in what the slices hold. -/
def State.Stores (s t : State) : Prop := ∃ d l, t = { s with dram := d, strm := { s.strm with slice := l } }

theorem State.Stores.trans {s t u : State} (h : s.Stores t) (h' : t.Stores u) : s.Stores u := by
  obtain ⟨_, _, rfl⟩ := h; obtain ⟨_, _, rfl⟩ := h'; exact ⟨_, _, rfl⟩
theorem State.SliceOnly.stores {s t : State} (h : s.SliceOnly t) : s.Stores t := by obtain ⟨l, rfl⟩ := h; exact ⟨_, l, rfl⟩
theorem State.stores_setDramEnt (s : State) (i e : Nat) : s.Stores (s.setDramEnt i e) := ⟨_, _, rfl⟩
theorem State.stores_setSlot (s : State) (b n w : Nat) : s.Stores (s.setSlot b n w) := ⟨_, _, rfl⟩

/-- What an operation on the Stream Table changes: DRAM, the slices, and the code and index it ends with. -/
def State.TblOnly (s t : State) (code idx : Nat) : Prop := ∃ d l, t = { s with dram := d, strm := { s.strm with slice := l, tblCode := code, tblIdx := idx } }

theorem State.Stores.tblEnd {s t : State} (h : s.Stores t) (code idx : Nat) : s.TblOnly (t.tblEnd code idx) code idx := by
  obtain ⟨d, l, rfl⟩ := h; exact ⟨d, l, rfl⟩

section
variable {s t : State} {code idx : Nat} (h : s.TblOnly t code idx)
include h

theorem State.TblOnly.regs : t.regs = s.regs := by obtain ⟨_, _, rfl⟩ := h; rfl
theorem State.TblOnly.dev : t.dev = s.dev := by obtain ⟨_, _, rfl⟩ := h; rfl
theorem State.TblOnly.tblCode : t.strm.tblCode = code := by obtain ⟨_, _, rfl⟩ := h; rfl

end

theorem State.dramEnt_tblEnd (s : State) (code idx i : Nat) : (s.tblEnd code idx).dramEnt i = s.dramEnt i := rfl
theorem State.slotWord_tblEnd (s : State) (code idx b n : Nat) : (s.tblEnd code idx).slotWord b n = s.slotWord b n := rfl
theorem State.SliceOnly.dramEnt {s t : State} (h : s.SliceOnly t) (i : Nat) : t.dramEnt i = s.dramEnt i := by obtain ⟨_, rfl⟩ := h; rfl
theorem State.SliceOnly.slotWord {s t : State} (h : s.SliceOnly t) (b n : Nat) : t.slotWord b n = s.slotWord b n := by obtain ⟨_, rfl⟩ := h; rfl

/-- An entry stored in a build with DRAM: written there, and the slices brought up to date. -/
theorem State.sliceOnly_storeEnt {s : State} (hd : s.dramless = false) (i e : Nat) : (s.setDramEnt i e).SliceOnly (s.storeEnt i e) := by
  unfold State.storeEnt; rw [hd]; exact State.sliceOnly_syncSlices ..

/-! ## The operations on a build with DRAM -/

section
variable {u : State} (hd : u.dramless = false) (hm : entMethod u.tblData < 5)
include hd hm

/-- INSERT of a new key where its index and a slot of each bucket are free. -/
theorem State.tblInsert_stores {i : Nat} (hv : entValid (u.dramEnt i) = false) (ht : u.tagSlot (entId u.tblData) = none) (hp : u.pinFull i u.tblData = false)
    (h1 : ∃ n : Fin 8, bit (u.slotWord (u.bucket1 (entId u.tblData)) n) 63 = false) (h2 : ∃ n : Fin 8, bit (u.slotWord (u.bucket2 (entId u.tblData)) n) 63 = false) :
    u.TblOnly (u.tblInsert i) 0 0 ∧ (u.tblInsert i).dramEnt i = u.tblData := by
  have hfree : ∀ b, (∃ n : Fin 8, bit (u.slotWord b n) 63 = false) → ∃ n, (List.range 8).find? (fun n => !bit (u.slotWord b n) 63) = some n := by
    rintro b ⟨n, hn⟩
    exact Option.isSome_iff_exists.mp (List.find?_isSome.mpr ⟨n, List.mem_range.mpr n.isLt, by simp [hn]⟩)
  obtain ⟨b, n, w, he⟩ : ∃ b n w, u.tblInsert i = (((u.setSlot b n w).storeEnt i u.tblData).dropNegative (entId u.tblData)).tblEnd 0 := by
    have hkey : u.findKey (entId u.tblData) = none := State.findKey_of_tagSlot_none hd ht
    unfold State.tblInsert
    simp only [hkey, State.entAt_dram hd, hv, hd, hp, ht, Nat.not_le.mpr hm, if_false, Bool.or_self, Bool.false_eq_true, Option.isSome_none, Bool.not_false, Bool.and_false]
    generalize hb : (if List.length _ < List.length _ then u.bucket2 _ else u.bucket1 _) = b
    obtain ⟨n, hn⟩ : ∃ n, (List.range 8).find? (fun n => !bit (u.slotWord b n) 63) = some n := by
      refine hfree b ?_
      rw [← hb]; split
      · exact h2
      · exact h1
    rw [hn]
    exact ⟨b, n, _, rfl⟩
  have hs : ((u.setSlot b n w).setDramEnt i u.tblData).SliceOnly (((u.setSlot b n w).storeEnt i u.tblData).dropNegative (entId u.tblData)) :=
    (State.sliceOnly_storeEnt (s := u.setSlot b n w) hd i u.tblData).trans (State.sliceOnly_dropNegative ..)
  rw [he, State.dramEnt_tblEnd, hs.dramEnt, State.dramEnt_setDramEnt _ i u.tblData_lt]
  exact ⟨(((u.stores_setSlot b n w).trans (State.stores_setDramEnt ..)).trans hs.stores).tblEnd 0 0, rfl⟩

/-- UPDATE, PIN and UNPIN of the entry that the key finds. -/
theorem State.tblChange_stores {f : Nat → Nat} {i old : Nat} (hk : u.findKey (entId u.tblData) = some (i, old)) (hp : u.pinFull i (f old) = false) (hf : f old < 2 ^ 512) :
    u.TblOnly (u.tblChange f) 0 0 ∧ (u.tblChange f).dramEnt i = f old := by
  have he : u.tblChange f = (u.storeEnt i (f old)).tblEnd 0 := by
    unfold State.tblChange
    simp only [hk, hp, Nat.not_le.mpr hm, if_false, Bool.false_eq_true]
  have hs := State.sliceOnly_storeEnt hd i (f old)
  rw [he, State.dramEnt_tblEnd, hs.dramEnt, State.dramEnt_setDramEnt _ i hf]
  exact ⟨((u.stores_setDramEnt i _).trans hs.stores).tblEnd 0 0, rfl⟩

/-- DELETE of the entry that the key finds. -/
theorem State.tblDelete_clears {i old : Nat} (hk : u.findKey (entId u.tblData) = some (i, old)) :
    u.TblOnly u.tblDelete 0 0 ∧ entValid (u.tblDelete.dramEnt i) = false ∧
      ∀ b n, u.tagSlot (entId u.tblData) = some (b, n) → u.slotAddr b n + 8 ≤ u.entAddr i ∨ u.entAddr i + 64 ≤ u.slotAddr b n → u.tblDelete.slotWord b n = 0 := by
  obtain ⟨b, n, ht, hf, hold⟩ := State.dramFind_of_findKey hd hk
  have hs := u.sliceOnly_dropSlices i old
  have he : u.tblDelete = (((u.dropSlices i old).setSlot b n 0).setDramEnt i (clearBit old 511)).tblEnd 0 := by
    have hf' : (u.dropSlices i old).dramFind (entId u.tblData) = some (b, n, i, old) := by obtain ⟨l, hl⟩ := hs; rw [hl]; exact hf
    have hd' : (u.dropSlices i old).dramless = false := by obtain ⟨l, hl⟩ := hs; rw [hl]; exact hd
    unfold State.tblDelete
    simp only [hk, hf', hd', Nat.not_le.mpr hm, if_false, Bool.false_eq_true]
  have hlt : clearBit old 511 < 2 ^ 512 := lt_of_le_of_lt (clearBit_le ..) (hold ▸ u.dramEnt_lt i)
  have hbit : (clearBit old 511).testBit 511 = false := testBit_clearBit_same ..
  rw [he, State.dramEnt_tblEnd, State.dramEnt_setDramEnt _ i hlt]
  refine ⟨((hs.stores.trans (State.stores_setSlot ..)).trans (State.stores_setDramEnt ..)).tblEnd 0 0, hbit, fun b' n' ht' hoff => ?_⟩
  obtain ⟨rfl, rfl⟩ : b = b' ∧ n = n' := by simpa [ht] using ht'
  obtain ⟨l, hl⟩ := hs
  rw [State.slotWord_tblEnd, State.slotWord_setDramEnt_off _ _ _ _ _ (by rw [hl]; exact hoff), State.slotWord_setSlot]

end

/-! ## The commands -/

/-- The operations on the entry that the key in TBL_DATA finds, by their code and effect (Table 04-12). -/
def State.keyOp (s : State) (op : Nat) (i : BitVec 24) (k : State → State) : State := s.tblGo 0 op i.toNat fun a => a.onDram (false || a.keyBeyond (entId a.tblData)) k

section
variable {s : State} {r : Req} (hg : s.Grants r true .STRM_TBL_CMD 0 0)
include hg

theorem exec_strmTblRead (tb : Fin 8) (i : BitVec 24) (e : Bool) :
    exec (.strmTblRead r tb i e) s = .next (s.tblGo tb 0 i.toNat fun a => a.tblRead tb i.toNat e).settle := by
  rw [← State.writing_of hg fun s => s.tblGo tb 0 i.toNat fun a => a.tblRead tb i.toNat e]; rfl
theorem exec_strmTblWrite (tb : Fin 8) (i : BitVec 24) : exec (.strmTblWrite r tb i) s = .next (s.tblGo tb 1 i.toNat fun a => a.tblWrite tb i.toNat).settle := by
  rw [← State.writing_of hg fun s => s.tblGo tb 1 i.toNat fun a => a.tblWrite tb i.toNat]; rfl
theorem exec_strmTblInsert (i : BitVec 24) : exec (.strmTblInsert r 0 i false) s =
    .next (s.tblGo 0 2 i.toNat fun a => a.onDram (false || a.entBeyond i.toNat || a.keyBeyond (entId a.tblData)) fun a => a.tblInsert i.toNat).settle := by
  rw [← State.writing_of hg fun s => s.tblGo 0 2 i.toNat fun a => a.onDram (false || a.entBeyond i.toNat || a.keyBeyond (entId a.tblData)) fun a => a.tblInsert i.toNat]; rfl
theorem exec_strmTblUpdate (i : BitVec 24) : exec (.strmTblUpdate r 0 i false) s = .next (s.keyOp 3 i fun a => a.tblChange fun old => updated old a.tblData).settle := by
  rw [← State.writing_of hg fun s => s.keyOp 3 i fun a => a.tblChange fun old => updated old a.tblData]; rfl
theorem exec_strmTblDelete (i : BitVec 24) : exec (.strmTblDelete r 0 i false) s = .next (s.keyOp 4 i State.tblDelete).settle := by
  rw [← State.writing_of hg fun s => s.keyOp 4 i State.tblDelete]; rfl
theorem exec_strmTblLookup (i : BitVec 24) : exec (.strmTblLookup r 0 i false) s = .next (s.keyOp 5 i State.tblLookup).settle := by
  rw [← State.writing_of hg fun s => s.keyOp 5 i State.tblLookup]; rfl
theorem exec_strmTblPin (i : BitVec 24) : exec (.strmTblPin r 0 i false) s = .next (s.keyOp 6 i fun a => a.tblChange fun old => pinned old a.tblData).settle := by
  rw [← State.writing_of hg fun s => s.keyOp 6 i fun a => a.tblChange fun old => pinned old a.tblData]; rfl
theorem exec_strmTblUnpin (i : BitVec 24) : exec (.strmTblUnpin r 0 i false) s = .next (s.keyOp 7 i fun a => a.tblChange unpinned).settle := by
  rw [← State.writing_of hg fun s => s.keyOp 7 i fun a => a.tblChange unpinned]; rfl

end

/-- A table-0 index is in range: it has 24 bits. -/
theorem index_in_table (i : BitVec 24) : i.toNat < tblSize 0 := i.isLt

/-- An operation that DRAM serves without error. -/
theorem State.onDram_of {s : State} {err : Bool} (he : err = false) (h : s.thim.dramFailed = false) (k : State → State) : s.onDram err k = k s := by
  simp [State.onDram, he, h]

theorem State.keyOp_of {s : State} (hb : s.on .STRM_TBL_STATUS_BUSY = false) (hf : s.thim.dramFailed = false) (hk : s.keyBeyond (entId s.tblData) = false) {op : Nat}
    (hop : tblDefined 0 op = true) (i : BitVec 24) (k : State → State) : s.keyOp op i k = k (s.tblStart 0 op i.toNat) := by
  rw [State.keyOp, State.tblGo_of hb hop (index_in_table i), State.onDram_of (s := s.tblStart 0 op i.toNat) (by simp [hk]) hf]

/-! ### A record shown in the window -/

theorem State.wordsSet_eq (s : State) (v n : Nat) : s.wordsSet v n = { s with regs := (s.wordsSet v n).regs } := by
  induction n with
  | zero => rfl
  | succ n ih => rw [State.wordsSet_succ, ih]; rfl

/-- The window is registers alone. -/
theorem State.setTblData_regs (s : State) (v : Nat) : s.setTblData v = { s with regs := (s.setTblData v).regs } := s.wordsSet_eq v 8
@[simp] theorem State.setTblData_strm (s : State) (v : Nat) : (s.setTblData v).strm = s.strm := by rw [State.setTblData_regs]
@[simp] theorem State.setTblData_dev (s : State) (v : Nat) : (s.setTblData v).dev = s.dev := by rw [State.setTblData_regs]
theorem State.sameMem_setTblData (s : State) (v : Nat) : s.SameMem (s.setTblData v) := by
  rw [State.setTblData_regs]; exact State.sameMem_of rfl rfl rfl

/-- The state after an operation that shows a record. -/
def State.tblShown (s : State) (table op idx v code x : Nat) : State := ((s.tblStart table op idx).setTblData v).tblEnd code x

theorem State.tblShown_strm (s : State) (table op idx v code x : Nat) : (s.tblShown table op idx v code x).strm = { s.strm with tblCode := code, tblIdx := x } := by
  unfold State.tblShown State.tblEnd; rw [State.setTblData_strm, State.tblStart_strm]

theorem State.sameFlds_tblShown (s : State) (table op idx v code x : Nat) : s.SameFlds (s.tblShown table op idx v code x) (tblCmdFlds ++ tblDataFlds) :=
  State.SameFlds.regs (((s.sameFlds_tblStart table op idx).mono fun _ => List.mem_append_left _).setTblData (fun _ => List.mem_append_right _) v) rfl

theorem State.tblShown_dev (s : State) (table op idx v code x : Nat) : (s.tblShown table op idx v code x).dev = s.dev := by
  unfold State.tblShown State.tblEnd; exact State.setTblData_dev (s.tblStart table op idx) v
theorem State.sameMem_tblShown (s : State) {table op idx v code x : Nat} : s.SameMem (s.tblShown table op idx v code x) := by
  unfold State.tblShown State.tblEnd; exact State.sameMem_setTblData (s.tblStart table op idx) v
theorem State.tblData_tblShown (s : State) (table op idx v code x : Nat) : (s.tblShown table op idx v code x).tblData = v % 2 ^ 512 := by
  unfold State.tblShown State.tblEnd; exact State.tblData_setTblData (s.tblStart table op idx) v
theorem State.busy_tblShown (s : State) (table op idx v code x : Nat) : (s.tblShown table op idx v code x).on .STRM_TBL_STATUS_BUSY = true := by
  have h : (s.tblShown table op idx v code x).fld .STRM_TBL_STATUS_BUSY = (s.tblStart table op idx).fld .STRM_TBL_STATUS_BUSY :=
    ((State.SameFlds.refl (s.tblStart table op idx) tblDataFlds).setTblData (fun _ h => h) v) .STRM_TBL_STATUS_BUSY 0 0 (by decide) (Fl.not_shared (by decide))
  rw [State.on, h]
  exact s.busy_tblStart table op idx

section
variable {s : State} {r : Req} (o : s.Overlock)
include o

/-- The end of a table operation that has written no field but the command's. -/
theorem State.sameFlds_tblOp {table op idx : Nat} {u : State} (hr : u.regs = (s.tblStart table op idx).regs) (hd : u.dev = s.dev) : s.SameFlds u.settle tblCmdFlds :=
  State.SameFlds.settle_of (State.SameFlds.regs (s.sameFlds_tblStart table op idx) hr) o hd (by decide)

/-- The end of a table operation that also shows a record. -/
theorem State.sameFlds_settle_tblShown {table op idx v code x : Nat} : s.SameFlds (s.tblShown table op idx v code x).settle (tblCmdFlds ++ tblDataFlds) :=
  State.SameFlds.settle_of (s.sameFlds_tblShown table op idx v code x) o (s.tblShown_dev table op idx v code x) (by decide)

variable (hg : s.Grants r true .STRM_TBL_CMD 0 0)
include hg

theorem strmTblRead_busy (hb : s.on .STRM_TBL_STATUS_BUSY = true) (tb : Fin 8) (i : BitVec 24) (e : Bool) : ∃ t, exec (.strmTblRead r tb i e) s = .next t ∧
    t.on .STRM_EVENT_TBL_COLLIDE = true ∧ t.strm = s.strm ∧ s.SameFlds t [(.STRM_EVENT_TBL_COLLIDE, 0)] ∧ s.SameMem t := by
  refine ⟨_, exec_strmTblRead hg tb i e, ?_⟩
  rw [State.tblGo_busy hb]
  refine ⟨?_, by simp, State.SameFlds.settle_of ((State.SameFlds.refl s _).event (.inl (by simp))) o (by simp) (by decide), State.SameMem.settle (State.sameMem_of (by simp) (by simp) (by simp))⟩
  rw [State.on, State.fld_settle_of _ (by decide), State.fld_event_same _ _ _ (by decide) (by decide)]
  rfl

variable (hb : s.on .STRM_TBL_STATUS_BUSY = false)
include hb

/-- READ of a stream gate. -/
theorem strmTblRead_gate {i : BitVec 24} (e : Bool) (hi : i.toNat < 65536) : ∃ t, exec (.strmTblRead r 2 i e) s = .next t ∧
    t.tblData = s.strm.gate.get 0 i.toNat % 2 ^ 512 ∧ t.strm = { s.strm with tblCode := 0, tblIdx := 0 } ∧ t.on .STRM_TBL_STATUS_BUSY = true ∧
    s.SameFlds t (tblCmdFlds ++ tblDataFlds) ∧ s.SameMem t := by
  have hread : (s.tblStart 2 0 i.toNat).tblRead 2 i.toNat e = s.tblShown 2 0 i.toNat (s.strm.gate.get 0 i.toNat) 0 0 := rfl
  have hx : exec (.strmTblRead r 2 i e) s = .next (s.tblGo 2 0 i.toNat fun a => a.tblRead 2 i.toNat e).settle := exec_strmTblRead hg 2 i e
  rw [State.tblGo_of hb rfl hi, hread] at hx
  refine ⟨_, hx, (State.tblData_settle _).trans (s.tblData_tblShown ..), (State.settle_strm _).trans (s.tblShown_strm ..), ?_, State.sameFlds_settle_tblShown o, State.SameMem.settle s.sameMem_tblShown⟩
  rw [State.on, State.fld_settle_of _ (by decide)]
  exact s.busy_tblShown ..

/-- READ of an entry from DRAM. -/
theorem strmTblRead_entry {i : BitVec 24} (hd : s.dramless = false) (hf : s.thim.dramFailed = false) (hi : s.entBeyond i.toNat = false) :
    ∃ t, exec (.strmTblRead r 0 i false) s = .next t ∧ t.tblData = s.dramEnt i.toNat ∧ t.strm.tblCode = 0 ∧ s.SameFlds t (tblCmdFlds ++ tblDataFlds) ∧ s.SameMem t := by
  have hread : (s.tblStart 0 0 i.toNat).tblRead 0 i.toNat false = s.tblShown 0 0 i.toNat (s.dramEnt i.toNat) 0 0 := by
    unfold State.tblRead
    dsimp only
    rw [State.onDram_of (s := s.tblStart 0 0 i.toNat) (by simp [hi]) hf, State.entAt_dram (by simp [hd]), State.tblStart_dramEnt]
    rfl
  have hx : exec (.strmTblRead r 0 i false) s = .next (s.tblGo 0 0 i.toNat fun a => a.tblRead 0 i.toNat false).settle := exec_strmTblRead hg 0 i false
  rw [State.tblGo_of hb rfl (index_in_table i), hread] at hx
  refine ⟨_, hx, ((State.tblData_settle _).trans (s.tblData_tblShown ..)).trans (Nat.mod_eq_of_lt (s.dramEnt_lt _)), ?_, State.sameFlds_settle_tblShown o, State.SameMem.settle s.sameMem_tblShown⟩
  rw [State.settle_strm, State.tblShown_strm]

end

/-! ### The end of an operation that shows no record -/

@[simp] theorem State.tblStart_voted (s : State) (table op idx x : Nat) : (s.tblStart table op idx).voted x = s.voted x :=
  State.voted_congr (fun c _ => State.cnt_of_time (State.setFlds_time ..) x c) (s.fld_tblStart table op idx (by decide) 0 0)
@[simp] theorem State.tblStart_lNs (s : State) (table op idx : Nat) : (s.tblStart table op idx).lNs = s.lNs := by simp [State.lNs, State.lNow]

/-! The table of a WRITE is a number: its cases are split, since to evaluate them unfolds the arithmetic of every record. -/

theorem State.tblWrite_gate (s : State) (g : Nat) : s.tblWrite 2 g = (s.setGate g (s.tblData % 2 ^ 64)).tblEnd 0 := by
  generalize ht : 2 = table
  unfold State.tblWrite
  dsimp only
  split
  next => exact absurd ht (by decide)
  next => rfl
  next => exact absurd ht (by decide)
  next => exact absurd ht (by decide)
  next _ h _ _ => exact absurd ht.symm h
theorem State.tblWrite_meter (s : State) (m : Nat) : s.tblWrite 1 m = s.meterWrite m s.tblData := by
  generalize ht : 1 = table
  unfold State.tblWrite
  dsimp only
  split
  next => rfl
  next => exact absurd ht (by decide)
  next => exact absurd ht (by decide)
  next => exact absurd ht (by decide)
  next h _ _ _ => exact absurd ht.symm h

theorem State.meterWrite_of (s : State) (m : Nat) {v : Nat} (hc : bits v 255 234 ≤ 3125000) (he : bits v 233 212 ≤ 3125000) :
    s.meterWrite m v = (s.setMeter m (meterPut (v % 2 ^ 256) (bits v 211 188 * 65536) (bits v 187 164 * 65536) s.lNs)).tblEnd 0 := by
  have h : ¬(3125000 < bits v 255 234 ∨ 3125000 < bits v 233 212) := not_or.mpr ⟨Nat.not_lt.mpr hc, Nat.not_lt.mpr he⟩
  unfold State.meterWrite
  rw [if_neg h]
theorem State.meterRec_setMeter (s : State) (m v : Nat) : (s.setMeter m v).meterRec m = v := by
  unfold State.meterRec State.setMeter; rw [Tbl.get_set_same]; rfl
@[simp] theorem State.meterRec_tblEnd (s : State) (code x m : Nat) : (s.tblEnd code x).meterRec m = s.meterRec m := rfl
@[simp] theorem State.meterRec_settle (s : State) (m : Nat) : s.settle.meterRec m = s.meterRec m := by unfold State.meterRec; rw [State.settle_strm]

/-- The end of a table operation that changes DRAM, the slices and the code alone. -/
theorem State.TblOnly.settled {s u : State} {table op idx code x : Nat} (h : (s.tblStart table op idx).TblOnly u code x) (o : s.Overlock) :
    u.settle.strm.tblCode = code ∧ s.SameFlds u.settle tblCmdFlds :=
  ⟨by rw [State.settle_strm, h.tblCode], State.sameFlds_tblOp o h.regs h.dev⟩

/-- The end of a table operation that is refused or has nothing to do: its code, and nothing else. -/
theorem State.settle_tblEnd {s : State} (o : s.Overlock) (table op idx code x : Nat) :
    ((s.tblStart table op idx).tblEnd code x).settle.strm = { s.strm with tblCode := code, tblIdx := x } ∧ s.SameFlds ((s.tblStart table op idx).tblEnd code x).settle tblCmdFlds ∧
      s.SameMem ((s.tblStart table op idx).tblEnd code x).settle :=
  ⟨State.settle_strm _, State.sameFlds_tblOp o rfl rfl, State.SameMem.settle (State.sameMem_of rfl rfl rfl)⟩

section
variable {s : State} {r : Req} (o : s.Overlock) (hg : s.Grants r true .STRM_TBL_CMD 0 0) (hb : s.on .STRM_TBL_STATUS_BUSY = false) {i : BitVec 24}
include o hg hb

/-- WRITE of a stream gate. -/
theorem strmTblWrite_gate (hi : i.toNat < 65536) : ∃ t, exec (.strmTblWrite r 2 i) s = .next t ∧
    t.strm.gate.get 0 i.toNat = s.tblData % 2 ^ 64 ∧ (∀ g, g ≠ i.toNat → t.strm.gate.get 0 g = s.strm.gate.get 0 g) ∧ t.strm.tblCode = 0 ∧ s.SameFlds t tblCmdFlds ∧ s.SameMem t := by
  have hx : exec (.strmTblWrite r 2 i) s = .next (s.tblGo 2 1 i.toNat fun a => a.tblWrite 2 i.toNat).settle := exec_strmTblWrite hg 2 i
  rw [State.tblGo_of hb rfl hi, State.tblWrite_gate, State.tblStart_tblData] at hx
  generalize s.tblData % 2 ^ 64 = v at hx ⊢
  refine ⟨_, hx, ?_, fun g hgate => ?_, ?_, State.sameFlds_tblOp (table := 2) (op := 1) (idx := i.toNat) o rfl rfl, State.SameMem.settle (State.sameMem_of rfl rfl rfl)⟩ <;>
    rw [State.settle_strm]
  · exact Tbl.get_set_same 0 s.strm.gate i.toNat _
  · exact Tbl.get_set_ne 0 s.strm.gate hgate _
  · rfl

/-- WRITE of a meter whose rates are in range. -/
theorem strmTblWrite_meter (hi : i.toNat < 262144) (hc : bits s.tblData 255 234 ≤ 3125000) (he : bits s.tblData 233 212 ≤ 3125000) : ∃ t, exec (.strmTblWrite r 1 i) s = .next t ∧
    t.meterRec i.toNat = meterPut (s.tblData % 2 ^ 256) (bits s.tblData 211 188 * 65536) (bits s.tblData 187 164 * 65536) s.lNs ∧ t.strm.tblCode = 0 ∧
    s.SameFlds t tblCmdFlds ∧ s.SameMem t := by
  have hx : exec (.strmTblWrite r 1 i) s = .next (s.tblGo 1 1 i.toNat fun a => a.tblWrite 1 i.toNat).settle := exec_strmTblWrite hg 1 i
  rw [State.tblGo_of hb rfl hi, State.tblWrite_meter, State.tblStart_tblData, State.meterWrite_of _ _ hc he, State.tblStart_lNs] at hx
  generalize meterPut _ _ _ _ = v at hx ⊢
  refine ⟨_, hx, ?_, ?_, State.sameFlds_tblOp (table := 1) (op := 1) (idx := i.toNat) o rfl rfl, State.SameMem.settle (State.sameMem_of rfl rfl rfl)⟩
  · rw [State.meterRec_settle, State.meterRec_tblEnd, State.meterRec_setMeter]
  · rw [State.settle_strm]; rfl

/-- LOOKUP in a table that has no keys. -/
theorem strmTblLookup_undefined {tb : Fin 8} (ht : tb ≠ 0) : ∃ t, exec (.strmTblLookup r tb i false) s = .next t ∧ t.strm.tblCode = 7 ∧ s.SameFlds t tblCmdFlds ∧ s.SameMem t := by
  have hx : exec (.strmTblLookup r tb i false) s = .next (s.tblGo tb 5 i.toNat fun a => a.onDram (false || a.keyBeyond (entId a.tblData)) State.tblLookup).settle := by
    rw [← State.writing_of hg fun s => s.tblGo tb 5 i.toNat fun a => a.onDram (false || a.keyBeyond (entId a.tblData)) State.tblLookup]; rfl
  have hdef : tblDefined tb 5 = false := by simpa [tblDefined] using ht
  rw [State.tblGo_undefined hb hdef] at hx
  obtain ⟨hstrm, hflds, hmem⟩ := State.settle_tblEnd o tb 5 i.toNat 7 0
  exact ⟨_, hx, by rw [hstrm], hflds, hmem⟩

variable (hd : s.dramless = false) (hf : s.thim.dramFailed = false) (hk : s.keyBeyond (entId s.tblData) = false) (hm : entMethod s.tblData < 5)
include hd hf hk hm

section
variable (hi : s.entBeyond i.toNat = false)
include hi

omit o hd hm in
theorem strmTblInsert_of : exec (.strmTblInsert r 0 i false) s = .next ((s.tblStart 0 2 i.toNat).tblInsert i.toNat).settle := by
  rw [exec_strmTblInsert hg, State.tblGo_of hb rfl (index_in_table i), State.onDram_of (s := s.tblStart 0 2 i.toNat) (by simp [hi, hk]) hf]

/-- INSERT of a new key. -/
theorem strmTblInsert_new (hv : entValid (s.dramEnt i.toNat) = false) (ht : s.tagSlot (entId s.tblData) = none) (hp : s.pinFull i.toNat s.tblData = false)
    (h1 : ∃ n : Fin 8, bit (s.slotWord (s.bucket1 (entId s.tblData)) n) 63 = false) (h2 : ∃ n : Fin 8, bit (s.slotWord (s.bucket2 (entId s.tblData)) n) 63 = false) :
    ∃ t, exec (.strmTblInsert r 0 i false) s = .next t ∧ t.dramEnt i.toNat = s.tblData ∧ t.strm.tblCode = 0 ∧ s.SameFlds t tblCmdFlds := by
  obtain ⟨hs, he⟩ := State.tblInsert_stores (u := s.tblStart 0 2 i.toNat) (i := i.toNat) (by simpa) (by simpa) (by simpa) (by simpa) (by simpa)
    (by simpa only [State.tblStart_tblData, State.tblStart_bucket1, State.tblStart_slotWord] using h1) (by simpa only [State.tblStart_tblData, State.tblStart_bucket2, State.tblStart_slotWord] using h2)
  exact ⟨_, strmTblInsert_of hg hb hf hk hi, (State.dramEnt_settle ..).trans (he.trans (s.tblStart_tblData ..)), hs.settled o⟩

/-- INSERT at an index that holds a valid entry. -/
theorem strmTblInsert_refused (hv : entValid (s.dramEnt i.toNat) = true) : ∃ t, exec (.strmTblInsert r 0 i false) s = .next t ∧
    t.strm = { s.strm with tblCode := 2, tblIdx := 0 } ∧ s.SameFlds t tblCmdFlds ∧ s.SameMem t := by
  have hend : (s.tblStart 0 2 i.toNat).tblInsert i.toNat = (s.tblStart 0 2 i.toNat).tblEnd 2 := by
    have hat : entValid ((s.tblStart 0 2 i.toNat).entAt i.toNat) = true := by rw [State.entAt_dram (by simpa)]; simpa
    unfold State.tblInsert
    simp only [State.tblStart_tblData, hat, Bool.true_or, if_true, Nat.not_le.mpr hm, if_false]
  have hx := strmTblInsert_of hg hb hf hk hi
  rw [hend] at hx
  exact ⟨_, hx, State.settle_tblEnd o 0 2 i.toNat 2 0⟩

end

omit hg in
/-- UPDATE, PIN or UNPIN, told by how it changes the entry that the key finds. -/
theorem State.tblChange_done {f : Nat → Nat} {op k old : Nat} (hfind : s.findKey (entId s.tblData) = some (k, old)) (hp : s.pinFull k (f old) = false) (hlt : f old < 2 ^ 512)
    (hop : tblDefined 0 op = true) {c : Instr} (hx : exec c s = .next (s.keyOp op i fun a => a.tblChange f).settle) :
    ∃ t, exec c s = .next t ∧ t.dramEnt k = f old ∧ t.strm.tblCode = 0 ∧ s.SameFlds t tblCmdFlds := by
  obtain ⟨hs, he⟩ := State.tblChange_stores (u := s.tblStart 0 op i.toNat) (f := f) (i := k) (old := old) (by simpa) (by simpa) (by simpa) (by simpa) hlt
  rw [State.keyOp_of hb hf hk hop] at hx
  exact ⟨_, hx, (State.dramEnt_settle ..).trans he, hs.settled o⟩

section
variable {k old : Nat} (hfind : s.findKey (entId s.tblData) = some (k, old))
include hfind

theorem strmTblDelete_found : ∃ t, exec (.strmTblDelete r 0 i false) s = .next t ∧ entValid (t.dramEnt k) = false ∧ t.strm.tblCode = 0 ∧
    (∀ b n, s.tagSlot (entId s.tblData) = some (b, n) → s.slotAddr b n + 8 ≤ s.entAddr k ∨ s.entAddr k + 64 ≤ s.slotAddr b n → t.slotWord b n = 0) ∧ s.SameFlds t tblCmdFlds := by
  obtain ⟨hs, hvalid, hslot⟩ := State.tblDelete_clears (u := s.tblStart 0 4 i.toNat) (i := k) (old := old) (by simpa) (by simpa) (by simpa)
  have hx := exec_strmTblDelete hg i
  rw [State.keyOp_of hb hf hk rfl] at hx
  obtain ⟨hcode, hflds⟩ := hs.settled o
  refine ⟨_, hx, (congrArg entValid (State.dramEnt_settle ..)).trans hvalid, hcode, fun b n ht hoff => (State.slotWord_settle ..).trans (hslot b n ?_ ?_), hflds⟩
  · rwa [State.tblStart_tblData, State.tblStart_tagSlot]
  · rwa [State.tblStart_slotAddr, State.tblStart_entAddr]

theorem strmTblLookup_found : ∃ t, exec (.strmTblLookup r 0 i false) s = .next t ∧ t.tblData = old ∧ t.strm.tblIdx = k ∧ t.strm.tblCode = 0 ∧
    s.SameFlds t (tblCmdFlds ++ tblDataFlds) ∧ s.SameMem t := by
  obtain ⟨-, -, -, -, hold⟩ := State.dramFind_of_findKey hd hfind
  have hfound : (s.tblStart 0 5 i.toNat).tblLookup = s.tblShown 0 5 i.toNat old 0 k := by
    unfold State.tblLookup
    simp only [State.tblStart_tblData, State.tblStart_findKey, hfind, Nat.not_le.mpr hm, if_false]
    rfl
  have hx := exec_strmTblLookup hg i
  rw [State.keyOp_of hb hf hk rfl, hfound] at hx
  refine ⟨_, hx, ((State.tblData_settle _).trans (s.tblData_tblShown ..)).trans (Nat.mod_eq_of_lt (hold ▸ s.dramEnt_lt k)), ?_, ?_, State.sameFlds_settle_tblShown o, State.SameMem.settle s.sameMem_tblShown⟩ <;>
    rw [State.settle_strm, State.tblShown_strm]

end

omit hd in
theorem strmTblLookup_missing (hfind : s.findKey (entId s.tblData) = none) : ∃ t, exec (.strmTblLookup r 0 i false) s = .next t ∧ t.strm.tblCode = 1 ∧
    s.SameFlds t tblCmdFlds ∧ s.SameMem t := by
  have hend : (s.tblStart 0 5 i.toNat).tblLookup = (s.tblStart 0 5 i.toNat).tblEnd 1 := by
    unfold State.tblLookup
    simp only [State.tblStart_tblData, State.tblStart_findKey, hfind, Nat.not_le.mpr hm, if_false]
  have hx := exec_strmTblLookup hg i
  rw [State.keyOp_of hb hf hk rfl, hend] at hx
  obtain ⟨hstrm, hflds, hmem⟩ := State.settle_tblEnd o 0 5 i.toNat 1 0
  exact ⟨_, hx, by rw [hstrm], hflds, hmem⟩

end

/-! ### The end of an operation (R145) -/

/-- The end of a command that leaves the pair and its fields alone leaves the Overlock outputs as they were. -/
theorem State.settle_pair_of {s u : State} {l : List (Fl × Nat)} (o : s.Overlock) (h : s.SameFlds u l) (hl : ∀ e ∈ l, ¬e.1.settled) (hd : u.dev = s.dev) (hp : u.pair = s.pair) :
    u.settle.pair = s.pair := by
  have hpair : u.settle.pair = { u.pair with fsDrive := u.dev.failed, beatLevel := u.pair.beatLevel && u.settle.on .PAIR_STATUS_ROLE && !u.dev.failed } := by
    unfold State.settle
    dsimp only
    split <;> split <;> rfl
  have hrole : u.settle.on .PAIR_STATUS_ROLE = s.on .PAIR_STATUS_ROLE :=
    congrArg (· != 0) (h.settle_of o hd hl .PAIR_STATUS_ROLE 0 0 (fun m => hl _ m (.inl rfl)) (Fl.not_shared (by decide)))
  obtain ⟨-, -, hfs, hbeat⟩ := o
  have hlevel : (s.pair.beatLevel && s.on .PAIR_STATUS_ROLE && !s.dev.failed) = s.pair.beatLevel := by
    cases hb : s.pair.beatLevel
    · rfl
    · obtain ⟨hon, hnf⟩ := hbeat hb
      simp [hon, hnf]
  rw [hpair, hrole, hd, hp, hlevel, ← hfs]

/-- Lead-only state that becomes stale is registers and pair alone. -/
theorem State.staleCheck_spec {s u : State} {l : List (Fl × Nat)} (h : s.SameFlds u l) (m : (.MEND_EVENT_MIRROR_STALE, 0) ∈ l) : s.SameFlds u.staleCheck l ∧ u.staleCheck.dev = u.dev ∧
    (u.dev ≠ .shadow → u.staleCheck = u) ∧ u.SameMem u.staleCheck := by
  have hw : ∀ w : PairSt, s.SameFlds ({ u with pair := w }) l := fun w => h.regs rfl
  have hall : s.SameFlds u.staleAll l ∧ u.staleAll.dev = u.dev ∧ u.SameMem u.staleAll := by
    unfold State.staleAll
    dsimp only
    split
    · exact ⟨h, rfl, .refl u⟩
    · split
      · exact ⟨(hw _).event (.inl m), by simp, State.sameMem_of (by simp) (by simp) (by simp)⟩
      · exact ⟨hw _, rfl, State.sameMem_of rfl rfl rfl⟩
  obtain ⟨hflds, hdev, hmem⟩ := hall
  unfold State.staleCheck State.markStale
  split
  · split
    next hs => exact ⟨hflds, hdev, fun hn => absurd hs hn, hmem⟩
    next => exact ⟨h, rfl, fun _ => rfl, .refl u⟩
  · exact ⟨h, rfl, fun _ => rfl, .refl u⟩

/-- The code and the index that an operation shows when it ends. -/
def State.tblResult (s : State) : List (Fl × Nat) := [(.STRM_TBL_STATUS_BUSY, 0), (.STRM_TBL_STATUS_CODE, s.strm.tblCode), (.STRM_TBL_STATUS_INDEX, s.strm.tblIdx)]
/-- The state in which an operation has ended (R145). -/
def State.tblShownDone (s : State) : State := (s.setFlds 0 0 s.tblResult).event .STRM_EVENT_TBL_DONE
/-- The fields that the end of an operation may write. -/
abbrev tblDoneFlds : List (Fl × Nat) := [(.STRM_TBL_STATUS_BUSY, 0), (.STRM_TBL_STATUS_CODE, 0), (.STRM_TBL_STATUS_INDEX, 0), (.STRM_EVENT_TBL_DONE, 0), (.MEND_EVENT_MIRROR_STALE, 0)]

theorem State.tblDone_of {s : State} (hb : s.on .STRM_TBL_STATUS_BUSY = true) : s.tblDone = s.tblShownDone.staleCheck := if_pos hb
theorem State.sameFlds_tblShownDone (s : State) {l : List (Fl × Nat)} (h : ∀ e ∈ [(Fl.STRM_TBL_STATUS_BUSY, 0), (.STRM_TBL_STATUS_CODE, 0), (.STRM_TBL_STATUS_INDEX, 0), (.STRM_EVENT_TBL_DONE, 0)], e ∈ l) :
    s.SameFlds s.tblShownDone l :=
  ((State.SameFlds.refl s _).setFlds 0 0 _ fun e he => h _ (by simp only [State.tblResult, List.mem_cons, List.not_mem_nil, or_false] at he; rcases he with rfl | rfl | rfl <;> simp)).event (.inl (h _ (by simp)))

/-- A field that shows the result of an operation. -/
theorem State.fld_tblShownDone (s : State) {f : Fl} {v : Nat} (h : (f, v) ∈ s.tblResult) (hf : f ≠ .STRM_EVENT_TBL_DONE) (hs : ¬f.shared) : s.tblShownDone.fld f = v % 2 ^ f.info.width := by
  have hev : s.tblShownDone.fld f = (s.setFlds 0 0 s.tblResult).fld f :=
    ((State.SameFlds.refl (s.setFlds 0 0 s.tblResult) [(.STRM_EVENT_TBL_DONE, 0)]).event (.inl (by simp))) f 0 0 (by simpa using hf) hs
  rw [hev, s.fld_setFlds_mem 0 0 (by simp [State.tblResult]) h]

/-- The end of an operation (R145). -/
theorem strmTblComplete_spec {s : State} (o : s.Overlock) (hdev : s.dev ≠ .off) (hb : s.on .STRM_TBL_STATUS_BUSY = true) : ∃ t, exec .strmTblComplete s = .next t ∧
    t.on .STRM_TBL_STATUS_BUSY = false ∧ t.fld .STRM_TBL_STATUS_CODE = s.strm.tblCode % 16 ∧ t.fld .STRM_TBL_STATUS_INDEX = s.strm.tblIdx % 2 ^ 24 ∧
    t.on .STRM_EVENT_TBL_DONE = true ∧ (s.dev ≠ .shadow → t.pair = s.pair) ∧ s.SameFlds t tblDoneFlds ∧ s.SameMem t := by
  have hx : exec .strmTblComplete s = .next s.tblShownDone.staleCheck.settle := by
    rw [← State.tblDone_of hb, ← State.powered_of hdev State.tblDone]; rfl
  have hsame := s.sameFlds_tblShownDone (l := tblDoneFlds) (by simp)
  have hd : s.tblShownDone.dev = s.dev := (State.event_dev ..).trans (s.setFlds_dev ..)
  obtain ⟨hflds, hdev', hown, hmem⟩ := State.staleCheck_spec hsame (by simp)
  have hown' : s.tblShownDone.SameFlds s.tblShownDone.staleCheck [(.MEND_EVENT_MIRROR_STALE, 0)] := (State.staleCheck_spec (.refl _ _) (by simp)).1
  have hfld : ∀ f : Fl, ¬f.settled → f ≠ .MEND_EVENT_MIRROR_STALE → ¬f.shared → s.tblShownDone.staleCheck.settle.fld f = s.tblShownDone.fld f := fun f hs hf hsh =>
    (State.fld_settle_of _ hs 0 0).trans (hown' _ 0 0 (by simpa using hf) hsh)
  have hres : ∀ (f : Fl) {v : Nat}, (f, v) ∈ s.tblResult → ¬f.settled → f ≠ .MEND_EVENT_MIRROR_STALE → f ≠ .STRM_EVENT_TBL_DONE → ¬f.shared →
      s.tblShownDone.staleCheck.settle.fld f = v % 2 ^ f.info.width := fun f _ h hs hf hf' hsh => (hfld f hs hf hsh).trans (s.fld_tblShownDone h hf' hsh)
  refine ⟨_, hx, ?_, hres .STRM_TBL_STATUS_CODE (by simp [State.tblResult]) (by decide) (by decide) (by decide) (Fl.not_shared (by decide)),
    hres .STRM_TBL_STATUS_INDEX (by simp [State.tblResult]) (by decide) (by decide) (by decide) (Fl.not_shared (by decide)), ?_, fun hn => ?_,
    hflds.settle_of o (hdev'.trans hd) (by decide), State.SameMem.settle (State.SameMem.trans (State.sameMem_of ?_ ?_ ?_) hmem)⟩
  · rw [State.on, hres .STRM_TBL_STATUS_BUSY (v := 0) (by simp [State.tblResult]) (by decide) (by decide) (by decide) (Fl.not_shared (by decide))]; rfl
  · rw [State.on, hfld .STRM_EVENT_TBL_DONE (by decide) (by decide) (Fl.not_shared (by decide)), State.tblShownDone, State.fld_event_same _ _ _ (by decide) (by decide)]; rfl
  · refine State.settle_pair_of o hflds (by decide) (hdev'.trans hd) ?_
    rw [hown (hd ▸ hn)]
    exact (State.event_pair ..).trans (s.setFlds_pair ..)
  · exact (State.event_localMem ..).trans (s.setFlds_localMem ..)
  · exact (State.event_dram ..).trans (s.setFlds_dram ..)
  · exact congrArg (·.nvm) ((State.event_boot ..).trans (s.setFlds_boot ..))

/-- Settles O28, operation by operation: each acts on the state in which its command's fields are written. -/
theorem streamTableOperations : Obligations.StreamTableOperations := by
  intro s r o
  refine ⟨fun tb i e hg hb => strmTblRead_busy o hg hb tb i e, fun i e hg hb hi => strmTblRead_gate o hg hb e hi, ?_, fun i hg hb hi => strmTblWrite_gate o hg hb hi,
    fun i hg hb hi hc he => strmTblWrite_meter o hg hb hi hc he,
    fun i hg hb hd hf hi hk hm hv ht hp h1 h2 => strmTblInsert_new o hg hb hd hf hk hm hi hv ht hp h1 h2,
    fun i hg hb hd hf hi hk hm hv => strmTblInsert_refused o hg hb hd hf hk hm hi hv, ?_,
    fun i hg hb _ hf hk hm hfind => strmTblLookup_missing o hg hb hf hk hm hfind, fun tb i hg hb ht => strmTblLookup_undefined o hg hb ht,
    fun hdev hb => strmTblComplete_spec o hdev hb⟩
  · rintro i e hg hb hd rfl hf hi
    exact strmTblRead_entry o hg hb hd hf hi
  · intro i k old hg hb hd hf hk hm hfind
    obtain ⟨-, -, -, -, hold⟩ := State.dramFind_of_findKey hd hfind
    have hlt : old < 2 ^ 512 := hold ▸ s.dramEnt_lt k
    have hdata : ∀ op, (s.tblStart 0 op i.toNat).tblData = s.tblData := fun op => s.tblStart_tblData 0 op i.toNat
    refine ⟨fun hp => ?_, fun hp => ?_, fun hp => ?_, strmTblDelete_found o hg hb hd hf hk hm hfind, strmTblLookup_found o hg hb hd hf hk hm hfind⟩
    · refine State.tblChange_done o hb hd hf hk hm (f := fun old => updated old s.tblData) hfind hp (updated_lt s.tblData_lt) (op := 3) (i := i) rfl ?_
      rw [exec_strmTblUpdate hg, State.keyOp_of hb hf hk rfl, State.keyOp_of hb hf hk rfl, hdata]
    · refine State.tblChange_done o hb hd hf hk hm (f := fun old => pinned old s.tblData) hfind hp (pinned_lt hlt) (op := 6) (i := i) rfl ?_
      rw [exec_strmTblPin hg, State.keyOp_of hb hf hk rfl, State.keyOp_of hb hf hk rfl, hdata]
    · exact State.tblChange_done o hb hd hf hk hm (f := unpinned) hfind hp (lt_of_le_of_lt (clearBit_le ..) hlt) (op := 7) (i := i) rfl (exec_strmTblUnpin hg i)

end Sys2Proof.Machine
end

section
/-!
PROOFS. The Stream Cache's upkeep, the ingress gate lists and the meters (R107, R122, R129, R133 to R135, R141, R565).
-/
namespace Sys2Proof.Machine

/-! ## A bit set in a word -/

theorem setBit_div (w n : Nat) : setBit w n / 2 ^ (n + 1) = w / 2 ^ (n + 1) := by
  unfold setBit
  split
  · rfl
  next h =>
    rw [Nat.testBit_eq_decide_div_mod_eq, decide_eq_true_eq] at h
    rw [pow_succ, ← Nat.div_div_eq_div_mul, ← Nat.div_div_eq_div_mul, Nat.add_div_right _ (Nat.two_pow_pos n)]
    omega

theorem setBit_mod (w n : Nat) : setBit w n % 2 ^ n = w % 2 ^ n := by
  unfold setBit
  split
  · rfl
  · exact Nat.add_mod_right ..

/-- The fields of a word that lie off the bit set keep their values. -/
theorem bits_setBit (w : Nat) {n hi lo : Nat} (h : n < lo ∨ hi < n) : bits (setBit w n) hi lo = bits w hi lo := by
  rcases h with h | h
  · obtain ⟨k, rfl⟩ := Nat.exists_eq_add_of_le h
    rw [Nat.succ_eq_add_one, bits, bits, pow_add, ← Nat.div_div_eq_div_mul, ← Nat.div_div_eq_div_mul, setBit_div]
  · rw [← bits_mod h, setBit_mod, bits_mod h]

theorem bit_eq_bits (w n : Nat) : bit w n = decide (bits w n n = 1) := by
  rw [bit, Nat.testBit_eq_decide_div_mod_eq, bits, Nat.add_sub_cancel_left, pow_one]

theorem bit_setBit_ne (w : Nat) {n m : Nat} (h : m ≠ n) : bit (setBit w n) m = bit w m := by
  rw [bit_eq_bits, bit_eq_bits, bits_setBit w (by omega)]

/-! ## Commands that change the Stream section alone -/

theorem State.sameFlds_withStrm {s : State} (o : s.Overlock) (w : StrmSt) : s.SameFlds ({ s with strm := w } : State).settle [] :=
  fun f i j _ _ => State.fld_settle_id (s := { s with strm := w }) o f i j
theorem State.sameMem_withStrm (s : State) (w : StrmSt) : s.SameMem ({ s with strm := w } : State).settle := State.SameMem.settle (State.sameMem_of rfl rfl rfl)

section
variable {s : State} (o : s.Overlock)
include o

/-! ## HASH_SEED (R565) -/

theorem hashSeedWrite_taken {r : Req} (v : BitVec 64) (hg : s.Grants r true .STRM_HASH_SEED 0 0) (hrun : s.on .STRM_CTRL_RUN = false) (he : s.tableEmpty = true) :
    ∃ t, exec (.hashSeedWrite r v) s = .next t ∧ t.fld .STRM_HASH_SEED_SEED1 = v.toNat % 2 ^ 32 ∧ t.fld .STRM_HASH_SEED_SEED2 = v.toNat / 2 ^ 32 ∧ t.strm.slice = [] ∧
    s.SameFlds t [(.STRM_HASH_SEED_SEED1, 0), (.STRM_HASH_SEED_SEED2, 0)] ∧ s.SameMem t := by
  have hset : s.seedWrite v.toNat = { s.setFlds 0 0 [(.STRM_HASH_SEED_SEED2, v.toNat / 2 ^ 32), (.STRM_HASH_SEED_SEED1, v.toNat)] with strm := { s.strm with slice := [] } } := by
    unfold State.seedWrite; rw [hrun, he]; rfl
  have hx : exec (.hashSeedWrite r v) s = .next (s.seedWrite v.toNat).settle := by
    rw [← State.writing_of hg fun s => s.seedWrite v.toNat]; rfl
  rw [hset] at hx
  have hlt : v.toNat / 2 ^ 32 < 2 ^ 32 := div_two_pow_lt v.isLt (by decide)
  refine ⟨_, hx, ?_, ?_, by rw [State.settle_strm], State.SameFlds.settle_of (State.SameFlds.regs ((State.SameFlds.refl s _).setFlds 0 0 _ (by simp)) rfl) o (s.setFlds_dev ..) (by decide),
    State.SameMem.settle (State.sameMem_of (s.setFlds_localMem ..) (s.setFlds_dram ..) (congrArg (·.nvm) (s.setFlds_boot ..)))⟩
  · rw [State.fld_settle_of _ (by decide)]
    exact s.fld_setFlds_mem 0 0 (l := [(.STRM_HASH_SEED_SEED2, v.toNat / 2 ^ 32), (.STRM_HASH_SEED_SEED1, v.toNat)]) (by simp) (by simp)
  · rw [State.fld_settle_of _ (by decide)]
    exact (s.fld_setFlds_mem 0 0 (l := [(.STRM_HASH_SEED_SEED2, v.toNat / 2 ^ 32), (.STRM_HASH_SEED_SEED1, v.toNat)]) (by simp) (by simp)).trans (Nat.mod_eq_of_lt hlt)

theorem hashSeedWrite_refused {r : Req} (v : BitVec 64) (hg : s.Grants r true .STRM_HASH_SEED 0 0) (h : s.on .STRM_CTRL_RUN = true ∨ s.tableEmpty = false) :
    ∃ t, exec (.hashSeedWrite r v) s = .next t ∧ t.on .STRM_EVENT_CHANGE_REFUSED = true ∧ t.strm = s.strm ∧ s.SameFlds t [(.STRM_EVENT_CHANGE_REFUSED, 0)] ∧ s.SameMem t := by
  have hset : s.seedWrite v.toNat = s.event .STRM_EVENT_CHANGE_REFUSED := by
    unfold State.seedWrite
    rcases h with h | h <;> simp [h]
  have hx : exec (.hashSeedWrite r v) s = .next (s.seedWrite v.toNat).settle := by
    rw [← State.writing_of hg fun s => s.seedWrite v.toNat]; rfl
  rw [hset] at hx
  refine ⟨_, hx, ?_, by simp, State.SameFlds.settle_of ((State.SameFlds.refl s _).event (.inl (by simp))) o (by simp) (by decide), State.SameMem.settle (State.sameMem_of (by simp) (by simp) (by simp))⟩
  rw [State.on, State.fld_settle_of _ (by decide), State.fld_event_same _ _ _ (by decide) (by decide)]
  rfl

variable (hdev : s.dev ≠ .off)
include hdev

/-! ## The slices (R122, R129) -/

theorem negEntryExpiry_spec : ∃ t, exec .negEntryExpiry s = .next t ∧ (∀ e ∈ t.strm.slice, ∀ w ∈ e.2, w.kind = .negative → s.lNow < w.ends) ∧
    (∀ e ∈ s.strm.slice, ∀ w ∈ e.2, w.kind ≠ .negative ∨ s.lNow < w.ends → ∃ l, (e.1, l) ∈ t.strm.slice ∧ w ∈ l) ∧ s.SameFlds t [] ∧ s.SameMem t := by
  have hx : exec .negEntryExpiry s = .next s.negExpire.settle := by rw [← State.powered_of hdev State.negExpire]; rfl
  refine ⟨_, hx, ?_, ?_, State.sameFlds_withStrm o _, State.sameMem_withStrm s _⟩ <;> rw [State.settle_strm]
  · intro e he w hw hk
    simp only [State.negExpire, List.mem_filter, List.mem_map] at he
    obtain ⟨⟨e, -, rfl⟩, -⟩ := he
    simpa [hk] using (List.mem_filter.mp hw).2
  · intro e he w hw hk
    have hkeep : w ∈ e.2.filter fun w => !(w.kind == .negative && decide (w.ends ≤ s.lNow)) :=
      List.mem_filter.mpr ⟨hw, by rcases hk with hk | hk <;> simp [hk]⟩
    refine ⟨_, List.mem_filter.mpr ⟨List.mem_map.mpr ⟨e, he, rfl⟩, ?_⟩, hkeep⟩
    rw [Bool.not_eq_true', ← Bool.not_eq_true, List.isEmpty_iff]
    exact List.ne_nil_of_mem hkeep

/-- A way after a reload. -/
def State.reloaded (s : State) (w : Way) : Way := if w.kind = .lost then { w with kind := .entry, ent := s.dramEnt w.idx } else w

theorem cacheEntryReload_spec (b : Bolt) (k : Fin 4096) (hd : s.dramless = false) : ∃ t, exec (.cacheEntryReload b k) s = .next t ∧ (∀ w ∈ t.ways b k, w.kind ≠ .lost) ∧
    (∀ w ∈ s.ways b k, w.kind = .lost → ∃ x ∈ t.ways b k, x.kind = .entry ∧ x.idx = w.idx ∧ x.ent = s.dramEnt w.idx) ∧ (∀ w ∈ s.ways b k, w.kind ≠ .lost → w ∈ t.ways b k) ∧
    s.SameFlds t [] ∧ s.SameMem t := by
  have hset : s.reload b k = s.setWays b k ((s.ways b k).map s.reloaded) := by
    unfold State.reload; rw [hd]; rfl
  have hx : exec (.cacheEntryReload b k) s = .next (s.reload b k).settle := by rw [← State.powered_of hdev fun s => s.reload b k]; rfl
  have hways : (s.reload b k).settle.ways b k = (s.ways b k).map s.reloaded := by
    rw [State.ways, State.settle_strm, hset]; exact Tbl.get_set_same [] s.strm.slice _ _
  have hlost : ∀ {w : Way}, w.kind = .lost → s.reloaded w = { w with kind := .entry, ent := s.dramEnt w.idx } := fun h => if_pos h
  have hheld : ∀ {w : Way}, w.kind ≠ .lost → s.reloaded w = w := fun h => if_neg h
  refine ⟨_, hx, ?_, ?_, ?_, ?_⟩
  · rw [hways]
    intro w hw
    obtain ⟨x, -, rfl⟩ := List.mem_map.mp hw
    by_cases h : x.kind = .lost
    · rw [hlost h]; exact WayKind.noConfusion
    · rwa [hheld h]
  · intro w hw h
    refine ⟨s.reloaded w, by rw [hways]; exact List.mem_map_of_mem hw, ?_⟩
    rw [hlost h]
    exact ⟨rfl, rfl, rfl⟩
  · intro w hw h
    rw [hways]
    exact List.mem_map.mpr ⟨w, hw, hheld h⟩
  · rw [hset]; exact ⟨State.sameFlds_withStrm o _, State.sameMem_withStrm s _⟩

/-! ## The windows of CTRL_LIMIT (R107) -/

omit o hdev in
/-- The windows that have ended of the ports below `n` have begun again; nothing else has changed. -/
theorem State.ctrlWindows_begin (s : State) (n : Nat) : ∃ u : Tbl PortSt,
    (List.range n).foldl (fun a p => if (a.pt p).ctrlWin = a.ctrlWindow then a else a.updPt p fun x => { x with ctrlCount := 0, ctrlWin := s.ctrlWindow }) s = { s with port := u } ∧
    ∀ p, ((u.get {} p).ctrlWin, (u.get {} p).ctrlCount) = if p < n then (s.ctrlWindow, if (s.pt p).ctrlWin = s.ctrlWindow then (s.pt p).ctrlCount else 0) else ((s.pt p).ctrlWin, (s.pt p).ctrlCount) := by
  induction n with
  | zero => exact ⟨s.port, rfl, fun p => rfl⟩
  | succ n ih =>
    obtain ⟨u, hu, hp⟩ := ih
    rw [List.range_succ, List.foldl_append, hu]
    have hn := hp n
    rw [if_neg (lt_irrefl n), Prod.mk.injEq] at hn
    obtain ⟨hwin, hcount⟩ := hn
    have hstep : ∀ p, p ≠ n → (p < n + 1 ↔ p < n) := fun p h => by omega
    by_cases hw : (s.pt n).ctrlWin = s.ctrlWindow
    · refine ⟨u, if_pos (hwin.trans hw), fun p => ?_⟩
      by_cases e : p = n
      · subst e; rw [if_pos (Nat.lt_succ_self p), if_pos hw, hwin, hcount, hw]
      · simp only [hp, hstep p e]
    · refine ⟨_, if_neg fun h => hw (hwin.symm.trans h), fun p => ?_⟩
      by_cases e : p = n
      · subst e; rw [if_pos (Nat.lt_succ_self p), if_neg hw, Tbl.get_set_same]
      · rw [Tbl.get_set_ne ({} : PortSt) u e]; simp only [hp, hstep p e]

theorem ctrlLimitWindowEnd_spec : ∃ t, exec .ctrlLimitWindowEnd s = .next t ∧ (∀ p : Port, (t.pt p).ctrlWin = s.ctrlWindow ∧
    (t.pt p).ctrlCount = if (s.pt p).ctrlWin = s.ctrlWindow then (s.pt p).ctrlCount else 0) ∧ s.SameFlds t [] ∧ s.SameMem t := by
  have hx : exec .ctrlLimitWindowEnd s = .next s.ctrlWindowEnd.settle := by rw [← State.powered_of hdev State.ctrlWindowEnd]; rfl
  obtain ⟨u, hu, hp⟩ := s.ctrlWindows_begin 128
  rw [State.ctrlWindowEnd, hu] at hx
  refine ⟨_, hx, fun p => ?_, fun f i j _ _ => State.fld_settle_id (s := { s with port := u }) o f i j, State.SameMem.settle (State.sameMem_of rfl rfl rfl)⟩
  have h := hp p
  rw [if_pos p.isLt, Prod.mk.injEq] at h
  rw [State.pt_settle]
  exact h

/-! ## The meter sweep (R141) -/

omit o hdev in
theorem Tbl.get_map {α : Type} (f : α → α) (d : α) (hd : f d = d) (t : Tbl α) (k : Nat) : Tbl.get d (t.map fun x => (x.1, f x.2)) k = f (Tbl.get d t k) := by
  induction t with
  | nil => exact hd.symm
  | cons e t ih =>
    simp only [List.map_cons, Tbl.get]
    split
    · rfl
    · exact ih

theorem meterSweep_spec : ∃ t, exec .meterSweep s = .next t ∧ t.strm.swept = s.lNs ∧
    (∀ (m v : Nat), s.strm.meter.get none m = some v →
      t.strm.meter.get none m = some (meterPut v (meterFill v s.lNs).1 (meterFill v s.lNs).2.1 (meterFill v s.lNs).2.2)) ∧ s.SameFlds t [] ∧ s.SameMem t := by
  have hx : exec .meterSweep s = .next s.meterSweep.settle := by rw [← State.powered_of hdev State.meterSweep]; rfl
  refine ⟨_, hx, by rw [State.settle_strm]; rfl, fun m v hm => ?_, State.sameFlds_withStrm o _, State.sameMem_withStrm s _⟩
  rw [State.settle_strm]
  refine (Tbl.get_map (Option.map _) none rfl s.strm.meter m).trans ?_
  rw [hm]
  rfl

end

/-! ## Ingress gate lists (R133 to R135) -/

/-! ### A WRITE of a configuration record -/

@[simp] theorem State.tblStart_igl (s : State) (table op idx l : Nat) : (s.tblStart table op idx).igl l = s.igl l := rfl
@[simp] theorem State.tblStart_iglBad (s : State) (table op idx : Nat) (x : IglSt) : (s.tblStart table op idx).iglBad x = s.iglBad x := by
  unfold State.iglBad State.domState; rw [s.fld_tblStart table op idx (by decide)]

theorem State.igl_setIgl (s : State) (l : Nat) (x : IglSt) : (s.setIgl l x).igl l = x := Tbl.get_set_same ({} : IglSt) s.strm.igl l x
theorem State.igl_setIgl_ne (s : State) {l k : Nat} (h : k ≠ l) (x : IglSt) : (s.setIgl l x).igl k = s.igl k := Tbl.get_set_ne ({} : IglSt) s.strm.igl h x
@[simp] theorem State.igl_settle (s : State) (l : Nat) : s.settle.igl l = s.igl l := by unfold State.igl; rw [State.settle_strm]

/-- COMMIT and STOP lie off the configuration that a record gives. -/
theorem iglOf_setBit_commit (x : IglSt) (v : Nat) : iglOf x (setBit v 63) = iglOf x v := by
  simp only [iglOf, bits_setBit, bit_setBit_ne, ne_eq, Nat.reduceEqDiff, not_false_eq_true, Nat.reduceLT, or_true, true_or]
theorem iglOf_setBit_stop (x : IglSt) (v : Nat) : iglOf x (setBit v 47) = iglOf x v := by
  simp only [iglOf, bits_setBit, bit_setBit_ne, ne_eq, Nat.reduceEqDiff, not_false_eq_true, Nat.reduceLT, true_or]

/-- The list with the switch that a COMMIT makes pending. -/
def IglSt.committed (x : IglSt) (now : Nat) : IglSt := { x with tsw := some (switchTime now (timeOf x.baseSec x.baseNs 0) (x.cycle * nsT)) }
/-- A pending STOP moved by a COMMIT to the cycle start that the list has next. -/
def IglSt.restop (x : IglSt) (commit : Bool) (now : Nat) : IglSt :=
  if commit && x.stopAt.any (fun u => decide ((now : Int) < u)) then { x with stopAt := (x.sched.cycleAt now).map (·.stop) } else x

theorem IglSt.restop_none {x : IglSt} (h : x.stopAt = none) (commit : Bool) (now : Nat) : x.restop commit now = x := by
  rw [IglSt.restop, h, Option.any_none, Bool.and_false, if_neg Bool.false_ne_true]
theorem IglSt.restop_pending {x : IglSt} {u : Int} {now : Nat} (h : x.stopAt = some u) (hu : (now : Int) < u) :
    x.restop true now = { x with stopAt := (x.sched.cycleAt now).map (·.stop) } := by
  rw [IglSt.restop, h, Option.any_some, decide_eq_true hu, Bool.and_true, if_pos rfl]
theorem IglSt.stop_of {x : IglSt} (hr : x.running = true) (hs : x.stopAt = none) (now : Int) : x.stop now = { x with stopAt := (x.sched.cycleAt now).map (·.stop) } := by
  rw [IglSt.stop, hr, hs, Option.isNone_none, Bool.and_true, if_pos rfl]

theorem IglSt.stop_iglOf {x : IglSt} {v : Nat} {now : Int} {c : Cyc} (hr : x.running = true) (hs : x.stopAt = none) (hc : (iglOf x v).sched.cycleAt now = some c) :
    ((iglOf x v).stop now).running = true ∧ ((iglOf x v).stop now).stopAt = some c.stop := by
  rw [IglSt.stop_of (x := iglOf x v) hr hs, hc]
  exact ⟨hr, rfl⟩
/-- The list that a COMMIT leaves where no STOP is pending. -/
theorem IglSt.restop_committed_idle {x : IglSt} {v now : Nat} (hs : x.stopAt = none) :
    ((iglOf x v).committed now).restop true now = { iglOf x v with tsw := some (switchTime now (timeOf (bits v 175 128) (bits v 127 96) 0) (bits v 95 64 * nsT)) } :=
  IglSt.restop_none (x := (iglOf x v).committed now) hs true now
/-- The list that a COMMIT leaves where a STOP is pending. -/
theorem IglSt.restop_committed_pending {x y : IglSt} {v now : Nat} {u : Int} (hs : x.stopAt = some u) (hu : (now : Int) < u)
    (hy : y = { iglOf x v with tsw := some (switchTime now (timeOf (bits v 175 128) (bits v 127 96) 0) (bits v 95 64 * nsT)) }) :
    ((iglOf x v).committed now).restop true now = { y with stopAt := (y.sched.cycleAt now).map (·.stop) } := by
  subst hy
  exact IglSt.restop_pending (x := (iglOf x v).committed now) hs hu

/-- The list that a WRITE leaves. -/
def IglSt.written (x : IglSt) (v now : Nat) : IglSt :=
  (if bit v 63 then (if bit v 47 then (iglOf x v).stop now else iglOf x v).committed now else if bit v 47 then (iglOf x v).stop now else iglOf x v).restop (bit v 63) now
/-- A pending switch keeps a record from being written (R134). -/
def IglSt.frozen (x : IglSt) (v : Nat) : Bool :=
  x.tsw.isSome && (bit v 63 || bits v 175 128 != x.baseSec || bits v 127 96 != x.baseNs || bits v 95 64 != x.cycle || bits v 56 48 != x.adminLen)
/-- A record names another domain for a list that runs or is about to (R134). -/
def IglSt.moved (x : IglSt) (v : Nat) : Bool := bits v 61 59 != x.dom && (x.running || x.tsw.isSome)

theorem IglSt.frozen_of_commit {x : IglSt} {v : Nat} (ht : x.tsw.isSome = true) (hc : bit v 63 = true) : x.frozen v = true := by simp [IglSt.frozen, ht, hc]
theorem IglSt.frozen_idle {x : IglSt} (ht : x.tsw = none) (v : Nat) : x.frozen v = false := by simp [IglSt.frozen, ht]
theorem IglSt.moved_of {x : IglSt} {v : Nat} (ht : x.tsw = none) (hd : x.running = false ∨ bits v 61 59 = x.dom) : x.moved v = false := by
  rcases hd with h | h <;> simp [IglSt.moved, h, ht]

theorem State.iglWrite_eq (s : State) (l v : Nat) : s.iglWrite l v =
    if 999999999 < bits v 127 96 then s.tblEnd 7
    else if (s.igl l).frozen v || (s.igl l).moved v then s.iglRefused
    else if bit v 63 && s.iglBad (iglOf (s.igl l) v) then s.tblEnd 7
    else (s.setIgl l ((s.igl l).written v (s.voted (bits v 61 59)))).tblEnd 0 := by
  unfold State.iglWrite IglSt.frozen IglSt.moved IglSt.written IglSt.restop IglSt.committed
  rfl

section
variable {s : State} {l v : Nat} (hns : bits v 127 96 ≤ 999999999)
include hns

/-- A WRITE that meets a pending switch is refused. -/
theorem State.iglWrite_frozen (h : (s.igl l).frozen v = true) : s.iglWrite l v = s.iglRefused := by
  rw [State.iglWrite_eq, if_neg (Nat.not_lt.mpr hns), h, Bool.true_or, if_pos rfl]

/-- A WRITE that passes its checks. -/
theorem State.iglWrite_taken (hf : (s.igl l).frozen v = false) (hm : (s.igl l).moved v = false) (hb : (bit v 63 && s.iglBad (iglOf (s.igl l) v)) = false) :
    s.iglWrite l v = (s.setIgl l ((s.igl l).written v (s.voted (bits v 61 59)))).tblEnd 0 := by
  rw [State.iglWrite_eq, if_neg (Nat.not_lt.mpr hns), hf, hm, hb, Bool.or_false, if_neg Bool.false_ne_true, if_neg Bool.false_ne_true]

end

theorem IglSt.written_commit (x : IglSt) {v : Nat} (hs : bit v 47 = false) (now : Nat) : x.written (setBit v 63) now = ((iglOf x v).committed now).restop true now := by
  have hc : bit (setBit v 63) 63 = true := testBit_setBit_same ..
  rw [IglSt.written, hc, bit_setBit_ne v (by decide), hs, iglOf_setBit_commit]
  rfl
theorem IglSt.written_stop (x : IglSt) {v : Nat} (hc : bit v 63 = false) (now : Nat) : x.written (setBit v 47) now = (iglOf x v).stop now := by
  have hs : bit (setBit v 47) 47 = true := testBit_setBit_same ..
  rw [IglSt.written, hs, bit_setBit_ne v (by decide), hc, iglOf_setBit_stop]
  rfl

section
variable {s : State} (o : s.Overlock) {l : Fin 4096} {r : Req} (hg : s.Grants r true .STRM_TBL_CMD 0 0) (hb : s.on .STRM_TBL_STATUS_BUSY = false)
include o hg hb

omit o in
theorem ingressGateCommit_of : exec (.ingressGateCommit r l) s = .next ((s.tblStart 4 1 l).iglWrite l (setBit s.tblData 63)).settle := by
  have hx : exec (.ingressGateCommit r l) s = .next (s.tblGo 4 1 l fun a => a.iglWrite l (setBit a.tblData 63)).settle := by
    rw [← State.writing_of hg fun s => s.tblGo 4 1 l fun a => a.iglWrite l (setBit a.tblData 63)]; rfl
  rw [hx, State.tblGo_of hb rfl l.isLt, State.tblStart_tblData]

omit o in
theorem ingressGateStop_of : exec (.ingressGateStop r l) s = .next ((s.tblStart 4 1 l).iglWrite l (setBit s.tblData 47)).settle := by
  have hx : exec (.ingressGateStop r l) s = .next (s.tblGo 4 1 l fun a => a.iglWrite l (setBit a.tblData 47)).settle := by
    rw [← State.writing_of hg fun s => s.tblGo 4 1 l fun a => a.iglWrite l (setBit a.tblData 47)]; rfl
  rw [hx, State.tblGo_of hb rfl l.isLt, State.tblStart_tblData]

omit hg hb in
/-- The end of a WRITE that changes one list. -/
theorem State.settle_iglSet (x : IglSt) : (((s.tblStart 4 1 l).setIgl l x).tblEnd 0).settle.igl l = x ∧ (((s.tblStart 4 1 l).setIgl l x).tblEnd 0).settle.strm.tblCode = 0 ∧
    (∀ k, k ≠ l.val → (((s.tblStart 4 1 l).setIgl l x).tblEnd 0).settle.igl k = s.igl k) ∧ s.SameFlds (((s.tblStart 4 1 l).setIgl l x).tblEnd 0).settle tblCmdFlds ∧
    s.SameMem (((s.tblStart 4 1 l).setIgl l x).tblEnd 0).settle :=
  ⟨(State.igl_settle ..).trans (State.igl_setIgl ..), by rw [State.settle_strm]; rfl, fun k hk => (State.igl_settle ..).trans (State.igl_setIgl_ne _ hk x),
    State.sameFlds_tblOp (table := 4) (op := 1) (idx := l) o rfl rfl, State.SameMem.settle (State.sameMem_of rfl rfl rfl)⟩

variable (hns : bits s.tblData 127 96 ≤ 999999999)
include hns

theorem ingressGateCommit_taken (ht : (s.igl l).tsw = none) (hs : bit s.tblData 47 = false) (hd : (s.igl l).running = false ∨ bits s.tblData 61 59 = (s.igl l).dom)
    (hbad : s.iglBad (iglOf (s.igl l) s.tblData) = false) : ∃ t, exec (.ingressGateCommit r l) s = .next t ∧
    t.igl l = ((iglOf (s.igl l) s.tblData).committed (s.voted (bits s.tblData 61 59))).restop true (s.voted (bits s.tblData 61 59)) ∧ t.strm.tblCode = 0 ∧
    (∀ k, k ≠ l.val → t.igl k = s.igl k) ∧ s.SameFlds t tblCmdFlds ∧ s.SameMem t := by
  have hw := State.iglWrite_taken (s := s.tblStart 4 1 l) (l := l) (v := setBit s.tblData 63) (by rwa [bits_setBit _ (by decide)]) (IglSt.frozen_idle ht _)
    (IglSt.moved_of ht (by rwa [bits_setBit _ (by decide)])) (by rw [State.tblStart_iglBad, State.tblStart_igl, iglOf_setBit_commit, hbad, Bool.and_false])
  rw [State.tblStart_igl, IglSt.written_commit _ hs, bits_setBit _ (by decide), State.tblStart_voted] at hw
  exact ⟨_, (ingressGateCommit_of hg hb).trans (by rw [hw]), State.settle_iglSet o _⟩

theorem ingressGateCommit_refused (ht : (s.igl l).tsw.isSome = true) : ∃ t, exec (.ingressGateCommit r l) s = .next t ∧ t.strm = { s.strm with tblCode := 9, tblIdx := 0 } ∧
    t.on .STRM_EVENT_CHANGE_REFUSED = true ∧ s.SameFlds t (tblCmdFlds ++ [(.STRM_EVENT_CHANGE_REFUSED, 0)]) ∧ s.SameMem t := by
  have hw := State.iglWrite_frozen (s := s.tblStart 4 1 l) (l := l) (v := setBit s.tblData 63) (by rwa [bits_setBit _ (by decide)]) (IglSt.frozen_of_commit ht (testBit_setBit_same ..))
  refine ⟨_, (ingressGateCommit_of hg hb).trans (by rw [hw]), ?_, ?_, State.SameFlds.settle_of (u := (s.tblStart 4 1 l).iglRefused) ?_ o (State.event_dev ..) (by decide),
    State.SameMem.settle (State.sameMem_of (State.event_localMem ..) (State.event_dram ..) (congrArg (·.nvm) (State.event_boot ..)))⟩
  · rw [State.settle_strm]
    unfold State.iglRefused State.tblEnd
    rw [State.event_strm]
    rfl
  · rw [State.on, State.fld_settle_of _ (by decide)]
    exact congrArg (· != 0) (State.fld_event_same (s.tblStart 4 1 l) _ _ (by decide) (by decide))
  · exact State.SameFlds.regs (((s.sameFlds_tblStart 4 1 l).mono fun _ => List.mem_append_left _).event (.inl (List.mem_append_right _ (by simp)))) rfl

theorem ingressGateStop_spec {c : Cyc} (ht : (s.igl l).tsw = none) (hst : (s.igl l).stopAt = none) (hr : (s.igl l).running = true) (hc : bit s.tblData 63 = false)
    (hd : bits s.tblData 61 59 = (s.igl l).dom) (hcyc : (iglOf (s.igl l) s.tblData).sched.cycleAt (s.voted (s.igl l).dom) = some c) :
    ∃ t, exec (.ingressGateStop r l) s = .next t ∧ (t.igl l).running = true ∧ (t.igl l).stopAt = some c.stop ∧ t.strm.tblCode = 0 ∧ s.SameFlds t tblCmdFlds ∧ s.SameMem t := by
  have hc' : bit (setBit s.tblData 47) 63 = false := by rwa [bit_setBit_ne _ (by decide)]
  have hw := State.iglWrite_taken (s := s.tblStart 4 1 l) (l := l) (v := setBit s.tblData 47) (by rwa [bits_setBit _ (by decide)]) (IglSt.frozen_idle ht _)
    (IglSt.moved_of ht (.inr (by rwa [bits_setBit _ (by decide)]))) (by rw [hc', Bool.false_and])
  rw [State.tblStart_igl, IglSt.written_stop _ hc, bits_setBit _ (by decide), State.tblStart_voted, hd] at hw
  obtain ⟨hrun, hstop⟩ := IglSt.stop_iglOf hr hst hcyc
  obtain ⟨higl, hcode, -, hflds, hmem⟩ := State.settle_iglSet o (l := l) ((iglOf (s.igl l) s.tblData).stop (s.voted (s.igl l).dom))
  exact ⟨_, (ingressGateStop_of hg hb).trans (by rw [hw]), by rw [higl, hrun], by rw [higl, hstop], hcode, hflds, hmem⟩

end

/-! ### The switch and the interval start -/

section
variable {s : State} (o : s.Overlock) {l : Fin 4096} (hdev : s.dev ≠ .off) (hst : (s.igl l).stopAt = none)
include o hdev hst

theorem ingressGateSwitch_spec {n : Nat} (ht : (s.igl l).tsw = some n) (hn : n ≤ s.voted (s.igl l).dom) : ∃ t, exec (.ingressGateSwitch l) s = .next t ∧
    t.igl l = (s.igl l).exchange n ∧ s.SameFlds t [] ∧ s.SameMem t := by
  have hsettle : (s.igl l).settle (s.voted (s.igl l).dom) = (s.igl l).exchange n := by
    unfold IglSt.settle
    simp only [ht, hst, Option.all_none, Nat.cast_le, hn, and_self, if_true]
    have hst' : ((s.igl l).exchange n).stopAt = none := hst
    rw [hst']
  have hx : exec (.ingressGateSwitch l) s = .next (s.iglSwitch l).settle := by rw [← State.powered_of hdev fun s => s.iglSwitch l]; rfl
  rw [State.iglSwitch, hsettle] at hx
  exact ⟨_, hx, (State.igl_settle ..).trans (State.igl_setIgl ..), State.sameFlds_withStrm o _, State.sameMem_withStrm s _⟩

/-- The octet counts of a gate that no waiting frame can meet are dropped from its entry. -/
def State.octKept (s : State) (l : Nat) (x : Span) (e : Nat × List (Int × Nat)) : Nat × List (Int × Nat) :=
  if bits (s.strm.gate.get 0 e.1) 63 52 = l then (e.1, e.2.filter fun c => decide (x.start ≤ c.1 + (1000000 * nsT : Nat))) else e

omit o hdev in
theorem State.iglInterval_of {c : Cyc} {x : Span} (ht : (s.igl l).tsw = none) (hspan : (s.igl l).spanAt (s.voted (s.igl l).dom) = some (c, x)) : ∃ w : StrmSt,
    s.iglInterval l = { s with strm := w } ∧ w.oct = (s.strm.oct.map (s.octKept l x)).filter fun e => !e.2.isEmpty := by
  have hsettle : (s.igl l).settle (s.voted (s.igl l).dom) = s.igl l := by unfold IglSt.settle; simp only [ht, hst]
  have higl : (s.iglSwitch l).igl l = s.igl l := by rw [State.iglSwitch, hsettle, State.igl_setIgl]
  have hvoted : (s.iglSwitch l).voted (s.igl l).dom = s.voted (s.igl l).dom := rfl
  unfold State.iglInterval
  simp only [higl, hvoted, hspan]
  exact ⟨_, rfl, rfl⟩

theorem ingressGateInterval_spec {c : Cyc} {x : Span} (ht : (s.igl l).tsw = none) (hspan : (s.igl l).spanAt (s.voted (s.igl l).dom) = some (c, x)) :
    ∃ t, exec (.ingressGateInterval l) s = .next t ∧ (∀ e ∈ t.strm.oct, bits (s.strm.gate.get 0 e.1) 63 52 = l.val → ∀ n ∈ e.2, x.start ≤ n.1 + (1000000 * nsT : Nat)) ∧
    (∀ e ∈ s.strm.oct, e.2 ≠ [] → bits (s.strm.gate.get 0 e.1) 63 52 ≠ l.val → e ∈ t.strm.oct) ∧ s.SameFlds t [] ∧ s.SameMem t := by
  have hx : exec (.ingressGateInterval l) s = .next (s.iglInterval l).settle := by rw [← State.powered_of hdev fun s => s.iglInterval l]; rfl
  obtain ⟨w, hw, hoct⟩ := State.iglInterval_of hst ht hspan
  rw [hw] at hx
  refine ⟨_, hx, ?_, ?_, State.sameFlds_withStrm o _, State.sameMem_withStrm s _⟩ <;> rw [State.settle_strm, hoct]
  · intro e he hl n hn
    obtain ⟨e, -, rfl⟩ := List.mem_map.mp (List.mem_filter.mp he).1
    unfold State.octKept at hl hn
    split at hn
    · exact of_decide_eq_true (List.mem_filter.mp hn).2
    next h => rw [if_neg h] at hl; exact absurd hl h
  · intro e he hne hl
    exact List.mem_filter.mpr ⟨List.mem_map.mpr ⟨e, he, if_neg hl⟩, by simpa [List.isEmpty_iff] using hne⟩

end

/-- Settles O29: the upkeep command by command, and the gate lists by what a WRITE leaves in one list. -/
theorem cacheGatesAndMeters : Obligations.CacheGatesAndMeters := by
  refine ⟨fun s o => ⟨fun r v hg hrun he => hashSeedWrite_taken o v hg hrun he, fun r v hg h => hashSeedWrite_refused o v hg h, fun hdev => negEntryExpiry_spec o hdev,
    fun b k hdev hd => cacheEntryReload_spec o hdev b k hd, fun hdev => ctrlLimitWindowEnd_spec o hdev⟩, fun s l o => ⟨?_, ?_, ?_, ?_, ?_, fun hdev => meterSweep_spec o hdev, ?_⟩⟩
  · intro r hg hb ht hst hns hs hd hbad
    obtain ⟨t, hx, higl, hcode, hrest, hflds, hmem⟩ := ingressGateCommit_taken o hg hb hns ht hs hd hbad
    exact ⟨t, hx, higl.trans (IglSt.restop_committed_idle hst), hcode, hrest, hflds, hmem⟩
  · exact fun r hg hb ht hns => ingressGateCommit_refused o hg hb hns ht
  · exact fun r c hg hb ht hst hr hns hc hd hcyc => ingressGateStop_spec o hg hb hns ht hst hr hc hd hcyc
  · intro n hdev ht hn hst
    obtain ⟨t, hx, higl, hflds, hmem⟩ := ingressGateSwitch_spec o hdev hst ht hn
    exact ⟨t, hx, by rw [higl]; exact ⟨rfl, rfl, rfl, rfl, rfl, rfl, hflds, hmem⟩⟩
  · exact fun c x hdev ht hst hspan => ingressGateInterval_spec o hdev hst ht hspan
  · intro r u y hg hb ht hst hu hns hs hd hbad hy
    obtain ⟨t, hx, higl, hcode, -, hflds, hmem⟩ := ingressGateCommit_taken o hg hb hns ht hs hd hbad
    exact ⟨t, hx, higl.trans (IglSt.restop_committed_pending hst (by exact_mod_cast hu) hy), hcode, hflds, hmem⟩

end Sys2Proof.Machine
end

section
/-!
PROOFS. What the ingress sequence counts and leaves alone up to the destinations of a frame (R101, R280).
-/
namespace Sys2Proof.Machine

/-! ## Steps that count -/

/-- A state without the parts that counting, drawing, a look into a slice and a lane of the partner link write. -/
def State.uncounted (s : State) : State :=
  { s with regs := [], tape := {}, free := 0, strm := { s.strm with slice := [] }, pair := { s.pair with laneQ0 := [], laneQ1 := [] } }

/-- From a state to one in which at most the counter words `ws` have advanced: no register field moves, and nothing beside counts, draws, slices and lanes. -/
structure State.Counts (ws : List Nat) (s t : State) : Prop where
  flds : s.SameFlds t []
  uncounted : t.uncounted = s.uncounted
  ctr : ∀ a, a ∉ ws → t.ctr a = s.ctr a

theorem State.Counts.refl (s : State) : State.Counts [] s s := ⟨.refl s _, rfl, fun _ _ => rfl⟩
theorem State.Counts.trans {v w : List Nat} {s t u : State} (h : State.Counts v s t) (h' : State.Counts w t u) : State.Counts (v ++ w) s u :=
  ⟨fun f i j a b => (h'.flds f i j a b).trans (h.flds f i j a b), h'.uncounted.trans h.uncounted, fun a ha =>
    (h'.ctr a fun m => ha (List.mem_append_right _ m)).trans (h.ctr a fun m => ha (List.mem_append_left _ m))⟩
theorem State.Counts.mono {v w : List Nat} {s t : State} (h : State.Counts v s t) (m : v ⊆ w) : State.Counts w s t := ⟨h.flds, h.uncounted, fun a ha => h.ctr a fun hv => ha (m hv)⟩

/-- A step that counts nothing. -/
theorem State.Counts.of_ctr {s t : State} (hr : t.regs = s.regs) (hu : t.uncounted = s.uncounted) (hc : t.tape.ctr = s.tape.ctr) : State.Counts [] s t :=
  ⟨State.SameFlds.regs (.refl s _) hr, hu, fun a _ => by unfold State.ctr; rw [hc]⟩

section
variable {ws : List Nat} {s t : State} (h : State.Counts ws s t)
include h

theorem State.Counts.keeps {β : Type} (g : State → β) (hg : ∀ a, g (State.uncounted a) = g a) : g t = g s := by rw [← hg t, h.uncounted, hg]
theorem State.Counts.dev : t.dev = s.dev := h.keeps State.dev fun _ => rfl
theorem State.Counts.queue : t.queue = s.queue := h.keeps State.queue fun _ => rfl
theorem State.Counts.port : t.port = s.port := h.keeps State.port fun _ => rfl
theorem State.Counts.bolt : t.bolt = s.bolt := h.keeps State.bolt fun _ => rfl
theorem State.Counts.hif : t.hif = s.hif := h.keeps State.hif fun _ => rfl
theorem State.Counts.mend : t.mend = s.mend := h.keeps State.mend fun _ => rfl
theorem State.Counts.time : t.time = s.time := h.keeps State.time fun _ => rfl
theorem State.Counts.mem : s.SameMem t :=
  State.sameMem_of (h.keeps State.localMem fun _ => rfl) (h.keeps State.dram fun _ => rfl) (h.keeps (fun a => a.boot.nvm) fun _ => rfl)
theorem State.Counts.fld (f : Fl) (hf : ¬f.shared) (i j : Nat) : t.fld f i j = s.fld f i j := h.flds f i j (by simp) hf
theorem State.Counts.reads {f : Fl} (hf : f ∉ [.INTC_PENDING_PEND, .INTC_PEND_CNT_COUNT, .TAPE_EVENT_OVF]) (i j : Nat) : t.fld f i j = s.fld f i j := h.fld f (Fl.not_shared hf) i j
theorem State.Counts.on (f : Fl) (hf : ¬f.shared) (i j : Nat) : t.on f i j = s.on f i j := congrArg (· != 0) (h.fld f hf i j)

end

section
variable (s : State)

theorem State.uncounted_pendSet (n : Nat) : (s.pendSet n).uncounted = s.uncounted := by
  unfold State.pendSet
  dsimp only
  split <;> rfl
theorem State.uncounted_event (f : Fl) (i : Nat) : (s.event f i).uncounted = s.uncounted := by
  have hset : (s.setFld f i 0 1).uncounted = s.uncounted := rfl
  unfold State.event State.assertSrc
  dsimp only
  repeat' split
  · rw [State.uncounted_pendSet, hset]
  · exact hset
  · exact hset
theorem State.Counts.bump (a n : Nat) : State.Counts [a] s (s.bump a n) := by
  refine ⟨(State.SameFlds.refl s _).bump a n, ?_, fun b hb => s.ctr_bump_ne (by simpa using hb) n⟩
  unfold State.bump
  dsimp only
  split
  · exact State.uncounted_event ..
  · rfl
theorem State.Counts.portCount (p w n : Nat) : State.Counts [portWord p w] s (s.portCount p w n) := .bump s _ n
theorem State.Counts.draw : State.Counts [] s s.draw.2 := .of_ctr rfl rfl rfl
theorem State.Counts.countNoWord (k : Nat) (src : FrameSrc) : State.Counts [] s (s.countNoWord k src) := .of_ctr rfl rfl rfl
theorem State.Counts.fate (fr : FrameRec) (k step reason scope dest queue flags : Nat) (t : Option Nat) : State.Counts [] s (s.fate fr k step reason scope dest queue flags t) := by
  unfold State.fate
  split
  · exact .of_ctr rfl rfl rfl
  · exact .refl s
theorem State.Counts.dropIn (fr : FrameRec) (step reason scope : Nat) : State.Counts [] s (s.dropIn fr step reason scope) := .fate ..
theorem State.Counts.dropPort (p : Nat) (fr : FrameRec) (step word : Nat) : State.Counts [portWord p word] s (s.dropPort p fr step word) := (State.Counts.portCount s p word 1).trans (.dropIn ..)
theorem State.Counts.dropFree (fr : FrameRec) (step : Nat) : State.Counts [] s (s.dropFree fr step) := (State.Counts.draw s).trans ((State.Counts.countNoWord ..).trans (.dropIn ..))
theorem State.Counts.laneSent (n : LaneSent) : State.Counts [] s (s.laneSent n) := .of_ctr rfl rfl rfl
theorem State.SliceOnly.counts {s t : State} (h : s.SliceOnly t) : State.Counts [] s t := by obtain ⟨l, rfl⟩ := h; exact .of_ctr rfl rfl rfl

@[simp] theorem State.fate_strm (fr : FrameRec) (k step reason scope dest queue flags : Nat) (t : Option Nat) : (s.fate fr k step reason scope dest queue flags t).strm = s.strm := by
  unfold State.fate; split <;> rfl
@[simp] theorem State.dropIn_strm (fr : FrameRec) (step reason scope : Nat) : (s.dropIn fr step reason scope).strm = s.strm := s.fate_strm ..
@[simp] theorem State.dropPort_strm (p : Nat) (fr : FrameRec) (step word : Nat) : (s.dropPort p fr step word).strm = s.strm := (State.dropIn_strm ..).trans (s.portCount_strm ..)
@[simp] theorem State.dropFree_strm (fr : FrameRec) (step : Nat) : (s.dropFree fr step).strm = s.strm := State.dropIn_strm ..

/-- A frame discarded at its port under a word of Table 16-2 is counted there. -/
theorem State.ctr_dropPort (p : Nat) (fr : FrameRec) (step word : Nat) : (s.dropPort p fr step word).ctr (portWord p word) = ctrAdd (s.ctr (portWord p word)) 1 :=
  ((State.Counts.dropIn (s.portCount p word) fr step word 0).ctr _ List.not_mem_nil).trans (s.ctr_bump_same _ 1)

end

/-! ## A frame taken from the wire -/

/-- The receive side before the receive checks: what the partner's lanes sent meanwhile, and the codewords of the port's FEC. -/
def State.met (s : State) (p : Nat) (rx : RxMeet) : State := (s.laneSent rx.lanes).fecCount p rx

/-- A valid frame, counted, as it arrives. -/
def State.frameIn (s : State) (p : Nat) (d : List Byte) (rx : RxMeet) : Arrival × State :=
  (((s.met p rx).portCount p 0).portCount p 1 (d.length + 4)).arrive p d fun x => s.rxTime p x d.length

/-- The arrival of a valid frame. -/
def State.arrival (s : State) (p : Nat) (d : List Byte) (rx : RxMeet) : Arrival := (s.frameIn p d rx).1

/-- The state in which a valid frame is classified: a parse-limited one is counted (R103). -/
def State.taken (s : State) (p : Nat) (d : List Byte) (rx : RxMeet) : State :=
  if ((s.frameIn p d rx).2.keysOf p d).2 then (s.frameIn p d rx).2.portCount p 11 else (s.frameIn p d rx).2

/-- The port's words that the receive side counts for every valid frame. -/
abbrev takenWords (p : Nat) : List Nat := [portWord p 52, portWord p 53, portWord p 0, portWord p 1, portWord p 63, portWord p 11]

section
variable (s : State) (p : Nat) (d : List Byte) (rx : RxMeet)

theorem State.Counts.met : State.Counts [portWord p 52, portWord p 53] s (s.met p rx) := by
  unfold State.met State.fecCount
  split
  · exact (State.Counts.laneSent s rx.lanes).trans ((State.Counts.portCount _ p 52 _).trans (.portCount _ p 53 _))
  · exact (State.Counts.laneSent s rx.lanes).mono (List.nil_subset _)
theorem State.met_strm : (s.met p rx).strm = s.strm := by
  unfold State.met State.fecCount
  split
  · exact (State.portCount_strm ..).trans (State.portCount_strm ..)
  · rfl

theorem State.Counts.chalkPort : State.Counts [] s (s.chalkPort p).2 := by
  unfold State.chalkPort
  split
  · exact .refl s
  · exact .of_ctr rfl rfl rfl
theorem State.chalkPort_strm : (s.chalkPort p).2.strm = s.strm := by unfold State.chalkPort; split <;> rfl

theorem State.Counts.arrive (at' : Nat → Nat) : State.Counts [portWord p 63] s (s.arrive p d at').2 := by
  unfold State.arrive
  dsimp only
  split
  · exact (State.Counts.chalkPort s p).trans (.portCount _ p 63 1)
  · exact (State.Counts.chalkPort s p).mono (List.nil_subset _)
theorem State.arrive_strm (at' : Nat → Nat) : (s.arrive p d at').2.strm = s.strm := by
  unfold State.arrive
  dsimp only
  split
  · exact (State.portCount_strm ..).trans (s.chalkPort_strm p)
  · exact s.chalkPort_strm p

theorem State.arrival_p : (s.arrival p d rx).p = p := rfl
theorem State.arrival_data : (s.arrival p d rx).data = d := rfl
theorem State.arrival_src : (s.arrival p d rx).base.src = .port p := rfl

/-- After the two counts of a valid frame at most four more words may count. -/
theorem State.Counts.taken_of_counted : State.Counts [portWord p 1, portWord p 63, portWord p 11] ((s.met p rx).portCount p 0) (s.taken p d rx) := by
  have hin : State.Counts [portWord p 1, portWord p 63] ((s.met p rx).portCount p 0) (s.frameIn p d rx).2 := (State.Counts.portCount _ p 1 (d.length + 4)).trans (.arrive _ p d _)
  unfold State.taken
  split
  · exact hin.trans (.portCount _ p 11 1)
  · exact hin.mono (List.subset_append_left _ [portWord p 11])
theorem State.Counts.taken : State.Counts (takenWords p) s (s.taken p d rx) := ((State.Counts.met s p rx).trans (.portCount _ p 0 1)).trans (.taken_of_counted s p d rx)
theorem State.taken_strm : (s.taken p d rx).strm = s.strm := by
  have hin : (s.frameIn p d rx).2.strm = s.strm := (State.arrive_strm ..).trans ((State.portCount_strm ..).trans ((State.portCount_strm ..).trans (s.met_strm p rx)))
  unfold State.taken
  split
  · exact (State.portCount_strm ..).trans hin
  · exact hin

theorem portWord_inj (p : Nat) {v w : Nat} : portWord p v = portWord p w ↔ v = w := by unfold portWord; omega

/-- A valid frame is counted once. -/
theorem State.ctr_taken : (s.taken p d rx).ctr (portWord p 0) = ctrAdd (s.ctr (portWord p 0)) 1 := by
  rw [(State.Counts.taken_of_counted s p d rx).ctr _ (by simp [portWord_inj]), State.portCount, State.ctr_bump_same, (State.Counts.met s p rx).ctr _ (by simp [portWord_inj])]

end

/-! ## What a count leaves readable -/

section
variable {ws : List Nat} {s t : State} (h : State.Counts ws s t)
include h

theorem State.Counts.linkState (p : Nat) : t.linkState p = s.linkState p := h.fld .MAC_LINK_STATUS_STATE (Fl.not_shared (by decide)) p 0
theorem State.Counts.rxReason (p n : Nat) (fcs code : Bool) : t.rxReason p n fcs code = s.rxReason p n fcs code := by
  unfold State.rxReason
  rw [h.linkState, h.reads (by decide)]
theorem State.Counts.polled (p : Nat) : t.polled p = s.polled p := by unfold State.polled; rw [h.reads (by decide)]
theorem State.Counts.trOk (d tr : Nat) : t.trOk d tr = s.trOk d tr := by
  unfold State.trOk State.on
  simp (disch := decide) only [h.reads]
theorem State.Counts.instPorts (d : Nat) : t.instPorts d = s.instPorts d := by
  unfold State.instPorts State.on
  simp (disch := decide) only [h.reads, h.polled, h.keeps State.ptp fun _ => rfl]
theorem State.Counts.ptpMap (p : Nat) (f : List Byte) : t.ptpMap p f = s.ptpMap p f := by
  unfold State.ptpMap State.on
  simp (disch := decide) only [h.reads, h.trOk, h.instPorts]
theorem State.Counts.toService (p : Nat) (d : List Byte) (ttdp : Bool) : t.toService p d ttdp = s.toService p d ttdp := by
  unfold State.toService
  simp (disch := decide) only [h.reads, h.ptpMap, h.keeps (fun a => a.strm.svcAddr) fun _ => rfl]
theorem State.Counts.keysOf (p : Nat) (d : List Byte) : t.keysOf p d = s.keysOf p d := by
  have hbeyond : ∀ x, t.ipBeyond p x = s.ipBeyond p x := fun x => by
    unfold State.ipBeyond
    simp (disch := decide) only [h.reads]
  have hkey : ∀ x m, t.keyOf p d x m = s.keyOf p d x m := fun x m => by
    unfold State.keyOf
    simp (disch := decide) only [h.reads, hbeyond]
  unfold State.keysOf State.on
  simp (disch := decide) only [h.reads, hkey]
theorem State.Counts.hsrOwn (p : Nat) (d : List Byte) : t.hsrOwn p d = s.hsrOwn p d := by
  unfold State.hsrOwn State.ownAddr State.on
  simp (disch := decide) only [h.reads]
theorem State.Counts.defaultTc (p : Nat) (d : List Byte) : t.defaultTc p d = s.defaultTc p d := by
  unfold State.defaultTc
  simp (disch := decide) only [h.reads]
theorem State.Counts.lNow : t.lNow = s.lNow := State.voted_congr (fun c _ => State.cnt_of_time h.time 8 c) (h.reads (by decide) 0 0)
theorem State.Counts.ctrlWindow : t.ctrlWindow = s.ctrlWindow := by unfold State.ctrlWindow; rw [h.lNow]
theorem State.Counts.qu (q : Nat) : t.qu q = s.qu q := by unfold State.qu; rw [h.queue]
theorem State.Counts.pt (p : Nat) : t.pt p = s.pt p := by unfold State.pt; rw [h.port]
theorem State.Counts.bo (b : Nat) : t.bo b = s.bo b := by unfold State.bo; rw [h.bolt]
theorem State.Counts.isSched (p c : Nat) : t.isSched p c = s.isSched p c := by unfold State.isSched; rw [h.reads (by decide)]
theorem State.Counts.wireT (p n : Nat) : t.wireT p n = s.wireT p n := by unfold State.wireT State.portBytePs; rw [h.reads (by decide)]
theorem State.Counts.pauseRxOk (p : Nat) : t.pauseRxOk p = s.pauseRxOk p := by
  unfold State.pauseRxOk State.on
  simp (disch := decide) only [h.reads, h.pt]

/-- The decision of R186 reads nothing that a count writes. -/
theorem State.Counts.admitTest (q c d : Nat) (service : Bool) : t.admitTest q c d service = s.admitTest q c d service := by
  have hsize : ∀ b, t.sharedSize b = s.sharedSize b := fun b => by
    unfold State.sharedSize
    simp (disch := decide) only [h.reads]
  have hlimit : ∀ b, t.dpLimit b d = s.dpLimit b d := fun b => by
    unfold State.dpLimit
    simp (disch := decide) only [h.reads, hsize]
  have hup : ∀ p, t.schedUp p = s.schedUp p := fun p => by
    unfold State.schedUp State.on
    simp (disch := decide) only [h.reads, h.pt]
  unfold State.admitTest State.on
  simp (disch := decide) only [h.reads, h.isSched, h.qu, h.pt, h.bo, hsize, hlimit, hup]

end

end Sys2Proof.Machine
end

section
/-!
PROOFS. Reception (R101, R111, R114, R117, R182, R186, R280, R282).
-/
namespace Sys2Proof.Machine

/-! ## The queue that a frame joins -/

section
variable (s : State) (q : Nat) (fr : FrameRec) (a : Acct)

theorem State.fcPort_tape (p : Nat) : (s.fcPort p).tape = s.tape := by
  unfold State.fcPort State.sendXoff State.sendXon State.queueCtrl
  dsimp only
  repeat' split
  all_goals rfl
theorem State.fcUpdate_tape : s.fcUpdate.tape = s.tape := foldl_keeps State.tape _ State.fcPort_tape _ s
theorem State.acctAdd_tape (c : Int) : (s.acctAdd q a c).tape = s.tape := by cases a <;> rfl
theorem State.pickCells_tape (b k : Nat) : (s.pickCells b k).2.tape = s.tape := by
  induction k generalizing s with
  | zero => rfl
  | succ k ih => exact ih _
theorem State.fillCells_tape (b : Nat) (l : List Nat) (bs : List Byte) : (s.fillCells b l bs).tape = s.tape := by
  induction l generalizing s bs with
  | nil => rfl
  | cons n l ih => exact ih _ _
theorem State.pickCells_queue (b k : Nat) : (s.pickCells b k).2.queue = s.queue := by
  induction k generalizing s with
  | zero => rfl
  | succ k ih => exact ih _
theorem State.fillCells_queue (b : Nat) (l : List Nat) (bs : List Byte) : (s.fillCells b l bs).queue = s.queue := by
  induction l generalizing s bs with
  | nil => rfl
  | cons n l ih => exact ih _ _
theorem State.celled_tape : (s.celled q fr).tape = s.tape := (State.fillCells_tape ..).trans (s.pickCells_tape ..)
theorem State.celled_queue : (s.celled q fr).queue = s.queue := (State.fillCells_queue ..).trans (s.pickCells_queue ..)

theorem State.ctr_pecEvent (p c : Nat) (t : Option Nat) (n : Nat) {w : Nat} (h : ∀ i < 8, w ≠ portWord p (64 + i)) : (s.pecEvent p c t n).ctr w = s.ctr w := by
  have hstep : ∀ (l : List Nat), (∀ i ∈ l, i < 8) → ∀ (u : State) (f : State → Nat → Bool),
      (l.foldl (fun a i => if f a i then a.bump (portWord p (64 + i)) else a) u).ctr w = u.ctr w := by
    intro l
    induction l with
    | nil => intros; rfl
    | cons i l ih =>
      intro hl u f
      rw [List.foldl_cons, ih (fun k hk => hl k (List.mem_cons_of_mem _ hk))]
      split
      · exact u.ctr_bump_ne (h i (hl i List.mem_cons_self)) 1
      · rfl
  exact hstep _ (fun i => List.mem_range.mp) s _

/-- The admission of a frame counts its queue's word 0 and what programmable events of its port count. -/
theorem State.ctr_enqueue {w : Nat} (hq : w ≠ queueWord q 0) (hp : ∀ i < 8, w ≠ portWord (qPort q) (64 + i)) : (s.enqueue q fr a).ctr w = s.ctr w := by
  have hfc : ∀ u : State, u.fcUpdate.ctr w = u.ctr w := fun u => by unfold State.ctr; rw [State.fcUpdate_tape]
  have hacct : ∀ (u : State) (c : Int), (u.acctAdd q a c).ctr w = u.ctr w := fun u c => by unfold State.ctr; rw [State.acctAdd_tape]
  have hupd : ∀ (u : State) (f : QSt → QSt), (u.updQu q f).ctr w = u.ctr w := fun _ _ => rfl
  rw [State.enqueue_eq, hfc, State.ctr_pecEvent _ _ _ _ _ hp, State.ctr_bump_ne _ hq, hacct, hupd, State.ctr, State.celled_tape]
  rfl

theorem State.qu_updQu (f : QSt → QSt) : (s.updQu q f).qu q = f (s.qu q) := Tbl.get_set_same ({} : QSt) s.queue q _
theorem State.qu_acctAdd_ne (c : Int) {k : Nat} (h : k ≠ q) : (s.acctAdd q a c).qu k = s.qu k := by
  cases a with
  | ctrl => rfl
  | reserve => rfl
  | shared => exact Tbl.get_set_ne ({} : QSt) (s.updBo _ _).queue h _
theorem State.cells_acctAdd (c : Int) : ((s.acctAdd q a c).qu q).cells = (s.qu q).cells := by
  cases a with
  | ctrl => rfl
  | reserve => rfl
  | shared =>
    unfold State.acctAdd
    dsimp only
    rw [State.qu_updQu]
    rfl

/-- The queues at the end of an admission. -/
theorem State.qu_enqueue_eq (k : Nat) : (s.enqueue q fr a).qu k =
    (((s.celled q fr).updQu q fun x => x.joined (s.placed q fr a) (((s.celled q fr).pt (qPort q)).vt.get 0 (qTc q))).acctAdd q a (s.placed q fr a).cells).qu k := by
  rw [State.enqueue_eq, State.qu, State.fcUpdate_queue, State.pecEvent_queue, State.bump_queue]; rfl
theorem State.qu_enqueue_ne {k : Nat} (h : k ≠ q) : (s.enqueue q fr a).qu k = s.qu k := by
  rw [State.qu_enqueue_eq, State.qu_acctAdd_ne _ _ _ _ h]
  exact (Tbl.get_set_ne ({} : QSt) (s.celled q fr).queue h _).trans (by rw [State.celled_queue]; rfl)
theorem State.cells_enqueue : ((s.enqueue q fr a).qu q).cells = (s.qu q).cells + fr.cells := by
  rw [State.qu_enqueue_eq, State.cells_acctAdd]
  rw [State.qu_updQu, State.qu, State.celled_queue]
  rfl

end

/-- A frame whose destination is one queue goes there. -/
theorem State.deliverTo_queue (s : State) (fr : FrameRec) {code : Nat} (tc tD : Nat) (h : bits code 15 14 = 0) :
    s.deliverTo fr code tc tD = (s.admitCopy (bits code 10 4 * 128 + tc * 16 + bits code 3 0) { fr with copy := 0 }).2 := by
  unfold State.deliverTo State.destsOf
  rw [h]
  rfl

/-! ## The receive checks -/

section
variable {s : State} {p : Port} {d : List Byte} {rx : RxMeet} (halive : s.alive = true) (hmd : multidrop p = false)
include halive hmd

theorem exec_frameReceived_alive (fcs code ttdp : Bool) (cache : CacheErr) (mend : MendErr) :
    exec (.frameReceived p d fcs code ttdp cache mend rx) s = .next ((s.met p rx).receive p d (fun x => s.rxTime p x d.length) fcs code ttdp cache mend).settle := by
  have hx : exec (.frameReceived p d fcs code ttdp cache mend rx) s =
      .next (if s.alive then ((s.met p rx).receive p d (fun x => s.rxTime p x d.length) fcs code ttdp cache mend).mediumIdle p else s).settle := rfl
  rw [hx, halive, if_pos rfl, State.mediumIdle, hmd]
  rfl

/-- A frame that fails a receive check is counted under its word and goes no further. -/
theorem exec_frameReceived_bad {fcs code : Bool} {w : Nat} (h : s.rxReason p (d.length + 4) fcs code = some w) (ttdp : Bool) (cache : CacheErr) (mend : MendErr) :
    exec (.frameReceived p d fcs code ttdp cache mend rx) s = .next ((s.met p rx).portCount p w).settle := by
  rw [exec_frameReceived_alive halive hmd, State.receive, (State.Counts.met s p rx).rxReason, h]

variable (hlink : s.linkState p = 6) (hmin : 60 ≤ d.length) (hmax : d.length + 4 ≤ max 64 (min 9216 (s.fld .MAC_CFG_MAX_LEN p)))
include hlink hmin hmax

omit halive hmd in
theorem State.rxReason_of_size (fcs : Bool) : s.rxReason p (d.length + 4) fcs true = if fcs then none else some 2 := by
  have hlen : ¬d.length + 4 < 64 := by omega
  unfold State.rxReason
  rw [if_neg (not_not.mpr hlink), if_neg (Nat.not_lt.mpr hmax), if_neg (by decide), if_neg hlen]
  cases fcs <;> rfl

/-- A valid frame is classified (R101). -/
theorem exec_frameReceived_valid (ttdp : Bool) (cache : CacheErr) (mend : MendErr) : exec (.frameReceived p d true true ttdp cache mend rx) s =
    .next (if (parse d).etype = 0x8808 then ((s.taken p d rx).macControl p d).fate (s.arrival p d rx).base 2 0 0 0 0xFFFF 0xFFFF
      else if (s.taken p d rx).toService p d ttdp then (s.taken p d rx).consume p (s.arrival p d rx).base ttdp
      else (s.taken p d rx).identify (s.arrival p d rx) cache mend).settle := by
  have hpolled : ∀ u : State, u.polled p = false := fun u => by rw [State.polled, hmd, Bool.false_and]
  rw [exec_frameReceived_alive halive hmd, State.receive, (State.Counts.met s p rx).rxReason, State.rxReason_of_size hlink hmin hmax]
  simp only [State.isPc, State.pcMode, hpolled, Bool.false_and, Bool.false_eq_true, if_false, if_true]
  rfl

end

/-- What the end of a command that leaves every field alone keeps. -/
theorem State.sameFlds_settled {s u : State} (o : s.Overlock) (h : s.SameFlds u []) (hd : u.dev = s.dev) : s.SameFlds u.settle [] := h.settle_of o hd (by simp)
@[simp] theorem State.ctr_settle (s : State) (a : Nat) : s.settle.ctr a = s.ctr a := by unfold State.ctr; rw [State.settle_tape]

theorem State.Counts.settled {ws : List Nat} {s u : State} (h : State.Counts ws s u) (o : s.Overlock) : u.settle.queue = s.queue ∧ s.SameFlds u.settle [] ∧ s.SameMem u.settle :=
  ⟨(State.settle_queue u).trans h.queue, State.sameFlds_settled o h.flds h.dev, State.SameMem.settle h.mem⟩

/-! ### Discards that no word of the tables counts -/

section
variable (s : State)

theorem State.noWord_bump (a n : Nat) : (s.bump a n).tape.noWord = s.tape.noWord := by
  unfold State.bump
  dsimp only
  split
  · rw [State.event_tape]
  · rfl
theorem State.noWord_portCount (p w n : Nat) : (s.portCount p w n).tape.noWord = s.tape.noWord := s.noWord_bump ..
theorem State.noWord_fate (fr : FrameRec) (k step reason scope dest queue flags : Nat) (t : Option Nat) : (s.fate fr k step reason scope dest queue flags t).tape.noWord = s.tape.noWord := by
  unfold State.fate; split <;> rfl
theorem State.noWord_dropFree (fr : FrameRec) (step : Nat) : (s.dropFree fr step).tape.noWord =
    s.tape.noWord.set 0 (256 * step + fr.src.code) (s.tape.noWord.get 0 (256 * step + fr.src.code) + 1) := State.noWord_fate ..
theorem State.noWord_met (p : Nat) (rx : RxMeet) : (s.met p rx).tape.noWord = s.tape.noWord := by
  unfold State.met State.fecCount
  split
  · exact (State.noWord_portCount ..).trans (State.noWord_portCount ..)
  · rfl
theorem State.noWord_chalkPort (p : Nat) : (s.chalkPort p).2.tape.noWord = s.tape.noWord := by unfold State.chalkPort; split <;> rfl
theorem State.noWord_arrive (p : Nat) (d : List Byte) (at' : Nat → Nat) : (s.arrive p d at').2.tape.noWord = s.tape.noWord := by
  unfold State.arrive
  dsimp only
  split
  · exact (State.noWord_portCount ..).trans (s.noWord_chalkPort p)
  · exact s.noWord_chalkPort p
theorem State.noWord_taken (p : Nat) (d : List Byte) (rx : RxMeet) : (s.taken p d rx).tape.noWord = s.tape.noWord := by
  have hin : (s.frameIn p d rx).2.tape.noWord = s.tape.noWord :=
    (State.noWord_arrive ..).trans ((State.noWord_portCount ..).trans ((State.noWord_portCount ..).trans (s.noWord_met p rx)))
  unfold State.taken
  split
  · exact (State.noWord_portCount ..).trans hin
  · exact hin

end

/-! ## Frames that go no further -/

section
variable {s : State} (o : s.Overlock) {p : Port} {d : List Byte} (rx : RxMeet) (halive : s.alive = true) (hmd : multidrop p = false)
include o halive hmd

/-- A frame that fails a receive check (R280). -/
theorem frameReceived_bad {fcs code : Bool} {w : Nat} (h : s.rxReason p (d.length + 4) fcs code = some w) (hw : portWord p w ∉ [portWord p 52, portWord p 53]) (ttdp : Bool)
    (cache : CacheErr) (mend : MendErr) : ∃ t, exec (.frameReceived p d fcs code ttdp cache mend rx) s = .next t ∧ t.ctr (portWord p w) = ctrAdd (s.ctr (portWord p w)) 1 ∧
    t.queue = s.queue ∧ t.strm = s.strm ∧ s.SameFlds t [] ∧ s.SameMem t := by
  have hmet := State.Counts.met s p rx
  obtain ⟨hqueue, hflds, hmem⟩ := (hmet.trans (.portCount _ p w 1)).settled o
  refine ⟨_, exec_frameReceived_bad halive hmd h ttdp cache mend, ?_, hqueue, ?_, hflds, hmem⟩
  · rw [State.ctr_settle, State.portCount, State.ctr_bump_same, hmet.ctr _ hw]
  · rw [State.settle_strm, State.portCount_strm, s.met_strm]

variable (hlink : s.linkState p = 6) (hmin : 60 ≤ d.length) (hmax : d.length + 4 ≤ max 64 (min 9216 (s.fld .MAC_CFG_MAX_LEN p)))
include hlink hmin hmax

/-- A frame without a good FCS is counted as such. -/
theorem frameReceived_badFcs (ttdp : Bool) (cache : CacheErr) (mend : MendErr) : ∃ t, exec (.frameReceived p d false true ttdp cache mend rx) s = .next t ∧
    t.ctr (portWord p 2) = ctrAdd (s.ctr (portWord p 2)) 1 ∧ t.queue = s.queue ∧ t.strm = s.strm ∧ s.SameFlds t [] ∧ s.SameMem t :=
  frameReceived_bad o rx halive hmd (State.rxReason_of_size hlink hmin hmax false) (by simp [portWord_inj]) ttdp cache mend

variable (htype : (parse d).etype ≠ 0x8808)
include htype

/-- A control frame beyond CTRL_LIMIT (R107). -/
theorem frameReceived_beyondLimit (hsvc : s.toService p d false = true)
    (hlim : s.fld .STRM_PORT_ID_CFG_CTRL_LIMIT p ≤ (if (s.pt p).ctrlWin = s.ctrlWindow then (s.pt p).ctrlCount else 0)) (cache : CacheErr) (mend : MendErr) : ∃ t,
    exec (.frameReceived p d true true false cache mend rx) s = .next t ∧ t.ctr (portWord p 10) = ctrAdd (s.ctr (portWord p 10)) 1 ∧ (t.pt p).ctrlCount = (s.pt p).ctrlCount ∧
      t.queue = s.queue ∧ t.strm = s.strm ∧ s.SameFlds t [] ∧ s.SameMem t := by
  have ht := State.Counts.taken s p d rx
  have hx := exec_frameReceived_valid (rx := rx) halive hmd hlink hmin hmax false cache mend
  have hdrop : (s.taken p d rx).consume p (s.arrival p d rx).base false = (s.taken p d rx).dropPort p (s.arrival p d rx).base 2 10 := by
    unfold State.consume
    rw [ht.pt, ht.ctrlWindow, ht.reads (by decide), if_pos hlim]
  rw [if_neg htype, ht.toService, hsvc, if_pos rfl, hdrop] at hx
  have hall := ht.trans (.dropPort _ p (s.arrival p d rx).base 2 10)
  obtain ⟨hqueue, hflds, hmem⟩ := hall.settled o
  refine ⟨_, hx, ?_, ?_, hqueue, ?_, hflds, hmem⟩
  · rw [State.ctr_settle, State.ctr_dropPort, ht.ctr _ (by simp [portWord_inj])]
  · rw [State.pt_settle, hall.pt]
  · rw [State.settle_strm, State.dropPort_strm, State.taken_strm]

variable (hsvc : s.toService p d false = false)
include hsvc

omit o in
theorem exec_frameReceived_identify (cache : CacheErr) (mend : MendErr) : exec (.frameReceived p d true true false cache mend rx) s =
    .next ((s.taken p d rx).identify (s.arrival p d rx) cache mend).settle := by
  have ht := State.Counts.taken s p d rx
  rw [exec_frameReceived_valid halive hmd hlink hmin hmax, if_neg htype, ht.toService, hsvc, if_neg Bool.false_ne_true]

/-- A frame while STRM is stopped is counted against step 3 (R101, R146). -/
theorem frameReceived_stopped (hrun : s.on .STRM_CTRL_RUN = false) (cache : CacheErr) (mend : MendErr) : ∃ t, exec (.frameReceived p d true true false cache mend rx) s = .next t ∧
    t.ctr (portWord p 0) = ctrAdd (s.ctr (portWord p 0)) 1 ∧
    t.tape.noWord.get 0 (256 * 3 + (FrameSrc.port p).code) = s.tape.noWord.get 0 (256 * 3 + (FrameSrc.port p).code) + 1 ∧ t.queue = s.queue ∧ t.strm = s.strm ∧
    s.SameFlds t [] ∧ s.SameMem t := by
  have ht := State.Counts.taken s p d rx
  have hx := exec_frameReceived_identify (rx := rx) halive hmd hlink hmin hmax htype hsvc cache mend
  have hdrop : (s.taken p d rx).identify (s.arrival p d rx) cache mend = (s.taken p d rx).dropFree (s.arrival p d rx).base 3 := by
    unfold State.identify
    rw [ht.on _ (Fl.not_shared (by decide)), hrun]
    rfl
  rw [hdrop] at hx
  have hfree := State.Counts.dropFree (s.taken p d rx) (s.arrival p d rx).base 3
  obtain ⟨hqueue, hflds, hmem⟩ := (ht.trans hfree).settled o
  refine ⟨_, hx, ?_, ?_, hqueue, ?_, hflds, hmem⟩
  · rw [State.ctr_settle, hfree.ctr _ List.not_mem_nil, State.ctr_taken]
  · rw [State.settle_tape, State.noWord_dropFree, State.noWord_taken, State.arrival_src, Tbl.get_set_same]
  · rw [State.settle_strm, State.dropFree_strm, State.taken_strm]

end

/-! ## Unmatched frames (R111, R114) -/

theorem State.Counts.tagCounts (s : State) (p : Nat) (d : List Byte) : State.Counts [portWord p 21, portWord p 22] s (s.tagCounts p d) := by
  have hlan : ∀ c : Bool, State.Counts [portWord p 21] s (if c then s.portCount p 21 else s) := fun c => by
    cases c
    · exact (State.Counts.refl s).mono (List.nil_subset _)
    · exact .portCount s p 21 1
  unfold State.tagCounts
  dsimp only
  split
  · split
    · exact (hlan _).mono (List.subset_append_left _ [portWord p 22])
    · exact (hlan _).trans (.portCount _ p 22 1)
  · exact (hlan _).mono (List.subset_append_left _ [portWord p 22])

/-- The record of an unmatched frame that its port's default destination takes. -/
def Arrival.unmatchedRec (a : Arrival) (dp : Nat) : FrameRec := { a.base with colour := 3, dp := dp, edit := { deiMark := false }, seq := receivedNumber 0 a.data, copy := 0 }

/-- The queue of a destination code and a traffic class (Table 04-5). -/
abbrev destQueue (code tc : Nat) : Nat := bits code 10 4 * 128 + tc * 16 + bits code 3 0

/-- The state in which an unmatched frame meets its queue. -/
def State.unmatchedAt (s : State) (a : Arrival) : State := (s.portCount a.p 12).tagCounts a.p a.data

theorem State.Counts.unmatchedAt (s : State) (a : Arrival) : State.Counts [portWord a.p 12, portWord a.p 21, portWord a.p 22] s (s.unmatchedAt a) :=
  (State.Counts.portCount s a.p 12 1).trans (.tagCounts _ a.p a.data)

/-- An unmatched frame without a meter goes to its port's default queue. -/
theorem State.unmatched_of (s : State) (a : Arrival) (hmeter : s.on .STRM_PORT_DEFAULT_METER_EN a.p = false) (hhsr : s.hsrOwn a.p a.data = false)
    (hdest : bits (s.fld .STRM_PORT_DEFAULT_DEST a.p) 15 14 = 0) :
    s.unmatched a = ((s.unmatchedAt a).admitCopy (destQueue (s.fld .STRM_PORT_DEFAULT_DEST a.p) (s.defaultTc a.p a.data)) (a.unmatchedRec (s.fld .STRM_PORT_DEFAULT_DP a.p))).2 := by
  have h1 := State.Counts.portCount s a.p 12 1
  have h2 := State.Counts.unmatchedAt s a
  have hnone : ∀ (u : State) (m : Nat), u.meterFrame false m a = (3, false, none, u) := fun _ _ => rfl
  unfold State.unmatched
  dsimp only
  rw [h1.on _ (Fl.not_shared (by decide)), hmeter, hnone]
  dsimp only
  unfold State.mendPort
  rw [h1.hsrOwn, hhsr, if_neg Bool.false_ne_true]
  show (s.unmatchedAt a).deliverTo _ ((s.unmatchedAt a).fld .STRM_PORT_DEFAULT_DEST a.p) ((s.unmatchedAt a).defaultTc a.p a.data) a.tD = _
  rw [h2.reads (by decide), h2.defaultTc, State.deliverTo_queue _ _ _ _ hdest, h1.reads (by decide)]
  rfl

/-! ## A frame that its queue takes -/

section
variable {ws : List Nat} {s u : State} (o : s.Overlock) (h : State.Counts ws s u) {q : Nat} {fr : FrameRec} {a : Acct}
  (hadm : s.admitTest q fr.cells fr.dp fr.service = (.admitted, a))
include h hadm

theorem State.Counts.admitCopy : (u.admitCopy q fr).2 = u.enqueue q fr a := State.admitCopy_admitted (by rw [h.admitTest, hadm])
theorem State.Counts.frames_admitCopy : ((u.admitCopy q fr).2.settle.qu q).frames = (s.qu q).frames ++ [u.placed q fr a] := by
  rw [State.qu_settle, h.admitCopy hadm, State.frames_enqueue, h.qu]
theorem State.Counts.cells_admitCopy : ((u.admitCopy q fr).2.settle.qu q).cells = (s.qu q).cells + fr.cells := by
  rw [State.qu_settle, h.admitCopy hadm, State.cells_enqueue, h.qu]
theorem State.Counts.qu_admitCopy_ne {k : Nat} (hk : k ≠ q) : (u.admitCopy q fr).2.settle.qu k = s.qu k := by
  rw [State.qu_settle, h.admitCopy hadm, State.qu_enqueue_ne _ _ _ _ hk, h.qu]
include o in
theorem State.Counts.settled_admitCopy : s.SameFlds (u.admitCopy q fr).2.settle [] ∧ s.SameMem (u.admitCopy q fr).2.settle := by
  have he := State.Admits.enqueue u q fr a
  rw [h.admitCopy hadm]
  exact ⟨State.sameFlds_settled o (h.flds.trans he.flds) (he.dev.trans h.dev), State.SameMem.settle (h.mem.trans he.mem)⟩

end

/-- A word of a port's block other than those of programmable events is counted by no admission. -/
theorem portWord_ne_queueWord {p : Port} {w : Nat} (hw : w < 64) (q : Nat) : portWord p w ≠ queueWord q 0 := by
  have := p.isLt
  unfold portWord queueWord
  omega
theorem portWord_ne_event {w : Nat} (hw : w < 64) (p p' : Nat) : ∀ i < 8, portWord p w ≠ portWord p' (64 + i) := by
  intro i hi
  unfold portWord
  omega

section
variable {s : State} (o : s.Overlock) {p : Port} {d : List Byte} (rx : RxMeet) (halive : s.alive = true) (hmd : multidrop p = false)
  (hlink : s.linkState p = 6) (hmin : 60 ≤ d.length) (hmax : d.length + 4 ≤ max 64 (min 9216 (s.fld .MAC_CFG_MAX_LEN p)))
include o halive hmd hlink hmin hmax

/-- A frame that forms no key goes to its port's default queue (R111). -/
theorem frameReceived_unmatched {a : Acct} {q : Nat} (htype : (parse d).etype ≠ 0x8808) (hsvc : s.toService p d false = false) (hrun : s.on .STRM_CTRL_RUN = true)
    (hA : s.on .STRM_PORT_ID_CFG_A_EN p = false) (hB : s.on .STRM_PORT_ID_CFG_B_EN p = false) (hmeter : s.on .STRM_PORT_DEFAULT_METER_EN p = false) (hhsr : s.hsrOwn p d = false)
    (hdest : bits (s.fld .STRM_PORT_DEFAULT_DEST p) 15 14 = 0) (hq : q = destQueue (s.fld .STRM_PORT_DEFAULT_DEST p) (s.defaultTc p d))
    (hadm : s.admitTest q (cellsOf (d.length + 4)) (s.fld .STRM_PORT_DEFAULT_DP p) false = (.admitted, a)) (cache : CacheErr) (mend : MendErr) : ∃ (t : State) (fr : FrameRec),
    exec (.frameReceived p d true true false cache mend rx) s = .next t ∧ (t.qu q).frames = (s.qu q).frames ++ [fr] ∧ fr.data = d ∧ fr.q = q ∧ fr.acct = a ∧
      fr.dp = s.fld .STRM_PORT_DEFAULT_DP p ∧ (t.qu q).cells = (s.qu q).cells + cellsOf (d.length + 4) ∧ (∀ k, k ≠ q → t.qu k = s.qu k) ∧
      t.ctr (portWord p 0) = ctrAdd (s.ctr (portWord p 0)) 1 ∧ t.ctr (portWord p 12) = ctrAdd (s.ctr (portWord p 12)) 1 ∧ s.SameFlds t [] ∧ s.SameMem t := by
  have ht := State.Counts.taken s p d rx
  have hx := exec_frameReceived_identify (rx := rx) halive hmd hlink hmin hmax htype hsvc cache mend
  have hkeys : (s.taken p d rx).keysOf p d = ([], (parse d).blocked) := by
    rw [ht.keysOf, State.keysOf, hA, hB]; rfl
  have hident : (s.taken p d rx).identify (s.arrival p d rx) cache mend = (s.taken p d rx).unmatched (s.arrival p d rx) := by
    unfold State.identify
    rw [ht.on _ (Fl.not_shared (by decide)), hrun, State.arrival_p, State.arrival_data, hkeys]
    rfl
  have hun := State.unmatched_of (s.taken p d rx) (s.arrival p d rx) ((ht.on _ (Fl.not_shared (by decide)) _ _).trans hmeter) ((ht.hsrOwn ..).trans hhsr)
    ((congrArg (bits · 15 14) (ht.reads (by decide) _ _)).trans hdest)
  rw [State.arrival_p, State.arrival_data, ht.reads (by decide), ht.reads (by decide), ht.defaultTc, ← hq] at hun
  rw [hident, hun] at hx
  have hat := State.Counts.unmatchedAt (s.taken p d rx) (s.arrival p d rx)
  have hall := ht.trans hat
  have hadm' : s.admitTest q ((s.arrival p d rx).unmatchedRec (s.fld .STRM_PORT_DEFAULT_DP p)).cells (s.fld .STRM_PORT_DEFAULT_DP p) false = (.admitted, a) := hadm
  have hctr : ∀ {ws : List Nat} {u : State} {w : Nat}, State.Counts ws u ((s.taken p d rx).unmatchedAt (s.arrival p d rx)) → w < 64 → portWord p w ∉ ws →
      (((s.taken p d rx).unmatchedAt (s.arrival p d rx)).admitCopy q ((s.arrival p d rx).unmatchedRec (s.fld .STRM_PORT_DEFAULT_DP p))).2.settle.ctr (portWord p w) =
        u.ctr (portWord p w) := fun hu hw hn => by
    rw [State.ctr_settle, hall.admitCopy hadm', State.ctr_enqueue _ _ _ _ (portWord_ne_queueWord hw q) (portWord_ne_event hw p _), hu.ctr _ hn]
  obtain ⟨hflds, hmem⟩ := hall.settled_admitCopy o hadm'
  refine ⟨_, _, hx, hall.frames_admitCopy hadm', rfl, rfl, rfl, rfl, hall.cells_admitCopy hadm', fun k hk => hall.qu_admitCopy_ne hadm' hk, ?_, ?_, hflds, hmem⟩
  · rw [hctr hat (by decide) (by simp [portWord_inj, State.arrival_p]), State.ctr_taken]
  · rw [hctr (State.Counts.tagCounts ((s.taken p d rx).portCount p 12) p d) (by decide) (by simp [portWord_inj]), State.portCount, State.ctr_bump_same,
      ht.ctr _ (by simp [portWord_inj])]

end

/-! ## PAUSE (R282) -/

/-- The end of a class's pause at a port, and the time from which it binds. -/
def State.pauseOf (s : State) (p c : Nat) : Nat × Nat := ((s.pt p).mac.pauseEnd.get 0 c, (s.pt p).mac.pauseBind.get 0 c)

/-- A class paused until a time; where no pause runs, it binds from another time on. -/
def MacSt.paused (m : MacSt) (k ends binds : Nat) (runs : Bool) : MacSt :=
  { m with pauseEnd := m.pauseEnd.set 0 k ends, pauseBind := if runs then m.pauseBind else m.pauseBind.set 0 k binds }

/-- A pause of some quanta sets the timer of its class, where no gate list schedules it, and nothing else. -/
theorem State.pauseClass_spec (s : State) (p k : Nat) {quanta : Nat} (hq : 0 < quanta) : ∃ x, s.pauseClass p k quanta = { s with port := x } ∧
    (∀ c, c ≠ k → (s.pauseClass p k quanta).pauseOf p c = s.pauseOf p c) ∧
    (s.isSched p k = false → (s.pauseClass p k quanta).pauseOf p k =
      (s.lNow + s.wireT p (64 * quanta), if s.pauseRuns p k then (s.pauseOf p k).2 else s.lNow + 256 * nsT)) := by
  by_cases hs : s.isSched p k = true
  · have hkeep : s.pauseClass p k quanta = s := if_pos hs
    rw [hkeep]
    exact ⟨s.port, rfl, fun _ _ => rfl, fun h => absurd (hs.symm.trans h) (by decide)⟩
  · have hset : s.pauseClass p k quanta = s.updMac p fun m => m.paused k (s.lNow + s.wireT p (64 * quanta)) (s.lNow + 256 * nsT) (s.pauseRuns p k) := by
      unfold State.pauseClass
      rw [if_neg hs, if_neg (by omega)]
      rfl
    rw [hset]
    refine ⟨_, rfl, fun c hc => ?_, fun _ => ?_⟩ <;> rw [State.pauseOf, State.updMac, State.pt_updPt]
    · exact Prod.ext (Tbl.get_set_ne _ _ hc _) (by
        unfold MacSt.paused
        dsimp only
        split
        · rfl
        · exact Tbl.get_set_ne _ _ hc _)
    · exact Prod.ext (Tbl.get_set_same ..) (by
        unfold MacSt.paused
        dsimp only
        split
        · rfl
        · exact Tbl.get_set_same ..)

/-- The classes below `n` paused, one after the other. -/
def State.pauseBelow (s : State) (p n quanta : Nat) : State := (List.range n).foldl (fun a c => a.pauseClass p c quanta) s

theorem State.pauseBelow_spec (s : State) (p n c : Nat) {quanta : Nat} (hq : 0 < quanta) (hs : s.isSched p c = false) : ∃ x, s.pauseBelow p n quanta = { s with port := x } ∧
    (s.pauseBelow p n quanta).pauseOf p c = if c < n then (s.lNow + s.wireT p (64 * quanta), if s.pauseRuns p c then (s.pauseOf p c).2 else s.lNow + 256 * nsT) else s.pauseOf p c := by
  induction n with
  | zero => exact ⟨s.port, rfl, rfl⟩
  | succ n ih =>
    obtain ⟨x, hx, hc⟩ := ih
    have hsucc : s.pauseBelow p (n + 1) quanta = (s.pauseBelow p n quanta).pauseClass p n quanta := by
      unfold State.pauseBelow; rw [List.range_succ, List.foldl_append]; rfl
    obtain ⟨y, hy, hne, hsame⟩ := (s.pauseBelow p n quanta).pauseClass_spec p n hq
    refine ⟨y, by rw [hsucc, hy, hx], ?_⟩
    rw [hsucc]
    by_cases e : c = n
    · subst e
      rw [if_neg (lt_irrefl c)] at hc
      have hruns : (s.pauseBelow p c quanta).pauseRuns p c = s.pauseRuns p c := by
        have hend : ((s.pauseBelow p c quanta).pt p).mac.pauseEnd.get 0 c = (s.pt p).mac.pauseEnd.get 0 c := congrArg Prod.fst hc
        have hnow : (s.pauseBelow p c quanta).lNow = s.lNow := by rw [hx]; rfl
        rw [State.pauseRuns, State.pauseRuns, hend, hnow]
      have hnow : (s.pauseBelow p c quanta).lNow = s.lNow := by rw [hx]; rfl
      have hwire : (s.pauseBelow p c quanta).wireT p (64 * quanta) = s.wireT p (64 * quanta) := by rw [hx]; rfl
      rw [hsame (by rw [hx]; exact hs), hruns, hc, hnow, hwire, if_pos (Nat.lt_succ_self c)]
    · rw [hne c e, hc]
      simp only [show c < n + 1 ↔ c < n by omega]

section
variable {s : State} (o : s.Overlock) {p : Port} {d : List Byte} (rx : RxMeet) (halive : s.alive = true) (hmd : multidrop p = false)
  (hlink : s.linkState p = 6) (hmin : 60 ≤ d.length) (hmax : d.length + 4 ≤ max 64 (min 9216 (s.fld .MAC_CFG_MAX_LEN p)))
include o halive hmd hlink hmin hmax

/-- An obeyed PAUSE frame. -/
theorem frameReceived_pause (c : Fin 8) (htype : (parse d).etype = 0x8808) (hda : beNat (slice d 0 6) = 0x0180C2000001) (hop : be16 d (typeOff d + 2) = 1) (hok : s.pauseRxOk p = true)
    (hq : 0 < be16 d (typeOff d + 4)) (hs : s.isSched p c = false) (cache : CacheErr) (mend : MendErr) : ∃ t,
    exec (.frameReceived p d true true false cache mend rx) s = .next t ∧ (t.pt p).mac.pauseEnd.get 0 c = s.lNow + s.wireT p (64 * be16 d (typeOff d + 4)) ∧
      (s.pauseRuns p c = false → (t.pt p).mac.pauseBind.get 0 c = s.lNow + 256 * nsT) ∧
      t.ctr (portWord p 7) = ctrAdd (s.ctr (portWord p 7)) 1 ∧ s.SameFlds t [] ∧ s.SameMem t := by
  have ht := State.Counts.taken s p d rx
  have hx := exec_frameReceived_valid (rx := rx) halive hmd hlink hmin hmax false cache mend
  have hctl : (s.taken p d rx).macControl p d = ((s.taken p d rx).portCount p 7).pauseBelow p 8 (be16 d (typeOff d + 4)) := by
    unfold State.macControl
    rw [if_neg (by rw [hmd, hda]; simp), ht.pauseRxOk, if_pos ⟨hop, hok⟩]
    rfl
  rw [if_pos htype, hctl] at hx
  have hcount := ht.trans (.portCount (s.taken p d rx) p 7 1)
  obtain ⟨x, hport, hpause⟩ := ((s.taken p d rx).portCount p 7).pauseBelow_spec p 8 c hq ((hcount.isSched p c).trans hs)
  have hfate := State.Counts.fate (((s.taken p d rx).portCount p 7).pauseBelow p 8 (be16 d (typeOff d + 4))) (s.arrival p d rx).base 2 0 0 0 0xFFFF 0xFFFF 0 none
  have hruns : ((s.taken p d rx).portCount p 7).pauseRuns p c = s.pauseRuns p c := by unfold State.pauseRuns; rw [hcount.lNow, hcount.pt]
  rw [if_pos c.isLt, hcount.lNow, hcount.wireT, hruns] at hpause
  have hflds : s.SameFlds (((s.taken p d rx).portCount p 7).pauseBelow p 8 (be16 d (typeOff d + 4))) [] := by rw [hport]; exact hcount.flds.regs rfl
  have hdev : (((s.taken p d rx).portCount p 7).pauseBelow p 8 (be16 d (typeOff d + 4))).dev = s.dev := by rw [hport]; exact hcount.dev
  have hmem : s.SameMem (((s.taken p d rx).portCount p 7).pauseBelow p 8 (be16 d (typeOff d + 4))) := by rw [hport]; exact hcount.mem
  have hctr : (((s.taken p d rx).portCount p 7).pauseBelow p 8 (be16 d (typeOff d + 4))).ctr (portWord p 7) = ((s.taken p d rx).portCount p 7).ctr (portWord p 7) := by rw [hport]; rfl
  refine ⟨_, hx, ?_, fun hr => ?_, ?_, State.sameFlds_settled o (hflds.trans hfate.flds) (hfate.dev.trans hdev), State.SameMem.settle (hmem.trans hfate.mem)⟩
  · rw [State.pt_settle, hfate.pt]
    exact congrArg Prod.fst hpause
  · rw [State.pt_settle, hfate.pt]
    rw [hr, if_neg Bool.false_ne_true] at hpause
    exact congrArg Prod.snd hpause
  · rw [State.ctr_settle, hfate.ctr _ List.not_mem_nil, hctr, State.portCount, State.ctr_bump_same, ht.ctr _ (by simp [portWord_inj])]

end

/-- Settles O30, by the point of the ingress sequence (R101) at which each frame leaves it. -/
theorem reception : Obligations.Reception := by
  intro s p d cache mend rx o halive hmd
  refine ⟨fun fcs code ttdp hlink => ?_, fun ttdp hlink hmin hmax => frameReceived_badFcs o rx halive hmd hlink hmin hmax ttdp cache mend, ?_, ?_, ?_, ?_⟩
  · exact frameReceived_bad o rx halive hmd (if_pos hlink) (by simp [portWord_inj]) ttdp cache mend
  · exact fun a q hlink hmin hmax htype hsvc hrun hA hB hmeter hhsr hdest hq hadm =>
      frameReceived_unmatched o rx halive hmd hlink hmin hmax htype hsvc hrun hA hB hmeter hhsr hdest hq hadm cache mend
  · exact fun c hlink hmin hmax htype hda hop hok hq hs _ => frameReceived_pause o rx halive hmd hlink hmin hmax c htype hda hop hok hq hs cache mend
  · exact fun hlink hmin hmax htype hsvc hlim => frameReceived_beyondLimit o rx halive hmd hlink hmin hmax htype hsvc hlim cache mend
  · exact fun hlink hmin hmax htype hsvc hrun => frameReceived_stopped o rx halive hmd hlink hmin hmax htype hsvc hrun cache mend

end Sys2Proof.Machine
end

section
/-!
PROOFS. Identified frames and misses (R110, R112, R114, R117, R127, R128, R131, R132, R136).
-/
namespace Sys2Proof.Machine

/-! ## Words cut from words -/

theorem bits_bits {w hi lo h l : Nat} (hh : lo + h ≤ hi) : bits (bits w hi lo) h l = bits w (lo + h) (lo + l) := by
  apply Nat.eq_of_testBit_eq
  intro k
  by_cases hk : k < h + 1 - l
  · have h1 : k + l < hi + 1 - lo := by omega
    have h2 : k < lo + h + 1 - (lo + l) := by omega
    simp [bits, Nat.testBit_mod_two_pow, Nat.testBit_div_two_pow, h1, h2, hk]
    congr 1
    omega
  · have h2 : ¬k < lo + h + 1 - (lo + l) := by omega
    simp [bits, Nat.testBit_mod_two_pow, hk, h2]

/-! ## What the Stream Cache and the Stream Table read -/

/-- A state with Miss Wait emptied. -/
def State.noWait (s : State) : State := { s with strm := { s.strm with wait := [] } }

section
variable {ws : List Nat} {s t : State} (h : State.Counts ws s t)
include h

theorem State.Counts.dramless : t.dramless = s.dramless := h.on .STRM_CTRL_DRAMLESS (Fl.not_shared (by decide)) 0 0
theorem State.Counts.h1 (k : Nat × Nat) : t.h1 k = s.h1 k := by unfold State.h1; rw [h.reads (by decide)]
theorem State.Counts.h2 (k : Nat × Nat) : t.h2 k = s.h2 k := by unfold State.h2; rw [h.reads (by decide)]
theorem State.Counts.setOf (k : Nat × Nat) : t.setOf k = s.setOf k := by unfold State.setOf; rw [h.h1]
theorem State.Counts.slotAddr (b i : Nat) : t.slotAddr b i = s.slotAddr b i := by unfold State.slotAddr; rw [h.reads (by decide)]
theorem State.Counts.entAddr (i : Nat) : t.entAddr i = s.entAddr i := by unfold State.entAddr; rw [h.reads (by decide)]
theorem State.Counts.slotWord (b i : Nat) : t.slotWord b i = s.slotWord b i := by unfold State.slotWord; rw [h.slotAddr, h.keeps State.dram fun _ => rfl]
theorem State.Counts.dramEnt (i : Nat) : t.dramEnt i = s.dramEnt i := by unfold State.dramEnt; rw [h.entAddr, h.keeps State.dram fun _ => rfl]
theorem State.Counts.tagSlot (k : Nat × Nat) : t.tagSlot k = s.tagSlot k := by
  unfold State.tagSlot State.keySlots State.dirTag State.bucket1 State.bucket2
  simp only [h.h1, h.h2, h.slotWord]
theorem State.Counts.keyBeyond (k : Nat × Nat) : t.keyBeyond k = s.keyBeyond k := by
  unfold State.keyBeyond State.entBeyond State.dramBeyond State.bucket1 State.bucket2
  simp only [h.h1, h.h2, h.slotWord, h.slotAddr, h.entAddr, h.tagSlot, h.keeps State.dma fun _ => rfl]

/-- A lookup in the Stream Table reads nothing that a count writes; that of a DRAM-less build reads the slices. -/
theorem State.Counts.missFind (hs : t.strm = s.strm) (k : Nat × Nat) : t.missFind k = s.missFind k := by
  unfold State.missFind State.findKey State.dramFind State.sliceFind
  simp only [h.dramless, h.tagSlot, h.slotWord, h.dramEnt, hs]

theorem State.Counts.noWait : State.Counts ws s.noWait t.noWait := ⟨State.SameFlds.regs h.flds rfl, congrArg State.noWait h.uncounted, h.ctr⟩

end

/-! ## A hit (R110) -/

/-- What a lookup that finds an entry does to a slice: the way is used again. -/
theorem State.lookup1_of_found {s : State} {b i e : Nat} {key : Nat × Nat} (h : (s.lookup1 b key).1 = .found i e) : ∃ w : Way, w.idx = i ∧ w.ent = e ∧
    ((s.ways b (s.setOf (key.1, keyPart key.1 key.2))).find? fun w => w.kind == .entry && entValid w.ent && decide (entId w.ent = (key.1, keyPart key.1 key.2))) = some w := by
  unfold State.lookup1 at h
  dsimp only at h
  split at h
  next w hw =>
    simp only [Hit.found.injEq] at h
    exact ⟨w, h.1, h.2, hw⟩
  next =>
    split at h
    · simp at h
    · split at h <;> simp at h

/-- The same lookup in a state in which frames have been counted. -/
theorem State.Counts.lookup1_found {ws : List Nat} {s t : State} (h : State.Counts ws s t) (hs : t.strm = s.strm) {b i e : Nat} {key : Nat × Nat} (hf : (s.lookup1 b key).1 = .found i e) :
    ∃ u, t.SliceOnly u ∧ t.lookup1 b key = (.found i e, u) := by
  obtain ⟨w, rfl, rfl, hw⟩ := State.lookup1_of_found hf
  have hways : ∀ k, t.ways b k = s.ways b k := fun k => by unfold State.ways; rw [hs]
  refine ⟨t.touch b (s.setOf (key.1, keyPart key.1 key.2)) w, t.sliceOnly_setWays b _ _, ?_⟩
  unfold State.lookup1
  dsimp only
  rw [h.setOf, hways, hw]

/-- A frame whose one key hits. -/
theorem State.identify_hit {ws : List Nat} {s t : State} (h : State.Counts ws s t) (hs : t.strm = s.strm) {a : Arrival} {k : Nat × Nat} {i e : Nat} (hrun : s.on .STRM_CTRL_RUN = true)
    (hkeys : s.keysOf a.p a.data = ([k], false)) (hf : (s.lookup1 (boltOf a.p) k).1 = .found i e) (mend : MendErr) :
    ∃ u, State.Counts (ws ++ [boltWord (boltOf a.p) 8]) s u ∧ u.strm.wait = s.strm.wait ∧ u.ctr (boltWord (boltOf a.p) 8) = ctrAdd (t.ctr (boltWord (boltOf a.p) 8)) 1 ∧
      t.identify a .none mend = if s.filling (boltOf a.p) e then u.missAdmit a [entId e] [(entId e, some (i, e))] else u.matched a i e mend := by
  obtain ⟨u, hu, hlook⟩ := h.lookup1_found hs hf
  have hwait : u.strm.wait = s.strm.wait := (hu.counts.keeps (fun x => x.strm.wait) fun _ => rfl).trans (congrArg StrmSt.wait hs)
  have hfill : u.filling (boltOf a.p) e = s.filling (boltOf a.p) e := by unfold State.filling; rw [hwait]
  refine ⟨u.bump (boltWord (boltOf a.p) 8), (h.trans (hu.counts.trans (.bump u _ 1))).mono (List.Subset.refl _), (congrArg StrmSt.wait (State.bump_strm ..)).trans hwait,
    (u.ctr_bump_same _ 1).trans (congrArg (ctrAdd · 1) (hu.counts.ctr _ List.not_mem_nil)), ?_⟩
  have hident : (t.cacheError (boltOf a.p) [k] .none).lookupKeys (boltOf a.p) [k] = (.hit i e, u) := by
    unfold State.lookupKeys State.cacheError
    dsimp only
    rw [List.foldl_cons, List.foldl_nil]
    dsimp only
    rw [hlook]
  unfold State.identify
  rw [h.on _ (Fl.not_shared (by decide)), hrun, h.keysOf, hkeys]
  dsimp only
  rw [hident, if_neg (by decide), if_neg (by simp)]
  dsimp only
  rw [hfill]

/-! ## A frame whose entry is known (R113 to R117) -/

/-- The record of an identified frame that its entry's queue takes. -/
def Arrival.matchedRec (a : Arrival) (i e : Nat) : FrameRec :=
  { a.base with stream := some i, seq := receivedNumber (bits e 406 405) a.data, colour := 3, dp := bits e 379 378, edit := entEdit e false (receivedNumber (bits e 406 405) a.data), copy := 0 }

/-- The queue of an entry without an IPV (Table 04-4). -/
abbrev entQueue (e : Nat) : Nat := bits e 424 418 * 128 + bits e 413 411 * 16 + bits e 417 414

theorem entQueue_lt (e : Nat) : entQueue e < 16384 := by
  have h1 : bits e 424 418 < 2 ^ 7 := bits_lt e (by decide)
  have h2 : bits e 413 411 < 2 ^ 3 := bits_lt e (by decide)
  have h3 : bits e 417 414 < 2 ^ 4 := bits_lt e (by decide)
  unfold entQueue
  omega

/-- An entry with no gate, meter, generator, function or mirror. -/
structure Plain (e : Nat) : Prop where
  gate : bit e 501 = false
  meter : bit e 502 = false
  gen : bit e 503 = false
  rcv : bit e 504 = false
  mirror : bit e 506 = false

section
variable {e : Nat} (hp : Plain e)
include hp

theorem State.recover_plain (s : State) (fr : FrameRec) (err : MendErr) : s.recover e fr err = (true, s) := by unfold State.recover; rw [hp.rcv]; rfl
theorem State.generate_plain (s : State) (fr : FrameRec) (err : MendErr) : s.generate e fr err = (some { fr with edit := { fr.edit with num := fr.seq } }, s) := by
  unfold State.generate; rw [hp.gen]; rfl

/-- The Mender passes a frame of such an entry on. -/
theorem State.mendStream_plain {s : State} (hrun : s.on .STRM_CTRL_RUN = true) (hw : s.mend.waiting = []) (a : Arrival) (tc : Nat) (fr : FrameRec) (err : MendErr) :
    s.mendStream a e tc fr err = s.deliverTo { fr with edit := { fr.edit with num := fr.seq } } (bits e 429 414) tc a.tD := by
  have heval : s.mendEval ⟨a, e, tc, fr, err⟩ = s.deliverTo { fr with edit := { fr.edit with num := fr.seq } } (bits e 429 414) tc a.tD := by
    unfold State.mendEval
    simp only [hrun, hp.gen, hp.rcv, hp.mirror, State.recover_plain hp, State.generate_plain hp, Bool.or_self, Bool.false_and, Bool.not_true, Bool.false_eq_true, if_false]
  unfold State.mendStream
  simp only [hp.mirror, hw, Bool.false_and, Bool.false_eq_true, if_false, List.isEmpty_nil, if_true, heval, ite_self]

/-- A frame of such an entry goes to its entry's queue. -/
theorem State.matched_plain {s : State} {a : Arrival} (i : Nat) (hrun : s.on .STRM_CTRL_RUN = true) (hw : s.mend.waiting = []) (hhsr : s.hsrOwn a.p a.data = false)
    (hdest : bits e 429 428 = 0) (err : MendErr) : s.matched a i e err = ((s.tagCounts a.p a.data).admitCopy (entQueue e) (a.matchedRec i e)).2 := by
  have ht := State.Counts.tagCounts s a.p a.data
  have hnone : ∀ (u : State) (m : Nat), u.meterFrame false m a = (3, false, none, u) := fun _ _ => rfl
  have hcode : bits (bits e 429 414) 15 14 = 0 := by rw [bits_bits (by decide)]; exact hdest
  unfold State.matched State.mendPort
  rw [hp.gate, hp.meter]
  simp only [Bool.false_eq_true, if_false, hnone, hhsr, Option.getD_none]
  rw [State.mendStream_plain hp ((ht.on _ (Fl.not_shared (by decide)) _ _).trans hrun) (by rw [ht.mend]; exact hw), State.deliverTo_queue _ _ _ _ hcode, bits_bits (by decide), bits_bits (by decide)]
  rfl

end

/-! ## A frame whose key hits -/

theorem portWord_ne_boltWord (p : Port) {w : Nat} (hw : w < 128) (b v : Nat) : boltWord b v ≠ portWord p w := by
  have := p.isLt
  unfold portWord boltWord
  omega
theorem boltWord_not_taken (p : Port) (b v : Nat) : boltWord b v ∉ takenWords p := by
  simp [portWord_ne_boltWord p (by decide : 52 < 128), portWord_ne_boltWord p (by decide : 53 < 128), portWord_ne_boltWord p (by decide : 0 < 128),
    portWord_ne_boltWord p (by decide : 1 < 128), portWord_ne_boltWord p (by decide : 63 < 128), portWord_ne_boltWord p (by decide : 11 < 128)]

section
variable {s : State} (o : s.Overlock) {p : Port} {d : List Byte} (rx : RxMeet) (halive : s.alive = true) (hmd : multidrop p = false) (hrun : s.on .STRM_CTRL_RUN = true)
  (hlink : s.linkState p = 6) (hmin : 60 ≤ d.length) (hmax : d.length + 4 ≤ max 64 (min 9216 (s.fld .MAC_CFG_MAX_LEN p))) (htype : (parse d).etype ≠ 0x8808)
  (hsvc : s.toService p d false = false) {k : Nat × Nat} {i e : Nat} (hkeys : s.keysOf p d = ([k], false)) (hf : (s.lookup1 (boltOf p) k).1 = .found i e)
include halive hmd hrun hlink hmin hmax htype hsvc hkeys hf

/-- A frame with a hit is counted in its Bolt's word 8, and goes on as its entry says or into Miss Wait (R110, R128). -/
theorem exec_frameReceived_hit (mend : MendErr) : ∃ u, State.Counts (takenWords p ++ [boltWord (boltOf p) 8]) s u ∧ u.strm.wait = s.strm.wait ∧
    u.ctr (boltWord (boltOf p) 8) = ctrAdd (s.ctr (boltWord (boltOf p) 8)) 1 ∧
    exec (.frameReceived p d true true false .none mend rx) s =
      .next (if s.filling (boltOf p) e then u.missAdmit (s.arrival p d rx) [entId e] [(entId e, some (i, e))] else u.matched (s.arrival p d rx) i e mend).settle := by
  have ht := State.Counts.taken s p d rx
  obtain ⟨u, hu, hwait, hctr, hident⟩ := State.identify_hit ht (s.taken_strm p d rx) (a := s.arrival p d rx) hrun hkeys hf mend
  have hx := exec_frameReceived_identify (rx := rx) halive hmd hlink hmin hmax htype hsvc .none mend
  rw [hident] at hx
  exact ⟨u, hu, hwait, hctr.trans (congrArg (ctrAdd · 1) (ht.ctr _ (boltWord_not_taken p _ 8))), hx⟩

include o

/-- A frame whose entry has no gate, meter, function or generator goes to its entry's queue. -/
theorem frameReceived_matched (hfill : s.filling (boltOf p) e = false) (hhsr : s.hsrOwn p d = false) (hp : Plain e) (hdest : bits e 429 428 = 0) (hw : s.mend.waiting = [])
    {a : Acct} (hadm : s.admitTest (entQueue e) (cellsOf (d.length + 4)) (bits e 379 378) false = (.admitted, a)) (mend : MendErr) : ∃ (t : State) (fr : FrameRec),
    exec (.frameReceived p d true true false .none mend rx) s = .next t ∧ (t.qu (entQueue e)).frames = (s.qu (entQueue e)).frames ++ [fr] ∧ fr.data = d ∧ fr.stream = some i ∧
      fr.acct = a ∧ fr.dp = bits e 379 378 ∧ (∀ k, k ≠ entQueue e → t.qu k = s.qu k) ∧ t.ctr (boltWord (boltOf p) 8) = ctrAdd (s.ctr (boltWord (boltOf p) 8)) 1 ∧
      s.SameFlds t [] ∧ s.SameMem t := by
  obtain ⟨u, hu, -, hctr, hx⟩ := exec_frameReceived_hit rx halive hmd hrun hlink hmin hmax htype hsvc hkeys hf mend
  rw [hfill, if_neg Bool.false_ne_true,
    State.matched_plain hp i ((hu.on _ (Fl.not_shared (by decide)) _ _).trans hrun) (by rw [hu.mend]; exact hw) ((hu.hsrOwn ..).trans hhsr) hdest mend] at hx
  have htags := State.Counts.tagCounts u p d
  have hall := hu.trans htags
  have hadm' : s.admitTest (entQueue e) ((s.arrival p d rx).matchedRec i e).cells ((s.arrival p d rx).matchedRec i e).dp false = (.admitted, a) := hadm
  obtain ⟨hflds, hmem⟩ := hall.settled_admitCopy o hadm'
  refine ⟨_, _, hx, hall.frames_admitCopy hadm', rfl, rfl, rfl, rfl, fun k hk => hall.qu_admitCopy_ne hadm' hk, ?_, hflds, hmem⟩
  have hqueue : boltWord (boltOf p) 8 ≠ queueWord (entQueue e) 0 := by
    have := entQueue_lt e
    unfold boltWord queueWord
    omega
  have hport : ∀ n < 8, boltWord (boltOf p) 8 ≠ portWord (qPort (entQueue e)) (64 + n) := fun n hn => by
    have := entQueue_lt e
    unfold boltWord portWord qPort
    omega
  have hword := portWord_ne_boltWord p (by decide : 21 < 128) (boltOf p) 8
  have hword' := portWord_ne_boltWord p (by decide : 22 < 128) (boltOf p) 8
  rw [State.ctr_settle, State.arrival_p, State.arrival_data, hall.admitCopy hadm', State.ctr_enqueue _ _ _ _ hqueue hport, htags.ctr _ (by simp [hword, hword']), hctr]

/-- A frame whose stream gate is closed for good is discarded and counted (R136). -/
theorem frameReceived_gateClosed (hfill : s.filling (boltOf p) e = false) (hgate : bit e 501 = true) (hsdu : bits (s.strm.gate.get 0 (bits e 481 466)) 51 36 = 0)
    (hover : bit (s.strm.gate.get 0 (bits e 481 466)) 34 = false) (hclosed : bit (s.strm.gate.get 0 (bits e 481 466)) 32 = true) (mend : MendErr) : ∃ t,
    exec (.frameReceived p d true true false .none mend rx) s = .next t ∧ t.ctr (portWord p 18) = ctrAdd (s.ctr (portWord p 18)) 1 ∧ t.queue = s.queue ∧ t.hif = s.hif ∧
      s.SameFlds t [] ∧ s.SameMem t := by
  obtain ⟨u, hu, -, -, hx⟩ := exec_frameReceived_hit rx halive hmd hrun hlink hmin hmax htype hsvc hkeys hf mend
  have hcheck : ∀ n tL, u.gateCheck (bits e 481 466) n tL = (.drop 18, u) := fun n tL => by
    unfold State.gateCheck
    simp only [hu.keeps (fun a => a.strm.gate) fun _ => rfl, hsdu, hover, hclosed, ne_eq, not_true_eq_false, false_and, if_false, Bool.false_eq_true, if_true]
  obtain ⟨fr, hmatched⟩ : ∃ fr, u.matched (s.arrival p d rx) i e mend = u.dropPort p fr 4 18 := by
    unfold State.matched
    simp only [hgate, if_true, hcheck]
    exact ⟨_, rfl⟩
  rw [hfill, if_neg Bool.false_ne_true, hmatched] at hx
  have hall := hu.trans (.dropPort u p fr 4 18)
  obtain ⟨hqueue, hflds, hmem⟩ := hall.settled o
  refine ⟨_, hx, ?_, hqueue, (State.settle_hif _).trans hall.hif, hflds, hmem⟩
  rw [State.ctr_settle, State.ctr_dropPort, hu.ctr _ (by simp [portWord_inj, (portWord_ne_boltWord p (by decide : 18 < 128) (boltOf p) 8).symm])]

/-! ### Miss Wait (R128, R130) -/

omit o halive hmd hrun hlink hmin hmax htype hsvc hkeys hf in
/-- The compared part of an entry's key is its own compared part. -/
theorem keyPart_entId (e : Nat) : ((entId e).1, keyPart (entId e).1 (entId e).2) = entId e := by
  unfold entId keyPart
  dsimp only
  split
  · rw [Nat.mod_mod]
  · rfl

/-- A frame that waits on the key of its entry, with what its lookup has found. -/
def Arrival.waiting (a : Arrival) (i e : Nat) : Missed := { a := a, keys := [entId e], got := [(entId e, some (i, e))] }

omit o halive hmd hrun hlink hmin hmax htype hsvc hkeys hf in
theorem Arrival.result_waiting (a : Arrival) (i e : Nat) : (a.waiting i e).result = some (some (i, e)) := by
  unfold Missed.result Arrival.waiting
  simp

omit o halive hmd hrun hlink hmin hmax htype hsvc hkeys hf in
/-- A frame admitted to Miss Wait. -/
theorem State.missAdmit_of {u : State} {a : Arrival} {i e : Nat} (hroom : u.missCells + cellsOf (a.data.length + 4) + u.fld .STRM_MISS_CFG_RSV_CELLS ≤ 16384) : ∃ w,
    u.missAdmit a [entId e] [(entId e, some (i, e))] = ({ u with strm := { u.strm with wait := u.strm.wait ++ [a.waiting i e] } } : State).setFld .STRM_MISS_STATUS_HIGH_WATER 0 0 w := by
  have hrsv : u.missCells + cellsOf (a.data.length + 4) + (if (u.fld .STRM_MISS_CFG_PROT_TC).testBit (u.defaultTc a.p a.data) then 0 else u.fld .STRM_MISS_CFG_RSV_CELLS) ≤ 16384 := by
    split <;> omega
  unfold State.missAdmit
  dsimp only
  rw [if_pos hrsv, List.map_singleton, keyPart_entId]
  exact ⟨_, rfl⟩

/-- A frame whose entry is being filled in joins Miss Wait. -/
theorem frameReceived_waits (hfill : s.filling (boltOf p) e = true) (hroom : s.missCells + cellsOf (d.length + 4) + s.fld .STRM_MISS_CFG_RSV_CELLS ≤ 16384) (mend : MendErr) :
    ∃ (t : State) (m : Missed), exec (.frameReceived p d true true false .none mend rx) s = .next t ∧ t.strm.wait = s.strm.wait ++ [m] ∧ m.a.data = d ∧ m.a.p = p.val ∧
      m.result = some (some (i, e)) ∧ t.queue = s.queue ∧ s.SameFlds t [(.STRM_MISS_STATUS_HIGH_WATER, 0)] ∧ s.SameMem t := by
  obtain ⟨u, hu, hwait, -, hx⟩ := exec_frameReceived_hit rx halive hmd hrun hlink hmin hmax htype hsvc hkeys hf mend
  have hcells : u.missCells = s.missCells := by unfold State.missCells; rw [hwait]
  obtain ⟨w, hw⟩ := State.missAdmit_of (u := u) (a := s.arrival p d rx) (i := i) (e := e) (by rw [hcells, hu.reads (by decide)]; exact hroom)
  rw [hfill, if_pos rfl, hw] at hx
  have hflds : s.SameFlds ({ u with strm := { u.strm with wait := u.strm.wait ++ [(s.arrival p d rx).waiting i e] } } : State) [(.STRM_MISS_STATUS_HIGH_WATER, 0)] :=
    State.SameFlds.regs (hu.flds.mono (by simp)) rfl
  refine ⟨_, _, hx, ?_, rfl, rfl, (s.arrival p d rx).result_waiting i e, ?_, (hflds.setFld (by simp) 0 w).settle_of o hu.dev (by decide), State.SameMem.settle (hu.mem.trans (State.sameMem_of rfl rfl rfl))⟩
  · rw [State.settle_strm]
    exact congrArg (· ++ [(s.arrival p d rx).waiting i e]) hwait
  · rw [State.settle_queue]
    exact hu.queue

end

/-! ## Lookups that end (R127 to R131) -/

/-- A frame that no lookup has answered has no result, unless it waits on no key. -/
theorem Missed.result_of_nil {m : Missed} (hgot : m.got = []) (hkeys : m.keys ≠ []) : m.result = none := by
  obtain ⟨k, l, hk⟩ := List.exists_cons_of_ne_nil hkeys
  rw [Missed.result, hk, hgot]
  rfl

theorem find?_map_key {β : Type} [DecidableEq β] {γ : Type} (f : β → γ) (l : List β) {k : β} (hk : k ∈ l) : ((l.map fun x => (x, f x)).find? fun g => g.1 = k) = some (k, f k) := by
  induction l with
  | nil => exact absurd hk List.not_mem_nil
  | cons x l ih =>
    rw [List.map_cons, List.find?_cons]
    by_cases e : x = k
    · subst e; simp
    · simpa [e] using ih (by simpa [Ne.symm e] using hk)

/-- The result of a frame once the lookups of all its keys have ended: what its first key with an entry finds (R110). -/
theorem Missed.result_note {m : Missed} (hgot : m.got = []) (f : Nat × Nat → Option (Nat × Nat)) : (m.note (m.keys.map fun k => (k, f k))).result = some (m.keys.findSome? f) := by
  have hall : (m.note (m.keys.map fun k => (k, f k))).got = m.keys.map fun k => (k, f k) := by
    unfold Missed.note
    dsimp only
    rw [hgot, List.nil_append, List.filter_eq_self]
    intro r hr
    obtain ⟨k, hk, rfl⟩ := List.mem_map.mp hr
    simpa using hk
  have hfold : ∀ l : List (Nat × Nat), (∀ k ∈ l, k ∈ m.keys) →
      (l.foldr (fun k rest => match (m.keys.map fun k => (k, f k)).find? fun g => g.1 = k with
        | some (_, some e) => some (some e)
        | some (_, none) => rest
        | none => none) (some none)) = some (l.findSome? f) := by
    intro l
    induction l with
    | nil => intro _; rfl
    | cons k l ih =>
      intro hl
      rw [List.foldr_cons, find?_map_key f m.keys (hl k List.mem_cons_self), List.findSome?_cons, ih fun x hx => hl x (List.mem_cons_of_mem _ hx)]
      cases f k <;> rfl
  rw [Missed.result, hall]
  exact hfold m.keys fun _ hk => hk

section
variable {s : State} {m : Missed} (hwait : s.strm.wait = [m]) (hgot : m.got = []) (hkeys : m.keys ≠ [])
include hwait hgot hkeys

/-- The lookup that ends is that of the one frame that waits. -/
theorem State.missHead_one : s.missHead = m.keys := by
  unfold State.missHead
  rw [hwait, List.find?_cons, Missed.result_of_nil hgot hkeys]
  dsimp only [Option.isNone]
  rw [hgot, List.filter_eq_self]
  intro k _
  rfl

end

/-- Where no frame is left, none leaves. -/
theorem State.missLeave_empty {s : State} (h : s.strm.wait = []) (err : MendErr) : s.missLeave err = s := by
  unfold State.missLeave
  rw [h]
  show ({ s with strm := { s.strm with wait := [] } } : State) = s
  rw [← h]
/-- A frame whose result is known and that waits alone leaves. -/
theorem State.missLeave_one {s : State} {m : Missed} (h : s.strm.wait = [m]) (hr : m.result.isSome = true) (err : MendErr) :
    s.missLeave err = s.noWait.missRelease m err := by
  have hready : missReady [m] [] = ([m], []) := by
    unfold missReady
    simp [hr, missReady]
  unfold State.missLeave
  rw [h, hready]
  rfl

/-- A frame released with an entry: the entry is in the slice, and the frame goes on as it says. -/
theorem State.missRelease_found {s : State} {m : Missed} {i e : Nat} (hrun : s.on .STRM_CTRL_RUN = true) (hr : m.result = some (some (i, e))) (err : MendErr) :
    ∃ u, s.SliceOnly u ∧ s.missRelease m err = u.matched m.a i e err := by
  unfold State.missRelease
  rw [hrun, hr]
  dsimp only
  rw [if_neg (by decide)]
  refine ⟨_, ?_, rfl⟩
  split
  · exact .refl s
  · exact State.sliceOnly_loadWay ..

theorem exec_missLookupComplete {s : State} (halive : s.alive = true) (err : Option (Fin 2)) (mend : MendErr) (lanes : LaneSent) :
    exec (.missLookupComplete err mend lanes) s = .next ((s.laneSent lanes).missDone (err.map Fin.val) mend).settle := by
  have hx : exec (.missLookupComplete err mend lanes) s = .next (if s.alive then (s.laneSent lanes).missDone (err.map Fin.val) mend else s).settle := rfl
  rw [hx, halive, if_pos rfl]

theorem portWord_ne_devWord {p w : Nat} (hp : p < 128) (hw : w < 128) (v : Nat) : devWord v ≠ portWord p w := by
  unfold portWord devWord
  omega

section
variable {s : State} (o : s.Overlock) (lanes : LaneSent) (halive : s.alive = true) {m : Missed} (hwait : s.strm.wait = [m]) (hgot : m.got = [])
include halive hwait hgot

/-- A lookup that ends with an entry: the frame is released with it. -/
theorem exec_missLookupComplete_found {i e : Nat} (hrun : s.on .STRM_CTRL_RUN = true) (hfailed : s.thim.dramFailed = false) (hin : ∀ k ∈ m.keys, s.keyBeyond k = false)
    (hfind : (m.keys.findSome? fun k => s.missFind k) = some (i, e)) (mend : MendErr) : ∃ u, State.Counts [devWord 0] s.noWait u ∧
    u.ctr (devWord 0) = ctrAdd (s.ctr (devWord 0)) 1 ∧ exec (.missLookupComplete none mend lanes) s = .next (u.matched m.a i e mend).settle := by
  have hkeys : m.keys ≠ [] := fun h => by rw [h] at hfind; cases hfind
  have hlane := State.Counts.laneSent s lanes
  have hcount := hlane.trans (.bump (s.laneSent lanes) (devWord 0) 1)
  have hstrm : ((s.laneSent lanes).bump (devWord 0)).strm = s.strm := State.bump_strm ..
  have hbumped : ((s.laneSent lanes).bump (devWord 0)).strm.wait = [m] := by rw [hstrm, hwait]
  have hmiss : ∀ k, ((s.laneSent lanes).bump (devWord 0)).missFind k = s.missFind k := hcount.missFind hstrm
  have hgood : (m.keys.find? fun k => ((s.laneSent lanes).bump (devWord 0)).thim.dramFailed || ((s.laneSent lanes).bump (devWord 0)).keyBeyond k) = none := by
    refine List.find?_eq_none.mpr fun k hk => ?_
    rw [hcount.keyBeyond, hcount.keeps State.thim fun _ => rfl, hfailed, hin k hk]
    decide
  have hsome : ((m.keys.map fun k => (k, s.missFind k)).all fun r => r.2.isNone) = false := by
    obtain ⟨k, hk, hke⟩ := List.exists_of_findSome?_eq_some hfind
    exact List.all_eq_false.mpr ⟨_, List.mem_map_of_mem hk, by simp [hke]⟩
  have hresult : (m.note (m.keys.map fun k => (k, s.missFind k))).result = some (some (i, e)) := by rw [Missed.result_note hgot, hfind]
  have hdone : (s.laneSent lanes).missDone none mend = ((s.laneSent lanes).bump (devWord 0)).noWait.missRelease (m.note (m.keys.map fun k => (k, s.missFind k))) mend := by
    obtain ⟨k, l, hk⟩ := List.exists_cons_of_ne_nil hkeys
    have hhead : (s.laneSent lanes).missHead = k :: l := (State.missHead_one (s := s.laneSent lanes) hwait hgot hkeys).trans hk
    unfold State.missDone
    rw [hhead]
    dsimp only
    rw [← hk, hgood]
    dsimp only [Option.or]
    simp only [hmiss, hsome, Bool.false_eq_true, if_false, hbumped, List.map_singleton]
    exact State.missLeave_one (s := { (s.laneSent lanes).bump (devWord 0) with
      strm := { ((s.laneSent lanes).bump (devWord 0)).strm with wait := [m.note (m.keys.map fun k => (k, s.missFind k))] } }) rfl (by rw [hresult]; rfl) mend
  have hnow := hcount.noWait
  obtain ⟨u, hu, hrel⟩ := State.missRelease_found (s := ((s.laneSent lanes).bump (devWord 0)).noWait) ((hnow.on _ (Fl.not_shared (by decide)) _ _).trans hrun) hresult mend
  refine ⟨u, hnow.trans hu.counts, ?_, ?_⟩
  · exact (hu.counts.ctr _ List.not_mem_nil).trans ((State.ctr_bump_same _ _ 1).trans (congrArg (ctrAdd · 1) (hlane.ctr _ List.not_mem_nil)))
  · rw [exec_missLookupComplete halive, Option.map_none, hdone, hrel]
    rfl

include o

theorem missLookupComplete_matched {p : Port} (hap : m.a.p = p.val) {i e : Nat} (hrun : s.on .STRM_CTRL_RUN = true) (hfailed : s.thim.dramFailed = false) (hin : ∀ k ∈ m.keys, s.keyBeyond k = false)
    (hfind : (m.keys.findSome? fun k => s.missFind k) = some (i, e)) (hhsr : s.hsrOwn p m.a.data = false) (hp : Plain e) (hdest : bits e 429 428 = 0) (hw : s.mend.waiting = []) {a : Acct}
    (hadm : s.admitTest (entQueue e) (cellsOf (m.a.data.length + 4)) (bits e 379 378) false = (.admitted, a)) (mend : MendErr) : ∃ (t : State) (fr : FrameRec),
    exec (.missLookupComplete none mend lanes) s = .next t ∧ t.strm.wait = [] ∧ (t.qu (entQueue e)).frames = (s.qu (entQueue e)).frames ++ [fr] ∧ fr.data = m.a.data ∧
      fr.stream = some i ∧ t.ctr (devWord 0) = ctrAdd (s.ctr (devWord 0)) 1 ∧ s.SameFlds t [] ∧ s.SameMem t := by
  obtain ⟨u, hu, hctr, hx⟩ := exec_missLookupComplete_found lanes halive hwait hgot hrun hfailed hin hfind mend
  rw [State.matched_plain hp i ((hu.on _ (Fl.not_shared (by decide)) _ _).trans hrun) (by rw [hu.mend]; exact hw) ((hu.hsrOwn ..).trans (hap ▸ hhsr)) hdest mend] at hx
  have htags := State.Counts.tagCounts u m.a.p m.a.data
  have hall := hu.trans htags
  have hadm' : s.noWait.admitTest (entQueue e) (m.a.matchedRec i e).cells (m.a.matchedRec i e).dp false = (.admitted, a) := hadm
  obtain ⟨hflds, hmem⟩ := hall.settled_admitCopy (s := s.noWait) o hadm'
  have hlt : m.a.p < 128 := hap ▸ p.isLt
  have hqueue : devWord 0 ≠ queueWord (entQueue e) 0 := by
    have := entQueue_lt e
    unfold devWord queueWord
    omega
  have hport : ∀ n < 8, devWord 0 ≠ portWord (qPort (entQueue e)) (64 + n) := fun n hn =>
    portWord_ne_devWord (by have := entQueue_lt e; unfold qPort; omega) (by omega) 0
  refine ⟨_, _, hx, ?_, hall.frames_admitCopy hadm', rfl, rfl, ?_, hflds, hmem⟩
  · rw [State.settle_strm, hall.admitCopy hadm', (State.Admits.enqueue ..).keeps State.strm fun _ => rfl]
    exact hall.keeps (fun a => a.strm.wait) fun _ => rfl
  · rw [State.ctr_settle, hall.admitCopy hadm', State.ctr_enqueue _ _ _ _ hqueue hport, htags.ctr _ (by simp [portWord_ne_devWord hlt]), hctr]

end

/-! ### A lookup that fails (R131) -/

/-- A Notice or Degraded record is counted in its mechanism's word alone (R474). -/
theorem State.ctr_fault (s : State) {sev : Nat} (hs : sev ≠ 3) (sm unit : Nat) {w : Nat} (hw : w ≠ faultWord sm sev) : (s.fault sev sm unit).ctr w = s.ctr w := by
  obtain ⟨d, n, v, he⟩ := s.fault_eq sev sm unit
  have hlog : ∀ (a : State) (r : FaultRec), (a.logRecord r).ctr w = a.ctr w := fun a r => by
    unfold State.logRecord State.logLost State.ctr
    dsimp only
    repeat' split
    · rfl
    · rw [State.event_tape, State.setFld_tape]
    · rw [State.event_tape, State.setFld_tape]
  have hend : ∀ (a : State) (x : Nat) (f : Fl) (b : Bool), (((a.setFld .THIM_STATUS_WORST 0 0 x).event f).beginHandling sev b).ctr w = a.ctr w := fun a x f b => by
    rw [State.ctr, State.beginHandling_tape, State.event_tape, State.setFld_tape]; rfl
  rw [he, State.record]
  simp only [hs, if_false]
  rw [hend, hlog, State.ctr_bump_ne _ hw]
  rfl

theorem State.Counts.dropDev (s : State) (fr : FrameRec) (step word : Nat) : State.Counts [devWord word] s (s.dropDev fr step word) := (State.Counts.bump s _ 1).trans (.dropIn ..)

/-- The state in which a failed lookup has been told (R131): `u` is that without the frames that wait on its key. -/
def State.missTold (u : State) : State := ((u.bump (devWord 2)).event .STRM_EVENT_DRAM_ERR).fault 2 11 noUnit

section
variable (u : State)

theorem State.missTold_strm : u.missTold.strm = u.strm := (State.fault_strm _ (by decide) ..).trans ((State.event_strm ..).trans (State.bump_strm ..))
theorem State.missTold_queue : u.missTold.queue = u.queue := (State.fault_queue _ (by decide) ..).trans ((State.event_queue ..).trans (State.bump_queue ..))
theorem State.missTold_dev : u.missTold.dev = u.dev := (State.fault_dev _ (by decide) ..).trans ((State.event_dev ..).trans (State.bump_dev ..))
theorem State.missTold_mem : u.SameMem u.missTold := by
  refine State.sameMem_of ((State.fault_localMem _ (by decide) ..).trans ((State.event_localMem ..).trans (State.bump_localMem ..)))
    ((State.fault_dram _ (by decide) ..).trans ((State.event_dram ..).trans (State.bump_dram ..))) (congrArg BootSt.nvm ?_)
  exact (State.fault_boot _ (by decide) ..).trans ((State.event_boot ..).trans (State.bump_boot ..))
theorem State.missTold_flds : u.SameFlds u.missTold ((.STRM_EVENT_DRAM_ERR, 0) :: faultFlds) :=
  State.SameFlds.fault (State.SameFlds.event ((State.SameFlds.refl u _).bump _ _) (.inl List.mem_cons_self)) (fun _ he => List.mem_cons_of_mem _ he) (by decide) 11 noUnit
theorem State.missTold_event : u.missTold.on .STRM_EVENT_DRAM_ERR = true := by
  have hev : u.missTold.fld .STRM_EVENT_DRAM_ERR = ((u.bump (devWord 2)).event .STRM_EVENT_DRAM_ERR).fld .STRM_EVENT_DRAM_ERR :=
    State.SameFlds.fault (.refl _ faultFlds) (fun _ he => he) (by decide) 11 noUnit _ 0 0 (by decide) (Fl.not_shared (by decide))
  rw [State.on, hev, State.fld_event_same _ _ _ (by decide) (by decide)]
  rfl
theorem State.ctr_missTold {w : Nat} (hw : w ≠ faultWord 11 2) : u.missTold.ctr w = (u.bump (devWord 2)).ctr w := by
  rw [State.missTold, State.ctr_fault _ (by decide) _ _ hw, State.ctr, State.event_tape]; rfl

end

/-- A lookup that fails discards the one frame that waits for it, counted. -/
theorem missLookupComplete_failed {s : State} (o : s.Overlock) (lanes : LaneSent) (halive : s.alive = true) {m : Missed} (hwait : s.strm.wait = [m]) (hgot : m.got = []) {j : Fin 2}
    {k : Nat × Nat} (hk : m.keys[j.val]? = some k) (mend : MendErr) : ∃ t, exec (.missLookupComplete (some j) mend lanes) s = .next t ∧ t.strm.wait = [] ∧ t.queue = s.queue ∧
      t.on .STRM_EVENT_DRAM_ERR = true ∧ t.ctr (devWord 2) = ctrAdd (s.ctr (devWord 2)) 1 ∧ t.ctr (devWord 3) = ctrAdd (s.ctr (devWord 3)) 1 ∧ t.dev = s.dev ∧
      s.SameFlds t ((.STRM_EVENT_DRAM_ERR, 0) :: faultFlds) ∧ s.SameMem t := by
  have hmem : k ∈ m.keys := List.mem_of_getElem? hk
  have hlane := State.Counts.laneSent s lanes
  have hcount := hlane.trans (.bump (s.laneSent lanes) (devWord 0) 1)
  have hnow := hcount.noWait
  have hbumped : ((s.laneSent lanes).bump (devWord 0)).strm.wait = [m] := (congrArg StrmSt.wait (State.bump_strm ..)).trans hwait
  have hdrop := State.Counts.dropDev ((s.laneSent lanes).bump (devWord 0)).noWait.missTold m.a.base 3 3
  have hdone : (s.laneSent lanes).missDone (some j.val) mend = ((s.laneSent lanes).bump (devWord 0)).noWait.missTold.dropDev m.a.base 3 3 := by
    obtain ⟨x, l, hxl⟩ := List.exists_cons_of_ne_nil (List.ne_nil_of_mem hmem)
    have hhead : (s.laneSent lanes).missHead = x :: l := (State.missHead_one (s := s.laneSent lanes) hwait hgot (List.ne_nil_of_mem hmem)).trans hxl
    have hmine : ([m].filter fun x => x.keys.contains k) = [m] := by simp [hmem]
    have hrest : ([m].filter fun x => !x.keys.contains k) = [] := by simp [hmem]
    unfold State.missDone
    rw [hhead]
    dsimp only
    rw [← hxl, hk]
    dsimp only [Option.or]
    rw [hbumped, hmine, hrest]
    refine State.missLeave_empty (s := ((s.laneSent lanes).bump (devWord 0)).noWait.missTold.dropDev m.a.base 3 3) ?_ mend
    rw [hdrop.keeps (fun a => a.strm.wait) fun _ => rfl, State.missTold_strm]
    rfl
  have hx := exec_missLookupComplete halive (some j) mend lanes
  rw [show (some j).map Fin.val = some j.val from rfl, hdone] at hx
  generalize ((s.laneSent lanes).bump (devWord 0)).noWait = u at hx hdrop hnow
  have hflds : s.SameFlds u.missTold ((.STRM_EVENT_DRAM_ERR, 0) :: faultFlds) := State.SameFlds.trans (hnow.flds.mono (by simp)) u.missTold_flds
  refine ⟨_, hx, ?_, ?_, ?_, ?_, ?_, ?_, State.SameFlds.settle_of (State.SameFlds.trans hflds (hdrop.flds.mono (by simp))) o ?_ (by decide),
    State.SameMem.settle ((State.SameMem.trans hnow.mem u.missTold_mem).trans hdrop.mem)⟩
  · rw [State.settle_strm]
    exact (hdrop.keeps (fun a => a.strm.wait) fun _ => rfl).trans ((congrArg StrmSt.wait u.missTold_strm).trans (hnow.keeps (fun a => a.strm.wait) fun _ => rfl))
  · exact (State.settle_queue _).trans (hdrop.queue.trans (u.missTold_queue.trans hnow.queue))
  · rw [State.on, State.fld_settle_of _ (by decide)]
    exact (hdrop.on .STRM_EVENT_DRAM_ERR (Fl.not_shared (by decide)) 0 0).trans u.missTold_event
  · rw [State.ctr_settle]
    refine (hdrop.ctr _ (by decide)).trans ((u.ctr_missTold (by decide)).trans ((u.ctr_bump_same _ 1).trans (congrArg (ctrAdd · 1) (hnow.ctr _ (by decide)))))
  · have hlast : (u.missTold.dropDev m.a.base 3 3).ctr (devWord 3) = ctrAdd (u.missTold.ctr (devWord 3)) 1 :=
      ((State.Counts.dropIn _ m.a.base 3 3 2).ctr _ List.not_mem_nil).trans (State.ctr_bump_same ..)
    rw [State.ctr_settle, hlast, u.ctr_missTold (by decide), u.ctr_bump_ne (by decide) 1]
    exact congrArg (ctrAdd · 1) (hnow.ctr _ (by decide))
  · exact (State.settle_dev _).trans (hdrop.dev.trans (u.missTold_dev.trans hnow.dev))
  · exact hdrop.dev.trans (u.missTold_dev.trans hnow.dev)

/-- Settles O31: a hit by what its entry says, and the one frame that waits by how its lookup ends. -/
theorem identifiedAndMissedFrames : Obligations.IdentifiedAndMissedFrames := by
  intro s p lanes rx o halive hmd hrun
  refine ⟨?_, ?_, ?_, ?_, ?_⟩
  · rintro d k i e a q hlink hmin hmax htype hsvc hkeys hf hfill hhsr h501 h502 h503 h504 h506 hdest hw rfl hadm
    exact frameReceived_matched o rx halive hmd hrun hlink hmin hmax htype hsvc hkeys hf hfill hhsr ⟨h501, h502, h503, h504, h506⟩ hdest hw hadm .none
  · exact fun d k i e hlink hmin hmax htype hsvc hkeys hf hfill hgate hsdu hover hclosed =>
      frameReceived_gateClosed o rx halive hmd hrun hlink hmin hmax htype hsvc hkeys hf hfill hgate hsdu hover hclosed .none
  · rintro m i e a q hwait hgot hap hfailed hin hfind hhsr h501 h502 h503 h504 h506 hdest hw rfl hadm
    exact missLookupComplete_matched o lanes halive hwait hgot hap hrun hfailed hin hfind hhsr ⟨h501, h502, h503, h504, h506⟩ hdest hw hadm .none
  · exact fun m j k hwait hgot hk => missLookupComplete_failed o lanes halive hwait hgot hk .none
  · exact fun d k i e hlink hmin hmax htype hsvc hkeys hf hfill hroom => frameReceived_waits o rx halive hmd hrun hlink hmin hmax htype hsvc hkeys hf hfill hroom .none

end Sys2Proof.Machine
end

section
/-!
PROOFS. The numbers that a recovery function passes (R148, R152, R153).
-/
namespace Sys2Proof.Machine

theorem seqDiff_self {n : Nat} (h : n < 2 ^ 16) : seqDiff n n = 0 := by
  unfold seqDiff
  rw [Nat.mod_eq_of_lt h, Nat.add_sub_cancel_left]
  rfl

section
variable {x : Rcv} {n : Nat}

/-- The match algorithm refuses the number that it holds. -/
theorem Rcv.matching_recov (h : x.takeAny = false) (hn : n = x.recov) : x.matching n = (.duplicate, x) := by
  unfold Rcv.matching
  rw [h, if_neg (by decide), if_pos hn]

/-- The vector algorithm refuses a number within its history whose bit is set. -/
theorem Rcv.vector_seen (h : x.takeAny = false) (hlow : -(x.histLen : Int) < seqDiff n x.recov) (hhigh : seqDiff n x.recov ≤ 0)
    (hbit : x.hist.testBit (seqDiff n x.recov).natAbs = true) : x.vector n = (.duplicate, x) := by
  unfold Rcv.vector
  dsimp only
  rw [h, if_neg (by decide), if_neg (by omega), if_pos hhigh, if_pos hbit]

theorem Rcv.histLen_pos (x : Rcv) : 0 < x.histLen := Nat.succ_pos _

/-- The vector algorithm refuses the newest number. -/
theorem Rcv.vector_recov (h : x.takeAny = false) (hn : n < 2 ^ 16) (hr : n = x.recov) (hbit : x.hist.testBit 0 = true) : x.vector n = (.duplicate, x) := by
  have hd : seqDiff n x.recov = 0 := by rw [← hr, seqDiff_self hn]
  have := x.histLen_pos
  exact Rcv.vector_seen h (by omega) hd.le (by rw [hd]; exact hbit)

variable {y : Rcv} {lost : Nat} {ooo : Bool}

/-- A number that the match algorithm has passed is the one that it holds. -/
theorem Rcv.matching_pass (h : x.matching n = (.pass lost ooo, y)) : y.takeAny = false ∧ n = y.recov ∧ y.matchAlg = x.matchAlg := by
  unfold Rcv.matching at h
  split at h
  · cases h; exact ⟨rfl, rfl, rfl⟩
  · split at h
    · cases h
    · cases h; exact ⟨Bool.not_eq_true _ ▸ ‹_›, rfl, rfl⟩

/-- A number that the vector algorithm has passed is the newest, or an older one of the history; its bit is set. -/
theorem Rcv.vector_pass (hn : n < 2 ^ 16) (h : x.vector n = (.pass lost ooo, y)) : y.matchAlg = x.matchAlg ∧ y.vector n = (.duplicate, y) := by
  unfold Rcv.vector at h
  dsimp only at h
  split at h
  · cases h
    exact ⟨rfl, Rcv.vector_recov rfl hn rfl (by simp [Rcv.histLen])⟩
  next hany =>
    have hany : x.takeAny = false := Bool.not_eq_true _ ▸ hany
    split at h
    · cases h
    next hrange =>
      split at h
      next hold =>
        split at h
        · cases h
        · cases h
          refine ⟨rfl, Rcv.vector_seen hany ?_ hold (testBit_setBit_same ..)⟩
          exact lt_of_not_ge fun hle => hrange (.inr hle)
      · cases h
        exact ⟨rfl, Rcv.vector_recov hany hn rfl (by simp)⟩

end

/-- Settles O33: each algorithm passes a number by setting the state that refuses it. -/
theorem noNumberPassesTwice : Obligations.NoNumberPassesTwice := by
  intro x n lost ooo y hn _ h
  unfold Rcv.judge at h ⊢
  split at h
  next hm =>
    obtain ⟨hany, hrecov, halg⟩ := Rcv.matching_pass h
    rw [halg, if_pos hm, Rcv.matching_recov hany hrecov]
  next hm =>
    obtain ⟨halg, hdup⟩ := Rcv.vector_pass hn h
    rw [halg, if_neg hm, hdup]

end Sys2Proof.Machine
end

section
/-!
PROOFS. What the state of the Mender is read from: its tables, L time, the window of its table engine (R151, R160, R179).
-/
namespace Sys2Proof.Machine

/-! ## Functions and generators -/

section
variable (s : State) (i : Nat)

@[simp] theorem State.rcv_setRcv_same (x : Rcv) : (s.setRcv i x).rcv i = x := Tbl.get_set_same ({} : Rcv) s.mend.rcv i x
theorem State.rcv_setRcv_ne {k : Nat} (h : k ≠ i) (x : Rcv) : (s.setRcv i x).rcv k = s.rcv k := Tbl.get_set_ne ({} : Rcv) s.mend.rcv h x
@[simp] theorem State.gen_setGen_same (x : Gen) : (s.setGen i x).gen i = x := Tbl.get_set_same ({} : Gen) s.mend.gen i x
theorem State.gen_setGen_ne {k : Nat} (h : k ≠ i) (x : Gen) : (s.setGen i x).gen k = s.gen k := Tbl.get_set_ne ({} : Gen) s.mend.gen h x

@[simp] theorem State.rcv_settle : s.settle.rcv i = s.rcv i := by unfold State.rcv; rw [State.settle_mend]
@[simp] theorem State.gen_settle : s.settle.gen i = s.gen i := by unfold State.gen; rw [State.settle_mend]

/-- The end of a command leaves alone what of the pair is no Overlock output. -/
theorem State.settle_pair_keeps {β : Type} (g : PairSt → β) (h : ∀ x fs beat, g { x with fsDrive := fs, beatLevel := beat } = g x) : g s.settle.pair = g s.pair := by
  unfold State.settle
  dsimp only
  split <;> split <;> exact h ..

@[simp] theorem State.isStale_settle (kind : Nat) : s.settle.isStale kind i = s.isStale kind i := by
  unfold State.isStale
  rw [s.settle_pair_keeps PairSt.stale fun _ _ _ => rfl]

theorem State.isStale_unstale_same (kind : Nat) : (s.unstale kind i).isStale kind i = false := by
  unfold State.isStale State.unstale
  simp

end

/-! ## Changes of the Mender's own state -/

/-- Two states that differ at most in the tables of the Mender, its log and its mirroring. -/
def State.MendOnly (s t : State) : Prop := ∃ m p, t = { s with mend := m, pair := p }

theorem State.MendOnly.trans {s t u : State} (h : s.MendOnly t) (h' : t.MendOnly u) : s.MendOnly u := by
  obtain ⟨_, _, rfl⟩ := h; obtain ⟨_, _, rfl⟩ := h'; exact ⟨_, _, rfl⟩

section
variable {s t : State} (h : s.MendOnly t)
include h

theorem State.MendOnly.regs : t.regs = s.regs := by obtain ⟨_, _, rfl⟩ := h; rfl
theorem State.MendOnly.dev : t.dev = s.dev := by obtain ⟨_, _, rfl⟩ := h; rfl
theorem State.MendOnly.time : t.time = s.time := by obtain ⟨_, _, rfl⟩ := h; rfl
theorem State.MendOnly.mem : s.SameMem t := by obtain ⟨_, _, rfl⟩ := h; exact State.sameMem_of rfl rfl rfl

end

section
variable (s : State) (i : Nat)

theorem State.mendOnly_setRcv (x : Rcv) : s.MendOnly (s.setRcv i x) := ⟨_, _, rfl⟩
theorem State.mendOnly_setGen (x : Gen) : s.MendOnly (s.setGen i x) := ⟨_, _, rfl⟩
theorem State.mendOnly_unstale (kind : Nat) : s.MendOnly (s.unstale kind i) := ⟨_, _, rfl⟩
theorem State.mendOnly_mTblEnd (code : Nat) : s.MendOnly (s.mTblEnd code) := ⟨_, _, rfl⟩
theorem State.mendOnly_rcvReset (cfg : Nat) : s.MendOnly (s.rcvReset i cfg) := (s.mendOnly_setRcv i _).trans (State.mendOnly_unstale _ i 0)

theorem State.gens_rcvReset (cfg : Nat) : (s.rcvReset i cfg).mend.gen = s.mend.gen := rfl
theorem State.rcvs_setGen (x : Gen) : (s.setGen i x).mend.rcv = s.mend.rcv := rfl
theorem State.mend_mTblEnd (code : Nat) : (s.mTblEnd code).mend = { s.mend with tblCode := code } := rfl

end

/-! ## L time -/

/-- L time stands still where neither its counters nor the exclusions of the vote move (R44, R45). -/
theorem State.SameFlds.lNow {s t : State} {l : List (Fl × Nat)} (h : s.SameFlds t l) (ht : t.time = s.time) (hl : (.TPL_VOTE_STATUS_EXCL, 0) ∉ l) : t.lNow = s.lNow :=
  State.voted_congr (fun c _ => State.cnt_of_time ht 8 c) (h _ 0 0 hl (Fl.not_shared (by decide)))
theorem State.lUs_of_lNow {s t : State} (h : t.lNow = s.lNow) : t.lUs = s.lUs := congrArg (· / (1000 * nsT)) h
theorem State.lMs_of_lNow {s t : State} (h : t.lNow = s.lNow) : t.lMs = s.lMs := congrArg (· / 1000) (State.lUs_of_lNow h)

/-- The record of a function reads the function, its STALE and L time (Table 05-1). -/
theorem State.rcvRecord_congr {s t : State} {i : Nat} (hr : t.rcv i = s.rcv i) (hs : t.isStale 0 i = s.isStale 0 i) (hn : t.lNow = s.lNow) : t.rcvRecord i = s.rcvRecord i := by
  unfold State.rcvRecord State.latT State.latR
  rw [hr, hs, State.lMs_of_lNow hn]

/-! ## A window of words -/

/-- The first `n` words of a window of 64-bit fields given those of a record. -/
def State.windowSet (s : State) (f : Fl) (v n : Nat) : State := (List.range n).foldl (fun a i => a.setFld f i 0 (v / 2 ^ (64 * i))) s

section
variable (s : State) (f : Fl) (v n : Nat)

theorem State.windowSet_succ : s.windowSet f v (n + 1) = (s.windowSet f v n).setFld f n 0 (v / 2 ^ (64 * n)) := by
  unfold State.windowSet; rw [List.range_succ, List.foldl_append]; rfl

theorem State.windowSet_eq : ∃ l, s.windowSet f v n = { s with regs := l } := by
  induction n with
  | zero => exact ⟨s.regs, rfl⟩
  | succ n ih =>
    obtain ⟨l, h⟩ := ih
    rw [State.windowSet_succ, h]
    exact ⟨_, rfl⟩

theorem State.fld_windowSet {i : Nat} (h : i < n) : (s.windowSet f v n).fld f i = v / 2 ^ (64 * i) % 2 ^ f.info.width := by
  induction n with
  | zero => omega
  | succ n ih =>
    rw [State.windowSet_succ]
    by_cases e : i = n
    · subst e; exact State.fld_setFld_same ..
    · rw [State.fld_setFld_inst _ _ _ e]; exact ih (by omega)

variable {s}

theorem State.SameFlds.windowSet {u : State} {l : List (Fl × Nat)} (h : s.SameFlds u l) (m : ∀ i < n, (f, i) ∈ l) : s.SameFlds (u.windowSet f v n) l := by
  induction n with
  | zero => exact h
  | succ n ih =>
    rw [State.windowSet_succ]
    exact (ih fun i hi => m i (by omega)).setFld (m n (by omega)) _ _

end

theorem State.setMTblData_eq (s : State) (v : Nat) : s.setMTblData v = s.windowSet .MEND_TBL_DATA_DATA v 8 := rfl

theorem State.SameFlds.setMTblData {s u : State} {l : List (Fl × Nat)} (h : s.SameFlds u l) (m : ∀ e ∈ mTblDataFlds, e ∈ l) (v : Nat) : s.SameFlds (u.setMTblData v) l :=
  h.windowSet _ v 8 fun i hi => m _ (List.mem_map.mpr ⟨i, List.mem_range.mpr hi, rfl⟩)

theorem State.mTblData_congr {s t : State} (h : ∀ i, t.fld .MEND_TBL_DATA_DATA i = s.fld .MEND_TBL_DATA_DATA i) : t.mTblData = s.mTblData := by
  unfold State.mTblData; simp only [h]

/-- The window shows the low 512 bits of the record it is given. -/
theorem State.mTblData_setMTblData (s : State) (v : Nat) : (s.setMTblData v).mTblData = v % 2 ^ 512 := by
  rw [← sum_words_of v 8, State.mTblData, State.setMTblData_eq]
  refine congrArg List.sum (List.map_congr_left fun i hi => ?_)
  rw [s.fld_windowSet _ v 8 (List.mem_range.mp hi)]
  rfl

@[simp] theorem State.mTblData_settle (s : State) : s.settle.mTblData = s.mTblData := State.mTblData_congr fun i => s.fld_settle_of (by decide) i 0

end Sys2Proof.Machine
end

section
/-!
PROOFS. Operations on the Mender's tables and the log of latent errors (R151, R158, R160, R179, R557).
-/
namespace Sys2Proof.Machine

/-! ## The start of an operation (R179) -/

/-- The command's fields written, and BUSY. -/
def State.mTblStart (s : State) (table op idx : Nat) : State :=
  s.setFlds 0 0 [(.MEND_TBL_CMD_TABLE, table), (.MEND_TBL_CMD_OP, op), (.MEND_TBL_CMD_INDEX, idx), (.MEND_TBL_STATUS_BUSY, 1)]

/-- The state in which an operation acts. -/
def State.mTblReady (s : State) (table op idx : Nat) : State := (s.mTblStart table op idx).mTblEnd 0

/-- The operations of Table 05-6. -/
def mTblDefined (table op : Nat) : Bool := decide (table < 2) && decide (op < 3) && !(op == 2 && table == 1)

section
variable {s : State} {table op idx : Nat} {k : State → State}

theorem State.mTblGo_busy (h : s.on .MEND_TBL_STATUS_BUSY = true) : s.mTblGo table op idx k = s.event .MEND_EVENT_TBL_COLLIDE := if_pos h

theorem State.mTblGo_of (h : s.on .MEND_TBL_STATUS_BUSY = false) (hd : mTblDefined table op = true) : s.mTblGo table op idx k = k (s.mTblReady table op idx) := by
  simp only [mTblDefined, Bool.and_eq_true, decide_eq_true_eq, Bool.not_eq_true', Bool.and_eq_false_iff, beq_eq_false_iff_ne] at hd
  unfold State.mTblGo
  rw [h, if_neg Bool.false_ne_true]
  exact if_neg (by omega)

theorem State.mTblGo_undefined (h : s.on .MEND_TBL_STATUS_BUSY = false) (hd : mTblDefined table op = false) : s.mTblGo table op idx k = (s.mTblStart table op idx).mTblEnd 7 := by
  simp only [mTblDefined, Bool.and_eq_false_iff, decide_eq_false_iff_not, Bool.not_eq_false', Bool.and_eq_true, beq_iff_eq] at hd
  unfold State.mTblGo
  rw [h, if_neg Bool.false_ne_true]
  exact if_pos (by omega)

end

section
variable (s : State) (table op idx : Nat)

theorem State.mend_mTblReady : (s.mTblReady table op idx).mend = { s.mend with tblCode := 0 } := rfl
theorem State.sameFlds_mTblStart : s.SameFlds (s.mTblStart table op idx) mTblCmdFlds := (State.SameFlds.refl s _).setFlds 0 0 _ (by simp)
theorem State.sameFlds_mTblReady : s.SameFlds (s.mTblReady table op idx) mTblCmdFlds := State.SameFlds.regs (s.sameFlds_mTblStart table op idx) rfl
theorem State.mTblReady_mTblData : (s.mTblReady table op idx).mTblData = s.mTblData :=
  State.mTblData_congr fun i => s.sameFlds_mTblReady table op idx _ i 0 (by simp) (Fl.not_shared (by decide))
theorem State.mTblReady_rcvRecord (i : Nat) : (s.mTblReady table op idx).rcvRecord i = s.rcvRecord i :=
  State.rcvRecord_congr rfl rfl ((s.sameFlds_mTblReady table op idx).lNow rfl (by decide))

end

/-- What an operation that keeps to the Mender's own state leaves alone. -/
theorem State.MendOnly.settled_mTblStart {s u : State} {table op idx : Nat} (h : (s.mTblStart table op idx).MendOnly u) (o : s.Overlock) :
    s.SameFlds u.settle mTblCmdFlds ∧ s.SameMem u.settle :=
  ⟨State.SameFlds.settle_of ((s.sameFlds_mTblStart table op idx).regs h.regs) o h.dev (by simp), State.SameMem.settle h.mem⟩

theorem State.MendOnly.settled_mTblReady {s u : State} {table op idx : Nat} (h : (s.mTblReady table op idx).MendOnly u) (o : s.Overlock) :
    s.SameFlds u.settle mTblCmdFlds ∧ s.SameMem u.settle := ((s.mTblStart table op idx).mendOnly_mTblEnd 0 |>.trans h).settled_mTblStart o

/-! ## What the operations do (R151, R158, R160) -/

section
variable (s : State) (i : Nat)

theorem State.rcv_rcvReset (cfg : Nat) : (s.rcvReset i cfg).rcv i =
    { cfg := cfg, takeAny := true, recov := (s.rcv i).recov, lastPass := s.lUs % 2 ^ 32, latT0 := s.lMs, latR0 := s.lMs } := s.rcv_setRcv_same i _
theorem State.rcv_rcvReset_ne {k : Nat} (h : k ≠ i) (cfg : Nat) : (s.rcvReset i cfg).rcv k = s.rcv k := s.rcv_setRcv_ne i h _
theorem State.rcv_mTblEnd (code : Nat) : (s.mTblEnd code).rcv i = s.rcv i := rfl
theorem State.gen_mTblEnd (code : Nat) : (s.mTblEnd code).gen i = s.gen i := rfl
theorem State.rcv_mTblReady (table op idx : Nat) : (s.mTblReady table op idx).rcv i = s.rcv i := rfl
theorem State.gen_mTblReady (table op idx : Nat) : (s.mTblReady table op idx).gen i = s.gen i := rfl
theorem State.isStale_rcvReset (cfg : Nat) : (s.rcvReset i cfg).isStale 0 i = false := State.isStale_unstale_same _ i 0

variable {s}

theorem State.mTblRead_function (s : State) : s.mTblRead 0 i = s.setMTblData (s.rcvRecord i) := by
  unfold State.mTblRead
  rw [if_pos rfl]
theorem State.mTblWrite_function (h : rcvBad (bits s.mTblData 511 436) = false) : s.mTblWrite 0 i = (s.rcvReset i (bits s.mTblData 511 436)).mTblEnd 0 := by
  unfold State.mTblWrite
  simp only [if_pos, h, Bool.false_eq_true, if_false]
theorem State.mTblWrite_refused (h : rcvBad (bits s.mTblData 511 436) = true) : s.mTblWrite 0 i = s.mTblEnd 7 := by
  unfold State.mTblWrite
  simp only [if_pos, h]
theorem State.mTblWrite_generator (h : bits s.mTblData 126 125 ≠ 3) :
    s.mTblWrite 1 i = (s.setGen i { word := bits s.mTblData 127 106 * 2 ^ 106 + s.mTblData % 2 ^ 48 }).mTblEnd 0 := by
  unfold State.mTblWrite
  dsimp only
  rw [if_neg (by decide), if_neg h]

end

/-! ## Commands that are carried out -/

section
variable {s : State} {r : Req} (hg : s.Grants r true .MEND_TBL_CMD 0 0) {tb : Fin 8} {n : Nat} (hn : tb.val = n) (i : BitVec 18)
include hg hn

theorem exec_mendTblRead : exec (.mendTblRead r tb i) s = .next (s.mTblGo n 0 i.toNat fun a => a.mTblRead n i.toNat).settle := by
  subst hn; rw [← State.writing_of hg fun a => a.mTblGo tb 0 i.toNat fun a => a.mTblRead tb i.toNat]; rfl
theorem exec_mendTblWrite : exec (.mendTblWrite r tb i) s = .next (s.mTblGo n 1 i.toNat fun a => a.mTblWrite n i.toNat).settle := by
  subst hn; rw [← State.writing_of hg fun a => a.mTblGo tb 1 i.toNat fun a => a.mTblWrite tb i.toNat]; rfl
theorem exec_mendTblReset : exec (.mendTblReset r tb i) s = .next (s.mTblGo n 2 i.toNat fun a => a.rcvReset i.toNat (a.rcv i.toNat).cfg).settle := by
  subst hn; rw [← State.writing_of hg fun a => a.mTblGo tb 2 i.toNat fun a => a.rcvReset i.toNat (a.rcv i.toNat).cfg]; rfl

end

theorem exec_mendTblComplete {s : State} (hd : s.dev ≠ .off) : exec .mendTblComplete s = .next s.mTblDone.settle := by rw [← State.powered_of hd State.mTblDone]; rfl
theorem exec_latLogRead {s : State} {r : Req} (hg : s.Grants r false .MEND_LAT_LOG 0 0) : exec (.latLogRead r) s = .next (s.latLogRead.2.emit (.reply r.num s.latLogRead.1)).settle := by
  rw [← State.reading_of hg fun a => a.latLogRead.2.emit (.reply r.num a.latLogRead.1)]; rfl

section
variable {s : State} {r : Req} (o : s.Overlock) (hg : s.Grants r true .MEND_TBL_CMD 0 0) {i : BitVec 18}
include o hg

/-- A command during another one (R179). -/
theorem mendTblRead_collides (hb : s.on .MEND_TBL_STATUS_BUSY = true) (tb : Fin 8) : ∃ t, exec (.mendTblRead r tb i) s = .next t ∧ t.on .MEND_EVENT_TBL_COLLIDE = true ∧
    t.mend = s.mend ∧ s.SameFlds t [(.MEND_EVENT_TBL_COLLIDE, 0)] ∧ s.SameMem t := by
  refine ⟨_, by rw [exec_mendTblRead hg rfl, State.mTblGo_busy hb], ?_, ?_, State.SameFlds.settle_of ((State.SameFlds.refl s _).event (.inl List.mem_cons_self)) o (s.event_dev ..) (by simp),
    State.SameMem.settle (State.sameMem_of (s.event_localMem ..) (s.event_dram ..) (congrArg BootSt.nvm (s.event_boot ..)))⟩
  · rw [State.on, State.fld_settle_of _ (by decide), State.fld_event_same _ _ _ (by decide) (by decide)]; rfl
  · rw [State.settle_mend, State.event_mend]

variable (hb : s.on .MEND_TBL_STATUS_BUSY = false)
include hb

theorem mendTblRead_shows : ∃ t, exec (.mendTblRead r 0 i) s = .next t ∧ t.mTblData = s.rcvRecord i.toNat % 2 ^ 512 ∧ t.mend = { s.mend with tblCode := 0 } ∧
    s.SameFlds t (mTblCmdFlds ++ mTblDataFlds) ∧ s.SameMem t := by
  have hx : exec (.mendTblRead r 0 i) s = .next ((s.mTblReady 0 0 i.toNat).setMTblData (s.rcvRecord i.toNat)).settle := by
    rw [exec_mendTblRead hg (n := 0) rfl, State.mTblGo_of hb (by decide), State.mTblRead_function, State.mTblReady_rcvRecord]
  generalize s.rcvRecord i.toNat = v at hx ⊢
  have hflds := (s.sameFlds_mTblReady 0 0 i.toNat).mono (l' := mTblCmdFlds ++ mTblDataFlds) fun _ he => List.mem_append_left _ he
  obtain ⟨l, hl⟩ := (s.mTblReady 0 0 i.toNat).windowSet_eq .MEND_TBL_DATA_DATA v 8
  refine ⟨_, hx, ?_, ?_, State.SameFlds.settle_of (hflds.setMTblData (fun _ he => List.mem_append_right _ he) _) o ?_ (by decide), State.SameMem.settle ?_⟩
  · rw [State.mTblData_settle, State.mTblData_setMTblData]
  · rw [State.settle_mend, State.setMTblData_eq, hl]; rfl
  · rw [State.setMTblData_eq, hl]; rfl
  · rw [State.setMTblData_eq, hl]; exact State.sameMem_of rfl rfl rfl

theorem mendTblWrite_function (hok : rcvBad (bits s.mTblData 511 436) = false) : ∃ t, exec (.mendTblWrite r 0 i) s = .next t ∧
    (t.rcv i.toNat).cfg = bits s.mTblData 511 436 ∧ (t.rcv i.toNat).takeAny = true ∧ (t.rcv i.toNat).hist = 0 ∧ (t.rcv i.toNat).latPass = 0 ∧ (t.rcv i.toNat).latDisc = 0 ∧
    t.isStale 0 i.toNat = false ∧ (∀ k, k ≠ i.toNat → t.rcv k = s.rcv k) ∧ t.mend.gen = s.mend.gen ∧ t.mend.tblCode = 0 ∧ s.SameFlds t mTblCmdFlds ∧ s.SameMem t := by
  have hx : exec (.mendTblWrite r 0 i) s = .next (((s.mTblReady 0 1 i.toNat).rcvReset i.toNat (bits s.mTblData 511 436)).mTblEnd 0).settle := by
    have hdata := s.mTblReady_mTblData 0 1 i.toNat
    rw [exec_mendTblWrite hg (n := 0) rfl, State.mTblGo_of hb (by decide), State.mTblWrite_function _ (by rw [hdata]; exact hok), hdata]
  generalize bits s.mTblData 511 436 = cfg at hx ⊢
  have hrcv := (State.rcv_settle _ i.toNat).trans ((State.rcv_mTblEnd _ i.toNat 0).trans ((s.mTblReady 0 1 i.toNat).rcv_rcvReset i.toNat cfg))
  obtain ⟨hflds, hmem⟩ := (((s.mTblReady 0 1 i.toNat).mendOnly_rcvReset i.toNat cfg).trans (State.mendOnly_mTblEnd _ 0)).settled_mTblReady o
  refine ⟨_, hx, by rw [hrcv], by rw [hrcv], by rw [hrcv], by rw [hrcv], by rw [hrcv], ?_, fun k hk => ?_, ?_, ?_, hflds, hmem⟩
  · rw [State.isStale_settle]; exact State.isStale_rcvReset ..
  · rw [State.rcv_settle, State.rcv_mTblEnd, State.rcv_rcvReset_ne _ _ hk, State.rcv_mTblReady]
  · rw [State.settle_mend, State.mend_mTblEnd, State.gens_rcvReset, State.mend_mTblReady]
  · rw [State.settle_mend, State.mend_mTblEnd]

theorem mendTblWrite_refused (hbad : rcvBad (bits s.mTblData 511 436) = true) : ∃ t, exec (.mendTblWrite r 0 i) s = .next t ∧
    t.mend = { s.mend with tblCode := 7 } ∧ s.SameFlds t mTblCmdFlds ∧ s.SameMem t := by
  have hx : exec (.mendTblWrite r 0 i) s = .next ((s.mTblReady 0 1 i.toNat).mTblEnd 7).settle := by
    rw [exec_mendTblWrite hg (n := 0) rfl, State.mTblGo_of hb (by decide), State.mTblWrite_refused _ (by rw [s.mTblReady_mTblData]; exact hbad)]
  exact ⟨_, hx, by rw [State.settle_mend]; rfl, (State.mendOnly_mTblEnd _ 7).settled_mTblReady o⟩

theorem mendTblWrite_generator (hmode : bits s.mTblData 126 125 ≠ 3) : ∃ t, exec (.mendTblWrite r 1 i) s = .next t ∧
    (t.gen i.toNat).word = bits s.mTblData 127 106 * 2 ^ 106 + s.mTblData % 2 ^ 48 ∧ (∀ k, k ≠ i.toNat → t.gen k = s.gen k) ∧ t.mend.rcv = s.mend.rcv ∧ t.mend.tblCode = 0 ∧
    s.SameFlds t mTblCmdFlds ∧ s.SameMem t := by
  have hx : exec (.mendTblWrite r 1 i) s =
      .next (((s.mTblReady 1 1 i.toNat).setGen i.toNat { word := bits s.mTblData 127 106 * 2 ^ 106 + s.mTblData % 2 ^ 48 }).mTblEnd 0).settle := by
    have hdata := s.mTblReady_mTblData 1 1 i.toNat
    rw [exec_mendTblWrite hg (n := 1) rfl, State.mTblGo_of hb (by decide), State.mTblWrite_generator _ (by rw [hdata]; exact hmode), hdata]
  generalize bits s.mTblData 127 106 * 2 ^ 106 + s.mTblData % 2 ^ 48 = w at hx ⊢
  refine ⟨_, hx, ?_, fun k hk => ?_, ?_, ?_, ((State.mendOnly_setGen _ i.toNat _).trans (State.mendOnly_mTblEnd _ 0)).settled_mTblReady o⟩
  · rw [State.gen_settle, State.gen_mTblEnd, State.gen_setGen_same]
  · rw [State.gen_settle, State.gen_mTblEnd, State.gen_setGen_ne _ _ hk, State.gen_mTblReady]
  · rw [State.settle_mend, State.mend_mTblEnd, State.rcvs_setGen, State.mend_mTblReady]
  · rw [State.settle_mend, State.mend_mTblEnd]

theorem mendTblReset_function : ∃ t, exec (.mendTblReset r 0 i) s = .next t ∧ (t.rcv i.toNat).cfg = (s.rcv i.toNat).cfg ∧ (t.rcv i.toNat).takeAny = true ∧
    (t.rcv i.toNat).hist = 0 ∧ (∀ k, k ≠ i.toNat → t.rcv k = s.rcv k) ∧ s.SameFlds t mTblCmdFlds ∧ s.SameMem t := by
  have hx : exec (.mendTblReset r 0 i) s = .next ((s.mTblReady 0 2 i.toNat).rcvReset i.toNat (s.rcv i.toNat).cfg).settle := by
    rw [exec_mendTblReset hg (n := 0) rfl, State.mTblGo_of hb (by decide)]; rfl
  have hrcv : ((s.mTblReady 0 2 i.toNat).rcvReset i.toNat (s.rcv i.toNat).cfg).settle.rcv i.toNat = _ := (State.rcv_settle ..).trans (State.rcv_rcvReset ..)
  refine ⟨_, hx, by rw [hrcv], by rw [hrcv], by rw [hrcv], fun k hk => ?_, (State.mendOnly_rcvReset _ i.toNat _).settled_mTblReady o⟩
  rw [State.rcv_settle, State.rcv_rcvReset_ne _ _ hk, State.rcv_mTblReady]

/-- A generator has no RESET (Table 05-6). -/
theorem mendTblReset_generator : ∃ t, exec (.mendTblReset r 1 i) s = .next t ∧ t.mend = { s.mend with tblCode := 7 } ∧ s.SameFlds t mTblCmdFlds ∧ s.SameMem t := by
  have hx : exec (.mendTblReset r 1 i) s = .next ((s.mTblStart 1 2 i.toNat).mTblEnd 7).settle := by rw [exec_mendTblReset hg (n := 1) rfl, State.mTblGo_undefined hb (by decide)]
  exact ⟨_, hx, by rw [State.settle_mend]; rfl, (State.mendOnly_mTblEnd _ 7).settled_mTblStart o⟩

end

/-- The end of an operation (R179). -/
theorem mendTblComplete_shows {s : State} (o : s.Overlock) (hd : s.dev ≠ .off) (hb : s.on .MEND_TBL_STATUS_BUSY = true) : ∃ t, exec .mendTblComplete s = .next t ∧
    t.on .MEND_TBL_STATUS_BUSY = false ∧ t.fld .MEND_TBL_STATUS_CODE = s.mend.tblCode % 16 ∧ t.on .MEND_EVENT_TBL_DONE = true ∧
    s.SameFlds t [(.MEND_TBL_STATUS_BUSY, 0), (.MEND_TBL_STATUS_CODE, 0), (.MEND_EVENT_TBL_DONE, 0)] ∧ s.SameMem t := by
  have hdone : s.mTblDone = (s.setFlds 0 0 [(.MEND_TBL_STATUS_BUSY, 0), (.MEND_TBL_STATUS_CODE, s.mend.tblCode)]).event .MEND_EVENT_TBL_DONE := if_pos hb
  have hfld : ∀ {f : Fl} {v : Nat}, (f, v) ∈ [(Fl.MEND_TBL_STATUS_BUSY, 0), (.MEND_TBL_STATUS_CODE, s.mend.tblCode)] → s.mTblDone.settle.fld f = v % 2 ^ f.info.width := by
    intro f v hm
    have hf : f = .MEND_TBL_STATUS_BUSY ∨ f = .MEND_TBL_STATUS_CODE := by
      simp only [List.mem_cons, Prod.mk.injEq, List.not_mem_nil, or_false] at hm
      exact hm.imp And.left And.left
    rw [hdone, State.fld_settle_of _ (by rcases hf with rfl | rfl <;> decide), State.fld_event _ _ _ _ _ (by rcases hf with rfl | rfl <;> decide)
      (by rcases hf with rfl | rfl <;> decide) (by rcases hf with rfl | rfl <;> decide), s.fld_setFlds_mem 0 0 (by simp) hm]
  refine ⟨_, exec_mendTblComplete hd, ?_, ?_, ?_, ?_, ?_⟩
  · rw [State.on, hfld (.head _)]; rfl
  · exact hfld (.tail _ (.head _))
  · rw [State.on, State.fld_settle_of _ (by decide), hdone, State.fld_event_same _ _ _ (by decide) (by decide)]; rfl
  · rw [hdone]
    exact State.SameFlds.settle_of (((State.SameFlds.refl s _).setFlds 0 0 _ (by simp)).event (by simp)) o ((State.event_dev ..).trans (s.setFlds_dev ..)) (by simp)
  · rw [hdone]
    exact State.SameMem.settle (State.sameMem_of (State.event_localMem ..) (State.event_dram ..) (congrArg BootSt.nvm (State.event_boot ..)))

/-- A read of LAT_LOG (Table 05-10, R557). -/
theorem latLogRead_takes {s : State} {r : Req} (o : s.Overlock) (hg : s.Grants r false .MEND_LAT_LOG 0 0) : ∃ t, exec (.latLogRead r) s = .next t ∧
    t.mend = { s.mend with latLog := s.mend.latLog.tail, latOvf := false } ∧ t.out = s.out ++ [.reply r.num s.latLogRead.1] ∧ s.SameFlds t [] ∧ s.SameMem t :=
  ⟨_, exec_latLogRead hg, by rw [State.settle_mend]; rfl, by rw [State.settle_out]; rfl, State.sameFlds_settled o (State.SameFlds.regs (.refl s _) rfl) rfl,
    State.SameMem.settle (State.sameMem_of rfl rfl rfl)⟩

/-- Settles O34, operation by operation. -/
theorem menderTableOperations : Obligations.MenderTableOperations := by
  intro s r i o
  exact ⟨fun tb hg hb => mendTblRead_collides o hg hb tb, fun hg hb => mendTblRead_shows o hg hb, fun hg hb hok => mendTblWrite_function o hg hb hok,
    fun hg hb hbad => mendTblWrite_refused o hg hb hbad, fun hg hb hmode => mendTblWrite_generator o hg hb hmode, fun hg hb => mendTblReset_function o hg hb,
    fun hg hb => mendTblReset_generator o hg hb, fun hd hb => mendTblComplete_shows o hd hb, fun hg => latLogRead_takes o hg⟩

end Sys2Proof.Machine
end

section
/-!
PROOFS. Functions whose RESET_MS has passed, latent errors, and the sweep (R155, R158, R159).
-/
namespace Sys2Proof.Machine

/-! ## The counters of a function (R513) -/

section
variable (s : State) (i w : Nat)

/-- A count of a function beyond the device's sum writes the counters of functions and OVF alone. -/
theorem State.rcvCount_counts : State.Counts [] (s.bump (devWord (16 + w))) (s.rcvCount i w) := by
  have hovf : ∀ u : State, State.Counts [] u (u.event .TAPE_EVENT_OVF) := fun u =>
    ⟨(State.SameFlds.refl u _).event (.inr (.inr (.inr rfl))), State.uncounted_event .., fun a _ => by unfold State.ctr; rw [State.event_tape]⟩
  unfold State.rcvCount
  rw [if_neg (by decide)]
  dsimp only
  split
  · exact .refl _
  · split
    · refine State.Counts.trans (v := []) ?_ (hovf _)
      exact .of_ctr rfl rfl rfl
    · exact .of_ctr rfl rfl rfl

theorem State.Counts.rcvCount : State.Counts [devWord (16 + w)] s (s.rcvCount i w) := (State.Counts.bump s _ 1).trans (s.rcvCount_counts i w)
theorem State.ctr_rcvCount : (s.rcvCount i w).ctr (devWord (16 + w)) = ctrAdd (s.ctr (devWord (16 + w))) 1 :=
  ((s.rcvCount_counts i w).ctr _ List.not_mem_nil).trans (s.ctr_bump_same _ 1)

end

/-! ## What a visit changes -/

/-- From a state to one that a visit of functions leads to: of the registers the flags of a report move, and L time stands still. -/
structure State.Visits (s t : State) : Prop where
  flds : s.SameFlds t ((.MEND_EVENT_LATENT, 0) :: faultFlds)
  time : t.time = s.time
  dev : t.dev = s.dev
  mem : s.SameMem t

theorem State.Visits.refl (s : State) : s.Visits s := ⟨.refl s _, rfl, rfl, .refl s⟩
theorem State.Visits.trans {s t u : State} (h : s.Visits t) (h' : t.Visits u) : s.Visits u :=
  ⟨h.flds.trans h'.flds, h'.time.trans h.time, h'.dev.trans h.dev, h.mem.trans h'.mem⟩
theorem State.Visits.lNow {s t : State} (h : s.Visits t) : t.lNow = s.lNow := h.flds.lNow h.time (by decide)
theorem State.MendOnly.visits {s t : State} (h : s.MendOnly t) : s.Visits t := ⟨State.SameFlds.regs (.refl s _) h.regs, h.time, h.dev, h.mem⟩
theorem State.Counts.visits {ws : List Nat} {s t : State} (h : State.Counts ws s t) : s.Visits t := ⟨h.flds.mono (by simp), h.time, h.dev, h.mem⟩

theorem State.rcv_of_mend {s t : State} (h : t.mend.rcv = s.mend.rcv) : t.rcv = s.rcv := by unfold State.rcv; rw [h]
theorem State.rcv_setRcv (s : State) (i : Nat) (x : Rcv) : (s.setRcv i x).rcv = Function.update s.rcv i x := by
  funext k
  by_cases h : k = i
  · subst h; rw [State.rcv_setRcv_same, Function.update_self]
  · rw [State.rcv_setRcv_ne _ _ h, Function.update_of_ne h]

/-! ## A report (R159) -/

/-- The report in the log, or OVF. -/
def State.latLogged (s : State) (i : Nat) : State :=
  if s.mend.latLog.length < 16 then { s with mend := { s.mend with latLog := s.mend.latLog ++ [(i, s.lMs % 2 ^ 32)] } } else { s with mend := { s.mend with latOvf := true } }

/-- The Notice of a report, where it is enabled. -/
def State.latNotice (s : State) : State := if s.on .MEND_CTRL_LAT_NOTICE_EN then s.fault 1 0 noUnit else s

section
variable (s : State) (i : Nat)

theorem State.latError_eq : s.latError i = (((s.rcvCount i 7).event .MEND_EVENT_LATENT).latLogged i).latNotice := rfl

theorem State.mendOnly_latLogged : s.MendOnly (s.latLogged i) := by
  unfold State.latLogged
  split <;> exact ⟨_, _, rfl⟩
theorem State.latLogged_rcvs : (s.latLogged i).mend.rcv = s.mend.rcv := by
  unfold State.latLogged
  split <;> rfl
theorem State.latLogged_tape : (s.latLogged i).tape = s.tape := by obtain ⟨_, _, h⟩ := s.mendOnly_latLogged i; rw [h]

theorem State.visits_event : s.Visits (s.event .MEND_EVENT_LATENT) :=
  ⟨(State.SameFlds.refl s _).event (.inl List.mem_cons_self), s.event_time .., s.event_dev .., State.sameMem_of (s.event_localMem ..) (s.event_dram ..) (congrArg BootSt.nvm (s.event_boot ..))⟩
theorem State.sameFlds_latNotice : s.SameFlds s.latNotice faultFlds := by
  unfold State.latNotice
  split
  · exact (State.SameFlds.refl s _).fault (fun _ he => he) (by decide) 0 noUnit
  · exact .refl s _
theorem State.visits_latNotice : s.Visits s.latNotice := by
  refine ⟨s.sameFlds_latNotice.mono fun _ he => List.mem_cons_of_mem _ he, ?_, ?_, State.sameMem_of ?_ ?_ (congrArg BootSt.nvm ?_)⟩ <;> unfold State.latNotice <;> split <;> simp
theorem State.latNotice_mend : s.latNotice.mend = s.mend := by
  unfold State.latNotice
  split
  · exact s.fault_mend (by decide) ..
  · rfl
theorem State.ctr_latNotice {w : Nat} (h : w ≠ faultWord 0 1) : s.latNotice.ctr w = s.ctr w := by
  unfold State.latNotice
  split
  · exact s.ctr_fault (by decide) _ _ h
  · rfl

theorem State.visits_latError : s.Visits (s.latError i) :=
  (State.Counts.rcvCount s i 7).visits.trans ((State.visits_event _).trans ((State.mendOnly_latLogged _ i).visits.trans (State.visits_latNotice _)))
theorem State.latError_rcvs : (s.latError i).mend.rcv = s.mend.rcv := by
  rw [State.latError_eq, State.latNotice_mend, State.latLogged_rcvs, State.event_mend, (State.Counts.rcvCount s i 7).mend]
theorem State.latError_latLog (h : s.mend.latLog.length < 16) : (s.latError i).mend.latLog = s.mend.latLog ++ [(i, s.lMs % 2 ^ 32)] := by
  have hv := (State.Counts.rcvCount s i 7).visits.trans (State.visits_event _)
  have hm : ((s.rcvCount i 7).event .MEND_EVENT_LATENT).mend = s.mend := (State.event_mend ..).trans (State.Counts.rcvCount s i 7).mend
  rw [State.latError_eq, State.latNotice_mend, State.latLogged, hm, if_pos h, State.lMs_of_lNow hv.lNow]
theorem State.on_latError : (s.latError i).on .MEND_EVENT_LATENT = true := by
  have hlog := State.SameFlds.regs (.refl _ []) (State.mendOnly_latLogged ((s.rcvCount i 7).event .MEND_EVENT_LATENT) i).regs
  rw [State.on, State.latError_eq, State.sameFlds_latNotice _ _ 0 0 (by decide) (Fl.not_shared (by decide)), hlog _ 0 0 List.not_mem_nil (Fl.not_shared (by decide)),
    State.fld_event_same _ _ _ (by decide) (by decide)]
  rfl
theorem State.ctr_latError : (s.latError i).ctr (devWord 23) = ctrAdd (s.ctr (devWord 23)) 1 := by
  rw [State.latError_eq, State.ctr_latNotice _ (by decide), State.ctr, State.latLogged_tape, State.event_tape]
  exact s.ctr_rcvCount i 7

end

/-! ## One visit of a function -/

/-- A function after RESET_MS, where it has passed (R155). -/
def State.rested (s : State) (x : Rcv) : Rcv := if s.rcvDue x then { x with takeAny := true, hist := 0 } else x

/-- A function after the reset of its test, where that is due: the present difference is its base (R158). -/
def State.rebased (s : State) (x : Rcv) : Rcv := if x.latEn && decide (x.latReset ≤ s.latR x) then { x with latBase := x.latNow, latR0 := s.lMs } else x

/-- A function after its test, where that is due (R158). -/
def State.retested (s : State) (x : Rcv) : Rcv := if x.latEn && decide (x.latPeriod ≤ s.latT x) then { x with latT0 := s.lMs } else x

/-- A function after a visit of the sweep. -/
def State.visited (s : State) (x : Rcv) : Rcv := s.retested (s.rebased (s.rested x))

/-- The magnitude that a test compares with LAT_DIFF. -/
def Rcv.latGap (x : Rcv) : Nat := (toSigned 32 (ofSigned 32 ((x.latBase : Int) - x.latNow))).natAbs

/-- A function that takes any number, with nothing in its history. -/
def Rcv.Rests (x : Rcv) : Prop := x.takeAny = true ∧ x.hist = 0

section
variable {s : State} {x : Rcv}

theorem State.rests_rested (h : s.rcvDue x = true) : (s.rested x).Rests := by unfold State.rested; rw [if_pos h]; exact ⟨rfl, rfl⟩
theorem Rcv.Rests.rested (h : x.Rests) : (s.rested x).Rests := by
  unfold State.rested
  split
  · exact ⟨rfl, rfl⟩
  · exact h
theorem Rcv.Rests.rebased (h : x.Rests) : (s.rebased x).Rests := by unfold State.rebased; split <;> exact h
theorem Rcv.Rests.retested (h : x.Rests) : (s.retested x).Rests := by unfold State.retested; split <;> exact h
theorem Rcv.Rests.visited (h : x.Rests) : (s.visited x).Rests := h.rested.rebased.retested
theorem State.rests_visited (h : s.rcvDue x = true) : (s.visited x).Rests := (State.rests_rested h).rebased.retested

/-- A visit leaves alone a function that is not due and has no test. -/
theorem State.visited_idle (h : s.rcvDue x = false) (hl : x.latEn = false) : s.visited x = x := by simp [State.visited, State.rested, State.rebased, State.retested, h, hl]

/-- What a visit does to a function depends on L time. -/
theorem State.visited_congr {t : State} (h : t.lNow = s.lNow) : t.rested = s.rested ∧ t.rebased = s.rebased ∧ t.retested = s.retested := by
  have hms := State.lMs_of_lNow h
  have hT : t.latT = s.latT := by funext x; unfold State.latT; rw [hms]
  have hR : t.latR = s.latR := by funext x; unfold State.latR; rw [hms]
  have hdue : t.rcvDue = s.rcvDue := by funext x; unfold State.rcvDue; rw [State.lUs_of_lNow h]
  refine ⟨?_, ?_, ?_⟩ <;> funext x
  · unfold State.rested; rw [hdue]
  · unfold State.rebased; rw [hR, hms]
  · unfold State.retested; rw [hT, hms]

end

section
variable {s : State} {i : Nat}

theorem State.rcvTimeout_due (h : s.rcvDue (s.rcv i) = true) : s.rcvTimeout i = (s.setRcv i { s.rcv i with takeAny := true, hist := 0 }).rcvCount i 6 := if_pos h
theorem State.rcvTimeout_early (h : s.rcvDue (s.rcv i) = false) : s.rcvTimeout i = s := if_neg (by simp [h])
theorem State.latReset_due (he : (s.rcv i).latEn = true) (h : (s.rcv i).latReset ≤ s.latR (s.rcv i)) :
    s.latReset i = s.setRcv i { s.rcv i with latBase := (s.rcv i).latNow, latR0 := s.lMs } := if_pos (by simp [he, h])
theorem State.latReset_early (h : (s.rcv i).latEn = true → s.latR (s.rcv i) < (s.rcv i).latReset) : s.latReset i = s := if_neg (by simpa using h)

/-- The state of a test that is due, before its report. -/
def State.latTimed (s : State) (i : Nat) : State := s.setRcv i { s.rcv i with latT0 := s.lMs }

theorem State.mendOnly_latTimed (s : State) (i : Nat) : s.MendOnly (s.latTimed i) := s.mendOnly_setRcv i _
theorem State.rcv_latTimed (s : State) (i : Nat) : (s.latTimed i).rcv i = { s.rcv i with latT0 := s.lMs } := s.rcv_setRcv_same i _

theorem State.latTest_of {u : State} (hu : s.latReset i = u) :
    s.latTest i = if (u.rcv i).latEn && decide ((u.rcv i).latPeriod ≤ u.latT (u.rcv i)) then if (u.rcv i).latDiff < (u.rcv i).latGap then (u.latTimed i).latError i else u.latTimed i else u := by
  subst hu; rfl

variable (s i)

theorem State.visits_rcvTimeout : s.Visits (s.rcvTimeout i) := by
  cases h : s.rcvDue (s.rcv i)
  · rw [State.rcvTimeout_early h]; exact .refl s
  · rw [State.rcvTimeout_due h]; exact (s.mendOnly_setRcv i _).visits.trans (State.Counts.rcvCount _ i 6).visits
theorem State.rcv_rcvTimeout : (s.rcvTimeout i).rcv = Function.update s.rcv i (s.rested (s.rcv i)) := by
  unfold State.rested
  cases h : s.rcvDue (s.rcv i)
  · rw [State.rcvTimeout_early h, if_neg (by decide), Function.update_eq_self]
  · rw [State.rcvTimeout_due h, if_pos rfl, State.rcv_of_mend (congrArg MendSt.rcv (State.Counts.rcvCount _ i 6).mend), State.rcv_setRcv]

theorem State.mendOnly_latReset : s.MendOnly (s.latReset i) := by
  unfold State.latReset
  dsimp only
  split
  · exact s.mendOnly_setRcv i _
  · exact ⟨_, _, rfl⟩
theorem State.rcv_latReset : (s.latReset i).rcv = Function.update s.rcv i (s.rebased (s.rcv i)) := by
  unfold State.latReset State.rebased
  dsimp only
  split
  · rw [State.rcv_setRcv]
  · rw [Function.update_eq_self]

theorem State.visits_latTest : s.Visits (s.latTest i) := by
  have hreset := (s.mendOnly_latReset i).visits
  rw [State.latTest_of rfl]
  split
  · have htimed := hreset.trans (State.mendOnly_latTimed _ i).visits
    split
    · exact htimed.trans (State.visits_latError _ i)
    · exact htimed
  · exact hreset

/-- A report leaves the functions alone: a test changes its function as `retested` says, whatever it finds. -/
theorem State.rcv_latTest : (s.latTest i).rcv = Function.update s.rcv i (s.retested (s.rebased (s.rcv i))) := by
  have hrcv : (s.latReset i).rcv i = s.rebased (s.rcv i) := by rw [State.rcv_latReset, Function.update_self]
  have htimed : ((s.latReset i).latTimed i).rcv = Function.update s.rcv i { s.rebased (s.rcv i) with latT0 := (s.latReset i).lMs } := by
    rw [State.latTimed, State.rcv_setRcv, hrcv, State.rcv_latReset, Function.update_idem]
  rw [State.latTest_of rfl, ← (State.visited_congr (s.mendOnly_latReset i).visits.lNow).2.2, State.retested, hrcv]
  split
  · split
    · rw [State.rcv_of_mend (State.latError_rcvs _ i), htimed]
    · exact htimed
  · exact s.rcv_latReset i

end

/-! ## The sweep -/

/-- One step of the sweep. -/
def State.visit (s : State) (i : Nat) : State := (s.rcvTimeout i).latTest i

theorem State.visits_visit (s : State) (i : Nat) : s.Visits (s.visit i) := (s.visits_rcvTimeout i).trans (State.visits_latTest _ i)
theorem State.rcv_visit (s : State) (i : Nat) : (s.visit i).rcv = Function.update s.rcv i (s.visited (s.rcv i)) := by
  obtain ⟨-, hbase, htest⟩ := State.visited_congr (s.visits_rcvTimeout i).lNow
  rw [State.visit, State.rcv_latTest, State.rcv_rcvTimeout, Function.update_self, Function.update_idem, hbase, htest]
  rfl

theorem State.mendSweep_eq (s : State) : s.mendSweep = (s.mend.rcv.map Prod.fst).foldl State.visit s := by
  rw [List.foldl_map]; rfl

/-- Functions visited in some order: each as often as the list names it. -/
theorem State.foldl_visit (l : List Nat) (s : State) : s.Visits (l.foldl State.visit s) ∧ ∀ k, (l.foldl State.visit s).rcv k = s.visited^[l.count k] (s.rcv k) := by
  induction l generalizing s with
  | nil => exact ⟨.refl s, fun k => rfl⟩
  | cons i l ih =>
    have hv := s.visits_visit i
    have hsame : (s.visit i).visited = s.visited := by
      obtain ⟨hrest, hbase, htest⟩ := State.visited_congr hv.lNow
      funext x
      rw [State.visited, hrest, hbase, htest]
      rfl
    obtain ⟨hvisits, hrcv⟩ := ih (s.visit i)
    refine ⟨hv.trans hvisits, fun k => ?_⟩
    rw [List.foldl_cons, hrcv, hsame, State.rcv_visit]
    by_cases hk : k = i
    · subst hk; rw [Function.update_self, List.count_cons_self, Function.iterate_succ_apply]
    · rw [Function.update_of_ne hk, List.count_cons_of_ne (Ne.symm hk)]

/-- A key that a table does not list reads as the default. -/
theorem Tbl.get_of_not_mem {α : Type} (d : α) {t : Tbl α} {k : Nat} (h : k ∉ t.map Prod.fst) : Tbl.get d t k = d := by
  induction t with
  | nil => rfl
  | cons e t ih =>
    obtain ⟨a, v⟩ := e
    simp only [List.map_cons, List.mem_cons, not_or] at h
    simp only [Tbl.get, if_neg h.1, ih h.2]

/-- A function that is due is in the table. -/
theorem State.mem_of_rcvDue {s : State} {k : Nat} (h : s.rcvDue (s.rcv k) = true) : k ∈ s.mend.rcv.map Prod.fst := by
  by_contra hk
  rw [State.rcv, Tbl.get_of_not_mem _ hk] at h
  exact Bool.false_ne_true h

/-! ## The commands -/

section
variable {s : State} (hd : s.dev ≠ .off) (i : BitVec 18)
include hd

theorem exec_recoveryResetTimeout : exec (.recoveryResetTimeout i) s = .next (s.rcvTimeout i.toNat).settle := by rw [← State.powered_of hd fun a => a.rcvTimeout i.toNat]; rfl
omit i in
theorem exec_menderSweep : exec .menderSweep s = .next s.mendSweep.settle := by rw [← State.powered_of hd State.mendSweep]; rfl
theorem exec_latentTest : exec (.latentTest i) s = .next (s.latTest i.toNat).settle := by rw [← State.powered_of hd fun a => a.latTest i.toNat]; rfl
theorem exec_latentReset : exec (.latentReset i) s = .next (s.latReset i.toNat).settle := by rw [← State.powered_of hd fun a => a.latReset i.toNat]; rfl

end

/-- The end of a visit. -/
theorem State.Visits.settled {s u : State} (h : s.Visits u) (o : s.Overlock) : s.SameFlds u.settle ((.MEND_EVENT_LATENT, 0) :: faultFlds) ∧ s.SameMem u.settle :=
  ⟨h.flds.settle_of o h.dev (by decide), h.mem.settle⟩

/-- The end of a command that changes the Mender's own state alone. -/
theorem State.MendOnly.settled {s u : State} (h : s.MendOnly u) (o : s.Overlock) : s.SameFlds u.settle [] ∧ s.SameMem u.settle :=
  ⟨State.sameFlds_settled o (State.SameFlds.regs (.refl s _) h.regs) h.dev, h.mem.settle⟩

section
variable {s : State} (o : s.Overlock) (hd : s.dev ≠ .off) {i : BitVec 18}
include o hd

theorem recoveryResetTimeout_due (h : s.rcvDue (s.rcv i.toNat) = true) : ∃ t, exec (.recoveryResetTimeout i) s = .next t ∧
    t.rcv i.toNat = { s.rcv i.toNat with takeAny := true, hist := 0 } ∧ t.ctr (devWord 22) = ctrAdd (s.ctr (devWord 22)) 1 ∧ (∀ k, k ≠ i.toNat → t.rcv k = s.rcv k) ∧
    s.SameFlds t [] ∧ s.SameMem t := by
  have hcount := State.Counts.rcvCount (s.setRcv i.toNat { s.rcv i.toNat with takeAny := true, hist := 0 }) i.toNat 6
  have hrcv : ∀ k, (s.rcvTimeout i.toNat).settle.rcv k = Function.update s.rcv i.toNat { s.rcv i.toNat with takeAny := true, hist := 0 } k := fun k => by
    rw [State.rcv_settle, State.rcv_rcvTimeout, State.rested, if_pos h]
  refine ⟨_, exec_recoveryResetTimeout hd i, ?_, ?_, fun k hk => ?_, ?_, (s.visits_rcvTimeout i.toNat).mem.settle⟩
  · rw [hrcv, Function.update_self]
  · rw [State.rcvTimeout_due h, State.ctr_settle]
    exact State.ctr_rcvCount _ i.toNat 6
  · rw [hrcv, Function.update_of_ne hk]
  · rw [State.rcvTimeout_due h]
    exact State.sameFlds_settled o (State.SameFlds.trans (State.SameFlds.regs (.refl s _) rfl) hcount.flds) hcount.dev

theorem recoveryResetTimeout_early (h : s.rcvDue (s.rcv i.toNat) = false) : ∃ t, exec (.recoveryResetTimeout i) s = .next t ∧ t.mend = s.mend ∧ t.tape = s.tape ∧
    s.SameFlds t [] ∧ s.SameMem t :=
  ⟨_, by rw [exec_recoveryResetTimeout hd, State.rcvTimeout_early h], State.settle_mend s, State.settle_tape s, State.sameFlds_settled o (.refl s _) rfl, State.SameMem.settle (.refl s)⟩

omit i in
theorem menderSweep_visits : ∃ t, exec .menderSweep s = .next t ∧ (∀ k, s.rcvDue (s.rcv k) = true → (t.rcv k).takeAny = true ∧ (t.rcv k).hist = 0) ∧
    (∀ k, s.rcvDue (s.rcv k) = false → (s.rcv k).latEn = false → t.rcv k = s.rcv k) ∧ t.dev = s.dev ∧ s.SameFlds t ((.MEND_EVENT_LATENT, 0) :: faultFlds) ∧ s.SameMem t := by
  obtain ⟨hv, hrcv⟩ := State.foldl_visit (s.mend.rcv.map Prod.fst) s
  rw [← State.mendSweep_eq] at hv hrcv
  refine ⟨_, exec_menderSweep hd, fun k hk => ?_, fun k hk hl => ?_, (State.settle_dev _).trans hv.dev, hv.settled o⟩
  · obtain ⟨n, hn⟩ := Nat.exists_eq_succ_of_ne_zero (List.count_pos_iff.mpr (State.mem_of_rcvDue hk)).ne'
    rw [State.rcv_settle, hrcv, hn, Function.iterate_succ_apply]
    exact Function.Iterate.rec Rcv.Rests (State.rests_visited hk) (fun _ => Rcv.Rests.visited) n
  · rw [State.rcv_settle, hrcv, Function.iterate_fixed (State.visited_idle hk hl)]

variable (he : (s.rcv i.toNat).latEn = true)
include he

theorem latentReset_rebases (h : (s.rcv i.toNat).latReset ≤ s.latR (s.rcv i.toNat)) : ∃ t, exec (.latentReset i) s = .next t ∧
    t.rcv i.toNat = { s.rcv i.toNat with latBase := (s.rcv i.toNat).latNow, latR0 := s.lMs } ∧ (∀ k, k ≠ i.toNat → t.rcv k = s.rcv k) ∧ s.SameFlds t [] ∧ s.SameMem t := by
  refine ⟨_, by rw [exec_latentReset hd, State.latReset_due he h], ?_, fun k hk => ?_, (s.mendOnly_setRcv i.toNat _).settled o⟩
  · rw [State.rcv_settle, State.rcv_setRcv_same]
  · rw [State.rcv_settle, State.rcv_setRcv_ne _ _ hk]

variable (hr : s.latR (s.rcv i.toNat) < (s.rcv i.toNat).latReset) (hp : (s.rcv i.toNat).latPeriod ≤ s.latT (s.rcv i.toNat))
include hr hp

omit o in
/-- A test that is due where no reset is. -/
theorem exec_latentTest_due : exec (.latentTest i) s =
    .next (if (s.rcv i.toNat).latDiff < (s.rcv i.toNat).latGap then (s.latTimed i.toNat).latError i.toNat else s.latTimed i.toNat).settle := by
  rw [exec_latentTest hd, State.latTest_of (State.latReset_early fun _ => hr), if_pos (by simp [he, hp])]

theorem latentTest_reports (hgap : (s.rcv i.toNat).latDiff < (s.rcv i.toNat).latGap) (hlog : s.mend.latLog.length < 16) : ∃ t, exec (.latentTest i) s = .next t ∧
    t.on .MEND_EVENT_LATENT = true ∧ t.mend.latLog = s.mend.latLog ++ [(i.toNat, s.lMs % 2 ^ 32)] ∧ (t.rcv i.toNat).latT0 = s.lMs ∧
    t.ctr (devWord 23) = ctrAdd (s.ctr (devWord 23)) 1 ∧ t.dev = s.dev ∧ s.SameFlds t ((.MEND_EVENT_LATENT, 0) :: faultFlds) ∧ s.SameMem t := by
  have hv := (s.mendOnly_latTimed i.toNat).visits.trans (State.visits_latError _ i.toNat)
  refine ⟨_, by rw [exec_latentTest_due hd he hr hp, if_pos hgap], ?_, ?_, ?_, ?_, (State.settle_dev _).trans hv.dev, hv.settled o⟩
  · rw [State.on, State.fld_settle_of _ (by decide)]; exact State.on_latError ..
  · rw [State.settle_mend]; exact State.latError_latLog (s.latTimed i.toNat) _ hlog
  · rw [State.rcv_settle, State.rcv_of_mend (State.latError_rcvs ..), State.rcv_latTimed]
  · rw [State.ctr_settle, State.ctr_latError]; rfl

theorem latentTest_passes (hgap : (s.rcv i.toNat).latGap ≤ (s.rcv i.toNat).latDiff) : ∃ t, exec (.latentTest i) s = .next t ∧
    t.rcv i.toNat = { s.rcv i.toNat with latT0 := s.lMs } ∧ t.mend.latLog = s.mend.latLog ∧ s.SameFlds t [] ∧ s.SameMem t := by
  refine ⟨_, by rw [exec_latentTest_due hd he hr hp, if_neg (Nat.not_lt.mpr hgap)], ?_, ?_, (s.mendOnly_latTimed i.toNat).settled o⟩
  · rw [State.rcv_settle, State.rcv_latTimed]
  · rw [State.settle_mend]; rfl

end

end Sys2Proof.Machine
end

section
/-!
PROOFS. Mirroring between the partners: mirror records, snapshots, and the end of role (R173, R174, R176, R320).
-/
namespace Sys2Proof.Machine

/-! ## The commands -/

section
variable {s : State} (hd : s.dev ≠ .off)
include hd

theorem exec_mirrorRecordApply (g : Bool) (i : BitVec 18) (num : BitVec 16) (seq : BitVec 24) :
    exec (.mirrorRecordApply g i num seq) s = .next (s.mirrorApply g i.toNat num.toNat seq.toNat).settle := by
  rw [← State.powered_of hd fun a => a.mirrorApply g i.toNat num.toNat seq.toNat]; rfl
theorem exec_mirrorSnapshot : exec .mirrorSnapshot s = .next s.snapshotSend.settle := by rw [← State.powered_of hd State.snapshotSend]; rfl
theorem exec_snapshotApply (x : SnapRec) : exec (.snapshotApply x) s = .next (s.snapshotApply x).settle := by rw [← State.powered_of hd fun a => a.snapshotApply x]; rfl
theorem exec_endOfRoleApply : exec .endOfRoleApply s = .next s.leadRelease.settle := by rw [← State.powered_of hd State.leadRelease]; rfl

end

/-! ## Mirror records (R173, R487) -/

/-- SEQ of a generator given a number. -/
@[simp] theorem Gen.seq_setSeq (x : Gen) (n : Nat) : (x.setSeq n).seq = n % 2 ^ 16 := by
  unfold Gen.setSeq Gen.seq bits
  dsimp only
  omega

/-- The state that remembers the number of a record. -/
def State.recordSeen (s : State) (seq : Nat) : State := { s with mend := { s.mend with seen := (seq :: s.mend.seen).take 4096 } }

section
variable {s : State} {seq : Nat}

theorem State.mendOnly_recordSeen (s : State) (seq : Nat) : s.MendOnly (s.recordSeen seq) := ⟨_, _, rfl⟩
theorem State.mem_recordSeen (s : State) (seq : Nat) : seq ∈ (s.recordSeen seq).mend.seen := List.mem_cons_self
theorem State.rcvs_recordSeen (s : State) (seq : Nat) : (s.recordSeen seq).mend.rcv = s.mend.rcv := rfl
theorem State.seen_setGen (s : State) (i : Nat) (x : Gen) : (s.setGen i x).mend.seen = s.mend.seen := rfl

/-- A record that comes again changes nothing. -/
theorem State.mirrorApply_again (h : seq ∈ s.mend.seen) (g : Bool) (i num : Nat) : s.mirrorApply g i num seq = s := by
  unfold State.mirrorApply State.once
  rw [List.contains_iff_mem.mpr h, if_pos rfl, ite_self]

variable (hm : s.mirrored = true) (h : seq ∉ s.mend.seen)
include hm h

theorem State.mirrorApply_gen (i num : Nat) : s.mirrorApply true i num seq = (s.recordSeen seq).setGen i ((s.gen i).setSeq (num + 1)) := by
  unfold State.mirrorApply State.once
  rw [hm, if_neg (by decide), if_neg (by rwa [List.contains_iff_mem])]
  rfl
theorem State.mirrorApply_rcv (i num : Nat) : s.mirrorApply false i num seq = (s.recordSeen seq).setRcv i ((s.rcv i).merge num (s.lUs % 2 ^ 32)) := by
  unfold State.mirrorApply State.once
  rw [hm, if_neg (by decide), if_neg (by rwa [List.contains_iff_mem])]
  rfl

end

section
variable {s : State} (o : s.Overlock) (hd : s.dev ≠ .off) {i : BitVec 18} {seq : BitVec 24} (num : BitVec 16)
include o hd

theorem mirrorRecordApply_again (g : Bool) (h : seq.toNat ∈ s.mend.seen) :
    ∃ t, exec (.mirrorRecordApply g i num seq) s = .next t ∧ t.mend = s.mend ∧ s.SameFlds t [] ∧ s.SameMem t :=
  ⟨_, by rw [exec_mirrorRecordApply hd, State.mirrorApply_again h], State.settle_mend s, State.sameFlds_settled o (.refl s _) rfl, State.SameMem.settle (.refl s)⟩

variable (hm : s.mirrored = true) (h : seq.toNat ∉ s.mend.seen)
include hm h

theorem mirrorRecordApply_gen : ∃ t, exec (.mirrorRecordApply true i num seq) s = .next t ∧ (t.gen i.toNat).seq = (num.toNat + 1) % 2 ^ 16 ∧ seq.toNat ∈ t.mend.seen ∧
    t.mend.rcv = s.mend.rcv ∧ s.SameFlds t [] ∧ s.SameMem t := by
  refine ⟨_, by rw [exec_mirrorRecordApply hd, State.mirrorApply_gen hm h], ?_, ?_, ?_, ((s.mendOnly_recordSeen seq.toNat).trans (State.mendOnly_setGen _ i.toNat _)).settled o⟩
  · rw [State.gen_settle, State.gen_setGen_same, Gen.seq_setSeq]
  · rw [State.settle_mend, State.seen_setGen]; exact s.mem_recordSeen seq.toNat
  · rw [State.settle_mend, State.rcvs_setGen, State.rcvs_recordSeen]

theorem mirrorRecordApply_rcv : ∃ t, exec (.mirrorRecordApply false i num seq) s = .next t ∧ t.rcv i.toNat = (s.rcv i.toNat).merge num.toNat (s.lUs % 2 ^ 32) ∧
    t.mend.gen = s.mend.gen ∧ s.SameFlds t [] ∧ s.SameMem t := by
  refine ⟨_, by rw [exec_mirrorRecordApply hd, State.mirrorApply_rcv hm h], ?_, ?_, ((s.mendOnly_recordSeen seq.toNat).trans (State.mendOnly_setRcv _ i.toNat _)).settled o⟩
  · rw [State.rcv_settle, State.rcv_setRcv_same]
  · rw [State.settle_mend]; rfl

end

/-! ## The Lead's snapshot (R176, R489) -/

/-- The state after some more outputs. -/
def State.tell (s : State) (l : List Out) : State := { s with out := s.out ++ l }

theorem State.tell_tell (s : State) (l m : List Out) : (s.tell l).tell m = s.tell (l ++ m) := by unfold State.tell; rw [List.append_assoc]
theorem State.tell_nil (s : State) : s.tell [] = s := by unfold State.tell; rw [List.append_nil]

/-- Steps that only tell something, whatever was told before: together they tell what each does in turn. -/
theorem State.foldl_tells {α : Type} {g : State → α → State} {f : State → α → List Out} (hg : ∀ a x, g a x = a.tell (f a x)) (hf : ∀ a l, f (State.tell a l) = f a)
    (l : List α) (s : State) : l.foldl g s = s.tell (l.flatMap (f s)) := by
  induction l generalizing s with
  | nil => exact s.tell_nil.symm
  | cons x l ih => rw [List.foldl_cons, ih, hg, hf, State.tell_tell, List.flatMap_cons]

/-- The SNAPSHOT record of a function or generator. -/
def State.entryRecord (s : State) (e : Nat × Nat) : Out := .pair 8 [e.1, e.2, if e.1 = 0 then s.rcvState e.2 else (s.gen e.2).seq]

/-- The GCL record of a multidrop port, and its SNAPSHOT record. -/
def State.portRecords (s : State) (p : Nat) : List Out := [.pair 7 (s.operRecord p), .pair 8 (2 :: s.pcRecord p)]

/-- The SERVO record of a domain of GM_DOMAINS. -/
def State.servoRecords (s : State) (d : Nat) : List Out :=
  if s.dev = .lead ∧ (s.fld .PAIR_CFG_GM_DOMAINS).testBit d then [.pair 6 [d, s.fld .TPL_DOM_RATE_RATE d, ofSigned 32 (s.dom d).integ.toWord, ofSigned 32 (s.dom d).hold.toWord, s.domState d]] else []

/-- What a Lead that mirrors tells in a snapshot. -/
def State.snapshotRecords (s : State) : List Out := s.leadOnly.map s.entryRecord ++ s.mdpLead.flatMap s.portRecords ++ (List.range 8).flatMap s.servoRecords

section
variable (s : State) (l : List Out)

theorem State.entryRecord_func (k : Nat) : s.entryRecord (0, k) = .pair 8 [0, k, s.rcvState k] := by unfold State.entryRecord; rw [if_pos rfl]
theorem State.entryRecord_gen (k : Nat) : s.entryRecord (1, k) = .pair 8 [1, k, (s.gen k).seq] := by unfold State.entryRecord; rw [if_neg Nat.one_ne_zero]
theorem State.portRecords_tell : (s.tell l).portRecords = s.portRecords := rfl
theorem State.servoRecords_tell : (s.tell l).servoRecords = s.servoRecords := rfl
theorem State.mdpLead_tell : (s.tell l).mdpLead = s.mdpLead := rfl

theorem State.tell_portRecords (p : Nat) : (s.emit (.pair 7 (s.operRecord p))).emit (.pair 8 (2 :: s.pcRecord p)) = s.tell (s.portRecords p) := s.tell_tell [_] [_]
theorem State.servoRecord_tells (d : Nat) : s.servoRecord d = s.tell (s.servoRecords d) := by
  unfold State.servoRecord State.servoRecords
  split
  · rfl
  · exact s.tell_nil.symm

end

theorem State.snapshotSend_mirrors {s : State} (hm : s.mirrors = true) : s.snapshotSend = s.tell s.snapshotRecords := by
  have hdev : s.dev = .lead := by simp only [State.mirrors, Bool.and_eq_true, beq_iff_eq] at hm; exact hm.1.1
  have hentries : s.leadOnly.foldl (fun a e => a.emit (.pair 8 [e.1, e.2, if e.1 = 0 then a.rcvState e.2 else (a.gen e.2).seq])) s = s.tell (s.leadOnly.map s.entryRecord) := by
    rw [← List.flatMap_pure_eq_map]
    exact State.foldl_tells (f := fun a e => [a.entryRecord e]) (fun _ _ => rfl) (fun _ _ => rfl) ..
  have hports := State.foldl_tells (fun a p => a.tell_portRecords p) State.portRecords_tell
  have hservo := State.foldl_tells State.servoRecord_tells State.servoRecords_tell
  unfold State.snapshotSend State.snapshotRecords
  rw [if_neg (not_not.mpr hdev), if_pos hm]
  dsimp only
  rw [hentries, State.mdpLead_tell, hports, State.portRecords_tell, State.tell_tell, hservo, State.servoRecords_tell, State.tell_tell]

theorem mirrorSnapshot_tells {s : State} (o : s.Overlock) (hd : s.dev ≠ .off) (hm : s.mirrors = true) : ∃ t, exec .mirrorSnapshot s = .next t ∧
    (∀ k, (0, k) ∈ s.leadOnly → .pair 8 [0, k, s.rcvState k] ∈ t.out) ∧ (∀ k, (1, k) ∈ s.leadOnly → .pair 8 [1, k, (s.gen k).seq] ∈ t.out) ∧
    (∀ p ∈ s.mdpLead, .pair 7 (s.operRecord p) ∈ t.out) ∧ s.SameFlds t [] ∧ s.SameMem t := by
  have hx : exec .mirrorSnapshot s = .next (s.tell s.snapshotRecords).settle := by rw [exec_mirrorSnapshot hd, State.snapshotSend_mirrors hm]
  have hout : ∀ x ∈ s.snapshotRecords, x ∈ (s.tell s.snapshotRecords).settle.out := fun x h => by rw [State.settle_out]; exact List.mem_append_right _ h
  have hentry : ∀ e ∈ s.leadOnly, s.entryRecord e ∈ s.snapshotRecords := fun e he => List.mem_append_left _ (List.mem_append_left _ (List.mem_map_of_mem he))
  have hport : ∀ p ∈ s.mdpLead, .pair 7 (s.operRecord p) ∈ s.snapshotRecords := fun p hp =>
    List.mem_append_left _ (List.mem_append_right _ (List.mem_flatMap.mpr ⟨p, hp, List.mem_cons_self⟩))
  refine ⟨_, hx, fun k hk => ?_, fun k hk => ?_, fun p hp => hout _ (hport p hp),
    State.sameFlds_settled o (State.SameFlds.regs (.refl s _) rfl) rfl, State.SameMem.settle (State.sameMem_of rfl rfl rfl)⟩
  · rw [← State.entryRecord_func]; exact hout _ (hentry _ hk)
  · rw [← State.entryRecord_gen]; exact hout _ (hentry _ hk)

/-! ## A snapshot entry taken over by the Shadow (R176) -/

/-- The state of a function from a SNAPSHOT record. -/
def Rcv.ofSnapshot (x : Rcv) (ms v : Nat) : Rcv :=
  { x with takeAny := bit v 433, recov := bits v 431 416, lastPass := bits v 415 384, latPass := bits v 383 352, latDisc := bits v 351 320,
           latBase := bits v 319 288, latT0 := ms - bits v 287 272, latR0 := ms - bits v 271 256, hist := bits v 255 0 }

/-- A generator given anew, and stale no more. -/
def State.genTaken (s : State) (i : Nat) (x : Gen) : State := (s.setGen i x).unstale 1 i

/-- A function given anew, and stale no more. -/
def State.rcvTaken (s : State) (i : Nat) (x : Rcv) : State := (s.setRcv i x).unstale 0 i

section
variable (s : State) (i : Nat)

theorem State.mendOnly_genTaken (x : Gen) : s.MendOnly (s.genTaken i x) := (s.mendOnly_setGen i x).trans (State.mendOnly_unstale _ i 1)
theorem State.gen_genTaken (x : Gen) : (s.genTaken i x).gen i = x := s.gen_setGen_same i x
theorem State.isStale_genTaken (x : Gen) : (s.genTaken i x).isStale 1 i = false := State.isStale_unstale_same _ i 1
theorem State.mendOnly_rcvTaken (x : Rcv) : s.MendOnly (s.rcvTaken i x) := (s.mendOnly_setRcv i x).trans (State.mendOnly_unstale _ i 0)
theorem State.rcv_rcvTaken (x : Rcv) : (s.rcvTaken i x).rcv i = x := s.rcv_setRcv_same i x
theorem State.isStale_rcvTaken (x : Rcv) : (s.rcvTaken i x).isStale 0 i = false := State.isStale_unstale_same _ i 0

variable {s} (hm : s.mirrored = true) (v : Nat)
include hm

theorem State.snapshotPut_gen : ∃ n, s.snapshotPut true i v = (s.genTaken i ((s.gen i).setSeq v)).setFld .MEND_MIRROR_STATUS_SNAP_BUSY 0 0 n := by
  unfold State.snapshotPut
  rw [hm, if_neg (by decide)]
  exact ⟨_, rfl⟩
theorem State.snapshotPut_func : ∃ n, s.snapshotPut false i v = (s.rcvTaken i ((s.rcv i).ofSnapshot s.lMs v)).setFld .MEND_MIRROR_STATUS_SNAP_BUSY 0 0 n := by
  unfold State.snapshotPut
  rw [hm, if_neg (by decide)]
  exact ⟨_, rfl⟩

end

section
variable (s : State) (f : Fl) (i j v k : Nat)

theorem State.gen_setFld : (s.setFld f i j v).gen k = s.gen k := rfl
theorem State.rcv_setFld : (s.setFld f i j v).rcv k = s.rcv k := rfl
theorem State.isStale_setFld (kind : Nat) : (s.setFld f i j v).isStale kind k = s.isStale kind k := rfl

end

/-- The end of a takeover, with SNAP_BUSY. -/
theorem State.MendOnly.settled_snapBusy {s u : State} (h : s.MendOnly u) (o : s.Overlock) (n : Nat) :
    s.SameFlds (u.setFld .MEND_MIRROR_STATUS_SNAP_BUSY 0 0 n).settle [(.MEND_MIRROR_STATUS_SNAP_BUSY, 0)] ∧ s.SameMem (u.setFld .MEND_MIRROR_STATUS_SNAP_BUSY 0 0 n).settle :=
  ⟨((State.SameFlds.regs (.refl s _) h.regs).setFld (by simp) 0 n).settle_of o h.dev (by decide), State.SameMem.settle (h.mem.trans (State.sameMem_of rfl rfl rfl))⟩

section
variable {s : State} (o : s.Overlock) (hd : s.dev ≠ .off) (hm : s.mirrored = true) (i : BitVec 18)
include o hd hm

theorem snapshotApply_gen (n : BitVec 16) : ∃ t, exec (.snapshotApply (.gen i n)) s = .next t ∧ (t.gen i.toNat).seq = n.toNat ∧ t.isStale 1 i.toNat = false ∧
    s.SameFlds t [(.MEND_MIRROR_STATUS_SNAP_BUSY, 0)] ∧ s.SameMem t := by
  obtain ⟨k, hput⟩ := State.snapshotPut_gen _ hm n.toNat
  refine ⟨_, exec_snapshotApply hd _, ?_⟩
  rw [State.snapshotApply, hput]
  refine ⟨?_, ?_, (s.mendOnly_genTaken i.toNat _).settled_snapBusy o k⟩
  · rw [State.gen_settle, State.gen_setFld, State.gen_genTaken, Gen.seq_setSeq, Nat.mod_eq_of_lt n.isLt]
  · rw [State.isStale_settle, State.isStale_setFld, State.isStale_genTaken]

theorem snapshotApply_func (v : BitVec 434) : ∃ t, exec (.snapshotApply (.func i v)) s = .next t ∧ (t.rcv i.toNat).takeAny = v.getLsbD 433 ∧
    (t.rcv i.toNat).recov = bits v.toNat 431 416 ∧ (t.rcv i.toNat).hist = bits v.toNat 255 0 ∧ (t.rcv i.toNat).cfg = (s.rcv i.toNat).cfg ∧ t.isStale 0 i.toNat = false ∧
    s.SameFlds t [(.MEND_MIRROR_STATUS_SNAP_BUSY, 0)] ∧ s.SameMem t := by
  obtain ⟨k, hput⟩ := State.snapshotPut_func _ hm v.toNat
  refine ⟨_, exec_snapshotApply hd _, ?_⟩
  rw [State.snapshotApply, hput]
  simp only [State.rcv_settle, State.rcv_setFld, State.rcv_rcvTaken, State.isStale_settle, State.isStale_setFld, State.isStale_rcvTaken]
  exact ⟨rfl, rfl, rfl, rfl, trivial, (s.mendOnly_rcvTaken i.toNat _).settled_snapBusy o k⟩

end

end Sys2Proof.Machine
end

section
/-!
PROOFS. The end of role, the master record of a STANDBY port, and the Mender's times and mirrors together (R174, R176, R320, R496).
-/
namespace Sys2Proof.Machine

/-! ## The end of role (R174, R496) -/

/-- The state in which the frames that waited for the end of role are evaluated. -/
def State.roleReleased (s : State) : State := { s with mend := { s.mend with waiting := [] }, pair := { s.pair with endOfRole := true } }

/-- The record of a waiting frame that neither a function nor a generator numbers. -/
def LeadWait.passed (x : LeadWait) : FrameRec := { x.fr with edit := { x.fr.edit with num := x.fr.seq }, copy := 0 }

/-- The queue of a waiting frame whose destination is one queue. -/
abbrev LeadWait.queue (x : LeadWait) : Nat := bits x.e 424 418 * 128 + x.tc * 16 + bits x.e 417 414

theorem State.mendOnly_roleReleased (s : State) : s.MendOnly s.roleReleased := ⟨_, _, rfl⟩
theorem State.leadRelease_nil {s : State} (h : s.mend.waiting = []) : s.leadRelease = s.roleReleased := by unfold State.leadRelease; rw [h]; rfl
theorem State.leadRelease_singleton {s : State} {x : LeadWait} (h : s.mend.waiting = [x]) : s.leadRelease = s.roleReleased.mendEval x := by unfold State.leadRelease; rw [h]; rfl
theorem State.endOfRole_settle (s : State) : s.settle.pair.endOfRole = s.pair.endOfRole := s.settle_pair_keeps PairSt.endOfRole fun _ _ _ => rfl

theorem State.leadPublishes_lead {s : State} (h : s.dev = .lead) : s.leadPublishes = true := by unfold State.leadPublishes; rw [h]; rfl

/-- Where Lead-only streams are published, a frame without function and generator goes to its queue. -/
theorem State.mendEval_unnumbered {s : State} {x : LeadWait} (hrun : s.on .STRM_CTRL_RUN = true) (hpub : s.leadPublishes = true) (hrcv : bit x.e 504 = false) (hgen : bit x.e 503 = false)
    (hdest : bits x.e 429 428 = 0) : s.mendEval x = (s.admitCopy x.queue x.passed).2 := by
  have hrecover : s.recover x.e x.fr x.err = (true, s) := by unfold State.recover; rw [hrcv]; rfl
  have hgenerate : s.generate x.e x.fr x.err = (some { x.fr with edit := { x.fr.edit with num := x.fr.seq } }, s) := by unfold State.generate; rw [hgen]; rfl
  have hcode : bits (bits x.e 429 414) 15 14 = 0 := by rw [bits_bits (by decide)]; exact hdest
  unfold State.mendEval
  simp only [hrun, hrcv, hgen, hpub, hrecover, hgenerate, Bool.or_self, Bool.false_and, Bool.not_true, Bool.and_false, Bool.false_eq_true, if_false]
  rw [State.deliverTo_queue _ _ _ _ hcode, bits_bits (by decide), bits_bits (by decide)]
  rfl

section
variable {s : State} (o : s.Overlock) (hd : s.dev ≠ .off)
include o hd

theorem endOfRoleApply_idle (h : s.mend.waiting = []) : ∃ t, exec .endOfRoleApply s = .next t ∧ t.pair.endOfRole = true ∧ t.mend = s.mend ∧ s.SameFlds t [] ∧ s.SameMem t := by
  have hmend : s.roleReleased.mend = s.mend := by unfold State.roleReleased; rw [← h]
  exact ⟨_, by rw [exec_endOfRoleApply hd, State.leadRelease_nil h], s.roleReleased.endOfRole_settle, (State.settle_mend _).trans hmend, s.mendOnly_roleReleased.settled o⟩

theorem endOfRoleApply_releases {x : LeadWait} {a : Acct} (h : s.mend.waiting = [x]) (hlead : s.dev = .lead) (hrun : s.on .STRM_CTRL_RUN = true) (hrcv : bit x.e 504 = false)
    (hgen : bit x.e 503 = false) (hdest : bits x.e 429 428 = 0) (hadm : s.admitTest x.queue x.fr.cells x.fr.dp x.fr.service = (.admitted, a)) : ∃ (t : State) (fr : FrameRec),
    exec .endOfRoleApply s = .next t ∧ t.pair.endOfRole = true ∧ t.mend.waiting = [] ∧ (t.qu x.queue).frames = (s.qu x.queue).frames ++ [fr] ∧ fr.data = x.fr.data ∧
      s.SameFlds t [] ∧ s.SameMem t := by
  have heval : s.leadRelease = (s.roleReleased.admitCopy x.queue x.passed).2 := by
    rw [State.leadRelease_singleton h]
    exact State.mendEval_unnumbered hrun (State.leadPublishes_lead (s.mendOnly_roleReleased.dev.trans hlead)) hrcv hgen hdest
  have hadm' : s.roleReleased.admitTest x.queue x.passed.cells x.passed.dp x.passed.service = (.admitted, a) := hadm
  have hidle := State.Counts.refl s.roleReleased
  have hadmits := State.Admits.enqueue s.roleReleased x.queue x.passed a
  refine ⟨_, _, by rw [exec_endOfRoleApply hd, heval], ?_, ?_, hidle.frames_admitCopy hadm', rfl, ?_⟩
  · rw [State.endOfRole_settle, hidle.admitCopy hadm', hadmits.keeps State.pair fun _ => rfl]; rfl
  · rw [State.settle_mend, hidle.admitCopy hadm', hadmits.keeps State.mend fun _ => rfl]; rfl
  · rw [hidle.admitCopy hadm']
    exact ⟨State.sameFlds_settled o (State.SameFlds.trans (State.SameFlds.regs (.refl s _) s.mendOnly_roleReleased.regs) hadmits.flds) (hadmits.dev.trans s.mendOnly_roleReleased.dev),
      State.SameMem.settle (s.mendOnly_roleReleased.mem.trans hadmits.mem)⟩

end

/-! ## The master record of a STANDBY port (R320) -/

/-- A node set written into its four words. -/
def State.setNodes (s : State) (f : Fl) (p v : Nat) : State := (nodeWords v).foldl (fun a e => a.setFld f p e.1 e.2) s

/-- The fields of a port that a master record writes. -/
def mdpRecordFlds (p : Nat) : List (Fl × Nat) := [(.MDP_PC_PRESENT_NODES, p), (.MDP_PC_DRIFT_NODES, p), (.MDP_PC_STATUS_STALE, p), (.MDP_PC_STATUS_CYCLE, p)]

/-- The state after the node sets of a master record. -/
def State.nodesShown (s : State) (p present drift : Nat) : State := (s.setNodes .MDP_PC_PRESENT_NODES p present).setNodes .MDP_PC_DRIFT_NODES p drift

/-- The state after the registers of a master record. -/
def State.recordShown (s : State) (p cycle present drift : Nat) : State :=
  (s.nodesShown p present drift).setFlds p 0 [(.MDP_PC_STATUS_STALE, 0), (.MDP_PC_STATUS_CYCLE, cycle)]

section
variable (s : State) (p : Nat)

/-- A node set changes the registers alone. -/
theorem State.setNodes_eq (f : Fl) (v : Nat) : ∃ l, s.setNodes f p v = { s with regs := l } := by
  unfold State.setNodes
  generalize nodeWords v = w
  induction w generalizing s with
  | nil => exact ⟨s.regs, rfl⟩
  | cons e w ih => exact ih (s.setFld f p e.1 e.2)
theorem State.SameFlds.setNodes {s u : State} {l : List (Fl × Nat)} (h : s.SameFlds u l) {f : Fl} {p : Nat} (hf : (f, p) ∈ l) (v : Nat) : s.SameFlds (u.setNodes f p v) l := by
  unfold State.setNodes
  generalize nodeWords v = w
  induction w generalizing u with
  | nil => exact h
  | cons e w ih => exact ih (h.setFld hf e.1 e.2)

variable (cycle present drift : Nat)

theorem State.nodesShown_eq : ∃ l, s.nodesShown p present drift = { s with regs := l } := by
  obtain ⟨l, hpresent⟩ := s.setNodes_eq p .MDP_PC_PRESENT_NODES present
  obtain ⟨m, hdrift⟩ := (s.setNodes .MDP_PC_PRESENT_NODES p present).setNodes_eq p .MDP_PC_DRIFT_NODES drift
  exact ⟨m, by rw [State.nodesShown, hdrift, hpresent]⟩
theorem State.sameFlds_nodesShown : s.SameFlds (s.nodesShown p present drift) (mdpRecordFlds p) :=
  ((State.SameFlds.refl s _).setNodes (by simp [mdpRecordFlds]) present).setNodes (by simp [mdpRecordFlds]) drift
theorem State.lNow_nodesShown : (s.nodesShown p present drift).lNow = s.lNow := by
  obtain ⟨_, h⟩ := s.nodesShown_eq p present drift
  exact (s.sameFlds_nodesShown p present drift).lNow (by rw [h]) (by simp [mdpRecordFlds])

theorem State.recordShown_eq : ∃ l, s.recordShown p cycle present drift = { s with regs := l } := by
  obtain ⟨_, h⟩ := s.nodesShown_eq p present drift
  rw [State.recordShown, h]
  exact ⟨_, rfl⟩
theorem State.sameFlds_recordShown : s.SameFlds (s.recordShown p cycle present drift) (mdpRecordFlds p) :=
  (s.sameFlds_nodesShown p present drift).setFlds p 0 _ (by simp [mdpRecordFlds])
theorem State.fld_recordShown {f : Fl} {v : Nat} (h : (f, v) ∈ [(.MDP_PC_STATUS_STALE, 0), (.MDP_PC_STATUS_CYCLE, cycle)]) :
    (s.recordShown p cycle present drift).fld f p = v % 2 ^ f.info.width := State.fld_setFlds_mem _ p 0 (by simp) h

/-- The state after a master record. -/
def State.recordApplied (st : Nat) : State := (s.recordShown p cycle present drift).updMdp p fun m => { m with record := some (st == 5, s.lNow) }

variable (st : Nat)

theorem State.pcApply_standby {s : State} {p : Nat} (h : s.pcState p = 6) : s.pcApply p st cycle present drift = s.recordApplied p cycle present drift st := by
  unfold State.pcApply
  rw [if_neg (not_not.mpr h), State.recordApplied, ← s.lNow_nodesShown p present drift]
  rfl
theorem State.fld_recordApplied (f : Fl) : (s.recordApplied p cycle present drift st).fld f p = (s.recordShown p cycle present drift).fld f p := rfl
theorem State.sameFlds_recordApplied : s.SameFlds (s.recordApplied p cycle present drift st) (mdpRecordFlds p) := State.SameFlds.regs (s.sameFlds_recordShown p cycle present drift) rfl
theorem State.record_recordApplied : ((s.recordApplied p cycle present drift st).pt p).mdp.record = some (st == 5, s.lNow) := by
  rw [State.recordApplied, State.updMdp, State.pt_updPt]

end

/-- A port state of a record tested as a number. -/
theorem fin_val_beq_five (st : Fin 7) : (st.val == 5) = (st == 5) := by revert st; decide

theorem snapshotApply_port {s : State} (o : s.Overlock) (hd : s.dev ≠ .off) (p : Port) (st : Fin 7) (cycle : BitVec 32) (present drift : BitVec 256) (hsh : s.dev = .shadow)
    (h6 : s.pcState p = 6) : ∃ t, exec (.snapshotApply (.port p st cycle present drift)) s = .next t ∧
    t.fld .MDP_PC_STATUS_CYCLE p = cycle.toNat ∧ t.on .MDP_PC_STATUS_STALE p = false ∧ (t.pt p).mdp.record = some (st == 5, s.lNow) ∧
    s.SameFlds t [(.MDP_PC_PRESENT_NODES, p), (.MDP_PC_DRIFT_NODES, p), (.MDP_PC_STATUS_STALE, p), (.MDP_PC_STATUS_CYCLE, p)] ∧ s.SameMem t := by
  have hput : s.snapshotApply (.port p st cycle present drift) = s.recordApplied p cycle.toNat present.toNat drift.toNat st := by
    rw [State.snapshotApply, if_pos hsh, State.pcApply_standby _ _ _ _ h6]
  obtain ⟨_, hregs⟩ := s.recordShown_eq p cycle.toNat present.toNat drift.toNat
  have hdev : (s.recordApplied p cycle.toNat present.toNat drift.toNat st).dev = s.dev := by rw [State.recordApplied, hregs]; rfl
  have hmem : s.SameMem (s.recordApplied p cycle.toNat present.toNat drift.toNat st) := by rw [State.recordApplied, hregs]; exact State.sameMem_of rfl rfl rfl
  refine ⟨_, by rw [exec_snapshotApply hd, hput], ?_, ?_, ?_, ?_, State.SameMem.settle hmem⟩
  · rw [State.fld_settle_of _ (by decide), State.fld_recordApplied, State.fld_recordShown (v := cycle.toNat) _ _ _ _ _ (by simp)]
    exact Nat.mod_eq_of_lt cycle.isLt
  · rw [State.on, State.fld_settle_of _ (by decide), State.fld_recordApplied, State.fld_recordShown (v := 0) _ _ _ _ _ (by simp)]
    rfl
  · rw [State.pt_settle, State.record_recordApplied, fin_val_beq_five]
  · exact (s.sameFlds_recordApplied p cycle.toNat present.toNat drift.toNat st).settle_of o hdev (by simp [mdpRecordFlds, Fl.settled])

/-! ## The obligation -/

/-- Settles O35, a part of the Mender at a time: timeouts, the sweep and latent errors; mirror records; the Lead's snapshot and its entries; the end of role; the record of a STANDBY port. -/
theorem menderTimesAndMirrors : Obligations.MenderTimesAndMirrors := by
  intro s i o hd
  exact ⟨recoveryResetTimeout_due o hd, recoveryResetTimeout_early o hd, menderSweep_visits o hd,
    fun he hr hp hgap hlog => latentTest_reports o hd he hr hp hgap hlog, fun he hr hp hgap => latentTest_passes o hd he hr hp hgap, latentReset_rebases o hd,
    fun num _ => mirrorRecordApply_gen o hd num, fun num _ => mirrorRecordApply_rcv o hd num, fun g num _ => mirrorRecordApply_again o hd num g,
    mirrorSnapshot_tells o hd, fun n hm => snapshotApply_gen o hd hm i n, fun v hm => snapshotApply_func o hd hm i v, endOfRoleApply_idle o hd,
    fun x a q h hlead hrun hrcv hgen hdest hq hadm => by subst hq; exact endOfRoleApply_releases o hd h hlead hrun hrcv hgen hdest hadm,
    fun p st cycle present drift => snapshotApply_port o hd p st cycle present drift⟩

end Sys2Proof.Machine
end

section
/-!
PROOFS. Queues and ports: what an update of one leaves of the others, and what the loss of a frame and the return of its cells leave of a port (R185, R187, R511).
-/
namespace Sys2Proof.Machine

/-! ## One queue, one port -/

theorem State.qu_of_queue {s t : State} (h : t.queue = s.queue) (q : Nat) : t.qu q = s.qu q := by unfold State.qu; rw [h]
theorem State.qu_updQu_ne (s : State) (f : QSt → QSt) {q k : Nat} (h : k ≠ q) : (s.updQu q f).qu k = s.qu k := Tbl.get_set_ne ({} : QSt) s.queue h _
theorem State.pt_updPt_ne (s : State) (f : PortSt → PortSt) {p k : Nat} (h : k ≠ p) : (s.updPt p f).pt k = s.pt k := Tbl.get_set_ne ({} : PortSt) s.port h _

/-- A reading of a queue that an update of some queue does not move. -/
theorem State.read_updQu {β : Type} {g : QSt → β} {f : QSt → QSt} (h : ∀ x, g (f x) = g x) (s : State) (q k : Nat) : g ((s.updQu q f).qu k) = g (s.qu k) := by
  by_cases e : k = q
  · subst e; rw [State.qu_updQu, h]
  · rw [s.qu_updQu_ne f e]

/-- A reading of a port that an update of some port does not move. -/
theorem State.read_updPt {β : Type} {g : PortSt → β} {f : PortSt → PortSt} (h : ∀ x, g (f x) = g x) (s : State) (p k : Nat) : g ((s.updPt p f).pt k) = g (s.pt k) := by
  by_cases e : k = p
  · subst e; rw [State.pt_updPt, h]
  · rw [s.pt_updPt_ne f e]

theorem qPort_local {p n : Nat} (h : n < 128) : qPort (128 * p + n) = p := by unfold qPort; omega

/-! ## What the return of cells leaves of a port -/

/-- A port without its MAC and its reserve account, the parts that the return of cells writes. -/
def PortSt.core (x : PortSt) : PortSt := { x with mac := {}, rsvUsed := 0 }

section
variable (s : State)

theorem State.core_fcUpdate (p : Nat) : (s.fcUpdate.pt p).core = (s.pt p).core := by
  refine foldl_keeps (fun a : State => (a.pt p).core) _ (fun a k => ?_) _ s
  have hmac : ∀ (u : State) (m : PortSt → MacSt), ((u.updPt k fun x => { x with mac := m x }).pt p).core = (u.pt p).core := fun u m => u.read_updPt (by intro x; rfl) k p
  unfold State.fcPort State.sendXoff State.sendXon State.queueCtrl
  dsimp only
  split
  · rfl
  split
  · exact (hmac _ _).trans (hmac _ _)
  split
  · exact (hmac _ _).trans (hmac _ _)
  · rfl
theorem State.core_acctAdd (q : Nat) (a : Acct) (c : Int) (p : Nat) : ((s.acctAdd q a c).pt p).core = (s.pt p).core := by
  cases a with
  | ctrl => rfl
  | reserve => exact s.read_updPt (by intro x; rfl) _ p
  | shared => rfl
theorem State.core_freeFrame (fr : FrameRec) (p : Nat) : ((s.freeFrame fr).pt p).core = (s.pt p).core :=
  (State.core_fcUpdate _ p).trans (State.core_acctAdd (s.updQu fr.q _) fr.q fr.acct _ p)

theorem State.lose_port (fr : FrameRec) (step reason scope status : Nat) : (s.lose fr step reason scope status).port = s.port := by
  unfold State.lose
  rw [(State.hostOnly_hostFate ..).port, (State.Counts.fate ..).port, State.pecEvent_port, State.bump_port]
theorem State.core_discardHeld (fr : FrameRec) (step reason scope status p : Nat) : ((s.discardHeld fr step reason scope status).pt p).core = (s.pt p).core :=
  (State.core_freeFrame _ fr p).trans (congrArg PortSt.core (State.pt_of_port (s.lose_port ..) p))

/-! ## What the return of cells leaves of the rest -/

theorem State.Admits.freeFrame (fr : FrameRec) : s.Admits (s.freeFrame fr) :=
  (((State.Admits.updQu s _ _).trans (.acctAdd ..)).trans (.updBo ..)).trans (.fcUpdate _)
theorem State.Admits.sojourn (fr : FrameRec) (l : Nat) : s.Admits (s.sojourn fr l) := .updQu s _ _

/-- A queue that becomes eligible again may take another start tag, and changes in nothing else (R232). -/
theorem State.Admits.retag (p n : Nat) : s.Admits (s.retag p n) := by
  unfold State.retag
  dsimp only
  split
  · exact .refl s
  · exact .updQu s _ _
theorem State.read_retag {β : Type} {g : QSt → β} (h : ∀ x v, g { x with tag := v } = g x) (p n k : Nat) : g ((s.retag p n).qu k) = g (s.qu k) := by
  unfold State.retag
  dsimp only
  split
  · rfl
  · exact s.read_updQu (fun x => h x _) _ k

end

/-- What a step of the store and forward plane leaves alone, at the end of its command. -/
theorem State.Admits.settled {s u : State} (h : s.Admits u) (o : s.Overlock) : s.SameFlds u.settle [] ∧ s.SameMem u.settle :=
  ⟨State.sameFlds_settled o h.flds h.dev, State.SameMem.settle h.mem⟩

end Sys2Proof.Machine
end

section
/-!
PROOFS. Q_CMD, the shaping calendar and the starvation rescue (R200, R201, R225, R227, R229, R233).
-/
namespace Sys2Proof.Machine

/-! ## Q_CMD (R200, R201) -/

/-- The fields that a command writes into Q_CMD. -/
abbrev qCmdFlds (p : Nat) : List (Fl × Nat) := [(.SHTL_Q_CMD_OP, p), (.SHTL_Q_CMD_ALL, p), (.SHTL_Q_CMD_QUEUE, p)]

/-- The state with a command's fields in Q_CMD. -/
def State.qCmdTaken (s : State) (p op : Nat) (all : Bool) (n : Nat) : State := s.setFlds p 0 [(.SHTL_Q_CMD_OP, op), (.SHTL_Q_CMD_ALL, b2n all), (.SHTL_Q_CMD_QUEUE, n)]

section
variable (s : State) (p op : Nat) (all : Bool) (n : Nat)

theorem State.sameFlds_qCmdTaken : s.SameFlds (s.qCmdTaken p op all n) (qCmdFlds p) := (State.SameFlds.refl s _).setFlds p 0 _ (by simp)
theorem State.qu_qCmdTaken (q : Nat) : (s.qCmdTaken p op all n).qu q = s.qu q := rfl
theorem State.busy_qCmdTaken : (s.qCmdTaken p op all n).on .SHTL_Q_CMD_BUSY p = s.on .SHTL_Q_CMD_BUSY p :=
  congrArg (· != 0) (s.sameFlds_qCmdTaken p op all n .SHTL_Q_CMD_BUSY p 0 (by simp) (Fl.not_shared (by decide)))

theorem State.qCmd_idle {s : State} {p : Nat} (h : s.on .SHTL_Q_CMD_BUSY p = false) (op : Nat) (all : Bool) (n : Nat) (k : State → State) :
    s.qCmd p op all n k = k (s.qCmdTaken p op all n) := by
  have hbusy := s.busy_qCmdTaken p op all n
  rw [h] at hbusy
  exact if_neg (by rw [Bool.not_eq_true]; exact hbusy)
theorem State.qCmd_busy {s : State} {p : Nat} (h : s.on .SHTL_Q_CMD_BUSY p = true) (op : Nat) (all : Bool) (n : Nat) (k : State → State) :
    s.qCmd p op all n k = (s.qCmdTaken p op all n).event .SHTL_BUF_EVENT_CMD_COLLIDE (boltOf p) :=
  if_pos ((s.busy_qCmdTaken p op all n).trans h)

end

/-- A queue whose largest depth and sojourn start again. -/
def QSt.cleared (x : QSt) : QSt := { x with maxCells := x.cells, maxSojourn := 0 }

section
variable {s : State} {p : Port} {r : Req} (hg : s.Grants r true .SHTL_Q_CMD p 0) (all : Bool) (n : Fin 128)
include hg

theorem exec_queueFlush : exec (.queueFlush r p all n) s = .next (s.qCmd p 0 all n fun s => s.flush p all n).settle := by
  rw [← State.writing_of hg fun s => s.qCmd p 0 all n fun s => s.flush p all n]; rfl
theorem exec_queueClearMax : exec (.queueClearMax r p all n) s = .next (s.qCmd p 1 all n fun s => s.clearMax p all n).settle := by
  rw [← State.writing_of hg fun s => s.qCmd p 1 all n fun s => s.clearMax p all n]; rfl

theorem queueFlush_collides (o : s.Overlock) (hb : s.on .SHTL_Q_CMD_BUSY p = true) : ∃ t, exec (.queueFlush r p all n) s = .next t ∧
    t.on .SHTL_BUF_EVENT_CMD_COLLIDE (boltOf p) = true ∧ t.queue = s.queue ∧ s.SameFlds t ((.SHTL_BUF_EVENT_CMD_COLLIDE, boltOf p) :: qCmdFlds p) ∧ s.SameMem t := by
  have hflds : s.SameFlds ((s.qCmdTaken p 0 all n).event .SHTL_BUF_EVENT_CMD_COLLIDE (boltOf p)) ((.SHTL_BUF_EVENT_CMD_COLLIDE, boltOf p) :: qCmdFlds p) :=
    ((s.sameFlds_qCmdTaken p 0 all n).mono (by simp)).event (.inl (by simp))
  refine ⟨_, by rw [exec_queueFlush hg, State.qCmd_busy hb], ?_, ?_, hflds.settle_of o (State.event_dev ..) (by simp [Fl.settled]), State.SameMem.settle (State.sameMem_of ?_ ?_ ?_)⟩
  · rw [State.on, State.fld_settle_of _ (by decide), State.fld_event_same _ _ _ (by decide) (by decide)]; rfl
  · rw [State.settle_queue, State.event_queue]; rfl
  · rw [State.event_localMem]; rfl
  · rw [State.event_dram]; rfl
  · rw [State.event_boot]; rfl

/-- CLEAR_MAX starts the largest depth and sojourn of its queue again (R201). -/
theorem queueClearMax_clears (o : s.Overlock) (hb : s.on .SHTL_Q_CMD_BUSY p = false) : ∃ t, exec (.queueClearMax r p false n) s = .next t ∧
    (t.qu (128 * p + n)).maxCells = (s.qu (128 * p + n)).cells ∧ (t.qu (128 * p + n)).maxSojourn = 0 ∧ (t.qu (128 * p + n)).frames = (s.qu (128 * p + n)).frames ∧
    (∀ q, q ≠ 128 * p.val + n → t.qu q = s.qu q) ∧ s.SameFlds t (qCmdFlds p) ∧ s.SameMem t := by
  have hclear : (s.qCmdTaken p 1 false n).clearMax p false n = (s.qCmdTaken p 1 false n).updQu (128 * p + n) QSt.cleared := rfl
  have hset : ((s.qCmdTaken p 1 false n).updQu (128 * p + n) QSt.cleared).settle.qu (128 * p + n) = (s.qu (128 * p + n)).cleared := by
    rw [State.qu_settle, State.qu_updQu, State.qu_qCmdTaken]
  refine ⟨_, by rw [exec_queueClearMax hg, State.qCmd_idle hb, hclear], congrArg QSt.maxCells hset, congrArg QSt.maxSojourn hset, (congrArg QSt.frames hset).trans rfl, fun q hq => ?_, ?_,
    State.SameMem.settle (State.sameMem_of rfl rfl rfl)⟩
  · rw [State.qu_settle, State.qu_updQu_ne _ _ hq, State.qu_qCmdTaken]
  · exact State.SameFlds.settle_of (State.SameFlds.regs (s.sameFlds_qCmdTaken p 1 false n) rfl) o rfl (by simp [Fl.settled])

end

/-! ## A flush (R200) -/

/-- What waits in the paths of a port for a queue, as lists. -/
theorem PortSt.pathWaits_eq (x : PortSt) (q : Nat) : x.pathWaits q =
    (x.express.toList.filter fun f => f.fr.q == q) ++ x.preempt.toList.filter fun f => (f.fr.q == q && !f.started) && !x.sendsPre := by
  unfold PortSt.pathWaits
  congr 1
  · cases x.express <;> simp [List.filter_cons]
  · cases x.preempt <;> simp [List.filter_cons, and_assoc]

/-- A frame that a path holds and has not begun to send is no longer there once its queue's frames are taken out. -/
theorem PortSt.pathWaits_withoutWaits (x : PortSt) (q : Nat) : (x.withoutWaits q).pathWaits q = [] := by
  have hsends : (x.withoutWaits q).sendsPre = x.sendsPre := rfl
  rw [PortSt.pathWaits_eq, hsends, List.append_eq_nil_iff]
  unfold PortSt.withoutWaits
  constructor
  · cases x.express with
    | none => rfl
    | some f => by_cases h : f.fr.q = q <;> simp [h]
  · cases x.preempt with
    | none => rfl
    | some f => by_cases h : f.fr.q = q <;> cases hs : f.started <;> cases x.sendsPre <;> simp [h, hs]

section
variable (s : State) (q : Nat)

theorem State.frames_flushFrame (f : FrameRec) (k : Nat) : ((s.flushFrame q f).qu k).frames = (s.qu k).frames := by
  unfold State.flushFrame
  rw [State.frames_of_queue (State.bump_queue ..), State.frames_of_queue (State.lose_queue ..), State.frames_of_queue (State.updPt_queue ..)]
  exact s.frames_updQu q (by intro x; rfl) k
theorem State.pathWaits_flushFrame (f : FrameRec) (p k : Nat) : ((s.flushFrame q f).pt p).pathWaits k = (s.pt p).pathWaits k := by
  unfold State.flushFrame
  rw [State.pt_of_port (State.bump_port ..), State.pt_of_port (State.lose_port ..)]
  exact State.read_updPt (g := fun x => x.pathWaits k) (by intro x; rfl) _ _ p
theorem State.Spared.flushFrame {β : Type} {g : State → β} (k : State.Spared g) (f : FrameRec) : g (s.flushFrame q f) = g s := by
  unfold State.flushFrame
  rw [k.bump, k.lose, k.updPt, k.updQu]

/-- The state in which the frames of a flushed queue have left it and its paths, and none of them is counted yet. -/
def State.flushTaken : State := (s.updPt (qPort q) fun x => x.withoutWaits q).updQu q fun x => { x with frames := [], urgent := none }

theorem State.flushQueue_eq : s.flushQueue q = (((s.pt (qPort q)).pathWaits q).map (·.fr) ++ (s.qu q).frames).foldl (fun a f => a.flushFrame q f) (s.flushTaken q) := rfl
theorem State.Spared.flushQueue {β : Type} {g : State → β} (k : State.Spared g) : g (s.flushQueue q) = g s := by
  rw [State.flushQueue_eq, foldl_keeps g _ fun a f => k.flushFrame a q f]
  exact (k.updQu ..).trans (k.updPt s ..)
theorem State.frames_flushQueue (k : Nat) : ((s.flushQueue q).qu k).frames = if k = q then [] else (s.qu k).frames := by
  rw [State.flushQueue_eq, foldl_keeps (fun a : State => (a.qu k).frames) _ fun a f => a.frames_flushFrame q f k]
  unfold State.flushTaken
  split
  next h => subst h; rw [State.qu_updQu]
  next h => exact congrArg QSt.frames (State.qu_updQu_ne _ _ h)
theorem State.pathWaits_flushQueue : ((s.flushQueue q).pt (qPort q)).pathWaits q = [] := by
  rw [State.flushQueue_eq, foldl_keeps (fun a : State => (a.pt (qPort q)).pathWaits q) _ fun a f => a.pathWaits_flushFrame q f _ q]
  have hpt : (s.flushTaken q).pt (qPort q) = (s.pt (qPort q)).withoutWaits q := s.pt_updPt (qPort q) fun x => x.withoutWaits q
  rw [hpt, PortSt.pathWaits_withoutWaits]

end

theorem queueFlush_empties {s : State} {p : Port} {n : Fin 128} {r : Req} (hg : s.Grants r true .SHTL_Q_CMD p 0) (hb : s.on .SHTL_Q_CMD_BUSY p = false) :
    ∃ t, exec (.queueFlush r p false n) s = .next t ∧ t.on .SHTL_Q_CMD_BUSY p = true ∧ (t.qu (128 * p + n)).frames = [] ∧ (t.pt p).pathWaits (128 * p + n) = [] ∧
      (∀ q, q ≠ 128 * p.val + n → (t.qu q).frames = (s.qu q).frames) := by
  generalize hu : (s.qCmdTaken p 0 false n).setFld .SHTL_Q_CMD_BUSY p 0 1 = u
  have hflush : (s.qCmdTaken p 0 false n).flush p false n = u.flushQueue (128 * p + n) := by subst hu; rfl
  have hport : qPort (128 * p + n) = p := qPort_local n.isLt
  refine ⟨_, by rw [exec_queueFlush hg, State.qCmd_idle hb, hflush], ?_, ?_, ?_, fun q hq => ?_⟩
  · have hkeep := (State.Spared.of_fld (f := .SHTL_Q_CMD_BUSY) (by decide) p 0).flushQueue u (128 * p + n)
    rw [State.on, State.fld_settle_of _ (by decide), hkeep, ← hu, State.fld_setFld_same]
    rfl
  · rw [State.qu_settle, State.frames_flushQueue, if_pos rfl]
  · have hwaits := u.pathWaits_flushQueue (128 * p + n)
    rw [hport] at hwaits
    rw [State.pt_settle, hwaits]
  · rw [State.qu_settle, State.frames_flushQueue, if_neg hq, ← hu]
    rfl

/-! ## The end of a flush (R200) -/

/-- The cells of a flushed frame return to their account and to the free list. -/
def State.cellsBack (s : State) (f : FrameRec) : State := (s.acctAdd f.q f.acct (-(f.cells : Int))).giveCells f

theorem PortSt.flushed_core (x : PortSt) : x.core.flushed = x.flushed := rfl

/-- The state in which every cell of a port's flushed frames is back, before the flow control conditions are acted on. -/
def State.allCellsBack (s : State) (p : Nat) : State := (s.pt p).flushed.foldl State.cellsBack (s.updPt p fun x => { x with flushed := [] })

section
variable (s : State) (p : Nat)

theorem State.Admits.cellsBack (f : FrameRec) : s.Admits (s.cellsBack f) := by
  unfold State.cellsBack State.giveCells
  exact (State.Admits.acctAdd ..).trans (.updBo ..)
theorem State.core_cellsBack (f : FrameRec) : ((s.cellsBack f).pt p).core = (s.pt p).core := by
  unfold State.cellsBack State.giveCells
  exact s.core_acctAdd f.q f.acct _ p
theorem State.Admits.allCellsBack : s.Admits (s.allCellsBack p) := by
  unfold State.allCellsBack
  exact (State.Admits.updPt s p (by intro x; rfl)).trans (State.Admits.foldl State.Admits.cellsBack _ _)
theorem State.flushed_allCellsBack : ((s.allCellsBack p).pt p).core.flushed = [] := by
  unfold State.allCellsBack
  rw [foldl_keeps (fun a : State => (a.pt p).core) State.cellsBack fun a f => a.core_cellsBack p f, State.pt_updPt]
  rfl

theorem State.flushReturn_eq : s.flushReturn p = (s.allCellsBack p).fcUpdate := by
  unfold State.flushReturn State.allCellsBack State.cellsBack
  rfl
theorem State.Admits.flushReturn : s.Admits (s.flushReturn p) := by
  rw [State.flushReturn_eq]
  exact (State.Admits.allCellsBack s p).trans (.fcUpdate _)
theorem State.flushed_flushReturn : ((s.flushReturn p).pt p).flushed = [] := by
  have hcore := (s.allCellsBack p).core_fcUpdate p
  rw [← State.flushReturn_eq] at hcore
  rw [← PortSt.flushed_core, hcore, State.flushed_allCellsBack]

end

section
variable {s : State} {p : Port} (hd : s.dev ≠ .off)
include hd

theorem exec_queueFlushDone : exec (.queueFlushDone p) s = .next (s.flushDone p).settle := by rw [← State.powered_of hd fun s => s.flushDone p]; rfl

theorem queueFlushDone_ends (o : s.Overlock) (hb : s.on .SHTL_Q_CMD_BUSY p = true) : ∃ t, exec (.queueFlushDone p) s = .next t ∧ t.on .SHTL_Q_CMD_BUSY p = false ∧
    t.on .SHTL_BUF_EVENT_FLUSH_DONE (boltOf p) = true ∧ (t.pt p).flushed = [] ∧ s.SameFlds t [(.SHTL_BUF_EVENT_FLUSH_DONE, boltOf p), (.SHTL_Q_CMD_BUSY, p)] ∧ s.SameMem t := by
  have hreturn := State.Admits.flushReturn s p
  have hempty := s.flushed_flushReturn p
  have hdone : s.flushDone p = ((s.flushReturn p).setFld .SHTL_Q_CMD_BUSY p 0 0).event .SHTL_BUF_EVENT_FLUSH_DONE (boltOf p) := if_pos hb
  rw [exec_queueFlushDone hd, hdone]
  generalize s.flushReturn p = u at hreturn hempty
  have hflds : s.SameFlds ((u.setFld .SHTL_Q_CMD_BUSY p 0 0).event .SHTL_BUF_EVENT_FLUSH_DONE (boltOf p)) [(.SHTL_BUF_EVENT_FLUSH_DONE, boltOf p), (.SHTL_Q_CMD_BUSY, p)] :=
    ((hreturn.flds.mono (by simp)).setFld (by simp) 0 0).event (.inl (by simp))
  refine ⟨_, rfl, ?_, ?_, ?_, hflds.settle_of o ((State.event_dev ..).trans hreturn.dev) (by simp [Fl.settled]), State.SameMem.settle ?_⟩
  · rw [State.on, State.fld_settle_of _ (by decide), State.fld_event _ _ _ _ _ (by decide) (by decide) (by decide), State.fld_setFld_same]
    rfl
  · rw [State.on, State.fld_settle_of _ (by decide), State.fld_event_same _ _ _ (by decide) (by decide)]
    rfl
  · rw [State.pt_settle, State.pt_of_port (State.event_port ..)]
    exact hempty
  · exact hreturn.mem.trans (State.sameMem_of (State.event_localMem ..) (State.event_dram ..) (congrArg BootSt.nvm (State.event_boot ..)))

end

/-! ## Q_SHAPE (R229) -/

section
variable {s : State} {p : Port} {n : Fin 128} {r : Req}

/-- A queue shaped anew keeps no tokens and no place in the calendar. -/
theorem State.Admits.shapeReset (s : State) (p n : Nat) : s.Admits (s.shapeReset p n) := by
  unfold State.shapeReset
  dsimp only
  split
  · exact (State.Admits.updQu ..).trans (.retag ..)
  · exact .updQu ..
theorem State.read_shapeReset {β : Type} {g : QSt → β} (hg : ∀ x v, g { x with tag := v } = g x) (s : State) (p n : Nat) :
    g ((s.shapeReset p n).qu (128 * p + n)) = g { s.qu (128 * p + n) with tok := 0, last := s.lNow, park := none } := by
  unfold State.shapeReset
  dsimp only
  split
  · rw [State.read_retag _ hg, State.qu_updQu]
  · rw [State.qu_updQu]

theorem exec_qShapeWrite (hg : s.Grants r true .SHTL_Q_SHAPE p n) (v : BitVec 64) : exec (.qShapeWrite r p n v) s = .next (s.shapeWrite p n v.toNat).settle := by
  rw [← State.writing_of hg fun s => s.shapeWrite p n v.toNat]; rfl

theorem qShapeWrite_restarts (o : s.Overlock) (hg : s.Grants r true .SHTL_Q_SHAPE p n) (v : BitVec 64) : ∃ t, exec (.qShapeWrite r p n v) s = .next t ∧
    t.fld .SHTL_Q_SHAPE_EN p n = bits v.toNat 63 63 ∧ t.fld .SHTL_Q_SHAPE_RATE p n = bits v.toNat 53 32 ∧ t.fld .SHTL_Q_SHAPE_BURST p n = bits v.toNat 23 0 ∧
    (t.qu (128 * p + n)).tok = 0 ∧ (t.qu (128 * p + n)).last = s.lNow ∧ (t.qu (128 * p + n)).park = none ∧
    s.SameFlds t [(.SHTL_Q_SHAPE_EN, p), (.SHTL_Q_SHAPE_RATE, p), (.SHTL_Q_SHAPE_BURST, p)] ∧ s.SameMem t := by
  generalize hl : [(Fl.SHTL_Q_SHAPE_EN, bits v.toNat 63 63), (.SHTL_Q_SHAPE_RATE, bits v.toNat 53 32), (.SHTL_Q_SHAPE_BURST, bits v.toNat 23 0)] = l
  have hshape : s.shapeWrite p n v.toNat = (s.setFlds p n l).shapeReset p n := by subst hl; rfl
  have hreset := State.Admits.shapeReset (s.setFlds p n l) p n
  have hset : s.SameFlds (s.setFlds p n l) [(.SHTL_Q_SHAPE_EN, p), (.SHTL_Q_SHAPE_RATE, p), (.SHTL_Q_SHAPE_BURST, p)] := (State.SameFlds.refl s _).setFlds p n l (by simp [← hl])
  have hnow : (s.setFlds p n l).lNow = s.lNow := hset.lNow (State.setFlds_time ..) (by simp)
  have hfld : ∀ {f : Fl}, (f, bits v.toNat f.info.hi f.info.lo) ∈ l → ¬f.settled → ¬f.shared → (s.shapeWrite p n v.toNat).settle.fld f p n = bits v.toNat f.info.hi f.info.lo := fun hm hs hsh => by
    rw [State.fld_settle_of _ hs, hshape, hreset.flds _ p n (by simp) hsh, State.fld_setFlds_mem _ p n (by rw [← hl]; simp) hm, bits_mod_width]
  have hqu : ∀ {β : Type} (g : QSt → β), (∀ x v, g { x with tag := v } = g x) → g ((s.shapeWrite p n v.toNat).settle.qu (128 * p + n)) = g { s.qu (128 * p + n) with tok := 0, last := s.lNow, park := none } :=
    fun g hg => by rw [State.qu_settle, hshape, State.read_shapeReset hg, hnow, State.qu_of_queue (State.setFlds_queue ..)]
  refine ⟨_, exec_qShapeWrite hg v, hfld (f := .SHTL_Q_SHAPE_EN) (by simp [← hl]; rfl) (by decide) (Fl.not_shared (by decide)), hfld (f := .SHTL_Q_SHAPE_RATE) (by simp [← hl]; rfl) (by decide) (Fl.not_shared (by decide)),
    hfld (f := .SHTL_Q_SHAPE_BURST) (by simp [← hl]; rfl) (by decide) (Fl.not_shared (by decide)), hqu QSt.tok fun _ _ => rfl, hqu QSt.last fun _ _ => rfl, hqu QSt.park fun _ _ => rfl, ?_, ?_⟩
  · rw [hshape]
    exact State.SameFlds.settle_of (hset.trans (hreset.flds.mono (by simp))) o (hreset.dev.trans (State.setFlds_dev ..)) (by simp [Fl.settled])
  · rw [hshape]
    exact State.SameMem.settle ((State.sameMem_of (State.setFlds_localMem ..) (State.setFlds_dram ..) (congrArg BootSt.nvm (State.setFlds_boot ..))).trans hreset.mem)

end

/-! ## The calendar (R227) -/

/-- A fold whose step at `k` leads from `Q` to `P`, and whose other steps keep both, reaches `P` where the list holds `k`. -/
theorem foldl_reaches {σ α : Type} {f : σ → α → σ} {Q P : σ → Prop} {k : α} (hQ : ∀ a, Q a → P (f a k)) (hP : ∀ a, P a → P (f a k))
    (hother : ∀ a x, x ≠ k → (Q a → Q (f a x)) ∧ (P a → P (f a x))) {l : List α} (hk : k ∈ l) {s : σ} (h : Q s) : P (l.foldl f s) := by
  have hstay : ∀ (l : List α) (a : σ), P a → P (l.foldl f a) := by
    intro l
    induction l with
    | nil => exact fun _ ha => ha
    | cons x l ih =>
      intro a ha
      by_cases e : x = k
      · subst e; exact ih _ (hP a ha)
      · exact ih _ ((hother a x e).2 ha)
  induction l generalizing s with
  | nil => simp at hk
  | cons x l ih =>
    by_cases e : x = k
    · subst e; exact hstay l _ (hQ s h)
    · exact ih ((List.mem_cons.mp hk).resolve_left fun hx => e hx.symm) ((hother s x e).1 h)

/-- A parked queue that passes a test stands among those of its Bolt that do. -/
theorem State.mem_parkedIn {s : State} {q b : Nat} {y : Park} {f : Park → Bool} (hb : boltOf (qPort q) = b) (hy : (s.qu q).park = some y) (hf : f y = true) : q ∈ s.parkedIn b f := by
  have hentry : ∀ t : Tbl QSt, (t.get {} q).park = some y → ∃ e ∈ t, e.1 = q ∧ e.2.park = some y := by
    intro t
    induction t with
    | nil => intro h; cases h
    | cons e t ih =>
      obtain ⟨k, x⟩ := e
      intro h
      unfold Tbl.get at h
      split at h
      next hk => exact ⟨(k, x), by simp, hk.symm, h⟩
      next =>
        obtain ⟨e, he, heq⟩ := ih h
        exact ⟨e, List.mem_cons_of_mem _ he, heq⟩
  obtain ⟨e, he, hq, hpark⟩ := hentry s.queue hy
  refine List.mem_map.mpr ⟨e, List.mem_filter.mpr ⟨he, ?_⟩, hq⟩
  rw [hq, hpark]
  simp [hb, hf]

section
variable {s : State} {b : Bolt} (hd : s.dev ≠ .off)
include hd

theorem exec_calendarCoarseVisit : exec (.calendarCoarseVisit b) s = .next (s.coarseVisit b).settle := by rw [← State.powered_of hd fun s => s.coarseVisit b]; rfl
theorem exec_calendarFineDue : exec (.calendarFineDue b) s = .next (s.fineDue b).settle := by rw [← State.powered_of hd fun s => s.fineDue b]; rfl

end

/-- A visit of a coarse slot moves a parked entry of it: to the fine calendar on its last lap, a lap on before. -/
def Park.visited (y : Park) : Park := if y.laps = 0 then { y with fine := true, slot := y.elig / 8 % 4096 } else { y with laps := y.laps - 1 }

/-- The queue of a coarse slot that is visited. -/
def State.visitQueue (s : State) (q : Nat) : State := s.updQu q fun x => { x with park := x.park.map Park.visited }

section
variable {s : State} (o : s.Overlock) (hd : s.dev ≠ .off) {b : Bolt} {q : Nat} {y : Park} (hbolt : boltOf (qPort q) = b) (hpark : (s.qu q).park = some y)
include o hd hbolt hpark

theorem calendarCoarseVisit_passesOn (hnew : (s.bo b).coarse ≠ some (s.lNs / 32768)) (hfine : y.fine = false) (hslot : y.slot = s.lNs / 32768 % 4096) (hlaps : y.laps = 0) :
    ∃ t, exec (.calendarCoarseVisit b) s = .next t ∧ (t.qu q).park = some { y with fine := true, slot := y.elig / 8 % 4096 } ∧
      (t.bo b).coarse = some (s.lNs / 32768) ∧ s.SameFlds t [] ∧ s.SameMem t := by
  generalize hu : (s.updBo b fun x => { x with coarse := some (s.lNs / 32768) }) = u
  generalize hl : (u.parkedIn b fun a => !a.fine && a.slot == s.lNs / 32768 % 4096) = l
  have hvisit : s.coarseVisit b = l.foldl State.visitQueue u := by
    subst hl hu
    exact if_neg hnew
  have hmem : q ∈ l := by
    subst hl hu
    exact State.mem_parkedIn hbolt hpark (by simp [hfine, hslot])
  have hbolts : (l.foldl State.visitQueue u).bolt = u.bolt := foldl_keeps State.bolt State.visitQueue (fun _ _ => rfl) l u
  have hadmits : s.Admits (l.foldl State.visitQueue u) := by
    subst hu
    exact (State.Admits.updBo ..).trans (State.Admits.foldl (fun a _ => .updQu a _ _) l _)
  refine ⟨_, by rw [exec_calendarCoarseVisit hd, hvisit], ?_, ?_, hadmits.settled o⟩
  · rw [State.qu_settle]
    refine foldl_reaches (Q := fun a : State => (a.qu q).park = some y) (P := fun a : State => (a.qu q).park = some { y with fine := true, slot := y.elig / 8 % 4096 })
      (fun a ha => ?_) (fun a ha => ?_) (fun a x hx => ?_) hmem (by subst hu; exact hpark)
    · rw [State.visitQueue, State.qu_updQu, ha]
      simp [Park.visited, hlaps]
    · rw [State.visitQueue, State.qu_updQu, ha]
      simp [Park.visited, hlaps]
    · rw [State.visitQueue, State.qu_updQu_ne _ _ (Ne.symm hx)]
      exact ⟨id, id⟩
  · rw [State.bo, State.settle_bolt, hbolts, ← hu]
    exact congrArg BoltSt.coarse (Tbl.get_set_same ({} : BoltSt) s.bolt b _)

theorem calendarFineDue_unparks (hfine : y.fine = true) (hdue : y.elig * nsT ≤ s.lNow) :
    ∃ t, exec (.calendarFineDue b) s = .next t ∧ (t.qu q).park = none ∧ (t.qu q).frames = (s.qu q).frames ∧ s.SameFlds t [] ∧ s.SameMem t := by
  generalize hl : (s.parkedIn b fun a => a.fine && decide (a.elig * nsT ≤ s.lNow)) = l
  have hdueIs : s.fineDue b = l.foldl (fun a k => (a.updQu k fun x => { x with park := none }).retag (qPort k) (qLocal k)) s := by subst hl; rfl
  have hmem : q ∈ l := by
    subst hl
    exact State.mem_parkedIn hbolt hpark (by simp [hfine, hdue])
  have hadmits : s.Admits (s.fineDue b) := by
    rw [hdueIs]
    exact State.Admits.foldl (fun a _ => (State.Admits.updQu a _ _).trans (.retag ..)) l s
  refine ⟨_, exec_calendarFineDue hd, ?_, ?_, hadmits.settled o⟩
  · rw [State.qu_settle, hdueIs]
    refine foldl_reaches (Q := fun _ => True) (P := fun a : State => (a.qu q).park = none) (fun a _ => ?_) (fun a _ => ?_) (fun a x hx => ⟨id, fun ha => ?_⟩) hmem trivial
    · rw [State.read_retag (g := QSt.park) _ (fun _ _ => rfl), State.qu_updQu]
    · rw [State.read_retag (g := QSt.park) _ (fun _ _ => rfl), State.qu_updQu]
    · rw [State.read_retag (g := QSt.park) _ (fun _ _ => rfl), State.qu_updQu_ne _ _ (Ne.symm hx), ha]
  · rw [State.qu_settle, hdueIs]
    refine foldl_keeps (fun a : State => (a.qu q).frames) _ (fun a k => ?_) l s
    rw [State.read_retag (g := QSt.frames) _ (fun _ _ => rfl)]
    exact a.frames_updQu k (by intro x; rfl) q

end

/-! ## Starvation rescue (R233) -/

/-- The queue `n` of a port evaluated for rescue at an L time. -/
def State.rescueMark (s : State) (p now n : Nat) : State := if s.rescueDue p n then s.updQu (128 * p + n) fun x => { x with urgent := some now, opp := false } else s

theorem State.rescueEval_eq (s : State) (p : Nat) : s.rescueEval p = (List.range 128).foldl (fun a n => a.rescueMark p s.lNow n) s := rfl
theorem State.Admits.rescueMark (s : State) (p now n : Nat) : s.Admits (s.rescueMark p now n) := by
  unfold State.rescueMark
  split
  · exact .updQu ..
  · exact .refl s
theorem State.rescueDue_updQu_ne (s : State) (f : QSt → QSt) {p n q : Nat} (h : 128 * p + n ≠ q) : (s.updQu q f).rescueDue p n = s.rescueDue p n := by
  unfold State.rescueDue
  rw [s.qu_updQu_ne f h]
  rfl

theorem exec_rescueEvaluate {s : State} {p : Port} (hd : s.dev ≠ .off) : exec (.rescueEvaluate p) s = .next (s.rescueEval p).settle := by rw [← State.powered_of hd fun s => s.rescueEval p]; rfl

theorem rescueEvaluate_marks {s : State} (o : s.Overlock) (hd : s.dev ≠ .off) {p : Port} {n : Fin 128} (hdue : s.rescueDue p n = true) :
    ∃ t, exec (.rescueEvaluate p) s = .next t ∧ (t.qu (128 * p + n)).urgent = some s.lNow ∧ (t.qu (128 * p + n)).frames = (s.qu (128 * p + n)).frames ∧ s.SameFlds t [] ∧ s.SameMem t := by
  have hadmits : s.Admits (s.rescueEval p) := State.Admits.foldl (fun a n => State.Admits.rescueMark a p s.lNow n) _ s
  refine ⟨_, exec_rescueEvaluate hd, ?_, ?_, hadmits.settled o⟩
  · rw [State.qu_settle, State.rescueEval_eq]
    refine foldl_reaches (Q := fun a : State => a.rescueDue p n = true) (P := fun a : State => (a.qu (128 * p + n)).urgent = some s.lNow) (fun a ha => ?_) (fun a ha => ?_) (fun a m hm => ?_)
      (List.mem_range.mpr n.isLt) hdue
    · rw [State.rescueMark, if_pos ha, State.qu_updQu]
    · unfold State.rescueMark
      split
      · rw [State.qu_updQu]
      · exact ha
    · have hq : 128 * p.val + n ≠ 128 * p + m := by omega
      unfold State.rescueMark
      split
      · rw [State.rescueDue_updQu_ne _ _ hq, State.qu_updQu_ne _ _ hq]
        exact ⟨id, id⟩
      · exact ⟨id, id⟩
  · rw [State.qu_settle, State.rescueEval_eq]
    refine foldl_keeps (fun a : State => (a.qu (128 * p + n)).frames) _ (fun a m => ?_) _ s
    unfold State.rescueMark
    split
    · exact a.frames_updQu _ (by intro x; rfl) _
    · rfl

/-! ## The obligation -/

/-- Settles O19: the queue commands, the end of a flush, Q_SHAPE, the two calendars and the rescue, one lemma each. -/
theorem queueCommandsAndCalendar : Obligations.QueueCommandsAndCalendar := by
  intro s p n o
  exact ⟨fun _ hg hb => queueFlush_empties hg hb, fun _ hg hb all => queueFlush_collides hg all n o hb, fun hd hb => queueFlushDone_ends hd o hb,
    fun _ hg hb => queueClearMax_clears hg n o hb, fun _ v hg => qShapeWrite_restarts o hg v,
    fun _ _ _ hd hnew hbolt hpark hfine hslot hlaps => calendarCoarseVisit_passesOn o hd hbolt hpark hnew hfine hslot hlaps,
    fun _ _ _ hd hbolt hpark hfine hdue => calendarFineDue_unparks o hd hbolt hpark hfine hdue, fun hd hdue => rescueEvaluate_marks o hd hdue⟩

end Sys2Proof.Machine
end

section
/-!
PROOFS. Ends, cuts and holds of transmissions, the resumption of a fragment, and RUN written 0 (R185, R250, R255, R260, R261, R263).
-/
namespace Sys2Proof.Machine

/-! ## A transmission leaves the wire (R185, R516) -/

section
variable (s : State) (p : Nat)

theorem State.Admits.txEnded (good : Bool) : s.Admits (s.txEnded p good) := by
  have hslot : ∀ x, s.Admits (s.setSlotAcct p x) := fun x => .of_regs rfl rfl rfl
  unfold State.txEnded
  dsimp only
  split
  · exact hslot _
  · exact (hslot _).trans (.bump ..)
theorem State.txEnded_port (good : Bool) : (s.txEnded p good).port = s.port := by
  unfold State.txEnded
  dsimp only
  split
  · rfl
  · exact State.portCount_port ..

/-- The end of a transmission counts its slots, in word 59 or 60 of its port (R516). -/
theorem State.ctr_txEnded (good : Bool) {w : Nat} (h59 : w ≠ portWord p 59) (h60 : w ≠ portWord p 60) : (s.txEnded p good).ctr w = s.ctr w := by
  unfold State.txEnded
  dsimp only
  split
  · rfl
  · refine State.ctr_bump_ne _ ?_ _
    cases good
    · exact h60
    · exact h59

/-- The state in which a transmission has left the wire: its port is changed by `f`, its slots are counted, and its bytes stand in the log of the pins. -/
def State.wireLeft (f : PortSt → PortSt) (good : Bool) (o : Out) : State := ((s.updPt p f).txEnded p good).emit o

theorem State.told_wireLeft {f : PortSt → PortSt} (h : ∀ x, (f x).tsq = x.tsq) (good : Bool) (o : Out) : State.Told [o] s (s.wireLeft p f good o) :=
  ((State.Admits.updPt s p h).trans (.txEnded ..)).told.trans (.emit ..)
theorem State.pt_wireLeft (f : PortSt → PortSt) (good : Bool) (o : Out) : (s.wireLeft p f good o).pt p = f (s.pt p) := by
  have hport : (s.wireLeft p f good o).port = (s.updPt p f).port := State.txEnded_port ..
  rw [State.pt_of_port hport, State.pt_updPt]
theorem State.ctr_wireLeft (f : PortSt → PortSt) (good : Bool) (o : Out) {w : Nat} (h59 : w ≠ portWord p 59) (h60 : w ≠ portWord p 60) : (s.wireLeft p f good o).ctr w = s.ctr w :=
  State.ctr_txEnded _ p good h59 h60

end

/-- What a step of the store and forward plane leaves alone, its lines in the log apart, at the end of its command. -/
theorem State.Told.atEnd {l : List Out} {s u : State} (h : State.Told l s u) (o : s.Overlock) : s.SameFlds u.settle [] ∧ s.SameMem u.settle :=
  ⟨State.sameFlds_settled o h.flds h.dev, State.SameMem.settle h.mem⟩
theorem State.Told.on {l : List Out} {s u : State} (h : State.Told l s u) {f : Fl} (hf : f ∉ [.INTC_PENDING_PEND, .INTC_PEND_CNT_COUNT, .TAPE_EVENT_OVF]) (i j : Nat) : u.on f i j = s.on f i j :=
  congrArg (· != 0) (h.flds f i j (by simp) (Fl.not_shared hf))

theorem portWord_ne_of {p v w : Nat} (h : v ≠ w) : portWord p v ≠ portWord p w := (portWord_inj p).not.mpr h

theorem State.disableAfter_of {s : State} {p : Nat} (h : (s.pt p).mac.disabling = false) : s.disableAfter p = s := by
  unfold State.disableAfter
  rw [h]
  rfl

/-! ## The end of a control frame (R185, R287) -/

section
variable {s : State} {p : Port} (hd : s.dev ≠ .off)
include hd

theorem exec_transmitComplete : exec (.transmitComplete p) s = .next (s.transmitDone p).settle := by rw [← State.powered_of hd fun s => s.transmitDone p]; rfl
theorem exec_hemCut : exec (.hemCut p) s = .next (s.hemCut p).settle := by rw [← State.powered_of hd fun s => s.hemCut p]; rfl
theorem exec_holdApply : exec (.holdApply p) s = .next (s.holdApply p).settle := by rw [← State.powered_of hd fun s => s.holdApply p]; rfl
theorem exec_holdRelease : exec (.holdRelease p) s = .next (s.holdRelease p).settle := by rw [← State.powered_of hd fun s => s.holdRelease p]; rfl
theorem exec_fragmentCut : exec (.fragmentCut p) s = .next (s.fragmentCut p).settle := by rw [← State.powered_of hd fun s => s.fragmentCut p]; rfl
theorem exec_fragmentResume : exec (.fragmentResume p) s = .next (s.fragmentResume p).settle := by rw [← State.powered_of hd fun s => s.fragmentResume p]; rfl

end

/-- A port whose transmission has ended at an L time. -/
def PortSt.idle (x : PortSt) (endL : Nat) : PortSt := { x with tx := none, lastEnd := endL }

/-- A control frame counted as sent, with its 64 bytes. -/
def State.ctrlCounted (s : State) (p : Nat) : State := ((s.portCount p 38).portCount p 33).portCount p 34 64

theorem State.Admits.ctrlCounted (s : State) (p : Nat) : s.Admits (s.ctrlCounted p) := ((State.Admits.bump ..).trans (.bump ..)).trans (.bump ..)
theorem State.ctrlCounted_port (s : State) (p : Nat) : (s.ctrlCounted p).port = s.port := by
  rw [State.ctrlCounted, State.portCount_port, State.portCount_port, State.portCount_port]
theorem State.ctr_ctrlCounted (s : State) (p : Nat) : (s.ctrlCounted p).ctr (portWord p 38) = ctrAdd (s.ctr (portWord p 38)) 1 := by
  unfold State.ctrlCounted State.portCount
  rw [State.ctr_bump_ne _ (portWord_ne_of (by decide)), State.ctr_bump_ne _ (portWord_ne_of (by decide)), State.ctr_bump_same]

theorem transmitComplete_control {s : State} {p : Port} (o : s.Overlock) {x : Tx} (hd : s.dev ≠ .off) (htx : (s.pt p).tx = some x) (hk : x.kind = .control) (hfinal : x.final = true) (hend : x.endL ≤ s.lNow)
    (hdis : (s.pt p).mac.disabling = false) : ∃ t, exec (.transmitComplete p) s = .next t ∧
    (t.pt p).tx = none ∧ (t.pt p).lastEnd = x.endL ∧ t.ctr (portWord p 38) = ctrAdd (s.ctr (portWord p 38)) 1 ∧ s.SameFlds t [] ∧ s.SameMem t := by
  generalize hu : s.wireLeft p (fun y => y.idle x.endL) x.good (.wire p x.kind.code x.start (x.path.bytes.drop x.path.sent) x.good) = u
  have hpt : ((u.ctrlCounted p).pt p) = (s.pt p).idle x.endL := by rw [State.pt_of_port (u.ctrlCounted_port p), ← hu, State.pt_wireLeft]
  have hdone : s.transmitDone p = u.ctrlCounted p := by
    have hgoes : s.transmitDone p = (u.ctrlCounted p).disableAfter p := by
      subst hu
      unfold State.transmitDone
      rw [htx]
      simp only [hk, hfinal]
      exact if_neg (by simp [hend])
    rw [hgoes, State.disableAfter_of (by rw [hpt]; exact hdis)]
  have htold := (s.told_wireLeft p (f := fun y => y.idle x.endL) (fun _ => rfl) x.good (.wire p x.kind.code x.start (x.path.bytes.drop x.path.sent) x.good)).trans (State.Admits.ctrlCounted _ p).told
  rw [hu] at htold
  refine ⟨_, by rw [exec_transmitComplete hd, hdone], ?_, ?_, ?_, htold.atEnd o⟩
  · rw [State.pt_settle, hpt]; rfl
  · rw [State.pt_settle, hpt]; rfl
  · rw [State.ctr_settle, State.ctr_ctrlCounted, ← hu, State.ctr_wireLeft _ _ _ _ _ (portWord_ne_of (by decide)) (portWord_ne_of (by decide))]

/-! ## The guardian's cut (R260, R261) -/

/-- A block or a cut of the guardian, counted and flagged, with the guardian's record of it. -/
def State.guardNoted (s : State) (p : Nat) (cut : Bool) (g : GuardSt) : State :=
  ((s.portCount p (if cut then 48 else 47)).event (if cut then .SELV_EVENT_GUARD_CUT else .SELV_EVENT_GUARD_BLOCK) p).updPt p fun x => { x with guard := g }

/-- Fewer than sixteen reports in 1 ms raise a Degraded fault at most (R261). -/
theorem State.guardReport_of {s : State} {p : Nat} (h : (s.pt p).guard.blocks.length < 15) (cut : Bool) :
    ∃ g, s.guardReport p cut = s.guardNoted p cut g ∨ s.guardReport p cut = (s.guardNoted p cut g).fault 2 5 p := by
  have hfew : ¬16 ≤ (((s.pt p).guard.blocks.filter fun t => decide (s.lNow ≤ t + 1000000 * nsT)) ++ [s.lNow]).length := by
    have hle := List.length_filter_le (fun t => decide (s.lNow ≤ t + 1000000 * nsT)) (s.pt p).guard.blocks
    rw [List.length_append, List.length_singleton]
    omega
  unfold State.guardReport
  dsimp only
  rw [if_neg hfew]
  split
  · exact ⟨_, .inr rfl⟩
  · exact ⟨_, .inl rfl⟩

section
variable (s : State) (p : Port) (g : GuardSt)

theorem State.guardNoted_dev (cut : Bool) : (s.guardNoted p cut g).dev = s.dev := (State.event_dev ..).trans (State.portCount_dev ..)
theorem State.tx_guardNoted (cut : Bool) : ((s.guardNoted p cut g).pt p).tx = (s.pt p).tx := by
  rw [State.guardNoted, State.pt_updPt, State.pt_of_port (State.event_port ..), State.pt_of_port (State.portCount_port ..)]
theorem State.sameMem_guardNoted (cut : Bool) : s.SameMem (s.guardNoted p cut g) :=
  State.sameMem_of ((State.event_localMem ..).trans (State.portCount_localMem ..)) ((State.event_dram ..).trans (State.portCount_dram ..))
    (congrArg BootSt.nvm ((State.event_boot ..).trans (State.portCount_boot ..)))
theorem State.on_guardNoted : (s.guardNoted p true g).on .SELV_EVENT_GUARD_CUT p = true :=
  congrArg (· != 0) (State.fld_event_same (s.portCount p 48) .SELV_EVENT_GUARD_CUT p (by decide) (by decide))
theorem State.ctr_guardNoted : (s.guardNoted p true g).ctr (portWord p 48) = ctrAdd (s.ctr (portWord p 48)) 1 := by
  have htape : (s.guardNoted p true g).tape = (s.portCount p 48).tape := State.event_tape ..
  rw [State.ctr, htape]
  exact s.ctr_bump_same _ 1

end

theorem State.SameMem.fault (s : State) {sev : Nat} (hs : sev ≠ 3) (sm unit : Nat) : s.SameMem (s.fault sev sm unit) :=
  State.sameMem_of (State.fault_localMem _ hs ..) (State.fault_dram _ hs ..) (congrArg BootSt.nvm (State.fault_boot _ hs ..))

/-- A cut reported: flagged and counted, the port idle as it was, and the device where it was, whether or not a Degraded fault is due. -/
theorem State.guardReport_cut {s : State} {p : Port} (h : (s.pt p).guard.blocks.length < 15) : ((s.guardReport p true).pt p).tx = (s.pt p).tx ∧ (s.guardReport p true).on .SELV_EVENT_GUARD_CUT p = true ∧
    (s.guardReport p true).ctr (portWord p 48) = ctrAdd (s.ctr (portWord p 48)) 1 ∧ (s.guardReport p true).dev = s.dev ∧ s.SameMem (s.guardReport p true) := by
  obtain ⟨g, e | e⟩ := State.guardReport_of h true
  · rw [e]
    exact ⟨s.tx_guardNoted p g true, s.on_guardNoted p g, s.ctr_guardNoted p g, s.guardNoted_dev p g true, s.sameMem_guardNoted p g true⟩
  · have hflds : (s.guardNoted p true g).SameFlds ((s.guardNoted p true g).fault 2 5 p) faultFlds := (State.SameFlds.refl _ _).fault (fun _ h => h) (by decide) 5 p
    have hon : ((s.guardNoted p true g).fault 2 5 p).on .SELV_EVENT_GUARD_CUT p = (s.guardNoted p true g).on .SELV_EVENT_GUARD_CUT p :=
      congrArg (· != 0) (hflds .SELV_EVENT_GUARD_CUT p 0 (by simp [faultFlds]) (Fl.not_shared (by decide)))
    rw [e, hon, State.ctr_fault _ (by decide) _ _ (portWord_ne_devWord p.isLt (by decide) _).symm, State.fault_dev _ (by decide), State.pt_of_port (State.fault_port _ (by decide) ..)]
    exact ⟨s.tx_guardNoted p g true, s.on_guardNoted p g, s.ctr_guardNoted p g, s.guardNoted_dev p g true, (s.sameMem_guardNoted p g true).trans (State.SameMem.fault _ (by decide) 5 p)⟩

theorem hemCut_control {s : State} {p : Port} {x : Tx} (hd : s.dev ≠ .off) (htx : (s.pt p).tx = some x) (hk : x.kind = .control) (hhit : s.hemHit p x = true) (hfew : (s.pt p).guard.blocks.length < 15) :
    ∃ t, exec (.hemCut p) s = .next t ∧ (t.pt p).tx = none ∧ t.on .SELV_EVENT_GUARD_CUT p = true ∧ t.ctr (portWord p 48) = ctrAdd (s.ctr (portWord p 48)) 1 ∧ t.dev = s.dev ∧ s.SameMem t := by
  generalize ho : Out.wire p x.kind.code x.start ((x.path.bytes.drop x.path.sent).take (s.sentBytes p x)) false = out
  generalize hu : s.wireLeft p (fun y => y.idle (max s.lNow x.startL)) false out = u
  have hcut : s.hemCut p = u.guardReport p true := by
    have habort : s.abortTx p 48 = u := by
      subst hu ho
      unfold State.abortTx
      rw [htx]
      simp only [hk]
      rfl
    unfold State.hemCut
    rw [htx]
    simp only [hhit, if_true, habort]
  have hpt : u.pt p = (s.pt p).idle (max s.lNow x.startL) := by rw [← hu, State.pt_wireLeft]
  have htold : State.Told [out] s u := by rw [← hu]; exact s.told_wireLeft p (f := fun y => y.idle (max s.lNow x.startL)) (fun _ => rfl) false out
  have hctr : u.ctr (portWord p 48) = s.ctr (portWord p 48) := by rw [← hu, State.ctr_wireLeft _ _ _ _ _ (portWord_ne_of (by decide)) (portWord_ne_of (by decide))]
  obtain ⟨htx', hon, hc, hdev, hmem⟩ := State.guardReport_cut (s := u) (p := p) (by rw [hpt]; exact hfew)
  refine ⟨_, by rw [exec_hemCut hd, hcut], ?_, ?_, ?_, ?_, State.SameMem.settle (htold.mem.trans hmem)⟩
  · rw [State.pt_settle, htx', hpt]; rfl
  · rw [State.on, State.fld_settle_of _ (by decide)]; exact hon
  · rw [State.ctr_settle, hc, hctr]
  · rw [State.settle_dev, hdev, htold.dev]

/-! ## Holds (R255) -/

theorem State.Admits.planCut (s : State) (p : Nat) (x : Tx) (n : Nat) : s.Admits (s.planCut p x n) := .updPt s p (by intro y; rfl)
theorem State.holdApplied_planCut (s : State) (p : Nat) (x : Tx) (n : Nat) : ((s.planCut p x n).pt p).holdApplied = (s.pt p).holdApplied := by rw [State.planCut, State.pt_updPt]

/-- A hold that applies is taken on, and at most the planned end of the transmission under way moves beside. -/
theorem State.holdApply_of {s : State} {p : Nat} (h : s.holdNow p = true) : ((s.holdApply p).pt p).holdApplied = true ∧ s.Admits (s.holdApply p) := by
  generalize hu : (s.updPt p fun x => { x with holdApplied := true }) = u
  have htaken : (u.pt p).holdApplied = true := by rw [← hu, State.pt_updPt]
  have hadmits : s.Admits u := hu ▸ .updPt s p (by intro x; rfl)
  unfold State.holdApply
  rw [h, hu]
  simp only [Bool.not_true, Bool.false_eq_true, if_false]
  repeat' split
  · exact ⟨htaken, hadmits⟩
  · exact ⟨(u.holdApplied_planCut ..).trans htaken, hadmits.trans (.planCut ..)⟩
  · exact ⟨htaken, hadmits⟩
  · exact ⟨htaken, hadmits⟩
  · exact ⟨htaken, hadmits⟩

section
variable {s : State} {p : Port} (o : s.Overlock) (hd : s.dev ≠ .off)
include o hd

theorem holdApply_takes (h : s.holdNow p = true) : ∃ t, exec (.holdApply p) s = .next t ∧ (t.pt p).holdApplied = true ∧ s.SameFlds t [] ∧ s.SameMem t := by
  obtain ⟨htaken, hadmits⟩ := State.holdApply_of h
  exact ⟨_, exec_holdApply hd, by rw [State.pt_settle, htaken], hadmits.settled o⟩
theorem holdRelease_releases (h : s.holdNow p = false) : ∃ t, exec (.holdRelease p) s = .next t ∧ (t.pt p).holdApplied = false ∧ s.SameFlds t [] ∧ s.SameMem t := by
  have hrelease : s.holdRelease p = s.updPt p fun x => { x with holdApplied := false } := if_neg (by rw [h]; decide)
  exact ⟨_, by rw [exec_holdRelease hd, hrelease], by rw [State.pt_settle, State.pt_updPt], (State.Admits.updPt s p (by intro x; rfl)).settled o⟩

end

/-! ## A fragment ends at its cut, and the rest resumes (R226, R255, R263) -/

section
variable (s : State) (p n bytes : Nat)

/-- Tokens are charged in the record of the queue alone, its frames apart (R225). -/
theorem State.chargeTokens_cases : s.chargeTokens p n bytes = s ∨ ∃ tok last park, s.chargeTokens p n bytes = s.setQu (128 * p + n) { s.qu (128 * p + n) with tok := tok, last := last, park := park } := by
  unfold State.chargeTokens
  dsimp only
  split
  · exact .inl rfl
  · exact .inr ⟨_, _, _, rfl⟩
theorem State.Admits.chargeTokens : s.Admits (s.chargeTokens p n bytes) := by
  obtain e | ⟨_, _, _, e⟩ := s.chargeTokens_cases p n bytes
  · rw [e]; exact .refl s
  · rw [e]; exact .of_regs rfl rfl rfl
theorem State.chargeTokens_port : (s.chargeTokens p n bytes).port = s.port := by
  obtain e | ⟨_, _, _, e⟩ := s.chargeTokens_cases p n bytes <;> rw [e]; rfl
theorem State.ctr_chargeTokens (w : Nat) : (s.chargeTokens p n bytes).ctr w = s.ctr w := by
  obtain e | ⟨_, _, _, e⟩ := s.chargeTokens_cases p n bytes <;> rw [e]; rfl

/-- A cut counted, and its pre-emption charged to the queue `q` of the frame. -/
def State.cutCounted (q : Nat) : State := (((s.portCount p 35).portCount p 36).pecEvent p 6 (some (qTc q)) (qLocal q)).chargeTokens p (qLocal q) 24

theorem State.Admits.cutCounted (q : Nat) : s.Admits (s.cutCounted p q) := (((State.Admits.bump ..).trans (.bump ..)).trans (.pecEvent ..)).trans (.chargeTokens ..)
theorem State.cutCounted_port (q : Nat) : (s.cutCounted p q).port = s.port := by
  rw [State.cutCounted, State.chargeTokens_port, State.pecEvent_port, State.portCount_port, State.portCount_port]
theorem State.ctr_cutCounted (q : Nat) : (s.cutCounted p q).ctr (portWord p 36) = ctrAdd (s.ctr (portWord p 36)) 1 := by
  rw [State.cutCounted, State.ctr_chargeTokens, State.ctr_pecEvent _ _ _ _ _ (portWord_ne_event (by decide) p p)]
  unfold State.portCount
  rw [State.ctr_bump_same, State.ctr_bump_ne _ (portWord_ne_of (by decide))]

end

/-- The rest of a frame after the fragment that ends at its cut. -/
def Tx.rest (x : Tx) : PathFrame := { x.path with sent := x.upto, frags := x.path.frags + 1 }

/-- A port whose fragment has ended at its cut: the rest of the frame is kept in the path. -/
def PortSt.cutAt (x : PortSt) (t : Tx) : PortSt := { x with tx := none, lastEnd := t.endL, preempt := some t.rest }

theorem fragmentCut_keeps {s : State} {p : Port} (o : s.Overlock) {x : Tx} (hd : s.dev ≠ .off) (htx : (s.pt p).tx = some x) (hk : x.kind = .preempt) (hfinal : x.final = false) (hend : x.endL ≤ s.lNow)
    (hrun : s.on .SELV_CTRL_RUN p = true) (hdis : (s.pt p).mac.disabling = false) : ∃ t, exec (.fragmentCut p) s = .next t ∧ (t.pt p).tx = none ∧
    (t.pt p).preempt = some { x.path with sent := x.upto, frags := x.path.frags + 1 } ∧ t.ctr (portWord p 36) = ctrAdd (s.ctr (portWord p 36)) 1 ∧ s.SameFlds t [] ∧ s.SameMem t := by
  generalize ho : Out.wire p 1 x.start ((x.path.bytes.drop x.path.sent).take (x.upto - x.path.sent)) true = out
  generalize hu : s.wireLeft p (fun y => y.cutAt x) true out = u
  have hpt : (u.cutCounted p x.path.fr.q).pt p = (s.pt p).cutAt x := by rw [State.pt_of_port (u.cutCounted_port p _), ← hu, State.pt_wireLeft]
  have htold : State.Told [out] s (u.cutCounted p x.path.fr.q) := by
    rw [← hu]
    exact (s.told_wireLeft p (f := fun y => y.cutAt x) (fun _ => rfl) true out).trans (State.Admits.cutCounted _ p _).told
  have hcut : s.fragmentCut p = u.cutCounted p x.path.fr.q := by
    have hgoes : s.cutDone p x = (if (u.cutCounted p x.path.fr.q).on .SELV_CTRL_RUN p then u.cutCounted p x.path.fr.q else (u.cutCounted p x.path.fr.q).dropPaths p).disableAfter p := by subst hu ho; rfl
    rw [htold.on (by decide), hrun, if_pos rfl, State.disableAfter_of (by rw [hpt]; exact hdis)] at hgoes
    unfold State.fragmentCut
    rw [htx]
    simp [hk, hfinal, hend, hgoes]
  refine ⟨_, by rw [exec_fragmentCut hd, hcut], ?_, ?_, ?_, htold.atEnd o⟩
  · rw [State.pt_settle, hpt]; rfl
  · rw [State.pt_settle, hpt]; rfl
  · rw [State.ctr_settle, State.ctr_cutCounted, ← hu, State.ctr_wireLeft _ _ _ _ _ (portWord_ne_of (by decide)) (portWord_ne_of (by decide))]

theorem State.Admits.begin (s : State) (p : Nat) (x : Tx) : s.Admits (s.begin p x) := .updPt s p (by intro y; rfl)
theorem State.tx_begin (s : State) (p : Nat) (x : Tx) : ((s.begin p x).pt p).tx = some x := by rw [State.begin, State.pt_updPt]

/-- A fragment that a hold, the entries in force, the trains and the plan let go begins with the bytes of its plan. -/
theorem State.startFrag_begins {s : State} {p : Nat} {f : PathFrame} {t n : Nat} {last : Bool} (good : Bool) (hhold : (s.pt p).holdApplied = false) (hown : s.expressOnly p t false = false)
    (htrain : s.inTrain p t = false) (hplan : s.fragPlan p t (f.bytes.length - f.sent) = some (n, last)) (hguard : s.expressOnly p t true = false) :
    ∃ (x : Tx) (f' : PathFrame), s.startFrag p f t good = (s.updPt p fun y => { y with preempt := some f' }).begin p x ∧ x.kind = .preempt ∧ x.path.sent = f.sent ∧ x.upto = f.sent + n ∧ x.final = last := by
  unfold State.startFrag
  simp only [hhold, hown, htrain, hplan, hguard, Bool.or_self, Bool.false_eq_true, if_false]
  exact ⟨_, _, rfl, rfl, rfl, rfl, rfl⟩

theorem fragmentResume_begins {s : State} {p : Port} (o : s.Overlock) {f : PathFrame} {n : Nat} {last : Bool} (hd : s.dev ≠ .off) (halive : s.alive = true) (hpre : (s.pt p).preempt = some f)
    (hstarted : f.started = true) (htx : (s.pt p).tx = none) (hrun : s.on .SELV_CTRL_RUN p = true) (hlink : s.linkState p = 6) (hctrl : (s.pt p).mac.ctrl = none) (hhold : (s.pt p).holdApplied = false)
    (hown : s.expressOnly p (s.nextStart p (s.nowR p)) false = false) (htrain : s.inTrain p (s.nextStart p (s.nowR p)) = false)
    (hplan : s.fragPlan p (s.nextStart p (s.nowR p)) (f.bytes.length - f.sent) = some (n, last)) (hguard : s.expressOnly p (s.nextStart p (s.nowR p)) true = false) :
    ∃ (t : State) (x : Tx), exec (.fragmentResume p) s = .next t ∧ (t.pt p).tx = some x ∧ x.kind = .preempt ∧
      x.path.sent = f.sent ∧ x.upto = f.sent + n ∧ x.final = last ∧ s.SameFlds t [] ∧ s.SameMem t := by
  have hresume : s.fragmentResume p = s.startFrag p f (s.nextStart p (s.nowR p)) f.fcsOk := by
    unfold State.linkState at hlink
    unfold State.fragmentResume
    rw [hpre]
    simp [hstarted, htx, halive, hrun, hlink, hctrl]
  obtain ⟨x, f', hbegin, hkind, hsent, hupto, hlast⟩ := State.startFrag_begins f.fcsOk hhold hown htrain hplan hguard
  have hadmits : s.Admits ((s.updPt p fun y => { y with preempt := some f' }).begin p x) := (State.Admits.updPt s p (by intro y; rfl)).trans (.begin ..)
  exact ⟨_, x, by rw [exec_fragmentResume hd, hresume, hbegin], by rw [State.pt_settle, State.tx_begin], hkind, hsent, hupto, hlast, hadmits.settled o⟩

/-! ## RUN written 0 (R250) -/

section
variable (s : State) (p : Nat)

theorem State.core_loseStaged (x : Staged) (reason : Nat) : ((s.loseStaged x reason).pt p).core = (s.pt p).core := by
  unfold State.loseStaged
  split
  · exact s.core_discardHeld ..
  · exact congrArg PortSt.core (State.pt_of_port (s.lose_port ..) p)
theorem State.core_portCount (w n : Nat) : ((s.portCount p w n).pt p).core = (s.pt p).core := congrArg PortSt.core (State.pt_of_port (State.portCount_port ..) p)
theorem State.staged_dropStaged : ((s.dropStaged p fun _ => false).pt p).core.staged = [] := by
  unfold State.dropStaged
  dsimp only
  rw [foldl_keeps (fun a : State => (a.pt p).core) (fun a x => (a.portCount p 46).loseStaged x 46) fun a x => (State.core_loseStaged _ p x 46).trans (a.core_portCount p 46 1), State.pt_updPt]
  exact List.filter_false _

/-- The loss of what the paths held leaves the port's other parts as they were. -/
theorem State.core_dropPaths : ∃ pre, ((s.dropPaths p).pt p).core = ({ s.pt p with express := none, retry := none, preempt := pre } : PortSt).core := by
  have hlost : ∀ (a : State) (fr : FrameRec), (((a.portCount p 46).discardHeld fr 9 46 0).pt p).core = (a.pt p).core := fun a fr => (State.core_discardHeld _ fr 9 46 0 4 p).trans (a.core_portCount p 46 1)
  refine ⟨if (s.pt p).sendsPre then (s.pt p).preempt else none, ?_⟩
  have hempty : ((s.updPt p fun y => { y with express := none, retry := none, preempt := if (s.pt p).sendsPre then y.preempt else none }).pt p).core =
      ({ s.pt p with express := none, retry := none, preempt := if (s.pt p).sendsPre then (s.pt p).preempt else none } : PortSt).core := by rw [State.pt_updPt]
  have hset : ∀ a : State, ((a.setFld .MAC_MD_STATUS_ATTEMPTS p 0 0).pt p).core = (a.pt p).core := fun _ => rfl
  rw [← hempty]
  unfold State.dropPaths
  dsimp only
  repeat' split
  all_goals simp only [hlost, hset]

/-- The loss of the BEACON staged leaves of the port's other parts everything. -/
theorem State.core_dropBeacon : ∃ m, m.staged = none ∧ ((s.dropBeacon p).pt p).core = ({ s.pt p with mdp := m } : PortSt).core := by
  unfold State.dropBeacon
  split
  next t _ _ =>
    refine ⟨{ (s.pt p).mdp with staged := none, beaconAt := some t, beaconWaits := false }, rfl, ?_⟩
    rw [State.core_portCount, State.pt_updPt]
  next hnone => exact ⟨(s.pt p).mdp, hnone, rfl⟩

/-- RUN written 0 leaves nothing in the staging store, in the express path and its retry, and no BEACON staged (R250). -/
theorem State.selvStop_empties : ((s.selvStop p).pt p).staged = [] ∧ ((s.selvStop p).pt p).express = none ∧ ((s.selvStop p).pt p).retry = none ∧ ((s.selvStop p).pt p).mdp.staged = none := by
  have hstaged := (s.setFld .SELV_CTRL_RUN p 0 0).staged_dropStaged p
  unfold State.selvStop
  generalize (s.setFld .SELV_CTRL_RUN p 0 0).dropStaged p (fun _ => false) = u at hstaged
  obtain ⟨pre, hpaths⟩ := u.core_dropPaths p
  obtain ⟨m, hm, hbeacon⟩ := (u.dropPaths p).core_dropBeacon p
  refine ⟨?_, ?_, ?_, (congrArg (fun x : PortSt => x.mdp.staged) hbeacon).trans hm⟩
  · exact (congrArg PortSt.staged hbeacon).trans ((congrArg PortSt.staged hpaths).trans hstaged)
  · exact (congrArg PortSt.express hbeacon).trans (congrArg PortSt.express hpaths)
  · exact (congrArg PortSt.retry hbeacon).trans (congrArg PortSt.retry hpaths)

end

section
variable {β : Type} {g : State → β} (k : State.Spared g) (s : State) (p : Nat)
include k

theorem State.Spared.dropPaths : g (s.dropPaths p) = g s := by
  have hlost : ∀ (a : State) (fr : FrameRec), g ((a.portCount p 46).discardHeld fr 9 46 0) = g a := fun a fr => (k.discardHeld ..).trans (k.bump a ..)
  have hset : ∀ a : State, g (a.setFld .MAC_MD_STATUS_ATTEMPTS p 0 0) = g a := fun a => k.setFld a (by decide) ..
  unfold State.dropPaths
  dsimp only
  repeat' split
  all_goals simp only [hlost, hset, k.updPt]
theorem State.Spared.dropBeacon : g (s.dropBeacon p) = g s := by
  unfold State.dropBeacon State.portCount
  split
  · rw [k.bump, k.updPt]
  · rfl

end

theorem exec_selvedgeStop {s : State} {p : Port} {r : Req} (hg : s.Grants r true .SELV_CTRL p 0) : exec (.selvedgeStop r p) s = .next (s.selvStop p).settle := by
  rw [← State.writing_of hg fun s => s.selvStop p]; rfl

theorem selvedgeStop_empties {s : State} {p : Port} {r : Req} (hg : s.Grants r true .SELV_CTRL p 0) : ∃ t, exec (.selvedgeStop r p) s = .next t ∧ t.on .SELV_CTRL_RUN p = false ∧
    (t.pt p).staged = [] ∧ (t.pt p).express = none ∧ (t.pt p).retry = none ∧ (t.pt p).mdp.staged = none := by
  have hrun : (s.selvStop p).fld .SELV_CTRL_RUN p = (s.setFld .SELV_CTRL_RUN p 0 0).fld .SELV_CTRL_RUN p := by
    have hkeep := State.Spared.of_fld (f := .SELV_CTRL_RUN) (by decide) p 0
    unfold State.selvStop
    rw [hkeep.dropBeacon, hkeep.dropPaths, hkeep.dropStaged]
  refine ⟨_, exec_selvedgeStop hg, ?_, ?_⟩
  · rw [State.on, State.fld_settle_of _ (by decide), hrun, State.fld_setFld_same]
    rfl
  · rw [State.pt_settle]
    exact s.selvStop_empties p

/-! ## The obligation -/

/-- Settles O21: the end of a control frame, the guardian's cut, the two ends of a hold, the cut of a fragment and its resumption, and RUN written 0, one lemma each. -/
theorem endsCutsAndHolds : Obligations.EndsCutsAndHolds := by
  intro s p o
  exact ⟨fun _ hd htx hk hfinal hend hdis => transmitComplete_control o hd htx hk hfinal hend hdis, fun _ hd htx hk hhit hfew => hemCut_control hd htx hk hhit hfew,
    fun hd h => holdApply_takes o hd h, fun hd h => holdRelease_releases o hd h, fun _ hd htx hk hfinal hend hrun hdis => fragmentCut_keeps o hd htx hk hfinal hend hrun hdis,
    fun _ _ _ hd halive hpre hstarted htx hrun hlink hctrl hhold hown htrain hplan hguard =>
      fragmentResume_begins o hd halive hpre hstarted htx hrun hlink hctrl hhold hown htrain hplan hguard,
    fun _ hg => selvedgeStop_empties hg⟩

end Sys2Proof.Machine
end

section
/-!
PROOFS. Staging and selection (R185, R220 to R222, R230, R243, R244, R249).
-/
namespace Sys2Proof.Machine

section
variable {s : State} {p : Port} (hd : s.dev ≠ .off)
include hd

theorem exec_stagingPoint (c : Fin 8) : exec (.stagingPoint p (some c)) s = .next (s.stagingPoint p c).settle := by rw [← State.powered_of hd fun s => s.stagingPoint p c]; rfl
theorem exec_stageFrame (delay : Nat) (e : BufErr) : exec (.stageFrame p delay e) s = .next (s.stageFrame p delay e).settle := by rw [← State.powered_of hd fun s => s.stageFrame p delay e]; rfl
theorem exec_storeFullWindow (c : Fin 8) : exec (.storeFullWindow p c) s = .next (s.storeFullWindow p c).settle := by rw [← State.powered_of hd fun s => s.storeFullWindow p c]; rfl
theorem exec_shuttleSelect (pre : Bool) : exec (.shuttleSelect p pre) s = .next (s.shuttleSelect p pre).settle := by rw [← State.powered_of hd fun s => s.shuttleSelect p pre]; rfl

end

/-! ## Staging points (R29, R244) -/

theorem State.Admits.pruneWins (s : State) (p : Nat) : s.Admits (s.pruneWins p) := by
  unfold State.pruneWins
  exact .updPt s p (by intro x; rfl)
theorem State.schedUp_pruneWins (s : State) (p : Nat) : (s.pruneWins p).schedUp p = s.schedUp p := by
  have hsync : ((s.pruneWins p).pt p).inSync = (s.pt p).inSync := by rw [State.pruneWins, State.pt_updPt]
  unfold State.schedUp
  rw [hsync]
  rfl

/-- A port with one more window recorded. -/
def State.addWin (s : State) (p : Nat) (w : StgWin) : State := s.updPt p fun x => { x with wins := x.wins ++ [w] }

theorem State.stagingPoint_of {s : State} {p c : Nat} {w : Win} (htakes : s.portTakes p = true) (hup : s.schedUp p = true) (hsched : s.isSched p c = true) (hw : (s.pruneWins p).dueWindow p c = some w) :
    s.stagingPoint p c = (s.pruneWins p).addWin p { cls := c, openT := w.openT.toNat, closeT := w.closeT.toNat, noHem := w.noHem } := by
  have htakes' : (s.pruneWins p).portTakes p = true := htakes
  have hsched' : (s.pruneWins p).isSched p c = true := hsched
  unfold State.stagingPoint
  simp only [htakes', s.schedUp_pruneWins, hup, hsched', hw, Bool.and_self, if_true]
  rfl

theorem stagingPoint_records {s : State} (o : s.Overlock) (hd : s.dev ≠ .off) {p : Port} {c : Fin 8} {w : Win} (htakes : s.portTakes p = true) (hup : s.schedUp p = true) (hsched : s.isSched p c = true)
    (hw : (s.pruneWins p).dueWindow p c = some w) : ∃ t, exec (.stagingPoint p (some c)) s = .next t ∧
    (t.pt p).wins = ((s.pruneWins p).pt p).wins ++ [{ cls := c, openT := w.openT.toNat, closeT := w.closeT.toNat, noHem := w.noHem }] ∧ t.queue = s.queue ∧ s.SameFlds t [] ∧ s.SameMem t := by
  have hadmits : s.Admits ((s.pruneWins p).addWin p { cls := c, openT := w.openT.toNat, closeT := w.closeT.toNat, noHem := w.noHem }) :=
    (State.Admits.pruneWins s p).trans (.updPt _ p (by intro x; rfl))
  refine ⟨_, by rw [exec_stagingPoint hd, State.stagingPoint_of htakes hup hsched hw], ?_, ?_, hadmits.settled o⟩
  · rw [State.pt_settle, State.addWin, State.pt_updPt]
  · rw [State.settle_queue]; rfl

/-! ## A window that ended without room in the store (R249) -/

theorem State.Admits.updWin (s : State) (p c w : Nat) (f : StgWin → StgWin) : s.Admits (s.updWin p c w f) := .updPt s p (by intro x; rfl)

theorem storeFullWindow_counts {s : State} (o : s.Overlock) (hd : s.dev ≠ .off) {p : Port} {c : Fin 8} {w : StgWin}
    (hw : ((s.pt p).wins.find? fun w => w.cls == c.val && w.storeFull && decide (w.closeT ≤ s.nowD p)) = some w) : ∃ t, exec (.storeFullWindow p c) s = .next t ∧
    t.ctr (portWord p 43) = ctrAdd (s.ctr (portWord p 43)) 1 ∧ t.on .SELV_EVENT_STORE_FULL p = true ∧ s.SameFlds t [(.SELV_EVENT_STORE_FULL, p)] ∧ s.SameMem t := by
  generalize hu : s.updWin p c w.openT (fun w => { w with storeFull := false }) = u
  have hadmits : s.Admits u := hu ▸ .updWin s p c w.openT _
  have hfull : s.storeFullWindow p c = (u.portCount p 43).event .SELV_EVENT_STORE_FULL p := by
    unfold State.storeFullWindow
    dsimp only
    rw [hw, ← hu]
  have hflds : s.SameFlds ((u.portCount p 43).event .SELV_EVENT_STORE_FULL p) [(.SELV_EVENT_STORE_FULL, p)] := ((hadmits.flds.mono (by simp)).portCount p 43 1).event (.inl (by simp))
  have hmem : s.SameMem ((u.portCount p 43).event .SELV_EVENT_STORE_FULL p) :=
    hadmits.mem.trans (State.sameMem_of ((State.event_localMem ..).trans (State.portCount_localMem ..)) ((State.event_dram ..).trans (State.portCount_dram ..))
      (congrArg BootSt.nvm ((State.event_boot ..).trans (State.portCount_boot ..))))
  refine ⟨_, by rw [exec_storeFullWindow hd, hfull], ?_, ?_, hflds.settle_of o ?_ (by simp [Fl.settled]), State.SameMem.settle hmem⟩
  · have hctr : u.ctr (portWord p 43) = s.ctr (portWord p 43) := by rw [← hu]; rfl
    rw [State.ctr_settle, State.ctr, State.event_tape, ← hctr]
    exact u.ctr_bump_same _ 1
  · rw [State.on, State.fld_settle_of _ (by decide), State.fld_event_same _ _ _ (by decide) (by decide)]
    rfl
  · rw [State.event_dev, State.portCount_dev, hadmits.dev]

/-! ## A frame staged (R185, R221, R243) -/

theorem psT_eq_zero {ps : Nat} : psT ps = 0 ↔ ps = 0 := by unfold psT; omega

/-- A frame appended to the staging store of a port. -/
def State.addStaged (s : State) (p : Nat) (x : Staged) : State := s.updPt p fun y => { y with staged := y.staged ++ [x] }

/-- A staged frame with its cells given back. -/
def Staged.released (x : Staged) : Staged := { x with held := false }

theorem State.frames_sojourn (s : State) (fr : FrameRec) (l k : Nat) : ((s.sojourn fr l).qu k).frames = (s.qu k).frames := s.frames_updQu _ (by intro x; rfl) k
theorem State.cells_freeFrame (s : State) (fr : FrameRec) : ((s.freeFrame fr).qu fr.q).cells = (s.qu fr.q).cells - fr.cells := by
  generalize hu : (s.updQu fr.q fun x => { x with cells := x.cells - fr.cells, nframes := x.nframes - 1 }) = u
  have hfree : s.freeFrame fr = ((u.acctAdd fr.q fr.acct (-(fr.cells : Int))).giveCells fr).fcUpdate := by subst hu; rfl
  rw [hfree, State.qu_of_queue (State.fcUpdate_queue _), State.giveCells, State.qu_of_queue (State.updBo_queue ..), State.cells_acctAdd, ← hu, State.qu_updQu]
theorem PortSt.staged_core (x : PortSt) : x.core.staged = x.staged := rfl
theorem State.staged_freeFrame (s : State) (fr : FrameRec) (p : Nat) : ((s.freeFrame fr).pt p).staged = (s.pt p).staged := by
  rw [← PortSt.staged_core, State.core_freeFrame, PortSt.staged_core]

/-- The head frame of a queue taken out of it. -/
def State.headTaken (s : State) (q : Nat) (tl : List FrameRec) : State := s.updQu q fun x => { x with frames := tl }

section
variable {s : State} {p : Nat}

/-- Where no staged frame holds its cells, a frame that joins them and is fully staged at once gives its cells back at once (R185). -/
theorem State.stagedFree_now {x : Staged} (hold : ∀ y ∈ (s.pt p).staged, y.held = false) (hx : x.held = true) (hfull : x.fullAt ≤ s.lNow) :
    ∃ u : State, (s.addStaged p x).stagedFree p = (u.sojourn x.fr x.fullAt).freeFrame x.fr ∧ (u.pt p).staged = (s.pt p).staged ++ [x.released] ∧ u.queue = s.queue := by
  have hstaged : ((s.addStaged p x).pt p).staged = (s.pt p).staged ++ [x] := by rw [State.addStaged, State.pt_updPt]
  have hnow : (s.addStaged p x).lNow = s.lNow := rfl
  have hfilter : ((s.pt p).staged ++ [x]).filter (fun y => y.held && decide (y.fullAt ≤ s.lNow)) = [x] := by
    rw [List.filter_append, List.filter_eq_nil_iff.mpr (by intro y hy; simp [hold y hy])]
    simp [hx, hfull]
  have hmap : ((s.pt p).staged ++ [x]).map (fun y => if (y.held && decide (y.fullAt ≤ s.lNow)) = true then { y with held := false } else y) = (s.pt p).staged ++ [x.released] := by
    rw [List.map_append, List.map_congr_left (g := id) (by intro y hy; simp [hold y hy]), List.map_id]
    simp [hx, hfull, Staged.released]
  unfold State.stagedFree
  dsimp only
  rw [hstaged, hnow, hfilter]
  simp only [List.isEmpty_cons, Bool.false_eq_true, if_false, List.foldl_cons, List.foldl_nil]
  refine ⟨_, rfl, ?_, rfl⟩
  rw [State.pt_updPt]
  dsimp only
  rw [hstaged, hmap]

/-- A frame that is not fully staged yet holds its cells (R185). -/
theorem State.stagedFree_later {x : Staged} (hold : ∀ y ∈ (s.pt p).staged, y.held = false) (hfull : s.lNow < x.fullAt) : (s.addStaged p x).stagedFree p = s.addStaged p x := by
  have hstaged : ((s.addStaged p x).pt p).staged = (s.pt p).staged ++ [x] := by rw [State.addStaged, State.pt_updPt]
  have hnow : (s.addStaged p x).lNow = s.lNow := rfl
  have hfilter : ((s.pt p).staged ++ [x]).filter (fun y => y.held && decide (y.fullAt ≤ s.lNow)) = [] := by
    rw [List.filter_eq_nil_iff]
    intro y hy
    obtain hy | hy := List.mem_append.mp hy
    · simp [hold y hy]
    · rw [List.mem_singleton.mp hy]
      simp [hfull]
  unfold State.stagedFree
  dsimp only
  rw [hstaged, hnow, hfilter]
  rfl

end

/-- What follows once a frame stands in the staging store: the store's account of its window, and the completion of a host frame that needs no timestamp. -/
def State.stageNoted (s : State) (p : Nat) (w : StgWin) (fr : FrameRec) (wire : Nat) : State :=
  if fr.act = .none then (s.updWin p w.cls w.openT fun w => { w with used := w.used + wire, storeFull := false }).hostFate fr 0
  else s.updWin p w.cls w.openT fun w => { w with used := w.used + wire, storeFull := false }

theorem State.stageNoted_queue (s : State) (p : Nat) (w : StgWin) (fr : FrameRec) (wire : Nat) : (s.stageNoted p w fr wire).queue = s.queue := by
  unfold State.stageNoted
  split
  · exact (State.hostOnly_hostFate ..).queue
  · rfl
theorem State.staged_stageNoted (s : State) (p : Nat) (w : StgWin) (fr : FrameRec) (wire : Nat) : ((s.stageNoted p w fr wire).pt p).staged = (s.pt p).staged := by
  unfold State.stageNoted
  split
  · rw [State.pt_of_port (State.hostOnly_hostFate ..).port, State.updWin, State.pt_updPt]
  · rw [State.updWin, State.pt_updPt]

/-- A frame without the sequence number that its edit asks for is counted (R163). -/
def State.seqNoted (s : State) (p : Nat) (fr : FrameRec) : State := if seqMissing fr then s.portCount p 40 else s

theorem State.Admits.seqNoted (s : State) (p : Nat) (fr : FrameRec) : s.Admits (s.seqNoted p fr) := by
  unfold State.seqNoted
  split
  · exact .bump ..
  · exact .refl s
theorem State.seqNoted_port (s : State) (p : Nat) (fr : FrameRec) : (s.seqNoted p fr).port = s.port := by
  unfold State.seqNoted
  split
  · exact State.portCount_port ..
  · rfl
theorem State.seqNoted_queue (s : State) (p : Nat) (fr : FrameRec) : (s.seqNoted p fr).queue = s.queue := by
  unfold State.seqNoted
  split
  · exact State.portCount_queue ..
  · rfl

theorem State.stageTake_of {s : State} {p : Nat} {fr : FrameRec} (h : (s.editFrame p fr).length ≤ 9212) (w : StgWin) (wire l : Nat) : s.stageTake p w fr wire l .none =
    (((s.seqNoted p fr).addStaged p { fr := fr, bytes := s.editFrame p fr, cls := w.cls, openT := w.openT, closeT := w.closeT, fullAt := l, held := true }).stagedFree p).stageNoted p w fr wire := by
  have hshort : ¬9216 < (s.editFrame p fr).length + 4 := by omega
  unfold State.stageTake State.bufErr
  simp only [bufSpoils, Bool.false_eq_true, if_false, hshort]
  rfl

section
variable {s : State} {p : Nat} {w : StgWin} {fr : FrameRec} {tl : List FrameRec}

/-- The first queue of the only window of a port gives its head frame, where the frame fits the window and the store. -/
theorem State.stageFrame_of {delay : Nat} (htakes : s.portTakes p = true) (hup : s.schedUp p = true) (hwins : (s.pt p).wins = [w]) (hnow : s.nowD p < w.closeT) (hnofit : w.noFit = [])
    (hq : (s.qu (128 * p + 16 * w.cls)).frames = fr :: tl) (hfits : w.used + s.wireT p (s.charged p fr) ≤ w.closeT - w.openT) (hstore : s.storeFits p fr = true) :
    s.stageFrame p delay .none = (s.headTaken (128 * p + 16 * w.cls) tl).stageTake p w fr (s.wireT p (s.charged p fr)) (s.lNow + psT delay) .none := by
  have horder : (s.winOrder p).filter (fun w => decide (s.nowD p < w.closeT)) = [w] := by
    unfold State.winOrder
    rw [hwins]
    simp [insertStg, hnow]
  have hlist : (([w].map fun w => (List.range 16).map fun n => (w, n)).flatten) = (w, 0) :: (List.range' 1 15).map fun n => (w, n) := by rfl
  unfold State.stageFrame
  rw [htakes, hup]
  simp only [Bool.and_self, if_true, horder, hlist]
  unfold State.stageTry
  dsimp only
  rw [Nat.add_zero, hq]
  simp only [hnofit, hstore, List.contains_nil, Bool.false_eq_true, if_false, Bool.not_true, if_neg (Nat.not_lt.mpr hfits)]
  rfl

end

theorem stageFrame_stages {s : State} (hd : s.dev ≠ .off) {p : Port} {w : StgWin} {fr : FrameRec} {tl : List FrameRec} {delay : Nat} (htakes : s.portTakes p = true) (hup : s.schedUp p = true)
    (hwins : (s.pt p).wins = [w]) (hnow : s.nowD p < w.closeT) (hnofit : w.noFit = []) (hq : (s.qu (128 * p + 16 * w.cls)).frames = fr :: tl)
    (hfits : w.used + s.wireT p (s.charged p fr) ≤ w.closeT - w.openT) (hstore : s.storeFits p fr = true) (hlen : (s.editFrame p fr).length ≤ 9212) (hold : ∀ x ∈ (s.pt p).staged, x.held = false)
    (hfr : fr.q = 128 * p + 16 * w.cls) : ∃ t, exec (.stageFrame p delay .none) s = .next t ∧ (t.qu (128 * p + 16 * w.cls)).frames = tl ∧
      (t.pt p).staged = (s.pt p).staged ++
        [{ fr := fr, bytes := s.editFrame p fr, cls := w.cls, openT := w.openT, closeT := w.closeT, fullAt := s.lNow + psT delay, held := decide (0 < delay) }] ∧
      (t.qu (128 * p + 16 * w.cls)).cells = (s.qu (128 * p + 16 * w.cls)).cells - (if delay = 0 then fr.cells else 0) := by
  generalize hu : (s.headTaken (128 * p + 16 * w.cls) tl).seqNoted p fr = u
  generalize hx : ({ fr := fr, bytes := s.editFrame p fr, cls := w.cls, openT := w.openT, closeT := w.closeT, fullAt := s.lNow + psT delay, held := true } : Staged) = x
  have htake : s.stageFrame p delay .none = ((u.addStaged p x).stagedFree p).stageNoted p w fr (s.wireT p (s.charged p fr)) := by
    have hedit : (s.headTaken (128 * p + 16 * w.cls) tl).editFrame p fr = s.editFrame p fr := rfl
    rw [State.stageFrame_of htakes hup hwins hnow hnofit hq hfits hstore, State.stageTake_of (by rw [hedit]; exact hlen), hedit, hu, hx]
  have hlNow : u.lNow = s.lNow := hu ▸ (State.Admits.seqNoted _ p fr).flds.lNow (State.Admits.seqNoted _ p fr).time (by simp)
  have hport : u.port = s.port := hu ▸ State.seqNoted_port ..
  have hqu : u.qu (128 * p + 16 * w.cls) = { s.qu (128 * p + 16 * w.cls) with frames := tl } := by
    rw [← hu, State.qu_of_queue (State.seqNoted_queue ..), State.headTaken, State.qu_updQu]
  have hold' : ∀ y ∈ (u.pt p).staged, y.held = false := by rw [State.pt_of_port hport]; exact hold
  refine ⟨_, by rw [exec_stageFrame hd, htake], ?_⟩
  rw [State.qu_settle, State.pt_settle, State.qu_of_queue (State.stageNoted_queue ..), State.staged_stageNoted]
  by_cases hdelay : delay = 0
  · obtain ⟨v, hfree, hstaged, hqueue⟩ := State.stagedFree_now hold' (x := x) (by rw [← hx]) (by rw [← hx, hlNow, hdelay]; exact Nat.le_refl _)
    have hxfr : x.fr = fr := by rw [← hx]
    rw [hfree, State.frames_freeFrame, State.frames_sojourn, State.staged_freeFrame, hxfr, ← hfr, State.cells_freeFrame, hfr]
    refine ⟨?_, ?_, ?_⟩
    · rw [State.qu_of_queue hqueue, hqu]
    · have hkeep : (v.sojourn fr x.fullAt).pt p = v.pt p := rfl
      rw [hkeep, hstaged, State.pt_of_port hport, ← hx, hdelay]
      rfl
    · have hcells : ((v.sojourn fr x.fullAt).qu (128 * p + 16 * w.cls)).cells = (v.qu (128 * p + 16 * w.cls)).cells := State.read_updQu (g := QSt.cells) (by intro y; rfl) ..
      rw [hcells, State.qu_of_queue hqueue, hqu, if_pos hdelay]
  · have hpos : 0 < psT delay := Nat.pos_of_ne_zero fun h => hdelay (psT_eq_zero.mp h)
    rw [State.stagedFree_later hold' (by rw [← hx, hlNow]; exact Nat.lt_add_of_pos_right hpos)]
    have hqueue : (u.addStaged p x).qu (128 * p + 16 * w.cls) = u.qu (128 * p + 16 * w.cls) := rfl
    rw [hqueue, hqu, State.addStaged, State.pt_updPt, State.pt_of_port hport, ← hx, if_neg hdelay]
    exact ⟨rfl, by rw [decide_eq_true (Nat.pos_of_ne_zero hdelay)], rfl⟩

/-! ## A selection (R220, R222, R230) -/

section
variable (s : State) (p n bytes : Nat)

theorem State.takeB_port (x : RegRef) (f : Fl) : (s.takeB x f).port = s.port := by unfold State.takeB; split <;> rfl
theorem State.takeB_queue (x : RegRef) (f : Fl) : (s.takeB x f).queue = s.queue := by unfold State.takeB; split <;> rfl
theorem State.sameMem_takeB (x : RegRef) (f : Fl) : s.SameMem (s.takeB x f) := State.sameMem_of (s.takeB_localMem x f) (s.takeB_dram x f) (s.takeB_nvm x f)

/-- The WEIGHT that a tag update of a queue reads: one that waits applies from it on (R230). -/
def State.weightNow : Nat := max 1 ((s.takeB ⟨.SHTL_Q_SEL, p, n⟩ .SHTL_Q_SEL_WEIGHT).fld .SHTL_Q_SEL_WEIGHT p n)

/-- The start tag of a queue after a frame of some bytes. -/
def State.tagAfter : Nat := ((s.qu (128 * p + n)).tag + (Frac.toWord (Frac.norm (bytes * 256 : Nat) (s.weightNow p n))).toNat) % 2 ^ 48

theorem State.dwrrCharge_eq : s.dwrrCharge p n bytes =
    ((s.takeB ⟨.SHTL_Q_SEL, p, n⟩ .SHTL_Q_SEL_WEIGHT).updPt p fun x => { x with vt := x.vt.set 0 (n / 16) (s.qu (128 * p + n)).tag }).updQu (128 * p + n) fun x =>
      { x with tag := s.tagAfter p n bytes } := by
  rw [State.tagAfter, ← State.qu_of_queue (s.takeB_queue ⟨.SHTL_Q_SEL, p, n⟩ .SHTL_Q_SEL_WEIGHT) (128 * p + n)]
  rfl
theorem State.sameFlds_dwrrCharge : s.SameFlds (s.dwrrCharge p n bytes) [(.SHTL_Q_SEL_WEIGHT, p)] := by
  rw [State.dwrrCharge_eq]
  exact State.SameFlds.regs ((State.SameFlds.refl s _).takeB (x := ⟨.SHTL_Q_SEL, p, n⟩) (f := .SHTL_Q_SEL_WEIGHT) (by simp)) rfl
theorem State.sameMem_dwrrCharge : s.SameMem (s.dwrrCharge p n bytes) := by
  rw [State.dwrrCharge_eq]
  exact (s.sameMem_takeB _ _).trans (State.sameMem_of rfl rfl rfl)
theorem State.dwrrCharge_dev : (s.dwrrCharge p n bytes).dev = s.dev := by
  rw [State.dwrrCharge_eq]
  exact State.takeB_dev ..
theorem State.pt_dwrrCharge : (s.dwrrCharge p n bytes).pt p = { s.pt p with vt := (s.pt p).vt.set 0 (n / 16) (s.qu (128 * p + n)).tag } := by
  rw [State.dwrrCharge_eq, State.pt_of_port (State.updQu_port ..), State.pt_updPt, State.pt_of_port (s.takeB_port ..)]
theorem State.qu_dwrrCharge : (s.dwrrCharge p n bytes).qu (128 * p + n) = { s.qu (128 * p + n) with tag := s.tagAfter p n bytes } := by
  rw [State.dwrrCharge_eq, State.qu_updQu, State.qu_of_queue (State.updPt_queue ..), State.qu_of_queue (s.takeB_queue ..)]

/-- A charge of tokens leaves the other parts of a queue's record as they were. -/
theorem State.read_chargeTokens {β : Type} {g : QSt → β} (h : ∀ x tok last park, g { x with tok := tok, last := last, park := park } = g x) :
    g ((s.chargeTokens p n bytes).qu (128 * p + n)) = g (s.qu (128 * p + n)) := by
  obtain e | ⟨tok, last, park, e⟩ := s.chargeTokens_cases p n bytes
  · rw [e]
  · rw [e, State.qu, State.setQu, Tbl.get_set_same, h]

end

/-- A frame of as many bytes × 256 as `k` weights advances the tag by `k` (R230). -/
theorem State.tagAfter_of {s : State} {p n bytes k : Nat} (hpend : ∀ v, s.pendingB ⟨.SHTL_Q_SEL, p, n⟩ .SHTL_Q_SEL_WEIGHT = some v → v < 256)
    (hk : bytes * 256 = k * max 1 ((s.pendingB ⟨.SHTL_Q_SEL, p, n⟩ .SHTL_Q_SEL_WEIGHT).getD (s.fld .SHTL_Q_SEL_WEIGHT p n))) :
    s.tagAfter p n bytes = ((s.qu (128 * p + n)).tag + k) % 2 ^ 48 := by
  have hweight : s.weightNow p n = max 1 ((s.pendingB ⟨.SHTL_Q_SEL, p, n⟩ .SHTL_Q_SEL_WEIGHT).getD (s.fld .SHTL_Q_SEL_WEIGHT p n)) :=
    congrArg (max 1) (s.fld_takeB ⟨.SHTL_Q_SEL, p, n⟩ .SHTL_Q_SEL_WEIGHT hpend)
  have hword : (Frac.toWord (Frac.norm (bytes * 256 : Nat) (s.weightNow p n))).toNat = k := by
    rw [hk, ← hweight, Nat.cast_mul, Frac.norm_mul (by rw [hweight]; omega)]
    simp [Frac.toWord]
  rw [State.tagAfter, hword]

section
variable {s : State} {p : Nat}

/-- No path holds a frame that a pause sends back (R283, R285). -/
theorem State.returnPaused_of (hexp : (s.pt p).express = none) (hpre : ∀ f, (s.pt p).preempt = some f → s.paused p (qTc f.fr.q) = true → f.started = true) : s.returnPaused p = s := by
  unfold State.returnPaused
  dsimp only
  rw [hexp]
  dsimp only
  cases h : (s.pt p).preempt with
  | none => rfl
  | some f =>
    refine if_neg ?_
    rintro ⟨hpaused, hstarted, -⟩
    rw [hpre f h hpaused] at hstarted
    exact absurd hstarted (by decide)

/-- The state in which the head frame of queue `n` has moved into the free express path. -/
def State.handed (s : State) (p n : Nat) (fr : FrameRec) (tl : List FrameRec) : State :=
  (((s.dwrrCharge p n (s.charged p fr)).chargeTokens p n (s.charged p fr)).updQu (128 * p + n) fun x => { x with frames := tl, urgent := if tl.isEmpty then none else x.urgent }).updPt p
    fun x => { x with express := some { fr := fr, bytes := fr.data } }

theorem State.shuttleSelect_of {n : Nat} {fr : FrameRec} {tl : List FrameRec} (htakes : s.portTakes p = true) (hexp : (s.pt p).express = none) (hurgent : s.urgentReady p false = [])
    (hpick : s.selectPick p false = some (n, false)) (hq : (s.qu (128 * p + n)).frames = fr :: tl)
    (hpre : ∀ f, (s.pt p).preempt = some f → s.paused p (qTc f.fr.q) = true → f.started = true) : s.shuttleSelect p false = s.handed p n fr tl := by
  unfold State.shuttleSelect
  rw [State.returnPaused_of hexp hpre]
  simp only [htakes, hexp, hurgent, hpick, Bool.false_eq_true, if_false, Option.isNone_none, Bool.and_self, if_true, List.foldl_nil]
  unfold State.handOver
  dsimp only
  rw [hq]
  rfl

variable (s p) (n : Nat) (fr : FrameRec) (tl : List FrameRec)

theorem State.sameFlds_handed : s.SameFlds (s.handed p n fr tl) [(.SHTL_Q_SEL_WEIGHT, p)] :=
  (s.sameFlds_dwrrCharge p n _).trans (State.SameFlds.regs ((State.Admits.chargeTokens (s.dwrrCharge p n (s.charged p fr)) p n (s.charged p fr)).flds.mono (by simp)) rfl)
theorem State.sameMem_handed : s.SameMem (s.handed p n fr tl) :=
  ((s.sameMem_dwrrCharge p n _).trans (State.Admits.chargeTokens (s.dwrrCharge p n (s.charged p fr)) p n (s.charged p fr)).mem).trans (State.sameMem_of rfl rfl rfl)
theorem State.handed_dev : (s.handed p n fr tl).dev = s.dev :=
  (State.Admits.chargeTokens (s.dwrrCharge p n (s.charged p fr)) p n (s.charged p fr)).dev.trans (s.dwrrCharge_dev p n _)
theorem State.pt_handed : (s.handed p n fr tl).pt p = { s.pt p with vt := (s.pt p).vt.set 0 (n / 16) (s.qu (128 * p + n)).tag, express := some { fr := fr, bytes := fr.data } } := by
  rw [State.handed, State.pt_updPt, State.pt_of_port (State.updQu_port ..), State.pt_of_port (State.chargeTokens_port ..), State.pt_dwrrCharge]
theorem State.frames_handed : ((s.handed p n fr tl).qu (128 * p + n)).frames = tl := by
  rw [State.handed, State.qu_of_queue (State.updPt_queue ..), State.qu_updQu]
theorem State.tag_handed : ((s.handed p n fr tl).qu (128 * p + n)).tag = s.tagAfter p n (s.charged p fr) := by
  rw [State.handed, State.qu_of_queue (State.updPt_queue ..), State.qu_updQu]
  refine (State.read_chargeTokens (g := QSt.tag) _ p n _ fun _ _ _ _ => rfl).trans ?_
  rw [State.qu_dwrrCharge]

end

theorem shuttleSelect_hands {s : State} (o : s.Overlock) (hd : s.dev ≠ .off) {p : Port} {n : Nat} {fr : FrameRec} {tl : List FrameRec} (htakes : s.portTakes p = true) (hexp : (s.pt p).express = none)
    (hurgent : s.urgentReady p false = []) (hpick : s.selectPick p false = some (n, false)) (hq : (s.qu (128 * p + n)).frames = fr :: tl)
    (hpre : ∀ f, (s.pt p).preempt = some f → s.paused p (qTc f.fr.q) = true → f.started = true)
    (hpend : ∀ v, s.pendingB ⟨.SHTL_Q_SEL, p, n⟩ .SHTL_Q_SEL_WEIGHT = some v → v < 256) : ∃ t, exec (.shuttleSelect p false) s = .next t ∧ (t.pt p).express = some { fr := fr, bytes := fr.data } ∧
      (t.qu (128 * p + n)).frames = tl ∧ (t.pt p).preempt = (s.pt p).preempt ∧ (t.pt p).vt.get 0 (n / 16) = (s.qu (128 * p + n)).tag ∧
      (∀ k : Nat, s.charged p fr * 256 = k * max 1 ((s.pendingB ⟨.SHTL_Q_SEL, p, n⟩ .SHTL_Q_SEL_WEIGHT).getD (s.fld .SHTL_Q_SEL_WEIGHT p n)) →
        (t.qu (128 * p + n)).tag = ((s.qu (128 * p + n)).tag + k) % 2 ^ 48) ∧ s.SameFlds t [(.SHTL_Q_SEL_WEIGHT, p)] ∧ s.SameMem t := by
  refine ⟨_, by rw [exec_shuttleSelect hd, State.shuttleSelect_of htakes hexp hurgent hpick hq hpre], ?_, ?_, ?_, ?_, fun k hk => ?_,
    (s.sameFlds_handed p n fr tl).settle_of o (s.handed_dev p n fr tl) (by simp [Fl.settled]), State.SameMem.settle (s.sameMem_handed p n fr tl)⟩
  · rw [State.pt_settle, State.pt_handed]
  · rw [State.qu_settle, State.frames_handed]
  · rw [State.pt_settle, State.pt_handed]
  · rw [State.pt_settle, State.pt_handed]
    exact Tbl.get_set_same ..
  · rw [State.qu_settle, State.tag_handed, State.tagAfter_of hpend hk]

end Sys2Proof.Machine
end

section
/-!
PROOFS. The release of a staged frame and the start of a control frame (R55, R243, R245, R253, R254, R287), and the obligation about staging, selection and starts.
-/
namespace Sys2Proof.Machine

/-! ## The release of a staged frame (R245, R254) -/

theorem State.sense_of {p : Nat} (h : multidrop p = false) (s : State) (b : Bool) : s.sense p b = s := by
  unfold State.sense
  rw [h]
  rfl

section
variable {s : State} {p : Port} (hd : s.dev ≠ .off)
include hd

theorem exec_frameLaunch (b : Bool) : exec (.frameLaunch p b) s = .next ((s.sense p b).frameLaunch p).settle := by rw [← State.powered_of hd fun s => (s.sense p b).frameLaunch p]; rfl
theorem exec_transmitStart (k : TxPick) (b : Bool) (e : BufErr) : exec (.transmitStart p k b e) s = .next ((s.sense p b).transmitStart p k e).settle := by
  rw [← State.powered_of hd fun s => (s.sense p b).transmitStart p k e]; rfl

end

/-- From a state to one in which ports alone differ. -/
def State.PortsOnly (s t : State) : Prop := ∃ l, t = { s with port := l }

theorem State.PortsOnly.trans {s t u : State} (h : s.PortsOnly t) (h' : t.PortsOnly u) : s.PortsOnly u := by
  obtain ⟨_, rfl⟩ := h
  obtain ⟨_, rfl⟩ := h'
  exact ⟨_, rfl⟩
theorem State.PortsOnly.queue {s t : State} (h : s.PortsOnly t) : t.queue = s.queue := by obtain ⟨_, rfl⟩ := h; rfl
theorem State.portsOnly_updPt (s : State) (p : Nat) (f : PortSt → PortSt) : s.PortsOnly (s.updPt p f) := ⟨_, rfl⟩
theorem State.PortsOnly.settled {s u : State} (h : s.PortsOnly u) (o : s.Overlock) : s.SameFlds u.settle [] ∧ s.SameMem u.settle := by
  obtain ⟨_, rfl⟩ := h
  exact ⟨State.sameFlds_settled o (State.SameFlds.regs (.refl s _) rfl) rfl, State.SameMem.settle (State.sameMem_of rfl rfl rfl)⟩

/-- The egress timestamp of a service core's frame with action RECORD enters the port's queue; nothing else is noted (R55). -/
theorem State.noteStamp_cases (s : State) (p : Nat) (fr : FrameRec) (ts : Option (Nat × Nat)) :
    (s.noteStamp p fr ts = s ∧ ¬(ts.isSome ∧ fr.src = .service ∧ fr.act = .record)) ∨
      ∃ l t ty n, ts = some (l, t) ∧ fr.act = .record ∧ s.noteStamp p fr ts = s.updPt p fun x => { x with tsq := x.tsq ++ [⟨fr.tsDom, t, l, ty, n⟩] } := by
  unfold State.noteStamp
  cases ts with
  | none => exact .inl ⟨rfl, by simp⟩
  | some e =>
    obtain ⟨l, t⟩ := e
    by_cases h : fr.src = .service ∧ fr.act = .record
    · exact .inr ⟨l, t, _, _, rfl, h.2, if_pos h⟩
    · exact .inl ⟨if_neg h, fun h' => h h'.2⟩

theorem State.portsOnly_noteStamp (s : State) (p : Nat) (fr : FrameRec) (ts : Option (Nat × Nat)) : s.PortsOnly (s.noteStamp p fr ts) := by
  obtain ⟨e, -⟩ | ⟨_, _, _, _, -, -, e⟩ := s.noteStamp_cases p fr ts
  · rw [e]; exact ⟨_, rfl⟩
  · rw [e]; exact s.portsOnly_updPt ..

section
variable {s : State} {p : Nat} {w : StgWin} {f : Staged}

/-- What a launch does to its port: the frame leaves the staging store, its window's train moves on, and its timestamp may be noted. -/
def State.launched (s : State) (p : Nat) (w : StgWin) (f : Staged) (t : Nat) (ts : Option (Nat × Nat)) : State :=
  ((s.unstage p f).trainMove p w (t + s.wholeT p f.bytes.length : Nat)).noteStamp p f.fr ts

/-- The transmission of a launched frame. -/
def State.launchTx (s : State) (p : Nat) (w : StgWin) (f : Staged) (t : Nat) (ts : Option (Nat × Nat)) : Tx :=
  { kind := .staged w.cls w.openT w.closeT, path := { fr := f.fr, bytes := f.bytes }, startL := s.toL p t, endL := s.toL p t + s.wholeT p f.bytes.length, upto := f.bytes.length, ts := ts, late := f.counted }

theorem State.portsOnly_launched (s : State) (p : Nat) (w : StgWin) (f : Staged) (t : Nat) (ts : Option (Nat × Nat)) : s.PortsOnly (s.launched p w f t ts) :=
  (((s.portsOnly_updPt ..).trans (State.portsOnly_updPt ..)).trans (State.portsOnly_updPt ..)).trans (State.portsOnly_noteStamp ..)
theorem State.wholeT_launched (s : State) (p : Nat) (w : StgWin) (f : Staged) (t : Nat) (ts : Option (Nat × Nat)) (n : Nat) : (s.launched p w f t ts).wholeT p n = s.wholeT p n := by
  obtain ⟨_, h⟩ := s.portsOnly_launched p w f t ts
  rw [h]
  rfl

/-- The egress timestamp of a frame without action, or with action RECORD, launched at `t` (R48). -/
def State.launchStamp (s : State) (p : Nat) (f : Staged) (t : Nat) : Option (Nat × Nat) :=
  if f.fr.act = .record ∨ ptpEvent f.bytes = true then some (s.egressStamp p f.fr.tsDom (s.toL p t)) else none

theorem State.applyAct_plain {act : EgressAct} {fr : FrameRec} (ha : fr.act = act) (h : act = .none ∨ act = .record) (s : State) (p : Nat) (d : List Byte) (l : Nat) :
    s.applyAct p fr d l = (d, false, if act = .record ∨ ptpEvent d = true then some (s.egressStamp p fr.tsDom l) else none) := by
  unfold State.applyAct
  dsimp only
  rw [ha]
  obtain rfl | rfl := h
  · simp
  · simp

theorem State.hostFate_service {fr : FrameRec} (h : fr.src = .service) (s : State) (status : Nat) (ts : Option Nat) : s.hostFate fr status ts = s := by
  unfold State.hostFate
  rw [h]

theorem State.launch_of (hact : f.fr.act = .none ∨ f.fr.act = .record ∧ f.fr.src = .service) (t : Nat) :
    s.launch p w f t = (s.launched p w f t (s.launchStamp p f t)).begin p (s.launchTx p w f t (s.launchStamp p f t)) := by
  have happly := State.applyAct_plain rfl (hact.imp_right And.left) s p f.bytes (s.toL p t)
  unfold State.launch
  dsimp only
  rw [happly]
  simp only [Bool.false_eq_true, if_false]
  have hwhole := s.wholeT_launched p w f t (s.launchStamp p f t) f.bytes.length
  unfold State.launched State.launchStamp at hwhole
  obtain ha | ⟨ha, hsrc⟩ := hact
  · rw [if_pos ha, hwhole]
    rfl
  · rw [State.hostFate_service hsrc, ite_self, hwhole]
    rfl

/-- Nothing stands in the way of the frame at its release point: it is launched there. -/
theorem State.sequence_of {t : Nat} (hmd : multidrop p = false) (hfree : s.wireFree p ≤ t) (hfull : f.fullAt ≤ s.toL p t) (hfits : t + s.wholeT p f.bytes.length ≤ w.closeT)
    (hother : s.otherTrain p w t = false) (hhold : s.on .SELV_GUARD_STATUS_COPY_HOLD p = false) (hguard : s.guardPass p w.cls t (t + s.wholeT p f.bytes.length : Nat) = true)
    (hslot : s.guardSlotOk p t (t + s.wholeT p f.bytes.length : Nat) = true) : s.sequence p w f t = s.launch p w f t := by
  have hbusy : decide ((t : Int) < s.wireFree p) = false := decide_eq_false (Int.not_lt.mpr hfree)
  have hlate : decide (s.toL p t < f.fullAt) = false := decide_eq_false (Nat.not_lt.mpr hfull)
  have hlaunch : s.guardLaunch p w f t = s.launch p w f t := by
    unfold State.guardLaunch
    dsimp only
    rw [hhold, hguard, hslot]
    rfl
  unfold State.sequence
  simp only [hmd, hbusy, hlate, hother, Nat.not_lt.mpr hfits, hlaunch, Bool.false_and, Bool.or_self, Bool.not_false, Bool.and_false, Bool.false_eq_true, if_false]

theorem State.frameLaunch_of (hmd : multidrop p = false) (hstaged : ∀ g ∈ (s.pt p).staged, g.doomed = false ∧ (g.held = true → s.lNow < g.fullAt)) (hbeacon : (s.pt p).mdp.staged = none)
    (htx : (s.pt p).tx = none) (halive : s.alive = true) (hpick : s.launchPick p = some (w, f)) (hplan : s.planned p w ≤ s.nowR p) : s.frameLaunch p = s.sequence p w f (s.point p w) := by
  have hfree : s.stagedFree p = s := by
    have hnone : (s.pt p).staged.filter (fun x => x.held && decide (x.fullAt ≤ s.lNow)) = [] := by
      rw [List.filter_eq_nil_iff]
      intro g hg
      have hheld := (hstaged g hg).2
      simp only [Bool.and_eq_true, decide_eq_true_eq, not_and, not_le]
      exact hheld
    unfold State.stagedFree
    dsimp only
    rw [hnone]
    rfl
  have hsweep : s.lateSweep p = s := by
    have hnone : (s.pt p).staged.filter (fun f => f.doomed && decide (f.fullAt ≤ s.lNow)) = [] := by
      rw [List.filter_eq_nil_iff]
      intro g hg
      simp [(hstaged g hg).1]
    unfold State.lateSweep
    rw [hnone]
    rfl
  unfold State.frameLaunch
  rw [hfree, hsweep]
  dsimp only
  rw [hbeacon]
  dsimp only
  rw [hpick]
  simp only [htx, halive, hmd, Option.any_none, Nat.not_lt.mpr hplan, Bool.false_and, Bool.false_eq_true, Bool.not_true, or_self, if_false]

end

section
variable (s : State) (p : Nat) (w : StgWin) (f : Staged) (t : Nat) (ts : Option (Nat × Nat))

theorem State.staged_trainMove (stop : Int) : ((s.trainMove p w stop).pt p).staged = (s.pt p).staged := by
  rw [State.trainMove, State.pt_updPt, State.updWin, State.pt_updPt]
theorem State.tsq_trainMove (stop : Int) : ((s.trainMove p w stop).pt p).tsq = (s.pt p).tsq := by
  rw [State.trainMove, State.pt_updPt, State.updWin, State.pt_updPt]
theorem State.staged_noteStamp (fr : FrameRec) : ((s.noteStamp p fr ts).pt p).staged = (s.pt p).staged := by
  obtain ⟨e, -⟩ | ⟨_, _, _, _, -, -, e⟩ := s.noteStamp_cases p fr ts
  · rw [e]
  · rw [e, State.pt_updPt]
theorem State.staged_launched : ((s.launched p w f t ts).pt p).staged = (s.pt p).staged.erase f := by
  rw [State.launched, State.staged_noteStamp, State.staged_trainMove, State.unstage, State.pt_updPt]

/-- A frame without action leaves no timestamp in the port's queue. -/
theorem State.tsq_launched_none (h : f.fr.act = .none) : ((s.launched p w f t ts).pt p).tsq = (s.pt p).tsq := by
  rw [State.launched]
  obtain ⟨e, -⟩ | ⟨_, _, _, _, -, hrec, -⟩ := State.noteStamp_cases ((s.unstage p f).trainMove p w (t + s.wholeT p f.bytes.length : Nat)) p f.fr ts
  · rw [e, State.tsq_trainMove, State.unstage, State.pt_updPt]
  · rw [h] at hrec
    cases hrec

/-- A service core's frame with action RECORD leaves its timestamp, of its domain, in the port's queue (R55). -/
theorem State.tsq_launched_record (h : f.fr.act = .record) (hsrc : f.fr.src = .service) {l d : Nat} (hts : ts = some (l, d)) :
    ((s.launched p w f t ts).pt p).tsq.map (fun e => (e.dom, e.time)) = (s.pt p).tsq.map (fun e => (e.dom, e.time)) ++ [(f.fr.tsDom, d)] := by
  rw [State.launched]
  obtain ⟨-, hno⟩ | ⟨l', d', _, _, hts', -, e⟩ := State.noteStamp_cases ((s.unstage p f).trainMove p w (t + s.wholeT p f.bytes.length : Nat)) p f.fr ts
  · exact absurd ⟨by rw [hts]; rfl, hsrc, h⟩ hno
  · rw [hts] at hts'
    cases hts'
    rw [e, State.pt_updPt]
    dsimp only
    rw [State.tsq_trainMove, State.unstage, State.pt_updPt, List.map_append]
    rfl

end

theorem frameLaunch_launches {s : State} (o : s.Overlock) (hd : s.dev ≠ .off) (halive : s.alive = true) {p : Port} (hmd : multidrop p = false) {w : StgWin} {f : Staged} (b : Bool)
    (hstaged : ∀ g ∈ (s.pt p).staged, g.doomed = false ∧ (g.held = true → s.lNow < g.fullAt)) (hbeacon : (s.pt p).mdp.staged = none) (htx : (s.pt p).tx = none) (hpick : s.launchPick p = some (w, f))
    (hact : f.fr.act = .none ∨ f.fr.act = .record ∧ f.fr.src = .service) (hplan : s.planned p w ≤ s.nowR p) (hfree : s.wireFree p ≤ s.point p w) (hfull : f.fullAt ≤ s.toL p (s.point p w))
    (hfits : s.point p w + s.wholeT p f.bytes.length ≤ w.closeT) (hother : s.otherTrain p w (s.point p w) = false) (hhold : s.on .SELV_GUARD_STATUS_COPY_HOLD p = false)
    (hguard : s.guardPass p w.cls (s.point p w) (s.point p w + s.wholeT p f.bytes.length) = true) (hslot : s.guardSlotOk p (s.point p w) (s.point p w + s.wholeT p f.bytes.length) = true) :
    ∃ (t : State) (x : Tx), exec (.frameLaunch p b) s = .next t ∧ (t.pt p).tx = some x ∧
      x.kind = .staged w.cls w.openT w.closeT ∧ x.path.bytes = f.bytes ∧ x.startL = s.toL p (s.point p w) ∧ (t.pt p).staged = (s.pt p).staged.erase f ∧ t.queue = s.queue ∧
      (f.fr.act = .none → (t.pt p).tsq = (s.pt p).tsq) ∧
      (f.fr.act = .record → x.ts = some (s.egressStamp p f.fr.tsDom x.startL) ∧
        ((t.pt p).tsq.map fun e => (e.dom, e.time)) = ((s.pt p).tsq.map fun e => (e.dom, e.time)) ++ [(f.fr.tsDom, (s.egressStamp p f.fr.tsDom x.startL).2)]) ∧
      s.SameFlds t [] ∧ s.SameMem t := by
  generalize hu : s.launched p w f (s.point p w) (s.launchStamp p f (s.point p w)) = u
  have hlaunch : s.frameLaunch p = u.begin p (s.launchTx p w f (s.point p w) (s.launchStamp p f (s.point p w))) := by
    rw [State.frameLaunch_of hmd hstaged hbeacon htx halive hpick hplan, State.sequence_of hmd hfree hfull hfits hother hhold (by push_cast; exact hguard) (by push_cast; exact hslot), State.launch_of hact, hu]
  have honly : s.PortsOnly (u.begin p (s.launchTx p w f (s.point p w) (s.launchStamp p f (s.point p w)))) := by
    rw [← hu]
    exact (s.portsOnly_launched ..).trans (State.portsOnly_updPt ..)
  refine ⟨_, s.launchTx p w f (s.point p w) (s.launchStamp p f (s.point p w)), by rw [exec_frameLaunch hd, State.sense_of hmd, hlaunch], ?_, rfl, rfl, rfl, ?_, ?_, fun hnone => ?_, fun hrec => ⟨?_, ?_⟩,
    honly.settled o⟩
  · rw [State.pt_settle, State.tx_begin]
  · rw [State.pt_settle, State.begin, State.pt_updPt, ← hu, State.staged_launched]
  · rw [State.settle_queue, honly.queue]
  · rw [State.pt_settle, State.begin, State.pt_updPt, ← hu, State.tsq_launched_none _ _ _ _ _ _ hnone]
  · exact if_pos (.inl hrec)
  · have hsrc : f.fr.src = .service := hact.elim (fun hnone => by rw [hnone] at hrec; cases hrec) And.right
    have hstamp : s.launchStamp p f (s.point p w) = some (s.egressStamp p f.fr.tsDom (s.toL p (s.point p w))) := if_pos (.inl hrec)
    rw [State.pt_settle, State.begin, State.pt_updPt, ← hu, State.tsq_launched_record _ _ _ _ _ _ hrec hsrc hstamp]
    rfl

/-! ## The start of a control frame (R253, R287) -/

/-- From a state to one in which queues, and at a port its two paths alone, may differ. -/
def State.PathsOnly (p : Nat) (s u : State) : Prop := ∃ q l e r, u = { s with queue := q, port := l } ∧ u.pt p = { s.pt p with express := e, preempt := r }

theorem State.PathsOnly.refl (p : Nat) (s : State) : s.PathsOnly p s := ⟨_, _, _, _, rfl, rfl⟩
theorem State.PathsOnly.trans {p : Nat} {s t u : State} (h : State.PathsOnly p s t) (h' : State.PathsOnly p t u) : State.PathsOnly p s u := by
  obtain ⟨_, _, e, r, rfl, hpt⟩ := h
  obtain ⟨_, _, e', r', rfl, hpt'⟩ := h'
  exact ⟨_, _, e', r', rfl, by rw [hpt', hpt]⟩
theorem State.pathsOnly_returnPath {p : Nat} (s : State) {f : PortSt → PortSt} (h : ∀ x, ∃ e r, f x = { x with express := e, preempt := r }) (g : PathFrame) :
    State.PathsOnly p s ((s.updPt p f).returnPath g) := by
  obtain ⟨e, r, hf⟩ := h (s.pt p)
  have hpt : ((s.updPt p f).returnPath g).pt p = (s.updPt p f).pt p := rfl
  exact ⟨_, _, e, r, rfl, by rw [hpt, State.pt_updPt, hf]⟩

/-- The frames that a pause sends back leave their paths for their queues, and nothing else moves (R283, R285). -/
theorem State.pathsOnly_returnPaused (s : State) (p : Nat) : State.PathsOnly p s (s.returnPaused p) := by
  have hexp : ∀ (a : State) (g : PathFrame), State.PathsOnly p a ((a.updPt p fun y => { y with express := none }).returnPath g) := fun a g => a.pathsOnly_returnPath (fun x => ⟨none, x.preempt, rfl⟩) g
  have hpre : ∀ (a : State) (g : PathFrame), State.PathsOnly p a ((a.updPt p fun y => { y with preempt := none }).returnPath g) := fun a g => a.pathsOnly_returnPath (fun x => ⟨x.express, none, rfl⟩) g
  unfold State.returnPaused
  extract_lets x u
  have hfirst : State.PathsOnly p s u := by
    simp only [u]
    repeat' split
    · exact hexp ..
    · exact .refl p s
    · exact .refl p s
  repeat' split
  · exact hfirst.trans (hpre ..)
  · exact hfirst
  · exact hfirst

section
variable {p : Nat} {s u : State} (h : State.PathsOnly p s u)
include h

theorem State.PathsOnly.relD (x : Nat) : u.relD p x = s.relD p x := by
  obtain ⟨_, _, _, _, rfl, hpt⟩ := h
  unfold State.relD
  rw [hpt]
  rfl
theorem State.PathsOnly.nowR : u.nowR p = s.nowR p := by
  have hdom : u.schedDom p = s.schedDom p := by obtain ⟨_, _, _, _, rfl, -⟩ := h; rfl
  rw [State.nowR, hdom, h.relD, State.nowR]
theorem State.PathsOnly.toG (t : Int) : u.toG p t = s.toG p t := by
  have hnow : u.nowG p = s.nowG p := by
    obtain ⟨_, _, _, _, rfl, hpt⟩ := h
    unfold State.nowG
    dsimp only
    rw [hpt]
    rfl
  rw [State.toG, hnow, h.nowR, State.toG]
theorem State.PathsOnly.lNow : u.lNow = s.lNow := by obtain ⟨_, _, _, _, rfl, -⟩ := h; rfl
theorem State.PathsOnly.toL (t : Int) : u.toL p t = s.toL p t := by rw [State.toL, h.lNow, h.nowR, State.toL]
theorem State.PathsOnly.gridAt (t : Int) : u.gridAt p t = s.gridAt p t := by
  have hdom : u.gridDom p = s.gridDom p := by obtain ⟨_, _, _, _, rfl, -⟩ := h; rfl
  have hstep : u.gridStep p = s.gridStep p := by obtain ⟨_, _, _, _, rfl, -⟩ := h; rfl
  unfold State.gridAt
  rw [hdom, hstep, h.relD, h.nowR]
theorem State.PathsOnly.wireT (n : Nat) : u.wireT p n = s.wireT p n := by obtain ⟨_, _, _, _, rfl, -⟩ := h; rfl
theorem State.PathsOnly.wholeT (n : Nat) : u.wholeT p n = s.wholeT p n := h.wireT _
theorem State.PathsOnly.gapT : u.gapT p = s.gapT p := by obtain ⟨_, _, _, _, rfl, -⟩ := h; rfl
theorem State.PathsOnly.wireFree : u.wireFree p = s.wireFree p := by
  have htx : (u.pt p).tx = (s.pt p).tx := by obtain ⟨_, _, _, _, -, hpt⟩ := h; rw [hpt]
  have hend : (u.pt p).lastEnd = (s.pt p).lastEnd := by obtain ⟨_, _, _, _, -, hpt⟩ := h; rw [hpt]
  unfold State.wireFree State.toD
  rw [htx, hend, h.nowR, h.lNow, h.gapT]
theorem State.PathsOnly.nextStart (t : Int) : u.nextStart p t = s.nextStart p t := by rw [State.nextStart, h.wireFree, h.gridAt, State.nextStart]
theorem State.PathsOnly.sched (guard : Bool) : u.sched p guard = s.sched p guard := by
  obtain ⟨_, _, _, _, rfl, hpt⟩ := h
  unfold State.sched State.bank
  rw [hpt]
  rfl
theorem State.PathsOnly.trainDone (w : Win) : u.trainDone p w = s.trainDone p w := by
  obtain ⟨_, _, _, _, -, hpt⟩ := h
  unfold State.trainDone
  rw [hpt]
theorem State.PathsOnly.expressFits (t : Int) (dur : Nat) : u.expressFits p t dur = s.expressFits p t dur := by
  have htc : u.fld .SHTL_GCL_CFG_SCHED_TC p = s.fld .SHTL_GCL_CFG_SCHED_TC p := by obtain ⟨_, _, _, _, rfl, -⟩ := h; rfl
  have hhem : u.hemT p = s.hemT p := by
    obtain ⟨_, _, _, _, rfl, hpt⟩ := h
    unfold State.hemT State.addFrag
    rw [hpt]
    rfl
  have hown : u.ownEnd p = s.ownEnd p := by
    obtain ⟨_, _, _, _, rfl, hpt⟩ := h
    unfold State.ownEnd
    rw [hpt]
    rfl
  unfold State.expressFits State.inTrain State.nextHem
  simp only [h.sched, h.gridAt, h.trainDone, htc, hhem, hown]
theorem State.PathsOnly.guardSlotOk (t stop : Int) : u.guardSlotOk p t stop = s.guardSlotOk p t stop := by
  have hmode : u.pcMode p = s.pcMode p := by obtain ⟨_, _, _, _, rfl, -⟩ := h; rfl
  have hstate : u.pcState p = s.pcState p := by obtain ⟨_, _, _, _, rfl, -⟩ := h; rfl
  have hslots : u.slotTable p true = s.slotTable p true := by
    obtain ⟨_, _, _, _, rfl, hpt⟩ := h
    unfold State.slotTable
    rw [hpt]
    rfl
  have howned : u.slotOwned p = s.slotOwned p := by obtain ⟨_, _, _, _, rfl, -⟩ := h; rfl
  unfold State.guardSlotOk
  simp only [h.sched, h.toG, hmode, hstate, hslots, howned]
theorem State.PathsOnly.leaves : s.SameFlds u [] ∧ u.dev = s.dev ∧ s.SameMem u := by
  obtain ⟨_, _, _, _, rfl, -⟩ := h
  exact ⟨State.SameFlds.regs (.refl s _) rfl, rfl, State.sameMem_of rfl rfl rfl⟩

end

/-- A port without the control frame that waited. -/
def PortSt.ctrlTaken (x : PortSt) : PortSt := { x with mac := { x.mac with ctrl := none } }

/-- The transmission of a control frame that begins at `t`. -/
def State.ctrlTx (s : State) (p : Nat) (d : List Byte) (t : Nat) : Tx :=
  { kind := .control, path := { fr := { data := d }, bytes := d }, startL := s.toL p t, endL := s.toL p t + s.wholeT p d.length, upto := d.length }

/-- The control frame that waits begins at the first start position, where an express transmission fits and the guardian lets it pass (R253, R287). -/
theorem State.startOwn_control {s : State} {p : Nat} (hmd : multidrop p = false) {d : List Byte} (hfits : s.expressFits p (s.nextStart p (s.nowR p)) (s.wholeT p d.length + s.gapT p) = true)
    (hslot : s.guardSlotOk p (s.nextStart p (s.nowR p)) (s.nextStart p (s.nowR p) + s.wholeT p d.length) = true) :
    s.startOwn p .control d PortSt.ctrlTaken = (s.updPt p PortSt.ctrlTaken).begin p (s.ctrlTx p d (s.nextStart p (s.nowR p))) := by
  have hmedium : s.mediumOk p (s.nextStart p (s.nowR p)) false = true := by
    unfold State.mediumOk
    rw [hmd]
    rfl
  unfold State.startOwn State.startExpress
  dsimp only
  rw [hfits, hmedium, hslot]
  rfl

theorem transmitStart_control {s : State} (o : s.Overlock) (hd : s.dev ≠ .off) (halive : s.alive = true) {p : Port} (hmd : multidrop p = false) {d : List Byte} (e : BufErr) (b : Bool)
    (htx : (s.pt p).tx = none) (hlink : s.linkState p = 6) (hrun : s.on .SELV_CTRL_RUN p = true) (hctrl : (s.pt p).mac.ctrl = some d)
    (hfits : s.expressFits p (s.nextStart p (s.nowR p)) (s.wholeT p d.length + s.gapT p) = true)
    (hslot : s.guardSlotOk p (s.nextStart p (s.nowR p)) (s.nextStart p (s.nowR p) + s.wholeT p d.length) = true) : ∃ (t : State) (x : Tx), exec (.transmitStart p .control b e) s = .next t ∧
      (t.pt p).tx = some x ∧ x.kind = .control ∧ x.path.bytes = d ∧ x.startL = s.toL p (s.nextStart p (s.nowR p)) ∧ (t.pt p).mac.ctrl = none ∧ s.SameFlds t [] ∧ s.SameMem t := by
  have hpaths := s.pathsOnly_returnPaused p
  have hstart : s.transmitStart p .control e = ((s.returnPaused p).updPt p PortSt.ctrlTaken).begin p ((s.returnPaused p).ctrlTx p d (s.nextStart p (s.nowR p))) := by
    unfold State.transmitStart
    dsimp only
    generalize s.returnPaused p = u at hpaths
    have hnext : u.nextStart p (u.nowR p) = s.nextStart p (s.nowR p) := by rw [hpaths.nowR, hpaths.nextStart]
    have hgo : u.startOwn p .control d PortSt.ctrlTaken = (u.updPt p PortSt.ctrlTaken).begin p (u.ctrlTx p d (s.nextStart p (s.nowR p))) := by
      rw [State.startOwn_control hmd (by rw [hnext, hpaths.wholeT, hpaths.gapT, hpaths.expressFits]; exact hfits) (by rw [hnext, hpaths.wholeT, hpaths.guardSlotOk]; exact hslot), hnext]
    obtain ⟨q, l, e', r, rfl, hpt⟩ := hpaths
    have halive' : ({ s with queue := q, port := l } : State).alive = true := halive
    have hrun' : ({ s with queue := q, port := l } : State).on .SELV_CTRL_RUN p = true := hrun
    have hlink' : ({ s with queue := q, port := l } : State).fld .MAC_LINK_STATUS_STATE p = 6 := hlink
    rw [halive', hrun', hlink', hpt]
    dsimp only
    rw [htx, hctrl]
    exact hgo
  obtain ⟨hflds, hdev, hmem⟩ := hpaths.leaves
  have hadmits : (s.returnPaused p).Admits (((s.returnPaused p).updPt p PortSt.ctrlTaken).begin p ((s.returnPaused p).ctrlTx p d (s.nextStart p (s.nowR p)))) :=
    (State.Admits.updPt _ p (f := PortSt.ctrlTaken) fun _ => rfl).trans (.begin ..)
  refine ⟨_, (s.returnPaused p).ctrlTx p d (s.nextStart p (s.nowR p)), by rw [exec_transmitStart hd, State.sense_of hmd, hstart], ?_, rfl, rfl, hpaths.toL _, ?_,
    State.sameFlds_settled o (hflds.trans hadmits.flds) (hadmits.dev.trans hdev), State.SameMem.settle (hmem.trans hadmits.mem)⟩
  · rw [State.pt_settle, State.tx_begin]
  · rw [State.pt_settle, State.begin, State.pt_updPt, State.pt_updPt]
    rfl

/-! ## The obligation -/

/-- Settles O20: staging points, staging, the count of a full store, selection, the release of a staged frame and the start of a control frame, one lemma each. -/
theorem stagingSelectionAndStarts : Obligations.StagingSelectionAndStarts := by
  refine ⟨fun s p o hd => ⟨fun c w htakes hup hsched hw => stagingPoint_records o hd htakes hup hsched hw,
    fun w fr tl delay htakes hup hwins hnow hnofit hq hfits hstore hlen hold hfr => stageFrame_stages hd htakes hup hwins hnow hnofit hq hfits hstore hlen hold hfr,
    fun c w hw => storeFullWindow_counts o hd hw,
    fun n fr tl htakes hexp hurgent hpick hq hpre hpend => shuttleSelect_hands o hd htakes hexp hurgent hpick hq hpre hpend⟩,
    fun s p o hd halive hmd => ⟨fun w f b hstaged hbeacon htx hpick hact hplan _ hfree hfull hfits hother hhold hguard hslot =>
      frameLaunch_launches o hd halive hmd b hstaged hbeacon htx hpick hact hplan hfree hfull hfits hother hhold hguard hslot,
    fun d e b htx hlink hrun hctrl hfits hslot => transmitStart_control o hd halive hmd e b htx hlink hrun hctrl hfits hslot⟩⟩

end Sys2Proof.Machine
end

section
/-!
PROOFS. Transmit rings: descriptors fetched, frames offered, held and tried again (R190, R339 to R341), and frames numbered at the Mender stage (R147).
-/
namespace Sys2Proof.Machine

/-! ## Steps that leave fields and memory alone -/

/-- From a state to one in which no register field, no device state and no memory differs. -/
structure State.Aside (s t : State) : Prop where
  flds : s.SameFlds t []
  dev : t.dev = s.dev
  mem : s.SameMem t

theorem State.Aside.refl (s : State) : s.Aside s := ⟨.refl s _, rfl, .refl s⟩
theorem State.Aside.trans {s t u : State} (h : s.Aside t) (h' : t.Aside u) : s.Aside u := ⟨h.flds.trans h'.flds, h'.dev.trans h.dev, h.mem.trans h'.mem⟩
theorem State.Aside.settled {s u : State} (h : s.Aside u) (o : s.Overlock) : s.SameFlds u.settle [] ∧ s.SameMem u.settle := ⟨State.sameFlds_settled o h.flds h.dev, State.SameMem.settle h.mem⟩
theorem State.Admits.aside {s t : State} (h : s.Admits t) : s.Aside t := ⟨h.flds, h.dev, h.mem⟩
theorem State.Counts.aside {ws : List Nat} {s t : State} (h : State.Counts ws s t) : s.Aside t := ⟨h.flds, h.dev, h.mem⟩
theorem State.MendOnly.aside {s t : State} (h : s.MendOnly t) : s.Aside t := ⟨State.SameFlds.regs (.refl s _) h.regs, h.dev, h.mem⟩
theorem State.aside_setRing (s : State) (r : Nat) (x : RingSt) : s.Aside (s.setRing r x) := ⟨State.SameFlds.regs (.refl s _) rfl, rfl, State.sameMem_of rfl rfl rfl⟩

theorem State.ring_setRing (s : State) (r : Nat) (x : RingSt) : (s.setRing r x).ring r = x := Tbl.get_set_same ({} : RingSt) s.hif.ring r x
theorem State.ring_of_hif {s t : State} (h : t.hif.ring = s.hif.ring) (r : Nat) : t.ring r = s.ring r := by unfold State.ring; rw [h]
theorem State.ring_settle (s : State) (r : Nat) : s.settle.ring r = s.ring r := State.ring_of_hif (congrArg HifSt.ring s.settle_hif) r

/-! ## Reads of host memory (R326, R330) -/

/-- From a state to one in which memory requests have gone out or wait, and nothing else differs. -/
def State.Requested (s t : State) : Prop := ∃ l o, t = { s with hif := { s.hif with stalled := l }, out := s.out ++ o }

theorem State.Requested.refl (s : State) : s.Requested s := ⟨_, [], by rw [List.append_nil]⟩
theorem State.Requested.trans {s t u : State} (h : s.Requested t) (h' : t.Requested u) : s.Requested u := by
  obtain ⟨_, _, rfl⟩ := h
  obtain ⟨_, _, rfl⟩ := h'
  exact ⟨_, _, by rw [List.append_assoc]⟩
theorem State.requested_hostReq (s : State) (pf : Nat) (o : Out) : s.Requested (s.hostReq pf o) := by
  unfold State.hostReq
  split
  · exact ⟨_, [o], rfl⟩
  · exact ⟨_, [], by rw [List.append_nil]⟩
theorem State.requested_hostGet (s : State) (pf addr attr n : Nat) : s.Requested (s.hostGet pf addr attr n) := by
  unfold State.hostGet
  generalize hostPieces (s.readSize pf) n addr n = l
  induction l generalizing s with
  | nil => exact .refl s
  | cons e l ih => exact (s.requested_hostReq ..).trans (ih _)

section
variable {s t : State} (h : s.Requested t)
include h

theorem State.Requested.aside : s.Aside t := by
  obtain ⟨_, _, rfl⟩ := h
  exact ⟨State.SameFlds.regs (.refl s _) rfl, rfl, State.sameMem_of rfl rfl rfl⟩
theorem State.Requested.ring (r : Nat) : t.ring r = s.ring r := by obtain ⟨_, _, rfl⟩ := h; rfl
theorem State.Requested.mem_out {o : Out} (ho : o ∈ s.out) : o ∈ t.out := by obtain ⟨_, _, rfl⟩ := h; exact List.mem_append_left _ ho
theorem State.Requested.ctr (w : Nat) : t.ctr w = s.ctr w := by obtain ⟨_, _, rfl⟩ := h; rfl
theorem State.Requested.txBad (r i d : Nat) (x : Option TxFrame) : t.txBad r i d x = s.txBad r i d x := by obtain ⟨_, _, rfl⟩ := h; rfl

end

/-- A read within one request's size that crosses no multiple of 4 KiB is one request. -/
theorem hostPieces_one {m addr n : Nat} (hn : 0 < n) (hm : n ≤ m) (haddr : n ≤ 4096 - addr % 4096) : hostPieces m n addr n = [(addr, n)] := by
  obtain ⟨k, rfl⟩ : ∃ k, n = k + 1 := ⟨n - 1, by omega⟩
  have hwhole : min (k + 1) (min m (4096 - addr % 4096)) = k + 1 := by omega
  have hrest : ∀ f a, hostPieces m f a 0 = [] := fun f a => by
    cases f with
    | zero => rfl
    | succ f => simp [hostPieces]
  unfold hostPieces
  dsimp only
  rw [hwhole, if_neg (Nat.succ_ne_zero k), Nat.sub_self, hrest]

/-- The read of a descriptor goes out as one request of 32 bytes, where its function is a bus master (R341). -/
theorem State.mem_descGet {s : State} {r : Nat} (h : (s.pfn (s.ringPf r)).busMaster = true) (i : Nat) : .hostRead (s.ringPf r) (s.descAddr r i) (s.ringAttr r) 32 ∈ (s.descGet r i).out := by
  have hsize : 32 ≤ s.readSize (s.ringPf r) := by
    have hpow : 1 ≤ 2 ^ min 5 (s.pfn (s.ringPf r)).maxRead := Nat.one_le_two_pow
    unfold State.readSize
    omega
  have haddr : 32 ≤ 4096 - s.descAddr r i % 4096 := by
    unfold State.descAddr
    omega
  unfold State.descGet State.hostGet
  rw [hostPieces_one (by decide) hsize haddr]
  simp [State.hostReq, h, State.emit]

/-! ## Descriptors (R339 to R341) -/

section
variable {s : State} {r : Nat}

/-- A ring with its next descriptor fetched. -/
def RingSt.fetched (x : RingSt) : RingSt := { x with fetch := idx32 (x.fetch + 1) }

/-- The state in which the next descriptor of a ring is read: its place is reserved, and FETCH has moved on. -/
def State.descRead (s : State) (r : Nat) : State := ((s.txReserve r).setRing r (s.ring r).fetched).descGet r (s.ring r).fetch

/-- Its buffer is read too, and counted. -/
def State.bufRead (s : State) (r d : Nat) : State :=
  ((s.descRead r).hostGet (s.ringPf r) (bits d 63 0) (hostAttr false (bit d 108 || s.on .HIF_RING_CFG_NO_SNOOP r)) (descLen d)).bump (ringWord r 7) (descLen d)

/-- The frame of one descriptor with its buffer's bytes. -/
def txOne (i d : Nat) (data : List Byte) : TxFrame :=
  { first := i, desc := d, data := padTo (descLen d) (data.take (descLen d)), marks := [(true, descEop d)], barrier := barrierAt none d }

theorem State.aside_txReserve : s.Aside (s.txReserve r) := by
  unfold State.txReserve
  split
  · exact ⟨State.SameFlds.regs (.refl s _) rfl, rfl, State.sameMem_of rfl rfl rfl⟩
  · exact .refl s

/-- A place reserved in a completion queue is a change of that queue alone. -/
theorem State.txReserve_cases (s : State) (r : Nat) : ∃ l, s.txReserve r = { s with hif := { s.hif with cq := l } } := by
  unfold State.txReserve
  split
  · exact ⟨_, rfl⟩
  · exact ⟨s.hif.cq, rfl⟩

theorem State.descRead_eq (s : State) (r : Nat) : ∃ h o, s.descRead r = { s with hif := h, out := s.out ++ o } := by
  obtain ⟨_, e⟩ := s.txReserve_cases r
  obtain ⟨_, _, e'⟩ := State.requested_hostGet ((s.txReserve r).setRing r (s.ring r).fetched) (((s.txReserve r).setRing r (s.ring r).fetched).ringPf r)
    (((s.txReserve r).setRing r (s.ring r).fetched).descAddr r (s.ring r).fetch) (((s.txReserve r).setRing r (s.ring r).fetched).ringAttr r) 32
  rw [State.descRead, State.descGet, e', e]
  exact ⟨_, _, rfl⟩
theorem State.aside_descRead : s.Aside (s.descRead r) := (State.aside_txReserve.trans (State.aside_setRing ..)).trans (State.requested_hostGet ..).aside
theorem State.ring_descRead : (s.descRead r).ring r = (s.ring r).fetched := ((State.requested_hostGet ..).ring r).trans (State.ring_setRing ..)
theorem State.ctr_descRead (w : Nat) : (s.descRead r).ctr w = s.ctr w := by
  obtain ⟨_, h⟩ := s.txReserve_cases r
  rw [State.descRead, h]
  exact (State.requested_hostGet ..).ctr w
theorem State.mem_descRead (h : (s.pfn (s.ringPf r)).busMaster = true) : .hostRead (s.ringPf r) (s.descAddr r (s.ring r).fetch) (s.ringAttr r) 32 ∈ (s.descRead r).out := by
  obtain ⟨_, e⟩ := s.txReserve_cases r
  rw [State.descRead, e]
  exact State.mem_descGet (s := ({ s with hif := { s.hif with cq := _ } } : State).setRing r _) h _
theorem State.txBad_descRead (i d : Nat) (x : Option TxFrame) : (s.descRead r).txBad r i d x = s.txBad r i d x := by
  obtain ⟨_, e⟩ := s.txReserve_cases r
  rw [State.descRead, e]
  exact (State.requested_hostGet ..).txBad r i d x

variable (d : Nat)

theorem State.aside_bufRead : s.Aside (s.bufRead r d) := (State.aside_descRead.trans (State.requested_hostGet ..).aside).trans (State.Counts.bump ..).aside
theorem State.ring_bufRead : (s.bufRead r d).ring r = (s.ring r).fetched :=
  ((State.ring_of_hif (congrArg HifSt.ring (State.bump_hif ..)) r).trans ((State.requested_hostGet ..).ring r)).trans State.ring_descRead
theorem State.ctr_bufRead : (s.bufRead r d).ctr (ringWord r 7) = ctrAdd (s.ctr (ringWord r 7)) (descLen d) := by
  rw [State.bufRead, State.ctr_bump_same, (State.requested_hostGet ..).ctr, State.ctr_descRead]
theorem State.mem_bufRead (h : (s.pfn (s.ringPf r)).busMaster = true) : .hostRead (s.ringPf r) (s.descAddr r (s.ring r).fetch) (s.ringAttr r) 32 ∈ (s.bufRead r d).out := by
  rw [State.bufRead, State.bump_out]
  exact (State.requested_hostGet ..).mem_out (State.mem_descRead h)

end

/-- A ring whose frame of one descriptor is ready, or stays open. -/
def RingSt.built (x : RingSt) (fr : TxFrame) (ends : Bool) : RingSt := if ends then { x with building := none, ready := x.ready ++ [fr] } else { x with building := some fr }

section
variable {s : State} {r : Nat} {d : Nat} (hmay : s.txMay r = true) (hnone : (s.ring r).building = none) (hgood : s.txBad r (s.ring r).fetch d none = false)
include hgood

/-- The first descriptor of a frame that is well formed has SOP = 1. -/
theorem State.descSop_of_txBad : descSop d = true := by
  cases h : descSop d with
  | true => rfl
  | false => simp [State.txBad, h] at hgood

include hmay hnone

theorem State.txFetch_of (data : List Byte) : s.txFetch r d data = (s.bufRead r d).setRing r ((s.ring r).fetched.built (txOne (s.ring r).fetch d data) (descEop d)) := by
  obtain ⟨l, e⟩ := s.txReserve_cases r
  have hring : (s.txReserve r).ring r = s.ring r := by rw [e]; rfl
  have hbad : (s.descRead r).txBad r (s.ring r).fetch d none = false := (State.txBad_descRead ..).trans hgood
  have hpf : (s.descRead r).ringPf r = s.ringPf r := by obtain ⟨_, _, h⟩ := s.descRead_eq r; rw [h]; rfl
  have hsnoop : (s.descRead r).on .HIF_RING_CFG_NO_SNOOP r = s.on .HIF_RING_CFG_NO_SNOOP r := by obtain ⟨_, _, h⟩ := s.descRead_eq r; rw [h]; rfl
  have hsop := State.descSop_of_txBad hgood
  have hread : ((s.txReserve r).setRing r { s.ring r with fetch := idx32 ((s.ring r).fetch + 1) }).descGet r (s.ring r).fetch = s.descRead r := rfl
  unfold State.txFetch
  simp only [hmay, Bool.not_true, Bool.false_eq_true, if_false, hring, hread, hpf, hsnoop]
  simp only [hnone, hbad, hsop, Bool.false_eq_true, if_false, Option.getD_none, List.nil_append]
  have hring' := s.ring_bufRead (r := r) d
  unfold State.bufRead at hring'
  rw [hring']
  unfold RingSt.built
  split
  · rfl
  · rfl

end

theorem exec_txDescriptorFetch (ring : Fin 8192) (d : BitVec 256) (data : List Byte) (s : State) : exec (.txDescriptorFetch ring d data) s = .next (s.txFetch ring d.toNat data).settle := rfl
theorem State.busMaster_of_txMay {s : State} {r : Nat} (h : s.txMay r = true) : (s.pfn (s.ringPf r)).busMaster = true := by
  simp only [State.txMay, State.ringGoes, Bool.and_eq_true] at h
  exact h.1.1.1.1.2

section
variable {s : State} (o : s.Overlock) {ring : Fin 8192} {d : BitVec 256} (data : List Byte) (hmay : s.txMay ring = true) (hnone : (s.ring ring).building = none)
  (hgood : s.txBad ring (s.ring ring).fetch d.toNat none = false)
include o hmay hnone hgood

/-- A descriptor fetched, with what its frame becomes: its ring's record, the request for it, the bytes counted. -/
theorem txDescriptorFetch_builds : ∃ t, exec (.txDescriptorFetch ring d data) s = .next t ∧
    t.ring ring = (s.ring ring).fetched.built (txOne (s.ring ring).fetch d.toNat data) (descEop d.toNat) ∧
    .hostRead (s.ringPf ring) (s.descAddr ring (s.ring ring).fetch) (s.ringAttr ring) 32 ∈ t.out ∧ t.ctr (ringWord ring 7) = ctrAdd (s.ctr (ringWord ring 7)) (descLen d.toNat) ∧ s.SameFlds t [] ∧ s.SameMem t := by
  have haside : s.Aside ((s.bufRead ring d.toNat).setRing ring ((s.ring ring).fetched.built (txOne (s.ring ring).fetch d.toNat data) (descEop d.toNat))) :=
    (State.aside_bufRead _).trans (State.aside_setRing ..)
  refine ⟨_, by rw [exec_txDescriptorFetch, State.txFetch_of hmay hnone hgood], ?_, ?_, ?_, haside.settled o⟩
  · rw [State.ring_settle, State.ring_setRing]
  · rw [State.settle_out]
    exact State.mem_bufRead _ (State.busMaster_of_txMay hmay)
  · rw [State.ctr_settle]
    exact State.ctr_bufRead _

theorem txDescriptorFetch_ends (hend : d.getLsbD 110 = true) : ∃ t, exec (.txDescriptorFetch ring d data) s = .next t ∧ (t.ring ring).fetch = idx32 ((s.ring ring).fetch + 1) ∧
    (t.ring ring).building = none ∧
    (t.ring ring).ready = (s.ring ring).ready ++ [⟨(s.ring ring).fetch, d.toNat, padTo (descLen d.toNat) (data.take (descLen d.toNat)), [(true, true)], barrierAt none d.toNat⟩] ∧
    .hostRead (s.ringPf ring) (s.descAddr ring (s.ring ring).fetch) (s.ringAttr ring) 32 ∈ t.out ∧ t.ctr (ringWord ring 7) = ctrAdd (s.ctr (ringWord ring 7)) (descLen d.toNat) ∧ s.SameFlds t [] ∧ s.SameMem t := by
  obtain ⟨t, hx, hring, hout, hctr, hflds, hmem⟩ := txDescriptorFetch_builds o data hmay hnone hgood
  have heop : descEop d.toNat = true := hend
  unfold txOne at hring
  rw [heop] at hring
  exact ⟨t, hx, by rw [hring]; rfl, by rw [hring]; rfl, by rw [hring]; rfl, hout, hctr, hflds, hmem⟩

theorem txDescriptorFetch_opens (hend : d.getLsbD 110 = false) : ∃ t, exec (.txDescriptorFetch ring d data) s = .next t ∧ (t.ring ring).fetch = idx32 ((s.ring ring).fetch + 1) ∧
    (t.ring ring).ready = (s.ring ring).ready ∧
    (t.ring ring).building = some ⟨(s.ring ring).fetch, d.toNat, padTo (descLen d.toNat) (data.take (descLen d.toNat)), [(true, false)], barrierAt none d.toNat⟩ ∧
    .hostRead (s.ringPf ring) (s.descAddr ring (s.ring ring).fetch) (s.ringAttr ring) 32 ∈ t.out ∧ s.SameFlds t [] ∧ s.SameMem t := by
  obtain ⟨t, hx, hring, hout, -, hflds, hmem⟩ := txDescriptorFetch_builds o data hmay hnone hgood
  have heop : descEop d.toNat = false := hend
  unfold txOne at hring
  rw [heop] at hring
  exact ⟨t, hx, by rw [hring]; rfl, by rw [hring]; rfl, by rw [hring]; rfl, hout, hflds, hmem⟩

end

/-! ## Admission of the first frame of a ring (R190, R341, R342) -/

/-- A ring whose first frame has gone to its queue. -/
def RingSt.flown (y : RingSt) (x : TxFrame) : RingSt :=
  { y with ready := y.ready.tail, held := none, flying := y.flying ++ [⟨x.first, x.marks.length, bits x.desc 138 137, bits x.desc 136 134, x.barrier⟩] }

section
variable {s : State} {r : Nat} {x : TxFrame} {fr : FrameRec}

theorem State.txAdmit_of {a : Acct} (h : s.admitTest (txQueue x.desc) fr.cells 0 false = (.admitted, a)) : s.txAdmit r x fr = (s.enqueue (txQueue x.desc) fr a).setRing r ((s.ring r).flown x) := by
  have hring : (s.enqueue (txQueue x.desc) fr a).ring r = s.ring r := State.ring_of_hif ((State.Admits.enqueue s _ fr a).keeps (fun a => a.hif.ring) fun _ => rfl) r
  unfold State.txAdmit
  dsimp only
  rw [h]
  dsimp only
  rw [hring]
  rfl
theorem State.txAdmit_held {a : Acct} {why : Adm} (hwhy : why ∈ [.queueLimit, .threshold, .precedence]) (h : s.admitTest (txQueue x.desc) fr.cells 0 false = (why, a)) :
    s.txAdmit r x fr = s.setRing r { s.ring r with held := some fr } := by
  simp only [List.mem_cons, List.not_mem_nil, or_false] at hwhy
  unfold State.txAdmit
  dsimp only
  rw [h]
  rcases hwhy with rfl | rfl | rfl
  · rfl
  · rfl
  · rfl

/-- An admitted frame stands in its queue with its bytes and its source, and its ring goes on. -/
theorem State.txAdmit_joins {a : Acct} (h : s.admitTest (txQueue x.desc) fr.cells 0 false = (.admitted, a)) :
    (∃ f : FrameRec, ((s.txAdmit r x fr).qu (txQueue x.desc)).frames = (s.qu (txQueue x.desc)).frames ++ [f] ∧ f.data = fr.data ∧ f.src = fr.src ∧ f.edit = fr.edit) ∧
      (∀ q, q ≠ txQueue x.desc → (s.txAdmit r x fr).qu q = s.qu q) ∧ (s.txAdmit r x fr).ring r = (s.ring r).flown x ∧ (s.txAdmit r x fr).mend = s.mend ∧ s.Aside (s.txAdmit r x fr) := by
  have hadmits := State.Admits.enqueue s (txQueue x.desc) fr a
  have hframes := s.frames_enqueue (txQueue x.desc) fr a
  have hother : ∀ q, q ≠ txQueue x.desc → (s.enqueue (txQueue x.desc) fr a).qu q = s.qu q := fun q hq => s.qu_enqueue_ne _ fr a hq
  have hmend : (s.enqueue (txQueue x.desc) fr a).mend = s.mend := hadmits.keeps State.mend fun _ => rfl
  rw [State.txAdmit_of h]
  generalize s.enqueue (txQueue x.desc) fr a = u at hadmits hframes hother hmend
  exact ⟨⟨_, hframes, rfl, rfl, rfl⟩, hother, State.ring_setRing .., hmend, hadmits.aside.trans (State.aside_setRing ..)⟩

end

/-! ## The first offer of a frame (R341) -/

section
variable {s u : State} {ws : List Nat} (h : State.Counts ws s u)
include h

theorem State.Counts.txOffers (r : Nat) : u.txOffers r = s.txOffers r := by
  unfold State.txOffers State.hifUp State.ringState State.alive
  rw [h.hif, h.dev, h.reads (by decide)]
theorem State.Counts.ring (r : Nat) : u.ring r = s.ring r := State.ring_of_hif (congrArg HifSt.ring h.hif) r

end

/-- The state in which the first frame of a ring meets its queue or its generator: lanes have sent, and the device has drawn for a Chalk record (R175, R523). -/
def State.hostOffered (s : State) (n : LaneSent) : State := (s.laneSent n).chalkHost.2

theorem State.chalkHost_cases (s : State) : ∃ b l, s.chalkHost = (b, { s with tape := { s.tape with hostLfsr := l } }) := by
  unfold State.chalkHost
  split
  · exact ⟨_, s.tape.hostLfsr, rfl⟩
  · exact ⟨_, _, rfl⟩
theorem State.Counts.hostOffered (s : State) (n : LaneSent) : State.Counts [] s (s.hostOffered n) := by
  obtain ⟨_, _, e⟩ := (s.laneSent n).chalkHost_cases
  refine (State.Counts.laneSent s n).trans ?_
  rw [State.hostOffered, e]
  exact .of_ctr rfl rfl rfl
theorem State.leadOnly_hostOffered (s : State) (n : LaneSent) : (s.hostOffered n).leadOnly = s.leadOnly := by
  obtain ⟨_, _, e⟩ := (s.laneSent n).chalkHost_cases
  rw [State.hostOffered, e]
  rfl

theorem exec_txFrameOffer (ring : Fin 8192) (m : MendMeet) (s : State) : exec (.txFrameOffer ⟨ring, m⟩) s = .next ((s.laneSent m.lanes).txOffer ring m.err).settle := rfl
theorem exec_hostFrameAdmitRetry (ring : Fin 8192) (s : State) : exec (.hostFrameAdmitRetry ring) s = .next (s.txRetry ring).settle := rfl

section
variable {s : State} {r : Nat} {x : TxFrame} {tl : List TxFrame} (hoffers : s.txOffers r = true) (hheld : (s.ring r).held = none) (hready : (s.ring r).ready = x :: tl)
include hoffers hheld hready

/-- The first frame of a ring that names no generator is offered as it is. -/
theorem State.txOffer_plain (hplain : bit x.desc 157 = false) (n : LaneSent) (e : MendErr) :
    ∃ b, (s.laneSent n).txOffer r e = (s.hostOffered n).txAdmit r x ((s.hostOffered n).txFrame r x (receivedNumber 0 x.data) b) := by
  have hcounts := State.Counts.laneSent s n
  refine ⟨(s.laneSent n).chalkHost.1, ?_⟩
  unfold State.txOffer
  rw [hcounts.txOffers, hcounts.ring, hoffers, hheld, hready]
  dsimp only
  rw [hplain]
  rfl

/-- The first frame of a ring that names a generator is offered with the number that the Mender stage gives it. -/
theorem State.txOffer_numbered (hgen : bit x.desc 157 = true) (n : LaneSent) (e : MendErr) {num : Nat} {u : State}
    (hstage : (s.hostOffered n).stageNumber (bits x.desc 156 139) (.ring r x.first) (receivedNumber 0 x.data) none e = (.inl num, u)) :
    ∃ b, (s.laneSent n).txOffer r e = u.txAdmit r x (u.txFrame r x (some num) b) := by
  have hcounts := State.Counts.laneSent s n
  refine ⟨(s.laneSent n).chalkHost.1, ?_⟩
  unfold State.hostOffered at hstage
  unfold State.txOffer
  rw [hcounts.txOffers, hcounts.ring, hoffers, hheld, hready]
  dsimp only
  rw [hgen, hstage]
  rfl

end

/-- A frame of a ring takes as many cells as its bytes and its FCS need. -/
theorem State.cells_txFrame (s : State) (r : Nat) (x : TxFrame) (num : Option Nat) (b : Bool) : (s.txFrame r x num b).cells = cellsOf (x.data.length + 4) := rfl

section
variable {s : State} (o : s.Overlock) {ring : Fin 8192} {x : TxFrame} {tl : List TxFrame} (hoffers : s.txOffers ring = true) (hready : (s.ring ring).ready = x :: tl)
include o hoffers hready

theorem txFrameOffer_admits (hheld : (s.ring ring).held = none) (hplain : bit x.desc 157 = false) {a : Acct} (m : MendMeet)
    (hadm : s.admitTest (txQueue x.desc) (cellsOf (x.data.length + 4)) 0 false = (.admitted, a)) : ∃ (t : State) (fr : FrameRec), exec (.txFrameOffer ⟨ring, m⟩) s = .next t ∧
      (t.qu (txQueue x.desc)).frames = (s.qu (txQueue x.desc)).frames ++ [fr] ∧ fr.data = x.data ∧ fr.src = .ring ring x.first ∧ (∀ q, q ≠ txQueue x.desc → t.qu q = s.qu q) ∧
      (t.ring ring).ready = tl ∧ (t.ring ring).flying = (s.ring ring).flying ++ [⟨x.first, x.marks.length, bits x.desc 138 137, bits x.desc 136 134, x.barrier⟩] ∧ s.SameFlds t [] ∧ s.SameMem t := by
  have hcounts := State.Counts.hostOffered s m.lanes
  obtain ⟨b, hoffer⟩ := State.txOffer_plain hoffers hheld hready hplain m.lanes m.err
  obtain ⟨⟨f, hframes, hdata, hsrc, -⟩, hother, hring, -, haside⟩ := State.txAdmit_joins (s := s.hostOffered m.lanes) (r := ring) (x := x)
    (fr := (s.hostOffered m.lanes).txFrame ring x (receivedNumber 0 x.data) b) (a := a) (by rw [State.cells_txFrame, hcounts.admitTest]; exact hadm)
  refine ⟨_, f, by rw [exec_txFrameOffer, hoffer], ?_, hdata, hsrc, fun q hq => ?_, ?_, ?_, (hcounts.aside.trans haside).settled o⟩
  · rw [State.qu_settle, hframes, hcounts.qu]
  · rw [State.qu_settle, hother q hq, hcounts.qu]
  · rw [State.ring_settle, hring, RingSt.flown, hcounts.ring, hready]
    rfl
  · rw [State.ring_settle, hring, RingSt.flown, hcounts.ring]

theorem txFrameOffer_holds (hheld : (s.ring ring).held = none) (hplain : bit x.desc 157 = false) {a : Acct} {why : Adm} (m : MendMeet) (hwhy : why ∈ [.queueLimit, .threshold, .precedence])
    (hadm : s.admitTest (txQueue x.desc) (cellsOf (x.data.length + 4)) 0 false = (why, a)) : ∃ (t : State) (fr : FrameRec), exec (.txFrameOffer ⟨ring, m⟩) s = .next t ∧
      (t.ring ring).held = some fr ∧ fr.data = x.data ∧ (t.ring ring).ready = x :: tl ∧ t.queue = s.queue ∧ s.SameFlds t [] ∧ s.SameMem t := by
  have hcounts := State.Counts.hostOffered s m.lanes
  obtain ⟨b, hoffer⟩ := State.txOffer_plain hoffers hheld hready hplain m.lanes m.err
  have hhold := State.txAdmit_held (s := s.hostOffered m.lanes) (r := ring) (x := x) (fr := (s.hostOffered m.lanes).txFrame ring x (receivedNumber 0 x.data) b) hwhy
    (by rw [State.cells_txFrame, hcounts.admitTest]; exact hadm)
  refine ⟨_, (s.hostOffered m.lanes).txFrame ring x (receivedNumber 0 x.data) b, by rw [exec_txFrameOffer, hoffer, hhold], ?_, rfl, ?_, ?_, (hcounts.aside.trans (State.aside_setRing ..)).settled o⟩
  · rw [State.ring_settle, State.ring_setRing]
  · rw [State.ring_settle, State.ring_setRing, hcounts.ring]
    exact hready
  · rw [State.settle_queue]
    exact hcounts.queue

/-- A held frame goes when it is admitted (R190). -/
theorem hostFrameAdmitRetry_admits {f : FrameRec} (hheld : (s.ring ring).held = some f) {a : Acct} (hadm : s.admitTest (txQueue x.desc) f.cells 0 false = (.admitted, a)) :
    ∃ (t : State) (fr : FrameRec), exec (.hostFrameAdmitRetry ring) s = .next t ∧ (t.qu (txQueue x.desc)).frames = (s.qu (txQueue x.desc)).frames ++ [fr] ∧ fr.data = f.data ∧
      (t.ring ring).held = none ∧ (t.ring ring).ready = tl ∧ s.SameFlds t [] ∧ s.SameMem t := by
  have hretry : s.txRetry ring = s.txAdmit ring x f := by
    unfold State.txRetry
    rw [hoffers, hheld, hready]
  obtain ⟨⟨fr, hframes, hdata, -, -⟩, -, hring, -, haside⟩ := State.txAdmit_joins (r := ring) hadm
  refine ⟨_, fr, by rw [exec_hostFrameAdmitRetry, hretry], by rw [State.qu_settle, hframes], hdata, ?_, ?_, haside.settled o⟩
  · rw [State.ring_settle, hring]
    rfl
  · rw [State.ring_settle, hring, RingSt.flown, hready]
    rfl

end

/-! ## Frames numbered at the Mender stage (R147, R157, R175) -/

/-- A running Mender numbers a frame by a free-running generator that is not Lead-only: its number, and the next one for the frame after it. -/
theorem State.stageNumber_of {s : State} {i : Nat} (hrun : s.on .MEND_CTRL_RUN = true) (hlead : (1, i) ∉ s.leadOnly) (hbad : (s.gen i).bad = false) (hen : (s.gen i).en = true)
    (hmode : (s.gen i).mode = 0) (src : FrameSrc) (received : Option Nat) : s.stageNumber i src received none .none = (.inl (s.gen i).seq, s.setGen i ((s.gen i).setSeq ((s.gen i).seq + 1))) := by
  have hcontains : s.leadOnly.contains (1, i) = false := by simpa using hlead
  have hnumber : s.genNumber i received none = (.inl (s.gen i).seq, s.setGen i ((s.gen i).setSeq ((s.gen i).seq + 1))) := by
    unfold State.genNumber
    dsimp only
    rw [hbad, hen, hmode]
    rfl
  unfold State.stageNumber
  dsimp only
  rw [hcontains, hrun, if_neg (show ¬MendErr.none = .corrected by decide), if_neg (show ¬MendErr.none = .generator by decide), hnumber]
  rfl

section
variable (s : State) (i : Nat) (x : Gen)

theorem State.ring_setGen (r : Nat) : (s.setGen i x).ring r = s.ring r := rfl
theorem State.qu_setGen (q : Nat) : (s.setGen i x).qu q = s.qu q := rfl
theorem State.admitTest_setGen (q c d : Nat) (service : Bool) : (s.setGen i x).admitTest q c d service = s.admitTest q c d service := rfl

end

theorem txFrameOffer_numbers {s : State} (o : s.Overlock) {ring : Fin 8192} {x : TxFrame} {tl : List TxFrame} {a : Acct} (lanes : LaneSent) (hoffers : s.txOffers ring = true)
    (hheld : (s.ring ring).held = none) (hready : (s.ring ring).ready = x :: tl) (hgen : bit x.desc 157 = true) (hrun : s.on .MEND_CTRL_RUN = true) (hlead : (1, bits x.desc 156 139) ∉ s.leadOnly)
    (hbad : (s.gen (bits x.desc 156 139)).bad = false) (hen : (s.gen (bits x.desc 156 139)).en = true) (hmode : (s.gen (bits x.desc 156 139)).mode = 0)
    (hadm : s.admitTest (txQueue x.desc) (cellsOf (x.data.length + 4)) 0 false = (.admitted, a)) : ∃ (t : State) (fr : FrameRec),
      exec (.txFrameOffer ⟨ring, ⟨.none, lanes⟩⟩) s = .next t ∧ (t.qu (txQueue x.desc)).frames = (s.qu (txQueue x.desc)).frames ++ [fr] ∧ fr.data = x.data ∧
      fr.edit.num = some (s.gen (bits x.desc 156 139)).seq ∧ (t.gen (bits x.desc 156 139)).seq = ((s.gen (bits x.desc 156 139)).seq + 1) % 2 ^ 16 ∧
      (t.ring ring).ready = tl ∧ s.SameFlds t [] ∧ s.SameMem t := by
  have hcounts := State.Counts.hostOffered s lanes
  have hgenIs : (s.hostOffered lanes).gen (bits x.desc 156 139) = s.gen (bits x.desc 156 139) := by unfold State.gen; rw [hcounts.mend]
  have hstage := State.stageNumber_of (s := s.hostOffered lanes) (i := bits x.desc 156 139) (by rw [hcounts.on _ (Fl.not_shared (by decide))]; exact hrun) (by rw [State.leadOnly_hostOffered]; exact hlead)
    (by rw [hgenIs]; exact hbad) (by rw [hgenIs]; exact hen) (by rw [hgenIs]; exact hmode) (.ring ring x.first) (receivedNumber 0 x.data)
  rw [hgenIs] at hstage
  generalize hu : (s.hostOffered lanes).setGen (bits x.desc 156 139) ((s.gen (bits x.desc 156 139)).setSeq ((s.gen (bits x.desc 156 139)).seq + 1)) = u at hstage
  obtain ⟨b, hoffer⟩ := State.txOffer_numbered hoffers hheld hready hgen lanes .none hstage
  have hring : u.ring ring = s.ring ring := by rw [← hu, State.ring_setGen, hcounts.ring]
  have hqu : u.qu (txQueue x.desc) = s.qu (txQueue x.desc) := by rw [← hu, State.qu_setGen, hcounts.qu]
  have hadm' : u.admitTest (txQueue x.desc) (cellsOf (x.data.length + 4)) 0 false = (.admitted, a) := by
    rw [← hu, State.admitTest_setGen, hcounts.admitTest, hadm]
  have hnoted : s.Aside u := by
    rw [← hu]
    exact hcounts.aside.trans (State.mendOnly_setGen ..).aside
  have hseq : (u.gen (bits x.desc 156 139)).seq = ((s.gen (bits x.desc 156 139)).seq + 1) % 2 ^ 16 := by rw [← hu, State.gen_setGen_same, Gen.seq_setSeq]
  obtain ⟨⟨f, hframes, hdata, -, hedit⟩, -, hflown, hmend, haside⟩ := State.txAdmit_joins (s := u) (r := ring) (x := x) (fr := u.txFrame ring x (some (s.gen (bits x.desc 156 139)).seq) b) (a := a) hadm'
  refine ⟨_, f, by rw [exec_txFrameOffer, hoffer], by rw [State.qu_settle, hframes, hqu], hdata, by rw [hedit]; rfl, ?_, ?_, (hnoted.trans haside).settled o⟩
  · rw [State.gen_settle, State.gen, hmend]
    exact hseq
  · rw [State.ring_settle, hflown, RingSt.flown, hring, hready]
    rfl

/-! ## The obligation -/

/-- Settles O37: a descriptor that ends its frame and one that does not, the first frame of a ring admitted and held, a held frame tried again, and a frame numbered by its generator, one lemma each. -/
theorem hostTransmitFrames : Obligations.HostTransmitFrames := by
  intro s ring o
  exact ⟨fun d data hmay hnone hgood hend => txDescriptorFetch_ends o data hmay hnone hgood hend, fun d data hmay hnone hgood hend => txDescriptorFetch_opens o data hmay hnone hgood hend,
    fun x tl a m hoffers hheld hready hplain hadm => txFrameOffer_admits o hoffers hready hheld hplain m hadm,
    fun x tl a why m hoffers hheld hready hplain hwhy hadm => txFrameOffer_holds o hoffers hready hheld hplain m hwhy hadm,
    fun x tl f a hoffers hheld hready hadm => hostFrameAdmitRetry_admits o hoffers hready hheld hadm,
    fun x tl a lanes hoffers hheld hready hgen hrun hlead hbad hen hmode hadm => txFrameOffer_numbers o lanes hoffers hheld hready hgen hrun hlead hbad hen hmode hadm⟩

end Sys2Proof.Machine
end
